-- ==== Sys2Proof/Word.lean ====
section
/-! DEFINITION. Word.lean: the word types of the Itanium 2 model and the value types of its register files
(`spec/00_scope.md` R10, `spec/10_state.md` R22, R27). Nothing here says what an instruction does. -/

namespace Sys2Proof

/-- A 64-bit register value or virtual address (R10, R11). -/
abbrev Word := BitVec 64

/-- One byte. -/
abbrev Byte := BitVec 8

/-- A general register: 64 bits and its NaT bit (R22). -/
structure GReg where
  val : Word
  nat : Bool
  deriving DecidableEq, Repr, Inhabited

/-- A floating-point register in register format: sign (bit 81), 17-bit biased exponent (bits 80:64), 64-bit
significand with its explicit integer bit (bits 63:0) (R27). -/
structure FReg where
  sign : Bool
  exp  : BitVec 17
  sig  : Word
  deriving DecidableEq, Repr, Inhabited

/-- The general register holding 0 with NaT clear. -/
def GReg.zero : GReg := { val := 0, nat := false }

/-- A general register value with NaT clear. -/
def GReg.ofWord (v : Word) : GReg := { val := v, nat := false }

/-- +0.0, the constant FR[0] (R27, R502). -/
def FReg.zero : FReg := { sign := false, exp := 0, sig := 0 }

/-- +1.0, the constant FR[1] (R27, R502). -/
def FReg.one : FReg := { sign := false, exp := 0xFFFF, sig := 0x8000000000000000 }

/-- NaTVal, the deferred-exception token of a floating-point register (R27, R502). -/
def FReg.natVal : FReg := { sign := false, exp := 0x1FFFE, sig := 0 }

/-- The quiet NaN an invalid operation delivers, QNaN Indefinite (R502). -/
def FReg.qnanIndefinite : FReg := { sign := true, exp := 0x1FFFF, sig := 0xC000000000000000 }

/-- A 64-bit integer, or two packed single-precision halves, held in a significand: sign 0, exponent 0x1003E
(R392, R502, R506). -/
def FReg.ofSig (m : Word) : FReg := { sign := false, exp := 0x1003E, sig := m }

end Sys2Proof
end

