-- ==== Sys2Proof/Config.lean ====
section
/-! DEFINITION. Config.lean: what one Itanium 2 part fixes (parameters of `spec/92_eei_decisions.md`), and the FREE
VALUES: opaque constants without a body, so that nothing can be proved of the value they give. -/

namespace Sys2Proof.Config

/-- FREE VALUE (log 4). `freeBits n site` is the unconstrained 64-bit value used at the place numbered `site` while the
counter `State.freeCtr` is `n`. It stands for every "any value", "undefined" and "non-deterministic" of
`spec/93_implementation_defined.md` part 1. -/
opaque freeBits (n site : Nat) : Word

/-- One free bit (log 4). -/
def freeBool (n site : Nat) : Bool := (freeBits n site).getLsbD 0

/-- One free natural number below `bound` (0 when the bound is 0) (log 4). -/
def freeBelow (n site bound : Nat) : Nat := (freeBits n site).toNat % bound

/-- FREE VALUE (log 38). Parameter `GEN` of R4 as CPUID[3].model: an unconstrained value; R4 allows 0, 1 and 2. -/
opaque genChoice : Nat

/-- CPUID[3].model: 0, 1 or 2 (R52). -/
def cpuidModel : BitVec 8 := BitVec.ofNat 8 (genChoice % 3)

/-- FREE VALUE (log 38). CPUID[3].revision, "please see the Itanium 2 processor specification" (R52). -/
opaque cpuidRevision : BitVec 8

/-- FREE VALUE (log 38). CPUID[4].sd, whose value the source does not print (R52, U21). -/
opaque cpuidSd : Bool

/-- CPUID[0], the low half of the vendor name "GenuineIntel" (R52; PRESUMED, log 38). -/
def cpuidVendor0 : Word := 0x49656E69756E6547

/-- CPUID[1], the high half of the vendor name (R52; PRESUMED, log 38). -/
def cpuidVendor1 : Word := 0x000000006C65746E

/-- The five CPUID registers (R52; `ao` = 0 by D6, `lb` = 1). The reserved bits 63:3 of CPUID[4], of which the spec prints no value, read 0
(DESIGN CHOICE, log 38). -/
def cpuid (i : Nat) : Word :=
  match i with
  | 0 => cpuidVendor0
  | 1 => cpuidVendor1
  | 2 => 0
  | 3 => BitVec.setWidth 64 (0x00#8 ++ 0x1f#8 ++ cpuidModel ++ cpuidRevision ++ 0x04#8)
  | _ => 1 ||| (if cpuidSd then 2 else 0)

/-- FREE FUNCTION (log 14). The place of the VHPT entry for a virtual address, a region register and CR[PTA], taken modulo the size of the
table (`Machine.State.vhptAddr`): an uninterpreted function, the same one `thash`, the walker and CR[IHA] use (R160, R488, D15). -/
opaque vhptHash (va rr pta : Word) : Word

/-- FREE FUNCTION (log 14). The VHPT tag of a virtual address in a region (R488, D15). -/
opaque vhptTag (va : Word) (rid : BitVec 24) : Word

/-- FREE FUNCTION (log 13). What the hardware page walker makes of the bytes of a VHPT entry, for the tag of the address, its
region register and CR[PTA]: `none` when the entry is not good, else a translation in the layout of an insert's GR[r2] and
CR[ITIR] (R160, R568). The spec gives no entry format (N52). -/
opaque vhptEntry (bytes : BitVec 256) (tag rr pta : Word) : Option (Word × Word)

/-- FREE FUNCTION (log 26). The reciprocal approximation table of `frcpa` (R510, D25). -/
opaque recipApprox (b : FReg) : FReg

/-- FREE FUNCTION (log 26). The reciprocal square root approximation table of `frsqrta` (R510, D25). -/
opaque rsqrtApprox (b : FReg) : FReg

/-- FREE FUNCTION (log 26). The single-precision half of `fprcpa` for a 32-bit operand (R510, D25). -/
opaque recipApproxSingle (b : BitVec 32) : BitVec 32

/-- FREE FUNCTION (log 26). The single-precision half of `fprsqrta` for a 32-bit operand (R510, D25). -/
opaque rsqrtApproxSingle (b : BitVec 32) : BitVec 32

/-- FREE FUNCTION (log 27). Whether a pair of finite non-zero operands lies outside the exponent range in which the
software iteration after `frcpa` is safe; the range is not in the spec (R510). -/
opaque recipOutOfRange (a b : FReg) : Bool

/-- FREE FUNCTION (log 27). The same for the operand of `frsqrta` (R510). -/
opaque rsqrtOutOfRange (b : FReg) : Bool

/-- FREE FUNCTION (log 27). The same for the single-precision halves of `fprcpa` (R510). -/
opaque recipOutOfRangeSingle (a b : BitVec 32) : Bool

/-- FREE FUNCTION (log 27). The same for the single-precision halves of `fprsqrta` (R510). -/
opaque rsqrtOutOfRangeSingle (b : BitVec 32) : Bool

/-- FREE VALUE (log 44). Whether `mf.a` flushes the write-coalescing buffer as `mf` does: R451 lets it equal `mf` in a model of one
processor without devices, R122 says that it does not flush, and the spec names no choice between them. -/
opaque mfAFlushes : Bool

/-- What a byte of memory that nothing has written reads as (DESIGN CHOICE, log 3). -/
def unwrittenByte : Byte := 0

/-- Parameter `RESET_IP` (D21; DESIGN CHOICE, log 2). -/
def resetIp : Word := 0

/-- Physical address width (R80). -/
def paBits : Nat := 50

/-- Physical stacked general registers (R22, R24). -/
def numStacked : Nat := 96

/-- ALAT entries (R90). -/
def alatSize : Nat := 32

/-- Entries of each L2 TLB, translation registers included (R154, R156). -/
def tlbSize : Nat := 128

end Sys2Proof.Config
end

