-- ==== Sys2Proof/Machine/State.lean ====
section
/-! DEFINITION. Machine/State.lean: everything the spec gives one Itanium 2 processor (`spec/10_state.md` R20 to R64),
as plain data, the reasons a step can stop, and the machine right after reset (`spec/70_reset_and_hazards.md` R900). -/

namespace Sys2Proof.Machine

/-- Why the machine stops. Every interruption the spec describes is TAKEN (a next state); these are the conditions
whose handling the spec does not give. -/
inductive Fault where
  /-- Raised by `itc.d`, `itc.i`, `itr.d`, `itr.i` when the new translation overlaps a translation register: the spec
  calls it a Machine Check (R485) and does not model its delivery (R595). Safe: the model stops. -/
  | machineCheckOverlap
  /-- Raised by any translation that finds more than one matching entry: a Machine Check condition (R159, R595). Safe:
  the model stops. -/
  | machineCheckMultipleHit
  deriving DecidableEq, Repr

/-- Why the model gives a step no meaning. -/
inductive Refusal where
  /-- Raised by the arms of `exec` for an instruction not yet modelled. Safe: the model stops. -/
  | notModelled (mnemonic : String)
  /-- Raised by `step` on a slot whose encoding the spec gives no bit pattern for (D22). Safe: the model stops. -/
  | noEncodingPattern
  /-- Raised by `br.ia`, by `rfi` with IPSR.is = 1 and by `step` with PSR.is = 1: IA-32 execution is not defined by the
  spec (R7 (b), R63, D22). Safe: the model stops. -/
  | ia32Execution
  /-- Raised by `step` when PSR.ri = 3, which names no slot (R34; log 39). Safe: the model stops. -/
  | reservedRestartSlot
  deriving DecidableEq, Repr

/-- The registers an instruction group reads as they were before the group (R330, R911 (a)). -/
structure Regs where
  /-- GR[0] to GR[15]; entry 0 is never written. -/
  stat     : Vector GReg 16
  /-- GR[16] to GR[31] of bank 0. -/
  bank0    : Vector GReg 16
  /-- GR[16] to GR[31] of bank 1. -/
  bank1    : Vector GReg 16
  /-- The 96 physical stacked registers. -/
  stacked  : Vector GReg 96
  /-- FR[0] to FR[127] by physical number; entries 0 and 1 are never written. -/
  fr       : Vector FReg 128
  /-- PR[0] to PR[63] by physical number; bit 0 is never cleared. -/
  pr       : Word
  br       : Vector Word 8
  kr       : Vector Word 8
  rsc      : Word
  bsp      : Word
  bspstore : Word
  rnat     : Word
  /-- AR21 and AR24 to AR30: IA-32 state containers (R28). -/
  ia32     : Vector Word 8
  ccv      : Word
  unat     : Word
  fpsr     : Word
  pfs      : Word
  lc       : Word
  ec       : BitVec 6
  deriving DecidableEq, Repr

/-- The control registers (R36 to R42). -/
structure CtrlRegs where
  dcr  : Word
  itm  : Word
  iva  : Word
  pta  : Word
  /-- `cr.gpta`: a container the source names without number or function (R36, U6). -/
  gpta : Word
  ipsr : Word
  isr  : Word
  iip  : Word
  ifa  : Word
  itir : Word
  iipa : Word
  ifs  : Word
  iim  : Word
  iha  : Word
  lid  : Word
  tpr  : Word
  /-- IRR0 to IRR3: bit `v` set while vector `v` is pending (R42). -/
  irr  : BitVec 256
  /-- Vectors in service, moved here by a read of IVR and removed by a write of EOI (R42, R577). -/
  insvc : BitVec 256
  itv  : Word
  pmv  : Word
  cmcv : Word
  lrr0 : Word
  lrr1 : Word
  deriving DecidableEq, Repr

/-- Memory attributes of a translation (R81, R152). -/
inductive MemAttr where
  | wb | uc | uce | wc | natPage
  deriving DecidableEq, Repr

/-- One translation (R152). `va` and `pa` hold the page's base (low `ps` bits zero). -/
structure TlbEntry where
  rid : BitVec 24
  va  : BitVec 61
  ps  : BitVec 6
  pa  : BitVec 50
  p   : Bool
  ma  : MemAttr
  a   : Bool
  d   : Bool
  pl  : BitVec 2
  ar  : BitVec 3
  key : BitVec 24
  ed  : Bool
  deriving DecidableEq, Repr

/-- The register an ALAT entry belongs to: a physical general or floating-point register (R90). General registers are
numbered 0 to 15 static, 16 to 31 bank 0, 32 to 47 bank 1, 48 to 143 stacked. The 7 bits of R90 are too few for both banks of GR16 to GR31
beside the stacked registers, and the rule does not say how they are told apart: here both have their own numbers (DESIGN CHOICE, log 9). -/
inductive AlatReg where
  | gr (phys : Nat)
  | fr (phys : Nat)
  deriving DecidableEq, Repr

/-- A valid ALAT entry (R90). -/
structure AlatEntry where
  reg  : AlatReg
  pa20 : BitVec 20
  size : Nat
  deriving DecidableEq, Repr

/-- A write-coalescing buffer entry: a 128-byte line and the bytes with their valid bit set, as (offset, byte) pairs
with rising offsets (R121). -/
structure WcbEntry where
  line  : Nat
  bytes : List Host.Cell
  deriving DecidableEq, Repr

/-- A store that instruction fetch may not see yet: the address of its first byte, the bytes it overwrote, and how far the
sequence `fc` (1), `sync.i` (2) has gone for it (R140). -/
structure StaleStore where
  addr  : Nat
  old   : List Byte
  stage : Nat
  deriving DecidableEq, Repr

/-- Whether PAL has enabled early deferral (R101, R108). -/
inductive Deferral where
  | lateOnly | earlyEnabled
  deriving DecidableEq, Repr

/-- A register that this group has written, for the WAW rule of R911; general registers are numbered as in `AlatReg`. `part n k` is
one part of application register `n` that instructions write alone: a bit `k` of AR[UNAT], or of AR[FPSR] the controls (`k` = 0 to 3)
or the flags (`k` = 4 to 7) of a status field. `um k` is bit `k` of the user mask, PSR[5:1]. -/
inductive WrittenReg where
  | gr (phys : Nat)
  | fr (phys : Nat)
  | br (n : Nat)
  | ar (n : Nat)
  | part (n k : Nat)
  | um (k : Nat)
  deriving DecidableEq, Repr

/-- How an instruction writes a register, for the WAW rules R285, R911 and D36: by its operation, with the data it loads, by the
base update of a memory instruction, by setting flags that are sticky, or the user mask as a part of PSR. -/
inductive WriteKind where
  | alu | load | update | sticky | system
  deriving DecidableEq, Repr

/-- Who makes a memory reference (R750, R834): an instruction, the RSE, the RSE for an `rfi`, the page walker. -/
inductive RefOrigin where
  | instr | rse | rseRfi | walk
  deriving DecidableEq, Repr

/-- Who serviced a TLB miss, in the order of the EARs' codes 1 to 3: the second-level TLB, the page walker, a fault (R669, R673). -/
inductive MissService where
  | l2 | vhpt | fault
  deriving DecidableEq, Repr

/-- The instruction of an RSE event, as far as R833 tells them apart. -/
inductive RseCause where
  | flush | callReturn | other
  deriving DecidableEq, Repr

/-- What a step adds to the PMU's retirement events (`spec/62_pmu_events_basic_to_l1.md` R726 (a)) and to what the EARs and the
trace buffer see. -/
inductive PmuEvent where
  /-- The instruction completed. -/
  | retired
  /-- Its qualifying predicate was 0 (R754). -/
  | squashed
  | nop
  /-- A load or store: who makes it, misaligned or not, of an uncacheable page or not (R750 to R757, R834). -/
  | load (va : Word) (by_ : RefOrigin) (mis uc : Bool)
  | store (va : Word) (by_ : RefOrigin) (mis uc : Bool)
  /-- A TLB miss: of a fetch or of data, its address, who serviced it, and whether it is of the instruction of the step (R669, R673,
  R860). -/
  | tlbMiss (fetch : Bool) (va : Word) (by_ : MissService) (own : Bool)
  /-- An RSE event: of which instruction, with the current and the dirty registers before it (R831 to R833). -/
  | rseEvent (by_ : RseCause) (current dirty : Nat)
  /-- `chk.a` or `ld.c`: of a floating-point register or not, failing or not, the address of an `ld.c` (R747, R748). -/
  | chkaLdc (fp failed : Bool) (va : Option Word)
  /-- A failing `chk.s` (R749). -/
  | chksFailed (fp : Bool)
  | fchkfFailed
  | flushToZero
  | fpOps (n : Nat)
  | serialize
  | cplChange
  | dataDebugFault
  /-- A branch: taken or not, its type (0 other, 1 IP-relative, 2 return, 3 non-return indirect), its target (R783). -/
  | branch (taken : Bool) (kind : Nat) (target : Word)
  /-- A faulting `br.ia`, `break.b` or multi-way branch, with its type (R685). -/
  | branchFault (kind : Nat)
  /-- The instruction completed with a trap (R685). -/
  | trapped
  deriving DecidableEq, Repr

/-- A trace buffer entry that waits for the next clock: the target or the prediction detail of a captured branch, the bundle
whose branches may take its place, and the clocks passed since (R685). -/
structure BtbPending where
  entry  : Word
  bundle : Word
  clocks : Nat
  deriving DecidableEq, Repr

/-- What the branches retired so far of the bundle being executed came to: one was predicted taken (R780), one had a path
misprediction, one was taken, one is let through by the tag of the monitors (R781); and whether the trace buffer's last entry was written
for one of them in the clock in progress (R685). -/
structure BundleBranches where
  predTaken : Bool
  pathBad   : Bool
  taken     : Bool
  tagged    : Bool
  entered   : Bool
  deriving DecidableEq, Repr

/-- The whole machine. -/
structure State where
  /-- The newest register values. -/
  cur : Regs
  /-- The register values before the current instruction group. -/
  old : Regs
  /-- The current frame marker, 38 bits (R23). -/
  cfm : BitVec 38
  /-- The physical stacked register that holds GR[32] of the current frame (R445). -/
  bof : Nat
  /-- Clean stacked registers: below the dirty ones, still equal to their backing store (R445). -/
  nclean : Nat
  /-- The address of the bundle being executed (R21). -/
  ip : Word
  psr : Word
  /-- The user mask PSR[5:0] in force for the current group (R467). -/
  umGroup : BitVec 6
  cr : CtrlRegs
  /-- AR[ITC] (R33). -/
  itc : Word
  /-- The bundle of the last instruction that completed, what IIPA takes (R584). -/
  lastBundle : Word
  rr  : Vector Word 8
  pkr : Vector Word 16
  ibr : Vector Word 8
  dbr : Vector Word 8
  pmc : Vector Word 16
  pmd : Vector Word 18
  /-- Instruction and data translation registers (R154, R156). -/
  itr : Vector (Option TlbEntry) 64
  dtr : Vector (Option TlbEntry) 64
  /-- Instruction and data translation caches (R154, R156). -/
  itcache : List TlbEntry
  dtcache : List TlbEntry
  /-- The first-level instruction TLB: at most 32 segments of 4 KB, the most recently used first (R151). -/
  l1itlb : List TlbEntry
  /-- The first-level data TLB: at most 32 segments of 4 KB of translations of the second level (R155, R860). -/
  l1dtlb : List TlbEntry
  /-- Memory: the physical bytes that differ from `Config.unwrittenByte`, addresses rising (R80). -/
  mem : List Host.Cell
  /-- The valid ALAT entries, at most 32 (R90). -/
  alat : List AlatEntry
  /-- The allocated write-coalescing buffer entries, oldest first, at most two (R121). -/
  wcb : List WcbEntry
  /-- Stores instruction fetch may not see yet, newest first (R140). -/
  stale : List StaleStore
  deferral : Deferral
  /-- The next instruction is the first of its instruction group (R577). -/
  groupStart : Bool
  /-- Registers written in this group and how (R285, R911). -/
  grpWrites : List (WrittenReg × WriteKind)
  /-- Predicates written in this group by ordinary instructions, by `and`-type and by `or`-type compares (R911). -/
  grpPrAlu : Word
  grpPrAnd : Word
  grpPrOr  : Word
  /-- Predicates written in this group by a compare or a `tbit` or `tnat`, whose new values branches read (R521, R911 (a)). -/
  grpPrCmp : Word
  /-- ALAT sets, checks and invalidations of this group (R96, R97). -/
  grpAlatSets : List AlatReg
  grpAlatChecks : List AlatReg
  grpAlatInval : List AlatReg
  grpAlatInvalAll : Bool
  /-- Retirement events of the step in progress. -/
  events : List PmuEvent
  /-- Retirement events of the clock cycle in progress (R636). -/
  clkEvents : List PmuEvent
  /-- What the events selected by PMC4 to PMC7 have come to in the clock cycle in progress (R635, R636). -/
  clkVals : Vector Nat 4
  /-- PMC0.fr as the clock cycle in progress began, or as it was written in it (R636, R641). -/
  clkFr : Bool
  /-- The branches of the bundle being executed that have retired (R780, R781). -/
  brBundle : Option BundleBranches
  /-- The trace buffer entry still to be written (R685). -/
  btbPend : Option BtbPending
  /-- Lines that `fc` has flushed and whose BIL transaction the bus has not yet carried (R870, R141). -/
  bilDue : Nat
  /-- Clocks in which the data EAR captures no further cache miss (R672). -/
  earWait : Nat
  /-- The counter the free values of Config are applied to (log 4). -/
  freeCtr : Nat
  deriving DecidableEq, Repr

/-- The registers at reset: R900, third column (log 1). -/
def Regs.reset : Regs :=
  { stat := Vector.replicate 16 GReg.zero, bank0 := Vector.replicate 16 GReg.zero,
    bank1 := Vector.replicate 16 GReg.zero, stacked := Vector.replicate 96 GReg.zero,
    fr := (Vector.replicate 128 FReg.zero).set 1 FReg.one, pr := 1, br := Vector.replicate 8 0,
    kr := Vector.replicate 8 0, rsc := 0, bsp := 0, bspstore := 0, rnat := 0, ia32 := Vector.replicate 8 0, ccv := 0,
    unat := 0, fpsr := 0x0009804C0270033F, pfs := 0, lc := 0, ec := 0 }

/-- The control registers at reset: `TPR.mmi`, `ITV.m`, `PMV.m`, `CMCV.m`, `LRR0.m`, `LRR1.m` set, the rest 0 (R900). -/
def CtrlRegs.reset : CtrlRegs :=
  { dcr := 0, itm := 0, iva := 0, pta := 0, gpta := 0, ipsr := 0, isr := 0, iip := 0, ifa := 0, itir := 0, iipa := 0,
    ifs := 0, iim := 0, iha := 0, lid := 0, tpr := 0x10000, irr := 0, insvc := 0, itv := 0x10000, pmv := 0x10000,
    cmcv := 0x10000, lrr0 := 0x10000, lrr1 := 0x10000 }

/-- PMC0 to PMC15 at reset (R900, R902). -/
def pmcReset : Vector Word 16 :=
  #v[1, 0, 0, 0, 0x800000, 0, 0, 0, 0xF00000003FFFFFFC, 0xF00000003FFFFFFC, 0, 0, 0, 0x2078fefefefe, 0xdb6, 0xfffffff0]

/-- The machine right after reset (R900 to R903, R905; log 1, log 2). -/
def State.reset : State :=
  { cur := Regs.reset, old := Regs.reset, cfm := 0, bof := 0, nclean := 0, ip := Config.resetIp,
    psr := 0x0000100000000000, umGroup := 0, cr := CtrlRegs.reset, itc := 0, lastBundle := 0,
    rr := Vector.replicate 8 0, pkr := Vector.replicate 16 0, ibr := Vector.replicate 8 0, dbr := Vector.replicate 8 0,
    pmc := pmcReset, pmd := Vector.replicate 18 0, itr := Vector.replicate 64 none, dtr := Vector.replicate 64 none,
    itcache := [], dtcache := [], l1itlb := [], l1dtlb := [], mem := [], alat := [], wcb := [], stale := [], deferral := .lateOnly,
    groupStart := true, grpWrites := [], grpPrAlu := 0, grpPrAnd := 0, grpPrOr := 0, grpPrCmp := 0, grpAlatSets := [],
    grpAlatChecks := [], grpAlatInval := [], grpAlatInvalAll := false, events := [], clkEvents := [],
    clkVals := Vector.replicate 4 0, clkFr := true, brBundle := none, btbPend := none, bilDue := 0, earWait := 0, freeCtr := 0 }

end Sys2Proof.Machine
end

