-- ==== Sys2Proof/Machine/Fields.lean ====
section
/-! DEFINITION. Machine/Fields.lean: the bit fields of the registers the spec lays out (PSR R34, CFM R23, RSC R29,
FPSR R31, PFS R32, DCR R37, ISR `spec/60_exceptions.md` R576) and the helpers that read and write them. -/

namespace Sys2Proof.Machine

/-- Bit `i` of a word (R10). -/
def bit (w : BitVec n) (i : Nat) : Bool := w.getLsbD i

/-- `w` with the `k`-bit field starting at bit `i` replaced by `v` (R10). -/
def putField (w : BitVec n) (i : Nat) (v : BitVec k) : BitVec n :=
  (w &&& ~~~ ((BitVec.allOnes k).setWidth n <<< i)) ||| (v.setWidth n <<< i)

/-- `w` with bit `i` set to `v` (R10). -/
def putBit (w : BitVec n) (i : Nat) (v : Bool) : BitVec n := putField w i (BitVec.ofBool v)

/-- Sign-extend an `n`-bit value to 64 bits (R11). -/
def sext (v : BitVec n) : Word := v.signExtend 64

/-- Zero-extend a value to 64 bits (R11). -/
def zext (v : BitVec n) : Word := v.setWidth 64

/-- PSR.be, big-endian data (R34). -/
def State.psrBit (s : State) (i : Nat) : Bool := s.psr.getLsbD i

/-- PSR.ic (R34). -/
def State.psrIc (s : State) : Bool := s.psr.getLsbD 13
/-- PSR.i (R34). -/
def State.psrI (s : State) : Bool := s.psr.getLsbD 14
/-- PSR.pk (R34). -/
def State.psrPk (s : State) : Bool := s.psr.getLsbD 15
/-- PSR.dt (R34). -/
def State.psrDt (s : State) : Bool := s.psr.getLsbD 17
/-- PSR.dfl (R34). -/
def State.psrDfl (s : State) : Bool := s.psr.getLsbD 18
/-- PSR.dfh (R34). -/
def State.psrDfh (s : State) : Bool := s.psr.getLsbD 19
/-- PSR.sp (R34, R35). -/
def State.psrSp (s : State) : Bool := s.psr.getLsbD 20
/-- PSR.pp (R34, R35). -/
def State.psrPp (s : State) : Bool := s.psr.getLsbD 21
/-- PSR.di (R34). -/
def State.psrDi (s : State) : Bool := s.psr.getLsbD 22
/-- PSR.si (R34). -/
def State.psrSi (s : State) : Bool := s.psr.getLsbD 23
/-- PSR.db (R34, R35). -/
def State.psrDb (s : State) : Bool := s.psr.getLsbD 24
/-- PSR.lp (R34). -/
def State.psrLp (s : State) : Bool := s.psr.getLsbD 25
/-- PSR.tb (R34, R35). -/
def State.psrTb (s : State) : Bool := s.psr.getLsbD 26
/-- PSR.rt (R34). -/
def State.psrRt (s : State) : Bool := s.psr.getLsbD 27
/-- PSR.cpl, bits 33:32 (R34, R35). -/
def State.cpl (s : State) : BitVec 2 := s.psr.extractLsb' 32 2
/-- PSR.is (R34, R35). -/
def State.psrIs (s : State) : Bool := s.psr.getLsbD 34
/-- PSR.it (R34, R35). -/
def State.psrIt (s : State) : Bool := s.psr.getLsbD 36
/-- PSR.id (R34). -/
def State.psrId (s : State) : Bool := s.psr.getLsbD 37
/-- PSR.dd (R34). -/
def State.psrDd (s : State) : Bool := s.psr.getLsbD 39
/-- PSR.ss (R34, R35). -/
def State.psrSs (s : State) : Bool := s.psr.getLsbD 40
/-- PSR.ri, the slot to execute, bits 42:41 (R34). -/
def State.ri (s : State) : BitVec 2 := s.psr.extractLsb' 41 2
/-- PSR.ed (R34). -/
def State.psrEd (s : State) : Bool := s.psr.getLsbD 43
/-- PSR.bn, the visible bank of GR[16] to GR[31] (R34). -/
def State.psrBn (s : State) : Bool := s.psr.getLsbD 44
/-- The user mask's `be` in force for the group (R467). -/
def State.umBe (s : State) : Bool := s.umGroup.getLsbD 1
/-- The user mask's `up` in force for the group (R467). -/
def State.umUp (s : State) : Bool := s.umGroup.getLsbD 2
/-- The user mask's `ac` in force for the group (R467). -/
def State.umAc (s : State) : Bool := s.umGroup.getLsbD 3

/-- CFM.sof (R23). -/
def cfmSof (c : BitVec 38) : Nat := (c.extractLsb' 0 7).toNat
/-- CFM.sol (R23). -/
def cfmSol (c : BitVec 38) : Nat := (c.extractLsb' 7 7).toNat
/-- CFM.sor, in units of 8 registers (R23). -/
def cfmSor (c : BitVec 38) : Nat := (c.extractLsb' 14 4).toNat
/-- CFM.rrb.gr (R23). -/
def cfmRrbGr (c : BitVec 38) : Nat := (c.extractLsb' 18 7).toNat
/-- CFM.rrb.fr (R23). -/
def cfmRrbFr (c : BitVec 38) : Nat := (c.extractLsb' 25 7).toNat
/-- CFM.rrb.pr (R23). -/
def cfmRrbPr (c : BitVec 38) : Nat := (c.extractLsb' 32 6).toNat

/-- A frame marker from its fields (R23). -/
def mkCfm (sof sol sor rrbGr rrbFr rrbPr : Nat) : BitVec 38 :=
  BitVec.ofNat 6 rrbPr ++ BitVec.ofNat 7 rrbFr ++ BitVec.ofNat 7 rrbGr ++ BitVec.ofNat 4 sor ++ BitVec.ofNat 7 sol
    ++ BitVec.ofNat 7 sof

/-- RSC.mode (R29). -/
def rscMode (r : Word) : BitVec 2 := r.extractLsb' 0 2
/-- RSC.pl (R29). -/
def rscPl (r : Word) : BitVec 2 := r.extractLsb' 2 2
/-- RSC.be (R29). -/
def rscBe (r : Word) : Bool := r.getLsbD 4
/-- RSC.loadrs, in bytes (R29). -/
def rscLoadrs (r : Word) : Nat := (r.extractLsb' 16 14).toNat

/-- PFS.pfm (R32). -/
def pfsPfm (p : Word) : BitVec 38 := p.extractLsb' 0 38
/-- PFS.pec (R32). -/
def pfsPec (p : Word) : BitVec 6 := p.extractLsb' 52 6
/-- PFS.ppl (R32). -/
def pfsPpl (p : Word) : BitVec 2 := p.extractLsb' 62 2
/-- PFS from its fields, reserved bits 0 (R32). -/
def mkPfs (pfm : BitVec 38) (pec : BitVec 6) (ppl : BitVec 2) : Word := ppl ++ 0#4 ++ pec ++ 0#14 ++ pfm

/-- RR.ve (R46). -/
def rrVe (r : Word) : Bool := r.getLsbD 0
/-- RR.ps (R46). -/
def rrPs (r : Word) : BitVec 6 := r.extractLsb' 2 6
/-- RR.rid (R46). -/
def rrRid (r : Word) : BitVec 24 := r.extractLsb' 8 24

/-- The region register of a virtual address (R46, R80). -/
def State.regionReg (s : State) (va : Word) : Word := s.rr[(va.extractLsb' 61 3).toNat]'(by
  have h := (va.extractLsb' 61 3).isLt; omega)

/-- ITIR from a page size and a key (R485, R585). -/
def mkItir (ps : BitVec 6) (key : BitVec 24) : Word := 0#32 ++ key ++ ps ++ 0#2

end Sys2Proof.Machine
end

