-- ==== Sys2Proof/Syntax.lean ====
section
/-! DEFINITION. Syntax.lean: the instructions of the Itanium 2 model, one constructor of `Instr` for each row of
`spec/opcode_table.json`, with the operands as the encoding holds them: register numbers, predicates and immediates at
their encoded widths (`spec/30_encoding.md` R234 to R245). -/

namespace Sys2Proof

/-- A predicate register number (R234). -/
abbrev PredIdx := BitVec 6
/-- A general register number (R234). -/
abbrev GrIdx := BitVec 7
/-- A floating-point register number (R234). -/
abbrev FrIdx := BitVec 7
/-- A branch register number (R238). -/
abbrev BrIdx := BitVec 3

/-- The hint completers of a branch: whether hint, deallocation hint `d`, prefetch hint `p` (R238). They never change
what the branch does (R521, R532). -/
structure BrHint where
  wh : BitVec 2
  d  : BitVec 1
  p  : BitVec 1
  deriving DecidableEq, Repr

/-- The shift counts of `pmpyshr2` (R340). -/
inductive PmpyCount where
  | c0 | c7 | c15 | c16
  deriving DecidableEq, Repr

/-- The increments of `fetchadd` (R402). -/
inductive FetchInc where
  | m16 | m8 | m4 | m1 | p1 | p4 | p8 | p16
  deriving DecidableEq, Repr

/-- The relations of `fpcmp` (R507). -/
inductive FpRel where
  | eq | lt | le | unord | neq | nlt | nle | ord
  deriving DecidableEq, Repr

/-- One constructor per row of the opcode table, named after the row's mnemonic. -/
inductive Instr where
  /-- `add r1=r2,r3` (A1, R320). -/
  | addR1R2R3 (qp : PredIdx) (r1 r2 r3 : GrIdx)
  /-- `add r1=r2,r3,1` (A1, R320). -/
  | addR1R2R31 (qp : PredIdx) (r1 r2 r3 : GrIdx)
  /-- `sub r1=r2,r3` (A1, R320). -/
  | subR1R2R3 (qp : PredIdx) (r1 r2 r3 : GrIdx)
  /-- `sub r1=r2,r3,1` (A1, R320). -/
  | subR1R2R31 (qp : PredIdx) (r1 r2 r3 : GrIdx)
  /-- `addp4 r1=r2,r3` (A1, R320). -/
  | addp4R1R2R3 (qp : PredIdx) (r1 r2 r3 : GrIdx)
  /-- `and r1=r2,r3` (A1, R320). -/
  | andR1R2R3 (qp : PredIdx) (r1 r2 r3 : GrIdx)
  /-- `andcm r1=r2,r3` (A1, R320). -/
  | andcmR1R2R3 (qp : PredIdx) (r1 r2 r3 : GrIdx)
  /-- `or r1=r2,r3` (A1, R320). -/
  | orR1R2R3 (qp : PredIdx) (r1 r2 r3 : GrIdx)
  /-- `xor r1=r2,r3` (A1, R320). -/
  | xorR1R2R3 (qp : PredIdx) (r1 r2 r3 : GrIdx)
  /-- `shladd r1=r2,count2,r3` (A2, R321). -/
  | shladdR1R2Count2R3 (qp : PredIdx) (r1 r2 : GrIdx) (ct2d : BitVec 2) (r3 : GrIdx)
  /-- `shladdp4 r1=r2,count2,r3` (A2, R321). -/
  | shladdp4R1R2Count2R3 (qp : PredIdx) (r1 r2 : GrIdx) (ct2d : BitVec 2) (r3 : GrIdx)
  /-- `sub r1=imm8,r3` (A3, R322). -/
  | subR1Imm8R3 (qp : PredIdx) (r1 : GrIdx) (imm8 : BitVec 8) (r3 : GrIdx)
  /-- `and r1=imm8,r3` (A3, R322). -/
  | andR1Imm8R3 (qp : PredIdx) (r1 : GrIdx) (imm8 : BitVec 8) (r3 : GrIdx)
  /-- `andcm r1=imm8,r3` (A3, R322). -/
  | andcmR1Imm8R3 (qp : PredIdx) (r1 : GrIdx) (imm8 : BitVec 8) (r3 : GrIdx)
  /-- `or r1=imm8,r3` (A3, R322). -/
  | orR1Imm8R3 (qp : PredIdx) (r1 : GrIdx) (imm8 : BitVec 8) (r3 : GrIdx)
  /-- `xor r1=imm8,r3` (A3, R322). -/
  | xorR1Imm8R3 (qp : PredIdx) (r1 : GrIdx) (imm8 : BitVec 8) (r3 : GrIdx)
  /-- `adds r1=imm14,r3` (A4, R323). -/
  | addsR1Imm14R3 (qp : PredIdx) (r1 : GrIdx) (imm14 : BitVec 14) (r3 : GrIdx)
  /-- `addp4 r1=imm14,r3` (A4, R323). -/
  | addp4R1Imm14R3 (qp : PredIdx) (r1 : GrIdx) (imm14 : BitVec 14) (r3 : GrIdx)
  /-- `addl r1=imm22,r3` (A5, R324). -/
  | addlR1Imm22R3 (qp : PredIdx) (r1 : GrIdx) (imm22 : BitVec 22) (r3 : BitVec 2)
  /-- `cmp.lt p1,p2=r2,r3` (A6, R325). -/
  | cmpLtP1P2R2R3 (qp p1 p2 : PredIdx) (r2 r3 : GrIdx)
  /-- `cmp.lt.unc p1,p2=r2,r3` (A6, R325). -/
  | cmpLtUncP1P2R2R3 (qp p1 p2 : PredIdx) (r2 r3 : GrIdx)
  /-- `cmp4.lt p1,p2=r2,r3` (A6, R325). -/
  | cmp4LtP1P2R2R3 (qp p1 p2 : PredIdx) (r2 r3 : GrIdx)
  /-- `cmp4.lt.unc p1,p2=r2,r3` (A6, R325). -/
  | cmp4LtUncP1P2R2R3 (qp p1 p2 : PredIdx) (r2 r3 : GrIdx)
  /-- `cmp.lt p1,p2=imm8,r3` (A8, R327). -/
  | cmpLtP1P2Imm8R3 (qp p1 p2 : PredIdx) (imm8 : BitVec 8) (r3 : GrIdx)
  /-- `cmp.lt.unc p1,p2=imm8,r3` (A8, R327). -/
  | cmpLtUncP1P2Imm8R3 (qp p1 p2 : PredIdx) (imm8 : BitVec 8) (r3 : GrIdx)
  /-- `cmp4.lt p1,p2=imm8,r3` (A8, R327). -/
  | cmp4LtP1P2Imm8R3 (qp p1 p2 : PredIdx) (imm8 : BitVec 8) (r3 : GrIdx)
  /-- `cmp4.lt.unc p1,p2=imm8,r3` (A8, R327). -/
  | cmp4LtUncP1P2Imm8R3 (qp p1 p2 : PredIdx) (imm8 : BitVec 8) (r3 : GrIdx)
  /-- `cmp.ltu p1,p2=r2,r3` (A6, R325). -/
  | cmpLtuP1P2R2R3 (qp p1 p2 : PredIdx) (r2 r3 : GrIdx)
  /-- `cmp.ltu.unc p1,p2=r2,r3` (A6, R325). -/
  | cmpLtuUncP1P2R2R3 (qp p1 p2 : PredIdx) (r2 r3 : GrIdx)
  /-- `cmp4.ltu p1,p2=r2,r3` (A6, R325). -/
  | cmp4LtuP1P2R2R3 (qp p1 p2 : PredIdx) (r2 r3 : GrIdx)
  /-- `cmp4.ltu.unc p1,p2=r2,r3` (A6, R325). -/
  | cmp4LtuUncP1P2R2R3 (qp p1 p2 : PredIdx) (r2 r3 : GrIdx)
  /-- `cmp.ltu p1,p2=imm8,r3` (A8, R327). -/
  | cmpLtuP1P2Imm8R3 (qp p1 p2 : PredIdx) (imm8 : BitVec 8) (r3 : GrIdx)
  /-- `cmp.ltu.unc p1,p2=imm8,r3` (A8, R327). -/
  | cmpLtuUncP1P2Imm8R3 (qp p1 p2 : PredIdx) (imm8 : BitVec 8) (r3 : GrIdx)
  /-- `cmp4.ltu p1,p2=imm8,r3` (A8, R327). -/
  | cmp4LtuP1P2Imm8R3 (qp p1 p2 : PredIdx) (imm8 : BitVec 8) (r3 : GrIdx)
  /-- `cmp4.ltu.unc p1,p2=imm8,r3` (A8, R327). -/
  | cmp4LtuUncP1P2Imm8R3 (qp p1 p2 : PredIdx) (imm8 : BitVec 8) (r3 : GrIdx)
  /-- `cmp.eq p1,p2=r2,r3` (A6, R325). -/
  | cmpEqP1P2R2R3 (qp p1 p2 : PredIdx) (r2 r3 : GrIdx)
  /-- `cmp.eq.unc p1,p2=r2,r3` (A6, R325). -/
  | cmpEqUncP1P2R2R3 (qp p1 p2 : PredIdx) (r2 r3 : GrIdx)
  /-- `cmp4.eq p1,p2=r2,r3` (A6, R325). -/
  | cmp4EqP1P2R2R3 (qp p1 p2 : PredIdx) (r2 r3 : GrIdx)
  /-- `cmp4.eq.unc p1,p2=r2,r3` (A6, R325). -/
  | cmp4EqUncP1P2R2R3 (qp p1 p2 : PredIdx) (r2 r3 : GrIdx)
  /-- `cmp.eq p1,p2=imm8,r3` (A8, R327). -/
  | cmpEqP1P2Imm8R3 (qp p1 p2 : PredIdx) (imm8 : BitVec 8) (r3 : GrIdx)
  /-- `cmp.eq.unc p1,p2=imm8,r3` (A8, R327). -/
  | cmpEqUncP1P2Imm8R3 (qp p1 p2 : PredIdx) (imm8 : BitVec 8) (r3 : GrIdx)
  /-- `cmp4.eq p1,p2=imm8,r3` (A8, R327). -/
  | cmp4EqP1P2Imm8R3 (qp p1 p2 : PredIdx) (imm8 : BitVec 8) (r3 : GrIdx)
  /-- `cmp4.eq.unc p1,p2=imm8,r3` (A8, R327). -/
  | cmp4EqUncP1P2Imm8R3 (qp p1 p2 : PredIdx) (imm8 : BitVec 8) (r3 : GrIdx)
  /-- `cmp.eq.and p1,p2=r2,r3` (A6, R325). -/
  | cmpEqAndP1P2R2R3 (qp p1 p2 : PredIdx) (r2 r3 : GrIdx)
  /-- `cmp.eq.and p1,p2=imm8,r3` (A8, R327). -/
  | cmpEqAndP1P2Imm8R3 (qp p1 p2 : PredIdx) (imm8 : BitVec 8) (r3 : GrIdx)
  /-- `cmp.ne.and p1,p2=r2,r3` (A6, R325). -/
  | cmpNeAndP1P2R2R3 (qp p1 p2 : PredIdx) (r2 r3 : GrIdx)
  /-- `cmp.ne.and p1,p2=imm8,r3` (A8, R327). -/
  | cmpNeAndP1P2Imm8R3 (qp p1 p2 : PredIdx) (imm8 : BitVec 8) (r3 : GrIdx)
  /-- `cmp.gt.and p1,p2=r0,r3` (A7, R326). -/
  | cmpGtAndP1P2R0R3 (qp p1 p2 : PredIdx) (r3 : GrIdx)
  /-- `cmp.le.and p1,p2=r0,r3` (A7, R326). -/
  | cmpLeAndP1P2R0R3 (qp p1 p2 : PredIdx) (r3 : GrIdx)
  /-- `cmp.ge.and p1,p2=r0,r3` (A7, R326). -/
  | cmpGeAndP1P2R0R3 (qp p1 p2 : PredIdx) (r3 : GrIdx)
  /-- `cmp.lt.and p1,p2=r0,r3` (A7, R326). -/
  | cmpLtAndP1P2R0R3 (qp p1 p2 : PredIdx) (r3 : GrIdx)
  /-- `cmp.eq.or p1,p2=r2,r3` (A6, R325). -/
  | cmpEqOrP1P2R2R3 (qp p1 p2 : PredIdx) (r2 r3 : GrIdx)
  /-- `cmp.eq.or p1,p2=imm8,r3` (A8, R327). -/
  | cmpEqOrP1P2Imm8R3 (qp p1 p2 : PredIdx) (imm8 : BitVec 8) (r3 : GrIdx)
  /-- `cmp.ne.or p1,p2=r2,r3` (A6, R325). -/
  | cmpNeOrP1P2R2R3 (qp p1 p2 : PredIdx) (r2 r3 : GrIdx)
  /-- `cmp.ne.or p1,p2=imm8,r3` (A8, R327). -/
  | cmpNeOrP1P2Imm8R3 (qp p1 p2 : PredIdx) (imm8 : BitVec 8) (r3 : GrIdx)
  /-- `cmp.gt.or p1,p2=r0,r3` (A7, R326). -/
  | cmpGtOrP1P2R0R3 (qp p1 p2 : PredIdx) (r3 : GrIdx)
  /-- `cmp.le.or p1,p2=r0,r3` (A7, R326). -/
  | cmpLeOrP1P2R0R3 (qp p1 p2 : PredIdx) (r3 : GrIdx)
  /-- `cmp.ge.or p1,p2=r0,r3` (A7, R326). -/
  | cmpGeOrP1P2R0R3 (qp p1 p2 : PredIdx) (r3 : GrIdx)
  /-- `cmp.lt.or p1,p2=r0,r3` (A7, R326). -/
  | cmpLtOrP1P2R0R3 (qp p1 p2 : PredIdx) (r3 : GrIdx)
  /-- `cmp.eq.or.andcm p1,p2=r2,r3` (A6, R325). -/
  | cmpEqOrAndcmP1P2R2R3 (qp p1 p2 : PredIdx) (r2 r3 : GrIdx)
  /-- `cmp.eq.or.andcm p1,p2=imm8,r3` (A8, R327). -/
  | cmpEqOrAndcmP1P2Imm8R3 (qp p1 p2 : PredIdx) (imm8 : BitVec 8) (r3 : GrIdx)
  /-- `cmp.ne.or.andcm p1,p2=r2,r3` (A6, R325). -/
  | cmpNeOrAndcmP1P2R2R3 (qp p1 p2 : PredIdx) (r2 r3 : GrIdx)
  /-- `cmp.ne.or.andcm p1,p2=imm8,r3` (A8, R327). -/
  | cmpNeOrAndcmP1P2Imm8R3 (qp p1 p2 : PredIdx) (imm8 : BitVec 8) (r3 : GrIdx)
  /-- `cmp.gt.or.andcm p1,p2=r0,r3` (A7, R326). -/
  | cmpGtOrAndcmP1P2R0R3 (qp p1 p2 : PredIdx) (r3 : GrIdx)
  /-- `cmp.le.or.andcm p1,p2=r0,r3` (A7, R326). -/
  | cmpLeOrAndcmP1P2R0R3 (qp p1 p2 : PredIdx) (r3 : GrIdx)
  /-- `cmp.ge.or.andcm p1,p2=r0,r3` (A7, R326). -/
  | cmpGeOrAndcmP1P2R0R3 (qp p1 p2 : PredIdx) (r3 : GrIdx)
  /-- `cmp.lt.or.andcm p1,p2=r0,r3` (A7, R326). -/
  | cmpLtOrAndcmP1P2R0R3 (qp p1 p2 : PredIdx) (r3 : GrIdx)
  /-- `cmp4.eq.and p1,p2=r2,r3` (A6, R325). -/
  | cmp4EqAndP1P2R2R3 (qp p1 p2 : PredIdx) (r2 r3 : GrIdx)
  /-- `cmp4.eq.and p1,p2=imm8,r3` (A8, R327). -/
  | cmp4EqAndP1P2Imm8R3 (qp p1 p2 : PredIdx) (imm8 : BitVec 8) (r3 : GrIdx)
  /-- `cmp4.ne.and p1,p2=r2,r3` (A6, R325). -/
  | cmp4NeAndP1P2R2R3 (qp p1 p2 : PredIdx) (r2 r3 : GrIdx)
  /-- `cmp4.ne.and p1,p2=imm8,r3` (A8, R327). -/
  | cmp4NeAndP1P2Imm8R3 (qp p1 p2 : PredIdx) (imm8 : BitVec 8) (r3 : GrIdx)
  /-- `cmp4.gt.and p1,p2=r0,r3` (A7, R326). -/
  | cmp4GtAndP1P2R0R3 (qp p1 p2 : PredIdx) (r3 : GrIdx)
  /-- `cmp4.le.and p1,p2=r0,r3` (A7, R326). -/
  | cmp4LeAndP1P2R0R3 (qp p1 p2 : PredIdx) (r3 : GrIdx)
  /-- `cmp4.ge.and p1,p2=r0,r3` (A7, R326). -/
  | cmp4GeAndP1P2R0R3 (qp p1 p2 : PredIdx) (r3 : GrIdx)
  /-- `cmp4.lt.and p1,p2=r0,r3` (A7, R326). -/
  | cmp4LtAndP1P2R0R3 (qp p1 p2 : PredIdx) (r3 : GrIdx)
  /-- `cmp4.eq.or p1,p2=r2,r3` (A6, R325). -/
  | cmp4EqOrP1P2R2R3 (qp p1 p2 : PredIdx) (r2 r3 : GrIdx)
  /-- `cmp4.eq.or p1,p2=imm8,r3` (A8, R327). -/
  | cmp4EqOrP1P2Imm8R3 (qp p1 p2 : PredIdx) (imm8 : BitVec 8) (r3 : GrIdx)
  /-- `cmp4.ne.or p1,p2=r2,r3` (A6, R325). -/
  | cmp4NeOrP1P2R2R3 (qp p1 p2 : PredIdx) (r2 r3 : GrIdx)
  /-- `cmp4.ne.or p1,p2=imm8,r3` (A8, R327). -/
  | cmp4NeOrP1P2Imm8R3 (qp p1 p2 : PredIdx) (imm8 : BitVec 8) (r3 : GrIdx)
  /-- `cmp4.gt.or p1,p2=r0,r3` (A7, R326). -/
  | cmp4GtOrP1P2R0R3 (qp p1 p2 : PredIdx) (r3 : GrIdx)
  /-- `cmp4.le.or p1,p2=r0,r3` (A7, R326). -/
  | cmp4LeOrP1P2R0R3 (qp p1 p2 : PredIdx) (r3 : GrIdx)
  /-- `cmp4.ge.or p1,p2=r0,r3` (A7, R326). -/
  | cmp4GeOrP1P2R0R3 (qp p1 p2 : PredIdx) (r3 : GrIdx)
  /-- `cmp4.lt.or p1,p2=r0,r3` (A7, R326). -/
  | cmp4LtOrP1P2R0R3 (qp p1 p2 : PredIdx) (r3 : GrIdx)
  /-- `cmp4.eq.or.andcm p1,p2=r2,r3` (A6, R325). -/
  | cmp4EqOrAndcmP1P2R2R3 (qp p1 p2 : PredIdx) (r2 r3 : GrIdx)
  /-- `cmp4.eq.or.andcm p1,p2=imm8,r3` (A8, R327). -/
  | cmp4EqOrAndcmP1P2Imm8R3 (qp p1 p2 : PredIdx) (imm8 : BitVec 8) (r3 : GrIdx)
  /-- `cmp4.ne.or.andcm p1,p2=r2,r3` (A6, R325). -/
  | cmp4NeOrAndcmP1P2R2R3 (qp p1 p2 : PredIdx) (r2 r3 : GrIdx)
  /-- `cmp4.ne.or.andcm p1,p2=imm8,r3` (A8, R327). -/
  | cmp4NeOrAndcmP1P2Imm8R3 (qp p1 p2 : PredIdx) (imm8 : BitVec 8) (r3 : GrIdx)
  /-- `cmp4.gt.or.andcm p1,p2=r0,r3` (A7, R326). -/
  | cmp4GtOrAndcmP1P2R0R3 (qp p1 p2 : PredIdx) (r3 : GrIdx)
  /-- `cmp4.le.or.andcm p1,p2=r0,r3` (A7, R326). -/
  | cmp4LeOrAndcmP1P2R0R3 (qp p1 p2 : PredIdx) (r3 : GrIdx)
  /-- `cmp4.ge.or.andcm p1,p2=r0,r3` (A7, R326). -/
  | cmp4GeOrAndcmP1P2R0R3 (qp p1 p2 : PredIdx) (r3 : GrIdx)
  /-- `cmp4.lt.or.andcm p1,p2=r0,r3` (A7, R326). -/
  | cmp4LtOrAndcmP1P2R0R3 (qp p1 p2 : PredIdx) (r3 : GrIdx)
  /-- `padd1 r1=r2,r3` (A9, R328). -/
  | padd1R1R2R3 (qp : PredIdx) (r1 r2 r3 : GrIdx)
  /-- `padd2 r1=r2,r3` (A9, R328). -/
  | padd2R1R2R3 (qp : PredIdx) (r1 r2 r3 : GrIdx)
  /-- `padd4 r1=r2,r3` (A9, R328). -/
  | padd4R1R2R3 (qp : PredIdx) (r1 r2 r3 : GrIdx)
  /-- `padd1.sss r1=r2,r3` (A9, R328). -/
  | padd1SssR1R2R3 (qp : PredIdx) (r1 r2 r3 : GrIdx)
  /-- `padd2.sss r1=r2,r3` (A9, R328). -/
  | padd2SssR1R2R3 (qp : PredIdx) (r1 r2 r3 : GrIdx)
  /-- `padd1.uus r1=r2,r3` (A9, R328). -/
  | padd1UusR1R2R3 (qp : PredIdx) (r1 r2 r3 : GrIdx)
  /-- `padd2.uus r1=r2,r3` (A9, R328). -/
  | padd2UusR1R2R3 (qp : PredIdx) (r1 r2 r3 : GrIdx)
  /-- `padd1.uuu r1=r2,r3` (A9, R328). -/
  | padd1UuuR1R2R3 (qp : PredIdx) (r1 r2 r3 : GrIdx)
  /-- `padd2.uuu r1=r2,r3` (A9, R328). -/
  | padd2UuuR1R2R3 (qp : PredIdx) (r1 r2 r3 : GrIdx)
  /-- `psub1 r1=r2,r3` (A9, R328). -/
  | psub1R1R2R3 (qp : PredIdx) (r1 r2 r3 : GrIdx)
  /-- `psub2 r1=r2,r3` (A9, R328). -/
  | psub2R1R2R3 (qp : PredIdx) (r1 r2 r3 : GrIdx)
  /-- `psub4 r1=r2,r3` (A9, R328). -/
  | psub4R1R2R3 (qp : PredIdx) (r1 r2 r3 : GrIdx)
  /-- `psub1.sss r1=r2,r3` (A9, R328). -/
  | psub1SssR1R2R3 (qp : PredIdx) (r1 r2 r3 : GrIdx)
  /-- `psub2.sss r1=r2,r3` (A9, R328). -/
  | psub2SssR1R2R3 (qp : PredIdx) (r1 r2 r3 : GrIdx)
  /-- `psub1.uus r1=r2,r3` (A9, R328). -/
  | psub1UusR1R2R3 (qp : PredIdx) (r1 r2 r3 : GrIdx)
  /-- `psub2.uus r1=r2,r3` (A9, R328). -/
  | psub2UusR1R2R3 (qp : PredIdx) (r1 r2 r3 : GrIdx)
  /-- `psub1.uuu r1=r2,r3` (A9, R328). -/
  | psub1UuuR1R2R3 (qp : PredIdx) (r1 r2 r3 : GrIdx)
  /-- `psub2.uuu r1=r2,r3` (A9, R328). -/
  | psub2UuuR1R2R3 (qp : PredIdx) (r1 r2 r3 : GrIdx)
  /-- `pavg1 r1=r2,r3` (A9, R328). -/
  | pavg1R1R2R3 (qp : PredIdx) (r1 r2 r3 : GrIdx)
  /-- `pavg2 r1=r2,r3` (A9, R328). -/
  | pavg2R1R2R3 (qp : PredIdx) (r1 r2 r3 : GrIdx)
  /-- `pavg1.raz r1=r2,r3` (A9, R328). -/
  | pavg1RazR1R2R3 (qp : PredIdx) (r1 r2 r3 : GrIdx)
  /-- `pavg2.raz r1=r2,r3` (A9, R328). -/
  | pavg2RazR1R2R3 (qp : PredIdx) (r1 r2 r3 : GrIdx)
  /-- `pavgsub1 r1=r2,r3` (A9, R328). -/
  | pavgsub1R1R2R3 (qp : PredIdx) (r1 r2 r3 : GrIdx)
  /-- `pavgsub2 r1=r2,r3` (A9, R328). -/
  | pavgsub2R1R2R3 (qp : PredIdx) (r1 r2 r3 : GrIdx)
  /-- `pcmp1.eq r1=r2,r3` (A9, R328). -/
  | pcmp1EqR1R2R3 (qp : PredIdx) (r1 r2 r3 : GrIdx)
  /-- `pcmp2.eq r1=r2,r3` (A9, R328). -/
  | pcmp2EqR1R2R3 (qp : PredIdx) (r1 r2 r3 : GrIdx)
  /-- `pcmp4.eq r1=r2,r3` (A9, R328). -/
  | pcmp4EqR1R2R3 (qp : PredIdx) (r1 r2 r3 : GrIdx)
  /-- `pcmp1.gt r1=r2,r3` (A9, R328). -/
  | pcmp1GtR1R2R3 (qp : PredIdx) (r1 r2 r3 : GrIdx)
  /-- `pcmp2.gt r1=r2,r3` (A9, R328). -/
  | pcmp2GtR1R2R3 (qp : PredIdx) (r1 r2 r3 : GrIdx)
  /-- `pcmp4.gt r1=r2,r3` (A9, R328). -/
  | pcmp4GtR1R2R3 (qp : PredIdx) (r1 r2 r3 : GrIdx)
  /-- `pshladd2 r1=r2,count2,r3` (A10, R329). -/
  | pshladd2R1R2Count2R3 (qp : PredIdx) (r1 r2 : GrIdx) (count2 : BitVec 2) (r3 : GrIdx)
  /-- `pshradd2 r1=r2,count2,r3` (A10, R329). -/
  | pshradd2R1R2Count2R3 (qp : PredIdx) (r1 r2 : GrIdx) (count2 : BitVec 2) (r3 : GrIdx)
  /-- `pmpyshr2 r1=r2,r3,count2` (I1, R340). -/
  | pmpyshr2R1R2R3Count2 (qp : PredIdx) (r1 r2 r3 : GrIdx) (count2 : PmpyCount)
  /-- `pmpyshr2.u r1=r2,r3,count2` (I1, R340). -/
  | pmpyshr2UR1R2R3Count2 (qp : PredIdx) (r1 r2 r3 : GrIdx) (count2 : PmpyCount)
  /-- `pmpy2.r r1=r2,r3` (I2, R340). -/
  | pmpy2RR1R2R3 (qp : PredIdx) (r1 r2 r3 : GrIdx)
  /-- `pmpy2.l r1=r2,r3` (I2, R340). -/
  | pmpy2LR1R2R3 (qp : PredIdx) (r1 r2 r3 : GrIdx)
  /-- `mix1.r r1=r2,r3` (I2, R341). -/
  | mix1RR1R2R3 (qp : PredIdx) (r1 r2 r3 : GrIdx)
  /-- `mix1.l r1=r2,r3` (I2, R341). -/
  | mix1LR1R2R3 (qp : PredIdx) (r1 r2 r3 : GrIdx)
  /-- `mix2.r r1=r2,r3` (I2, R341). -/
  | mix2RR1R2R3 (qp : PredIdx) (r1 r2 r3 : GrIdx)
  /-- `mix2.l r1=r2,r3` (I2, R341). -/
  | mix2LR1R2R3 (qp : PredIdx) (r1 r2 r3 : GrIdx)
  /-- `mix4.r r1=r2,r3` (I2, R341). -/
  | mix4RR1R2R3 (qp : PredIdx) (r1 r2 r3 : GrIdx)
  /-- `mix4.l r1=r2,r3` (I2, R341). -/
  | mix4LR1R2R3 (qp : PredIdx) (r1 r2 r3 : GrIdx)
  /-- `pack2.sss r1=r2,r3` (I2, R341). -/
  | pack2SssR1R2R3 (qp : PredIdx) (r1 r2 r3 : GrIdx)
  /-- `pack2.uss r1=r2,r3` (I2, R341). -/
  | pack2UssR1R2R3 (qp : PredIdx) (r1 r2 r3 : GrIdx)
  /-- `pack4.sss r1=r2,r3` (I2, R341). -/
  | pack4SssR1R2R3 (qp : PredIdx) (r1 r2 r3 : GrIdx)
  /-- `unpack1.l r1=r2,r3` (I2, R341). -/
  | unpack1LR1R2R3 (qp : PredIdx) (r1 r2 r3 : GrIdx)
  /-- `unpack1.h r1=r2,r3` (I2, R341). -/
  | unpack1HR1R2R3 (qp : PredIdx) (r1 r2 r3 : GrIdx)
  /-- `unpack2.l r1=r2,r3` (I2, R341). -/
  | unpack2LR1R2R3 (qp : PredIdx) (r1 r2 r3 : GrIdx)
  /-- `unpack2.h r1=r2,r3` (I2, R341). -/
  | unpack2HR1R2R3 (qp : PredIdx) (r1 r2 r3 : GrIdx)
  /-- `unpack4.l r1=r2,r3` (I2, R341). -/
  | unpack4LR1R2R3 (qp : PredIdx) (r1 r2 r3 : GrIdx)
  /-- `unpack4.h r1=r2,r3` (I2, R341). -/
  | unpack4HR1R2R3 (qp : PredIdx) (r1 r2 r3 : GrIdx)
  /-- `pmin1.u r1=r2,r3` (I2, R341). -/
  | pmin1UR1R2R3 (qp : PredIdx) (r1 r2 r3 : GrIdx)
  /-- `pmax1.u r1=r2,r3` (I2, R341). -/
  | pmax1UR1R2R3 (qp : PredIdx) (r1 r2 r3 : GrIdx)
  /-- `pmin2 r1=r2,r3` (I2, R341). -/
  | pmin2R1R2R3 (qp : PredIdx) (r1 r2 r3 : GrIdx)
  /-- `pmax2 r1=r2,r3` (I2, R341). -/
  | pmax2R1R2R3 (qp : PredIdx) (r1 r2 r3 : GrIdx)
  /-- `psad1 r1=r2,r3` (I2, R341). -/
  | psad1R1R2R3 (qp : PredIdx) (r1 r2 r3 : GrIdx)
  /-- `mux1 r1=r2,mbtype4` (I3, R342). -/
  | mux1R1R2Mbtype4 (qp : PredIdx) (r1 r2 : GrIdx) (mbtype4 : BitVec 4)
  /-- `mux2 r1=r2,mhtype8` (I4, R342). -/
  | mux2R1R2Mhtype8 (qp : PredIdx) (r1 r2 : GrIdx) (mhtype8 : BitVec 8)
  /-- `shr r1=r3,r2` (I5, R343). -/
  | shrR1R3R2 (qp : PredIdx) (r1 r3 r2 : GrIdx)
  /-- `shr.u r1=r3,r2` (I5, R343). -/
  | shrUR1R3R2 (qp : PredIdx) (r1 r3 r2 : GrIdx)
  /-- `pshr2 r1=r3,r2` (I5, R343). -/
  | pshr2R1R3R2 (qp : PredIdx) (r1 r3 r2 : GrIdx)
  /-- `pshr2.u r1=r3,r2` (I5, R343). -/
  | pshr2UR1R3R2 (qp : PredIdx) (r1 r3 r2 : GrIdx)
  /-- `pshr4 r1=r3,r2` (I5, R343). -/
  | pshr4R1R3R2 (qp : PredIdx) (r1 r3 r2 : GrIdx)
  /-- `pshr4.u r1=r3,r2` (I5, R343). -/
  | pshr4UR1R3R2 (qp : PredIdx) (r1 r3 r2 : GrIdx)
  /-- `pshr2 r1=r3,count5` (I6, R344). -/
  | pshr2R1R3Count5 (qp : PredIdx) (r1 r3 : GrIdx) (count5 : BitVec 5)
  /-- `pshr2.u r1=r3,count5` (I6, R344). -/
  | pshr2UR1R3Count5 (qp : PredIdx) (r1 r3 : GrIdx) (count5 : BitVec 5)
  /-- `pshr4 r1=r3,count5` (I6, R344). -/
  | pshr4R1R3Count5 (qp : PredIdx) (r1 r3 : GrIdx) (count5 : BitVec 5)
  /-- `pshr4.u r1=r3,count5` (I6, R344). -/
  | pshr4UR1R3Count5 (qp : PredIdx) (r1 r3 : GrIdx) (count5 : BitVec 5)
  /-- `shl r1=r2,r3` (I7, R345). -/
  | shlR1R2R3 (qp : PredIdx) (r1 r2 r3 : GrIdx)
  /-- `pshl2 r1=r2,r3` (I7, R345). -/
  | pshl2R1R2R3 (qp : PredIdx) (r1 r2 r3 : GrIdx)
  /-- `pshl4 r1=r2,r3` (I7, R345). -/
  | pshl4R1R2R3 (qp : PredIdx) (r1 r2 r3 : GrIdx)
  /-- `pshl2 r1=r2,count5` (I8, R346). -/
  | pshl2R1R2Count5 (qp : PredIdx) (r1 r2 : GrIdx) (count5 : BitVec 5)
  /-- `pshl4 r1=r2,count5` (I8, R346). -/
  | pshl4R1R2Count5 (qp : PredIdx) (r1 r2 : GrIdx) (count5 : BitVec 5)
  /-- `popcnt r1=r3` (I9, R347). -/
  | popcntR1R3 (qp : PredIdx) (r1 r3 : GrIdx)
  /-- `shrp r1=r2,r3,count6` (I10, R348). -/
  | shrpR1R2R3Count6 (qp : PredIdx) (r1 r2 r3 : GrIdx) (count6 : BitVec 6)
  /-- `extr.u r1=r3,pos6,len6` (I11, R349). -/
  | extrUR1R3Pos6Len6 (qp : PredIdx) (r1 r3 : GrIdx) (pos6 len6d : BitVec 6)
  /-- `extr r1=r3,pos6,len6` (I11, R349). -/
  | extrR1R3Pos6Len6 (qp : PredIdx) (r1 r3 : GrIdx) (pos6 len6d : BitVec 6)
  /-- `dep.z r1=r2,pos6,len6` (I12, R350). -/
  | depZR1R2Pos6Len6 (qp : PredIdx) (r1 r2 : GrIdx) (pos6 len6d : BitVec 6)
  /-- `dep.z r1=imm8,pos6,len6` (I13, R350). -/
  | depZR1Imm8Pos6Len6 (qp : PredIdx) (r1 : GrIdx) (imm8 : BitVec 8) (pos6 len6d : BitVec 6)
  /-- `dep r1=imm1,r3,pos6,len6` (I14, R351). -/
  | depR1Imm1R3Pos6Len6 (qp : PredIdx) (r1 : GrIdx) (imm1 : BitVec 1) (r3 : GrIdx) (pos6 len6d : BitVec 6)
  /-- `dep r1=r2,r3,pos6,len4` (I15, R351). -/
  | depR1R2R3Pos6Len4 (qp : PredIdx) (r1 r2 r3 : GrIdx) (pos6 : BitVec 6) (len4d : BitVec 4)
  /-- `tbit.z p1,p2=r3,pos6` (I16, R352). -/
  | tbitZP1P2R3Pos6 (qp p1 p2 : PredIdx) (r3 : GrIdx) (pos6 : BitVec 6)
  /-- `tbit.z.unc p1,p2=r3,pos6` (I16, R352). -/
  | tbitZUncP1P2R3Pos6 (qp p1 p2 : PredIdx) (r3 : GrIdx) (pos6 : BitVec 6)
  /-- `tbit.z.and p1,p2=r3,pos6` (I16, R352). -/
  | tbitZAndP1P2R3Pos6 (qp p1 p2 : PredIdx) (r3 : GrIdx) (pos6 : BitVec 6)
  /-- `tbit.nz.and p1,p2=r3,pos6` (I16, R352). -/
  | tbitNzAndP1P2R3Pos6 (qp p1 p2 : PredIdx) (r3 : GrIdx) (pos6 : BitVec 6)
  /-- `tbit.z.or p1,p2=r3,pos6` (I16, R352). -/
  | tbitZOrP1P2R3Pos6 (qp p1 p2 : PredIdx) (r3 : GrIdx) (pos6 : BitVec 6)
  /-- `tbit.nz.or p1,p2=r3,pos6` (I16, R352). -/
  | tbitNzOrP1P2R3Pos6 (qp p1 p2 : PredIdx) (r3 : GrIdx) (pos6 : BitVec 6)
  /-- `tbit.z.or.andcm p1,p2=r3,pos6` (I16, R352). -/
  | tbitZOrAndcmP1P2R3Pos6 (qp p1 p2 : PredIdx) (r3 : GrIdx) (pos6 : BitVec 6)
  /-- `tbit.nz.or.andcm p1,p2=r3,pos6` (I16, R352). -/
  | tbitNzOrAndcmP1P2R3Pos6 (qp p1 p2 : PredIdx) (r3 : GrIdx) (pos6 : BitVec 6)
  /-- `tnat.z p1,p2=r3` (I17, R353). -/
  | tnatZP1P2R3 (qp p1 p2 : PredIdx) (r3 : GrIdx)
  /-- `tnat.z.unc p1,p2=r3` (I17, R353). -/
  | tnatZUncP1P2R3 (qp p1 p2 : PredIdx) (r3 : GrIdx)
  /-- `tnat.z.and p1,p2=r3` (I17, R353). -/
  | tnatZAndP1P2R3 (qp p1 p2 : PredIdx) (r3 : GrIdx)
  /-- `tnat.nz.and p1,p2=r3` (I17, R353). -/
  | tnatNzAndP1P2R3 (qp p1 p2 : PredIdx) (r3 : GrIdx)
  /-- `tnat.z.or p1,p2=r3` (I17, R353). -/
  | tnatZOrP1P2R3 (qp p1 p2 : PredIdx) (r3 : GrIdx)
  /-- `tnat.nz.or p1,p2=r3` (I17, R353). -/
  | tnatNzOrP1P2R3 (qp p1 p2 : PredIdx) (r3 : GrIdx)
  /-- `tnat.z.or.andcm p1,p2=r3` (I17, R353). -/
  | tnatZOrAndcmP1P2R3 (qp p1 p2 : PredIdx) (r3 : GrIdx)
  /-- `tnat.nz.or.andcm p1,p2=r3` (I17, R353). -/
  | tnatNzOrAndcmP1P2R3 (qp p1 p2 : PredIdx) (r3 : GrIdx)
  /-- `tbit.nz p1,p2=r3,pos6` (I16, R352). -/
  | tbitNzP1P2R3Pos6 (qp p1 p2 : PredIdx) (r3 : GrIdx) (pos6 : BitVec 6)
  /-- `tbit.nz.unc p1,p2=r3,pos6` (I16, R352). -/
  | tbitNzUncP1P2R3Pos6 (qp p1 p2 : PredIdx) (r3 : GrIdx) (pos6 : BitVec 6)
  /-- `tnat.nz p1,p2=r3` (I17, R353). -/
  | tnatNzP1P2R3 (qp p1 p2 : PredIdx) (r3 : GrIdx)
  /-- `tnat.nz.unc p1,p2=r3` (I17, R353). -/
  | tnatNzUncP1P2R3 (qp p1 p2 : PredIdx) (r3 : GrIdx)
  /-- `break.i imm21` (I19, R354). -/
  | breakIImm21 (qp : PredIdx) (imm21 : BitVec 21)
  /-- `nop.i imm21` (I19, R354). -/
  | nopIImm21 (qp : PredIdx) (imm21 : BitVec 21)
  /-- `chk.s.i r2,target25` (I20, R366). -/
  | chkSIR2Target25 (qp : PredIdx) (r2 : GrIdx) (imm21 : BitVec 21)
  /-- `mov b1=r2` (I21, R356). -/
  | movB1R2 (qp : PredIdx) (b1 : BrIdx) (r2 : GrIdx) (timm9 : BitVec 9) (ih : BitVec 1) (wh : BitVec 2)
  /-- `mov.ret b1=r2` (I21, R356). -/
  | movRetB1R2 (qp : PredIdx) (b1 : BrIdx) (r2 : GrIdx) (timm9 : BitVec 9) (ih : BitVec 1) (wh : BitVec 2)
  /-- `mov r1=b2` (I22, R357). -/
  | movR1B2 (qp : PredIdx) (r1 : GrIdx) (b2 : BrIdx)
  /-- `mov pr=r2,mask17` (I23, R358). -/
  | movPrR2Mask17 (qp : PredIdx) (r2 : GrIdx) (mask17 : BitVec 17)
  /-- `mov pr.rot=imm44` (I24, R359). -/
  | movPrRotImm44 (qp : PredIdx) (imm28 : BitVec 28)
  /-- `mov r1=ip` (I25, R360). -/
  | movR1Ip (qp : PredIdx) (r1 : GrIdx)
  /-- `mov r1=pr` (I25, R360). -/
  | movR1Pr (qp : PredIdx) (r1 : GrIdx)
  /-- `mov.i ar3=r2` (I26, R361). -/
  | movIAr3R2 (qp : PredIdx) (ar3 : BitVec 7) (r2 : GrIdx)
  /-- `mov.i ar3=imm8` (I27, R362). -/
  | movIAr3Imm8 (qp : PredIdx) (ar3 : BitVec 7) (imm8 : BitVec 8)
  /-- `mov.i r1=ar3` (I28, R363). -/
  | movIR1Ar3 (qp : PredIdx) (r1 : GrIdx) (ar3 : BitVec 7)
  /-- `zxt1 r1=r3` (I29, R364). -/
  | zxt1R1R3 (qp : PredIdx) (r1 r3 : GrIdx)
  /-- `zxt2 r1=r3` (I29, R364). -/
  | zxt2R1R3 (qp : PredIdx) (r1 r3 : GrIdx)
  /-- `zxt4 r1=r3` (I29, R364). -/
  | zxt4R1R3 (qp : PredIdx) (r1 r3 : GrIdx)
  /-- `sxt1 r1=r3` (I29, R364). -/
  | sxt1R1R3 (qp : PredIdx) (r1 r3 : GrIdx)
  /-- `sxt2 r1=r3` (I29, R364). -/
  | sxt2R1R3 (qp : PredIdx) (r1 r3 : GrIdx)
  /-- `sxt4 r1=r3` (I29, R364). -/
  | sxt4R1R3 (qp : PredIdx) (r1 r3 : GrIdx)
  /-- `czx1.l r1=r3` (I29, R364). -/
  | czx1LR1R3 (qp : PredIdx) (r1 r3 : GrIdx)
  /-- `czx2.l r1=r3` (I29, R364). -/
  | czx2LR1R3 (qp : PredIdx) (r1 r3 : GrIdx)
  /-- `czx1.r r1=r3` (I29, R364). -/
  | czx1RR1R3 (qp : PredIdx) (r1 r3 : GrIdx)
  /-- `czx2.r r1=r3` (I29, R364). -/
  | czx2RR1R3 (qp : PredIdx) (r1 r3 : GrIdx)
  /-- `movl r1=imm64` (X2, R365). -/
  | movlR1Imm64 (qp : PredIdx) (r1 : GrIdx) (imm64 : BitVec 64)
  /-- `break.x imm62` (X1, R354). -/
  | breakXImm62 (qp : PredIdx) (imm62 : BitVec 62)
  /-- `nop.x imm62` (X1, R354). -/
  | nopXImm62 (qp : PredIdx) (imm62 : BitVec 62)
  /-- `ld1 r1=[r3]` (M1, R381). -/
  | ld1R1R3 (qp : PredIdx) (r1 r3 : GrIdx) (hint : BitVec 2)
  /-- `ld1 r1=[r3],r2` (M2, R381). -/
  | ld1R1R3R2 (qp : PredIdx) (r1 r3 r2 : GrIdx) (hint : BitVec 2)
  /-- `ld1 r1=[r3],imm9` (M3, R381). -/
  | ld1R1R3Imm9 (qp : PredIdx) (r1 r3 : GrIdx) (imm9 : BitVec 9) (hint : BitVec 2)
  /-- `ld2 r1=[r3]` (M1, R381). -/
  | ld2R1R3 (qp : PredIdx) (r1 r3 : GrIdx) (hint : BitVec 2)
  /-- `ld2 r1=[r3],r2` (M2, R381). -/
  | ld2R1R3R2 (qp : PredIdx) (r1 r3 r2 : GrIdx) (hint : BitVec 2)
  /-- `ld2 r1=[r3],imm9` (M3, R381). -/
  | ld2R1R3Imm9 (qp : PredIdx) (r1 r3 : GrIdx) (imm9 : BitVec 9) (hint : BitVec 2)
  /-- `ld4 r1=[r3]` (M1, R381). -/
  | ld4R1R3 (qp : PredIdx) (r1 r3 : GrIdx) (hint : BitVec 2)
  /-- `ld4 r1=[r3],r2` (M2, R381). -/
  | ld4R1R3R2 (qp : PredIdx) (r1 r3 r2 : GrIdx) (hint : BitVec 2)
  /-- `ld4 r1=[r3],imm9` (M3, R381). -/
  | ld4R1R3Imm9 (qp : PredIdx) (r1 r3 : GrIdx) (imm9 : BitVec 9) (hint : BitVec 2)
  /-- `ld8 r1=[r3]` (M1, R381). -/
  | ld8R1R3 (qp : PredIdx) (r1 r3 : GrIdx) (hint : BitVec 2)
  /-- `ld8 r1=[r3],r2` (M2, R381). -/
  | ld8R1R3R2 (qp : PredIdx) (r1 r3 r2 : GrIdx) (hint : BitVec 2)
  /-- `ld8 r1=[r3],imm9` (M3, R381). -/
  | ld8R1R3Imm9 (qp : PredIdx) (r1 r3 : GrIdx) (imm9 : BitVec 9) (hint : BitVec 2)
  /-- `ld1.s r1=[r3]` (M1, R382). -/
  | ld1SR1R3 (qp : PredIdx) (r1 r3 : GrIdx) (hint : BitVec 2)
  /-- `ld1.s r1=[r3],r2` (M2, R382). -/
  | ld1SR1R3R2 (qp : PredIdx) (r1 r3 r2 : GrIdx) (hint : BitVec 2)
  /-- `ld1.s r1=[r3],imm9` (M3, R382). -/
  | ld1SR1R3Imm9 (qp : PredIdx) (r1 r3 : GrIdx) (imm9 : BitVec 9) (hint : BitVec 2)
  /-- `ld2.s r1=[r3]` (M1, R382). -/
  | ld2SR1R3 (qp : PredIdx) (r1 r3 : GrIdx) (hint : BitVec 2)
  /-- `ld2.s r1=[r3],r2` (M2, R382). -/
  | ld2SR1R3R2 (qp : PredIdx) (r1 r3 r2 : GrIdx) (hint : BitVec 2)
  /-- `ld2.s r1=[r3],imm9` (M3, R382). -/
  | ld2SR1R3Imm9 (qp : PredIdx) (r1 r3 : GrIdx) (imm9 : BitVec 9) (hint : BitVec 2)
  /-- `ld4.s r1=[r3]` (M1, R382). -/
  | ld4SR1R3 (qp : PredIdx) (r1 r3 : GrIdx) (hint : BitVec 2)
  /-- `ld4.s r1=[r3],r2` (M2, R382). -/
  | ld4SR1R3R2 (qp : PredIdx) (r1 r3 r2 : GrIdx) (hint : BitVec 2)
  /-- `ld4.s r1=[r3],imm9` (M3, R382). -/
  | ld4SR1R3Imm9 (qp : PredIdx) (r1 r3 : GrIdx) (imm9 : BitVec 9) (hint : BitVec 2)
  /-- `ld8.s r1=[r3]` (M1, R382). -/
  | ld8SR1R3 (qp : PredIdx) (r1 r3 : GrIdx) (hint : BitVec 2)
  /-- `ld8.s r1=[r3],r2` (M2, R382). -/
  | ld8SR1R3R2 (qp : PredIdx) (r1 r3 r2 : GrIdx) (hint : BitVec 2)
  /-- `ld8.s r1=[r3],imm9` (M3, R382). -/
  | ld8SR1R3Imm9 (qp : PredIdx) (r1 r3 : GrIdx) (imm9 : BitVec 9) (hint : BitVec 2)
  /-- `ld1.a r1=[r3]` (M1, R383). -/
  | ld1AR1R3 (qp : PredIdx) (r1 r3 : GrIdx) (hint : BitVec 2)
  /-- `ld1.a r1=[r3],r2` (M2, R383). -/
  | ld1AR1R3R2 (qp : PredIdx) (r1 r3 r2 : GrIdx) (hint : BitVec 2)
  /-- `ld1.a r1=[r3],imm9` (M3, R383). -/
  | ld1AR1R3Imm9 (qp : PredIdx) (r1 r3 : GrIdx) (imm9 : BitVec 9) (hint : BitVec 2)
  /-- `ld2.a r1=[r3]` (M1, R383). -/
  | ld2AR1R3 (qp : PredIdx) (r1 r3 : GrIdx) (hint : BitVec 2)
  /-- `ld2.a r1=[r3],r2` (M2, R383). -/
  | ld2AR1R3R2 (qp : PredIdx) (r1 r3 r2 : GrIdx) (hint : BitVec 2)
  /-- `ld2.a r1=[r3],imm9` (M3, R383). -/
  | ld2AR1R3Imm9 (qp : PredIdx) (r1 r3 : GrIdx) (imm9 : BitVec 9) (hint : BitVec 2)
  /-- `ld4.a r1=[r3]` (M1, R383). -/
  | ld4AR1R3 (qp : PredIdx) (r1 r3 : GrIdx) (hint : BitVec 2)
  /-- `ld4.a r1=[r3],r2` (M2, R383). -/
  | ld4AR1R3R2 (qp : PredIdx) (r1 r3 r2 : GrIdx) (hint : BitVec 2)
  /-- `ld4.a r1=[r3],imm9` (M3, R383). -/
  | ld4AR1R3Imm9 (qp : PredIdx) (r1 r3 : GrIdx) (imm9 : BitVec 9) (hint : BitVec 2)
  /-- `ld8.a r1=[r3]` (M1, R383). -/
  | ld8AR1R3 (qp : PredIdx) (r1 r3 : GrIdx) (hint : BitVec 2)
  /-- `ld8.a r1=[r3],r2` (M2, R383). -/
  | ld8AR1R3R2 (qp : PredIdx) (r1 r3 r2 : GrIdx) (hint : BitVec 2)
  /-- `ld8.a r1=[r3],imm9` (M3, R383). -/
  | ld8AR1R3Imm9 (qp : PredIdx) (r1 r3 : GrIdx) (imm9 : BitVec 9) (hint : BitVec 2)
  /-- `ld1.sa r1=[r3]` (M1, R384). -/
  | ld1SaR1R3 (qp : PredIdx) (r1 r3 : GrIdx) (hint : BitVec 2)
  /-- `ld1.sa r1=[r3],r2` (M2, R384). -/
  | ld1SaR1R3R2 (qp : PredIdx) (r1 r3 r2 : GrIdx) (hint : BitVec 2)
  /-- `ld1.sa r1=[r3],imm9` (M3, R384). -/
  | ld1SaR1R3Imm9 (qp : PredIdx) (r1 r3 : GrIdx) (imm9 : BitVec 9) (hint : BitVec 2)
  /-- `ld2.sa r1=[r3]` (M1, R384). -/
  | ld2SaR1R3 (qp : PredIdx) (r1 r3 : GrIdx) (hint : BitVec 2)
  /-- `ld2.sa r1=[r3],r2` (M2, R384). -/
  | ld2SaR1R3R2 (qp : PredIdx) (r1 r3 r2 : GrIdx) (hint : BitVec 2)
  /-- `ld2.sa r1=[r3],imm9` (M3, R384). -/
  | ld2SaR1R3Imm9 (qp : PredIdx) (r1 r3 : GrIdx) (imm9 : BitVec 9) (hint : BitVec 2)
  /-- `ld4.sa r1=[r3]` (M1, R384). -/
  | ld4SaR1R3 (qp : PredIdx) (r1 r3 : GrIdx) (hint : BitVec 2)
  /-- `ld4.sa r1=[r3],r2` (M2, R384). -/
  | ld4SaR1R3R2 (qp : PredIdx) (r1 r3 r2 : GrIdx) (hint : BitVec 2)
  /-- `ld4.sa r1=[r3],imm9` (M3, R384). -/
  | ld4SaR1R3Imm9 (qp : PredIdx) (r1 r3 : GrIdx) (imm9 : BitVec 9) (hint : BitVec 2)
  /-- `ld8.sa r1=[r3]` (M1, R384). -/
  | ld8SaR1R3 (qp : PredIdx) (r1 r3 : GrIdx) (hint : BitVec 2)
  /-- `ld8.sa r1=[r3],r2` (M2, R384). -/
  | ld8SaR1R3R2 (qp : PredIdx) (r1 r3 r2 : GrIdx) (hint : BitVec 2)
  /-- `ld8.sa r1=[r3],imm9` (M3, R384). -/
  | ld8SaR1R3Imm9 (qp : PredIdx) (r1 r3 : GrIdx) (imm9 : BitVec 9) (hint : BitVec 2)
  /-- `ld1.bias r1=[r3]` (M1, R386). -/
  | ld1BiasR1R3 (qp : PredIdx) (r1 r3 : GrIdx) (hint : BitVec 2)
  /-- `ld1.bias r1=[r3],r2` (M2, R386). -/
  | ld1BiasR1R3R2 (qp : PredIdx) (r1 r3 r2 : GrIdx) (hint : BitVec 2)
  /-- `ld1.bias r1=[r3],imm9` (M3, R386). -/
  | ld1BiasR1R3Imm9 (qp : PredIdx) (r1 r3 : GrIdx) (imm9 : BitVec 9) (hint : BitVec 2)
  /-- `ld2.bias r1=[r3]` (M1, R386). -/
  | ld2BiasR1R3 (qp : PredIdx) (r1 r3 : GrIdx) (hint : BitVec 2)
  /-- `ld2.bias r1=[r3],r2` (M2, R386). -/
  | ld2BiasR1R3R2 (qp : PredIdx) (r1 r3 r2 : GrIdx) (hint : BitVec 2)
  /-- `ld2.bias r1=[r3],imm9` (M3, R386). -/
  | ld2BiasR1R3Imm9 (qp : PredIdx) (r1 r3 : GrIdx) (imm9 : BitVec 9) (hint : BitVec 2)
  /-- `ld4.bias r1=[r3]` (M1, R386). -/
  | ld4BiasR1R3 (qp : PredIdx) (r1 r3 : GrIdx) (hint : BitVec 2)
  /-- `ld4.bias r1=[r3],r2` (M2, R386). -/
  | ld4BiasR1R3R2 (qp : PredIdx) (r1 r3 r2 : GrIdx) (hint : BitVec 2)
  /-- `ld4.bias r1=[r3],imm9` (M3, R386). -/
  | ld4BiasR1R3Imm9 (qp : PredIdx) (r1 r3 : GrIdx) (imm9 : BitVec 9) (hint : BitVec 2)
  /-- `ld8.bias r1=[r3]` (M1, R386). -/
  | ld8BiasR1R3 (qp : PredIdx) (r1 r3 : GrIdx) (hint : BitVec 2)
  /-- `ld8.bias r1=[r3],r2` (M2, R386). -/
  | ld8BiasR1R3R2 (qp : PredIdx) (r1 r3 r2 : GrIdx) (hint : BitVec 2)
  /-- `ld8.bias r1=[r3],imm9` (M3, R386). -/
  | ld8BiasR1R3Imm9 (qp : PredIdx) (r1 r3 : GrIdx) (imm9 : BitVec 9) (hint : BitVec 2)
  /-- `ld1.acq r1=[r3]` (M1, R386). -/
  | ld1AcqR1R3 (qp : PredIdx) (r1 r3 : GrIdx) (hint : BitVec 2)
  /-- `ld1.acq r1=[r3],r2` (M2, R386). -/
  | ld1AcqR1R3R2 (qp : PredIdx) (r1 r3 r2 : GrIdx) (hint : BitVec 2)
  /-- `ld1.acq r1=[r3],imm9` (M3, R386). -/
  | ld1AcqR1R3Imm9 (qp : PredIdx) (r1 r3 : GrIdx) (imm9 : BitVec 9) (hint : BitVec 2)
  /-- `ld2.acq r1=[r3]` (M1, R386). -/
  | ld2AcqR1R3 (qp : PredIdx) (r1 r3 : GrIdx) (hint : BitVec 2)
  /-- `ld2.acq r1=[r3],r2` (M2, R386). -/
  | ld2AcqR1R3R2 (qp : PredIdx) (r1 r3 r2 : GrIdx) (hint : BitVec 2)
  /-- `ld2.acq r1=[r3],imm9` (M3, R386). -/
  | ld2AcqR1R3Imm9 (qp : PredIdx) (r1 r3 : GrIdx) (imm9 : BitVec 9) (hint : BitVec 2)
  /-- `ld4.acq r1=[r3]` (M1, R386). -/
  | ld4AcqR1R3 (qp : PredIdx) (r1 r3 : GrIdx) (hint : BitVec 2)
  /-- `ld4.acq r1=[r3],r2` (M2, R386). -/
  | ld4AcqR1R3R2 (qp : PredIdx) (r1 r3 r2 : GrIdx) (hint : BitVec 2)
  /-- `ld4.acq r1=[r3],imm9` (M3, R386). -/
  | ld4AcqR1R3Imm9 (qp : PredIdx) (r1 r3 : GrIdx) (imm9 : BitVec 9) (hint : BitVec 2)
  /-- `ld8.acq r1=[r3]` (M1, R386). -/
  | ld8AcqR1R3 (qp : PredIdx) (r1 r3 : GrIdx) (hint : BitVec 2)
  /-- `ld8.acq r1=[r3],r2` (M2, R386). -/
  | ld8AcqR1R3R2 (qp : PredIdx) (r1 r3 r2 : GrIdx) (hint : BitVec 2)
  /-- `ld8.acq r1=[r3],imm9` (M3, R386). -/
  | ld8AcqR1R3Imm9 (qp : PredIdx) (r1 r3 : GrIdx) (imm9 : BitVec 9) (hint : BitVec 2)
  /-- `ld1.c.clr r1=[r3]` (M1, R385). -/
  | ld1CClrR1R3 (qp : PredIdx) (r1 r3 : GrIdx) (hint : BitVec 2)
  /-- `ld1.c.clr r1=[r3],r2` (M2, R385). -/
  | ld1CClrR1R3R2 (qp : PredIdx) (r1 r3 r2 : GrIdx) (hint : BitVec 2)
  /-- `ld1.c.clr r1=[r3],imm9` (M3, R385). -/
  | ld1CClrR1R3Imm9 (qp : PredIdx) (r1 r3 : GrIdx) (imm9 : BitVec 9) (hint : BitVec 2)
  /-- `ld2.c.clr r1=[r3]` (M1, R385). -/
  | ld2CClrR1R3 (qp : PredIdx) (r1 r3 : GrIdx) (hint : BitVec 2)
  /-- `ld2.c.clr r1=[r3],r2` (M2, R385). -/
  | ld2CClrR1R3R2 (qp : PredIdx) (r1 r3 r2 : GrIdx) (hint : BitVec 2)
  /-- `ld2.c.clr r1=[r3],imm9` (M3, R385). -/
  | ld2CClrR1R3Imm9 (qp : PredIdx) (r1 r3 : GrIdx) (imm9 : BitVec 9) (hint : BitVec 2)
  /-- `ld4.c.clr r1=[r3]` (M1, R385). -/
  | ld4CClrR1R3 (qp : PredIdx) (r1 r3 : GrIdx) (hint : BitVec 2)
  /-- `ld4.c.clr r1=[r3],r2` (M2, R385). -/
  | ld4CClrR1R3R2 (qp : PredIdx) (r1 r3 r2 : GrIdx) (hint : BitVec 2)
  /-- `ld4.c.clr r1=[r3],imm9` (M3, R385). -/
  | ld4CClrR1R3Imm9 (qp : PredIdx) (r1 r3 : GrIdx) (imm9 : BitVec 9) (hint : BitVec 2)
  /-- `ld8.c.clr r1=[r3]` (M1, R385). -/
  | ld8CClrR1R3 (qp : PredIdx) (r1 r3 : GrIdx) (hint : BitVec 2)
  /-- `ld8.c.clr r1=[r3],r2` (M2, R385). -/
  | ld8CClrR1R3R2 (qp : PredIdx) (r1 r3 r2 : GrIdx) (hint : BitVec 2)
  /-- `ld8.c.clr r1=[r3],imm9` (M3, R385). -/
  | ld8CClrR1R3Imm9 (qp : PredIdx) (r1 r3 : GrIdx) (imm9 : BitVec 9) (hint : BitVec 2)
  /-- `ld1.c.nc r1=[r3]` (M1, R385). -/
  | ld1CNcR1R3 (qp : PredIdx) (r1 r3 : GrIdx) (hint : BitVec 2)
  /-- `ld1.c.nc r1=[r3],r2` (M2, R385). -/
  | ld1CNcR1R3R2 (qp : PredIdx) (r1 r3 r2 : GrIdx) (hint : BitVec 2)
  /-- `ld1.c.nc r1=[r3],imm9` (M3, R385). -/
  | ld1CNcR1R3Imm9 (qp : PredIdx) (r1 r3 : GrIdx) (imm9 : BitVec 9) (hint : BitVec 2)
  /-- `ld2.c.nc r1=[r3]` (M1, R385). -/
  | ld2CNcR1R3 (qp : PredIdx) (r1 r3 : GrIdx) (hint : BitVec 2)
  /-- `ld2.c.nc r1=[r3],r2` (M2, R385). -/
  | ld2CNcR1R3R2 (qp : PredIdx) (r1 r3 r2 : GrIdx) (hint : BitVec 2)
  /-- `ld2.c.nc r1=[r3],imm9` (M3, R385). -/
  | ld2CNcR1R3Imm9 (qp : PredIdx) (r1 r3 : GrIdx) (imm9 : BitVec 9) (hint : BitVec 2)
  /-- `ld4.c.nc r1=[r3]` (M1, R385). -/
  | ld4CNcR1R3 (qp : PredIdx) (r1 r3 : GrIdx) (hint : BitVec 2)
  /-- `ld4.c.nc r1=[r3],r2` (M2, R385). -/
  | ld4CNcR1R3R2 (qp : PredIdx) (r1 r3 r2 : GrIdx) (hint : BitVec 2)
  /-- `ld4.c.nc r1=[r3],imm9` (M3, R385). -/
  | ld4CNcR1R3Imm9 (qp : PredIdx) (r1 r3 : GrIdx) (imm9 : BitVec 9) (hint : BitVec 2)
  /-- `ld8.c.nc r1=[r3]` (M1, R385). -/
  | ld8CNcR1R3 (qp : PredIdx) (r1 r3 : GrIdx) (hint : BitVec 2)
  /-- `ld8.c.nc r1=[r3],r2` (M2, R385). -/
  | ld8CNcR1R3R2 (qp : PredIdx) (r1 r3 r2 : GrIdx) (hint : BitVec 2)
  /-- `ld8.c.nc r1=[r3],imm9` (M3, R385). -/
  | ld8CNcR1R3Imm9 (qp : PredIdx) (r1 r3 : GrIdx) (imm9 : BitVec 9) (hint : BitVec 2)
  /-- `ld1.c.clr.acq r1=[r3]` (M1, R385). -/
  | ld1CClrAcqR1R3 (qp : PredIdx) (r1 r3 : GrIdx) (hint : BitVec 2)
  /-- `ld1.c.clr.acq r1=[r3],r2` (M2, R385). -/
  | ld1CClrAcqR1R3R2 (qp : PredIdx) (r1 r3 r2 : GrIdx) (hint : BitVec 2)
  /-- `ld1.c.clr.acq r1=[r3],imm9` (M3, R385). -/
  | ld1CClrAcqR1R3Imm9 (qp : PredIdx) (r1 r3 : GrIdx) (imm9 : BitVec 9) (hint : BitVec 2)
  /-- `ld2.c.clr.acq r1=[r3]` (M1, R385). -/
  | ld2CClrAcqR1R3 (qp : PredIdx) (r1 r3 : GrIdx) (hint : BitVec 2)
  /-- `ld2.c.clr.acq r1=[r3],r2` (M2, R385). -/
  | ld2CClrAcqR1R3R2 (qp : PredIdx) (r1 r3 r2 : GrIdx) (hint : BitVec 2)
  /-- `ld2.c.clr.acq r1=[r3],imm9` (M3, R385). -/
  | ld2CClrAcqR1R3Imm9 (qp : PredIdx) (r1 r3 : GrIdx) (imm9 : BitVec 9) (hint : BitVec 2)
  /-- `ld4.c.clr.acq r1=[r3]` (M1, R385). -/
  | ld4CClrAcqR1R3 (qp : PredIdx) (r1 r3 : GrIdx) (hint : BitVec 2)
  /-- `ld4.c.clr.acq r1=[r3],r2` (M2, R385). -/
  | ld4CClrAcqR1R3R2 (qp : PredIdx) (r1 r3 r2 : GrIdx) (hint : BitVec 2)
  /-- `ld4.c.clr.acq r1=[r3],imm9` (M3, R385). -/
  | ld4CClrAcqR1R3Imm9 (qp : PredIdx) (r1 r3 : GrIdx) (imm9 : BitVec 9) (hint : BitVec 2)
  /-- `ld8.c.clr.acq r1=[r3]` (M1, R385). -/
  | ld8CClrAcqR1R3 (qp : PredIdx) (r1 r3 : GrIdx) (hint : BitVec 2)
  /-- `ld8.c.clr.acq r1=[r3],r2` (M2, R385). -/
  | ld8CClrAcqR1R3R2 (qp : PredIdx) (r1 r3 r2 : GrIdx) (hint : BitVec 2)
  /-- `ld8.c.clr.acq r1=[r3],imm9` (M3, R385). -/
  | ld8CClrAcqR1R3Imm9 (qp : PredIdx) (r1 r3 : GrIdx) (imm9 : BitVec 9) (hint : BitVec 2)
  /-- `ld8.fill r1=[r3]` (M1, R386). -/
  | ld8FillR1R3 (qp : PredIdx) (r1 r3 : GrIdx) (hint : BitVec 2)
  /-- `ld8.fill r1=[r3],r2` (M2, R386). -/
  | ld8FillR1R3R2 (qp : PredIdx) (r1 r3 r2 : GrIdx) (hint : BitVec 2)
  /-- `ld8.fill r1=[r3],imm9` (M3, R386). -/
  | ld8FillR1R3Imm9 (qp : PredIdx) (r1 r3 : GrIdx) (imm9 : BitVec 9) (hint : BitVec 2)
  /-- `st1 [r3]=r2` (M4, R388). -/
  | st1R3R2 (qp : PredIdx) (r3 r2 : GrIdx) (hint : BitVec 2)
  /-- `st1 [r3]=r2,imm9` (M5, R388). -/
  | st1R3R2Imm9 (qp : PredIdx) (r3 r2 : GrIdx) (imm9 : BitVec 9) (hint : BitVec 2)
  /-- `st2 [r3]=r2` (M4, R388). -/
  | st2R3R2 (qp : PredIdx) (r3 r2 : GrIdx) (hint : BitVec 2)
  /-- `st2 [r3]=r2,imm9` (M5, R388). -/
  | st2R3R2Imm9 (qp : PredIdx) (r3 r2 : GrIdx) (imm9 : BitVec 9) (hint : BitVec 2)
  /-- `st4 [r3]=r2` (M4, R388). -/
  | st4R3R2 (qp : PredIdx) (r3 r2 : GrIdx) (hint : BitVec 2)
  /-- `st4 [r3]=r2,imm9` (M5, R388). -/
  | st4R3R2Imm9 (qp : PredIdx) (r3 r2 : GrIdx) (imm9 : BitVec 9) (hint : BitVec 2)
  /-- `st8 [r3]=r2` (M4, R388). -/
  | st8R3R2 (qp : PredIdx) (r3 r2 : GrIdx) (hint : BitVec 2)
  /-- `st8 [r3]=r2,imm9` (M5, R388). -/
  | st8R3R2Imm9 (qp : PredIdx) (r3 r2 : GrIdx) (imm9 : BitVec 9) (hint : BitVec 2)
  /-- `st1.rel [r3]=r2` (M4, R389). -/
  | st1RelR3R2 (qp : PredIdx) (r3 r2 : GrIdx) (hint : BitVec 2)
  /-- `st1.rel [r3]=r2,imm9` (M5, R389). -/
  | st1RelR3R2Imm9 (qp : PredIdx) (r3 r2 : GrIdx) (imm9 : BitVec 9) (hint : BitVec 2)
  /-- `st2.rel [r3]=r2` (M4, R389). -/
  | st2RelR3R2 (qp : PredIdx) (r3 r2 : GrIdx) (hint : BitVec 2)
  /-- `st2.rel [r3]=r2,imm9` (M5, R389). -/
  | st2RelR3R2Imm9 (qp : PredIdx) (r3 r2 : GrIdx) (imm9 : BitVec 9) (hint : BitVec 2)
  /-- `st4.rel [r3]=r2` (M4, R389). -/
  | st4RelR3R2 (qp : PredIdx) (r3 r2 : GrIdx) (hint : BitVec 2)
  /-- `st4.rel [r3]=r2,imm9` (M5, R389). -/
  | st4RelR3R2Imm9 (qp : PredIdx) (r3 r2 : GrIdx) (imm9 : BitVec 9) (hint : BitVec 2)
  /-- `st8.rel [r3]=r2` (M4, R389). -/
  | st8RelR3R2 (qp : PredIdx) (r3 r2 : GrIdx) (hint : BitVec 2)
  /-- `st8.rel [r3]=r2,imm9` (M5, R389). -/
  | st8RelR3R2Imm9 (qp : PredIdx) (r3 r2 : GrIdx) (imm9 : BitVec 9) (hint : BitVec 2)
  /-- `st8.spill [r3]=r2` (M4, R390). -/
  | st8SpillR3R2 (qp : PredIdx) (r3 r2 : GrIdx) (hint : BitVec 2)
  /-- `st8.spill [r3]=r2,imm9` (M5, R390). -/
  | st8SpillR3R2Imm9 (qp : PredIdx) (r3 r2 : GrIdx) (imm9 : BitVec 9) (hint : BitVec 2)
  /-- `ldfe f1=[r3]` (M6, R392). -/
  | ldfeF1R3 (qp : PredIdx) (f1 : FrIdx) (r3 : GrIdx) (hint : BitVec 2)
  /-- `ldfe f1=[r3],r2` (M7, R392). -/
  | ldfeF1R3R2 (qp : PredIdx) (f1 : FrIdx) (r3 r2 : GrIdx) (hint : BitVec 2)
  /-- `ldfe f1=[r3],imm9` (M8, R392). -/
  | ldfeF1R3Imm9 (qp : PredIdx) (f1 : FrIdx) (r3 : GrIdx) (imm9 : BitVec 9) (hint : BitVec 2)
  /-- `ldf8 f1=[r3]` (M6, R392). -/
  | ldf8F1R3 (qp : PredIdx) (f1 : FrIdx) (r3 : GrIdx) (hint : BitVec 2)
  /-- `ldf8 f1=[r3],r2` (M7, R392). -/
  | ldf8F1R3R2 (qp : PredIdx) (f1 : FrIdx) (r3 r2 : GrIdx) (hint : BitVec 2)
  /-- `ldf8 f1=[r3],imm9` (M8, R392). -/
  | ldf8F1R3Imm9 (qp : PredIdx) (f1 : FrIdx) (r3 : GrIdx) (imm9 : BitVec 9) (hint : BitVec 2)
  /-- `ldfs f1=[r3]` (M6, R392). -/
  | ldfsF1R3 (qp : PredIdx) (f1 : FrIdx) (r3 : GrIdx) (hint : BitVec 2)
  /-- `ldfs f1=[r3],r2` (M7, R392). -/
  | ldfsF1R3R2 (qp : PredIdx) (f1 : FrIdx) (r3 r2 : GrIdx) (hint : BitVec 2)
  /-- `ldfs f1=[r3],imm9` (M8, R392). -/
  | ldfsF1R3Imm9 (qp : PredIdx) (f1 : FrIdx) (r3 : GrIdx) (imm9 : BitVec 9) (hint : BitVec 2)
  /-- `ldfd f1=[r3]` (M6, R392). -/
  | ldfdF1R3 (qp : PredIdx) (f1 : FrIdx) (r3 : GrIdx) (hint : BitVec 2)
  /-- `ldfd f1=[r3],r2` (M7, R392). -/
  | ldfdF1R3R2 (qp : PredIdx) (f1 : FrIdx) (r3 r2 : GrIdx) (hint : BitVec 2)
  /-- `ldfd f1=[r3],imm9` (M8, R392). -/
  | ldfdF1R3Imm9 (qp : PredIdx) (f1 : FrIdx) (r3 : GrIdx) (imm9 : BitVec 9) (hint : BitVec 2)
  /-- `ldfe.s f1=[r3]` (M6, R393). -/
  | ldfeSF1R3 (qp : PredIdx) (f1 : FrIdx) (r3 : GrIdx) (hint : BitVec 2)
  /-- `ldfe.s f1=[r3],r2` (M7, R393). -/
  | ldfeSF1R3R2 (qp : PredIdx) (f1 : FrIdx) (r3 r2 : GrIdx) (hint : BitVec 2)
  /-- `ldfe.s f1=[r3],imm9` (M8, R393). -/
  | ldfeSF1R3Imm9 (qp : PredIdx) (f1 : FrIdx) (r3 : GrIdx) (imm9 : BitVec 9) (hint : BitVec 2)
  /-- `ldf8.s f1=[r3]` (M6, R393). -/
  | ldf8SF1R3 (qp : PredIdx) (f1 : FrIdx) (r3 : GrIdx) (hint : BitVec 2)
  /-- `ldf8.s f1=[r3],r2` (M7, R393). -/
  | ldf8SF1R3R2 (qp : PredIdx) (f1 : FrIdx) (r3 r2 : GrIdx) (hint : BitVec 2)
  /-- `ldf8.s f1=[r3],imm9` (M8, R393). -/
  | ldf8SF1R3Imm9 (qp : PredIdx) (f1 : FrIdx) (r3 : GrIdx) (imm9 : BitVec 9) (hint : BitVec 2)
  /-- `ldfs.s f1=[r3]` (M6, R393). -/
  | ldfsSF1R3 (qp : PredIdx) (f1 : FrIdx) (r3 : GrIdx) (hint : BitVec 2)
  /-- `ldfs.s f1=[r3],r2` (M7, R393). -/
  | ldfsSF1R3R2 (qp : PredIdx) (f1 : FrIdx) (r3 r2 : GrIdx) (hint : BitVec 2)
  /-- `ldfs.s f1=[r3],imm9` (M8, R393). -/
  | ldfsSF1R3Imm9 (qp : PredIdx) (f1 : FrIdx) (r3 : GrIdx) (imm9 : BitVec 9) (hint : BitVec 2)
  /-- `ldfd.s f1=[r3]` (M6, R393). -/
  | ldfdSF1R3 (qp : PredIdx) (f1 : FrIdx) (r3 : GrIdx) (hint : BitVec 2)
  /-- `ldfd.s f1=[r3],r2` (M7, R393). -/
  | ldfdSF1R3R2 (qp : PredIdx) (f1 : FrIdx) (r3 r2 : GrIdx) (hint : BitVec 2)
  /-- `ldfd.s f1=[r3],imm9` (M8, R393). -/
  | ldfdSF1R3Imm9 (qp : PredIdx) (f1 : FrIdx) (r3 : GrIdx) (imm9 : BitVec 9) (hint : BitVec 2)
  /-- `ldfe.a f1=[r3]` (M6, R393). -/
  | ldfeAF1R3 (qp : PredIdx) (f1 : FrIdx) (r3 : GrIdx) (hint : BitVec 2)
  /-- `ldfe.a f1=[r3],r2` (M7, R393). -/
  | ldfeAF1R3R2 (qp : PredIdx) (f1 : FrIdx) (r3 r2 : GrIdx) (hint : BitVec 2)
  /-- `ldfe.a f1=[r3],imm9` (M8, R393). -/
  | ldfeAF1R3Imm9 (qp : PredIdx) (f1 : FrIdx) (r3 : GrIdx) (imm9 : BitVec 9) (hint : BitVec 2)
  /-- `ldf8.a f1=[r3]` (M6, R393). -/
  | ldf8AF1R3 (qp : PredIdx) (f1 : FrIdx) (r3 : GrIdx) (hint : BitVec 2)
  /-- `ldf8.a f1=[r3],r2` (M7, R393). -/
  | ldf8AF1R3R2 (qp : PredIdx) (f1 : FrIdx) (r3 r2 : GrIdx) (hint : BitVec 2)
  /-- `ldf8.a f1=[r3],imm9` (M8, R393). -/
  | ldf8AF1R3Imm9 (qp : PredIdx) (f1 : FrIdx) (r3 : GrIdx) (imm9 : BitVec 9) (hint : BitVec 2)
  /-- `ldfs.a f1=[r3]` (M6, R393). -/
  | ldfsAF1R3 (qp : PredIdx) (f1 : FrIdx) (r3 : GrIdx) (hint : BitVec 2)
  /-- `ldfs.a f1=[r3],r2` (M7, R393). -/
  | ldfsAF1R3R2 (qp : PredIdx) (f1 : FrIdx) (r3 r2 : GrIdx) (hint : BitVec 2)
  /-- `ldfs.a f1=[r3],imm9` (M8, R393). -/
  | ldfsAF1R3Imm9 (qp : PredIdx) (f1 : FrIdx) (r3 : GrIdx) (imm9 : BitVec 9) (hint : BitVec 2)
  /-- `ldfd.a f1=[r3]` (M6, R393). -/
  | ldfdAF1R3 (qp : PredIdx) (f1 : FrIdx) (r3 : GrIdx) (hint : BitVec 2)
  /-- `ldfd.a f1=[r3],r2` (M7, R393). -/
  | ldfdAF1R3R2 (qp : PredIdx) (f1 : FrIdx) (r3 r2 : GrIdx) (hint : BitVec 2)
  /-- `ldfd.a f1=[r3],imm9` (M8, R393). -/
  | ldfdAF1R3Imm9 (qp : PredIdx) (f1 : FrIdx) (r3 : GrIdx) (imm9 : BitVec 9) (hint : BitVec 2)
  /-- `ldfe.sa f1=[r3]` (M6, R393). -/
  | ldfeSaF1R3 (qp : PredIdx) (f1 : FrIdx) (r3 : GrIdx) (hint : BitVec 2)
  /-- `ldfe.sa f1=[r3],r2` (M7, R393). -/
  | ldfeSaF1R3R2 (qp : PredIdx) (f1 : FrIdx) (r3 r2 : GrIdx) (hint : BitVec 2)
  /-- `ldfe.sa f1=[r3],imm9` (M8, R393). -/
  | ldfeSaF1R3Imm9 (qp : PredIdx) (f1 : FrIdx) (r3 : GrIdx) (imm9 : BitVec 9) (hint : BitVec 2)
  /-- `ldf8.sa f1=[r3]` (M6, R393). -/
  | ldf8SaF1R3 (qp : PredIdx) (f1 : FrIdx) (r3 : GrIdx) (hint : BitVec 2)
  /-- `ldf8.sa f1=[r3],r2` (M7, R393). -/
  | ldf8SaF1R3R2 (qp : PredIdx) (f1 : FrIdx) (r3 r2 : GrIdx) (hint : BitVec 2)
  /-- `ldf8.sa f1=[r3],imm9` (M8, R393). -/
  | ldf8SaF1R3Imm9 (qp : PredIdx) (f1 : FrIdx) (r3 : GrIdx) (imm9 : BitVec 9) (hint : BitVec 2)
  /-- `ldfs.sa f1=[r3]` (M6, R393). -/
  | ldfsSaF1R3 (qp : PredIdx) (f1 : FrIdx) (r3 : GrIdx) (hint : BitVec 2)
  /-- `ldfs.sa f1=[r3],r2` (M7, R393). -/
  | ldfsSaF1R3R2 (qp : PredIdx) (f1 : FrIdx) (r3 r2 : GrIdx) (hint : BitVec 2)
  /-- `ldfs.sa f1=[r3],imm9` (M8, R393). -/
  | ldfsSaF1R3Imm9 (qp : PredIdx) (f1 : FrIdx) (r3 : GrIdx) (imm9 : BitVec 9) (hint : BitVec 2)
  /-- `ldfd.sa f1=[r3]` (M6, R393). -/
  | ldfdSaF1R3 (qp : PredIdx) (f1 : FrIdx) (r3 : GrIdx) (hint : BitVec 2)
  /-- `ldfd.sa f1=[r3],r2` (M7, R393). -/
  | ldfdSaF1R3R2 (qp : PredIdx) (f1 : FrIdx) (r3 r2 : GrIdx) (hint : BitVec 2)
  /-- `ldfd.sa f1=[r3],imm9` (M8, R393). -/
  | ldfdSaF1R3Imm9 (qp : PredIdx) (f1 : FrIdx) (r3 : GrIdx) (imm9 : BitVec 9) (hint : BitVec 2)
  /-- `ldfe.c.clr f1=[r3]` (M6, R393). -/
  | ldfeCClrF1R3 (qp : PredIdx) (f1 : FrIdx) (r3 : GrIdx) (hint : BitVec 2)
  /-- `ldfe.c.clr f1=[r3],r2` (M7, R393). -/
  | ldfeCClrF1R3R2 (qp : PredIdx) (f1 : FrIdx) (r3 r2 : GrIdx) (hint : BitVec 2)
  /-- `ldfe.c.clr f1=[r3],imm9` (M8, R393). -/
  | ldfeCClrF1R3Imm9 (qp : PredIdx) (f1 : FrIdx) (r3 : GrIdx) (imm9 : BitVec 9) (hint : BitVec 2)
  /-- `ldf8.c.clr f1=[r3]` (M6, R393). -/
  | ldf8CClrF1R3 (qp : PredIdx) (f1 : FrIdx) (r3 : GrIdx) (hint : BitVec 2)
  /-- `ldf8.c.clr f1=[r3],r2` (M7, R393). -/
  | ldf8CClrF1R3R2 (qp : PredIdx) (f1 : FrIdx) (r3 r2 : GrIdx) (hint : BitVec 2)
  /-- `ldf8.c.clr f1=[r3],imm9` (M8, R393). -/
  | ldf8CClrF1R3Imm9 (qp : PredIdx) (f1 : FrIdx) (r3 : GrIdx) (imm9 : BitVec 9) (hint : BitVec 2)
  /-- `ldfs.c.clr f1=[r3]` (M6, R393). -/
  | ldfsCClrF1R3 (qp : PredIdx) (f1 : FrIdx) (r3 : GrIdx) (hint : BitVec 2)
  /-- `ldfs.c.clr f1=[r3],r2` (M7, R393). -/
  | ldfsCClrF1R3R2 (qp : PredIdx) (f1 : FrIdx) (r3 r2 : GrIdx) (hint : BitVec 2)
  /-- `ldfs.c.clr f1=[r3],imm9` (M8, R393). -/
  | ldfsCClrF1R3Imm9 (qp : PredIdx) (f1 : FrIdx) (r3 : GrIdx) (imm9 : BitVec 9) (hint : BitVec 2)
  /-- `ldfd.c.clr f1=[r3]` (M6, R393). -/
  | ldfdCClrF1R3 (qp : PredIdx) (f1 : FrIdx) (r3 : GrIdx) (hint : BitVec 2)
  /-- `ldfd.c.clr f1=[r3],r2` (M7, R393). -/
  | ldfdCClrF1R3R2 (qp : PredIdx) (f1 : FrIdx) (r3 r2 : GrIdx) (hint : BitVec 2)
  /-- `ldfd.c.clr f1=[r3],imm9` (M8, R393). -/
  | ldfdCClrF1R3Imm9 (qp : PredIdx) (f1 : FrIdx) (r3 : GrIdx) (imm9 : BitVec 9) (hint : BitVec 2)
  /-- `ldfe.c.nc f1=[r3]` (M6, R393). -/
  | ldfeCNcF1R3 (qp : PredIdx) (f1 : FrIdx) (r3 : GrIdx) (hint : BitVec 2)
  /-- `ldfe.c.nc f1=[r3],r2` (M7, R393). -/
  | ldfeCNcF1R3R2 (qp : PredIdx) (f1 : FrIdx) (r3 r2 : GrIdx) (hint : BitVec 2)
  /-- `ldfe.c.nc f1=[r3],imm9` (M8, R393). -/
  | ldfeCNcF1R3Imm9 (qp : PredIdx) (f1 : FrIdx) (r3 : GrIdx) (imm9 : BitVec 9) (hint : BitVec 2)
  /-- `ldf8.c.nc f1=[r3]` (M6, R393). -/
  | ldf8CNcF1R3 (qp : PredIdx) (f1 : FrIdx) (r3 : GrIdx) (hint : BitVec 2)
  /-- `ldf8.c.nc f1=[r3],r2` (M7, R393). -/
  | ldf8CNcF1R3R2 (qp : PredIdx) (f1 : FrIdx) (r3 r2 : GrIdx) (hint : BitVec 2)
  /-- `ldf8.c.nc f1=[r3],imm9` (M8, R393). -/
  | ldf8CNcF1R3Imm9 (qp : PredIdx) (f1 : FrIdx) (r3 : GrIdx) (imm9 : BitVec 9) (hint : BitVec 2)
  /-- `ldfs.c.nc f1=[r3]` (M6, R393). -/
  | ldfsCNcF1R3 (qp : PredIdx) (f1 : FrIdx) (r3 : GrIdx) (hint : BitVec 2)
  /-- `ldfs.c.nc f1=[r3],r2` (M7, R393). -/
  | ldfsCNcF1R3R2 (qp : PredIdx) (f1 : FrIdx) (r3 r2 : GrIdx) (hint : BitVec 2)
  /-- `ldfs.c.nc f1=[r3],imm9` (M8, R393). -/
  | ldfsCNcF1R3Imm9 (qp : PredIdx) (f1 : FrIdx) (r3 : GrIdx) (imm9 : BitVec 9) (hint : BitVec 2)
  /-- `ldfd.c.nc f1=[r3]` (M6, R393). -/
  | ldfdCNcF1R3 (qp : PredIdx) (f1 : FrIdx) (r3 : GrIdx) (hint : BitVec 2)
  /-- `ldfd.c.nc f1=[r3],r2` (M7, R393). -/
  | ldfdCNcF1R3R2 (qp : PredIdx) (f1 : FrIdx) (r3 r2 : GrIdx) (hint : BitVec 2)
  /-- `ldfd.c.nc f1=[r3],imm9` (M8, R393). -/
  | ldfdCNcF1R3Imm9 (qp : PredIdx) (f1 : FrIdx) (r3 : GrIdx) (imm9 : BitVec 9) (hint : BitVec 2)
  /-- `ldf.fill f1=[r3]` (M6, R394). -/
  | ldfFillF1R3 (qp : PredIdx) (f1 : FrIdx) (r3 : GrIdx) (hint : BitVec 2)
  /-- `ldf.fill f1=[r3],r2` (M7, R394). -/
  | ldfFillF1R3R2 (qp : PredIdx) (f1 : FrIdx) (r3 r2 : GrIdx) (hint : BitVec 2)
  /-- `ldf.fill f1=[r3],imm9` (M8, R394). -/
  | ldfFillF1R3Imm9 (qp : PredIdx) (f1 : FrIdx) (r3 : GrIdx) (imm9 : BitVec 9) (hint : BitVec 2)
  /-- `stfe [r3]=f2` (M9, R395). -/
  | stfeR3F2 (qp : PredIdx) (r3 : GrIdx) (f2 : FrIdx) (hint : BitVec 2)
  /-- `stfe [r3]=f2,imm9` (M10, R395). -/
  | stfeR3F2Imm9 (qp : PredIdx) (r3 : GrIdx) (f2 : FrIdx) (imm9 : BitVec 9) (hint : BitVec 2)
  /-- `stf8 [r3]=f2` (M9, R395). -/
  | stf8R3F2 (qp : PredIdx) (r3 : GrIdx) (f2 : FrIdx) (hint : BitVec 2)
  /-- `stf8 [r3]=f2,imm9` (M10, R395). -/
  | stf8R3F2Imm9 (qp : PredIdx) (r3 : GrIdx) (f2 : FrIdx) (imm9 : BitVec 9) (hint : BitVec 2)
  /-- `stfs [r3]=f2` (M9, R395). -/
  | stfsR3F2 (qp : PredIdx) (r3 : GrIdx) (f2 : FrIdx) (hint : BitVec 2)
  /-- `stfs [r3]=f2,imm9` (M10, R395). -/
  | stfsR3F2Imm9 (qp : PredIdx) (r3 : GrIdx) (f2 : FrIdx) (imm9 : BitVec 9) (hint : BitVec 2)
  /-- `stfd [r3]=f2` (M9, R395). -/
  | stfdR3F2 (qp : PredIdx) (r3 : GrIdx) (f2 : FrIdx) (hint : BitVec 2)
  /-- `stfd [r3]=f2,imm9` (M10, R395). -/
  | stfdR3F2Imm9 (qp : PredIdx) (r3 : GrIdx) (f2 : FrIdx) (imm9 : BitVec 9) (hint : BitVec 2)
  /-- `stf.spill [r3]=f2` (M9, R395). -/
  | stfSpillR3F2 (qp : PredIdx) (r3 : GrIdx) (f2 : FrIdx) (hint : BitVec 2)
  /-- `stf.spill [r3]=f2,imm9` (M10, R395). -/
  | stfSpillR3F2Imm9 (qp : PredIdx) (r3 : GrIdx) (f2 : FrIdx) (imm9 : BitVec 9) (hint : BitVec 2)
  /-- `ldfps f1,f2=[r3]` (M11, R396). -/
  | ldfpsF1F2R3 (qp : PredIdx) (f1 f2 : FrIdx) (r3 : GrIdx) (hint : BitVec 2)
  /-- `ldfps f1,f2=[r3],8` (M12, R396). -/
  | ldfpsF1F2R38 (qp : PredIdx) (f1 f2 : FrIdx) (r3 : GrIdx) (hint : BitVec 2)
  /-- `ldfps.s f1,f2=[r3]` (M11, R396). -/
  | ldfpsSF1F2R3 (qp : PredIdx) (f1 f2 : FrIdx) (r3 : GrIdx) (hint : BitVec 2)
  /-- `ldfps.s f1,f2=[r3],8` (M12, R396). -/
  | ldfpsSF1F2R38 (qp : PredIdx) (f1 f2 : FrIdx) (r3 : GrIdx) (hint : BitVec 2)
  /-- `ldfps.a f1,f2=[r3]` (M11, R396). -/
  | ldfpsAF1F2R3 (qp : PredIdx) (f1 f2 : FrIdx) (r3 : GrIdx) (hint : BitVec 2)
  /-- `ldfps.a f1,f2=[r3],8` (M12, R396). -/
  | ldfpsAF1F2R38 (qp : PredIdx) (f1 f2 : FrIdx) (r3 : GrIdx) (hint : BitVec 2)
  /-- `ldfps.sa f1,f2=[r3]` (M11, R396). -/
  | ldfpsSaF1F2R3 (qp : PredIdx) (f1 f2 : FrIdx) (r3 : GrIdx) (hint : BitVec 2)
  /-- `ldfps.sa f1,f2=[r3],8` (M12, R396). -/
  | ldfpsSaF1F2R38 (qp : PredIdx) (f1 f2 : FrIdx) (r3 : GrIdx) (hint : BitVec 2)
  /-- `ldfps.c.clr f1,f2=[r3]` (M11, R396). -/
  | ldfpsCClrF1F2R3 (qp : PredIdx) (f1 f2 : FrIdx) (r3 : GrIdx) (hint : BitVec 2)
  /-- `ldfps.c.clr f1,f2=[r3],8` (M12, R396). -/
  | ldfpsCClrF1F2R38 (qp : PredIdx) (f1 f2 : FrIdx) (r3 : GrIdx) (hint : BitVec 2)
  /-- `ldfps.c.nc f1,f2=[r3]` (M11, R396). -/
  | ldfpsCNcF1F2R3 (qp : PredIdx) (f1 f2 : FrIdx) (r3 : GrIdx) (hint : BitVec 2)
  /-- `ldfps.c.nc f1,f2=[r3],8` (M12, R396). -/
  | ldfpsCNcF1F2R38 (qp : PredIdx) (f1 f2 : FrIdx) (r3 : GrIdx) (hint : BitVec 2)
  /-- `ldfpd f1,f2=[r3]` (M11, R396). -/
  | ldfpdF1F2R3 (qp : PredIdx) (f1 f2 : FrIdx) (r3 : GrIdx) (hint : BitVec 2)
  /-- `ldfpd f1,f2=[r3],16` (M12, R396). -/
  | ldfpdF1F2R316 (qp : PredIdx) (f1 f2 : FrIdx) (r3 : GrIdx) (hint : BitVec 2)
  /-- `ldfpd.s f1,f2=[r3]` (M11, R396). -/
  | ldfpdSF1F2R3 (qp : PredIdx) (f1 f2 : FrIdx) (r3 : GrIdx) (hint : BitVec 2)
  /-- `ldfpd.s f1,f2=[r3],16` (M12, R396). -/
  | ldfpdSF1F2R316 (qp : PredIdx) (f1 f2 : FrIdx) (r3 : GrIdx) (hint : BitVec 2)
  /-- `ldfpd.a f1,f2=[r3]` (M11, R396). -/
  | ldfpdAF1F2R3 (qp : PredIdx) (f1 f2 : FrIdx) (r3 : GrIdx) (hint : BitVec 2)
  /-- `ldfpd.a f1,f2=[r3],16` (M12, R396). -/
  | ldfpdAF1F2R316 (qp : PredIdx) (f1 f2 : FrIdx) (r3 : GrIdx) (hint : BitVec 2)
  /-- `ldfpd.sa f1,f2=[r3]` (M11, R396). -/
  | ldfpdSaF1F2R3 (qp : PredIdx) (f1 f2 : FrIdx) (r3 : GrIdx) (hint : BitVec 2)
  /-- `ldfpd.sa f1,f2=[r3],16` (M12, R396). -/
  | ldfpdSaF1F2R316 (qp : PredIdx) (f1 f2 : FrIdx) (r3 : GrIdx) (hint : BitVec 2)
  /-- `ldfpd.c.clr f1,f2=[r3]` (M11, R396). -/
  | ldfpdCClrF1F2R3 (qp : PredIdx) (f1 f2 : FrIdx) (r3 : GrIdx) (hint : BitVec 2)
  /-- `ldfpd.c.clr f1,f2=[r3],16` (M12, R396). -/
  | ldfpdCClrF1F2R316 (qp : PredIdx) (f1 f2 : FrIdx) (r3 : GrIdx) (hint : BitVec 2)
  /-- `ldfpd.c.nc f1,f2=[r3]` (M11, R396). -/
  | ldfpdCNcF1F2R3 (qp : PredIdx) (f1 f2 : FrIdx) (r3 : GrIdx) (hint : BitVec 2)
  /-- `ldfpd.c.nc f1,f2=[r3],16` (M12, R396). -/
  | ldfpdCNcF1F2R316 (qp : PredIdx) (f1 f2 : FrIdx) (r3 : GrIdx) (hint : BitVec 2)
  /-- `ldfp8 f1,f2=[r3]` (M11, R396). -/
  | ldfp8F1F2R3 (qp : PredIdx) (f1 f2 : FrIdx) (r3 : GrIdx) (hint : BitVec 2)
  /-- `ldfp8 f1,f2=[r3],16` (M12, R396). -/
  | ldfp8F1F2R316 (qp : PredIdx) (f1 f2 : FrIdx) (r3 : GrIdx) (hint : BitVec 2)
  /-- `ldfp8.s f1,f2=[r3]` (M11, R396). -/
  | ldfp8SF1F2R3 (qp : PredIdx) (f1 f2 : FrIdx) (r3 : GrIdx) (hint : BitVec 2)
  /-- `ldfp8.s f1,f2=[r3],16` (M12, R396). -/
  | ldfp8SF1F2R316 (qp : PredIdx) (f1 f2 : FrIdx) (r3 : GrIdx) (hint : BitVec 2)
  /-- `ldfp8.a f1,f2=[r3]` (M11, R396). -/
  | ldfp8AF1F2R3 (qp : PredIdx) (f1 f2 : FrIdx) (r3 : GrIdx) (hint : BitVec 2)
  /-- `ldfp8.a f1,f2=[r3],16` (M12, R396). -/
  | ldfp8AF1F2R316 (qp : PredIdx) (f1 f2 : FrIdx) (r3 : GrIdx) (hint : BitVec 2)
  /-- `ldfp8.sa f1,f2=[r3]` (M11, R396). -/
  | ldfp8SaF1F2R3 (qp : PredIdx) (f1 f2 : FrIdx) (r3 : GrIdx) (hint : BitVec 2)
  /-- `ldfp8.sa f1,f2=[r3],16` (M12, R396). -/
  | ldfp8SaF1F2R316 (qp : PredIdx) (f1 f2 : FrIdx) (r3 : GrIdx) (hint : BitVec 2)
  /-- `ldfp8.c.clr f1,f2=[r3]` (M11, R396). -/
  | ldfp8CClrF1F2R3 (qp : PredIdx) (f1 f2 : FrIdx) (r3 : GrIdx) (hint : BitVec 2)
  /-- `ldfp8.c.clr f1,f2=[r3],16` (M12, R396). -/
  | ldfp8CClrF1F2R316 (qp : PredIdx) (f1 f2 : FrIdx) (r3 : GrIdx) (hint : BitVec 2)
  /-- `ldfp8.c.nc f1,f2=[r3]` (M11, R396). -/
  | ldfp8CNcF1F2R3 (qp : PredIdx) (f1 f2 : FrIdx) (r3 : GrIdx) (hint : BitVec 2)
  /-- `ldfp8.c.nc f1,f2=[r3],16` (M12, R396). -/
  | ldfp8CNcF1F2R316 (qp : PredIdx) (f1 f2 : FrIdx) (r3 : GrIdx) (hint : BitVec 2)
  /-- `lfetch [r3]` (M13, R412). -/
  | lfetchR3 (qp : PredIdx) (r3 : GrIdx) (hint : BitVec 2)
  /-- `lfetch [r3],r2` (M14, R412). -/
  | lfetchR3R2 (qp : PredIdx) (r3 r2 : GrIdx) (hint : BitVec 2)
  /-- `lfetch [r3],imm9` (M15, R412). -/
  | lfetchR3Imm9 (qp : PredIdx) (r3 : GrIdx) (imm9 : BitVec 9) (hint : BitVec 2)
  /-- `lfetch.excl [r3]` (M13, R412). -/
  | lfetchExclR3 (qp : PredIdx) (r3 : GrIdx) (hint : BitVec 2)
  /-- `lfetch.excl [r3],r2` (M14, R412). -/
  | lfetchExclR3R2 (qp : PredIdx) (r3 r2 : GrIdx) (hint : BitVec 2)
  /-- `lfetch.excl [r3],imm9` (M15, R412). -/
  | lfetchExclR3Imm9 (qp : PredIdx) (r3 : GrIdx) (imm9 : BitVec 9) (hint : BitVec 2)
  /-- `lfetch.fault [r3]` (M13, R412). -/
  | lfetchFaultR3 (qp : PredIdx) (r3 : GrIdx) (hint : BitVec 2)
  /-- `lfetch.fault [r3],r2` (M14, R412). -/
  | lfetchFaultR3R2 (qp : PredIdx) (r3 r2 : GrIdx) (hint : BitVec 2)
  /-- `lfetch.fault [r3],imm9` (M15, R412). -/
  | lfetchFaultR3Imm9 (qp : PredIdx) (r3 : GrIdx) (imm9 : BitVec 9) (hint : BitVec 2)
  /-- `lfetch.fault.excl [r3]` (M13, R412). -/
  | lfetchFaultExclR3 (qp : PredIdx) (r3 : GrIdx) (hint : BitVec 2)
  /-- `lfetch.fault.excl [r3],r2` (M14, R412). -/
  | lfetchFaultExclR3R2 (qp : PredIdx) (r3 r2 : GrIdx) (hint : BitVec 2)
  /-- `lfetch.fault.excl [r3],imm9` (M15, R412). -/
  | lfetchFaultExclR3Imm9 (qp : PredIdx) (r3 : GrIdx) (imm9 : BitVec 9) (hint : BitVec 2)
  /-- `cmpxchg1.acq r1=[r3],r2,ar.ccv` (M16, R400). -/
  | cmpxchg1AcqR1R3R2ArCcv (qp : PredIdx) (r1 r3 r2 : GrIdx) (hint : BitVec 2)
  /-- `cmpxchg1.rel r1=[r3],r2,ar.ccv` (M16, R400). -/
  | cmpxchg1RelR1R3R2ArCcv (qp : PredIdx) (r1 r3 r2 : GrIdx) (hint : BitVec 2)
  /-- `cmpxchg2.acq r1=[r3],r2,ar.ccv` (M16, R400). -/
  | cmpxchg2AcqR1R3R2ArCcv (qp : PredIdx) (r1 r3 r2 : GrIdx) (hint : BitVec 2)
  /-- `cmpxchg2.rel r1=[r3],r2,ar.ccv` (M16, R400). -/
  | cmpxchg2RelR1R3R2ArCcv (qp : PredIdx) (r1 r3 r2 : GrIdx) (hint : BitVec 2)
  /-- `cmpxchg4.acq r1=[r3],r2,ar.ccv` (M16, R400). -/
  | cmpxchg4AcqR1R3R2ArCcv (qp : PredIdx) (r1 r3 r2 : GrIdx) (hint : BitVec 2)
  /-- `cmpxchg4.rel r1=[r3],r2,ar.ccv` (M16, R400). -/
  | cmpxchg4RelR1R3R2ArCcv (qp : PredIdx) (r1 r3 r2 : GrIdx) (hint : BitVec 2)
  /-- `cmpxchg8.acq r1=[r3],r2,ar.ccv` (M16, R400). -/
  | cmpxchg8AcqR1R3R2ArCcv (qp : PredIdx) (r1 r3 r2 : GrIdx) (hint : BitVec 2)
  /-- `cmpxchg8.rel r1=[r3],r2,ar.ccv` (M16, R400). -/
  | cmpxchg8RelR1R3R2ArCcv (qp : PredIdx) (r1 r3 r2 : GrIdx) (hint : BitVec 2)
  /-- `xchg1 r1=[r3],r2` (M16, R401). -/
  | xchg1R1R3R2 (qp : PredIdx) (r1 r3 r2 : GrIdx) (hint : BitVec 2)
  /-- `xchg2 r1=[r3],r2` (M16, R401). -/
  | xchg2R1R3R2 (qp : PredIdx) (r1 r3 r2 : GrIdx) (hint : BitVec 2)
  /-- `xchg4 r1=[r3],r2` (M16, R401). -/
  | xchg4R1R3R2 (qp : PredIdx) (r1 r3 r2 : GrIdx) (hint : BitVec 2)
  /-- `xchg8 r1=[r3],r2` (M16, R401). -/
  | xchg8R1R3R2 (qp : PredIdx) (r1 r3 r2 : GrIdx) (hint : BitVec 2)
  /-- `fetchadd4.acq r1=[r3],inc3` (M17, R402). -/
  | fetchadd4AcqR1R3Inc3 (qp : PredIdx) (r1 r3 : GrIdx) (inc3 : FetchInc) (hint : BitVec 2)
  /-- `fetchadd4.rel r1=[r3],inc3` (M17, R402). -/
  | fetchadd4RelR1R3Inc3 (qp : PredIdx) (r1 r3 : GrIdx) (inc3 : FetchInc) (hint : BitVec 2)
  /-- `fetchadd8.acq r1=[r3],inc3` (M17, R402). -/
  | fetchadd8AcqR1R3Inc3 (qp : PredIdx) (r1 r3 : GrIdx) (inc3 : FetchInc) (hint : BitVec 2)
  /-- `fetchadd8.rel r1=[r3],inc3` (M17, R402). -/
  | fetchadd8RelR1R3Inc3 (qp : PredIdx) (r1 r3 : GrIdx) (inc3 : FetchInc) (hint : BitVec 2)
  /-- `setf.sig f1=r2` (M18, R405). -/
  | setfSigF1R2 (qp : PredIdx) (f1 : FrIdx) (r2 : GrIdx)
  /-- `setf.exp f1=r2` (M18, R405). -/
  | setfExpF1R2 (qp : PredIdx) (f1 : FrIdx) (r2 : GrIdx)
  /-- `setf.s f1=r2` (M18, R405). -/
  | setfSF1R2 (qp : PredIdx) (f1 : FrIdx) (r2 : GrIdx)
  /-- `setf.d f1=r2` (M18, R405). -/
  | setfDF1R2 (qp : PredIdx) (f1 : FrIdx) (r2 : GrIdx)
  /-- `getf.sig r1=f2` (M19, R406). -/
  | getfSigR1F2 (qp : PredIdx) (r1 : GrIdx) (f2 : FrIdx)
  /-- `getf.exp r1=f2` (M19, R406). -/
  | getfExpR1F2 (qp : PredIdx) (r1 : GrIdx) (f2 : FrIdx)
  /-- `getf.s r1=f2` (M19, R406). -/
  | getfSR1F2 (qp : PredIdx) (r1 : GrIdx) (f2 : FrIdx)
  /-- `getf.d r1=f2` (M19, R406). -/
  | getfDR1F2 (qp : PredIdx) (r1 : GrIdx) (f2 : FrIdx)
  /-- `chk.s.m r2,target25` (M20, R420). -/
  | chkSMR2Target25 (qp : PredIdx) (r2 : GrIdx) (imm21 : BitVec 21)
  /-- `chk.s f2,target25` (M21, R420). -/
  | chkSF2Target25 (qp : PredIdx) (f2 : FrIdx) (imm21 : BitVec 21)
  /-- `chk.a.clr r1,target25` (M22, R421). -/
  | chkAClrR1Target25 (qp : PredIdx) (r1 : GrIdx) (imm21 : BitVec 21)
  /-- `chk.a.clr f1,target25` (M23, R421). -/
  | chkAClrF1Target25 (qp : PredIdx) (f1 : FrIdx) (imm21 : BitVec 21)
  /-- `chk.a.nc r1,target25` (M22, R421). -/
  | chkANcR1Target25 (qp : PredIdx) (r1 : GrIdx) (imm21 : BitVec 21)
  /-- `chk.a.nc f1,target25` (M23, R421). -/
  | chkANcF1Target25 (qp : PredIdx) (f1 : FrIdx) (imm21 : BitVec 21)
  /-- `invala` (M24, R440). -/
  | invala (qp : PredIdx)
  /-- `invala.e r1` (M26, R441). -/
  | invalaER1 (qp : PredIdx) (r1 : GrIdx)
  /-- `invala.e f1` (M27, R441). -/
  | invalaEF1 (qp : PredIdx) (f1 : FrIdx)
  /-- `alloc r1=ar.pfs,i,l,o,r` (M34, R444). -/
  | allocR1ArPfsILOR (qp : PredIdx) (r1 : GrIdx) (sof sol : BitVec 7) (sor : BitVec 4)
  /-- `flushrs` (M25, R442). -/
  | flushrs (qp : PredIdx)
  /-- `loadrs` (M25, R443). -/
  | loadrs (qp : PredIdx)
  /-- `fc r3` (M28, R447). -/
  | fcR3 (qp : PredIdx) (r3 : GrIdx)
  /-- `ptc.e r3` (M28, R448). -/
  | ptcER3 (qp : PredIdx) (r3 : GrIdx)
  /-- `ptc.l r3,r2` (M45, R449). -/
  | ptcLR3R2 (qp : PredIdx) (r3 r2 : GrIdx)
  /-- `ptc.g r3,r2` (M45, R449). -/
  | ptcGR3R2 (qp : PredIdx) (r3 r2 : GrIdx)
  /-- `ptc.ga r3,r2` (M45, R449). -/
  | ptcGaR3R2 (qp : PredIdx) (r3 r2 : GrIdx)
  /-- `ptr.d r3,r2` (M45, R449). -/
  | ptrDR3R2 (qp : PredIdx) (r3 r2 : GrIdx)
  /-- `ptr.i r3,r2` (M45, R449). -/
  | ptrIR3R2 (qp : PredIdx) (r3 r2 : GrIdx)
  /-- `mf` (M24, R450). -/
  | mf (qp : PredIdx)
  /-- `mf.a` (M24, R451). -/
  | mfA (qp : PredIdx)
  /-- `fwb` (M24, R452). -/
  | fwb (qp : PredIdx)
  /-- `sync.i` (M24, R453). -/
  | syncI (qp : PredIdx)
  /-- `srlz.d` (M24, R454). -/
  | srlzD (qp : PredIdx)
  /-- `srlz.i` (M24, R455). -/
  | srlzI (qp : PredIdx)
  /-- `mov.m ar3=r2` (M29, R460). -/
  | movMAr3R2 (qp : PredIdx) (ar3 : BitVec 7) (r2 : GrIdx)
  /-- `mov.m ar3=imm8` (M30, R461). -/
  | movMAr3Imm8 (qp : PredIdx) (ar3 : BitVec 7) (imm8 : BitVec 8)
  /-- `mov.m r1=ar3` (M31, R462). -/
  | movMR1Ar3 (qp : PredIdx) (r1 : GrIdx) (ar3 : BitVec 7)
  /-- `mov cr3=r2` (M32, R463). -/
  | movCr3R2 (qp : PredIdx) (cr3 : BitVec 7) (r2 : GrIdx)
  /-- `mov r1=cr3` (M33, R464). -/
  | movR1Cr3 (qp : PredIdx) (r1 : GrIdx) (cr3 : BitVec 7)
  /-- `mov psr.l=r2` (M35, R466). -/
  | movPsrLR2 (qp : PredIdx) (r2 : GrIdx)
  /-- `mov psr.um=r2` (M35, R467). -/
  | movPsrUmR2 (qp : PredIdx) (r2 : GrIdx)
  /-- `mov r1=psr` (M36, R468). -/
  | movR1Psr (qp : PredIdx) (r1 : GrIdx)
  /-- `mov r1=psr.um` (M36, R469). -/
  | movR1PsrUm (qp : PredIdx) (r1 : GrIdx)
  /-- `break.m imm21` (M37, R470). -/
  | breakMImm21 (qp : PredIdx) (imm21 : BitVec 21)
  /-- `nop.m imm21` (M37, R470). -/
  | nopMImm21 (qp : PredIdx) (imm21 : BitVec 21)
  /-- `sum imm24` (M44, R471). -/
  | sumImm24 (qp : PredIdx) (imm24 : BitVec 24)
  /-- `rum imm24` (M44, R472). -/
  | rumImm24 (qp : PredIdx) (imm24 : BitVec 24)
  /-- `ssm imm24` (M44, R473). -/
  | ssmImm24 (qp : PredIdx) (imm24 : BitVec 24)
  /-- `rsm imm24` (M44, R474). -/
  | rsmImm24 (qp : PredIdx) (imm24 : BitVec 24)
  /-- `mov pmc[r3]=r2` (M42, R480). -/
  | movPmcR3R2 (qp : PredIdx) (r3 r2 : GrIdx)
  /-- `mov r1=pmc[r3]` (M43, R480). -/
  | movR1PmcR3 (qp : PredIdx) (r1 r3 : GrIdx)
  /-- `mov pmd[r3]=r2` (M42, R480). -/
  | movPmdR3R2 (qp : PredIdx) (r3 r2 : GrIdx)
  /-- `mov r1=pmd[r3]` (M43, R480). -/
  | movR1PmdR3 (qp : PredIdx) (r1 r3 : GrIdx)
  /-- `mov rr[r3]=r2` (M42, R481). -/
  | movRrR3R2 (qp : PredIdx) (r3 r2 : GrIdx)
  /-- `mov r1=rr[r3]` (M43, R481). -/
  | movR1RrR3 (qp : PredIdx) (r1 r3 : GrIdx)
  /-- `mov pkr[r3]=r2` (M42, R481). -/
  | movPkrR3R2 (qp : PredIdx) (r3 r2 : GrIdx)
  /-- `mov r1=pkr[r3]` (M43, R481). -/
  | movR1PkrR3 (qp : PredIdx) (r1 r3 : GrIdx)
  /-- `mov ibr[r3]=r2` (M42, R482). -/
  | movIbrR3R2 (qp : PredIdx) (r3 r2 : GrIdx)
  /-- `mov r1=ibr[r3]` (M43, R482). -/
  | movR1IbrR3 (qp : PredIdx) (r1 r3 : GrIdx)
  /-- `mov dbr[r3]=r2` (M42, R482). -/
  | movDbrR3R2 (qp : PredIdx) (r3 r2 : GrIdx)
  /-- `mov r1=dbr[r3]` (M43, R482). -/
  | movR1DbrR3 (qp : PredIdx) (r1 r3 : GrIdx)
  /-- `mov r1=cpuid[r3]` (M43, R483). -/
  | movR1CpuidR3 (qp : PredIdx) (r1 r3 : GrIdx)
  /-- `itc.d r2` (M41, R485). -/
  | itcDR2 (qp : PredIdx) (r2 : GrIdx)
  /-- `itc.i r2` (M41, R485). -/
  | itcIR2 (qp : PredIdx) (r2 : GrIdx)
  /-- `itr.d dtr[r3]=r2` (M42, R485). -/
  | itrDDtrR3R2 (qp : PredIdx) (r3 r2 : GrIdx)
  /-- `itr.i itr[r3]=r2` (M42, R485). -/
  | itrIItrR3R2 (qp : PredIdx) (r3 r2 : GrIdx)
  /-- `probe.r r1=r3,r2` (M38, R486). -/
  | probeRR1R3R2 (qp : PredIdx) (r1 r3 r2 : GrIdx)
  /-- `probe.r r1=r3,imm2` (M39, R486). -/
  | probeRR1R3Imm2 (qp : PredIdx) (r1 r3 : GrIdx) (imm2 : BitVec 2)
  /-- `probe.w r1=r3,r2` (M38, R486). -/
  | probeWR1R3R2 (qp : PredIdx) (r1 r3 r2 : GrIdx)
  /-- `probe.w r1=r3,imm2` (M39, R486). -/
  | probeWR1R3Imm2 (qp : PredIdx) (r1 r3 : GrIdx) (imm2 : BitVec 2)
  /-- `probe.r.fault r3,imm2` (M40, R486). -/
  | probeRFaultR3Imm2 (qp : PredIdx) (r3 : GrIdx) (imm2 : BitVec 2)
  /-- `probe.w.fault r3,imm2` (M40, R486). -/
  | probeWFaultR3Imm2 (qp : PredIdx) (r3 : GrIdx) (imm2 : BitVec 2)
  /-- `probe.rw.fault r3,imm2` (M40, R486). -/
  | probeRwFaultR3Imm2 (qp : PredIdx) (r3 : GrIdx) (imm2 : BitVec 2)
  /-- `tpa r1=r3` (M46, R487). -/
  | tpaR1R3 (qp : PredIdx) (r1 r3 : GrIdx)
  /-- `tak r1=r3` (M46, R487). -/
  | takR1R3 (qp : PredIdx) (r1 r3 : GrIdx)
  /-- `thash r1=r3` (M46, R488). -/
  | thashR1R3 (qp : PredIdx) (r1 r3 : GrIdx)
  /-- `ttag r1=r3` (M46, R488). -/
  | ttagR1R3 (qp : PredIdx) (r1 r3 : GrIdx)
  /-- `fma.sf f1=f3,f4,f2` (F1, R505). -/
  | fmaSfF1F3F4F2 (qp : PredIdx) (sf : BitVec 2) (f1 f3 f4 f2 : FrIdx)
  /-- `fma.s.sf f1=f3,f4,f2` (F1, R505). -/
  | fmaSSfF1F3F4F2 (qp : PredIdx) (sf : BitVec 2) (f1 f3 f4 f2 : FrIdx)
  /-- `fma.d.sf f1=f3,f4,f2` (F1, R505). -/
  | fmaDSfF1F3F4F2 (qp : PredIdx) (sf : BitVec 2) (f1 f3 f4 f2 : FrIdx)
  /-- `fpma.sf f1=f3,f4,f2` (F1, R505). -/
  | fpmaSfF1F3F4F2 (qp : PredIdx) (sf : BitVec 2) (f1 f3 f4 f2 : FrIdx)
  /-- `fms.sf f1=f3,f4,f2` (F1, R505). -/
  | fmsSfF1F3F4F2 (qp : PredIdx) (sf : BitVec 2) (f1 f3 f4 f2 : FrIdx)
  /-- `fms.s.sf f1=f3,f4,f2` (F1, R505). -/
  | fmsSSfF1F3F4F2 (qp : PredIdx) (sf : BitVec 2) (f1 f3 f4 f2 : FrIdx)
  /-- `fms.d.sf f1=f3,f4,f2` (F1, R505). -/
  | fmsDSfF1F3F4F2 (qp : PredIdx) (sf : BitVec 2) (f1 f3 f4 f2 : FrIdx)
  /-- `fpms.sf f1=f3,f4,f2` (F1, R505). -/
  | fpmsSfF1F3F4F2 (qp : PredIdx) (sf : BitVec 2) (f1 f3 f4 f2 : FrIdx)
  /-- `fnma.sf f1=f3,f4,f2` (F1, R505). -/
  | fnmaSfF1F3F4F2 (qp : PredIdx) (sf : BitVec 2) (f1 f3 f4 f2 : FrIdx)
  /-- `fnma.s.sf f1=f3,f4,f2` (F1, R505). -/
  | fnmaSSfF1F3F4F2 (qp : PredIdx) (sf : BitVec 2) (f1 f3 f4 f2 : FrIdx)
  /-- `fnma.d.sf f1=f3,f4,f2` (F1, R505). -/
  | fnmaDSfF1F3F4F2 (qp : PredIdx) (sf : BitVec 2) (f1 f3 f4 f2 : FrIdx)
  /-- `fpnma.sf f1=f3,f4,f2` (F1, R505). -/
  | fpnmaSfF1F3F4F2 (qp : PredIdx) (sf : BitVec 2) (f1 f3 f4 f2 : FrIdx)
  /-- `xma.l f1=f3,f4,f2` (F2, R506). -/
  | xmaLF1F3F4F2 (qp : PredIdx) (f1 f3 f4 f2 : FrIdx)
  /-- `xma.hu f1=f3,f4,f2` (F2, R506). -/
  | xmaHuF1F3F4F2 (qp : PredIdx) (f1 f3 f4 f2 : FrIdx)
  /-- `xma.h f1=f3,f4,f2` (F2, R506). -/
  | xmaHF1F3F4F2 (qp : PredIdx) (f1 f3 f4 f2 : FrIdx)
  /-- `fselect f1=f3,f4,f2` (F3, R507). -/
  | fselectF1F3F4F2 (qp : PredIdx) (f1 f3 f4 f2 : FrIdx)
  /-- `fcmp.eq.sf p1,p2=f2,f3` (F4, R507). -/
  | fcmpEqSfP1P2F2F3 (qp p1 p2 : PredIdx) (f2 f3 : FrIdx) (sf : BitVec 2)
  /-- `fcmp.eq.unc.sf p1,p2=f2,f3` (F4, R507). -/
  | fcmpEqUncSfP1P2F2F3 (qp p1 p2 : PredIdx) (f2 f3 : FrIdx) (sf : BitVec 2)
  /-- `fcmp.lt.sf p1,p2=f2,f3` (F4, R507). -/
  | fcmpLtSfP1P2F2F3 (qp p1 p2 : PredIdx) (f2 f3 : FrIdx) (sf : BitVec 2)
  /-- `fcmp.lt.unc.sf p1,p2=f2,f3` (F4, R507). -/
  | fcmpLtUncSfP1P2F2F3 (qp p1 p2 : PredIdx) (f2 f3 : FrIdx) (sf : BitVec 2)
  /-- `fcmp.le.sf p1,p2=f2,f3` (F4, R507). -/
  | fcmpLeSfP1P2F2F3 (qp p1 p2 : PredIdx) (f2 f3 : FrIdx) (sf : BitVec 2)
  /-- `fcmp.le.unc.sf p1,p2=f2,f3` (F4, R507). -/
  | fcmpLeUncSfP1P2F2F3 (qp p1 p2 : PredIdx) (f2 f3 : FrIdx) (sf : BitVec 2)
  /-- `fcmp.unord.sf p1,p2=f2,f3` (F4, R507). -/
  | fcmpUnordSfP1P2F2F3 (qp p1 p2 : PredIdx) (f2 f3 : FrIdx) (sf : BitVec 2)
  /-- `fcmp.unord.unc.sf p1,p2=f2,f3` (F4, R507). -/
  | fcmpUnordUncSfP1P2F2F3 (qp p1 p2 : PredIdx) (f2 f3 : FrIdx) (sf : BitVec 2)
  /-- `fclass.m p1,p2=f2,fclass9` (F5, R507). -/
  | fclassMP1P2F2Fclass9 (qp p1 p2 : PredIdx) (f2 : FrIdx) (fclass9 : BitVec 9)
  /-- `fclass.m.unc p1,p2=f2,fclass9` (F5, R507). -/
  | fclassMUncP1P2F2Fclass9 (qp p1 p2 : PredIdx) (f2 : FrIdx) (fclass9 : BitVec 9)
  /-- `frcpa.sf f1,p2=f2,f3` (F6, R510). -/
  | frcpaSfF1P2F2F3 (qp : PredIdx) (f1 : FrIdx) (p2 : PredIdx) (f2 f3 : FrIdx) (sf : BitVec 2)
  /-- `fprcpa.sf f1,p2=f2,f3` (F6, R510). -/
  | fprcpaSfF1P2F2F3 (qp : PredIdx) (f1 : FrIdx) (p2 : PredIdx) (f2 f3 : FrIdx) (sf : BitVec 2)
  /-- `frsqrta.sf f1,p2=f3` (F7, R510). -/
  | frsqrtaSfF1P2F3 (qp : PredIdx) (f1 : FrIdx) (p2 : PredIdx) (f3 : FrIdx) (sf : BitVec 2)
  /-- `fprsqrta.sf f1,p2=f3` (F7, R510). -/
  | fprsqrtaSfF1P2F3 (qp : PredIdx) (f1 : FrIdx) (p2 : PredIdx) (f3 : FrIdx) (sf : BitVec 2)
  /-- `fmin.sf f1=f2,f3` (F8, R507). -/
  | fminSfF1F2F3 (qp : PredIdx) (f1 f2 f3 : FrIdx) (sf : BitVec 2)
  /-- `fmax.sf f1=f2,f3` (F8, R507). -/
  | fmaxSfF1F2F3 (qp : PredIdx) (f1 f2 f3 : FrIdx) (sf : BitVec 2)
  /-- `famin.sf f1=f2,f3` (F8, R507). -/
  | faminSfF1F2F3 (qp : PredIdx) (f1 f2 f3 : FrIdx) (sf : BitVec 2)
  /-- `famax.sf f1=f2,f3` (F8, R507). -/
  | famaxSfF1F2F3 (qp : PredIdx) (f1 f2 f3 : FrIdx) (sf : BitVec 2)
  /-- `fpmin.sf f1=f2,f3` (F8, R507). -/
  | fpminSfF1F2F3 (qp : PredIdx) (f1 f2 f3 : FrIdx) (sf : BitVec 2)
  /-- `fpmax.sf f1=f2,f3` (F8, R507). -/
  | fpmaxSfF1F2F3 (qp : PredIdx) (f1 f2 f3 : FrIdx) (sf : BitVec 2)
  /-- `fpamin.sf f1=f2,f3` (F8, R507). -/
  | fpaminSfF1F2F3 (qp : PredIdx) (f1 f2 f3 : FrIdx) (sf : BitVec 2)
  /-- `fpamax.sf f1=f2,f3` (F8, R507). -/
  | fpamaxSfF1F2F3 (qp : PredIdx) (f1 f2 f3 : FrIdx) (sf : BitVec 2)
  /-- `fpcmp.frel.sf f1=f2,f3` (F8, R507). -/
  | fpcmpFrelSfF1F2F3 (qp : PredIdx) (f1 f2 f3 : FrIdx) (frel : FpRel) (sf : BitVec 2)
  /-- `fmerge.s f1=f2,f3` (F9, R504). -/
  | fmergeSF1F2F3 (qp : PredIdx) (f1 f2 f3 : FrIdx)
  /-- `fmerge.ns f1=f2,f3` (F9, R504). -/
  | fmergeNsF1F2F3 (qp : PredIdx) (f1 f2 f3 : FrIdx)
  /-- `fmerge.se f1=f2,f3` (F9, R504). -/
  | fmergeSeF1F2F3 (qp : PredIdx) (f1 f2 f3 : FrIdx)
  /-- `fand f1=f2,f3` (F9, R504). -/
  | fandF1F2F3 (qp : PredIdx) (f1 f2 f3 : FrIdx)
  /-- `fandcm f1=f2,f3` (F9, R504). -/
  | fandcmF1F2F3 (qp : PredIdx) (f1 f2 f3 : FrIdx)
  /-- `for f1=f2,f3` (F9, R504). -/
  | forF1F2F3 (qp : PredIdx) (f1 f2 f3 : FrIdx)
  /-- `fxor f1=f2,f3` (F9, R504). -/
  | fxorF1F2F3 (qp : PredIdx) (f1 f2 f3 : FrIdx)
  /-- `fmix.l f1=f2,f3` (F9, R504). -/
  | fmixLF1F2F3 (qp : PredIdx) (f1 f2 f3 : FrIdx)
  /-- `fmix.r f1=f2,f3` (F9, R504). -/
  | fmixRF1F2F3 (qp : PredIdx) (f1 f2 f3 : FrIdx)
  /-- `fmix.lr f1=f2,f3` (F9, R504). -/
  | fmixLrF1F2F3 (qp : PredIdx) (f1 f2 f3 : FrIdx)
  /-- `fsxt.l f1=f2,f3` (F9, R504). -/
  | fsxtLF1F2F3 (qp : PredIdx) (f1 f2 f3 : FrIdx)
  /-- `fsxt.r f1=f2,f3` (F9, R504). -/
  | fsxtRF1F2F3 (qp : PredIdx) (f1 f2 f3 : FrIdx)
  /-- `fpack f1=f2,f3` (F9, R504). -/
  | fpackF1F2F3 (qp : PredIdx) (f1 f2 f3 : FrIdx)
  /-- `fswap f1=f2,f3` (F9, R504). -/
  | fswapF1F2F3 (qp : PredIdx) (f1 f2 f3 : FrIdx)
  /-- `fswap.nl f1=f2,f3` (F9, R504). -/
  | fswapNlF1F2F3 (qp : PredIdx) (f1 f2 f3 : FrIdx)
  /-- `fswap.nr f1=f2,f3` (F9, R504). -/
  | fswapNrF1F2F3 (qp : PredIdx) (f1 f2 f3 : FrIdx)
  /-- `fpmerge.s f1=f2,f3` (F9, R504). -/
  | fpmergeSF1F2F3 (qp : PredIdx) (f1 f2 f3 : FrIdx)
  /-- `fpmerge.ns f1=f2,f3` (F9, R504). -/
  | fpmergeNsF1F2F3 (qp : PredIdx) (f1 f2 f3 : FrIdx)
  /-- `fpmerge.se f1=f2,f3` (F9, R504). -/
  | fpmergeSeF1F2F3 (qp : PredIdx) (f1 f2 f3 : FrIdx)
  /-- `fcvt.fx.sf f1=f2` (F10, R512). -/
  | fcvtFxSfF1F2 (qp : PredIdx) (f1 f2 : FrIdx) (sf : BitVec 2)
  /-- `fcvt.fxu.sf f1=f2` (F10, R512). -/
  | fcvtFxuSfF1F2 (qp : PredIdx) (f1 f2 : FrIdx) (sf : BitVec 2)
  /-- `fcvt.fx.trunc.sf f1=f2` (F10, R512). -/
  | fcvtFxTruncSfF1F2 (qp : PredIdx) (f1 f2 : FrIdx) (sf : BitVec 2)
  /-- `fcvt.fxu.trunc.sf f1=f2` (F10, R512). -/
  | fcvtFxuTruncSfF1F2 (qp : PredIdx) (f1 f2 : FrIdx) (sf : BitVec 2)
  /-- `fpcvt.fx.sf f1=f2` (F10, R512). -/
  | fpcvtFxSfF1F2 (qp : PredIdx) (f1 f2 : FrIdx) (sf : BitVec 2)
  /-- `fpcvt.fxu.sf f1=f2` (F10, R512). -/
  | fpcvtFxuSfF1F2 (qp : PredIdx) (f1 f2 : FrIdx) (sf : BitVec 2)
  /-- `fpcvt.fx.trunc.sf f1=f2` (F10, R512). -/
  | fpcvtFxTruncSfF1F2 (qp : PredIdx) (f1 f2 : FrIdx) (sf : BitVec 2)
  /-- `fpcvt.fxu.trunc.sf f1=f2` (F10, R512). -/
  | fpcvtFxuTruncSfF1F2 (qp : PredIdx) (f1 f2 : FrIdx) (sf : BitVec 2)
  /-- `fcvt.xf f1=f2` (F11, R512). -/
  | fcvtXfF1F2 (qp : PredIdx) (f1 f2 : FrIdx)
  /-- `fsetc.sf amask7,omask7` (F12, R513). -/
  | fsetcSfAmask7Omask7 (qp : PredIdx) (sf : BitVec 2) (amask7 omask7 : BitVec 7)
  /-- `fclrf.sf` (F13, R513). -/
  | fclrfSf (qp : PredIdx) (sf : BitVec 2)
  /-- `fchkf.sf target25` (F14, R511). -/
  | fchkfSfTarget25 (qp : PredIdx) (sf : BitVec 2) (imm21 : BitVec 21)
  /-- `break.f imm21` (F15, R513). -/
  | breakFImm21 (qp : PredIdx) (imm21 : BitVec 21)
  /-- `nop.f imm21` (F15, R513). -/
  | nopFImm21 (qp : PredIdx) (imm21 : BitVec 21)
  /-- `br.cond.bwh.ph.dh target25` (B1, R522). -/
  | brCondBwhPhDhTarget25 (qp : PredIdx) (imm21 : BitVec 21) (h : BrHint)
  /-- `br.wexit.bwh.ph.dh target25` (B1, R543). -/
  | brWexitBwhPhDhTarget25 (qp : PredIdx) (imm21 : BitVec 21) (h : BrHint)
  /-- `br.wtop.bwh.ph.dh target25` (B1, R543). -/
  | brWtopBwhPhDhTarget25 (qp : PredIdx) (imm21 : BitVec 21) (h : BrHint)
  /-- `br.cloop.bwh.ph.dh target25` (B2, R541). -/
  | brCloopBwhPhDhTarget25 (imm21 : BitVec 21) (h : BrHint)
  /-- `br.cexit.bwh.ph.dh target25` (B2, R542). -/
  | brCexitBwhPhDhTarget25 (imm21 : BitVec 21) (h : BrHint)
  /-- `br.ctop.bwh.ph.dh target25` (B2, R542). -/
  | brCtopBwhPhDhTarget25 (imm21 : BitVec 21) (h : BrHint)
  /-- `br.call.bwh.ph.dh b1=target25` (B3, R523). -/
  | brCallBwhPhDhB1Target25 (qp : PredIdx) (b1 : BrIdx) (imm21 : BitVec 21) (h : BrHint)
  /-- `br.cond.bwh.ph.dh b2` (B4, R522). -/
  | brCondBwhPhDhB2 (qp : PredIdx) (b2 : BrIdx) (h : BrHint)
  /-- `br.ia.bwh.ph.dh b2` (B4, R525). -/
  | brIaBwhPhDhB2 (b2 : BrIdx) (h : BrHint)
  /-- `br.ret.bwh.ph.dh b2` (B4, R524). -/
  | brRetBwhPhDhB2 (qp : PredIdx) (b2 : BrIdx) (h : BrHint)
  /-- `br.call.bwh.ph.dh b1=b2` (B5, R523). -/
  | brCallBwhPhDhB1B2 (qp : PredIdx) (b1 b2 : BrIdx) (wh3 : BitVec 3) (d p : BitVec 1)
  /-- `brp.ipwh.ih target25,tag13` (B6, R547). -/
  | brpIpwhIhTarget25Tag13 (imm21 : BitVec 21) (tag13 : BitVec 13) (ipwh : BitVec 2) (ih : BitVec 1)
  /-- `brp.indwh.ih b2,tag13` (B7, R547). -/
  | brpIndwhIhB2Tag13 (b2 : BrIdx) (tag13 : BitVec 13) (indwh : BitVec 2) (ih : BitVec 1)
  /-- `cover` (B8, R554). -/
  | cover
  /-- `clrrrb` (B8, R555). -/
  | clrrrb
  /-- `clrrrb.pr` (B8, R555). -/
  | clrrrbPr
  /-- `rfi` (B8, R556). -/
  | rfi
  /-- `bsw.0` (B8, R557). -/
  | bsw0
  /-- `bsw.1` (B8, R557). -/
  | bsw1
  /-- `epc` (B8, R558). -/
  | epc
  /-- `break.b imm21` (B9, R559). -/
  | breakBImm21 (qp : PredIdx) (imm21 : BitVec 21)
  /-- `nop.b imm21` (B9, R559). -/
  | nopBImm21 (qp : PredIdx) (imm21 : BitVec 21)
  /-- `brl.cond.bwh.ph.dh target64` (X3, R553). -/
  | brlCondBwhPhDhTarget64 (qp : PredIdx) (imm60 : BitVec 60) (h : BrHint)
  /-- `brl.call.bwh.ph.dh b1=target64` (X4, R553). -/
  | brlCallBwhPhDhB1Target64 (qp : PredIdx) (b1 : BrIdx) (imm60 : BitVec 60) (h : BrHint)
  deriving DecidableEq

end Sys2Proof
end

