-- ==== Sys2Proof/Machine/Ops.lean ====
section
/-! DEFINITION. Machine/Ops.lean: the named operations over the register files (renaming, the group snapshot, writes),
taking an interruption (`spec/60_exceptions.md` R584), returning from one (`spec/45_b_type.md` R556), and the frame
every instruction executes in (`spec/40_a_type.md` R330). -/

namespace Sys2Proof.Machine

/-! ### Register renaming -/

/-- Rotation inside a block of `size` names starting at 0 (R544). -/
def rotated (i rrb size : Nat) : Nat := if size = 0 then i else (i + rrb) % size

/-- The place of a general register in the physical numbering 0 to 15 static, 16 to 31 bank 0, 32 to 47 bank 1, 48 to
143 stacked (R22, R544). -/
def State.grPhys (s : State) (r : GrIdx) : Nat :=
  let n := r.toNat
  if n < 16 then n
  else if n < 32 then (if s.psrBn then n + 16 else n)
  else
    let i := n - 32
    let rot := 8 * cfmSor s.cfm
    let i' := if i < rot then rotated i (cfmRrbGr s.cfm) rot else i
    48 + (s.bof + i') % 96

/-- The general register is visible: static, or inside the current frame (R22). -/
def State.grVisible (s : State) (r : GrIdx) : Bool := r.toNat < 32 + cfmSof s.cfm

/-- The general register with a given physical number; number 0 reads 0 with NaT clear (R22). -/
def Regs.gr (g : Regs) (p : Nat) : GReg :=
  if p = 0 then GReg.zero
  else if h : p < 16 then g.stat[p]
  else if h : p - 16 < 16 then g.bank0[p - 16]
  else if h : p - 32 < 16 then g.bank1[p - 32]
  else if h : p - 48 < 96 then g.stacked[p - 48]
  else GReg.zero

/-- Write the general register with a given physical number; a write of number 0 is discarded (R22). -/
def Regs.setGr (g : Regs) (p : Nat) (v : GReg) : Regs :=
  if p = 0 then g
  else if p < 16 then { g with stat := g.stat.setIfInBounds p v }
  else if p < 32 then { g with bank0 := g.bank0.setIfInBounds (p - 16) v }
  else if p < 48 then { g with bank1 := g.bank1.setIfInBounds (p - 32) v }
  else { g with stacked := g.stacked.setIfInBounds (p - 48) v }

/-- The physical number of a floating-point register (R27, R544). -/
def State.frPhys (s : State) (f : FrIdx) : Nat :=
  let n := f.toNat
  if n < 32 then n else 32 + rotated (n - 32) (cfmRrbFr s.cfm) 96

/-- FR[0] reads +0.0, FR[1] reads +1.0 (R27, R502). -/
def Regs.frAt (g : Regs) (p : Nat) : FReg :=
  if p = 0 then FReg.zero else if p = 1 then FReg.one else if h : p < 128 then g.fr[p] else FReg.zero

/-- The physical number of a predicate register (R25, R544). -/
def State.prPhys (s : State) (p : PredIdx) : Nat :=
  let n := p.toNat
  if n < 16 then n else 16 + rotated (n - 16) (cfmRrbPr s.cfm) 48

/-- The value of a general register as an instruction of this group reads it (R330, R911 (a)). -/
def State.gr (s : State) (r : GrIdx) : GReg := s.old.gr (s.grPhys r)

/-- The value of a floating-point register as an instruction of this group reads it (R330, R911 (a)). -/
def State.fr (s : State) (f : FrIdx) : FReg := s.old.frAt (s.frPhys f)

/-- A qualifying predicate of a non-branch instruction: the value before the group; PR[0] is 1 (R25, R911). -/
def State.pred (s : State) (p : PredIdx) : Bool := p == 0 || s.old.pr.getLsbD (s.prPhys p)

/-- The predicate file a branch reads: the values before the group, but for predicates that compares, `tbit` and `tnat` of the
group wrote (R521, R911 (a), (e)). -/
def State.branchPr (s : State) : Word := (s.old.pr &&& ~~~ s.grpPrCmp) ||| (s.cur.pr &&& s.grpPrCmp)

/-- A predicate a branch reads (R521, R911 (a)). -/
def State.branchPred (s : State) (p : PredIdx) : Bool := p == 0 || s.branchPr.getLsbD (s.prPhys p)

/-- The value of a branch register as an instruction of this group reads it (R521). -/
def State.br (s : State) (b : BrIdx) : Word := s.old.br[b.toNat]'(b.isLt)

/-! ### Free values -/

/-- The free 64-bit value of the step in progress for the place `site` (log 4). -/
def State.free (s : State) (site : Nat) : Word := Config.freeBits s.freeCtr site

/-- The free bit of the step in progress for the place `site` (log 4). -/
def State.freeBool (s : State) (site : Nat) : Bool := Config.freeBool s.freeCtr site

/-- A free general register for the place `site` (log 4). -/
def State.freeGr (s : State) (site : Nat) : GReg := { val := s.free site, nat := s.freeBool (site + 100000) }

/-- A free floating-point register for the place `site` (log 4). -/
def State.freeFr (s : State) (site : Nat) : FReg :=
  { sign := s.freeBool site, exp := (s.free (site + 100000)).setWidth 17, sig := s.free (site + 200000) }

/-! ### Writes and the write-after-write rule (R285, R911 (b), (c); D36; U47; log 6) -/

/-- Two writes of one register that do not disturb one another. Of a general register when one is a load's data or both are made on
memory ports, of a floating-point register when both are loads' data, the hardware serialises them, so that the later one stays
(R911 (c), D36); flags that are only ever set may be set together; writes of PSR by `mov psr.l`, `ssm` and `rsm` take effect in order
(D37). -/
def WrittenReg.serialised (r : WrittenReg) (k l : WriteKind) : Bool :=
  match r with
  | .gr _ => k == .load || l == .load || (k == .update && l == .update)
  | .fr _ => k == .load && l == .load
  | .part _ _ => k == .sticky && l == .sticky
  | .um _ => (k == .sticky && l == .sticky) || (k == .system && l == .system)
  | .br _ | .ar _ => false

/-- Two writes touch the same register: a part of an application register also with the whole of it. That two different parts of one
register are no WAW hazard is a DESIGN CHOICE (log 6). -/
def WrittenReg.overlaps (r q : WrittenReg) : Bool :=
  match r, q with
  | .ar n, .part m _ | .part m _, .ar n => n == m
  | _, _ => r == q

/-- This write finds a write of the same register in its group that the hardware does not serialise it with. -/
def State.wawFree (s : State) (r : WrittenReg) (k : WriteKind) : Bool :=
  s.grpWrites.any (fun w => w.1.overlaps r && !r.serialised w.2 k)

/-- Write a general register. -/
def State.setGr (s : State) (r : GrIdx) (v : GReg) (k : WriteKind) : State :=
  let p := s.grPhys r
  let v' := if s.wawFree (.gr p) k then s.freeGr (1000 + p) else v
  { s with cur := s.cur.setGr p v', grpWrites := (.gr p, k) :: s.grpWrites }

/-- The bits of the user mask, PSR[5:1], among the bits `m` of PSR. -/
def umBitsOf (m : Word) : List Nat := [1, 2, 3, 4, 5].filter (fun k => m.getLsbD k)

/-- The bits of the user mask that a write finds written in its group, by a write the hardware does not serialise it with (R911 (b),
R915 (a)). -/
def State.umHazard (s : State) (k : WriteKind) : Word :=
  [1, 2, 3, 4, 5].foldl (fun m b => putBit m b (s.wawFree (.um b) k)) 0

/-- Write the bits `m` of PSR with those of `v`. The user mask's are written as registers are, with the write-after-write rule (R911, R915
(a)); the others at once (D37; log 45). -/
def State.putPsr (s : State) (m v : Word) (k : WriteKind) : State :=
  let h := s.umHazard k
  let v := if h = 0 then v else (v &&& ~~~ h) ||| (s.free 3500 &&& h)
  { s with psr := (s.psr &&& ~~~ m) ||| (v &&& m),
           grpWrites := (umBitsOf m).map (fun b => (.um b, k)) ++ s.grpWrites }

/-- The bit of PSR that a write of a floating-point register sets: `mfl` or `mfh` (R27). -/
def modifiedBit (f : FrIdx) : Nat := if f.toNat < 32 then 4 else 5

/-- Write a floating-point register and set PSR.mfl or PSR.mfh (R27, R392). -/
def State.setFr (s : State) (f : FrIdx) (v : FReg) (k : WriteKind) : State :=
  let p := s.frPhys f
  let v' := if s.wawFree (.fr p) k then s.freeFr (2000 + p) else v
  let m := 1#64 <<< modifiedBit f
  State.putPsr { s with cur := { s.cur with fr := s.cur.fr.setIfInBounds p v' }, grpWrites := (.fr p, k) :: s.grpWrites } m m .sticky

/-- Write a branch register (R26). -/
def State.setBr (s : State) (b : BrIdx) (v : Word) : State :=
  let v' := if s.wawFree (.br b.toNat) .alu then s.free (3000 + b.toNat) else v
  { s with cur := { s.cur with br := s.cur.br.set b.toNat v' b.isLt },
           grpWrites := (.br b.toNat, .alu) :: s.grpWrites }

/-- How an instruction writes a predicate: by an ordinary compare, `tbit` or `tnat`; by a parallel compare, where those of one kind
may write one predicate together (R325); or otherwise. -/
inductive PrClass where
  | alu | cmp | pand | por
  deriving DecidableEq, Repr

/-- Predicates already written in this group by a writer that the new one may not join (R911 (a), (b)). -/
def State.prHazard (s : State) : PrClass → Word
  | .alu | .cmp => s.grpPrAlu ||| s.grpPrAnd ||| s.grpPrOr
  | .pand => s.grpPrAlu ||| s.grpPrOr
  | .por  => s.grpPrAlu ||| s.grpPrAnd

/-- Note a predicate write for the rest of the group. -/
def State.notePr (s : State) (c : PrClass) (m : Word) : State :=
  match c with
  | .alu  => { s with grpPrAlu := s.grpPrAlu ||| m }
  | .cmp  => { s with grpPrAlu := s.grpPrAlu ||| m, grpPrCmp := s.grpPrCmp ||| m }
  | .pand => { s with grpPrAnd := s.grpPrAnd ||| m, grpPrCmp := s.grpPrCmp ||| m }
  | .por  => { s with grpPrOr := s.grpPrOr ||| m, grpPrCmp := s.grpPrCmp ||| m }

/-- The state with a new predicate file (R25). -/
def State.withPr (t : State) (p : Word) : State := { t with cur := { t.cur with pr := p } }

/-- Write the predicates of physical mask `m` with the bits of `v`; PR[0] is never written (R25). `h` are the hazards. -/
def State.setPrMask (s : State) (h : Word) (c : PrClass) (m v : Word) : State :=
  let m := m &&& ~~~ 1
  let v := if h &&& m = 0 then v else (v &&& ~~~ h) ||| (s.free 1999 &&& h)
  (s.notePr c m).withPr ((s.cur.pr &&& ~~~ m) ||| (v &&& m))

/-- Write one predicate by name. -/
def State.setPr (s : State) (p : PredIdx) (v : Bool) (c : PrClass) : State :=
  s.setPrMask (s.prHazard c) c (1#64 <<< s.prPhys p) (if v then BitVec.allOnes 64 else 0)

/-- Write the two targets of a compare; the hazards of both are those before the instruction. -/
def State.setPr2 (s : State) (p1 : PredIdx) (v1 : Bool) (c1 : PrClass) (p2 : PredIdx) (v2 : Bool) (c2 : PrClass) :
    State :=
  let h2 := s.prHazard c2
  (s.setPr p1 v1 c1).setPrMask h2 c2 (1#64 <<< s.prPhys p2) (if v2 then BitVec.allOnes 64 else 0)

/-- Record a retirement event of this step (R726). -/
def State.emit (s : State) (e : PmuEvent) : State := { s with events := e :: s.events }

/-! ### Interruptions -/

/-- The vectors of the interruption vector table that this model delivers to (R565). -/
inductive IvtVector where
  | vhptTranslation | instructionTlb | dataTlb | altInstructionTlb | altDataTlb | dataNestedTlb | instructionKeyMiss
  | dataKeyMiss | dirtyBit | instructionAccessBit | dataAccessBit | breakInstruction | externalInterrupt
  | pageNotPresent | keyPermission | instructionAccessRights | dataAccessRights | generalException | disabledFp
  | natConsumption | speculation | debug | unalignedReference | unsupportedDataReference | fpFault | fpTrap
  | lowerPrivilege | takenBranch | singleStep
  deriving DecidableEq, Repr

/-- The offset of a vector in the table (R565). -/
def IvtVector.offset : IvtVector → BitVec 15
  | .vhptTranslation => 0x0000
  | .instructionTlb => 0x0400
  | .dataTlb => 0x0800
  | .altInstructionTlb => 0x0C00
  | .altDataTlb => 0x1000
  | .dataNestedTlb => 0x1400
  | .instructionKeyMiss => 0x1800
  | .dataKeyMiss => 0x1C00
  | .dirtyBit => 0x2000
  | .instructionAccessBit => 0x2400
  | .dataAccessBit => 0x2800
  | .breakInstruction => 0x2C00
  | .externalInterrupt => 0x3000
  | .pageNotPresent => 0x5000
  | .keyPermission => 0x5100
  | .instructionAccessRights => 0x5200
  | .dataAccessRights => 0x5300
  | .generalException => 0x5400
  | .disabledFp => 0x5500
  | .natConsumption => 0x5600
  | .speculation => 0x5700
  | .debug => 0x5900
  | .unalignedReference => 0x5A00
  | .unsupportedDataReference => 0x5B00
  | .fpFault => 0x5C00
  | .fpTrap => 0x5D00
  | .lowerPrivilege => 0x5E00
  | .takenBranch => 0x5F00
  | .singleStep => 0x6000

/-- An interruption: its vector, the ISR fields its cause gives (R576), and the registers its vector writes (R585);
`none` leaves the register as it is. -/
structure Intr where
  vec  : IvtVector
  code : BitVec 16 := 0
  x    : Bool := false
  w    : Bool := false
  r    : Bool := false
  na   : Bool := false
  sp   : Bool := false
  rs   : Bool := false
  ir   : Bool := false
  ifa  : Option Word := none
  itir : Option Word := none
  iha  : Option Word := none
  iim  : Option Word := none
  /-- The address whose translation was missing, for the EARs (R669, R673). -/
  missVa : Option Word := none
  /-- What the instruction counts although it faults (R747, R748, R742, R685). -/
  events : List PmuEvent := []
  deriving DecidableEq, Repr

/-- How an instruction ends before completing. -/
inductive Exc where
  | intr (i : Intr)
  | fault (f : Fault)
  | refused (r : Refusal)
  deriving DecidableEq, Repr

/-- The value of ISR for an interruption (R576): `ei` the slot, `ni` set when PSR.ic was 0, `ed` = PSR.ed. -/
def isrValue (i : Intr) (ei : BitVec 2) (ni ed : Bool) : Word :=
  let b := fun (v : Bool) (k : Nat) => (BitVec.ofBool v).setWidth 64 <<< k
  zext i.code ||| b i.x 32 ||| b i.w 33 ||| b i.r 34 ||| b i.na 35 ||| b i.sp 36 ||| b i.rs 37 ||| b i.ir 38
    ||| b ni 39 ||| (ei.setWidth 64 <<< 41) ||| b ed 43

/-- PSR after an interruption: `up`, `mfl`, `mfh`, `pk`, `dt`, `rt`, `mc`, `it` unchanged, `be` and `pp` from DCR, every
other field 0 (R584 step 3, R575). -/
def psrAfterIntr (psr dcr : Word) : Word :=
  (psr &&& 0x0000001808028034) ||| ((BitVec.ofBool (dcr.getLsbD 1)).setWidth 64 <<< 1)
    ||| ((BitVec.ofBool (dcr.getLsbD 0)).setWidth 64 <<< 21)

/-- End of an instruction group: writes become visible, the group's bookkeeping starts afresh (R330, R911 (a), R467). -/
def State.endGroup (s : State) : State :=
  { s with old := s.cur, umGroup := s.psr.extractLsb' 0 6, groupStart := true, grpWrites := [], grpPrAlu := 0, grpPrAnd := 0,
           grpPrOr := 0, grpPrCmp := 0, grpAlatSets := [], grpAlatChecks := [], grpAlatInval := [], grpAlatInvalAll := false }

/-- Instruction serialization: fetch no longer sees bytes whose lines went through `fc` and `sync.i` (R140, R455). -/
def State.serializeInstr (s : State) : State := { s with stale := s.stale.filter (fun b => b.stage != 2) }

/-- The control registers an interruption writes when PSR.ic = 1 (R584 step 2, R585). -/
def State.collect (s : State) (i : Intr) (ei : BitVec 2) : CtrlRegs :=
  { s.cr with ipsr := s.psr, iip := s.ip, iipa := s.lastBundle, isr := isrValue i ei false s.psrEd,
              ifs := s.cr.ifs &&& 0x7FFFFFFFFFFFFFFF, ifa := i.ifa.getD s.cr.ifa, itir := i.itir.getD s.cr.itir,
              iha := i.iha.getD s.cr.iha, iim := i.iim.getD s.cr.iim }

/-- The vector reports a trap, which its instruction completed with (R565, R587). -/
def IvtVector.isTrap (v : IvtVector) : Bool := [.fpTrap, .lowerPrivilege, .takenBranch, .singleStep].contains v

/-- What the monitors see of an interruption taken at a privilege level: a change of the level (R820), a data debug fault
(R821), a TLB miss that faults (R669, R673), a trap (R685). -/
def Intr.notes (i : Intr) (cpl : BitVec 2) : List PmuEvent :=
  i.events ++ (if cpl = 0 then [] else [.cplChange]) ++ (if i.vec = .debug && !i.x then [.dataDebugFault] else [])
    ++ (i.missVa.toList.map (fun va => .tlbMiss i.x va .fault true)) ++ (if i.vec.isTrap then [.trapped] else [])

/-- TAKING AN INTERRUPTION (R584). `s` restarts at the instruction `rfi` is to return to: the faulting one for a fault,
the next one for a trap or an interrupt; `ei` is the slot ISR reports. The group ends, ISR is written, with PSR.ic = 1
the other interruption registers too, PSR takes its handler value and IP the vector's address. -/
def State.takeInterruption (s : State) (i : Intr) (ei : BitVec 2) : State :=
  let cr := if s.psrIc then s.collect i ei else { s.cr with isr := isrValue i ei true s.psrEd }
  let s' := { s with cr := cr, psr := psrAfterIntr s.psr s.cr.dcr,
                     ip := (s.cr.iva.extractLsb' 15 49) ++ i.vec.offset, freeCtr := s.freeCtr + 1,
                     events := i.notes s.cpl ++ s.events }
  s'.serializeInstr.endGroup

/-- The part of `rfi` that restores PSR and IP (R556, R588): PSR from IPSR, IP from IIP with bits 3:0 cleared; an
instruction and a data serialization. -/
def State.restoreContext (s : State) : State :=
  let s' := { s with psr := s.cr.ipsr, ip := s.cr.iip &&& ~~~ 0xF#64, freeCtr := s.freeCtr + 1, lastBundle := s.ip }
  (if s'.cpl = s.cpl then s' else s'.emit .cplChange).serializeInstr.endGroup

/-! ### The execution frame (R330) -/

/-- What a completing instruction leaves: the state with its results, a taken branch's target, and the traps its own
operation raises (R587). -/
structure Res where
  s       : State
  target  : Option Word := none
  /-- ISR.code of a Floating-Point Exception trap (R561). -/
  fpTrap  : Option (BitVec 16) := none
  /-- A Lower-Privilege Transfer trap (R524). -/
  lpTrap  : Bool := false
  /-- The instruction occupies slots 1 and 2 (R330 step 6). -/
  long    : Bool := false
  deriving DecidableEq, Repr

/-- PSR bits that hold for one instruction only: `id`, `da`, `dd`, `ed`, `ia` (R572, R574, R567; log 40). -/
def oneShotMask : Word := 0x000028E000000000

/-- Advance to the next slot, or to the next bundle after slot 2 or a long instruction, modulo 2^64 (R21, R330, D3). -/
def State.advance (s : State) (long : Bool) : State :=
  let psr := s.psr &&& ~~~ oneShotMask
  let last := long || s.ri = 2 || s.ri = 3
  { s with psr := putField psr 41 (if last then 0#2 else s.ri + 1#2), ip := if last then s.ip + 16 else s.ip,
           lastBundle := s.ip, freeCtr := s.freeCtr + 1, groupStart := false }

/-- A taken branch: slot 0 of the target bundle; the instruction group ends (R521). -/
def State.jump (s : State) (t : Word) : State :=
  ({ s with psr := putField (s.psr &&& ~~~ oneShotMask) 41 0#2, ip := t &&& ~~~ 0xF#64, lastBundle := s.ip,
            freeCtr := s.freeCtr + 1 }).endGroup

/-- An address is unimplemented with translation off when bits 62:50 are not zero (R426, R521). -/
def unimplementedPhys (a : Word) : Bool := a.extractLsb' 50 13 != 0

/-- The interruption for a set of concurrent traps, highest priority first: Unimplemented Instruction Address,
Floating-Point Exception, Lower-Privilege Transfer, Taken Branch, Single Step (R586 line 12, R587). -/
def trapIntr (ui : Bool) (fp : Option (BitVec 16)) (lp tb ss : Bool) : Option Intr :=
  let b := fun (v : Bool) (k : Nat) => (BitVec.ofBool v).setWidth 16 <<< k
  let code := (fp.getD 0) ||| b fp.isSome 0 ||| b lp 1 ||| b tb 2 ||| b ss 3
  if ui then some { vec := .lowerPrivilege, code := code ||| 0x10 }
  else if fp.isSome then some { vec := .fpTrap, code }
  else if lp then some { vec := .lowerPrivilege, code }
  else if tb then some { vec := .takenBranch, code }
  else if ss then some { vec := .singleStep, code }
  else none

/-- Control moves on: to the target of a taken branch, else to the next slot or bundle (R21, R330, R521). -/
def Res.moved (r : Res) : State :=
  match r.target with
  | none => (r.s.emit .retired).advance r.long
  | some t => (r.s.emit .retired).jump t

/-- The end of a completing instruction: control moves on, then the traps are taken (R587). `s0` is the state before. -/
def retire (s0 : State) (r : Res) : State :=
  let s1 := r.moved
  let ui := !s1.psrIt && unimplementedPhys s1.ip
  match trapIntr ui r.fpTrap (r.lpTrap && s0.psrLp) (s0.psrTb && r.target.isSome) s0.psrSs with
  | none => s1
  | some i => s1.takeInterruption i s0.ri

/-- The outcome of an instruction: complete, take the interruption on the state before it, or stop (R597). -/
def finish (s0 : State) (r : Except Exc Res) : Host.Outcome State Fault Refusal :=
  match r with
  | .ok r => .next (retire s0 r)
  | .error (.intr i) => .next (s0.takeInterruption i s0.ri)
  | .error (.fault f) => .fault f
  | .error (.refused f) => .refused f

/-- A predicated instruction (R330): target checks whether or not the predicate holds, then the body if it does. -/
def run (s : State) (qp : PredIdx) (targets : Except Exc Unit) (body : Except Exc Res) :
    Host.Outcome State Fault Refusal :=
  finish s (targets.bind fun _ => if s.pred qp then body else .ok { s := s.emit .squashed })

/-- A predicated branch-unit instruction reads its predicate with the group's compares (R521). -/
def runBranch (s : State) (qp : PredIdx) (body : Except Exc Res) (untaken : State) :
    Host.Outcome State Fault Refusal :=
  finish s (if s.branchPred qp then body else .ok { s := untaken })

/-! ### Faults of register operands -/

/-- Illegal Operation (R562). -/
def illegalOp : Exc := .intr { vec := .generalException }
/-- Privileged Operation (R562). -/
def privilegedOp : Exc := .intr { vec := .generalException, code := 0x10 }
/-- Privileged Register (R562). -/
def privilegedReg : Exc := .intr { vec := .generalException, code := 0x20 }
/-- Reserved Register/Field (R562). -/
def reservedField : Exc := .intr { vec := .generalException, code := 0x30 }
/-- Disabled Instruction Set Transition (R562). -/
def disabledIsa : Exc := .intr { vec := .generalException, code := 0x40 }
/-- Register NaT Consumption (R573); `r` and `w` as the access (R576). It goes to the vector R565 and R573 give it, though R490 has
the faults of its file reported through the General Exception vector (DESIGN CHOICE, log 36). -/
def natConsumption (r w : Bool) : Exc := .intr { vec := .natConsumption, code := 0x10, r, w }

/-- Fail with `e` unless the condition holds. -/
def require (c : Bool) (e : Exc) : Except Exc Unit := if c then .ok () else .error e

/-- A general register may be a target: not GR[0], and inside the frame (R330 step 2). -/
def State.grTargetOk (s : State) (r : GrIdx) : Bool := r != 0 && s.grVisible r

/-- The target check of a general register (R330 step 2). -/
def State.targetGr (s : State) (r : GrIdx) : Except Exc Unit := require (s.grTargetOk r) illegalOp

/-- A floating-point register may be a target: not FR[0] or FR[1] (R330 step 2, R514). -/
def frTargetOk (f : FrIdx) : Bool := f != 0 && f != 1

/-- Read a general register; outside the frame it is an Illegal Operation (R22). -/
def State.readGr (s : State) (r : GrIdx) : Except Exc GReg :=
  if s.grVisible r then .ok (s.gr r) else .error illegalOp

/-- A source register is inside the frame; this is checked before anything a lower line of R586 names (R22, R426, R490). -/
def State.sourceGr (s : State) (r : GrIdx) : Except Exc Unit := require (s.grVisible r) illegalOp

/-- Read a general register whose NaT bit is consumed (R573). -/
def State.consumeGr (s : State) (r : GrIdx) : Except Exc Word :=
  (s.readGr r).bind fun v => if v.nat then .error (natConsumption false false) else .ok v.val

/-- The floating-point register is in a disabled half (R589): bit 0 low, bit 1 high. -/
def State.frDisabled (s : State) (f : FrIdx) : BitVec 2 :=
  let n := f.toNat
  if n < 2 then 0 else if n < 32 then (if s.psrDfl then 1 else 0) else (if s.psrDfh then 2 else 0)

/-- Disabled Floating-Point Register fault if any of the registers is disabled (R589). -/
def State.fpEnabled (s : State) (fs : List FrIdx) : Except Exc Unit :=
  let d := fs.foldl (fun a f => a ||| s.frDisabled f) 0#2
  if d = 0 then .ok () else .error (.intr { vec := .disabledFp, code := d.setWidth 16 })

/-- Privileged instructions need PSR.cpl = 0 (R591). -/
def State.privileged (s : State) : Except Exc Unit := require (s.cpl == 0) privilegedOp

end Sys2Proof.Machine
end

