-- ==== Sys2Proof/Machine/Mem.lean ====
section
/-! DEFINITION. Machine/Mem.lean: physical memory in its canonical form, byte order (`spec/20_memory.md` R82), the
write-coalescing buffer (R120 to R126) and what instruction fetch may still see after a store (R140). -/

namespace Sys2Proof.Machine

/-! ### The memory list -/

/-- The byte at a physical address; an unlisted address reads as `Config.unwrittenByte` (R80, log 3). -/
def Memory.read : List Host.Cell → Nat → Byte
  | [], _ => Config.unwrittenByte
  | (k, v) :: m, a => if k = a then v else Memory.read m a

/-- Write one byte, keeping the canonical form: addresses rising, no entry equal to an unlisted byte. -/
def Memory.write : List Host.Cell → Nat → Byte → List Host.Cell
  | [], a, v => if v = Config.unwrittenByte then [] else [(a, v)]
  | (k, w) :: m, a, v =>
    if a < k then (if v = Config.unwrittenByte then (k, w) :: m else (a, v) :: (k, w) :: m)
    else if a = k then (if v = Config.unwrittenByte then m else (a, v) :: m)
    else (k, w) :: Memory.write m a v

/-- Every address of the list is above `lo`, addresses rise, and no entry equals an unlisted byte. -/
def Memory.wfAbove : Nat → List Host.Cell → Bool
  | _, [] => true
  | lo, (k, v) :: m => decide (lo ≤ k) && (v != Config.unwrittenByte) && Memory.wfAbove (k + 1) m

/-- The canonical form of memory. -/
def Memory.wf (m : List Host.Cell) : Bool := Memory.wfAbove 0 m

/-- Write consecutive bytes from an address upward. -/
def Memory.writeBytes : List Host.Cell → Nat → List Byte → List Host.Cell
  | m, _, [] => m
  | m, a, b :: bs => Memory.writeBytes (Memory.write m a b) (a + 1) bs

/-! ### Byte order (R82) -/

/-- The little-endian value of `n` bytes at `a`: the sum of `mem[a+k] * 2^(8k)` (R82). -/
def Memory.loadLE (m : List Host.Cell) (a : Nat) : Nat → Nat
  | 0 => 0
  | n + 1 => Memory.loadLE m a n + (Memory.read m (a + n)).toNat * 2 ^ (8 * n)

/-- The big-endian value of `n` bytes at `a`: the sum of `mem[a+k] * 2^(8(n-1-k))` (R82). -/
def Memory.loadBE (m : List Host.Cell) (a : Nat) : Nat → Nat
  | 0 => 0
  | n + 1 => Memory.loadBE m a n * 256 + (Memory.read m (a + n)).toNat

/-- `load_bytes(a, n, be)` (R82). -/
def Memory.load (m : List Host.Cell) (a n : Nat) (be : Bool) : Nat :=
  if be then Memory.loadBE m a n else Memory.loadLE m a n

/-- The `n` bytes of a value, least significant first. -/
def bytesLE (v : Nat) : Nat → List Byte
  | 0 => []
  | n + 1 => BitVec.ofNat 8 v :: bytesLE (v / 256) n

/-- The bytes `store_bytes(a, n, be, v)` writes from `a` upward (R82). -/
def storeBytes (v n : Nat) (be : Bool) : List Byte := if be then (bytesLE v n).reverse else bytesLE v n

/-! ### Writing memory -/

/-- `n` bytes from address `a` upward. -/
def Memory.bytes (m : List Host.Cell) : Nat → Nat → List Byte
  | _, 0 => []
  | a, n + 1 => Memory.read m a :: Memory.bytes m (a + 1) n

/-- The processor writes the bytes of one store to memory; instruction fetch may keep seeing the old ones, all of them or none, as
an access is atomic (R140, D8). -/
def State.memWrite (s : State) (a : Nat) (bs : List Byte) : State :=
  { s with mem := Memory.writeBytes s.mem a bs, stale := { addr := a, old := Memory.bytes s.mem a bs.length, stage := 0 } :: s.stale }

/-! ### The write-coalescing buffer (R121 to R126) -/

/-- The runs of consecutive valid bytes of an entry, cut at multiples of 8: what one eviction transaction at least carries (R125). -/
def wcbRuns : List Host.Cell → List (Nat × List Byte)
  | [] => []
  | (o, v) :: l =>
    match wcbRuns l with
    | [] => [(o, [v])]
    | (p, bs) :: r => if p = o + 1 ∧ p % 8 ≠ 0 then (o, v :: bs) :: r else (o, [v]) :: (p, bs) :: r

/-- Write the valid bytes of an entry to memory (R125). -/
def State.wcbWriteBack (s : State) (e : WcbEntry) : State :=
  (wcbRuns e.bytes).foldl (fun t c => t.memWrite (e.line * 128 + c.1) c.2) s

/-- Put one byte into the rising (offset, byte) list of an entry. -/
def wcbPut : List Host.Cell → Nat → Byte → List Host.Cell
  | [], o, v => [(o, v)]
  | (k, w) :: l, o, v =>
    if o < k then (o, v) :: (k, w) :: l else if o = k then (o, v) :: l else (k, w) :: wcbPut l o v

/-- Merge stored bytes into an entry from an offset upward (R121). -/
def wcbMerge : List Host.Cell → Nat → List Byte → List Host.Cell
  | l, _, [] => l
  | l, o, b :: bs => wcbMerge (wcbPut l o b) (o + 1) bs

/-- Flush both entries, oldest first (R122, R124). -/
def State.wcbFlush (s : State) : State := { s.wcb.foldl State.wcbWriteBack s with wcb := [] }

/-- Evict the entries of the list that are full (R121). -/
def State.wcbSettle (s : State) : State :=
  let full := s.wcb.filter (fun e => e.bytes.length = 128)
  { full.foldl State.wcbWriteBack s with wcb := s.wcb.filter (fun e => e.bytes.length ≠ 128) }

/-- A WC store (R121, D11): merge into the entry of its line, or allocate one, the oldest making room. -/
def State.wcStore (s : State) (a : Nat) (bs : List Byte) : State :=
  let line := a / 128
  let off := a % 128
  if s.wcb.any (fun e => e.line = line) then
    State.wcbSettle { s with
      wcb := s.wcb.map (fun e => if e.line = line then { e with bytes := wcbMerge e.bytes off bs } else e) }
  else
    let s' := match s.wcb with
      | e :: f :: l => { s.wcbWriteBack e with wcb := f :: l }
      | _ => s
    State.wcbSettle { s' with wcb := s'.wcb ++ [{ line, bytes := wcbMerge [] off bs }] }

/-- An entry may be evicted before any instruction (R126, U43): each one is, or not, freely. -/
def State.wcbFreeEvict (s : State) : State :=
  match s.wcb with
  | [] => s
  | [e] => if s.freeBool 5100 then { s.wcbWriteBack e with wcb := [] } else s
  | e :: f :: l =>
    let s1 := if s.freeBool 5100 then { s.wcbWriteBack e with wcb := f :: l } else s
    if s.freeBool 5101 then { s1.wcbWriteBack f with wcb := s1.wcb.filter (fun g => g.line ≠ f.line) } else s1

/-! ### Instruction fetch and `fc` (R140, R141) -/

/-- `fc` reached the 128-byte line of `a`: its old bytes go once `sync.i` and `srlz.i` follow (R140, R141). -/
def State.staleFc (s : State) (a : Nat) : State :=
  { s with stale := s.stale.map (fun b => if b.addr / 128 = a / 128 ∧ b.stage = 0 then { b with stage := 1 } else b) }

/-- `sync.i`: the effects of earlier `fc` are seen by fetch once a `srlz.i` has executed (R453). -/
def State.staleSync (s : State) : State :=
  { s with stale := s.stale.map (fun b => if b.stage = 1 then { b with stage := 2 } else b) }

/-- The byte at `a` after undoing the given stores, newest first. -/
def undoRead (m : List Host.Cell) (us : List StaleStore) (a : Nat) : Byte :=
  us.foldl (fun v u => if u.addr ≤ a then u.old.getD (a - u.addr) v else v) (Memory.read m a)

/-- The stores to the 64-byte line of `a` that this fetch still misses: the newest few, freely (R140). No store crosses a line
(R84, R571). -/
def State.fetchUndo (s : State) (a : Nat) : List StaleStore :=
  match s.stale.filter (fun b => b.addr / 64 = a / 64) with
  | [] => []
  | u :: us => (u :: us).take (Config.freeBelow s.freeCtr 5200 (us.length + 2))

/-- The 16 bytes of the bundle at physical address `a`, little-endian (R82), as fetch sees them (R140). -/
def fetchValue (m : List Host.Cell) (us : List StaleStore) (a : Nat) : Nat → Nat
  | 0 => 0
  | n + 1 => fetchValue m us a n + (undoRead m us (a + n)).toNat * 2 ^ (8 * n)

/-- The bundle at physical address `a` (R231). -/
def State.fetchBundle (s : State) (a : Nat) : BitVec 128 := BitVec.ofNat 128 (fetchValue s.mem (s.fetchUndo a) a 16)

end Sys2Proof.Machine
end

