-- ==== Sys2Proof/Machine/Translate.lean ====
section
/-! DEFINITION. Machine/Translate.lean: address translation (`spec/21_memory_hierarchy.md` R152 to R160), the checks an
access makes and the faults they raise (`spec/60_exceptions.md` R567 to R574, R585, R594), alignment (R84, R571). -/

namespace Sys2Proof.Machine

/-- The kind of an access, for alignment and for the faults of unsupported references (R84, R570, R571). -/
inductive AccClass where
  /-- Integer loads and stores, fills and spills of general registers, RSE accesses. -/
  | int
  /-- Floating-point loads and stores, fills and spills. -/
  | fp
  /-- Floating-point load pairs. -/
  | fpPair
  /-- `ld.acq`, `ld.c.clr.acq`, `st.rel`: natural alignment (R571; log 10). -/
  | ordered
  /-- `cmpxchg`, `xchg`, `fetchadd`. -/
  | semaphore
  /-- One-byte references that move no data: `fc`, `lfetch`, `probe`. -/
  | reference
  deriving DecidableEq, Repr

/-- One access: its address, size and kind, and what ISR says of it (R576). -/
structure Acc where
  va  : Word
  n   : Nat
  cls : AccClass
  r   : Bool := false
  w   : Bool := false
  x   : Bool := false
  sp  : Bool := false
  rs  : Bool := false
  ir  : Bool := false
  na  : Option (BitVec 16) := none
  cpl : BitVec 2
  deriving DecidableEq, Repr

/-- What can be wrong with an access (R568, R569, R426). -/
inductive TransFault where
  | unimplementedAddress
  | nestedTlb
  | altTlb
  | vhptFault
  | tlbMiss
  | multipleHit
  | pageNotPresent (e : TlbEntry)
  | natPage
  /-- A speculative load of an uncacheable page: always deferred (R567). -/
  | uncacheableSpeculative
  | keyMiss (e : TlbEntry)
  | keyPermission (e : TlbEntry)
  | accessRights (e : TlbEntry)
  | dirtyBit (e : TlbEntry)
  | accessBit (e : TlbEntry)
  | debug
  | unaligned
  | unsupported
  deriving DecidableEq, Repr

/-! ### Looking a translation up -/

/-- The low `ps` bits of a 61-bit offset. -/
def pageMask (ps : BitVec 6) : BitVec 61 := (1#61 <<< ps.toNat) - 1

/-- An entry covers a virtual address of a region (R152, R159). -/
def TlbEntry.covers (e : TlbEntry) (rid : BitVec 24) (off : BitVec 61) : Bool :=
  e.rid = rid && (e.va >>> e.ps.toNat) = (off >>> e.ps.toNat)

/-- All translations of one side: registers, then the cache (R154, R156). -/
def State.translations (s : State) (instr : Bool) : List TlbEntry :=
  if instr then s.itr.toList.filterMap id ++ s.itcache else s.dtr.toList.filterMap id ++ s.dtcache

/-- The translations that match a virtual address (R159). -/
def State.lookup (s : State) (instr : Bool) (va : Word) : List TlbEntry :=
  (s.translations instr).filter (fun e => e.covers (rrRid (s.regionReg va)) (va.extractLsb' 0 61))

/-- The entry of the first-level instruction TLB for an address (R151). -/
def State.l1Hit (s : State) (va : Word) : Option TlbEntry :=
  s.l1itlb.find? (fun e => e.covers (rrRid (s.regionReg va)) (va.extractLsb' 0 61))

/-- The translations an access finds: a fetch takes its first-level entry where there is one, which "does not need to be a strict
subset of the larger L2 ITLB" (R151, R154, R157). -/
def State.found (s : State) (instr : Bool) (va : Word) : List TlbEntry :=
  match if instr then s.l1Hit va else none with
  | some e => [e]
  | none => s.lookup instr va

/-- The physical address a translation gives (R159). -/
def TlbEntry.phys (e : TlbEntry) (va : Word) : Nat :=
  let mask := (pageMask e.ps).setWidth 50
  ((e.pa &&& ~~~ mask) ||| (va.setWidth 50 &&& mask)).toNat

/-- The address of the VHPT entry for a virtual address: at the place that the hash gives inside the table of CR[PTA], whose 2^`size` bytes
(bits 7:2) begin at `base` (bits 63:15) (D15, R38; log 14). -/
def State.vhptAddr (s : State) (va : Word) : Word :=
  let base := s.cr.pta &&& ~~~ 0x7FFF
  let size := (s.cr.pta.extractLsb' 2 6).toNat
  base + BitVec.ofNat 64 ((Config.vhptHash va (s.regionReg va) s.cr.pta).toNat % 2 ^ size)

/-- The hardware walker is enabled for an access: PTA.ve and RR.ve; PSR.dt, and PSR.it and PSR.ic for instructions (R160,
R568; log 13). -/
def State.walkerOn (s : State) (instr : Bool) (va : Word) : Bool :=
  s.cr.pta.getLsbD 0 && rrVe (s.regionReg va) && s.psrDt && (!instr || (s.psrIt && s.psrIc))

/-- The fault of an access that misses: a walk that succeeds has inserted its entry before the instruction (`State.walkFree`),
so here it is aborted or finds no good entry (R568, U41; log 13). -/
def State.missFault (s : State) (acc : Acc) : TransFault :=
  if !s.psrIc && !acc.x then .nestedTlb
  else if !s.walkerOn acc.x acc.va then .altTlb
  else if (s.lookup false (s.vhptAddr acc.va)).isEmpty && !s.freeBool 5300 then .vhptFault
  else .tlbMiss

/-! ### The checks of a translation (R569) -/

/-- Access rights: may privilege level `cpl` read, write, execute a page with these rights (R594; log 15). -/
def rightsAllow (ar : BitVec 3) (pl cpl : BitVec 2) (r w x : Bool) : Bool :=
  let le := cpl ≤ pl
  let zero := cpl = 0
  let (mr, mw, mx) : Bool × Bool × Bool := match ar.toNat with
    | 0 => (le, false, false)
    | 1 => (le, false, le)
    | 2 => (le, le, false)
    | 3 => (le, le, le)
    | 4 => (le, zero, false)
    | 5 => (le, zero, le)
    | 6 => (le, le, le)
    | _ => (zero, false, true)
  (!r || mr) && (!w || mw) && (!x || mx)

/-- The protection key register holding a key (R593). -/
def State.keyReg (s : State) (key : BitVec 24) : Option Word :=
  s.pkr.toList.find? (fun k => k.getLsbD 0 && k.extractLsb' 8 24 = key)

/-- A protection key register forbids the access (R46, R569 line 4). -/
def keyForbids (k : Word) (acc : Acc) : Bool :=
  (acc.w && k.getLsbD 1) || (acc.r && k.getLsbD 2) || (acc.x && k.getLsbD 3)

/-- The attribute is UC, UCE or WC (R81). -/
def MemAttr.uncacheable : MemAttr → Bool
  | .uc | .uce | .wc => true
  | .wb | .natPage => false

/-- Lines 1 to 7 of R569, with the deferral of speculative loads from uncacheable pages (R567). -/
def State.checkEntry (s : State) (acc : Acc) (e : TlbEntry) : Except TransFault Unit :=
  if !e.p then .error (.pageNotPresent e)
  else if e.ma = .natPage then .error .natPage
  else if acc.sp && e.ma.uncacheable then .error .uncacheableSpeculative
  else if s.psrPk && (s.keyReg e.key).isNone then .error (.keyMiss e)
  else if s.psrPk && (s.keyReg e.key).any (fun k => keyForbids k acc) then .error (.keyPermission e)
  else if !rightsAllow e.ar e.pl acc.cpl acc.r acc.w acc.x then .error (.accessRights e)
  else if acc.w && !e.d then .error (.dirtyBit e)
  else if !e.a then .error (.accessBit e)
  else .ok ()

/-- Translate a virtual address and check it (R159, R568, R569 lines 1 to 7). -/
def State.translateVirtual (s : State) (acc : Acc) : Except TransFault (Nat × MemAttr) :=
  match s.found acc.x acc.va with
  | [] => .error (s.missFault acc)
  | [e] => (s.checkEntry acc e).bind fun _ => .ok (e.phys acc.va, e.ma)
  | _ => .error .multipleHit

/-- Physical mode: the low 50 bits are the address, bit 63 selects UC (R80, R426). -/
def translatePhysical (acc : Acc) : Except TransFault (Nat × MemAttr) :=
  if unimplementedPhys acc.va && !acc.x then .error .unimplementedAddress
  else if acc.sp && acc.va.getLsbD 63 then .error .uncacheableSpeculative
  else .ok ((acc.va.setWidth 50).toNat, if acc.va.getLsbD 63 then .uc else .wb)

/-- The translation enable that governs an access (R34, R80). -/
def State.virtualMode (s : State) (acc : Acc) : Bool :=
  if acc.x then s.psrIt else if acc.rs then s.psrRt else s.psrDt

/-- Physical address and attribute of an access. -/
def State.translate (s : State) (acc : Acc) : Except TransFault (Nat × MemAttr) :=
  if s.virtualMode acc then s.translateVirtual acc else translatePhysical acc

/-! ### Debug, alignment, unsupported references -/

/-- The offset of an address in its 16-byte block. -/
def blockOff (va : Word) : Nat := (va.extractLsb' 0 4).toNat

/-- The mask of a breakpoint pair: bits 63:56 are always compared (R47, R48). -/
def breakMask (odd : Word) : Word := 0xFF#8 ++ odd.extractLsb' 0 56

/-- One pair of breakpoint registers matches an address at a privilege level (R47, R48, R572). -/
def breakMatch (even odd va : Word) (cpl : BitVec 2) : Bool :=
  odd.getLsbD (56 + cpl.toNat) && ((va ^^^ even) &&& breakMask odd) = 0

/-- Some byte of an access of `n` bytes matches a data breakpoint pair (R572). -/
def dbrHit (even odd : Word) (acc : Acc) : Bool :=
  ((acc.r && odd.getLsbD 63) || (acc.w && odd.getLsbD 62)) &&
    (List.range acc.n).any (fun k => breakMatch even odd (acc.va + BitVec.ofNat 64 k) acc.cpl)

/-- A data breakpoint pair matches the access. -/
def State.dbrMatch (s : State) (acc : Acc) : Bool :=
  dbrHit s.dbr[0] s.dbr[1] acc || dbrHit s.dbr[2] s.dbr[3] acc || dbrHit s.dbr[4] s.dbr[5] acc
    || dbrHit s.dbr[6] s.dbr[7] acc

/-- The Data Debug fault's condition: crossing 16 bytes, or a match (R85, R572, D33). -/
def State.dataDebug (s : State) (acc : Acc) : Bool :=
  s.psrDb && !s.psrDd && (decide (blockOff acc.va + acc.n > 16) || s.dbrMatch acc)

/-- Natural alignment; for the 10-byte forms a multiple of 16 (R84). -/
def naturallyAligned (va : Word) (n : Nat) : Bool :=
  if n = 10 then decide (blockOff va = 0) else decide (blockOff va % n = 0)

/-- `misaligned_fault` (R84, R571); for 10- and 16-byte floating-point accesses to uncacheable pages D7 raises the
unsupported fault instead of the 8-byte rule (log 11). -/
def State.misaligned (s : State) (acc : Acc) (ma : MemAttr) : Bool :=
  if s.umAc then !naturallyAligned acc.va acc.n
  else match acc.cls with
    | .semaphore | .ordered | .fpPair => !naturallyAligned acc.va acc.n
    | .int => decide (blockOff acc.va % 8 + acc.n > 8)
    | .fp =>
      if ma.uncacheable && decide (acc.n ≤ 8) then decide (blockOff acc.va % 8 + acc.n > 8)
      else decide (blockOff acc.va + acc.n > 16)
    | .reference => false

/-- Unsupported Data Reference: a semaphore, or a 10- or 16-byte access, to an uncacheable page (R570, D7). -/
def unsupportedRef (acc : Acc) (ma : MemAttr) : Bool :=
  ma.uncacheable && (acc.cls = .semaphore || acc.n = 10 || acc.n = 16)

/-- Lines 8 to 10 of R569. -/
def State.checkData (s : State) (acc : Acc) (ma : MemAttr) : Except TransFault Unit :=
  if s.dataDebug acc then .error .debug
  else if s.misaligned acc ma then .error .unaligned
  else if unsupportedRef acc ma then .error .unsupported
  else .ok ()

/-- Everything a data access checks, in the order of R569; its physical address and attribute. R425 lists alignment and the data breakpoints
before the translation, where R426, R569 and R586 have them after its faults: these are followed (DESIGN CHOICE, log 46). -/
def State.resolve (s : State) (acc : Acc) : Except TransFault (Nat × MemAttr) :=
  (s.translate acc).bind fun p => (s.checkData acc p.2).bind fun _ => .ok p

/-! ### Raising and deferring -/

/-- The ITIR value of a TLB-miss fault (R585). -/
def State.missItir (s : State) (va : Word) : Word := mkItir (rrPs (s.regionReg va)) (rrRid (s.regionReg va))

/-- ISR.code of an access: what a non-access instruction is (R576). -/
def Acc.code (acc : Acc) : BitVec 16 := acc.na.getD 0

/-- The interruption of a translation fault: vector (R565), ISR (R576), the registers its vector writes (R585). For a fetch that hits a
first-level segment ITIR has the size of the segment, 12, and not of its page: R151 and R585 do not say which (DESIGN CHOICE, log 37). -/
def State.transIntr (s : State) (acc : Acc) (f : TransFault) : Intr :=
  let base : Intr :=
    { vec := .generalException, code := acc.code, x := acc.x, w := acc.w, r := acc.r, na := acc.na.isSome, sp := acc.sp,
      rs := acc.rs, ir := acc.ir, ifa := some acc.va }
  let entry := fun (v : IvtVector) (e : TlbEntry) => { base with vec := v, itir := some (mkItir e.ps e.key) }
  let pick := fun (i d : IvtVector) => if acc.x then i else d
  let miss : Intr := { base with itir := some (s.missItir acc.va), missVa := some acc.va }
  match f with
  | .unimplementedAddress => { base with vec := .generalException, code := acc.code ||| 0x50, ifa := none }
  | .nestedTlb => { base with vec := .dataNestedTlb, ifa := none, missVa := some acc.va }
  | .altTlb => { miss with vec := pick .altInstructionTlb .altDataTlb }
  | .vhptFault => { miss with vec := .vhptTranslation, iha := some (s.vhptAddr acc.va) }
  | .tlbMiss => { miss with vec := pick .instructionTlb .dataTlb, iha := some (s.vhptAddr acc.va) }
  | .pageNotPresent e => entry .pageNotPresent e
  | .natPage | .multipleHit | .uncacheableSpeculative => { base with vec := .natConsumption, code := acc.code ||| 0x20 }
  | .keyMiss e => entry (pick .instructionKeyMiss .dataKeyMiss) e
  | .keyPermission e => entry .keyPermission e
  | .accessRights e => entry (pick .instructionAccessRights .dataAccessRights) e
  | .dirtyBit e => entry .dirtyBit e
  | .accessBit e => entry (pick .instructionAccessBit .dataAccessBit) e
  | .debug => { base with vec := .debug }
  | .unaligned => { base with vec := .unalignedReference }
  | .unsupported => { base with vec := .unsupportedDataReference }

/-- Raise a translation fault; more than one match is a machine check (R159, R595). -/
def State.raise (s : State) (acc : Acc) (f : TransFault) : Exc :=
  match f with
  | .multipleHit => .fault .machineCheckMultipleHit
  | f => .intr (s.transIntr acc f)

/-- `ITLB.ed` of the page being executed (R567). -/
def State.codeEd (s : State) : Bool :=
  match s.found true s.ip with
  | [e] => e.ed
  | _ => false

/-- A deferral bit of DCR takes effect (R567). -/
def State.dcrDefers (s : State) (k : Nat) : Bool :=
  !s.psrIc || s.psrEd || (s.psrIt && s.cr.dcr.getLsbD k && s.codeEd)

/-- Early deferral is in force (R101, C6). -/
def State.earlyDeferral (s : State) : Bool := s.deferral = .earlyEnabled && s.psrIc && s.cr.dcr.getLsbD 8

/-- A speculative load defers this fault instead of raising it (R567). With the walker enabled, a walk that aborts or finds no
translation always defers (R104, R160; log 17). -/
def State.defers (s : State) (f : TransFault) : Bool :=
  match f with
  | .unimplementedAddress | .natPage | .uncacheableSpeculative | .unaligned | .unsupported | .vhptFault | .tlbMiss => true
  | .altTlb | .nestedTlb => s.dcrDefers 8 || s.earlyDeferral
  | .pageNotPresent _ => s.dcrDefers 9
  | .keyMiss _ => s.dcrDefers 10
  | .keyPermission _ => s.dcrDefers 11
  | .accessRights _ => s.dcrDefers 12
  | .accessBit _ => s.dcrDefers 13
  | .debug => s.dcrDefers 14
  | .dirtyBit _ | .multipleHit => false

/-- A non-speculative access: its physical address and attribute, or the fault it raises. -/
def State.access (s : State) (acc : Acc) : Except Exc (Nat × MemAttr) :=
  match s.resolve acc with
  | .ok p => .ok p
  | .error f => .error (s.raise acc f)

/-- A speculative access: `none` when it is deferred (R100, R567); PSR.ed = 1 forces that. -/
def State.accessSpec (s : State) (acc : Acc) : Except Exc (Option (Nat × MemAttr)) :=
  match s.resolve acc with
  | .ok p => .ok (if s.psrEd then none else some p)
  | .error f => if s.defers f then .ok none else .error (s.raise acc f)

/-! ### The order of use of the TLBs (R151, R154, R156; log 33, log 37) -/

/-- The data translation cache after an access that used it: the entry of the address comes first (R156). -/
def State.dtcUsed (s : State) (acc : Acc) : List TlbEntry :=
  if s.virtualMode acc then
    let hit := fun e : TlbEntry => e.covers (rrRid (s.regionReg acc.va)) (acc.va.extractLsb' 0 61)
    s.dtcache.filter hit ++ s.dtcache.filter (fun e => !hit e)
  else s.dtcache

/-- The 4 KB segment of a page that holds an address (R151). -/
def TlbEntry.segment (e : TlbEntry) (va : Word) : TlbEntry :=
  { e with va := va.extractLsb' 0 61 &&& ~~~ pageMask 12, ps := 12,
           pa := BitVec.ofNat 50 (e.phys va) &&& ~~~ ((pageMask 12).setWidth 50) }

/-- Entries of each first-level TLB (R151, R155). -/
def l1Size : Nat := 32

/-- The bundle at IP is fetched, and not only its next slot executed. -/
def State.freshFetch (s : State) : Bool := s.ri = 0 || s.lastBundle != s.ip

/-- The first-level instruction TLB after a completed fetch at IP: the fetched segment becomes its most recently used entry, in the
place of the least recently used one where it is full; only fetches from a write-back page enter it (R151, R866). A fetch that missed
here but not in the second level is noted for the EAR (R669). -/
def State.l1Fill (s : State) : State :=
  match s.psrIt, s.found true s.ip with
  | true, [e] =>
    let f := e.segment s.ip
    let t := if s.freshFetch && (s.l1Hit s.ip).isNone then s.emit (.tlbMiss true s.ip .l2 true) else s
    if e.ma = .wb then { t with l1itlb := (f :: s.l1itlb.filter (fun g => !g.covers f.rid f.va)).take l1Size } else t
  | _, _ => s

/-- The first-level data TLB holds a segment for an address (R155). -/
def State.l1dHit (s : State) (va : Word) : Bool :=
  s.l1dtlb.any (fun e => e.covers (rrRid (s.regionReg va)) (va.extractLsb' 0 61))

/-- An address that misses the first-level data TLB and hits the second level: its translation is transferred (R155, R860). -/
def State.l1dMoves (s : State) (va : Word) : Bool := !s.l1dHit va && (s.lookup false va).length = 1

/-- The first-level data TLB after a reference to an address: the segment of its translation is in it, in the place of any other one where
it is full, as the spec names no policy (R155, R860; log 37). -/
def State.l1dUsed (s : State) (va : Word) : List TlbEntry :=
  match s.l1dHit va, s.lookup false va with
  | false, [e] =>
    e.segment va :: (if s.l1dtlb.length < l1Size then s.l1dtlb
      else (s.l1dtlb.eraseIdx (Config.freeBelow s.freeCtr (8 * (250000 + va.toNat / 4096) + 5) s.l1dtlb.length)).take (l1Size - 1))
  | _, _ => s.l1dtlb

/-- A floating-point access (R155). -/
def Acc.isFp (acc : Acc) : Bool := acc.cls = .fp || acc.cls = .fpPair

/-- The access looks its translation up in the first-level data TLB: those of the integer side, in virtual mode (R155, R860;
log 37). -/
def State.usesL1d (s : State) (acc : Acc) : Bool := !acc.isFp && s.virtualMode acc

/-- The first-level data TLB after an access was performed. -/
def State.l1dAfter (s : State) (acc : Acc) : List TlbEntry := if s.usesL1d acc then s.l1dUsed acc.va else s.l1dtlb

/-! ### Instruction fetch (R21, R80, R574) -/

/-- An instruction breakpoint pair matches the bundle address (R47, R574). -/
def State.ibrMatch (s : State) : Bool :=
  let hit := fun (even odd : Word) => odd.getLsbD 63 && breakMatch even odd s.ip s.cpl
  hit s.ibr[0] s.ibr[1] || hit s.ibr[2] s.ibr[3] || hit s.ibr[4] s.ibr[5] || hit s.ibr[6] s.ibr[7]

/-- The access an instruction fetch makes. -/
def State.fetchAcc (s : State) : Acc := { va := s.ip, n := 16, cls := .reference, x := true, cpl := s.cpl }

/-- Fetch the bundle at IP, or the fault of R586 line 5. -/
def State.fetch (s : State) : Except Exc (BitVec 128) :=
  match s.translate s.fetchAcc with
  | .error f => .error (s.raise s.fetchAcc f)
  | .ok p =>
    if s.psrDb && !s.psrId && s.ibrMatch then .error (s.raise s.fetchAcc .debug)
    else .ok (s.fetchBundle (p.1 / 16 * 16))

end Sys2Proof.Machine
end

