-- ==== Sys2Proof/Machine/Operands.lean ====
section
/-! DEFINITION. Machine/Operands.lean: immediates (`spec/30_encoding.md` R240), branch targets (R521), and the address
register and base update of every memory form (`spec/42_m_type_memory.md` R425). -/

namespace Sys2Proof.Machine

/-- `target25`: IP + (sext_21(imm21) << 4) (R240). -/
def State.target25 (s : State) (imm21 : BitVec 21) : Word := s.ip + (imm21.signExtend 64 <<< 4)

/-- `target64`: IP + (imm60 << 4) modulo 2^64 (R240). -/
def State.target64 (s : State) (imm60 : BitVec 60) : Word := s.ip + (imm60.setWidth 64 <<< 4)

/-- The target of an indirect branch: BR[b2] with bits 3:0 forced to 0 (R521). -/
def State.brTarget (s : State) (b : BrIdx) : Word := s.br b &&& ~~~ 0xF#64

/-- `mask17` of `mov pr`: bit i for predicate i below 16, bit 16 for the rotating ones (R358). -/
def prMask17 (mask17 : BitVec 17) : Word := mask17.signExtend 64

/-- The increment of `fetchadd` (R402). -/
def incValue : FetchInc → Word
  | .m16 => -16
  | .m8 => -8
  | .m4 => -4
  | .m1 => -1
  | .p1 => 1
  | .p4 => 4
  | .p8 => 8
  | .p16 => 16

/-- How a memory instruction updates its base register (R425). -/
inductive BaseUpdate where
  | none
  | reg (r2 : GrIdx)
  | imm (v : Word)
  deriving DecidableEq, Repr

/-- The form updates its base. -/
def BaseUpdate.updates : BaseUpdate → Bool
  | .none => false
  | .reg _ | .imm _ => true

/-- The target checks of the base: an updated base is a target (R330 step 2, R425). -/
def State.baseTarget (s : State) (r3 : GrIdx) (u : BaseUpdate) : Except Exc Unit :=
  if u.updates then s.targetGr r3 else .ok ()

/-- The value the base register takes (R425 step 7): old base plus increment, NaT bits joined. -/
def State.baseValue (s : State) (r3 : GrIdx) (u : BaseUpdate) : GReg :=
  let b := s.gr r3
  match u with
  | .none => b
  | .reg r2 => { val := b.val + (s.gr r2).val, nat := b.nat || (s.gr r2).nat }
  | .imm v => { val := b.val + v, nat := b.nat }

/-- The increment register is readable (R22). -/
def State.updateReadable (s : State) (u : BaseUpdate) : Except Exc Unit :=
  match u with
  | .reg r2 => require (s.grVisible r2) illegalOp
  | .none | .imm _ => .ok ()

/-- Update the base register of `t`; the value was computed before the access (R425 step 7). -/
def State.updateBase (s : State) (t : State) (r3 : GrIdx) (u : BaseUpdate) : State :=
  if u.updates then t.setGr r3 (s.baseValue r3 u) .update else t

end Sys2Proof.Machine
end

