-- ==== Sys2Proof/Machine/Alu.lean ====
section
/-! DEFINITION. Machine/Alu.lean: integer ALU instructions, formats A1 to A5 (`spec/40_a_type.md` R320 to R324, R331). -/

namespace Sys2Proof.Machine

/-- An instruction of two general-register sources and a target, NaT bits joined (R331). -/
def grOp2 (s : State) (qp : PredIdx) (r1 r2 r3 : GrIdx) (f : Word → Word → Word) : Host.Outcome State Fault Refusal :=
  run s qp (s.targetGr r1)
    ((s.readGr r2).bind fun a => (s.readGr r3).bind fun b =>
      .ok { s := s.setGr r1 { val := f a.val b.val, nat := a.nat || b.nat } .alu })

/-- An instruction of one general-register source and a target, the NaT bit copied (R331). -/
def grOp1 (s : State) (qp : PredIdx) (r1 r3 : GrIdx) (f : Word → Word) : Host.Outcome State Fault Refusal :=
  run s qp (s.targetGr r1)
    ((s.readGr r3).bind fun b => .ok { s := s.setGr r1 { val := f b.val, nat := b.nat } .alu })

/-- An instruction that writes a value with NaT clear. -/
def grOp0 (s : State) (qp : PredIdx) (r1 : GrIdx) (v : Word) : Host.Outcome State Fault Refusal :=
  run s qp (s.targetGr r1) (.ok { s := s.setGr r1 (GReg.ofWord v) .alu })

/-- The result of the pointer adds: bits 31:0 of the sum, bits 62:61 from bits 31:30 of `b` (R320). -/
def ptr4 (sum b : Word) : Word := 0#1 ++ b.extractLsb' 30 2 ++ 0#29 ++ sum.extractLsb' 0 32

/-- `shladd`'s count: `ct2d` + 1 (R240, R321). -/
def shiftAdd (a : Word) (ct2d : BitVec 2) (b : Word) : Word := (a <<< (ct2d.toNat + 1)) + b

/-! ### The instructions -/

/-- `add r1=r2,r3` (A1, R320). -/
def execAddR1R2R3 (qp : PredIdx) (r1 r2 r3 : GrIdx) (s : State) : Host.Outcome State Fault Refusal :=
  grOp2 s qp r1 r2 r3 (fun a b => a + b)

/-- `add r1=r2,r3,1` (A1, R320). -/
def execAddR1R2R31 (qp : PredIdx) (r1 r2 r3 : GrIdx) (s : State) : Host.Outcome State Fault Refusal :=
  grOp2 s qp r1 r2 r3 (fun a b => a + b + 1)

/-- `sub r1=r2,r3` (A1, R320). -/
def execSubR1R2R3 (qp : PredIdx) (r1 r2 r3 : GrIdx) (s : State) : Host.Outcome State Fault Refusal :=
  grOp2 s qp r1 r2 r3 (fun a b => a - b)

/-- `sub r1=r2,r3,1` (A1, R320). -/
def execSubR1R2R31 (qp : PredIdx) (r1 r2 r3 : GrIdx) (s : State) : Host.Outcome State Fault Refusal :=
  grOp2 s qp r1 r2 r3 (fun a b => a - b - 1)

/-- `addp4 r1=r2,r3` (A1, R320). -/
def execAddp4R1R2R3 (qp : PredIdx) (r1 r2 r3 : GrIdx) (s : State) : Host.Outcome State Fault Refusal :=
  grOp2 s qp r1 r2 r3 (fun a b => ptr4 (a + b) b)

/-- `and r1=r2,r3` (A1, R320). -/
def execAndR1R2R3 (qp : PredIdx) (r1 r2 r3 : GrIdx) (s : State) : Host.Outcome State Fault Refusal :=
  grOp2 s qp r1 r2 r3 (fun a b => a &&& b)

/-- `andcm r1=r2,r3` (A1, R320). -/
def execAndcmR1R2R3 (qp : PredIdx) (r1 r2 r3 : GrIdx) (s : State) : Host.Outcome State Fault Refusal :=
  grOp2 s qp r1 r2 r3 (fun a b => a &&& ~~~ b)

/-- `or r1=r2,r3` (A1, R320). -/
def execOrR1R2R3 (qp : PredIdx) (r1 r2 r3 : GrIdx) (s : State) : Host.Outcome State Fault Refusal :=
  grOp2 s qp r1 r2 r3 (fun a b => a ||| b)

/-- `xor r1=r2,r3` (A1, R320). -/
def execXorR1R2R3 (qp : PredIdx) (r1 r2 r3 : GrIdx) (s : State) : Host.Outcome State Fault Refusal :=
  grOp2 s qp r1 r2 r3 (fun a b => a ^^^ b)

/-- `shladd r1=r2,count2,r3` (A2, R321). -/
def execShladdR1R2Count2R3 (qp : PredIdx) (r1 r2 : GrIdx) (ct2d : BitVec 2) (r3 : GrIdx) (s : State) :
    Host.Outcome State Fault Refusal :=
  grOp2 s qp r1 r2 r3 (fun a b => shiftAdd a ct2d b)

/-- `shladdp4 r1=r2,count2,r3` (A2, R321). -/
def execShladdp4R1R2Count2R3 (qp : PredIdx) (r1 r2 : GrIdx) (ct2d : BitVec 2) (r3 : GrIdx) (s : State) :
    Host.Outcome State Fault Refusal :=
  grOp2 s qp r1 r2 r3 (fun a b => ptr4 (shiftAdd a ct2d b) b)

/-- `sub r1=imm8,r3` (A3, R322). -/
def execSubR1Imm8R3 (qp : PredIdx) (r1 : GrIdx) (imm8 : BitVec 8) (r3 : GrIdx) (s : State) :
    Host.Outcome State Fault Refusal :=
  grOp1 s qp r1 r3 (fun b => sext imm8 - b)

/-- `and r1=imm8,r3` (A3, R322). -/
def execAndR1Imm8R3 (qp : PredIdx) (r1 : GrIdx) (imm8 : BitVec 8) (r3 : GrIdx) (s : State) :
    Host.Outcome State Fault Refusal :=
  grOp1 s qp r1 r3 (fun b => sext imm8 &&& b)

/-- `andcm r1=imm8,r3` (A3, R322). -/
def execAndcmR1Imm8R3 (qp : PredIdx) (r1 : GrIdx) (imm8 : BitVec 8) (r3 : GrIdx) (s : State) :
    Host.Outcome State Fault Refusal :=
  grOp1 s qp r1 r3 (fun b => sext imm8 &&& ~~~ b)

/-- `or r1=imm8,r3` (A3, R322). -/
def execOrR1Imm8R3 (qp : PredIdx) (r1 : GrIdx) (imm8 : BitVec 8) (r3 : GrIdx) (s : State) :
    Host.Outcome State Fault Refusal :=
  grOp1 s qp r1 r3 (fun b => sext imm8 ||| b)

/-- `xor r1=imm8,r3` (A3, R322). -/
def execXorR1Imm8R3 (qp : PredIdx) (r1 : GrIdx) (imm8 : BitVec 8) (r3 : GrIdx) (s : State) :
    Host.Outcome State Fault Refusal :=
  grOp1 s qp r1 r3 (fun b => sext imm8 ^^^ b)

/-- `adds r1=imm14,r3` (A4, R323). -/
def execAddsR1Imm14R3 (qp : PredIdx) (r1 : GrIdx) (imm14 : BitVec 14) (r3 : GrIdx) (s : State) :
    Host.Outcome State Fault Refusal :=
  grOp1 s qp r1 r3 (fun b => sext imm14 + b)

/-- `addp4 r1=imm14,r3` (A4, R323). -/
def execAddp4R1Imm14R3 (qp : PredIdx) (r1 : GrIdx) (imm14 : BitVec 14) (r3 : GrIdx) (s : State) :
    Host.Outcome State Fault Refusal :=
  grOp1 s qp r1 r3 (fun b => ptr4 (sext imm14 + b) b)

/-- `addl r1=imm22,r3` (A5, R324). -/
def execAddlR1Imm22R3 (qp : PredIdx) (r1 : GrIdx) (imm22 : BitVec 22) (r3 : BitVec 2) (s : State) :
    Host.Outcome State Fault Refusal :=
  grOp1 s qp r1 (r3.setWidth 7) (fun b => sext imm22 + b)

end Sys2Proof.Machine
end

