-- ==== Sys2Proof/Machine/Access.lean ====
section
/-! DEFINITION. Machine/Access.lean: the ALAT (`spec/20_memory.md` R90 to R99), and what every load, store, semaphore and
prefetch does around its conversion of the data (`spec/42_m_type_memory.md` R425). -/

namespace Sys2Proof.Machine

/-! ### The ALAT -/

/-- The ALAT register of a general register: its physical number (R90). -/
def State.alatGr (s : State) (r : GrIdx) : AlatReg := .gr (s.grPhys r)

/-- The ALAT register of a floating-point register: its physical number (R90). -/
def State.alatFr (s : State) (f : FrIdx) : AlatReg := .fr (s.frPhys f)

/-- A valid entry of the register exists (R94). -/
def State.alatHas (s : State) (r : AlatReg) : Bool := s.alat.any (fun e => e.reg = r)

/-- Remove the entry of a register, if any. -/
def State.alatRemove (s : State) (r : AlatReg) : State := { s with alat := s.alat.filter (fun e => e.reg ≠ r) }

/-- An invalidation the program asks for: it also undoes sets of its group (R97). -/
def State.alatInvalidate (s : State) (r : AlatReg) : State :=
  { s.alatRemove r with grpAlatInval := r :: s.grpAlatInval }

/-- `invala`: every entry goes; sets of the same group do not happen (R97, R440). -/
def State.alatInvalidateAll (s : State) : State := { s with alat := [], grpAlatInvalAll := true }

/-- Two byte ranges overlap modulo 2^20 (R92, D9). -/
def overlap20 (a n b m : Nat) : Bool :=
  decide ((b + 2 ^ 20 - a % 2 ^ 20) % 2 ^ 20 < n) || decide ((a + 2 ^ 20 - b % 2 ^ 20) % 2 ^ 20 < m)

/-- `alat_store_snoop` with the 20-bit comparison (R92, R93; log 8). -/
def State.alatSnoop (s : State) (pa n : Nat) : State :=
  { s with alat := s.alat.filter (fun e => !overlap20 pa n e.pa20.toNat e.size) }

/-- Put an entry into the ALAT: a free place, or any valid entry makes room (R91, U40). -/
def State.alatPut (s : State) (e : AlatEntry) : State :=
  let l := s.alat.filter (fun f => f.reg ≠ e.reg)
  if l.length < Config.alatSize then { s with alat := e :: l }
  else { s with alat := e :: l.eraseIdx (Config.freeBelow s.freeCtr 5000 l.length) }

/-- `alat_set` (R91): not after an invalidation of the register in the group (R97); freely after a check of the same
register in the group (R96). R97 speaks of one issue group; that it holds here over the whole instruction group, from stop to
stop, is a DESIGN CHOICE (log 9). R912's words are the opposite of R97's, "the ALAT set will occur", and it names R97 as the rule: that R97
is followed is a DESIGN CHOICE (log 9). -/
def State.alatSet (s : State) (r : AlatReg) (pa n : Nat) : State :=
  let blocked := s.grpAlatInvalAll || s.grpAlatInval.contains r || (s.grpAlatChecks.contains r && s.freeBool 5002)
  let t := if blocked then s.alatRemove r else s.alatPut { reg := r, pa20 := BitVec.ofNat 20 pa, size := n }
  { t with grpAlatSets := r :: s.grpAlatSets }

/-- A check finds its entry; with a set of the same register in the group the answer is free (R94, R96). -/
def State.alatHit (s : State) (r : AlatReg) : Bool :=
  if s.grpAlatSets.contains r then s.freeBool 5001 else s.alatHas r

/-- The register is a floating-point one. -/
def AlatReg.isFp : AlatReg → Bool
  | .gr _ => false
  | .fr _ => true

/-- Note an `ld.c` of the register in this group (R96), and its event (R747, R748). -/
def State.alatChecked (s : State) (r : AlatReg) (failed : Bool) (va : Word) : State :=
  { s.emit (.chkaLdc r.isFp failed (some va)) with grpAlatChecks := r :: s.grpAlatChecks }

/-! ### Retirement events of memory references -/

/-- The attribute is UC or UCE (R81). -/
def MemAttr.isUc : MemAttr → Bool
  | .uc | .uce => true
  | .wb | .wc | .natPage => false

/-- Who makes an access. -/
def Acc.origin (acc : Acc) : RefOrigin := if acc.rs then .rse else .instr

/-- The entry a performed access used becomes the most recently used one of the data translation cache (R156; log 33). -/
def State.touch (s : State) (acc : Acc) : State := { s with dtcache := s.dtcUsed acc }

/-- The miss of the first-level data TLB that a load makes, for the EAR (R673). -/
def State.l1dNotes (s : State) (acc : Acc) : List PmuEvent :=
  if s.usesL1d acc && s.l1dMoves acc.va then [.tlbMiss false acc.va .l2 true] else []

/-- A reference that was performed as a load: its translation becomes the most recently used one, and the first-level data TLB takes it in,
which the EAR sees (R110, R155, R673). That a prefetch counts as a use of its translation too is a choice (R412; DESIGN CHOICE, log 33). -/
def State.readNoted (s : State) (acc : Acc) : State :=
  { s.touch acc with l1dtlb := s.l1dAfter acc, events := s.l1dNotes acc ++ s.events }

/-- A load counts as misaligned (R751). A floating-point one across an 8-byte boundary is performed (R84), but the note of R751 has the
misaligned loads inside one half of their 16 bytes only: whether it counts is free (DESIGN CHOICE, log 30). -/
def State.countsMisaligned (s : State) (acc : Acc) : Bool :=
  !naturallyAligned acc.va acc.n && (decide (blockOff acc.va % 8 + acc.n ≤ 8) || s.freeBool 5020)

/-- A load that was performed, which retires with its instruction (R750). -/
def State.noteLoad (s : State) (acc : Acc) (ma : MemAttr) : State :=
  (s.readNoted acc).emit (.load acc.va acc.origin (s.countsMisaligned acc) ma.isUc)

/-- A store that was performed (R755). The first-level data TLB takes the translation of one of the integer side in, as R860 has it for
every access that is not floating-point; the EAR sees no miss, as stores "never miss in L1DTLB" (R673; DESIGN CHOICE, log 37). A misaligned one
counts as such on an uncacheable page too, where R84 performs it and the note of R752 does not (DESIGN CHOICE, log 30). -/
def State.noteStore (s : State) (acc : Acc) (ma : MemAttr) : State :=
  State.emit { s.touch acc with l1dtlb := s.l1dAfter acc }
    (.store acc.va acc.origin (!naturallyAligned acc.va acc.n) ma.isUc)

/-! ### Loads -/

/-- The load types (R380 to R386). -/
inductive LoadKind where
  | plain | spec | adv | specAdv | chkClr | chkNc | chkClrAcq | acq
  deriving DecidableEq, Repr

/-- `ld.s`, `ld.sa`. -/
def LoadKind.speculative : LoadKind → Bool
  | .spec | .specAdv => true
  | .plain | .adv | .chkClr | .chkNc | .chkClrAcq | .acq => false

/-- `ld.a`, `ld.sa`: the load makes an ALAT entry. -/
def LoadKind.advanced : LoadKind → Bool
  | .adv | .specAdv => true
  | .plain | .spec | .chkClr | .chkNc | .chkClrAcq | .acq => false

/-- `ld.c`. -/
def LoadKind.check : LoadKind → Bool
  | .chkClr | .chkNc | .chkClrAcq => true
  | .plain | .spec | .adv | .specAdv | .acq => false

/-- Acquire semantics: natural alignment (R571; log 10). -/
def LoadKind.ordered : LoadKind → Bool
  | .acq | .chkClrAcq => true
  | .plain | .spec | .adv | .specAdv | .chkClr | .chkNc => false

/-- The class of an access whose load type may be ordered. -/
def LoadKind.cls (k : LoadKind) (c : AccClass) : AccClass := if k.ordered then .ordered else c

/-- A check load that clears: `.clr` forms (R94). -/
def LoadKind.clears : LoadKind → Bool
  | .chkClr | .chkClrAcq => true
  | .plain | .spec | .adv | .specAdv | .acq | .chkNc => false

/-- What a check load does to the ALAT, whether it finds its entry or not: `.clr` leaves no entry of the register, also none that an
advanced load of its group makes; `.nc` keeps it (R94, R97). -/
def State.checkLoad (s : State) (k : LoadKind) (reg : AlatReg) (failed : Bool) (va : Word) : State :=
  let t := s.alatChecked reg failed va
  if k.clears then t.alatInvalidate reg else t

/-- A check load that misses. -/
def State.checkMiss (s : State) (k : LoadKind) (reg : AlatReg) (va : Word) : State :=
  if k.check then s.checkLoad k reg true va else s

/-- A load may find its data in the L1D: an integer load of a write-back page, whose translation the first-level data TLB holds (R81,
R114, R155). An ordered one may too, as R181 says, though R176 has ordered operations miss the L1D (DESIGN CHOICE, log 29). -/
def State.mayHitL1d (s : State) (acc : Acc) (ma : MemAttr) : Bool :=
  !acc.isFp && ma = .wb && (!s.virtualMode acc || s.l1dHit acc.va)

/-- A performed load; a check load that missed the ALAT counts as one only where it missed the L1D too, whose lines are no state here
(R750, R751, R756; log 29). -/
def State.loadNoted (s : State) (k : LoadKind) (acc : Acc) (ma : MemAttr) : State :=
  if k.check && s.mayHitL1d acc ma && s.freeBool 5010 then s.touch acc else s.noteLoad acc ma

/-- The ALAT action of a load that was performed: advanced loads and missing `.nc` checks make an entry (R91). -/
def State.loadAlat (s : State) (k : LoadKind) (reg : AlatReg) (pa n : Nat) : State :=
  match k with
  | .adv | .specAdv | .chkNc => s.alatSet reg pa n
  | .plain | .spec | .acq | .chkClr | .chkClrAcq => s

/-- A deferred load makes no entry and `ld.sa` removes one (R98). -/
def State.loadDeferred (s : State) (k : LoadKind) (reg : AlatReg) : State :=
  match k with
  | .specAdv => s.alatRemove reg
  | .plain | .spec | .adv | .acq | .chkClr | .chkNc | .chkClrAcq => s

/-- The access of a load. -/
def State.loadAcc (s : State) (va : Word) (n : Nat) (cls : AccClass) (k : LoadKind) : Acc :=
  { va, n, cls := k.cls cls, r := true, sp := k.speculative, cpl := s.cpl }

/-- The body of every load (R425, R380 to R386, R393). `deliver t (some pa)` writes the target of a load performed at
`pa`, `deliver t none` that of a deferred one. A deferred load, which accesses nothing, is no retired load to the monitors; R750 does not
say (DESIGN CHOICE, log 30). -/
def State.loadBody (s : State) (r3 : GrIdx) (u : BaseUpdate) (n : Nat) (cls : AccClass) (k : LoadKind) (reg : AlatReg)
    (deliver : State → Option Nat → State) : Except Exc Res :=
  (s.readGr r3).bind fun base => (s.updateReadable u).bind fun _ =>
  let acc := s.loadAcc base.val n cls k
  let deferred : Res := { s := s.updateBase (deliver (s.loadDeferred k reg) none) r3 u }
  if k.check && s.alatHit reg then .ok { s := s.updateBase (s.checkLoad k reg false base.val) r3 u }
  else if base.nat then (if k.speculative then .ok deferred else .error (natConsumption true false))
  else
    (if k.speculative then s.accessSpec acc else (s.access acc).map some).bind fun p =>
      match p with
      | none => .ok deferred
      | some (pa, ma) =>
        let t := ((s.loadAlat k reg pa n).checkMiss k reg base.val).loadNoted k acc ma
        .ok { s := s.updateBase (deliver t (some pa)) r3 u }

/-- The frame of a load: a faulting advanced load leaves no entry for its register (R98). -/
def State.runLoad (s : State) (qp : PredIdx) (k : LoadKind) (reg : AlatReg) (targets : Except Exc Unit)
    (body : Except Exc Res) : Host.Outcome State Fault Refusal :=
  run (if k.advanced && s.pred qp then s.alatRemove reg else s) qp targets body

/-- Target checks of an integer load: `r1`, the updated base, and `r1` not the updated base (R330, R425). -/
def State.loadTargets (s : State) (r1 r3 : GrIdx) (u : BaseUpdate) : Except Exc Unit :=
  (s.targetGr r1).bind fun _ => (s.baseTarget r3 u).bind fun _ => require (!(u.updates && r1 == r3)) illegalOp

/-- The zero-extended integer of `n` bytes at a physical address, in the byte order of PSR.be (R82, R380). -/
def State.loadInt (s : State) (pa n : Nat) : Word := BitVec.ofNat 64 (Memory.load s.mem pa n s.umBe)

/-- The target of an integer load (R380, R382). -/
def State.deliverInt (s : State) (r1 : GrIdx) (n : Nat) (t : State) (p : Option Nat) : State :=
  match p with
  | some pa => t.setGr r1 (GReg.ofWord (s.loadInt pa n)) .load
  | none => t.setGr r1 { val := 0, nat := true } .load

/-- Every integer load but `ld8.fill` (R380 to R386). -/
def intLoad (s : State) (qp : PredIdx) (r1 r3 : GrIdx) (u : BaseUpdate) (n : Nat) (k : LoadKind) :
    Host.Outcome State Fault Refusal :=
  s.runLoad qp k (s.alatGr r1) (s.loadTargets r1 r3 u)
    (s.loadBody r3 u n .int k (s.alatGr r1) (s.deliverInt r1 n))

/-- Bits 8:3 of a spill or fill address: the UNAT bit (R30). -/
def unatBit (va : Word) : Nat := (va.extractLsb' 3 6).toNat

/-- `ld8.fill`: the value with its NaT bit from AR[UNAT] (R386). -/
def intFill (s : State) (qp : PredIdx) (r1 r3 : GrIdx) (u : BaseUpdate) : Host.Outcome State Fault Refusal :=
  s.runLoad qp .plain (s.alatGr r1) (s.loadTargets r1 r3 u)
    (s.loadBody r3 u 8 .int .plain (s.alatGr r1) fun t p =>
      match p with
      | some pa => t.setGr r1 { val := s.loadInt pa 8, nat := s.old.unat.getLsbD (unatBit (s.gr r3).val) } .load
      | none => t)

/-! ### Stores -/

/-- The processor stores bytes at a physical address: into memory, or into the WCB for a WC page; overlapping ALAT
entries go (R92, R121, R388). -/
def State.storePhys (s : State) (pa : Nat) (ma : MemAttr) (bs : List Byte) : State :=
  (if ma = .wc then s.wcStore pa bs else s.memWrite pa bs).alatSnoop pa bs.length

/-- The access of a store. -/
def State.storeAcc (s : State) (va : Word) (n : Nat) (cls : AccClass) : Acc :=
  { va, n, cls, w := true, cpl := s.cpl }

/-- The body of every store (R388 to R390, R395): the base and data registers are consumed, the access is checked, with
release semantics the WCB is flushed first (R122), then `bs` is stored and `after` applied. -/
def State.storeBody (s : State) (r3 : GrIdx) (u : BaseUpdate) (cls : AccClass) (rel dataNat : Bool) (bs : List Byte)
    (after : State → State) : Except Exc Res :=
  (s.readGr r3).bind fun base =>
  if base.nat || dataNat then .error (natConsumption false true)
  else
    let acc := s.storeAcc base.val bs.length cls
    (s.access acc).bind fun p =>
      let t := (if rel then s.wcbFlush else s).storePhys p.1 p.2 bs
      .ok { s := s.updateBase (after (t.noteStore acc p.2)) r3 u }

/-- Integer stores (R388, R389). -/
def intStore (s : State) (qp : PredIdx) (r3 r2 : GrIdx) (u : BaseUpdate) (n : Nat) (rel : Bool) :
    Host.Outcome State Fault Refusal :=
  run s qp (s.baseTarget r3 u)
    ((s.readGr r2).bind fun v =>
      s.storeBody r3 u (if rel then .ordered else .int) rel v.nat (storeBytes v.val.toNat n s.umBe) id)

/-- Set one bit of AR[UNAT] (R390), with the write-after-write rule of R911 (b). -/
def State.setUnatBit (s : State) (i : Nat) (v : Bool) : State :=
  let v' := if s.wawFree (.part 36 i) .alu then s.freeBool (3300 + i) else v
  { s with cur := { s.cur with unat := putBit s.cur.unat i v' }, grpWrites := (.part 36 i, .alu) :: s.grpWrites }

/-- `st8.spill`: the value is stored, its NaT bit goes to AR[UNAT] (R390). -/
def intSpill (s : State) (qp : PredIdx) (r3 r2 : GrIdx) (u : BaseUpdate) : Host.Outcome State Fault Refusal :=
  run s qp (s.baseTarget r3 u)
    ((s.readGr r2).bind fun v =>
      s.storeBody r3 u .int false false (storeBytes v.val.toNat 8 s.umBe)
        (fun t => t.setUnatBit (unatBit (s.gr r3).val) v.nat))

/-! ### Semaphores (R400 to R403) -/

/-- The access of a semaphore: it reads and writes (R400). -/
def State.semAcc (s : State) (va : Word) (n : Nat) : Acc :=
  { va, n, cls := .semaphore, r := true, w := true, cpl := s.cpl }

/-- The body of every semaphore: with release semantics the WCB is flushed before the read (R122, R130); `new old` is the value
stored, `none` when nothing is (R400 to R403). -/
def State.semBody (s : State) (r1 r3 : GrIdx) (n : Nat) (rel dataNat : Bool) (new : Nat → Option Nat) :
    Except Exc Res :=
  (s.readGr r3).bind fun base =>
  if base.nat || dataNat then .error (natConsumption true true)
  else
    let acc := s.semAcc base.val n
    (s.access acc).bind fun p =>
      let s' := if rel then s.wcbFlush else s
      let old := Memory.load s'.mem p.1 n s.umBe
      let t := match new old with
        | some v => s'.storePhys p.1 p.2 (storeBytes v n s.umBe)
        | none => s'.alatSnoop p.1 n
      .ok { s := ((t.noteLoad acc p.2).noteStore acc p.2).setGr r1 (GReg.ofWord (BitVec.ofNat 64 old)) .load }

/-- `cmpxchg` (R400). -/
def cmpxchg (s : State) (qp : PredIdx) (r1 r3 r2 : GrIdx) (n : Nat) (rel : Bool) : Host.Outcome State Fault Refusal :=
  run s qp (s.targetGr r1)
    ((s.readGr r2).bind fun v =>
      s.semBody r1 r3 n rel v.nat fun old =>
        if old = s.old.ccv.toNat % 2 ^ (8 * n) then some v.val.toNat else none)

/-- `xchg` (R401). -/
def xchg (s : State) (qp : PredIdx) (r1 r3 r2 : GrIdx) (n : Nat) : Host.Outcome State Fault Refusal :=
  run s qp (s.targetGr r1)
    ((s.readGr r2).bind fun v => s.semBody r1 r3 n false v.nat fun _ => some v.val.toNat)

/-- `fetchadd` (R402). -/
def fetchadd (s : State) (qp : PredIdx) (r1 r3 : GrIdx) (inc : FetchInc) (n : Nat) (rel : Bool) :
    Host.Outcome State Fault Refusal :=
  run s qp (s.targetGr r1)
    (s.semBody r1 r3 n rel false fun old => some ((old + (incValue inc).toNat) % 2 ^ (8 * n)))

/-! ### Line prefetch (R110, R412) -/

/-- Register NaT Consumption by a non-access instruction (R573, R576). -/
def natConsumptionNa (code : BitVec 16) (r w : Bool) : Exc :=
  .intr { vec := .natConsumption, code := 0x10 ||| code, na := true, r, w }

/-- The access of a prefetch: a byte read by a non-access instruction (R412, R576). -/
def State.prefetchAcc (s : State) (va : Word) : Acc := { va, n := 1, cls := .reference, r := true, na := some 4, cpl := s.cpl }

/-- `lfetch` without `.fault`: the base update, and, where there is no exception, the translation is used as a load's is; exceptions are not
reported (R110, R412). -/
def lfetchPlain (s : State) (qp : PredIdx) (r3 : GrIdx) (u : BaseUpdate) : Host.Outcome State Fault Refusal :=
  run s qp (s.baseTarget r3 u)
    ((s.readGr r3).bind fun base => (s.updateReadable u).bind fun _ =>
      let t := match base.nat, s.access (s.prefetchAcc base.val) with
        | false, .ok _ => s.readNoted (s.prefetchAcc base.val)
        | _, _ => s
      .ok { s := s.updateBase t r3 u })

/-- `lfetch.fault`: a byte load whose data is discarded (R110, R412). -/
def lfetchFault (s : State) (qp : PredIdx) (r3 : GrIdx) (u : BaseUpdate) : Host.Outcome State Fault Refusal :=
  run s qp (s.baseTarget r3 u)
    ((s.readGr r3).bind fun base => (s.updateReadable u).bind fun _ =>
      if base.nat then .error (natConsumptionNa 4 true false)
      else
        (s.access (s.prefetchAcc base.val)).bind fun _ =>
          .ok { s := s.updateBase (s.readNoted (s.prefetchAcc base.val)) r3 u })

end Sys2Proof.Machine
end

