-- ==== Sys2Proof/Machine/FpFormat.lean ====
section
/-! DEFINITION. Machine/FpFormat.lean: conversions between the memory formats and the register format of floating-point
registers (`spec/42_m_type_memory.md` R392, R394, R395, R405, R406), and the floating-point loads and stores. -/

namespace Sys2Proof.Machine

/-! ### Memory format to register format (R392) -/

/-- A 32-bit single-precision value (`ldfs`, `setf.s`). -/
def singleToReg (v : BitVec 32) : FReg :=
  let e := v.extractLsb' 23 8
  let m := v.extractLsb' 0 23
  { sign := v.getLsbD 31,
    exp := if e = 0xFF then 0x1FFFF else if e = 0 then (if m = 0 then 0 else 0xFF81) else e.setWidth 17 + 0xFF80,
    sig := BitVec.ofBool (e != 0) ++ m ++ 0#40 }

/-- A 64-bit double-precision value (`ldfd`, `setf.d`). -/
def doubleToReg (v : BitVec 64) : FReg :=
  let e := v.extractLsb' 52 11
  let m := v.extractLsb' 0 52
  { sign := v.getLsbD 63,
    exp := if e = 0x7FF then 0x1FFFF else if e = 0 then (if m = 0 then 0 else 0xFC01) else e.setWidth 17 + 0xFC00,
    sig := BitVec.ofBool (e != 0) ++ m ++ 0#11 }

/-- An 80-bit extended value (`ldfe`). -/
def extendedToReg (v : BitVec 80) : FReg :=
  let e := v.extractLsb' 64 15
  { sign := v.getLsbD 79, exp := if e = 0x7FFF then 0x1FFFF else if e = 0 then 0 else e.setWidth 17 + 0xC000,
    sig := v.extractLsb' 0 64 }

/-- A 16-byte fill image (`ldf.fill`, R394). -/
def fillToReg (v : BitVec 128) : FReg :=
  { sign := v.getLsbD 81, exp := v.extractLsb' 64 17, sig := v.extractLsb' 0 64 }

/-! ### Register format to memory format (R395; log 21) -/

/-- The biased exponent field of the single or double format, of `w` bits: `bias` is what R392 adds. A zero exponent or a
significand without its integer bit maps to 0, the special exponent to all ones (R395). -/
def memExp (f : FReg) (bias : BitVec 17) (w : Nat) : BitVec w :=
  if f.exp = 0x1FFFF then BitVec.allOnes w
  else if f.exp = 0 || !f.sig.getLsbD 63 then 0
  else (f.exp - bias).setWidth w

/-- `stfs`, `getf.s`. -/
def regToSingle (f : FReg) : BitVec 32 := BitVec.ofBool f.sign ++ memExp f 0xFF80 8 ++ f.sig.extractLsb' 40 23

/-- `stfd`, `getf.d`. -/
def regToDouble (f : FReg) : BitVec 64 := BitVec.ofBool f.sign ++ memExp f 0xFC00 11 ++ f.sig.extractLsb' 11 52

/-- The exponent of `stfe`, whatever the significand: the inverse of `ldfe` (R392, R395). -/
def extendedExp (f : FReg) : BitVec 15 :=
  if f.exp = 0x1FFFF then 0x7FFF else if f.exp = 0 then 0 else (f.exp - 0xC000).setWidth 15

/-- `stfe`. -/
def regToExtended (f : FReg) : BitVec 80 := BitVec.ofBool f.sign ++ extendedExp f ++ f.sig

/-- `stf.spill`: the fill image, upper bits zero (R395). -/
def regToFill (f : FReg) : BitVec 128 := 0#46 ++ BitVec.ofBool f.sign ++ f.exp ++ f.sig

/-! ### Loads and stores -/

/-- The memory formats of floating-point references (R392 to R395). -/
inductive FpFormat where
  | single | double | extended | integer | fill
  deriving DecidableEq, Repr

/-- The size of a format in bytes. -/
def FpFormat.size : FpFormat → Nat
  | .single => 4
  | .double => 8
  | .extended => 10
  | .integer => 8
  | .fill => 16

/-- The register value of a memory value. -/
def FpFormat.toReg (f : FpFormat) (v : Nat) : FReg :=
  match f with
  | .single => singleToReg (BitVec.ofNat 32 v)
  | .double => doubleToReg (BitVec.ofNat 64 v)
  | .extended => extendedToReg (BitVec.ofNat 80 v)
  | .integer => FReg.ofSig (BitVec.ofNat 64 v)
  | .fill => fillToReg (BitVec.ofNat 128 v)

/-- The memory value of a register value. -/
def FpFormat.toMem (f : FpFormat) (r : FReg) : Nat :=
  match f with
  | .single => (regToSingle r).toNat
  | .double => (regToDouble r).toNat
  | .extended => (regToExtended r).toNat
  | .integer => r.sig.toNat
  | .fill => (regToFill r).toNat

/-- The register value of the format's bytes at a physical address. -/
def State.loadFp (s : State) (f : FpFormat) (pa : Nat) : FReg := f.toReg (Memory.load s.mem pa f.size s.umBe)

/-- The target check of a floating-point register (R330 step 2). -/
def targetFr (f : FrIdx) : Except Exc Unit := require (frTargetOk f) illegalOp

/-- The general registers a memory form reads, and its floating-point registers, may be used: the frame first (R426). -/
def State.fpMemOk (s : State) (r3 : GrIdx) (u : BaseUpdate) (fs : List FrIdx) : Except Exc Unit :=
  (s.sourceGr r3).bind fun _ => (s.updateReadable u).bind fun _ => s.fpEnabled fs

/-- Every floating-point load of one register (R392 to R394). -/
def fpLoad (s : State) (qp : PredIdx) (f1 : FrIdx) (r3 : GrIdx) (u : BaseUpdate) (f : FpFormat) (k : LoadKind) :
    Host.Outcome State Fault Refusal :=
  s.runLoad qp k (s.alatFr f1) ((targetFr f1).bind fun _ => s.baseTarget r3 u)
    ((s.fpMemOk r3 u [f1]).bind fun _ =>
      s.loadBody r3 u f.size .fp k (s.alatFr f1) fun t p =>
        match p with
        | some pa => t.setFr f1 (s.loadFp f pa) .load
        | none => t.setFr f1 FReg.natVal .load)

/-- One even-numbered and one odd-numbered register (R396): by the numbers the instruction names, not the physical ones after rotation, of
which the rule does not speak (DESIGN CHOICE, log 46). -/
def pairOk (f1 f2 : FrIdx) : Bool := f1.getLsbD 0 != f2.getLsbD 0

/-- Floating-point load pairs (R396): one ALAT entry, keyed by the first register. -/
def fpLoadPair (s : State) (qp : PredIdx) (f1 f2 : FrIdx) (r3 : GrIdx) (u : BaseUpdate) (f : FpFormat) (k : LoadKind) :
    Host.Outcome State Fault Refusal :=
  s.runLoad qp k (s.alatFr f1)
    ((targetFr f1).bind fun _ => (targetFr f2).bind fun _ => (require (pairOk f1 f2) illegalOp).bind fun _ =>
      s.baseTarget r3 u)
    ((s.fpMemOk r3 u [f1, f2]).bind fun _ =>
      s.loadBody r3 u (2 * f.size) .fpPair k (s.alatFr f1) fun t p =>
        match p with
        | some pa => (t.setFr f1 (s.loadFp f pa) .load).setFr f2 (s.loadFp f (pa + f.size)) .load
        | none => (t.setFr f1 FReg.natVal .load).setFr f2 FReg.natVal .load)

/-- Floating-point stores (R395): NaTVal is consumed except by `stf.spill`. -/
def fpStore (s : State) (qp : PredIdx) (r3 : GrIdx) (f2 : FrIdx) (u : BaseUpdate) (f : FpFormat) :
    Host.Outcome State Fault Refusal :=
  run s qp (s.baseTarget r3 u)
    ((s.fpMemOk r3 u [f2]).bind fun _ =>
      s.storeBody r3 u .fp false (decide (s.fr f2 = FReg.natVal) && f != .fill)
        (storeBytes (f.toMem (s.fr f2)) f.size s.umBe) id)

/-! ### `setf`, `getf` (R405, R406) -/

/-- `setf`: a NaT source gives NaTVal. -/
def setfBody (s : State) (qp : PredIdx) (f1 : FrIdx) (r2 : GrIdx) (conv : Word → FReg) :
    Host.Outcome State Fault Refusal :=
  run s qp (targetFr f1)
    ((s.sourceGr r2).bind fun _ => (s.fpEnabled [f1]).bind fun _ => (s.readGr r2).bind fun v =>
      .ok { s := s.setFr f1 (if v.nat then FReg.natVal else conv v.val) .alu })

/-- `setf.exp`: sign and exponent from bits 17 and 16:0, significand 1.0 (R405). -/
def setfExp (v : Word) : FReg := { sign := v.getLsbD 17, exp := v.extractLsb' 0 17, sig := 0x8000000000000000 }

/-- `getf.exp`: the sign and the exponent, 18 bits (R406). -/
def getfExp (f : FReg) : Word := zext (BitVec.ofBool f.sign ++ f.exp)

/-- `getf`: NaTVal sets the NaT bit. -/
def getfBody (s : State) (qp : PredIdx) (r1 : GrIdx) (f2 : FrIdx) (conv : FReg → Word) :
    Host.Outcome State Fault Refusal :=
  run s qp (s.targetGr r1)
    ((s.fpEnabled [f2]).bind fun _ =>
      .ok { s := s.setGr r1 { val := conv (s.fr f2), nat := decide (s.fr f2 = FReg.natVal) } .alu })

end Sys2Proof.Machine
end

