-- ==== Sys2Proof/Machine/Rse.lean ====
section
/-! DEFINITION. Machine/Rse.lean: the register stack engine (`spec/43_m_type_system.md` R442 to R445), lazy only
(`spec/10_state.md` R24), and the frame changes of calls and returns (`spec/45_b_type.md` R523, R524, R544, R554). -/

namespace Sys2Proof.Machine

/-! ### Backing-store addresses -/

/-- The slot number of a backing-store address: bits 8:3 (R445). -/
def rseSlot (a : Word) : Nat := (a.extractLsb' 3 6).toNat

/-- `rse_add(addr, n)` (R445). -/
def rseAdd (a : Word) (n : Nat) : Word := a + BitVec.ofNat 64 (8 * (n + (rseSlot a + n) / 63))

/-- `rse_sub(addr, n)`: the address `n` registers below (R445). -/
def rseSub (a : Word) (n : Nat) : Word := a - BitVec.ofNat 64 (8 * (n + (n + 62 - rseSlot a) / 63))

/-- The registers in the slots from `lo` up to `hi`, RNAT collections left out (R445). -/
def rseRegs (lo hi : Word) : Nat :=
  let slots := (hi - lo).toNat / 8
  slots - (rseSlot lo + slots) / 64

/-- The dirty registers: those in [BSPSTORE, BSP) (R445). -/
def State.ndirty (s : State) : Nat := rseRegs s.cur.bspstore s.cur.bsp

/-! ### Spills and fills -/

/-- An RSE access: privilege RSC.pl (R445), in the RSC of before the instruction group (R911 (a), (e)). -/
def State.rseAcc (s : State) (va : Word) (w ir : Bool) : Acc :=
  { va, n := 8, cls := .int, r := !w, w, rs := true, ir, cpl := rscPl s.old.rsc }

/-- Store 8 bytes for the RSE, in the byte order RSC.be; ALAT entries it overlaps go (R138, R445). -/
def State.rseStore (s : State) (va v : Word) : Except Exc State :=
  (s.access (s.rseAcc va true false)).map fun p =>
    (s.storePhys p.1 p.2 (storeBytes v.toNat 8 (rscBe s.old.rsc))).noteStore (s.rseAcc va true false) p.2

/-- Load 8 bytes for the RSE; `ir` marks the fill of a restored frame (R445, R576). -/
def State.rseLoad (s : State) (va : Word) (ir : Bool) : Except Exc (Word × State) :=
  (s.access (s.rseAcc va false ir)).map fun p =>
    (BitVec.ofNat 64 (Memory.load s.mem p.1 8 (rscBe s.old.rsc)), s.noteLoad (s.rseAcc va false ir) p.2)

/-- The newest value of a physical stacked register. -/
def State.stackedAt (s : State) (i : Nat) : GReg := s.cur.gr (48 + i % 96)

/-- Put a value into a physical stacked register, for this group and the next. -/
def State.setStacked (s : State) (i : Nat) (v : GReg) : State :=
  { s with cur := s.cur.setGr (48 + i % 96) v, old := s.old.setGr (48 + i % 96) v }

/-- Change AR[BSPSTORE] as the RSE does. -/
def State.moveBspstore (s : State) (a : Word) : State := { s with cur := { s.cur with bspstore := a } }

/-- Change AR[RNAT] as the RSE does. -/
def State.withRnat (s : State) (v : Word) : State := { s with cur := { s.cur with rnat := v } }

/-- Change AR[BSP]. -/
def State.withBsp (s : State) (a : Word) : State := { s with cur := { s.cur with bsp := a } }

/-- Store the RNAT collection if BSPSTORE is at its slot (R445). -/
def State.spillRnat (s : State) : Except Exc State :=
  if rseSlot s.cur.bspstore = 63 then
    (s.rseStore s.cur.bspstore s.cur.rnat).map fun t => t.moveBspstore (s.cur.bspstore + 8)
  else .ok s

/-- Spill the oldest dirty register, which stays as a clean one (R445). -/
def State.spillOne (s : State) : Except Exc State :=
  s.spillRnat.bind fun s =>
    let v := s.stackedAt (s.bof + 96 - s.ndirty % 96)
    (s.rseStore s.cur.bspstore v.val).bind fun t =>
      (State.moveBspstore { t.withRnat (putBit t.cur.rnat (rseSlot s.cur.bspstore) v.nat) with nclean := t.nclean + 1 }
        (s.cur.bspstore + 8)).spillRnat

/-- Spill `k` registers. -/
def State.spill (s : State) : Nat → Except Exc State
  | 0 => .ok s
  | k + 1 => s.spillOne.bind fun t => t.spill k

/-- Make the register below the dirty ones dirty: a clean one as it is, else loaded from its slot below BSPSTORE; crossing
an RNAT slot reloads AR[RNAT] (R445). -/
def State.fillOne (s : State) (ir : Bool) : Except Exc State :=
  let a := s.cur.bspstore - 8
  (if rseSlot a = 63 then (s.rseLoad a ir).map fun p => (p.2.withRnat p.1).moveBspstore a else .ok s).bind fun s =>
    let a := s.cur.bspstore - 8
    if s.nclean > 0 then .ok { s.moveBspstore a with nclean := s.nclean - 1 }
    else
      (s.rseLoad a ir).map fun p =>
        (p.2.setStacked (s.bof + 95 - s.ndirty % 96)
          { val := p.1, nat := s.cur.rnat.getLsbD (rseSlot a) }).moveBspstore a

/-- Make `k` more registers dirty. -/
def State.fill (s : State) (ir : Bool) : Nat → Except Exc State
  | 0 => .ok s
  | k + 1 => (s.fillOne ir).bind fun t => t.fill ir k

/-! ### Frames -/

/-- Registers `i` with `lo ≤ i < hi` of the frame are newly exposed: their contents are free (R444; log 12). -/
def State.expose (s : State) (lo : Nat) : Nat → State
  | 0 => s
  | k + 1 => (s.setStacked (s.bof + lo + k) (s.freeGr (4000 + (s.bof + lo + k) % 96))).expose lo k

/-- The clean registers that are left when the dirty ones and a frame of `sof` registers need their room (R445). -/
def State.trimClean (s : State) (sof : Nat) : State := { s with nclean := min s.nclean (96 - (s.ndirty + sof)) }

/-- Enter a frame of `sof` registers, `base` of which the previous frame already showed: mandatory spills, then the newly
exposed registers (R444, R445). -/
def State.growFrame (s : State) (base sof : Nat) : Except Exc State :=
  (s.spill (min (s.ndirty + sof - 96) 96)).map fun t => (t.trimClean sof).expose base (sof - base)

/-- Push the lowest `n` registers of the frame onto the dirty partition (R523, R554). -/
def State.pushFrame (s : State) (n : Nat) : State :=
  { s.withBsp (rseAdd s.cur.bsp n) with bof := (s.bof + n) % 96 }

/-- Restore a frame with marker `c`, of which `n` registers lie below the present one: mandatory fills, BSP and the
physical base move down, registers the frame in between did not show are exposed. A frame that cannot be restored gives
CFM = 0 (R524, R556; log 16). -/
def State.popFrame (s : State) (c : BitVec 38) (n : Nat) : Except Exc State :=
  let sof := cfmSof c
  let d := s.ndirty
  if sof > 96 || cfmSol c > sof || cfmSor c > 12 || n > sof || (d - n) + sof > 96 then .ok { s with cfm := 0 }
  else
    (s.fill true (n - d)).map fun t =>
      let callee := cfmSof s.cfm
      let t := { t.withBsp (rseSub t.cur.bsp n) with bof := (t.bof + 96 - n) % 96, cfm := c }
      (t.trimClean sof).expose (min sof (n + callee)) (sof - (n + callee))

/-- `rotate_regs` (R544). -/
def rotateRegs (c : BitVec 38) : BitVec 38 :=
  let dec := fun (v size : Nat) => if v = 0 then size - 1 else v - 1
  let g := if cfmSor c = 0 then cfmRrbGr c else dec (cfmRrbGr c) (8 * cfmSor c)
  mkCfm (cfmSof c) (cfmSol c) (cfmSor c) g (dec (cfmRrbFr c) 96) (dec (cfmRrbPr c) 48)

/-! ### `alloc`, `flushrs`, `loadrs` -/

/-- The event of an RSE instruction: the current and the dirty registers before it (R831 to R833). -/
def State.rseNote (s : State) (c : RseCause) : PmuEvent := .rseEvent c (cfmSof s.cfm) s.ndirty

/-- `alloc` (R444). The target is checked against the new frame, before the reserved field (R586; log 46). -/
def allocBody (s : State) (qp : PredIdx) (r1 : GrIdx) (sof sol : BitVec 7) (sor : BitVec 4) :
    Host.Outcome State Fault Refusal :=
  let nsof := sof.toNat
  let rotating := cfmRrbGr s.cfm ≠ 0 ∨ cfmRrbFr s.cfm ≠ 0 ∨ cfmRrbPr s.cfm ≠ 0
  let ok := qp = 0 ∧ nsof ≤ 96 ∧ sol.toNat ≤ nsof ∧ 8 * sor.toNat ≤ nsof
  finish s
    ((require (decide ok) illegalOp).bind fun _ =>
     (require (decide (r1 ≠ 0 ∧ r1.toNat < 32 + nsof)) illegalOp).bind fun _ =>
     (require (!(decide (sor.toNat ≠ cfmSor s.cfm) && decide rotating)) reservedField).bind fun _ =>
     (s.growFrame (cfmSof s.cfm) nsof).bind fun t =>
      let c := mkCfm nsof sol.toNat sor.toNat (cfmRrbGr s.cfm) (cfmRrbFr s.cfm) (cfmRrbPr s.cfm)
      .ok { s := (({ t with cfm := c }).emit (s.rseNote .other)).setGr r1 (GReg.ofWord s.old.pfs) .alu })

/-- Spill every dirty register, and an RNAT collection that still lies below BSP, until BSPSTORE = BSP (R442, R445). -/
def State.spillAll (s : State) : Except Exc State :=
  (s.spill (min s.ndirty 96)).bind fun t => if t.cur.bspstore = t.cur.bsp then .ok t else t.spillRnat

/-- `flushrs` (R442). -/
def flushrsBody (s : State) (qp : PredIdx) : Host.Outcome State Fault Refusal :=
  run s qp (.ok ()) (s.spillAll.map fun t => { s := t.emit (s.rseNote .flush) })

/-- Load one backing-store slot below BSPSTORE: a register, or the RNAT collection (R443). -/
def State.loadSlot (s : State) : Except Exc State :=
  let a := s.cur.bspstore - 8
  (s.rseLoad a false).map fun p =>
    if rseSlot a = 63 then (p.2.withRnat p.1).moveBspstore a
    else (p.2.setStacked (s.bof + 95 - s.ndirty % 96)
            { val := p.1, nat := s.cur.rnat.getLsbD (rseSlot a) }).moveBspstore a

/-- Load `k` slots. -/
def State.loadSlots (s : State) : Nat → Except Exc State
  | 0 => .ok s
  | k + 1 => s.loadSlot.bind fun t => t.loadSlots k

/-- `loadrs` (R443, R592): RSC.loadrs bytes below BSP become dirty registers, everything else outside the (empty) frame is
invalid. A `loadrs` that is no multiple of 8, which R29 does not foresee, is rounded down to one (DESIGN CHOICE, log 18). -/
def loadrsBody (s : State) (qp : PredIdx) : Host.Outcome State Fault Refusal :=
  let bytes := rscLoadrs s.old.rsc / 8 * 8
  let target := s.cur.bsp - BitVec.ofNat 64 bytes
  let have_ := (s.cur.bsp - s.cur.bspstore).toNat / 8
  run s qp (.ok ())
    ((require (decide (cfmSof s.cfm = 0 ∧ rscMode s.old.rsc = 0 ∧ rseRegs target s.cur.bsp ≤ 96)) illegalOp).bind fun _ =>
      let s1 := { s with nclean := 0 }
      (s1.loadSlots (bytes / 8 - have_)).map fun t => { s := (t.moveBspstore target).emit (s.rseNote .other) })

end Sys2Proof.Machine
end

