-- ==== Sys2Proof/Machine/AppRegs.lean ====
section
/-! DEFINITION. Machine/AppRegs.lean: moves to and from application registers, formats I26 to I28, M29 to M31
(`spec/41_i_type.md` R361 to R363, `spec/43_m_type_system.md` R460 to R462, `spec/60_exceptions.md` R592,
`spec/10_state.md` R28 to R33). -/

namespace Sys2Proof.Machine

/-- The application registers (R28). AR numbers the list leaves out are ignored from 48 up (R361) and reserved below. -/
inductive ArReg where
  | kr (i : Fin 8)
  | rsc | bsp | bspstore | rnat
  | ia32 (i : Fin 8)
  | ccv | unat | fpsr | itc | pfs | lc | ec
  | ignored
  | reserved
  deriving DecidableEq, Repr

/-- The register with a given number (R28). -/
def arReg (n : BitVec 7) : ArReg :=
  match n.toNat with
  | 0 => .kr 0
  | 1 => .kr 1
  | 2 => .kr 2
  | 3 => .kr 3
  | 4 => .kr 4
  | 5 => .kr 5
  | 6 => .kr 6
  | 7 => .kr 7
  | 16 => .rsc
  | 17 => .bsp
  | 18 => .bspstore
  | 19 => .rnat
  | 21 => .ia32 0
  | 24 => .ia32 1
  | 25 => .ia32 2
  | 26 => .ia32 3
  | 27 => .ia32 4
  | 28 => .ia32 5
  | 29 => .ia32 6
  | 30 => .ia32 7
  | 32 => .ccv
  | 36 => .unat
  | 40 => .fpsr
  | 44 => .itc
  | 64 => .pfs
  | 65 => .lc
  | 66 => .ec
  | k => if k < 48 then .reserved else .ignored

/-- The value a register holds in a register snapshot; ITC is not part of it. -/
def Regs.ar (g : Regs) (itc : Word) : ArReg → Word
  | .kr i => g.kr[i]
  | .rsc => g.rsc
  | .bsp => g.bsp
  | .bspstore => g.bspstore
  | .rnat => g.rnat
  | .ia32 i => g.ia32[i]
  | .ccv => g.ccv
  | .unat => g.unat
  | .fpsr => g.fpsr
  | .itc => itc
  | .pfs => g.pfs
  | .lc => g.lc
  | .ec => g.ec.setWidth 64
  | .ignored | .reserved => 0

/-- Put a value into a register of a snapshot. -/
def Regs.setAr (g : Regs) (r : ArReg) (v : Word) : Regs :=
  match r with
  | .kr i => { g with kr := g.kr.set i v }
  | .rsc => { g with rsc := v }
  | .bsp => { g with bsp := v }
  | .bspstore => { g with bspstore := v }
  | .rnat => { g with rnat := v }
  | .ia32 i => { g with ia32 := g.ia32.set i v }
  | .ccv => { g with ccv := v }
  | .unat => { g with unat := v }
  | .fpsr => { g with fpsr := v }
  | .pfs => { g with pfs := v }
  | .lc => { g with lc := v }
  | .ec => { g with ec := v.setWidth 6 }
  | .itc | .ignored | .reserved => g

/-- The place of an application register in the group's list of writes. -/
def ArReg.place : ArReg → Nat
  | .kr i => i.val
  | .rsc => 16
  | .bsp => 17
  | .bspstore => 18
  | .rnat => 19
  | .ia32 i => 21 + i.val
  | .ccv => 32
  | .unat => 36
  | .fpsr => 40
  | .itc => 44
  | .pfs => 64
  | .lc => 65
  | .ec => 66
  | .ignored | .reserved => 127

/-- Write an application register, with the write-after-write rule of R911 (b). -/
def State.setAr (s : State) (r : ArReg) (v : Word) : State :=
  let v' := if s.wawFree (.ar r.place) .alu then s.free (3100 + r.place) else v
  let t := { s with cur := s.cur.setAr r v', grpWrites := (.ar r.place, .alu) :: s.grpWrites }
  if r = .itc then { t with itc := v' } else t

/-- The bits of a register that are reserved: a write that sets one is refused (R29, R31, R460). -/
def ArReg.reservedBits : ArReg → Word
  | .rsc => 0xFFFFFFFFC000FFE0
  | .fpsr => 0xFC00000000000000
  | .kr _ | .bsp | .bspstore | .rnat | .ia32 _ | .ccv | .unat | .itc | .pfs | .lc | .ec | .ignored | .reserved => 0

/-- The registers only privilege level 0 writes (R592). -/
def ArReg.writePrivileged : ArReg → Bool
  | .kr _ | .itc => true
  | .rsc | .bsp | .bspstore | .rnat | .ia32 _ | .ccv | .unat | .fpsr | .pfs | .lc | .ec | .ignored | .reserved => false

/-- The registers whose accesses need RSC.mode = 0 (R460, R462). -/
def ArReg.needsLazy : ArReg → Bool
  | .bspstore | .rnat => true
  | .kr _ | .rsc | .bsp | .ia32 _ | .ccv | .unat | .fpsr | .itc | .pfs | .lc | .ec | .ignored | .reserved => false

/-- The register may be written at all: not reserved, not the read-only BSP; BSPSTORE and RNAT in lazy mode (R460). -/
def State.arWritable (s : State) (r : ArReg) : Bool :=
  r != .reserved && r != .bsp && (!r.needsLazy || rscMode s.old.rsc == 0)

/-- RSC with `pl` not below PSR.cpl (R592). -/
def State.clampRsc (s : State) (v : Word) : Word :=
  if rscPl v < s.cpl then putField v 2 s.cpl else v

/-- A write of BSPSTORE: the dirty registers keep their number, clean ones are lost, RNAT is undefined (R460; log 18). -/
def State.writeBspstore (s : State) (v : Word) : State :=
  let t := (s.setAr .bspstore v).setAr .rnat (s.free 8000)
  let a := t.cur.bspstore &&& ~~~ 7#64
  { (t.moveBspstore a).withBsp (rseAdd a s.ndirty) with nclean := 0 }

/-- The effect of a checked write (R361, R460). -/
def State.writeAr (s : State) (r : ArReg) (v : Word) : State :=
  match r with
  | .rsc => s.setAr .rsc (s.clampRsc v)
  | .bspstore => s.writeBspstore v
  | .rnat => s.setAr .rnat (v &&& 0x7FFFFFFFFFFFFFFF)
  | .pfs => s.setAr .pfs (v &&& 0xC3F0003FFFFFFFFF)
  | .ignored | .reserved | .bsp => s
  | .kr _ | .ia32 _ | .ccv | .unat | .fpsr | .itc | .lc | .ec => s.setAr r v

/-- The M unit reaches AR0 to AR63, the I unit AR48 to AR127 (R28). -/
def arInUnit (iUnit : Bool) (n : BitVec 7) : Bool := if iUnit then 48 ≤ n.toNat else n.toNat < 64

/-- The checks of a move to an application register and its effect (R361, R460, in the order of R490). -/
def State.moveToAr (s : State) (iUnit : Bool) (n : BitVec 7) (source : Except Exc Unit) (value : Except Exc Word) :
    Except Exc Res :=
  let r := arReg n
  (require (arInUnit iUnit n && s.arWritable r) illegalOp).bind fun _ =>
  source.bind fun _ =>
  (require (!(r.writePrivileged && s.cpl != 0)) privilegedReg).bind fun _ =>
  value.bind fun v =>
  (require (v &&& r.reservedBits == 0) reservedField).bind fun _ =>
  .ok { s := s.writeAr r v }

/-- The checks of a move from an application register and its value (R363, R462). -/
def State.moveFromAr (s : State) (iUnit : Bool) (n : BitVec 7) : Except Exc Word :=
  let r := arReg n
  (require (arInUnit iUnit n && r != .reserved && (!r.needsLazy || rscMode s.old.rsc == 0)) illegalOp).bind fun _ =>
  (require (!(r == .itc && s.psrSi && s.cpl != 0)) privilegedReg).bind fun _ =>
  .ok (s.old.ar s.itc r)

/-- `mov ar3 = r2`. -/
def movToArReg (s : State) (qp : PredIdx) (iUnit : Bool) (ar3 : BitVec 7) (r2 : GrIdx) :
    Host.Outcome State Fault Refusal :=
  run s qp (.ok ()) (s.moveToAr iUnit ar3 (s.sourceGr r2) (s.consumeGr r2))

/-- `mov ar3 = imm8`. -/
def movToArImm (s : State) (qp : PredIdx) (iUnit : Bool) (ar3 : BitVec 7) (imm8 : BitVec 8) :
    Host.Outcome State Fault Refusal :=
  run s qp (.ok ()) (s.moveToAr iUnit ar3 (.ok ()) (.ok (sext imm8)))

/-- `mov r1 = ar3`. -/
def movFromAr (s : State) (qp : PredIdx) (iUnit : Bool) (r1 : GrIdx) (ar3 : BitVec 7) :
    Host.Outcome State Fault Refusal :=
  run s qp (s.targetGr r1)
    ((s.moveFromAr iUnit ar3).bind fun v => .ok { s := s.setGr r1 (GReg.ofWord v) .alu })

/-! ### The instructions -/

/-- `mov.i ar3=r2` (I26, R361). -/
def execMovIAr3R2 (qp : PredIdx) (ar3 : BitVec 7) (r2 : GrIdx) (s : State) : Host.Outcome State Fault Refusal :=
  movToArReg s qp true ar3 r2

/-- `mov.i ar3=imm8` (I27, R362). -/
def execMovIAr3Imm8 (qp : PredIdx) (ar3 : BitVec 7) (imm8 : BitVec 8) (s : State) :
    Host.Outcome State Fault Refusal :=
  movToArImm s qp true ar3 imm8

/-- `mov.i r1=ar3` (I28, R363). -/
def execMovIR1Ar3 (qp : PredIdx) (r1 : GrIdx) (ar3 : BitVec 7) (s : State) : Host.Outcome State Fault Refusal :=
  movFromAr s qp true r1 ar3

/-- `mov.m ar3=r2` (M29, R460). -/
def execMovMAr3R2 (qp : PredIdx) (ar3 : BitVec 7) (r2 : GrIdx) (s : State) : Host.Outcome State Fault Refusal :=
  movToArReg s qp false ar3 r2

/-- `mov.m ar3=imm8` (M30, R461). -/
def execMovMAr3Imm8 (qp : PredIdx) (ar3 : BitVec 7) (imm8 : BitVec 8) (s : State) :
    Host.Outcome State Fault Refusal :=
  movToArImm s qp false ar3 imm8

/-- `mov.m r1=ar3` (M31, R462). -/
def execMovMR1Ar3 (qp : PredIdx) (r1 : GrIdx) (ar3 : BitVec 7) (s : State) : Host.Outcome State Fault Refusal :=
  movFromAr s qp false r1 ar3

end Sys2Proof.Machine
end

