-- ==== Sys2Proof/Machine/Multimedia.lean ====
section
/-! DEFINITION. Machine/Multimedia.lean: parallel integer instructions, formats A9, A10, I1 to I4, I5 to I8 (parallel),
I9 (`spec/40_a_type.md` R328, R329, `spec/41_i_type.md` R340 to R347). Element 0 is the least significant. -/

namespace Sys2Proof.Machine

/-- Element `i` of width `w`. -/
def elem (w : Nat) (x : Word) (i : Nat) : BitVec w := x.extractLsb' (w * i) w

/-- The word whose elements 0 to `k` - 1 of width `w` are given. -/
def ofElems (w : Nat) (f : Nat → BitVec w) : Nat → Word
  | 0 => 0
  | k + 1 => ofElems w f k ||| ((f k).setWidth 64 <<< (w * k))

/-- Element by element on two words. -/
def map2 (w : Nat) (f : BitVec w → BitVec w → BitVec w) (x y : Word) : Word :=
  ofElems w (fun i => f (elem w x i) (elem w y i)) (64 / w)

/-- Element by element on one word. -/
def map1 (w : Nat) (f : BitVec w → BitVec w) (x : Word) : Word := ofElems w (fun i => f (elem w x i)) (64 / w)

/-- Saturation to the signed range of `w` bits. -/
def satS (w : Nat) (v : Int) : BitVec w := BitVec.ofInt w (max (-(2 ^ (w - 1))) (min (2 ^ (w - 1) - 1) v))

/-- Saturation to the unsigned range of `w` bits. -/
def satU (w : Nat) (v : Int) : BitVec w := BitVec.ofInt w (max 0 (min (2 ^ w - 1) v))

/-- Signed operands, signed saturation (`.sss`). -/
def opSss (w : Nat) (f : Int → Int → Int) (x y : BitVec w) : BitVec w := satS w (f x.toInt y.toInt)
/-- Unsigned `x`, signed `y`, unsigned saturation (`.uus`). -/
def opUus (w : Nat) (f : Int → Int → Int) (x y : BitVec w) : BitVec w := satU w (f x.toNat y.toInt)
/-- Unsigned operands, unsigned saturation (`.uuu`). -/
def opUuu (w : Nat) (f : Int → Int → Int) (x y : BitVec w) : BitVec w := satU w (f x.toNat y.toNat)

/-- `pavg`: the sum of `w` + 1 bits halved, its low bit kept (R328). -/
def pavgElem (w : Nat) (x y : BitVec w) : BitVec w :=
  let t := x.toNat + y.toNat
  BitVec.ofNat w (t / 2) ||| BitVec.ofNat w (t % 2)
/-- `pavg.raz`. -/
def pavgRazElem (w : Nat) (x y : BitVec w) : BitVec w := BitVec.ofNat w ((x.toNat + y.toNat + 1) / 2)
/-- `pavgsub`: the difference of `w` + 1 bits halved, its low bit kept (R328). -/
def pavgsubElem (w : Nat) (x y : BitVec w) : BitVec w :=
  let d : BitVec (w + 1) := x.setWidth (w + 1) - y.setWidth (w + 1)
  d.extractLsb' 1 w ||| (d.setWidth w &&& 1)
/-- `pcmp`: all ones or 0. -/
def pcmpElem (w : Nat) (f : BitVec w → BitVec w → Bool) (x y : BitVec w) : BitVec w :=
  if f x y then BitVec.allOnes w else 0

/-- `pshladd2` of one element (R329). -/
def pshladdElem (count : Nat) (x y : BitVec 16) : BitVec 16 :=
  satS 16 ((satS 16 (x.toInt * 2 ^ count)).toInt + y.toInt)
/-- `pshradd2` of one element (R329). -/
def pshraddElem (count : Nat) (x y : BitVec 16) : BitVec 16 := satS 16 ((x.sshiftRight count).toInt + y.toInt)

/-- The counts of `pmpyshr2` (R340). -/
def pmpyCount : PmpyCount → Nat
  | .c0 => 0
  | .c7 => 7
  | .c15 => 15
  | .c16 => 16

/-- `pmpyshr2` of one element: the 32-bit product shifted right, its low 16 bits (R340). -/
def pmpyshrElem (unsigned : Bool) (count : Nat) (x y : BitVec 16) : BitVec 16 :=
  let p : BitVec 32 := if unsigned then x.setWidth 32 * y.setWidth 32 else x.signExtend 32 * y.signExtend 32
  p.extractLsb' count 16

/-- `pmpy2`: the signed products of elements `i` and `i` + 2 (R340). -/
def pmpy2 (i : Nat) (x y : Word) : Word :=
  let p := fun k : Nat => (elem 16 x k).signExtend 32 * (elem 16 y k).signExtend 32
  p (i + 2) ++ p i

/-- `mix`: even (`odd` = 0) or odd elements of both sources, those of `y` low (R341). -/
def mix (w odd : Nat) (x y : Word) : Word :=
  ofElems w (fun i => if i % 2 = 0 then elem w y (i + odd) else elem w x (i - 1 + odd)) (64 / w)

/-- `unpack`: elements `off` and up of both sources interleaved, those of `y` low (R341). -/
def unpack (w off : Nat) (x y : Word) : Word :=
  ofElems w (fun i => if i % 2 = 0 then elem w y (off + i / 2) else elem w x (off + i / 2)) (64 / w)

/-- `pack`: the elements of `x`, then those of `y`, saturated to half their width (R341). -/
def pack (w : Nat) (sat : Int → BitVec (w / 2)) (x y : Word) : Word :=
  let n := 64 / w
  ofElems (w / 2) (fun i => if i < n then sat (elem w x i).toInt else sat (elem w y (i - n)).toInt) (2 * n)

/-- `psad1`: the sum of the absolute differences of the bytes (R341). -/
def psad1 (x y : Word) : Word :=
  BitVec.ofNat 64 ((List.range 8).foldl
    (fun a i => a + ((elem 8 x i).toNat - (elem 8 y i).toNat) + ((elem 8 y i).toNat - (elem 8 x i).toNat)) 0)

/-- The byte permutations of `mux1`; the other codes are reserved (R342). -/
def mux1Perm (mbtype4 : BitVec 4) : Option (List Nat) :=
  match mbtype4.toNat with
  | 0x0 => some [0, 0, 0, 0, 0, 0, 0, 0]
  | 0x8 => some [0, 4, 2, 6, 1, 5, 3, 7]
  | 0x9 => some [0, 4, 1, 5, 2, 6, 3, 7]
  | 0xA => some [0, 2, 4, 6, 1, 3, 5, 7]
  | 0xB => some [7, 6, 5, 4, 3, 2, 1, 0]
  | _ => none

/-- `mux1` (R342). -/
def mux1 (s : State) (qp : PredIdx) (r1 r2 : GrIdx) (mbtype4 : BitVec 4) : Host.Outcome State Fault Refusal :=
  match mux1Perm mbtype4 with
  | none => finish s (.error illegalOp)
  | some perm => grOp1 s qp r1 r2 (fun x => ofElems 8 (fun i => elem 8 x (perm.getD i 0)) 8)

/-- `mux2` (R342). -/
def mux2 (mhtype8 : BitVec 8) (x : Word) : Word :=
  ofElems 16 (fun i => elem 16 x (mhtype8.extractLsb' (2 * i) 2).toNat) 4

/-- Each element shifted left; 0 when the count exceeds the width (R345, R346). -/
def pshl (w n : Nat) (x : Word) : Word := map1 w (fun e => e <<< n) x
/-- Each element shifted right arithmetically (R343, R344). -/
def pshr (w n : Nat) (x : Word) : Word := map1 w (fun e => e.sshiftRight n) x
/-- Each element shifted right logically (R343, R344). -/
def pshrU (w n : Nat) (x : Word) : Word := map1 w (fun e => e >>> n) x

/-- The number of one bits (R347). -/
def popcount (x : Word) : Word :=
  BitVec.ofNat 64 ((List.range 64).foldl (fun a i => if x.getLsbD i then a + 1 else a) 0)

/-! ### The instructions -/

/-- `padd1 r1=r2,r3` (A9, R328). -/
def execPadd1R1R2R3 (qp : PredIdx) (r1 r2 r3 : GrIdx) (s : State) : Host.Outcome State Fault Refusal :=
  grOp2 s qp r1 r2 r3 (map2 8 (fun x y => x + y))

/-- `padd2 r1=r2,r3` (A9, R328). -/
def execPadd2R1R2R3 (qp : PredIdx) (r1 r2 r3 : GrIdx) (s : State) : Host.Outcome State Fault Refusal :=
  grOp2 s qp r1 r2 r3 (map2 16 (fun x y => x + y))

/-- `padd4 r1=r2,r3` (A9, R328). -/
def execPadd4R1R2R3 (qp : PredIdx) (r1 r2 r3 : GrIdx) (s : State) : Host.Outcome State Fault Refusal :=
  grOp2 s qp r1 r2 r3 (map2 32 (fun x y => x + y))

/-- `padd1.sss r1=r2,r3` (A9, R328). -/
def execPadd1SssR1R2R3 (qp : PredIdx) (r1 r2 r3 : GrIdx) (s : State) : Host.Outcome State Fault Refusal :=
  grOp2 s qp r1 r2 r3 (map2 8 (opSss 8 (fun x y => x + y)))

/-- `padd2.sss r1=r2,r3` (A9, R328). -/
def execPadd2SssR1R2R3 (qp : PredIdx) (r1 r2 r3 : GrIdx) (s : State) : Host.Outcome State Fault Refusal :=
  grOp2 s qp r1 r2 r3 (map2 16 (opSss 16 (fun x y => x + y)))

/-- `padd1.uus r1=r2,r3` (A9, R328). -/
def execPadd1UusR1R2R3 (qp : PredIdx) (r1 r2 r3 : GrIdx) (s : State) : Host.Outcome State Fault Refusal :=
  grOp2 s qp r1 r2 r3 (map2 8 (opUus 8 (fun x y => x + y)))

/-- `padd2.uus r1=r2,r3` (A9, R328). -/
def execPadd2UusR1R2R3 (qp : PredIdx) (r1 r2 r3 : GrIdx) (s : State) : Host.Outcome State Fault Refusal :=
  grOp2 s qp r1 r2 r3 (map2 16 (opUus 16 (fun x y => x + y)))

/-- `padd1.uuu r1=r2,r3` (A9, R328). -/
def execPadd1UuuR1R2R3 (qp : PredIdx) (r1 r2 r3 : GrIdx) (s : State) : Host.Outcome State Fault Refusal :=
  grOp2 s qp r1 r2 r3 (map2 8 (opUuu 8 (fun x y => x + y)))

/-- `padd2.uuu r1=r2,r3` (A9, R328). -/
def execPadd2UuuR1R2R3 (qp : PredIdx) (r1 r2 r3 : GrIdx) (s : State) : Host.Outcome State Fault Refusal :=
  grOp2 s qp r1 r2 r3 (map2 16 (opUuu 16 (fun x y => x + y)))

/-- `psub1 r1=r2,r3` (A9, R328). -/
def execPsub1R1R2R3 (qp : PredIdx) (r1 r2 r3 : GrIdx) (s : State) : Host.Outcome State Fault Refusal :=
  grOp2 s qp r1 r2 r3 (map2 8 (fun x y => x - y))

/-- `psub2 r1=r2,r3` (A9, R328). -/
def execPsub2R1R2R3 (qp : PredIdx) (r1 r2 r3 : GrIdx) (s : State) : Host.Outcome State Fault Refusal :=
  grOp2 s qp r1 r2 r3 (map2 16 (fun x y => x - y))

/-- `psub4 r1=r2,r3` (A9, R328). -/
def execPsub4R1R2R3 (qp : PredIdx) (r1 r2 r3 : GrIdx) (s : State) : Host.Outcome State Fault Refusal :=
  grOp2 s qp r1 r2 r3 (map2 32 (fun x y => x - y))

/-- `psub1.sss r1=r2,r3` (A9, R328). -/
def execPsub1SssR1R2R3 (qp : PredIdx) (r1 r2 r3 : GrIdx) (s : State) : Host.Outcome State Fault Refusal :=
  grOp2 s qp r1 r2 r3 (map2 8 (opSss 8 (fun x y => x - y)))

/-- `psub2.sss r1=r2,r3` (A9, R328). -/
def execPsub2SssR1R2R3 (qp : PredIdx) (r1 r2 r3 : GrIdx) (s : State) : Host.Outcome State Fault Refusal :=
  grOp2 s qp r1 r2 r3 (map2 16 (opSss 16 (fun x y => x - y)))

/-- `psub1.uus r1=r2,r3` (A9, R328). -/
def execPsub1UusR1R2R3 (qp : PredIdx) (r1 r2 r3 : GrIdx) (s : State) : Host.Outcome State Fault Refusal :=
  grOp2 s qp r1 r2 r3 (map2 8 (opUus 8 (fun x y => x - y)))

/-- `psub2.uus r1=r2,r3` (A9, R328). -/
def execPsub2UusR1R2R3 (qp : PredIdx) (r1 r2 r3 : GrIdx) (s : State) : Host.Outcome State Fault Refusal :=
  grOp2 s qp r1 r2 r3 (map2 16 (opUus 16 (fun x y => x - y)))

/-- `psub1.uuu r1=r2,r3` (A9, R328). -/
def execPsub1UuuR1R2R3 (qp : PredIdx) (r1 r2 r3 : GrIdx) (s : State) : Host.Outcome State Fault Refusal :=
  grOp2 s qp r1 r2 r3 (map2 8 (opUuu 8 (fun x y => x - y)))

/-- `psub2.uuu r1=r2,r3` (A9, R328). -/
def execPsub2UuuR1R2R3 (qp : PredIdx) (r1 r2 r3 : GrIdx) (s : State) : Host.Outcome State Fault Refusal :=
  grOp2 s qp r1 r2 r3 (map2 16 (opUuu 16 (fun x y => x - y)))

/-- `pavg1 r1=r2,r3` (A9, R328). -/
def execPavg1R1R2R3 (qp : PredIdx) (r1 r2 r3 : GrIdx) (s : State) : Host.Outcome State Fault Refusal :=
  grOp2 s qp r1 r2 r3 (map2 8 (pavgElem 8))

/-- `pavg2 r1=r2,r3` (A9, R328). -/
def execPavg2R1R2R3 (qp : PredIdx) (r1 r2 r3 : GrIdx) (s : State) : Host.Outcome State Fault Refusal :=
  grOp2 s qp r1 r2 r3 (map2 16 (pavgElem 16))

/-- `pavg1.raz r1=r2,r3` (A9, R328). -/
def execPavg1RazR1R2R3 (qp : PredIdx) (r1 r2 r3 : GrIdx) (s : State) : Host.Outcome State Fault Refusal :=
  grOp2 s qp r1 r2 r3 (map2 8 (pavgRazElem 8))

/-- `pavg2.raz r1=r2,r3` (A9, R328). -/
def execPavg2RazR1R2R3 (qp : PredIdx) (r1 r2 r3 : GrIdx) (s : State) : Host.Outcome State Fault Refusal :=
  grOp2 s qp r1 r2 r3 (map2 16 (pavgRazElem 16))

/-- `pavgsub1 r1=r2,r3` (A9, R328). -/
def execPavgsub1R1R2R3 (qp : PredIdx) (r1 r2 r3 : GrIdx) (s : State) : Host.Outcome State Fault Refusal :=
  grOp2 s qp r1 r2 r3 (map2 8 (pavgsubElem 8))

/-- `pavgsub2 r1=r2,r3` (A9, R328). -/
def execPavgsub2R1R2R3 (qp : PredIdx) (r1 r2 r3 : GrIdx) (s : State) : Host.Outcome State Fault Refusal :=
  grOp2 s qp r1 r2 r3 (map2 16 (pavgsubElem 16))

/-- `pcmp1.eq r1=r2,r3` (A9, R328). -/
def execPcmp1EqR1R2R3 (qp : PredIdx) (r1 r2 r3 : GrIdx) (s : State) : Host.Outcome State Fault Refusal :=
  grOp2 s qp r1 r2 r3 (map2 8 (pcmpElem 8 (fun x y => x == y)))

/-- `pcmp2.eq r1=r2,r3` (A9, R328). -/
def execPcmp2EqR1R2R3 (qp : PredIdx) (r1 r2 r3 : GrIdx) (s : State) : Host.Outcome State Fault Refusal :=
  grOp2 s qp r1 r2 r3 (map2 16 (pcmpElem 16 (fun x y => x == y)))

/-- `pcmp4.eq r1=r2,r3` (A9, R328). -/
def execPcmp4EqR1R2R3 (qp : PredIdx) (r1 r2 r3 : GrIdx) (s : State) : Host.Outcome State Fault Refusal :=
  grOp2 s qp r1 r2 r3 (map2 32 (pcmpElem 32 (fun x y => x == y)))

/-- `pcmp1.gt r1=r2,r3` (A9, R328). -/
def execPcmp1GtR1R2R3 (qp : PredIdx) (r1 r2 r3 : GrIdx) (s : State) : Host.Outcome State Fault Refusal :=
  grOp2 s qp r1 r2 r3 (map2 8 (pcmpElem 8 (fun x y => y.slt x)))

/-- `pcmp2.gt r1=r2,r3` (A9, R328). -/
def execPcmp2GtR1R2R3 (qp : PredIdx) (r1 r2 r3 : GrIdx) (s : State) : Host.Outcome State Fault Refusal :=
  grOp2 s qp r1 r2 r3 (map2 16 (pcmpElem 16 (fun x y => y.slt x)))

/-- `pcmp4.gt r1=r2,r3` (A9, R328). -/
def execPcmp4GtR1R2R3 (qp : PredIdx) (r1 r2 r3 : GrIdx) (s : State) : Host.Outcome State Fault Refusal :=
  grOp2 s qp r1 r2 r3 (map2 32 (pcmpElem 32 (fun x y => y.slt x)))

/-- `pshladd2 r1=r2,count2,r3` (A10, R329). -/
def execPshladd2R1R2Count2R3 (qp : PredIdx) (r1 r2 : GrIdx) (count2 : BitVec 2) (r3 : GrIdx) (s : State) :
    Host.Outcome State Fault Refusal :=
  grOp2 s qp r1 r2 r3 (map2 16 (pshladdElem count2.toNat))

/-- `pshradd2 r1=r2,count2,r3` (A10, R329). -/
def execPshradd2R1R2Count2R3 (qp : PredIdx) (r1 r2 : GrIdx) (count2 : BitVec 2) (r3 : GrIdx) (s : State) :
    Host.Outcome State Fault Refusal :=
  grOp2 s qp r1 r2 r3 (map2 16 (pshraddElem count2.toNat))

/-- `pmpyshr2 r1=r2,r3,count2` (I1, R340). -/
def execPmpyshr2R1R2R3Count2 (qp : PredIdx) (r1 r2 r3 : GrIdx) (count2 : PmpyCount) (s : State) :
    Host.Outcome State Fault Refusal :=
  grOp2 s qp r1 r2 r3 (map2 16 (pmpyshrElem false (pmpyCount count2)))

/-- `pmpyshr2.u r1=r2,r3,count2` (I1, R340). -/
def execPmpyshr2UR1R2R3Count2 (qp : PredIdx) (r1 r2 r3 : GrIdx) (count2 : PmpyCount) (s : State) :
    Host.Outcome State Fault Refusal :=
  grOp2 s qp r1 r2 r3 (map2 16 (pmpyshrElem true (pmpyCount count2)))

/-- `pmpy2.r r1=r2,r3` (I2, R340). -/
def execPmpy2RR1R2R3 (qp : PredIdx) (r1 r2 r3 : GrIdx) (s : State) : Host.Outcome State Fault Refusal :=
  grOp2 s qp r1 r2 r3 (pmpy2 0)

/-- `pmpy2.l r1=r2,r3` (I2, R340). -/
def execPmpy2LR1R2R3 (qp : PredIdx) (r1 r2 r3 : GrIdx) (s : State) : Host.Outcome State Fault Refusal :=
  grOp2 s qp r1 r2 r3 (pmpy2 1)

/-- `mix1.r r1=r2,r3` (I2, R341). -/
def execMix1RR1R2R3 (qp : PredIdx) (r1 r2 r3 : GrIdx) (s : State) : Host.Outcome State Fault Refusal :=
  grOp2 s qp r1 r2 r3 (mix 8 0)

/-- `mix1.l r1=r2,r3` (I2, R341). -/
def execMix1LR1R2R3 (qp : PredIdx) (r1 r2 r3 : GrIdx) (s : State) : Host.Outcome State Fault Refusal :=
  grOp2 s qp r1 r2 r3 (mix 8 1)

/-- `mix2.r r1=r2,r3` (I2, R341). -/
def execMix2RR1R2R3 (qp : PredIdx) (r1 r2 r3 : GrIdx) (s : State) : Host.Outcome State Fault Refusal :=
  grOp2 s qp r1 r2 r3 (mix 16 0)

/-- `mix2.l r1=r2,r3` (I2, R341). -/
def execMix2LR1R2R3 (qp : PredIdx) (r1 r2 r3 : GrIdx) (s : State) : Host.Outcome State Fault Refusal :=
  grOp2 s qp r1 r2 r3 (mix 16 1)

/-- `mix4.r r1=r2,r3` (I2, R341). -/
def execMix4RR1R2R3 (qp : PredIdx) (r1 r2 r3 : GrIdx) (s : State) : Host.Outcome State Fault Refusal :=
  grOp2 s qp r1 r2 r3 (mix 32 0)

/-- `mix4.l r1=r2,r3` (I2, R341). -/
def execMix4LR1R2R3 (qp : PredIdx) (r1 r2 r3 : GrIdx) (s : State) : Host.Outcome State Fault Refusal :=
  grOp2 s qp r1 r2 r3 (mix 32 1)

/-- `pack2.sss r1=r2,r3` (I2, R341). -/
def execPack2SssR1R2R3 (qp : PredIdx) (r1 r2 r3 : GrIdx) (s : State) : Host.Outcome State Fault Refusal :=
  grOp2 s qp r1 r2 r3 (pack 16 (satS 8))

/-- `pack2.uss r1=r2,r3` (I2, R341). -/
def execPack2UssR1R2R3 (qp : PredIdx) (r1 r2 r3 : GrIdx) (s : State) : Host.Outcome State Fault Refusal :=
  grOp2 s qp r1 r2 r3 (pack 16 (satU 8))

/-- `pack4.sss r1=r2,r3` (I2, R341). -/
def execPack4SssR1R2R3 (qp : PredIdx) (r1 r2 r3 : GrIdx) (s : State) : Host.Outcome State Fault Refusal :=
  grOp2 s qp r1 r2 r3 (pack 32 (satS 16))

/-- `unpack1.l r1=r2,r3` (I2, R341). -/
def execUnpack1LR1R2R3 (qp : PredIdx) (r1 r2 r3 : GrIdx) (s : State) : Host.Outcome State Fault Refusal :=
  grOp2 s qp r1 r2 r3 (unpack 8 0)

/-- `unpack1.h r1=r2,r3` (I2, R341). -/
def execUnpack1HR1R2R3 (qp : PredIdx) (r1 r2 r3 : GrIdx) (s : State) : Host.Outcome State Fault Refusal :=
  grOp2 s qp r1 r2 r3 (unpack 8 4)

/-- `unpack2.l r1=r2,r3` (I2, R341). -/
def execUnpack2LR1R2R3 (qp : PredIdx) (r1 r2 r3 : GrIdx) (s : State) : Host.Outcome State Fault Refusal :=
  grOp2 s qp r1 r2 r3 (unpack 16 0)

/-- `unpack2.h r1=r2,r3` (I2, R341). -/
def execUnpack2HR1R2R3 (qp : PredIdx) (r1 r2 r3 : GrIdx) (s : State) : Host.Outcome State Fault Refusal :=
  grOp2 s qp r1 r2 r3 (unpack 16 2)

/-- `unpack4.l r1=r2,r3` (I2, R341). -/
def execUnpack4LR1R2R3 (qp : PredIdx) (r1 r2 r3 : GrIdx) (s : State) : Host.Outcome State Fault Refusal :=
  grOp2 s qp r1 r2 r3 (unpack 32 0)

/-- `unpack4.h r1=r2,r3` (I2, R341). -/
def execUnpack4HR1R2R3 (qp : PredIdx) (r1 r2 r3 : GrIdx) (s : State) : Host.Outcome State Fault Refusal :=
  grOp2 s qp r1 r2 r3 (unpack 32 1)

/-- `pmin1.u r1=r2,r3` (I2, R341). -/
def execPmin1UR1R2R3 (qp : PredIdx) (r1 r2 r3 : GrIdx) (s : State) : Host.Outcome State Fault Refusal :=
  grOp2 s qp r1 r2 r3 (map2 8 (fun x y => if x.ult y then x else y))

/-- `pmax1.u r1=r2,r3` (I2, R341). -/
def execPmax1UR1R2R3 (qp : PredIdx) (r1 r2 r3 : GrIdx) (s : State) : Host.Outcome State Fault Refusal :=
  grOp2 s qp r1 r2 r3 (map2 8 (fun x y => if x.ult y then y else x))

/-- `pmin2 r1=r2,r3` (I2, R341). -/
def execPmin2R1R2R3 (qp : PredIdx) (r1 r2 r3 : GrIdx) (s : State) : Host.Outcome State Fault Refusal :=
  grOp2 s qp r1 r2 r3 (map2 16 (fun x y => if x.slt y then x else y))

/-- `pmax2 r1=r2,r3` (I2, R341). -/
def execPmax2R1R2R3 (qp : PredIdx) (r1 r2 r3 : GrIdx) (s : State) : Host.Outcome State Fault Refusal :=
  grOp2 s qp r1 r2 r3 (map2 16 (fun x y => if x.slt y then y else x))

/-- `psad1 r1=r2,r3` (I2, R341). -/
def execPsad1R1R2R3 (qp : PredIdx) (r1 r2 r3 : GrIdx) (s : State) : Host.Outcome State Fault Refusal :=
  grOp2 s qp r1 r2 r3 psad1

/-- `mux1 r1=r2,mbtype4` (I3, R342). -/
def execMux1R1R2Mbtype4 (qp : PredIdx) (r1 r2 : GrIdx) (mbtype4 : BitVec 4) (s : State) :
    Host.Outcome State Fault Refusal :=
  mux1 s qp r1 r2 mbtype4

/-- `mux2 r1=r2,mhtype8` (I4, R342). -/
def execMux2R1R2Mhtype8 (qp : PredIdx) (r1 r2 : GrIdx) (mhtype8 : BitVec 8) (s : State) :
    Host.Outcome State Fault Refusal :=
  grOp1 s qp r1 r2 (mux2 mhtype8)

/-- `pshr2 r1=r3,count5` (I6, R344). -/
def execPshr2R1R3Count5 (qp : PredIdx) (r1 r3 : GrIdx) (count5 : BitVec 5) (s : State) :
    Host.Outcome State Fault Refusal :=
  grOp1 s qp r1 r3 (pshr 16 count5.toNat)

/-- `pshr2.u r1=r3,count5` (I6, R344). -/
def execPshr2UR1R3Count5 (qp : PredIdx) (r1 r3 : GrIdx) (count5 : BitVec 5) (s : State) :
    Host.Outcome State Fault Refusal :=
  grOp1 s qp r1 r3 (pshrU 16 count5.toNat)

/-- `pshr4 r1=r3,count5` (I6, R344). -/
def execPshr4R1R3Count5 (qp : PredIdx) (r1 r3 : GrIdx) (count5 : BitVec 5) (s : State) :
    Host.Outcome State Fault Refusal :=
  grOp1 s qp r1 r3 (pshr 32 count5.toNat)

/-- `pshr4.u r1=r3,count5` (I6, R344). -/
def execPshr4UR1R3Count5 (qp : PredIdx) (r1 r3 : GrIdx) (count5 : BitVec 5) (s : State) :
    Host.Outcome State Fault Refusal :=
  grOp1 s qp r1 r3 (pshrU 32 count5.toNat)

/-- `pshl2 r1=r2,count5` (I8, R346). -/
def execPshl2R1R2Count5 (qp : PredIdx) (r1 r2 : GrIdx) (count5 : BitVec 5) (s : State) :
    Host.Outcome State Fault Refusal :=
  grOp1 s qp r1 r2 (pshl 16 count5.toNat)

/-- `pshl4 r1=r2,count5` (I8, R346). -/
def execPshl4R1R2Count5 (qp : PredIdx) (r1 r2 : GrIdx) (count5 : BitVec 5) (s : State) :
    Host.Outcome State Fault Refusal :=
  grOp1 s qp r1 r2 (pshl 32 count5.toNat)

/-- `popcnt r1=r3` (I9, R347). -/
def execPopcntR1R3 (qp : PredIdx) (r1 r3 : GrIdx) (s : State) : Host.Outcome State Fault Refusal :=
  grOp1 s qp r1 r3 popcount

end Sys2Proof.Machine
end

