-- ==== Sys2Proof/Machine/BitField.lean ====
section
/-! DEFINITION. Machine/BitField.lean: shifts and bit fields, formats I5, I7, I10 to I15, I29 (`spec/41_i_type.md` R343,
R345, R348 to R351, R364). -/

namespace Sys2Proof.Machine

/-- The low `len` bits set. -/
def lowMask (len : Nat) : Word := BitVec.ofNat 64 (2 ^ len - 1)

/-- The length of an extracted field, cut at bit 63 (R349). -/
def extrLen (pos6 len6d : BitVec 6) : Nat := min (len6d.toNat + 1) (64 - pos6.toNat)

/-- `extr.u` (R349). -/
def extrU (pos6 len6d : BitVec 6) (x : Word) : Word := (x >>> pos6.toNat) &&& lowMask (extrLen pos6 len6d)

/-- `extr`: sign-extended from the field's top bit (R349). -/
def extrS (pos6 len6d : BitVec 6) (x : Word) : Word :=
  let n := extrLen pos6 len6d
  (extrU pos6 len6d x <<< (64 - n)).sshiftRight (64 - n)

/-- `dep.z`: the low `len` bits at `pos6`, everything else 0 (R350). -/
def depZ (pos6 : BitVec 6) (len : Nat) (x : Word) : Word := (x &&& lowMask len) <<< pos6.toNat

/-- `dep`: `y` with the field replaced by the low bits of `x` (R351). -/
def deposit (pos6 : BitVec 6) (len : Nat) (x y : Word) : Word :=
  (y &&& ~~~ (lowMask len <<< pos6.toNat)) ||| depZ pos6 len x

/-- `shrp`: the low 64 bits of the pair shifted right (R348). -/
def shrp (count6 : BitVec 6) (x y : Word) : Word := (x ++ y).extractLsb' count6.toNat 64

/-- `shr`, `shr.u`, `shl` by a register: a count above 63 gives the sign or 0 (R343, R345). -/
def shrVar (x n : Word) : Word := x.sshiftRight (min n.toNat 64)
/-- `shr.u` by a register (R343). -/
def shrUVar (x n : Word) : Word := x >>> (min n.toNat 64)
/-- `shl` by a register (R345). -/
def shlVar (x n : Word) : Word := x <<< (min n.toNat 64)

/-- The shift count of a parallel shift by a register, cut at 64 (R343, R345). -/
def shiftCount (n : Word) : Nat := min n.toNat 64

/-- Sign extension of the low `w` bits (R364). -/
def sxt (w : Nat) (x : Word) : Word := (x.setWidth w).signExtend 64
/-- Zero extension of the low `w` bits (R364). -/
def zxt (w : Nat) (x : Word) : Word := (x.setWidth w).setWidth 64

/-- The first index below `k` with a zero element, `k` if none: `czx` (R364). -/
def firstZero (w : Nat) (x : Word) (at_ : Nat → Nat) (k : Nat) : Word :=
  BitVec.ofNat 64 (((List.range k).find? (fun i => elem w x (at_ i) = 0)).getD k)
/-- `czx.r`: from the least significant element. -/
def czxR (w : Nat) (x : Word) : Word := firstZero w x id (64 / w)
/-- `czx.l`: from the most significant element. -/
def czxL (w : Nat) (x : Word) : Word := firstZero w x (fun i => 64 / w - 1 - i) (64 / w)

/-! ### The instructions -/

/-- `shr r1=r3,r2` (I5, R343). -/
def execShrR1R3R2 (qp : PredIdx) (r1 r3 r2 : GrIdx) (s : State) : Host.Outcome State Fault Refusal :=
  grOp2 s qp r1 r3 r2 (fun x n => shrVar x n)

/-- `shr.u r1=r3,r2` (I5, R343). -/
def execShrUR1R3R2 (qp : PredIdx) (r1 r3 r2 : GrIdx) (s : State) : Host.Outcome State Fault Refusal :=
  grOp2 s qp r1 r3 r2 (fun x n => shrUVar x n)

/-- `pshr2 r1=r3,r2` (I5, R343). -/
def execPshr2R1R3R2 (qp : PredIdx) (r1 r3 r2 : GrIdx) (s : State) : Host.Outcome State Fault Refusal :=
  grOp2 s qp r1 r3 r2 (fun x n => pshr 16 (shiftCount n) x)

/-- `pshr2.u r1=r3,r2` (I5, R343). -/
def execPshr2UR1R3R2 (qp : PredIdx) (r1 r3 r2 : GrIdx) (s : State) : Host.Outcome State Fault Refusal :=
  grOp2 s qp r1 r3 r2 (fun x n => pshrU 16 (shiftCount n) x)

/-- `pshr4 r1=r3,r2` (I5, R343). -/
def execPshr4R1R3R2 (qp : PredIdx) (r1 r3 r2 : GrIdx) (s : State) : Host.Outcome State Fault Refusal :=
  grOp2 s qp r1 r3 r2 (fun x n => pshr 32 (shiftCount n) x)

/-- `pshr4.u r1=r3,r2` (I5, R343). -/
def execPshr4UR1R3R2 (qp : PredIdx) (r1 r3 r2 : GrIdx) (s : State) : Host.Outcome State Fault Refusal :=
  grOp2 s qp r1 r3 r2 (fun x n => pshrU 32 (shiftCount n) x)

/-- `shl r1=r2,r3` (I7, R345). -/
def execShlR1R2R3 (qp : PredIdx) (r1 r2 r3 : GrIdx) (s : State) : Host.Outcome State Fault Refusal :=
  grOp2 s qp r1 r2 r3 (fun x n => shlVar x n)

/-- `pshl2 r1=r2,r3` (I7, R345). -/
def execPshl2R1R2R3 (qp : PredIdx) (r1 r2 r3 : GrIdx) (s : State) : Host.Outcome State Fault Refusal :=
  grOp2 s qp r1 r2 r3 (fun x n => pshl 16 (shiftCount n) x)

/-- `pshl4 r1=r2,r3` (I7, R345). -/
def execPshl4R1R2R3 (qp : PredIdx) (r1 r2 r3 : GrIdx) (s : State) : Host.Outcome State Fault Refusal :=
  grOp2 s qp r1 r2 r3 (fun x n => pshl 32 (shiftCount n) x)

/-- `shrp r1=r2,r3,count6` (I10, R348). -/
def execShrpR1R2R3Count6 (qp : PredIdx) (r1 r2 r3 : GrIdx) (count6 : BitVec 6) (s : State) :
    Host.Outcome State Fault Refusal :=
  grOp2 s qp r1 r2 r3 (shrp count6)

/-- `extr.u r1=r3,pos6,len6` (I11, R349). -/
def execExtrUR1R3Pos6Len6 (qp : PredIdx) (r1 r3 : GrIdx) (pos6 len6d : BitVec 6) (s : State) :
    Host.Outcome State Fault Refusal :=
  grOp1 s qp r1 r3 (extrU pos6 len6d)

/-- `extr r1=r3,pos6,len6` (I11, R349). -/
def execExtrR1R3Pos6Len6 (qp : PredIdx) (r1 r3 : GrIdx) (pos6 len6d : BitVec 6) (s : State) :
    Host.Outcome State Fault Refusal :=
  grOp1 s qp r1 r3 (extrS pos6 len6d)

/-- `dep.z r1=r2,pos6,len6` (I12, R350). -/
def execDepZR1R2Pos6Len6 (qp : PredIdx) (r1 r2 : GrIdx) (pos6 len6d : BitVec 6) (s : State) :
    Host.Outcome State Fault Refusal :=
  grOp1 s qp r1 r2 (depZ pos6 (len6d.toNat + 1))

/-- `dep.z r1=imm8,pos6,len6` (I13, R350). -/
def execDepZR1Imm8Pos6Len6 (qp : PredIdx) (r1 : GrIdx) (imm8 : BitVec 8) (pos6 len6d : BitVec 6) (s : State) :
    Host.Outcome State Fault Refusal :=
  grOp0 s qp r1 (depZ pos6 (len6d.toNat + 1) (sext imm8))

/-- `dep r1=imm1,r3,pos6,len6` (I14, R351). -/
def execDepR1Imm1R3Pos6Len6 (qp : PredIdx) (r1 : GrIdx) (imm1 : BitVec 1) (r3 : GrIdx) (pos6 len6d : BitVec 6) (s : State) :
    Host.Outcome State Fault Refusal :=
  grOp1 s qp r1 r3 (deposit pos6 (len6d.toNat + 1) (imm1.signExtend 64))

/-- `dep r1=r2,r3,pos6,len4` (I15, R351). -/
def execDepR1R2R3Pos6Len4 (qp : PredIdx) (r1 r2 r3 : GrIdx) (pos6 : BitVec 6) (len4d : BitVec 4) (s : State) :
    Host.Outcome State Fault Refusal :=
  grOp2 s qp r1 r2 r3 (deposit pos6 (len4d.toNat + 1))

/-- `zxt1 r1=r3` (I29, R364). -/
def execZxt1R1R3 (qp : PredIdx) (r1 r3 : GrIdx) (s : State) : Host.Outcome State Fault Refusal :=
  grOp1 s qp r1 r3 (zxt 8)

/-- `zxt2 r1=r3` (I29, R364). -/
def execZxt2R1R3 (qp : PredIdx) (r1 r3 : GrIdx) (s : State) : Host.Outcome State Fault Refusal :=
  grOp1 s qp r1 r3 (zxt 16)

/-- `zxt4 r1=r3` (I29, R364). -/
def execZxt4R1R3 (qp : PredIdx) (r1 r3 : GrIdx) (s : State) : Host.Outcome State Fault Refusal :=
  grOp1 s qp r1 r3 (zxt 32)

/-- `sxt1 r1=r3` (I29, R364). -/
def execSxt1R1R3 (qp : PredIdx) (r1 r3 : GrIdx) (s : State) : Host.Outcome State Fault Refusal :=
  grOp1 s qp r1 r3 (sxt 8)

/-- `sxt2 r1=r3` (I29, R364). -/
def execSxt2R1R3 (qp : PredIdx) (r1 r3 : GrIdx) (s : State) : Host.Outcome State Fault Refusal :=
  grOp1 s qp r1 r3 (sxt 16)

/-- `sxt4 r1=r3` (I29, R364). -/
def execSxt4R1R3 (qp : PredIdx) (r1 r3 : GrIdx) (s : State) : Host.Outcome State Fault Refusal :=
  grOp1 s qp r1 r3 (sxt 32)

/-- `czx1.l r1=r3` (I29, R364). -/
def execCzx1LR1R3 (qp : PredIdx) (r1 r3 : GrIdx) (s : State) : Host.Outcome State Fault Refusal :=
  grOp1 s qp r1 r3 (czxL 8)

/-- `czx2.l r1=r3` (I29, R364). -/
def execCzx2LR1R3 (qp : PredIdx) (r1 r3 : GrIdx) (s : State) : Host.Outcome State Fault Refusal :=
  grOp1 s qp r1 r3 (czxL 16)

/-- `czx1.r r1=r3` (I29, R364). -/
def execCzx1RR1R3 (qp : PredIdx) (r1 r3 : GrIdx) (s : State) : Host.Outcome State Fault Refusal :=
  grOp1 s qp r1 r3 (czxR 8)

/-- `czx2.r r1=r3` (I29, R364). -/
def execCzx2RR1R3 (qp : PredIdx) (r1 r3 : GrIdx) (s : State) : Host.Outcome State Fault Refusal :=
  grOp1 s qp r1 r3 (czxR 16)

end Sys2Proof.Machine
end

