-- ==== Sys2Proof/Machine/MoveI.lean ====
section
/-! DEFINITION. Machine/MoveI.lean: breaks, nops, moves to and from BR, PR and IP, the long immediate move, formats I19, I21
to I25, M37, F15, B9, X1, X2 (`spec/41_i_type.md` R354, R356 to R360, R365, `spec/60_exceptions.md` R563). -/

namespace Sys2Proof.Machine

/-- The Break Instruction fault (R563). -/
def breakFault (imm : Word) : Exc := .intr { vec := .breakInstruction, iim := some imm }

/-- `break.m`, `break.i`, `break.f` (R354). -/
def breakInstr (s : State) (qp : PredIdx) (imm : Word) : Host.Outcome State Fault Refusal :=
  run s qp (.ok ()) (.error (breakFault imm))

/-- `nop.m`, `nop.i`, `nop.f`: only its retirement event (R354, R753). -/
def nopInstr (s : State) (qp : PredIdx) : Host.Outcome State Fault Refusal := run s qp (.ok ()) (.ok { s := s.emit .nop })

/-- The result of an instruction in slots 1 and 2 of an MLX bundle: the next one is in the next bundle (R330). -/
def Res.asLong (r : Res) : Res := { r with long := true }

/-- A predicated instruction in slots 1 and 2 of an MLX bundle (R330). -/
def runLong (s : State) (qp : PredIdx) (targets : Except Exc Unit) (body : Except Exc Res) :
    Host.Outcome State Fault Refusal :=
  finish s ((targets.bind fun _ => if s.pred qp then body else .ok { s := s.emit .squashed }).map Res.asLong)

/-- `mov b1 = r2` (R356). -/
def movToBr (s : State) (qp : PredIdx) (b1 : BrIdx) (r2 : GrIdx) : Host.Outcome State Fault Refusal :=
  run s qp (.ok ()) ((s.consumeGr r2).bind fun v => .ok { s := s.setBr b1 v })

/-- Write the predicates of a physical mask (R358, R359). -/
def State.movPr (s : State) (mask v : Word) : State := s.setPrMask (s.prHazard .alu) .alu mask v

/-- The value `mov pr.rot` writes: `imm44` sign-extended (R359). -/
def prRotValue (imm28 : BitVec 28) : Word := (imm28 ++ 0#16).signExtend 64

/-! ### The instructions -/

/-- `break.i imm21` (I19, R354). -/
def execBreakIImm21 (qp : PredIdx) (imm21 : BitVec 21) (s : State) : Host.Outcome State Fault Refusal :=
  breakInstr s qp (zext imm21)

/-- `nop.i imm21` (I19, R354). -/
def execNopIImm21 (qp : PredIdx) (_imm21 : BitVec 21) (s : State) : Host.Outcome State Fault Refusal :=
  nopInstr s qp

/-- `mov b1=r2` (I21, R356). -/
def execMovB1R2 (qp : PredIdx) (b1 : BrIdx) (r2 : GrIdx) (_timm9 : BitVec 9) (_ih : BitVec 1) (_wh : BitVec 2) (s : State) :
    Host.Outcome State Fault Refusal :=
  movToBr s qp b1 r2

/-- `mov.ret b1=r2` (I21, R356). -/
def execMovRetB1R2 (qp : PredIdx) (b1 : BrIdx) (r2 : GrIdx) (_timm9 : BitVec 9) (_ih : BitVec 1) (_wh : BitVec 2) (s : State) :
    Host.Outcome State Fault Refusal :=
  movToBr s qp b1 r2

/-- `mov r1=b2` (I22, R357). -/
def execMovR1B2 (qp : PredIdx) (r1 : GrIdx) (b2 : BrIdx) (s : State) : Host.Outcome State Fault Refusal :=
  grOp0 s qp r1 (s.br b2)

/-- `mov pr=r2,mask17` (I23, R358). -/
def execMovPrR2Mask17 (qp : PredIdx) (r2 : GrIdx) (mask17 : BitVec 17) (s : State) :
    Host.Outcome State Fault Refusal :=
  run s qp (.ok ()) ((s.consumeGr r2).bind fun v => .ok { s := s.movPr (prMask17 mask17) v })

/-- `mov pr.rot=imm44` (I24, R359). -/
def execMovPrRotImm44 (qp : PredIdx) (imm28 : BitVec 28) (s : State) : Host.Outcome State Fault Refusal :=
  run s qp (.ok ()) (.ok { s := s.movPr 0xFFFFFFFFFFFF0000 (prRotValue imm28) })

/-- `mov r1=ip` (I25, R360). -/
def execMovR1Ip (qp : PredIdx) (r1 : GrIdx) (s : State) : Host.Outcome State Fault Refusal :=
  grOp0 s qp r1 (s.ip &&& ~~~ 0xF#64)

/-- `mov r1=pr` (I25, R360). -/
def execMovR1Pr (qp : PredIdx) (r1 : GrIdx) (s : State) : Host.Outcome State Fault Refusal :=
  grOp0 s qp r1 (s.old.pr ||| 1)

/-- `movl r1=imm64` (X2, R365). -/
def execMovlR1Imm64 (qp : PredIdx) (r1 : GrIdx) (imm64 : BitVec 64) (s : State) : Host.Outcome State Fault Refusal :=
  runLong s qp (s.targetGr r1) (.ok { s := s.setGr r1 (GReg.ofWord imm64) .alu })

/-- `break.x imm62` (X1, R354). -/
def execBreakXImm62 (qp : PredIdx) (imm62 : BitVec 62) (s : State) : Host.Outcome State Fault Refusal :=
  runLong s qp (.ok ()) (.error (breakFault (zext imm62)))

/-- `nop.x imm62` (X1, R354). -/
def execNopXImm62 (qp : PredIdx) (_imm62 : BitVec 62) (s : State) : Host.Outcome State Fault Refusal :=
  runLong s qp (.ok ()) (.ok { s := s })

/-- `break.m imm21` (M37, R470). -/
def execBreakMImm21 (qp : PredIdx) (imm21 : BitVec 21) (s : State) : Host.Outcome State Fault Refusal :=
  breakInstr s qp (zext imm21)

/-- `nop.m imm21` (M37, R470). -/
def execNopMImm21 (qp : PredIdx) (_imm21 : BitVec 21) (s : State) : Host.Outcome State Fault Refusal :=
  nopInstr s qp

/-- `break.f imm21` (F15, R513). -/
def execBreakFImm21 (qp : PredIdx) (imm21 : BitVec 21) (s : State) : Host.Outcome State Fault Refusal :=
  breakInstr s qp (zext imm21)

/-- `nop.f imm21` (F15, R513). -/
def execNopFImm21 (qp : PredIdx) (_imm21 : BitVec 21) (s : State) : Host.Outcome State Fault Refusal :=
  nopInstr s qp

end Sys2Proof.Machine
end

