-- ==== Sys2Proof/Machine/Branch.lean ====
section
/-! DEFINITION. Machine/Branch.lean: the B and X formats (`spec/45_b_type.md` R521 to R525, R541 to R559). -/

namespace Sys2Proof.Machine

/-- A branch reached retirement: its event (R783), and the target when it is taken. -/
def State.branchTo (s : State) (taken : Bool) (kind : Nat) (target : Word) : Res :=
  { s := s.emit (.branch taken kind target), target := if taken then some target else none }

/-- `br.cond`, `brl.cond` (R522). `kind`: 1 IP-relative, 3 indirect (R537). -/
def brCond (s : State) (qp : PredIdx) (target : Word) (kind : Nat) (long : Bool) : Host.Outcome State Fault Refusal :=
  let r := s.branchTo (s.branchPred qp) kind target
  finish s (.ok (if long then r.asLong else r))

/-- What a call leaves: the return link, PFS, and the callee's frame (R523). -/
def State.call (s : State) (b1 : BrIdx) : State :=
  let sol := cfmSol s.cfm
  let t := { s.pushFrame sol with cfm := mkCfm (cfmSof s.cfm - sol) 0 0 0 0 0 }
  ((t.setBr b1 (s.ip + 16)).setAr .pfs (mkPfs s.cfm s.old.ec s.cpl)).emit (s.rseNote .callReturn)

/-- `br.call`, `brl.call` (R523). -/
def brCall (s : State) (qp : PredIdx) (b1 : BrIdx) (target : Word) (kind : Nat) (long : Bool) :
    Host.Outcome State Fault Refusal :=
  let r := if s.branchPred qp then (s.call b1).branchTo true kind target else s.branchTo false kind target
  finish s (.ok (if long then r.asLong else r))

/-- The newest PFS: a return sees a write of its own group (R911 (a)). -/
def State.returnPfs (s : State) : Word := s.cur.pfs

/-- `br.ret` lowers the privilege (R524). -/
def State.demotes (s : State) : Bool := s.cpl < pfsPpl s.returnPfs

/-- What a return leaves beside its frame: EC, and PSR.cpl when the caller was less privileged (R524). -/
def State.leave (s t : State) : State :=
  let t := t.setAr .ec ((pfsPec s.returnPfs).setWidth 64)
  if s.demotes then State.emit { t with psr := putField t.psr 32 (pfsPpl s.returnPfs) } .cplChange else t

/-- The trace buffer may capture the source of a faulting branch of type `kind` (R560, R685). -/
def Exc.ofBranch (kind : Nat) : Exc → Exc
  | .intr i => .intr { i with events := .branchFault kind :: i.events }
  | e => e

/-- `br.ret` (R524). -/
def brRet (s : State) (qp : PredIdx) (b2 : BrIdx) : Host.Outcome State Fault Refusal :=
  let target := s.brTarget b2
  runBranch s qp
    (((s.popFrame (pfsPfm s.returnPfs) (cfmSol (pfsPfm s.returnPfs))).mapError (Exc.ofBranch 2)).map fun t =>
      { ((s.leave t).emit (s.rseNote .callReturn)).branchTo true 2 target with lpTrap := s.demotes })
    (s.emit (.branch false 2 target))

/-- A loop branch is in slot 2 (R541). -/
def State.inSlot2 (s : State) : Except Exc Unit := require (s.ri == 2) (illegalOp.ofBranch 1)

/-- `br.cloop` (R541). -/
def brCloop (s : State) (target : Word) : Host.Outcome State Fault Refusal :=
  finish s (s.inSlot2.bind fun _ =>
    if s.old.lc ≠ 0 then .ok ((s.setAr .lc (s.old.lc - 1)).branchTo true 1 target)
    else .ok (s.branchTo false 1 target))

/-- Rotate the register names (R544). -/
def State.rotate (s : State) : State := { s with cfm := rotateRegs s.cfm }

/-- Write PR[63], which the rotation then names PR[16] (R542). -/
def State.loopPred (s : State) (v : Bool) : State := s.setPr 63 v .alu

/-- EC counted down. -/
def State.countEc (s : State) : State := s.setAr .ec ((s.old.ec - 1).setWidth 64)

/-- The state changes of `br.ctop` and `br.cexit` (R542). -/
def State.countedLoop (s : State) : State :=
  if s.old.lc ≠ 0 then ((s.setAr .lc (s.old.lc - 1)).loopPred true).rotate
  else if s.old.ec ≠ 0 then (s.countEc.loopPred false).rotate
  else s.loopPred false

/-- `br.ctop`, `br.cexit` (R542). -/
def brCounted (s : State) (exit : Bool) (target : Word) : Host.Outcome State Fault Refusal :=
  let cont := decide (s.old.lc ≠ 0) || decide (1 < s.old.ec.toNat)
  finish s (s.inSlot2.bind fun _ => .ok (s.countedLoop.branchTo (cont != exit) 1 target))

/-- The state changes of `br.wtop` and `br.wexit` (R543). -/
def State.whileLoop (s : State) (p : Bool) : State :=
  if p then (s.loopPred false).rotate
  else if s.old.ec ≠ 0 then (s.countEc.loopPred false).rotate
  else s.loopPred false

/-- `br.wtop`, `br.wexit` (R543): `qp` is the loop condition. -/
def brWhile (s : State) (qp : PredIdx) (exit : Bool) (target : Word) : Host.Outcome State Fault Refusal :=
  let p := s.branchPred qp
  let cont := p || decide (1 < s.old.ec.toNat)
  finish s (s.inSlot2.bind fun _ => .ok ((s.whileLoop p).branchTo (cont != exit) 1 target))

/-- `br.ia` (R525): the fault of PSR.di, or IA-32 execution, which the spec does not give (D22). -/
def brIa (s : State) : Host.Outcome State Fault Refusal :=
  finish s (.error (if s.psrDi then disabledIsa.ofBranch 3 else .refused .ia32Execution))

/-- `cover` (R554). -/
def coverInstr (s : State) : Host.Outcome State Fault Refusal :=
  let t := { s.pushFrame (cfmSof s.cfm) with cfm := 0 }
  let ifs := putBit (zext s.cfm) 63 true
  finish s (.ok { s := State.emit (if s.psrIc then t else { t with cr := { t.cr with ifs } }) (s.rseNote .other) })

/-- `clrrrb` (R555). -/
def clrrrbInstr (s : State) (prOnly : Bool) : Host.Outcome State Fault Refusal :=
  let c := s.cfm
  let c' := if prOnly then mkCfm (cfmSof c) (cfmSol c) (cfmSor c) (cfmRrbGr c) (cfmRrbFr c) 0
    else mkCfm (cfmSof c) (cfmSol c) (cfmSor c) 0 0 0
  finish s (.ok { s := { s with cfm := c' } })

/-- The outcome of `rfi`: its own next address, and the traps that can follow it (R587). -/
def finishRfi (s0 : State) (r : Except Exc State) : Host.Outcome State Fault Refusal :=
  match r with
  | .error e => finish s0 (.error e)
  | .ok t =>
    let t := t.emit .retired
    match trapIntr (!t.psrIt && unimplementedPhys t.ip) none false false s0.psrSs with
    | none => .next t
    | some i => .next (t.takeInterruption i s0.ri)

/-- The fills of an `rfi` are told apart from the other references of the RSE (R834). -/
def PmuEvent.ofRfi : PmuEvent → PmuEvent
  | .load va .rse mis uc => .load va .rseRfi mis uc
  | e => e

/-- What the fills of an `rfi` in `s` run in: the restored context `t`, but PSR.ic is that of before, since a fill that faults is reported on
the `rfi` itself: with PSR.ic = 0 its miss is a nested one (R568, R584; log 41). -/
def State.fillContext (s t : State) : State := { t with psr := putBit t.psr 13 s.psrIc }

/-- The frame that `rfi` restores from IFS (R556). -/
def State.restoreFrame (s t : State) : Except Exc State :=
  let ifm := s.cr.ifs.extractLsb' 0 38
  ((s.fillContext t).popFrame ifm (cfmSof ifm)).map fun u =>
    (State.emit { u with psr := t.psr, events := u.events.map PmuEvent.ofRfi } (s.rseNote .other)).endGroup

/-- RETURNING FROM AN INTERRUPTION: `rfi` (R556, R588). PSR and IP are restored, and with IFS.v = 1 the frame. A return into IA-32
execution is refused (R63, D22). -/
def rfiInstr (s : State) : Host.Outcome State Fault Refusal :=
  finishRfi s (s.privileged.bind fun _ =>
    if s.cr.ipsr.getLsbD 34 then .error (.refused .ia32Execution)
    else if s.cr.ifs.getLsbD 63 then s.restoreFrame s.restoreContext else .ok s.restoreContext)

/-- `bsw.0`, `bsw.1` (R557). -/
def bswInstr (s : State) (bank : Bool) : Host.Outcome State Fault Refusal :=
  finish s (s.privileged.bind fun _ => .ok { s := { s with psr := putBit s.psr 44 bank } })

/-- The privilege level `epc` gives: that of the promote page it is on; 0 with translation off (R558). -/
def State.epcLevel (s : State) : BitVec 2 :=
  if !s.psrIt then 0
  else match s.found true s.ip with
    | [e] => if e.ar = 7 ∧ e.pl < s.cpl then e.pl else s.cpl
    | _ => s.cpl

/-- `epc` (R558). -/
def epcInstr (s : State) : Host.Outcome State Fault Refusal :=
  finish s ((require (decide (s.cpl ≤ pfsPpl s.old.pfs)) illegalOp).bind fun _ =>
    let t := { s with psr := putField s.psr 32 s.epcLevel }
    .ok { s := if s.epcLevel = s.cpl then t else t.emit .cplChange })

/-- `break.b`: CR[IIM] becomes 0 (R559); the trace buffer may capture it (R685). -/
def breakB (s : State) (qp : PredIdx) : Host.Outcome State Fault Refusal :=
  runBranch s qp (.error ((breakFault 0).ofBranch 0)) s

/-- `nop.b` (R559). -/
def nopB (s : State) (qp : PredIdx) : Host.Outcome State Fault Refusal := runBranch s qp (.ok { s := s.emit .nop }) s

/-- `brp`: no architectural effect (R547). -/
def brpInstr (s : State) : Host.Outcome State Fault Refusal := finish s (.ok { s := s })

/-! ### The instructions -/

/-- `br.cond.bwh.ph.dh target25` (B1, R522). -/
def execBrCondBwhPhDhTarget25 (qp : PredIdx) (imm21 : BitVec 21) (_h : BrHint) (s : State) :
    Host.Outcome State Fault Refusal :=
  brCond s qp (s.target25 imm21) 1 false

/-- `br.wexit.bwh.ph.dh target25` (B1, R543). -/
def execBrWexitBwhPhDhTarget25 (qp : PredIdx) (imm21 : BitVec 21) (_h : BrHint) (s : State) :
    Host.Outcome State Fault Refusal :=
  brWhile s qp true (s.target25 imm21)

/-- `br.wtop.bwh.ph.dh target25` (B1, R543). -/
def execBrWtopBwhPhDhTarget25 (qp : PredIdx) (imm21 : BitVec 21) (_h : BrHint) (s : State) :
    Host.Outcome State Fault Refusal :=
  brWhile s qp false (s.target25 imm21)

/-- `br.cloop.bwh.ph.dh target25` (B2, R541). -/
def execBrCloopBwhPhDhTarget25 (imm21 : BitVec 21) (_h : BrHint) (s : State) : Host.Outcome State Fault Refusal :=
  brCloop s (s.target25 imm21)

/-- `br.cexit.bwh.ph.dh target25` (B2, R542). -/
def execBrCexitBwhPhDhTarget25 (imm21 : BitVec 21) (_h : BrHint) (s : State) : Host.Outcome State Fault Refusal :=
  brCounted s true (s.target25 imm21)

/-- `br.ctop.bwh.ph.dh target25` (B2, R542). -/
def execBrCtopBwhPhDhTarget25 (imm21 : BitVec 21) (_h : BrHint) (s : State) : Host.Outcome State Fault Refusal :=
  brCounted s false (s.target25 imm21)

/-- `br.call.bwh.ph.dh b1=target25` (B3, R523). -/
def execBrCallBwhPhDhB1Target25 (qp : PredIdx) (b1 : BrIdx) (imm21 : BitVec 21) (_h : BrHint) (s : State) :
    Host.Outcome State Fault Refusal :=
  brCall s qp b1 (s.target25 imm21) 1 false

/-- `br.cond.bwh.ph.dh b2` (B4, R522). -/
def execBrCondBwhPhDhB2 (qp : PredIdx) (b2 : BrIdx) (_h : BrHint) (s : State) : Host.Outcome State Fault Refusal :=
  brCond s qp (s.brTarget b2) 3 false

/-- `br.ia.bwh.ph.dh b2` (B4, R525). -/
def execBrIaBwhPhDhB2 (_b2 : BrIdx) (_h : BrHint) (s : State) : Host.Outcome State Fault Refusal :=
  brIa s

/-- `br.ret.bwh.ph.dh b2` (B4, R524). -/
def execBrRetBwhPhDhB2 (qp : PredIdx) (b2 : BrIdx) (_h : BrHint) (s : State) : Host.Outcome State Fault Refusal :=
  brRet s qp b2

/-- `br.call.bwh.ph.dh b1=b2` (B5, R523). -/
def execBrCallBwhPhDhB1B2 (qp : PredIdx) (b1 b2 : BrIdx) (_wh3 : BitVec 3) (_d _p : BitVec 1) (s : State) :
    Host.Outcome State Fault Refusal :=
  brCall s qp b1 (s.brTarget b2) 3 false

/-- `brp.ipwh.ih target25,tag13` (B6, R547). -/
def execBrpIpwhIhTarget25Tag13 (_imm21 : BitVec 21) (_tag13 : BitVec 13) (_ipwh : BitVec 2) (_ih : BitVec 1) (s : State) :
    Host.Outcome State Fault Refusal :=
  brpInstr s

/-- `brp.indwh.ih b2,tag13` (B7, R547). -/
def execBrpIndwhIhB2Tag13 (_b2 : BrIdx) (_tag13 : BitVec 13) (_indwh : BitVec 2) (_ih : BitVec 1) (s : State) :
    Host.Outcome State Fault Refusal :=
  brpInstr s

/-- `cover` (B8, R554). -/
def execCover (s : State) : Host.Outcome State Fault Refusal :=
  coverInstr s

/-- `clrrrb` (B8, R555). -/
def execClrrrb (s : State) : Host.Outcome State Fault Refusal :=
  clrrrbInstr s false

/-- `clrrrb.pr` (B8, R555). -/
def execClrrrbPr (s : State) : Host.Outcome State Fault Refusal :=
  clrrrbInstr s true

/-- `rfi` (B8, R556). -/
def execRfi (s : State) : Host.Outcome State Fault Refusal :=
  rfiInstr s

/-- `bsw.0` (B8, R557). -/
def execBsw0 (s : State) : Host.Outcome State Fault Refusal :=
  bswInstr s false

/-- `bsw.1` (B8, R557). -/
def execBsw1 (s : State) : Host.Outcome State Fault Refusal :=
  bswInstr s true

/-- `epc` (B8, R558). -/
def execEpc (s : State) : Host.Outcome State Fault Refusal :=
  epcInstr s

/-- `break.b imm21` (B9, R559). -/
def execBreakBImm21 (qp : PredIdx) (_imm21 : BitVec 21) (s : State) : Host.Outcome State Fault Refusal :=
  breakB s qp

/-- `nop.b imm21` (B9, R559). -/
def execNopBImm21 (qp : PredIdx) (_imm21 : BitVec 21) (s : State) : Host.Outcome State Fault Refusal :=
  nopB s qp

/-- `brl.cond.bwh.ph.dh target64` (X3, R553). -/
def execBrlCondBwhPhDhTarget64 (qp : PredIdx) (imm60 : BitVec 60) (_h : BrHint) (s : State) :
    Host.Outcome State Fault Refusal :=
  brCond s qp (s.target64 imm60) 1 true

/-- `brl.call.bwh.ph.dh b1=target64` (X4, R553). -/
def execBrlCallBwhPhDhB1Target64 (qp : PredIdx) (b1 : BrIdx) (imm60 : BitVec 60) (_h : BrHint) (s : State) :
    Host.Outcome State Fault Refusal :=
  brCall s qp b1 (s.target64 imm60) 1 true

end Sys2Proof.Machine
end

