-- ==== Sys2Proof/Machine/Check.lean ====
section
/-! DEFINITION. Machine/Check.lean: speculation and advanced-load checks, ALAT invalidation, formats I20, M20 to M24, M26, M27
(`spec/41_i_type.md` R366, `spec/42_m_type_memory.md` R420, R421, `spec/43_m_type_system.md` R440, R441). -/

namespace Sys2Proof.Machine

/-- The hardware resteers a failed check itself (R566). -/
def State.resteers (s : State) : Bool := s.psrIc && s.psrIt && !s.psrSs && !s.psrTb

/-- A failed check: the branch to the recovery code, or the Speculative Operation fault (R566). `t` is the state the branch
leaves; a check that faults is counted too (R742, R747 to R749, R598). R366 says that the source counts failing `chk.s` under no event's
name, where R749 and R598 define INST_FAILED_CHKS_RETIRED for them: that it counts them is a DESIGN CHOICE (log 30). -/
def State.checkFail (s t : State) (e : PmuEvent) (imm21 : BitVec 21) : Except Exc Res :=
  if s.resteers then .ok { s := t.emit e, target := some (s.target25 imm21) }
  else .error (.intr { vec := .speculation, iim := some (zext imm21), events := [e] })

/-- `chk.s` of a general register (R366, R420). -/
def chkS (s : State) (qp : PredIdx) (r2 : GrIdx) (imm21 : BitVec 21) : Host.Outcome State Fault Refusal :=
  run s qp (.ok ())
    ((s.readGr r2).bind fun v => if v.nat then s.checkFail s (.chksFailed false) imm21 else .ok { s := s })

/-- `chk.s` of a floating-point register (R420). -/
def chkSFp (s : State) (qp : PredIdx) (f2 : FrIdx) (imm21 : BitVec 21) : Host.Outcome State Fault Refusal :=
  run s qp (.ok ())
    ((s.fpEnabled [f2]).bind fun _ =>
      if s.fr f2 = FReg.natVal then s.checkFail s (.chksFailed true) imm21 else .ok { s := s })

/-- `chk.a` leaves, for `.clr`, no entry of its register, also none that an advanced load of its group makes (R97, R421). -/
def State.chkACleared (s : State) (reg : AlatReg) (clr : Bool) : State :=
  let t := { s with grpAlatChecks := reg :: s.grpAlatChecks }
  if clr then t.alatInvalidate reg else t

/-- `chk.a` (R421): a hit goes on, a miss goes to the recovery code. -/
def State.chkA (s : State) (reg : AlatReg) (clr : Bool) (imm21 : BitVec 21) : Except Exc Res :=
  let t := s.chkACleared reg clr
  if s.alatHit reg then .ok { s := t.emit (.chkaLdc reg.isFp false none) }
  else s.checkFail t (.chkaLdc reg.isFp true none) imm21

/-- `chk.a` of a general register. -/
def chkAGr (s : State) (qp : PredIdx) (r1 : GrIdx) (clr : Bool) (imm21 : BitVec 21) :
    Host.Outcome State Fault Refusal :=
  run s qp (.ok ()) ((s.readGr r1).bind fun _ => s.chkA (s.alatGr r1) clr imm21)

/-- `chk.a` of a floating-point register. -/
def chkAFr (s : State) (qp : PredIdx) (f1 : FrIdx) (clr : Bool) (imm21 : BitVec 21) :
    Host.Outcome State Fault Refusal :=
  run s qp (.ok ()) ((s.fpEnabled [f1]).bind fun _ => s.chkA (s.alatFr f1) clr imm21)

/-- `invala.e` (R441). -/
def invalaE (s : State) (qp : PredIdx) (ok : Except Exc Unit) (reg : AlatReg) : Host.Outcome State Fault Refusal :=
  run s qp (.ok ()) (ok.bind fun _ => .ok { s := s.alatInvalidate reg })

/-! ### The instructions -/

/-- `chk.s.i r2,target25` (I20, R366). -/
def execChkSIR2Target25 (qp : PredIdx) (r2 : GrIdx) (imm21 : BitVec 21) (s : State) :
    Host.Outcome State Fault Refusal :=
  chkS s qp r2 imm21

/-- `chk.s.m r2,target25` (M20, R420). -/
def execChkSMR2Target25 (qp : PredIdx) (r2 : GrIdx) (imm21 : BitVec 21) (s : State) :
    Host.Outcome State Fault Refusal :=
  chkS s qp r2 imm21

/-- `chk.s f2,target25` (M21, R420). -/
def execChkSF2Target25 (qp : PredIdx) (f2 : FrIdx) (imm21 : BitVec 21) (s : State) :
    Host.Outcome State Fault Refusal :=
  chkSFp s qp f2 imm21

/-- `chk.a.clr r1,target25` (M22, R421). -/
def execChkAClrR1Target25 (qp : PredIdx) (r1 : GrIdx) (imm21 : BitVec 21) (s : State) :
    Host.Outcome State Fault Refusal :=
  chkAGr s qp r1 true imm21

/-- `chk.a.clr f1,target25` (M23, R421). -/
def execChkAClrF1Target25 (qp : PredIdx) (f1 : FrIdx) (imm21 : BitVec 21) (s : State) :
    Host.Outcome State Fault Refusal :=
  chkAFr s qp f1 true imm21

/-- `chk.a.nc r1,target25` (M22, R421). -/
def execChkANcR1Target25 (qp : PredIdx) (r1 : GrIdx) (imm21 : BitVec 21) (s : State) :
    Host.Outcome State Fault Refusal :=
  chkAGr s qp r1 false imm21

/-- `chk.a.nc f1,target25` (M23, R421). -/
def execChkANcF1Target25 (qp : PredIdx) (f1 : FrIdx) (imm21 : BitVec 21) (s : State) :
    Host.Outcome State Fault Refusal :=
  chkAFr s qp f1 false imm21

/-- `invala` (M24, R440). -/
def execInvala (qp : PredIdx) (s : State) : Host.Outcome State Fault Refusal :=
  run s qp (.ok ()) (.ok { s := s.alatInvalidateAll })

/-- `invala.e r1` (M26, R441). -/
def execInvalaER1 (qp : PredIdx) (r1 : GrIdx) (s : State) : Host.Outcome State Fault Refusal :=
  invalaE s qp (require (s.grVisible r1) illegalOp) (s.alatGr r1)

/-- `invala.e f1` (M27, R441). -/
def execInvalaEF1 (qp : PredIdx) (f1 : FrIdx) (s : State) : Host.Outcome State Fault Refusal :=
  invalaE s qp (.ok ()) (s.alatFr f1)

end Sys2Proof.Machine
end

