-- ==== Sys2Proof/Machine/Flags.lean ====
section
/-! DEFINITION. Machine/Flags.lean: compare relations and compare types with their predicate writes
(`spec/40_a_type.md` R325 to R327, `spec/41_i_type.md` R352, R353), and the fields of AR[FPSR]
(`spec/10_state.md` R31, `spec/44_f_type.md` R503, R511, R513). -/

namespace Sys2Proof.Machine

/-! ### Compares -/

/-- The relations the compare encodings hold (R325 to R327). -/
inductive CmpRel where
  | eq | ne | lt | ltu | gt | le | ge
  deriving DecidableEq, Repr

/-- `rel(a, b)`; `lt`, `gt`, `le`, `ge` are signed, `ltu` is unsigned (R325, R326). -/
def CmpRel.holds (r : CmpRel) (a b : BitVec w) : Bool :=
  match r with
  | .eq => a == b
  | .ne => a != b
  | .lt => a.slt b
  | .ltu => a.ult b
  | .gt => b.slt a
  | .le => a.sle b
  | .ge => b.sle a

/-- Compare types (R325). -/
inductive CmpType where
  | norm | unc | pand | por | orAndcm
  deriving DecidableEq, Repr

/-- The predicate writes of a compare whose qualifying predicate is 1 (R325); `c` is `cmp` for an integer one, whose results branches
of the group read, else `alu`. The two writes of `or.andcm` count as an `or`-type and an `and`-type write of the group (log 6). -/
def State.cmpWrite (s : State) (c : PrClass) (ct : CmpType) (p1 p2 : PredIdx) (nat rel : Bool) : State :=
  match ct with
  | .norm | .unc => s.setPr2 p1 (!nat && rel) c p2 (!nat && !rel) c
  | .pand => if nat || !rel then s.setPr2 p1 false .pand p2 false .pand else s
  | .por => if !nat && rel then s.setPr2 p1 true .por p2 true .por else s
  | .orAndcm => if !nat && rel then s.setPr2 p1 true .por p2 false .pand else s

/-- `p1` = `p2` is an Illegal Operation: for `unc` whether or not the predicate holds (R325), for the other types when it does
(R241; log 46). -/
def cmpTargetsOk (ct : CmpType) (qp : Bool) (p1 p2 : PredIdx) : Bool :=
  match ct with
  | .unc => p1 != p2
  | .norm | .pand | .por | .orAndcm => !qp || p1 != p2

/-- What a compare leaves when its qualifying predicate is 0: `unc` clears both targets (R325). -/
def State.cmpSquash (s : State) (c : PrClass) (ct : CmpType) (p1 p2 : PredIdx) : State :=
  match ct with
  | .unc => s.setPr2 p1 false c p2 false c
  | .norm | .pand | .por | .orAndcm => s

/-- A compare: `body` gives the state with the instruction's other effects, the NaT condition and the relation. -/
def compare (s : State) (c : PrClass) (qp : PredIdx) (ct : CmpType) (p1 p2 : PredIdx) (body : Except Exc (State × Bool × Bool)) :
    Host.Outcome State Fault Refusal :=
  finish s
    ((require (cmpTargetsOk ct (s.pred qp) p1 p2) illegalOp).bind fun _ =>
      if s.pred qp then body.map fun b => { s := b.1.cmpWrite c ct p1 p2 b.2.1 b.2.2 }
      else .ok { s := (s.cmpSquash c ct p1 p2).emit .squashed })

/-- `cmp`, `cmp4` of two registers on the low `w` bits (R325). -/
def cmpRegs (w : Nat) (s : State) (qp : PredIdx) (rel : CmpRel) (ct : CmpType) (p1 p2 : PredIdx) (r2 r3 : GrIdx) :
    Host.Outcome State Fault Refusal :=
  compare s .cmp qp ct p1 p2
    ((s.readGr r2).bind fun a => (s.readGr r3).map fun b =>
      (s, a.nat || b.nat, rel.holds (a.val.setWidth w) (b.val.setWidth w)))

/-- `cmp`, `cmp4` of an 8-bit sign-extended immediate and a register (R327). -/
def cmpImm (w : Nat) (s : State) (qp : PredIdx) (rel : CmpRel) (ct : CmpType) (p1 p2 : PredIdx) (imm8 : BitVec 8)
    (r3 : GrIdx) : Host.Outcome State Fault Refusal :=
  compare s .cmp qp ct p1 p2
    ((s.readGr r3).map fun b => (s, b.nat, rel.holds (imm8.signExtend w) (b.val.setWidth w)))

/-- `cmp`, `cmp4` of zero and a register (R326). -/
def cmpZero (w : Nat) (s : State) (qp : PredIdx) (rel : CmpRel) (ct : CmpType) (p1 p2 : PredIdx) (r3 : GrIdx) :
    Host.Outcome State Fault Refusal :=
  compare s .cmp qp ct p1 p2
    ((s.readGr r3).map fun b => (s, b.nat, rel.holds (0#w) (b.val.setWidth w)))

/-- `tbit`: bit `pos6` of a register; `nz` for `.nz` (R352). -/
def testBit (s : State) (qp : PredIdx) (nz : Bool) (ct : CmpType) (p1 p2 : PredIdx) (r3 : GrIdx) (pos6 : BitVec 6) :
    Host.Outcome State Fault Refusal :=
  compare s .cmp qp ct p1 p2
    ((s.readGr r3).map fun b => (s, b.nat, b.val.getLsbD pos6.toNat == nz))

/-- `tnat`: the NaT bit itself is the operand (R353). -/
def testNat (s : State) (qp : PredIdx) (nz : Bool) (ct : CmpType) (p1 p2 : PredIdx) (r3 : GrIdx) :
    Host.Outcome State Fault Refusal :=
  compare s .cmp qp ct p1 p2 ((s.readGr r3).map fun b => (s, false, b.nat == nz))

/-! ### The fields of AR[FPSR] (R31) -/

/-- The position of status field `sf` (R31). -/
def sfBase (sf : BitVec 2) : Nat := 6 + 13 * sf.toNat

/-- The controls of a status field: `ftz`, `wre`, `pc` (3:2), `rc` (5:4), `td` (R31). -/
def fpsrControls (f : Word) (sf : BitVec 2) : BitVec 7 := f.extractLsb' (sfBase sf) 7

/-- The flags v, d, z, o, u, i of a status field (R31). -/
def fpsrFlags (f : Word) (sf : BitVec 2) : BitVec 6 := f.extractLsb' (sfBase sf + 7) 6

/-- The enabled traps: `traps` bit 0 and `sf.td` = 0 (R503). -/
def fpsrEnabled (f : Word) (sf : BitVec 2) : BitVec 6 :=
  if (fpsrControls f sf).getLsbD 6 then 0 else ~~~ (f.extractLsb' 0 6)

/-- The flags of a status field as a part of AR[FPSR]. -/
def flagsPart (sf : BitVec 2) : WrittenReg := .part 40 (4 + sf.toNat)

/-- The controls of a status field as a part of AR[FPSR]. -/
def controlsPart (sf : BitVec 2) : WrittenReg := .part 40 sf.toNat

/-- Write a part of AR[FPSR]: `v` to the bits from `b` upward, with the write-after-write rule of R911 (b). -/
def State.setFpsrPart (s : State) (r : WrittenReg) (k : WriteKind) (b : Nat) (v : BitVec w) : State :=
  let v' := if s.wawFree r k then (s.free (3400 + b)).setWidth w else v
  { s with cur := { s.cur with fpsr := putField s.cur.fpsr b v' }, grpWrites := (r, k) :: s.grpWrites }

/-- Set flags of a status field: they are sticky (R503). -/
def State.raiseFlags (s : State) (sf : BitVec 2) (fl : BitVec 6) : State :=
  if fl = 0 then s else s.setFpsrPart (flagsPart sf) .sticky (sfBase sf + 7) (fpsrFlags s.cur.fpsr sf ||| fl)

/-- `fchkf` fails: a flag of the field whose trap is enabled, or one that `sf0` does not have (R511). -/
def fchkfFails (f : Word) (sf : BitVec 2) : Bool :=
  (fpsrFlags f sf &&& ~~~ (f.extractLsb' 0 6)) != 0 || (fpsrFlags f sf &&& ~~~ (fpsrFlags f 0)) != 0

/-- The controls `fsetc` writes: `(sf0.controls AND amask7) OR omask7` (R513). -/
def fsetcControls (f : Word) (amask7 omask7 : BitVec 7) : BitVec 7 := (fpsrControls f 0 &&& amask7) ||| omask7

/-- `fsetc` is refused: `pc` = 01, or `td` set in `sf0` (R513). -/
def fsetcReserved (sf : BitVec 2) (c : BitVec 7) : Bool := c.extractLsb' 2 2 == 1 || (sf == 0 && c.getLsbD 6)

end Sys2Proof.Machine
end

