-- ==== Sys2Proof/Machine/Compare.lean ====
section
/-! DEFINITION. Machine/Compare.lean: compares and bit tests, formats A6 to A8, I16, I17 (`spec/40_a_type.md` R325 to
R327, `spec/41_i_type.md` R352, R353). -/

namespace Sys2Proof.Machine

/-! ### The instructions -/

/-- `cmp.lt p1,p2=r2,r3` (A6, R325). -/
def execCmpLtP1P2R2R3 (qp p1 p2 : PredIdx) (r2 r3 : GrIdx) (s : State) : Host.Outcome State Fault Refusal :=
  cmpRegs 64 s qp .lt .norm p1 p2 r2 r3

/-- `cmp.lt.unc p1,p2=r2,r3` (A6, R325). -/
def execCmpLtUncP1P2R2R3 (qp p1 p2 : PredIdx) (r2 r3 : GrIdx) (s : State) : Host.Outcome State Fault Refusal :=
  cmpRegs 64 s qp .lt .unc p1 p2 r2 r3

/-- `cmp4.lt p1,p2=r2,r3` (A6, R325). -/
def execCmp4LtP1P2R2R3 (qp p1 p2 : PredIdx) (r2 r3 : GrIdx) (s : State) : Host.Outcome State Fault Refusal :=
  cmpRegs 32 s qp .lt .norm p1 p2 r2 r3

/-- `cmp4.lt.unc p1,p2=r2,r3` (A6, R325). -/
def execCmp4LtUncP1P2R2R3 (qp p1 p2 : PredIdx) (r2 r3 : GrIdx) (s : State) : Host.Outcome State Fault Refusal :=
  cmpRegs 32 s qp .lt .unc p1 p2 r2 r3

/-- `cmp.lt p1,p2=imm8,r3` (A8, R327). -/
def execCmpLtP1P2Imm8R3 (qp p1 p2 : PredIdx) (imm8 : BitVec 8) (r3 : GrIdx) (s : State) :
    Host.Outcome State Fault Refusal :=
  cmpImm 64 s qp .lt .norm p1 p2 imm8 r3

/-- `cmp.lt.unc p1,p2=imm8,r3` (A8, R327). -/
def execCmpLtUncP1P2Imm8R3 (qp p1 p2 : PredIdx) (imm8 : BitVec 8) (r3 : GrIdx) (s : State) :
    Host.Outcome State Fault Refusal :=
  cmpImm 64 s qp .lt .unc p1 p2 imm8 r3

/-- `cmp4.lt p1,p2=imm8,r3` (A8, R327). -/
def execCmp4LtP1P2Imm8R3 (qp p1 p2 : PredIdx) (imm8 : BitVec 8) (r3 : GrIdx) (s : State) :
    Host.Outcome State Fault Refusal :=
  cmpImm 32 s qp .lt .norm p1 p2 imm8 r3

/-- `cmp4.lt.unc p1,p2=imm8,r3` (A8, R327). -/
def execCmp4LtUncP1P2Imm8R3 (qp p1 p2 : PredIdx) (imm8 : BitVec 8) (r3 : GrIdx) (s : State) :
    Host.Outcome State Fault Refusal :=
  cmpImm 32 s qp .lt .unc p1 p2 imm8 r3

/-- `cmp.ltu p1,p2=r2,r3` (A6, R325). -/
def execCmpLtuP1P2R2R3 (qp p1 p2 : PredIdx) (r2 r3 : GrIdx) (s : State) : Host.Outcome State Fault Refusal :=
  cmpRegs 64 s qp .ltu .norm p1 p2 r2 r3

/-- `cmp.ltu.unc p1,p2=r2,r3` (A6, R325). -/
def execCmpLtuUncP1P2R2R3 (qp p1 p2 : PredIdx) (r2 r3 : GrIdx) (s : State) : Host.Outcome State Fault Refusal :=
  cmpRegs 64 s qp .ltu .unc p1 p2 r2 r3

/-- `cmp4.ltu p1,p2=r2,r3` (A6, R325). -/
def execCmp4LtuP1P2R2R3 (qp p1 p2 : PredIdx) (r2 r3 : GrIdx) (s : State) : Host.Outcome State Fault Refusal :=
  cmpRegs 32 s qp .ltu .norm p1 p2 r2 r3

/-- `cmp4.ltu.unc p1,p2=r2,r3` (A6, R325). -/
def execCmp4LtuUncP1P2R2R3 (qp p1 p2 : PredIdx) (r2 r3 : GrIdx) (s : State) : Host.Outcome State Fault Refusal :=
  cmpRegs 32 s qp .ltu .unc p1 p2 r2 r3

/-- `cmp.ltu p1,p2=imm8,r3` (A8, R327). -/
def execCmpLtuP1P2Imm8R3 (qp p1 p2 : PredIdx) (imm8 : BitVec 8) (r3 : GrIdx) (s : State) :
    Host.Outcome State Fault Refusal :=
  cmpImm 64 s qp .ltu .norm p1 p2 imm8 r3

/-- `cmp.ltu.unc p1,p2=imm8,r3` (A8, R327). -/
def execCmpLtuUncP1P2Imm8R3 (qp p1 p2 : PredIdx) (imm8 : BitVec 8) (r3 : GrIdx) (s : State) :
    Host.Outcome State Fault Refusal :=
  cmpImm 64 s qp .ltu .unc p1 p2 imm8 r3

/-- `cmp4.ltu p1,p2=imm8,r3` (A8, R327). -/
def execCmp4LtuP1P2Imm8R3 (qp p1 p2 : PredIdx) (imm8 : BitVec 8) (r3 : GrIdx) (s : State) :
    Host.Outcome State Fault Refusal :=
  cmpImm 32 s qp .ltu .norm p1 p2 imm8 r3

/-- `cmp4.ltu.unc p1,p2=imm8,r3` (A8, R327). -/
def execCmp4LtuUncP1P2Imm8R3 (qp p1 p2 : PredIdx) (imm8 : BitVec 8) (r3 : GrIdx) (s : State) :
    Host.Outcome State Fault Refusal :=
  cmpImm 32 s qp .ltu .unc p1 p2 imm8 r3

/-- `cmp.eq p1,p2=r2,r3` (A6, R325). -/
def execCmpEqP1P2R2R3 (qp p1 p2 : PredIdx) (r2 r3 : GrIdx) (s : State) : Host.Outcome State Fault Refusal :=
  cmpRegs 64 s qp .eq .norm p1 p2 r2 r3

/-- `cmp.eq.unc p1,p2=r2,r3` (A6, R325). -/
def execCmpEqUncP1P2R2R3 (qp p1 p2 : PredIdx) (r2 r3 : GrIdx) (s : State) : Host.Outcome State Fault Refusal :=
  cmpRegs 64 s qp .eq .unc p1 p2 r2 r3

/-- `cmp4.eq p1,p2=r2,r3` (A6, R325). -/
def execCmp4EqP1P2R2R3 (qp p1 p2 : PredIdx) (r2 r3 : GrIdx) (s : State) : Host.Outcome State Fault Refusal :=
  cmpRegs 32 s qp .eq .norm p1 p2 r2 r3

/-- `cmp4.eq.unc p1,p2=r2,r3` (A6, R325). -/
def execCmp4EqUncP1P2R2R3 (qp p1 p2 : PredIdx) (r2 r3 : GrIdx) (s : State) : Host.Outcome State Fault Refusal :=
  cmpRegs 32 s qp .eq .unc p1 p2 r2 r3

/-- `cmp.eq p1,p2=imm8,r3` (A8, R327). -/
def execCmpEqP1P2Imm8R3 (qp p1 p2 : PredIdx) (imm8 : BitVec 8) (r3 : GrIdx) (s : State) :
    Host.Outcome State Fault Refusal :=
  cmpImm 64 s qp .eq .norm p1 p2 imm8 r3

/-- `cmp.eq.unc p1,p2=imm8,r3` (A8, R327). -/
def execCmpEqUncP1P2Imm8R3 (qp p1 p2 : PredIdx) (imm8 : BitVec 8) (r3 : GrIdx) (s : State) :
    Host.Outcome State Fault Refusal :=
  cmpImm 64 s qp .eq .unc p1 p2 imm8 r3

/-- `cmp4.eq p1,p2=imm8,r3` (A8, R327). -/
def execCmp4EqP1P2Imm8R3 (qp p1 p2 : PredIdx) (imm8 : BitVec 8) (r3 : GrIdx) (s : State) :
    Host.Outcome State Fault Refusal :=
  cmpImm 32 s qp .eq .norm p1 p2 imm8 r3

/-- `cmp4.eq.unc p1,p2=imm8,r3` (A8, R327). -/
def execCmp4EqUncP1P2Imm8R3 (qp p1 p2 : PredIdx) (imm8 : BitVec 8) (r3 : GrIdx) (s : State) :
    Host.Outcome State Fault Refusal :=
  cmpImm 32 s qp .eq .unc p1 p2 imm8 r3

/-- `cmp.eq.and p1,p2=r2,r3` (A6, R325). -/
def execCmpEqAndP1P2R2R3 (qp p1 p2 : PredIdx) (r2 r3 : GrIdx) (s : State) : Host.Outcome State Fault Refusal :=
  cmpRegs 64 s qp .eq .pand p1 p2 r2 r3

/-- `cmp.eq.and p1,p2=imm8,r3` (A8, R327). -/
def execCmpEqAndP1P2Imm8R3 (qp p1 p2 : PredIdx) (imm8 : BitVec 8) (r3 : GrIdx) (s : State) :
    Host.Outcome State Fault Refusal :=
  cmpImm 64 s qp .eq .pand p1 p2 imm8 r3

/-- `cmp.ne.and p1,p2=r2,r3` (A6, R325). -/
def execCmpNeAndP1P2R2R3 (qp p1 p2 : PredIdx) (r2 r3 : GrIdx) (s : State) : Host.Outcome State Fault Refusal :=
  cmpRegs 64 s qp .ne .pand p1 p2 r2 r3

/-- `cmp.ne.and p1,p2=imm8,r3` (A8, R327). -/
def execCmpNeAndP1P2Imm8R3 (qp p1 p2 : PredIdx) (imm8 : BitVec 8) (r3 : GrIdx) (s : State) :
    Host.Outcome State Fault Refusal :=
  cmpImm 64 s qp .ne .pand p1 p2 imm8 r3

/-- `cmp.gt.and p1,p2=r0,r3` (A7, R326). -/
def execCmpGtAndP1P2R0R3 (qp p1 p2 : PredIdx) (r3 : GrIdx) (s : State) : Host.Outcome State Fault Refusal :=
  cmpZero 64 s qp .gt .pand p1 p2 r3

/-- `cmp.le.and p1,p2=r0,r3` (A7, R326). -/
def execCmpLeAndP1P2R0R3 (qp p1 p2 : PredIdx) (r3 : GrIdx) (s : State) : Host.Outcome State Fault Refusal :=
  cmpZero 64 s qp .le .pand p1 p2 r3

/-- `cmp.ge.and p1,p2=r0,r3` (A7, R326). -/
def execCmpGeAndP1P2R0R3 (qp p1 p2 : PredIdx) (r3 : GrIdx) (s : State) : Host.Outcome State Fault Refusal :=
  cmpZero 64 s qp .ge .pand p1 p2 r3

/-- `cmp.lt.and p1,p2=r0,r3` (A7, R326). -/
def execCmpLtAndP1P2R0R3 (qp p1 p2 : PredIdx) (r3 : GrIdx) (s : State) : Host.Outcome State Fault Refusal :=
  cmpZero 64 s qp .lt .pand p1 p2 r3

/-- `cmp.eq.or p1,p2=r2,r3` (A6, R325). -/
def execCmpEqOrP1P2R2R3 (qp p1 p2 : PredIdx) (r2 r3 : GrIdx) (s : State) : Host.Outcome State Fault Refusal :=
  cmpRegs 64 s qp .eq .por p1 p2 r2 r3

/-- `cmp.eq.or p1,p2=imm8,r3` (A8, R327). -/
def execCmpEqOrP1P2Imm8R3 (qp p1 p2 : PredIdx) (imm8 : BitVec 8) (r3 : GrIdx) (s : State) :
    Host.Outcome State Fault Refusal :=
  cmpImm 64 s qp .eq .por p1 p2 imm8 r3

/-- `cmp.ne.or p1,p2=r2,r3` (A6, R325). -/
def execCmpNeOrP1P2R2R3 (qp p1 p2 : PredIdx) (r2 r3 : GrIdx) (s : State) : Host.Outcome State Fault Refusal :=
  cmpRegs 64 s qp .ne .por p1 p2 r2 r3

/-- `cmp.ne.or p1,p2=imm8,r3` (A8, R327). -/
def execCmpNeOrP1P2Imm8R3 (qp p1 p2 : PredIdx) (imm8 : BitVec 8) (r3 : GrIdx) (s : State) :
    Host.Outcome State Fault Refusal :=
  cmpImm 64 s qp .ne .por p1 p2 imm8 r3

/-- `cmp.gt.or p1,p2=r0,r3` (A7, R326). -/
def execCmpGtOrP1P2R0R3 (qp p1 p2 : PredIdx) (r3 : GrIdx) (s : State) : Host.Outcome State Fault Refusal :=
  cmpZero 64 s qp .gt .por p1 p2 r3

/-- `cmp.le.or p1,p2=r0,r3` (A7, R326). -/
def execCmpLeOrP1P2R0R3 (qp p1 p2 : PredIdx) (r3 : GrIdx) (s : State) : Host.Outcome State Fault Refusal :=
  cmpZero 64 s qp .le .por p1 p2 r3

/-- `cmp.ge.or p1,p2=r0,r3` (A7, R326). -/
def execCmpGeOrP1P2R0R3 (qp p1 p2 : PredIdx) (r3 : GrIdx) (s : State) : Host.Outcome State Fault Refusal :=
  cmpZero 64 s qp .ge .por p1 p2 r3

/-- `cmp.lt.or p1,p2=r0,r3` (A7, R326). -/
def execCmpLtOrP1P2R0R3 (qp p1 p2 : PredIdx) (r3 : GrIdx) (s : State) : Host.Outcome State Fault Refusal :=
  cmpZero 64 s qp .lt .por p1 p2 r3

/-- `cmp.eq.or.andcm p1,p2=r2,r3` (A6, R325). -/
def execCmpEqOrAndcmP1P2R2R3 (qp p1 p2 : PredIdx) (r2 r3 : GrIdx) (s : State) : Host.Outcome State Fault Refusal :=
  cmpRegs 64 s qp .eq .orAndcm p1 p2 r2 r3

/-- `cmp.eq.or.andcm p1,p2=imm8,r3` (A8, R327). -/
def execCmpEqOrAndcmP1P2Imm8R3 (qp p1 p2 : PredIdx) (imm8 : BitVec 8) (r3 : GrIdx) (s : State) :
    Host.Outcome State Fault Refusal :=
  cmpImm 64 s qp .eq .orAndcm p1 p2 imm8 r3

/-- `cmp.ne.or.andcm p1,p2=r2,r3` (A6, R325). -/
def execCmpNeOrAndcmP1P2R2R3 (qp p1 p2 : PredIdx) (r2 r3 : GrIdx) (s : State) : Host.Outcome State Fault Refusal :=
  cmpRegs 64 s qp .ne .orAndcm p1 p2 r2 r3

/-- `cmp.ne.or.andcm p1,p2=imm8,r3` (A8, R327). -/
def execCmpNeOrAndcmP1P2Imm8R3 (qp p1 p2 : PredIdx) (imm8 : BitVec 8) (r3 : GrIdx) (s : State) :
    Host.Outcome State Fault Refusal :=
  cmpImm 64 s qp .ne .orAndcm p1 p2 imm8 r3

/-- `cmp.gt.or.andcm p1,p2=r0,r3` (A7, R326). -/
def execCmpGtOrAndcmP1P2R0R3 (qp p1 p2 : PredIdx) (r3 : GrIdx) (s : State) : Host.Outcome State Fault Refusal :=
  cmpZero 64 s qp .gt .orAndcm p1 p2 r3

/-- `cmp.le.or.andcm p1,p2=r0,r3` (A7, R326). -/
def execCmpLeOrAndcmP1P2R0R3 (qp p1 p2 : PredIdx) (r3 : GrIdx) (s : State) : Host.Outcome State Fault Refusal :=
  cmpZero 64 s qp .le .orAndcm p1 p2 r3

/-- `cmp.ge.or.andcm p1,p2=r0,r3` (A7, R326). -/
def execCmpGeOrAndcmP1P2R0R3 (qp p1 p2 : PredIdx) (r3 : GrIdx) (s : State) : Host.Outcome State Fault Refusal :=
  cmpZero 64 s qp .ge .orAndcm p1 p2 r3

/-- `cmp.lt.or.andcm p1,p2=r0,r3` (A7, R326). -/
def execCmpLtOrAndcmP1P2R0R3 (qp p1 p2 : PredIdx) (r3 : GrIdx) (s : State) : Host.Outcome State Fault Refusal :=
  cmpZero 64 s qp .lt .orAndcm p1 p2 r3

/-- `cmp4.eq.and p1,p2=r2,r3` (A6, R325). -/
def execCmp4EqAndP1P2R2R3 (qp p1 p2 : PredIdx) (r2 r3 : GrIdx) (s : State) : Host.Outcome State Fault Refusal :=
  cmpRegs 32 s qp .eq .pand p1 p2 r2 r3

/-- `cmp4.eq.and p1,p2=imm8,r3` (A8, R327). -/
def execCmp4EqAndP1P2Imm8R3 (qp p1 p2 : PredIdx) (imm8 : BitVec 8) (r3 : GrIdx) (s : State) :
    Host.Outcome State Fault Refusal :=
  cmpImm 32 s qp .eq .pand p1 p2 imm8 r3

/-- `cmp4.ne.and p1,p2=r2,r3` (A6, R325). -/
def execCmp4NeAndP1P2R2R3 (qp p1 p2 : PredIdx) (r2 r3 : GrIdx) (s : State) : Host.Outcome State Fault Refusal :=
  cmpRegs 32 s qp .ne .pand p1 p2 r2 r3

/-- `cmp4.ne.and p1,p2=imm8,r3` (A8, R327). -/
def execCmp4NeAndP1P2Imm8R3 (qp p1 p2 : PredIdx) (imm8 : BitVec 8) (r3 : GrIdx) (s : State) :
    Host.Outcome State Fault Refusal :=
  cmpImm 32 s qp .ne .pand p1 p2 imm8 r3

/-- `cmp4.gt.and p1,p2=r0,r3` (A7, R326). -/
def execCmp4GtAndP1P2R0R3 (qp p1 p2 : PredIdx) (r3 : GrIdx) (s : State) : Host.Outcome State Fault Refusal :=
  cmpZero 32 s qp .gt .pand p1 p2 r3

/-- `cmp4.le.and p1,p2=r0,r3` (A7, R326). -/
def execCmp4LeAndP1P2R0R3 (qp p1 p2 : PredIdx) (r3 : GrIdx) (s : State) : Host.Outcome State Fault Refusal :=
  cmpZero 32 s qp .le .pand p1 p2 r3

/-- `cmp4.ge.and p1,p2=r0,r3` (A7, R326). -/
def execCmp4GeAndP1P2R0R3 (qp p1 p2 : PredIdx) (r3 : GrIdx) (s : State) : Host.Outcome State Fault Refusal :=
  cmpZero 32 s qp .ge .pand p1 p2 r3

/-- `cmp4.lt.and p1,p2=r0,r3` (A7, R326). -/
def execCmp4LtAndP1P2R0R3 (qp p1 p2 : PredIdx) (r3 : GrIdx) (s : State) : Host.Outcome State Fault Refusal :=
  cmpZero 32 s qp .lt .pand p1 p2 r3

/-- `cmp4.eq.or p1,p2=r2,r3` (A6, R325). -/
def execCmp4EqOrP1P2R2R3 (qp p1 p2 : PredIdx) (r2 r3 : GrIdx) (s : State) : Host.Outcome State Fault Refusal :=
  cmpRegs 32 s qp .eq .por p1 p2 r2 r3

/-- `cmp4.eq.or p1,p2=imm8,r3` (A8, R327). -/
def execCmp4EqOrP1P2Imm8R3 (qp p1 p2 : PredIdx) (imm8 : BitVec 8) (r3 : GrIdx) (s : State) :
    Host.Outcome State Fault Refusal :=
  cmpImm 32 s qp .eq .por p1 p2 imm8 r3

/-- `cmp4.ne.or p1,p2=r2,r3` (A6, R325). -/
def execCmp4NeOrP1P2R2R3 (qp p1 p2 : PredIdx) (r2 r3 : GrIdx) (s : State) : Host.Outcome State Fault Refusal :=
  cmpRegs 32 s qp .ne .por p1 p2 r2 r3

/-- `cmp4.ne.or p1,p2=imm8,r3` (A8, R327). -/
def execCmp4NeOrP1P2Imm8R3 (qp p1 p2 : PredIdx) (imm8 : BitVec 8) (r3 : GrIdx) (s : State) :
    Host.Outcome State Fault Refusal :=
  cmpImm 32 s qp .ne .por p1 p2 imm8 r3

/-- `cmp4.gt.or p1,p2=r0,r3` (A7, R326). -/
def execCmp4GtOrP1P2R0R3 (qp p1 p2 : PredIdx) (r3 : GrIdx) (s : State) : Host.Outcome State Fault Refusal :=
  cmpZero 32 s qp .gt .por p1 p2 r3

/-- `cmp4.le.or p1,p2=r0,r3` (A7, R326). -/
def execCmp4LeOrP1P2R0R3 (qp p1 p2 : PredIdx) (r3 : GrIdx) (s : State) : Host.Outcome State Fault Refusal :=
  cmpZero 32 s qp .le .por p1 p2 r3

/-- `cmp4.ge.or p1,p2=r0,r3` (A7, R326). -/
def execCmp4GeOrP1P2R0R3 (qp p1 p2 : PredIdx) (r3 : GrIdx) (s : State) : Host.Outcome State Fault Refusal :=
  cmpZero 32 s qp .ge .por p1 p2 r3

/-- `cmp4.lt.or p1,p2=r0,r3` (A7, R326). -/
def execCmp4LtOrP1P2R0R3 (qp p1 p2 : PredIdx) (r3 : GrIdx) (s : State) : Host.Outcome State Fault Refusal :=
  cmpZero 32 s qp .lt .por p1 p2 r3

/-- `cmp4.eq.or.andcm p1,p2=r2,r3` (A6, R325). -/
def execCmp4EqOrAndcmP1P2R2R3 (qp p1 p2 : PredIdx) (r2 r3 : GrIdx) (s : State) : Host.Outcome State Fault Refusal :=
  cmpRegs 32 s qp .eq .orAndcm p1 p2 r2 r3

/-- `cmp4.eq.or.andcm p1,p2=imm8,r3` (A8, R327). -/
def execCmp4EqOrAndcmP1P2Imm8R3 (qp p1 p2 : PredIdx) (imm8 : BitVec 8) (r3 : GrIdx) (s : State) :
    Host.Outcome State Fault Refusal :=
  cmpImm 32 s qp .eq .orAndcm p1 p2 imm8 r3

/-- `cmp4.ne.or.andcm p1,p2=r2,r3` (A6, R325). -/
def execCmp4NeOrAndcmP1P2R2R3 (qp p1 p2 : PredIdx) (r2 r3 : GrIdx) (s : State) : Host.Outcome State Fault Refusal :=
  cmpRegs 32 s qp .ne .orAndcm p1 p2 r2 r3

/-- `cmp4.ne.or.andcm p1,p2=imm8,r3` (A8, R327). -/
def execCmp4NeOrAndcmP1P2Imm8R3 (qp p1 p2 : PredIdx) (imm8 : BitVec 8) (r3 : GrIdx) (s : State) :
    Host.Outcome State Fault Refusal :=
  cmpImm 32 s qp .ne .orAndcm p1 p2 imm8 r3

/-- `cmp4.gt.or.andcm p1,p2=r0,r3` (A7, R326). -/
def execCmp4GtOrAndcmP1P2R0R3 (qp p1 p2 : PredIdx) (r3 : GrIdx) (s : State) : Host.Outcome State Fault Refusal :=
  cmpZero 32 s qp .gt .orAndcm p1 p2 r3

/-- `cmp4.le.or.andcm p1,p2=r0,r3` (A7, R326). -/
def execCmp4LeOrAndcmP1P2R0R3 (qp p1 p2 : PredIdx) (r3 : GrIdx) (s : State) : Host.Outcome State Fault Refusal :=
  cmpZero 32 s qp .le .orAndcm p1 p2 r3

/-- `cmp4.ge.or.andcm p1,p2=r0,r3` (A7, R326). -/
def execCmp4GeOrAndcmP1P2R0R3 (qp p1 p2 : PredIdx) (r3 : GrIdx) (s : State) : Host.Outcome State Fault Refusal :=
  cmpZero 32 s qp .ge .orAndcm p1 p2 r3

/-- `cmp4.lt.or.andcm p1,p2=r0,r3` (A7, R326). -/
def execCmp4LtOrAndcmP1P2R0R3 (qp p1 p2 : PredIdx) (r3 : GrIdx) (s : State) : Host.Outcome State Fault Refusal :=
  cmpZero 32 s qp .lt .orAndcm p1 p2 r3

/-- `tbit.z p1,p2=r3,pos6` (I16, R352). -/
def execTbitZP1P2R3Pos6 (qp p1 p2 : PredIdx) (r3 : GrIdx) (pos6 : BitVec 6) (s : State) :
    Host.Outcome State Fault Refusal :=
  testBit s qp false .norm p1 p2 r3 pos6

/-- `tbit.z.unc p1,p2=r3,pos6` (I16, R352). -/
def execTbitZUncP1P2R3Pos6 (qp p1 p2 : PredIdx) (r3 : GrIdx) (pos6 : BitVec 6) (s : State) :
    Host.Outcome State Fault Refusal :=
  testBit s qp false .unc p1 p2 r3 pos6

/-- `tbit.z.and p1,p2=r3,pos6` (I16, R352). -/
def execTbitZAndP1P2R3Pos6 (qp p1 p2 : PredIdx) (r3 : GrIdx) (pos6 : BitVec 6) (s : State) :
    Host.Outcome State Fault Refusal :=
  testBit s qp false .pand p1 p2 r3 pos6

/-- `tbit.nz.and p1,p2=r3,pos6` (I16, R352). -/
def execTbitNzAndP1P2R3Pos6 (qp p1 p2 : PredIdx) (r3 : GrIdx) (pos6 : BitVec 6) (s : State) :
    Host.Outcome State Fault Refusal :=
  testBit s qp true .pand p1 p2 r3 pos6

/-- `tbit.z.or p1,p2=r3,pos6` (I16, R352). -/
def execTbitZOrP1P2R3Pos6 (qp p1 p2 : PredIdx) (r3 : GrIdx) (pos6 : BitVec 6) (s : State) :
    Host.Outcome State Fault Refusal :=
  testBit s qp false .por p1 p2 r3 pos6

/-- `tbit.nz.or p1,p2=r3,pos6` (I16, R352). -/
def execTbitNzOrP1P2R3Pos6 (qp p1 p2 : PredIdx) (r3 : GrIdx) (pos6 : BitVec 6) (s : State) :
    Host.Outcome State Fault Refusal :=
  testBit s qp true .por p1 p2 r3 pos6

/-- `tbit.z.or.andcm p1,p2=r3,pos6` (I16, R352). -/
def execTbitZOrAndcmP1P2R3Pos6 (qp p1 p2 : PredIdx) (r3 : GrIdx) (pos6 : BitVec 6) (s : State) :
    Host.Outcome State Fault Refusal :=
  testBit s qp false .orAndcm p1 p2 r3 pos6

/-- `tbit.nz.or.andcm p1,p2=r3,pos6` (I16, R352). -/
def execTbitNzOrAndcmP1P2R3Pos6 (qp p1 p2 : PredIdx) (r3 : GrIdx) (pos6 : BitVec 6) (s : State) :
    Host.Outcome State Fault Refusal :=
  testBit s qp true .orAndcm p1 p2 r3 pos6

/-- `tnat.z p1,p2=r3` (I17, R353). -/
def execTnatZP1P2R3 (qp p1 p2 : PredIdx) (r3 : GrIdx) (s : State) : Host.Outcome State Fault Refusal :=
  testNat s qp false .norm p1 p2 r3

/-- `tnat.z.unc p1,p2=r3` (I17, R353). -/
def execTnatZUncP1P2R3 (qp p1 p2 : PredIdx) (r3 : GrIdx) (s : State) : Host.Outcome State Fault Refusal :=
  testNat s qp false .unc p1 p2 r3

/-- `tnat.z.and p1,p2=r3` (I17, R353). -/
def execTnatZAndP1P2R3 (qp p1 p2 : PredIdx) (r3 : GrIdx) (s : State) : Host.Outcome State Fault Refusal :=
  testNat s qp false .pand p1 p2 r3

/-- `tnat.nz.and p1,p2=r3` (I17, R353). -/
def execTnatNzAndP1P2R3 (qp p1 p2 : PredIdx) (r3 : GrIdx) (s : State) : Host.Outcome State Fault Refusal :=
  testNat s qp true .pand p1 p2 r3

/-- `tnat.z.or p1,p2=r3` (I17, R353). -/
def execTnatZOrP1P2R3 (qp p1 p2 : PredIdx) (r3 : GrIdx) (s : State) : Host.Outcome State Fault Refusal :=
  testNat s qp false .por p1 p2 r3

/-- `tnat.nz.or p1,p2=r3` (I17, R353). -/
def execTnatNzOrP1P2R3 (qp p1 p2 : PredIdx) (r3 : GrIdx) (s : State) : Host.Outcome State Fault Refusal :=
  testNat s qp true .por p1 p2 r3

/-- `tnat.z.or.andcm p1,p2=r3` (I17, R353). -/
def execTnatZOrAndcmP1P2R3 (qp p1 p2 : PredIdx) (r3 : GrIdx) (s : State) : Host.Outcome State Fault Refusal :=
  testNat s qp false .orAndcm p1 p2 r3

/-- `tnat.nz.or.andcm p1,p2=r3` (I17, R353). -/
def execTnatNzOrAndcmP1P2R3 (qp p1 p2 : PredIdx) (r3 : GrIdx) (s : State) : Host.Outcome State Fault Refusal :=
  testNat s qp true .orAndcm p1 p2 r3

/-- `tbit.nz p1,p2=r3,pos6` (I16, R352). -/
def execTbitNzP1P2R3Pos6 (qp p1 p2 : PredIdx) (r3 : GrIdx) (pos6 : BitVec 6) (s : State) :
    Host.Outcome State Fault Refusal :=
  testBit s qp true .norm p1 p2 r3 pos6

/-- `tbit.nz.unc p1,p2=r3,pos6` (I16, R352). -/
def execTbitNzUncP1P2R3Pos6 (qp p1 p2 : PredIdx) (r3 : GrIdx) (pos6 : BitVec 6) (s : State) :
    Host.Outcome State Fault Refusal :=
  testBit s qp true .unc p1 p2 r3 pos6

/-- `tnat.nz p1,p2=r3` (I17, R353). -/
def execTnatNzP1P2R3 (qp p1 p2 : PredIdx) (r3 : GrIdx) (s : State) : Host.Outcome State Fault Refusal :=
  testNat s qp true .norm p1 p2 r3

/-- `tnat.nz.unc p1,p2=r3` (I17, R353). -/
def execTnatNzUncP1P2R3 (qp p1 p2 : PredIdx) (r3 : GrIdx) (s : State) : Host.Outcome State Fault Refusal :=
  testNat s qp true .unc p1 p2 r3

end Sys2Proof.Machine
end

