-- ==== Sys2Proof/WellFormed.lean ====
section
/-! DEFINITION. WellFormed.lean: the operand values the assembler forms admit and the encoded fields would also let
through (`spec/30_encoding.md` R237 to R240, `spec/20_memory.md` R111). What an instruction does with an operand that
the machine itself checks (a target register, a frame size) is a fault of its meaning, not a check here. -/

namespace Sys2Proof

/-- A locality hint of a load or a semaphore: none, `.nt1` or `.nta`; `.nt2` is for `lfetch` only (R111, R237). -/
def loadHintOk (hint : BitVec 2) : Bool := hint != 2

/-- A locality hint of a store: none or `.nta` (R111, R237). -/
def storeHintOk (hint : BitVec 2) : Bool := hint == 0 || hint == 3

/-- The operands are ones the encoding tables admit. -/
def Instr.wf : Instr → Bool
  | .pshladd2R1R2Count2R3 _ _ _ count2 _ => count2 != 0
  | .pshradd2R1R2Count2R3 _ _ _ count2 _ => count2 != 0
  | .movB1R2 _ _ _ _ _ wh => wh != 3
  | .movRetB1R2 _ _ _ _ _ wh => wh != 3
  | .ld1R1R3 _ _ _ hint => loadHintOk hint
  | .ld1R1R3R2 _ _ _ _ hint => loadHintOk hint
  | .ld1R1R3Imm9 _ _ _ _ hint => loadHintOk hint
  | .ld2R1R3 _ _ _ hint => loadHintOk hint
  | .ld2R1R3R2 _ _ _ _ hint => loadHintOk hint
  | .ld2R1R3Imm9 _ _ _ _ hint => loadHintOk hint
  | .ld4R1R3 _ _ _ hint => loadHintOk hint
  | .ld4R1R3R2 _ _ _ _ hint => loadHintOk hint
  | .ld4R1R3Imm9 _ _ _ _ hint => loadHintOk hint
  | .ld8R1R3 _ _ _ hint => loadHintOk hint
  | .ld8R1R3R2 _ _ _ _ hint => loadHintOk hint
  | .ld8R1R3Imm9 _ _ _ _ hint => loadHintOk hint
  | .ld1SR1R3 _ _ _ hint => loadHintOk hint
  | .ld1SR1R3R2 _ _ _ _ hint => loadHintOk hint
  | .ld1SR1R3Imm9 _ _ _ _ hint => loadHintOk hint
  | .ld2SR1R3 _ _ _ hint => loadHintOk hint
  | .ld2SR1R3R2 _ _ _ _ hint => loadHintOk hint
  | .ld2SR1R3Imm9 _ _ _ _ hint => loadHintOk hint
  | .ld4SR1R3 _ _ _ hint => loadHintOk hint
  | .ld4SR1R3R2 _ _ _ _ hint => loadHintOk hint
  | .ld4SR1R3Imm9 _ _ _ _ hint => loadHintOk hint
  | .ld8SR1R3 _ _ _ hint => loadHintOk hint
  | .ld8SR1R3R2 _ _ _ _ hint => loadHintOk hint
  | .ld8SR1R3Imm9 _ _ _ _ hint => loadHintOk hint
  | .ld1AR1R3 _ _ _ hint => loadHintOk hint
  | .ld1AR1R3R2 _ _ _ _ hint => loadHintOk hint
  | .ld1AR1R3Imm9 _ _ _ _ hint => loadHintOk hint
  | .ld2AR1R3 _ _ _ hint => loadHintOk hint
  | .ld2AR1R3R2 _ _ _ _ hint => loadHintOk hint
  | .ld2AR1R3Imm9 _ _ _ _ hint => loadHintOk hint
  | .ld4AR1R3 _ _ _ hint => loadHintOk hint
  | .ld4AR1R3R2 _ _ _ _ hint => loadHintOk hint
  | .ld4AR1R3Imm9 _ _ _ _ hint => loadHintOk hint
  | .ld8AR1R3 _ _ _ hint => loadHintOk hint
  | .ld8AR1R3R2 _ _ _ _ hint => loadHintOk hint
  | .ld8AR1R3Imm9 _ _ _ _ hint => loadHintOk hint
  | .ld1SaR1R3 _ _ _ hint => loadHintOk hint
  | .ld1SaR1R3R2 _ _ _ _ hint => loadHintOk hint
  | .ld1SaR1R3Imm9 _ _ _ _ hint => loadHintOk hint
  | .ld2SaR1R3 _ _ _ hint => loadHintOk hint
  | .ld2SaR1R3R2 _ _ _ _ hint => loadHintOk hint
  | .ld2SaR1R3Imm9 _ _ _ _ hint => loadHintOk hint
  | .ld4SaR1R3 _ _ _ hint => loadHintOk hint
  | .ld4SaR1R3R2 _ _ _ _ hint => loadHintOk hint
  | .ld4SaR1R3Imm9 _ _ _ _ hint => loadHintOk hint
  | .ld8SaR1R3 _ _ _ hint => loadHintOk hint
  | .ld8SaR1R3R2 _ _ _ _ hint => loadHintOk hint
  | .ld8SaR1R3Imm9 _ _ _ _ hint => loadHintOk hint
  | .ld1BiasR1R3 _ _ _ hint => loadHintOk hint
  | .ld1BiasR1R3R2 _ _ _ _ hint => loadHintOk hint
  | .ld1BiasR1R3Imm9 _ _ _ _ hint => loadHintOk hint
  | .ld2BiasR1R3 _ _ _ hint => loadHintOk hint
  | .ld2BiasR1R3R2 _ _ _ _ hint => loadHintOk hint
  | .ld2BiasR1R3Imm9 _ _ _ _ hint => loadHintOk hint
  | .ld4BiasR1R3 _ _ _ hint => loadHintOk hint
  | .ld4BiasR1R3R2 _ _ _ _ hint => loadHintOk hint
  | .ld4BiasR1R3Imm9 _ _ _ _ hint => loadHintOk hint
  | .ld8BiasR1R3 _ _ _ hint => loadHintOk hint
  | .ld8BiasR1R3R2 _ _ _ _ hint => loadHintOk hint
  | .ld8BiasR1R3Imm9 _ _ _ _ hint => loadHintOk hint
  | .ld1AcqR1R3 _ _ _ hint => loadHintOk hint
  | .ld1AcqR1R3R2 _ _ _ _ hint => loadHintOk hint
  | .ld1AcqR1R3Imm9 _ _ _ _ hint => loadHintOk hint
  | .ld2AcqR1R3 _ _ _ hint => loadHintOk hint
  | .ld2AcqR1R3R2 _ _ _ _ hint => loadHintOk hint
  | .ld2AcqR1R3Imm9 _ _ _ _ hint => loadHintOk hint
  | .ld4AcqR1R3 _ _ _ hint => loadHintOk hint
  | .ld4AcqR1R3R2 _ _ _ _ hint => loadHintOk hint
  | .ld4AcqR1R3Imm9 _ _ _ _ hint => loadHintOk hint
  | .ld8AcqR1R3 _ _ _ hint => loadHintOk hint
  | .ld8AcqR1R3R2 _ _ _ _ hint => loadHintOk hint
  | .ld8AcqR1R3Imm9 _ _ _ _ hint => loadHintOk hint
  | .ld1CClrR1R3 _ _ _ hint => loadHintOk hint
  | .ld1CClrR1R3R2 _ _ _ _ hint => loadHintOk hint
  | .ld1CClrR1R3Imm9 _ _ _ _ hint => loadHintOk hint
  | .ld2CClrR1R3 _ _ _ hint => loadHintOk hint
  | .ld2CClrR1R3R2 _ _ _ _ hint => loadHintOk hint
  | .ld2CClrR1R3Imm9 _ _ _ _ hint => loadHintOk hint
  | .ld4CClrR1R3 _ _ _ hint => loadHintOk hint
  | .ld4CClrR1R3R2 _ _ _ _ hint => loadHintOk hint
  | .ld4CClrR1R3Imm9 _ _ _ _ hint => loadHintOk hint
  | .ld8CClrR1R3 _ _ _ hint => loadHintOk hint
  | .ld8CClrR1R3R2 _ _ _ _ hint => loadHintOk hint
  | .ld8CClrR1R3Imm9 _ _ _ _ hint => loadHintOk hint
  | .ld1CNcR1R3 _ _ _ hint => loadHintOk hint
  | .ld1CNcR1R3R2 _ _ _ _ hint => loadHintOk hint
  | .ld1CNcR1R3Imm9 _ _ _ _ hint => loadHintOk hint
  | .ld2CNcR1R3 _ _ _ hint => loadHintOk hint
  | .ld2CNcR1R3R2 _ _ _ _ hint => loadHintOk hint
  | .ld2CNcR1R3Imm9 _ _ _ _ hint => loadHintOk hint
  | .ld4CNcR1R3 _ _ _ hint => loadHintOk hint
  | .ld4CNcR1R3R2 _ _ _ _ hint => loadHintOk hint
  | .ld4CNcR1R3Imm9 _ _ _ _ hint => loadHintOk hint
  | .ld8CNcR1R3 _ _ _ hint => loadHintOk hint
  | .ld8CNcR1R3R2 _ _ _ _ hint => loadHintOk hint
  | .ld8CNcR1R3Imm9 _ _ _ _ hint => loadHintOk hint
  | .ld1CClrAcqR1R3 _ _ _ hint => loadHintOk hint
  | .ld1CClrAcqR1R3R2 _ _ _ _ hint => loadHintOk hint
  | .ld1CClrAcqR1R3Imm9 _ _ _ _ hint => loadHintOk hint
  | .ld2CClrAcqR1R3 _ _ _ hint => loadHintOk hint
  | .ld2CClrAcqR1R3R2 _ _ _ _ hint => loadHintOk hint
  | .ld2CClrAcqR1R3Imm9 _ _ _ _ hint => loadHintOk hint
  | .ld4CClrAcqR1R3 _ _ _ hint => loadHintOk hint
  | .ld4CClrAcqR1R3R2 _ _ _ _ hint => loadHintOk hint
  | .ld4CClrAcqR1R3Imm9 _ _ _ _ hint => loadHintOk hint
  | .ld8CClrAcqR1R3 _ _ _ hint => loadHintOk hint
  | .ld8CClrAcqR1R3R2 _ _ _ _ hint => loadHintOk hint
  | .ld8CClrAcqR1R3Imm9 _ _ _ _ hint => loadHintOk hint
  | .ld8FillR1R3 _ _ _ hint => loadHintOk hint
  | .ld8FillR1R3R2 _ _ _ _ hint => loadHintOk hint
  | .ld8FillR1R3Imm9 _ _ _ _ hint => loadHintOk hint
  | .st1R3R2 _ _ _ hint => storeHintOk hint
  | .st1R3R2Imm9 _ _ _ _ hint => storeHintOk hint
  | .st2R3R2 _ _ _ hint => storeHintOk hint
  | .st2R3R2Imm9 _ _ _ _ hint => storeHintOk hint
  | .st4R3R2 _ _ _ hint => storeHintOk hint
  | .st4R3R2Imm9 _ _ _ _ hint => storeHintOk hint
  | .st8R3R2 _ _ _ hint => storeHintOk hint
  | .st8R3R2Imm9 _ _ _ _ hint => storeHintOk hint
  | .st1RelR3R2 _ _ _ hint => storeHintOk hint
  | .st1RelR3R2Imm9 _ _ _ _ hint => storeHintOk hint
  | .st2RelR3R2 _ _ _ hint => storeHintOk hint
  | .st2RelR3R2Imm9 _ _ _ _ hint => storeHintOk hint
  | .st4RelR3R2 _ _ _ hint => storeHintOk hint
  | .st4RelR3R2Imm9 _ _ _ _ hint => storeHintOk hint
  | .st8RelR3R2 _ _ _ hint => storeHintOk hint
  | .st8RelR3R2Imm9 _ _ _ _ hint => storeHintOk hint
  | .st8SpillR3R2 _ _ _ hint => storeHintOk hint
  | .st8SpillR3R2Imm9 _ _ _ _ hint => storeHintOk hint
  | .ldfeF1R3 _ _ _ hint => loadHintOk hint
  | .ldfeF1R3R2 _ _ _ _ hint => loadHintOk hint
  | .ldfeF1R3Imm9 _ _ _ _ hint => loadHintOk hint
  | .ldf8F1R3 _ _ _ hint => loadHintOk hint
  | .ldf8F1R3R2 _ _ _ _ hint => loadHintOk hint
  | .ldf8F1R3Imm9 _ _ _ _ hint => loadHintOk hint
  | .ldfsF1R3 _ _ _ hint => loadHintOk hint
  | .ldfsF1R3R2 _ _ _ _ hint => loadHintOk hint
  | .ldfsF1R3Imm9 _ _ _ _ hint => loadHintOk hint
  | .ldfdF1R3 _ _ _ hint => loadHintOk hint
  | .ldfdF1R3R2 _ _ _ _ hint => loadHintOk hint
  | .ldfdF1R3Imm9 _ _ _ _ hint => loadHintOk hint
  | .ldfeSF1R3 _ _ _ hint => loadHintOk hint
  | .ldfeSF1R3R2 _ _ _ _ hint => loadHintOk hint
  | .ldfeSF1R3Imm9 _ _ _ _ hint => loadHintOk hint
  | .ldf8SF1R3 _ _ _ hint => loadHintOk hint
  | .ldf8SF1R3R2 _ _ _ _ hint => loadHintOk hint
  | .ldf8SF1R3Imm9 _ _ _ _ hint => loadHintOk hint
  | .ldfsSF1R3 _ _ _ hint => loadHintOk hint
  | .ldfsSF1R3R2 _ _ _ _ hint => loadHintOk hint
  | .ldfsSF1R3Imm9 _ _ _ _ hint => loadHintOk hint
  | .ldfdSF1R3 _ _ _ hint => loadHintOk hint
  | .ldfdSF1R3R2 _ _ _ _ hint => loadHintOk hint
  | .ldfdSF1R3Imm9 _ _ _ _ hint => loadHintOk hint
  | .ldfeAF1R3 _ _ _ hint => loadHintOk hint
  | .ldfeAF1R3R2 _ _ _ _ hint => loadHintOk hint
  | .ldfeAF1R3Imm9 _ _ _ _ hint => loadHintOk hint
  | .ldf8AF1R3 _ _ _ hint => loadHintOk hint
  | .ldf8AF1R3R2 _ _ _ _ hint => loadHintOk hint
  | .ldf8AF1R3Imm9 _ _ _ _ hint => loadHintOk hint
  | .ldfsAF1R3 _ _ _ hint => loadHintOk hint
  | .ldfsAF1R3R2 _ _ _ _ hint => loadHintOk hint
  | .ldfsAF1R3Imm9 _ _ _ _ hint => loadHintOk hint
  | .ldfdAF1R3 _ _ _ hint => loadHintOk hint
  | .ldfdAF1R3R2 _ _ _ _ hint => loadHintOk hint
  | .ldfdAF1R3Imm9 _ _ _ _ hint => loadHintOk hint
  | .ldfeSaF1R3 _ _ _ hint => loadHintOk hint
  | .ldfeSaF1R3R2 _ _ _ _ hint => loadHintOk hint
  | .ldfeSaF1R3Imm9 _ _ _ _ hint => loadHintOk hint
  | .ldf8SaF1R3 _ _ _ hint => loadHintOk hint
  | .ldf8SaF1R3R2 _ _ _ _ hint => loadHintOk hint
  | .ldf8SaF1R3Imm9 _ _ _ _ hint => loadHintOk hint
  | .ldfsSaF1R3 _ _ _ hint => loadHintOk hint
  | .ldfsSaF1R3R2 _ _ _ _ hint => loadHintOk hint
  | .ldfsSaF1R3Imm9 _ _ _ _ hint => loadHintOk hint
  | .ldfdSaF1R3 _ _ _ hint => loadHintOk hint
  | .ldfdSaF1R3R2 _ _ _ _ hint => loadHintOk hint
  | .ldfdSaF1R3Imm9 _ _ _ _ hint => loadHintOk hint
  | .ldfeCClrF1R3 _ _ _ hint => loadHintOk hint
  | .ldfeCClrF1R3R2 _ _ _ _ hint => loadHintOk hint
  | .ldfeCClrF1R3Imm9 _ _ _ _ hint => loadHintOk hint
  | .ldf8CClrF1R3 _ _ _ hint => loadHintOk hint
  | .ldf8CClrF1R3R2 _ _ _ _ hint => loadHintOk hint
  | .ldf8CClrF1R3Imm9 _ _ _ _ hint => loadHintOk hint
  | .ldfsCClrF1R3 _ _ _ hint => loadHintOk hint
  | .ldfsCClrF1R3R2 _ _ _ _ hint => loadHintOk hint
  | .ldfsCClrF1R3Imm9 _ _ _ _ hint => loadHintOk hint
  | .ldfdCClrF1R3 _ _ _ hint => loadHintOk hint
  | .ldfdCClrF1R3R2 _ _ _ _ hint => loadHintOk hint
  | .ldfdCClrF1R3Imm9 _ _ _ _ hint => loadHintOk hint
  | .ldfeCNcF1R3 _ _ _ hint => loadHintOk hint
  | .ldfeCNcF1R3R2 _ _ _ _ hint => loadHintOk hint
  | .ldfeCNcF1R3Imm9 _ _ _ _ hint => loadHintOk hint
  | .ldf8CNcF1R3 _ _ _ hint => loadHintOk hint
  | .ldf8CNcF1R3R2 _ _ _ _ hint => loadHintOk hint
  | .ldf8CNcF1R3Imm9 _ _ _ _ hint => loadHintOk hint
  | .ldfsCNcF1R3 _ _ _ hint => loadHintOk hint
  | .ldfsCNcF1R3R2 _ _ _ _ hint => loadHintOk hint
  | .ldfsCNcF1R3Imm9 _ _ _ _ hint => loadHintOk hint
  | .ldfdCNcF1R3 _ _ _ hint => loadHintOk hint
  | .ldfdCNcF1R3R2 _ _ _ _ hint => loadHintOk hint
  | .ldfdCNcF1R3Imm9 _ _ _ _ hint => loadHintOk hint
  | .ldfFillF1R3 _ _ _ hint => loadHintOk hint
  | .ldfFillF1R3R2 _ _ _ _ hint => loadHintOk hint
  | .ldfFillF1R3Imm9 _ _ _ _ hint => loadHintOk hint
  | .stfeR3F2 _ _ _ hint => storeHintOk hint
  | .stfeR3F2Imm9 _ _ _ _ hint => storeHintOk hint
  | .stf8R3F2 _ _ _ hint => storeHintOk hint
  | .stf8R3F2Imm9 _ _ _ _ hint => storeHintOk hint
  | .stfsR3F2 _ _ _ hint => storeHintOk hint
  | .stfsR3F2Imm9 _ _ _ _ hint => storeHintOk hint
  | .stfdR3F2 _ _ _ hint => storeHintOk hint
  | .stfdR3F2Imm9 _ _ _ _ hint => storeHintOk hint
  | .stfSpillR3F2 _ _ _ hint => storeHintOk hint
  | .stfSpillR3F2Imm9 _ _ _ _ hint => storeHintOk hint
  | .ldfpsF1F2R3 _ _ _ _ hint => loadHintOk hint
  | .ldfpsF1F2R38 _ _ _ _ hint => loadHintOk hint
  | .ldfpsSF1F2R3 _ _ _ _ hint => loadHintOk hint
  | .ldfpsSF1F2R38 _ _ _ _ hint => loadHintOk hint
  | .ldfpsAF1F2R3 _ _ _ _ hint => loadHintOk hint
  | .ldfpsAF1F2R38 _ _ _ _ hint => loadHintOk hint
  | .ldfpsSaF1F2R3 _ _ _ _ hint => loadHintOk hint
  | .ldfpsSaF1F2R38 _ _ _ _ hint => loadHintOk hint
  | .ldfpsCClrF1F2R3 _ _ _ _ hint => loadHintOk hint
  | .ldfpsCClrF1F2R38 _ _ _ _ hint => loadHintOk hint
  | .ldfpsCNcF1F2R3 _ _ _ _ hint => loadHintOk hint
  | .ldfpsCNcF1F2R38 _ _ _ _ hint => loadHintOk hint
  | .ldfpdF1F2R3 _ _ _ _ hint => loadHintOk hint
  | .ldfpdF1F2R316 _ _ _ _ hint => loadHintOk hint
  | .ldfpdSF1F2R3 _ _ _ _ hint => loadHintOk hint
  | .ldfpdSF1F2R316 _ _ _ _ hint => loadHintOk hint
  | .ldfpdAF1F2R3 _ _ _ _ hint => loadHintOk hint
  | .ldfpdAF1F2R316 _ _ _ _ hint => loadHintOk hint
  | .ldfpdSaF1F2R3 _ _ _ _ hint => loadHintOk hint
  | .ldfpdSaF1F2R316 _ _ _ _ hint => loadHintOk hint
  | .ldfpdCClrF1F2R3 _ _ _ _ hint => loadHintOk hint
  | .ldfpdCClrF1F2R316 _ _ _ _ hint => loadHintOk hint
  | .ldfpdCNcF1F2R3 _ _ _ _ hint => loadHintOk hint
  | .ldfpdCNcF1F2R316 _ _ _ _ hint => loadHintOk hint
  | .ldfp8F1F2R3 _ _ _ _ hint => loadHintOk hint
  | .ldfp8F1F2R316 _ _ _ _ hint => loadHintOk hint
  | .ldfp8SF1F2R3 _ _ _ _ hint => loadHintOk hint
  | .ldfp8SF1F2R316 _ _ _ _ hint => loadHintOk hint
  | .ldfp8AF1F2R3 _ _ _ _ hint => loadHintOk hint
  | .ldfp8AF1F2R316 _ _ _ _ hint => loadHintOk hint
  | .ldfp8SaF1F2R3 _ _ _ _ hint => loadHintOk hint
  | .ldfp8SaF1F2R316 _ _ _ _ hint => loadHintOk hint
  | .ldfp8CClrF1F2R3 _ _ _ _ hint => loadHintOk hint
  | .ldfp8CClrF1F2R316 _ _ _ _ hint => loadHintOk hint
  | .ldfp8CNcF1F2R3 _ _ _ _ hint => loadHintOk hint
  | .ldfp8CNcF1F2R316 _ _ _ _ hint => loadHintOk hint
  | .cmpxchg1AcqR1R3R2ArCcv _ _ _ _ hint => loadHintOk hint
  | .cmpxchg1RelR1R3R2ArCcv _ _ _ _ hint => loadHintOk hint
  | .cmpxchg2AcqR1R3R2ArCcv _ _ _ _ hint => loadHintOk hint
  | .cmpxchg2RelR1R3R2ArCcv _ _ _ _ hint => loadHintOk hint
  | .cmpxchg4AcqR1R3R2ArCcv _ _ _ _ hint => loadHintOk hint
  | .cmpxchg4RelR1R3R2ArCcv _ _ _ _ hint => loadHintOk hint
  | .cmpxchg8AcqR1R3R2ArCcv _ _ _ _ hint => loadHintOk hint
  | .cmpxchg8RelR1R3R2ArCcv _ _ _ _ hint => loadHintOk hint
  | .xchg1R1R3R2 _ _ _ _ hint => loadHintOk hint
  | .xchg2R1R3R2 _ _ _ _ hint => loadHintOk hint
  | .xchg4R1R3R2 _ _ _ _ hint => loadHintOk hint
  | .xchg8R1R3R2 _ _ _ _ hint => loadHintOk hint
  | .fetchadd4AcqR1R3Inc3 _ _ _ _ hint => loadHintOk hint
  | .fetchadd4RelR1R3Inc3 _ _ _ _ hint => loadHintOk hint
  | .fetchadd8AcqR1R3Inc3 _ _ _ _ hint => loadHintOk hint
  | .fetchadd8RelR1R3Inc3 _ _ _ _ hint => loadHintOk hint
  | .allocR1ArPfsILOR qp _ _ _ _ => qp == 0
  | .brCallBwhPhDhB1B2 _ _ _ wh3 _ _ => wh3.getLsbD 0
  | _ => true

end Sys2Proof
end

