-- ==== Sys2Proof/Decode.lean ====
section
/-! DEFINITION. Decode.lean: from 41-bit slots to instructions (`spec/30_encoding.md` R230 to R245), total on every
word: `none` is the refusal of an encoding the spec gives no bit pattern for (R241, D22; log 7). After it the encoder,
written from the same tables. Fields a format does not list are ignored on decode and 0 on encode (section 3). So are register fields
that R245 prints as 0 because the instruction has no such register, while a printed 0 of bit 36 is required: section 3 does not
speak of them (DESIGN CHOICE, log 7). -/

namespace Sys2Proof

/-- The slot types of a bundle template (R232, R233). `L` and `X` are the two halves of an MLX bundle's long slot. -/
inductive SlotType where
  | M | I | F | B | L | X
  deriving DecidableEq, Repr

/-- A 41-bit slot cut at the boundaries all formats share (R234): bits 40:37, 36, 35:27, 26:20, 19:13, 12:6, 5:0. -/
structure Slot where
  op  : BitVec 4
  s   : BitVec 1
  mid : BitVec 9
  c   : BitVec 7
  b   : BitVec 7
  a   : BitVec 7
  qp  : BitVec 6
  deriving DecidableEq, Repr

/-- The fields of a slot (R234). -/
def Slot.ofWord (w : BitVec 41) : Slot :=
  { op := w.extractLsb' 37 4, s := w.extractLsb' 36 1, mid := w.extractLsb' 27 9, c := w.extractLsb' 20 7,
    b := w.extractLsb' 13 7, a := w.extractLsb' 6 7, qp := w.extractLsb' 0 6 }

/-- The slot with the given fields (R234). -/
def slotWord (op : BitVec 4) (s : BitVec 1) (mid : BitVec 9) (c b a : BitVec 7) (qp : BitVec 6) : BitVec 41 :=
  op ++ s ++ mid ++ c ++ b ++ a ++ qp

/-- Bits 34:33, 35 and 12 of a branch: its hints (R238). -/
def Slot.hint (f : Slot) : BrHint :=
  { wh := f.mid.extractLsb' 6 2, d := f.mid.extractLsb' 8 1, p := f.a.extractLsb' 6 1 }

/-- `imm21` of break and nop: bit 36 :: bits 25:6 (R238, R240). -/
def Slot.imm21 (f : Slot) : BitVec 21 := f.s ++ f.c.extractLsb' 0 6 ++ f.b ++ f.a

/-- The 21-bit displacement of an IP-relative branch: bit 36 :: bits 32:13 (R238, R240). -/
def Slot.disp21 (f : Slot) : BitVec 21 := f.s ++ f.mid.extractLsb' 0 6 ++ f.c ++ f.b

/-- The 21-bit displacement of a check: bit 36 :: bits 32:20 :: bits 12:6 (R245). -/
def Slot.chk21 (f : Slot) : BitVec 21 := f.s ++ f.mid.extractLsb' 0 6 ++ f.c ++ f.a

/-- A-type instructions, major opcodes 8 to 0xE, in an M or an I slot (R236). -/
noncomputable def decodeA (f : Slot) : Option Instr :=
  match f.op with
  | 8#4 =>
    match f.mid.extractLsb' 7 2, f.mid.extractLsb' 6 1 with
    | 0#2, 0#1 =>
      match f.mid.extractLsb' 2 4, f.mid.extractLsb' 0 2, f.s with
      | 0#4, 0#2, 0#1 => some (.addR1R2R3 f.qp f.a f.b f.c)
      | 0#4, 1#2, 0#1 => some (.addR1R2R31 f.qp f.a f.b f.c)
      | 1#4, 1#2, 0#1 => some (.subR1R2R3 f.qp f.a f.b f.c)
      | 1#4, 0#2, 0#1 => some (.subR1R2R31 f.qp f.a f.b f.c)
      | 2#4, 0#2, 0#1 => some (.addp4R1R2R3 f.qp f.a f.b f.c)
      | 3#4, 0#2, 0#1 => some (.andR1R2R3 f.qp f.a f.b f.c)
      | 3#4, 1#2, 0#1 => some (.andcmR1R2R3 f.qp f.a f.b f.c)
      | 3#4, 2#2, 0#1 => some (.orR1R2R3 f.qp f.a f.b f.c)
      | 3#4, 3#2, 0#1 => some (.xorR1R2R3 f.qp f.a f.b f.c)
      | 4#4, ct2d, 0#1 => some (.shladdR1R2Count2R3 f.qp f.a f.b ct2d f.c)
      | 6#4, ct2d, 0#1 => some (.shladdp4R1R2Count2R3 f.qp f.a f.b ct2d f.c)
      | 9#4, 1#2, _ => some (.subR1Imm8R3 f.qp f.a (f.s ++ f.b) f.c)
      | 11#4, 0#2, _ => some (.andR1Imm8R3 f.qp f.a (f.s ++ f.b) f.c)
      | 11#4, 1#2, _ => some (.andcmR1Imm8R3 f.qp f.a (f.s ++ f.b) f.c)
      | 11#4, 2#2, _ => some (.orR1Imm8R3 f.qp f.a (f.s ++ f.b) f.c)
      | 11#4, 3#2, _ => some (.xorR1Imm8R3 f.qp f.a (f.s ++ f.b) f.c)
      | _, _, _ => none
    | 2#2, 0#1 => some (.addsR1Imm14R3 f.qp f.a (f.s ++ f.mid.extractLsb' 0 6 ++ f.b) f.c)
    | 3#2, 0#1 => some (.addp4R1Imm14R3 f.qp f.a (f.s ++ f.mid.extractLsb' 0 6 ++ f.b) f.c)
    | _, _ => none
  | 9#4 => some (.addlR1Imm22R3 f.qp f.a (f.s ++ f.c.extractLsb' 2 5 ++ f.mid ++ f.b) (f.c.extractLsb' 0 2))
  | 12#4 =>
    match f.mid.extractLsb' 7 2, f.mid.extractLsb' 6 1, f.s, f.a.extractLsb' 6 1 with
    | 0#2, 0#1, 0#1, 0#1 => some (.cmpLtP1P2R2R3 f.qp (f.a.extractLsb' 0 6) (f.mid.extractLsb' 0 6) f.b f.c)
    | 0#2, 0#1, 0#1, 1#1 => some (.cmpLtUncP1P2R2R3 f.qp (f.a.extractLsb' 0 6) (f.mid.extractLsb' 0 6) f.b f.c)
    | 1#2, 0#1, 0#1, 0#1 => some (.cmp4LtP1P2R2R3 f.qp (f.a.extractLsb' 0 6) (f.mid.extractLsb' 0 6) f.b f.c)
    | 1#2, 0#1, 0#1, 1#1 => some (.cmp4LtUncP1P2R2R3 f.qp (f.a.extractLsb' 0 6) (f.mid.extractLsb' 0 6) f.b f.c)
    | 2#2, 0#1, _, 0#1 => some (.cmpLtP1P2Imm8R3 f.qp (f.a.extractLsb' 0 6) (f.mid.extractLsb' 0 6) (f.s ++ f.b) f.c)
    | 2#2, 0#1, _, 1#1 => some (.cmpLtUncP1P2Imm8R3 f.qp (f.a.extractLsb' 0 6) (f.mid.extractLsb' 0 6) (f.s ++ f.b) f.c)
    | 3#2, 0#1, _, 0#1 => some (.cmp4LtP1P2Imm8R3 f.qp (f.a.extractLsb' 0 6) (f.mid.extractLsb' 0 6) (f.s ++ f.b) f.c)
    | 3#2, 0#1, _, 1#1 => some (.cmp4LtUncP1P2Imm8R3 f.qp (f.a.extractLsb' 0 6) (f.mid.extractLsb' 0 6) (f.s ++ f.b) f.c)
    | _, _, _, _ => none
  | 13#4 =>
    match f.mid.extractLsb' 7 2, f.mid.extractLsb' 6 1, f.s, f.a.extractLsb' 6 1 with
    | 0#2, 0#1, 0#1, 0#1 => some (.cmpLtuP1P2R2R3 f.qp (f.a.extractLsb' 0 6) (f.mid.extractLsb' 0 6) f.b f.c)
    | 0#2, 0#1, 0#1, 1#1 => some (.cmpLtuUncP1P2R2R3 f.qp (f.a.extractLsb' 0 6) (f.mid.extractLsb' 0 6) f.b f.c)
    | 1#2, 0#1, 0#1, 0#1 => some (.cmp4LtuP1P2R2R3 f.qp (f.a.extractLsb' 0 6) (f.mid.extractLsb' 0 6) f.b f.c)
    | 1#2, 0#1, 0#1, 1#1 => some (.cmp4LtuUncP1P2R2R3 f.qp (f.a.extractLsb' 0 6) (f.mid.extractLsb' 0 6) f.b f.c)
    | 2#2, 0#1, _, 0#1 => some (.cmpLtuP1P2Imm8R3 f.qp (f.a.extractLsb' 0 6) (f.mid.extractLsb' 0 6) (f.s ++ f.b) f.c)
    | 2#2, 0#1, _, 1#1 => some (.cmpLtuUncP1P2Imm8R3 f.qp (f.a.extractLsb' 0 6) (f.mid.extractLsb' 0 6) (f.s ++ f.b) f.c)
    | 3#2, 0#1, _, 0#1 => some (.cmp4LtuP1P2Imm8R3 f.qp (f.a.extractLsb' 0 6) (f.mid.extractLsb' 0 6) (f.s ++ f.b) f.c)
    | 3#2, 0#1, _, 1#1 => some (.cmp4LtuUncP1P2Imm8R3 f.qp (f.a.extractLsb' 0 6) (f.mid.extractLsb' 0 6) (f.s ++ f.b) f.c)
    | _, _, _, _ => none
  | 14#4 =>
    match f.mid.extractLsb' 7 2, f.mid.extractLsb' 6 1, f.s, f.a.extractLsb' 6 1 with
    | 0#2, 0#1, 0#1, 0#1 => some (.cmpEqP1P2R2R3 f.qp (f.a.extractLsb' 0 6) (f.mid.extractLsb' 0 6) f.b f.c)
    | 0#2, 0#1, 0#1, 1#1 => some (.cmpEqUncP1P2R2R3 f.qp (f.a.extractLsb' 0 6) (f.mid.extractLsb' 0 6) f.b f.c)
    | 1#2, 0#1, 0#1, 0#1 => some (.cmp4EqP1P2R2R3 f.qp (f.a.extractLsb' 0 6) (f.mid.extractLsb' 0 6) f.b f.c)
    | 1#2, 0#1, 0#1, 1#1 => some (.cmp4EqUncP1P2R2R3 f.qp (f.a.extractLsb' 0 6) (f.mid.extractLsb' 0 6) f.b f.c)
    | 2#2, 0#1, _, 0#1 => some (.cmpEqP1P2Imm8R3 f.qp (f.a.extractLsb' 0 6) (f.mid.extractLsb' 0 6) (f.s ++ f.b) f.c)
    | 2#2, 0#1, _, 1#1 => some (.cmpEqUncP1P2Imm8R3 f.qp (f.a.extractLsb' 0 6) (f.mid.extractLsb' 0 6) (f.s ++ f.b) f.c)
    | 3#2, 0#1, _, 0#1 => some (.cmp4EqP1P2Imm8R3 f.qp (f.a.extractLsb' 0 6) (f.mid.extractLsb' 0 6) (f.s ++ f.b) f.c)
    | 3#2, 0#1, _, 1#1 => some (.cmp4EqUncP1P2Imm8R3 f.qp (f.a.extractLsb' 0 6) (f.mid.extractLsb' 0 6) (f.s ++ f.b) f.c)
    | _, _, _, _ => none
  | _ => none

/-- Formats M1 and M4 (major opcode 4, m = 0, x = 0): loads without base update, and stores (R237). The hints that R111 does not allow, 2
(`.nt2`) of a load, 1 and 2 of a store, are accepted and ignored, here as in the other formats of loads and stores (DESIGN CHOICE, log 7). -/
noncomputable def decodeM1 (f : Slot) : Option Instr :=
  match f.mid.extractLsb' 3 6 with
  | 0x00#6 => some (.ld1R1R3 f.qp f.a f.c (f.mid.extractLsb' 1 2))
  | 0x01#6 => some (.ld2R1R3 f.qp f.a f.c (f.mid.extractLsb' 1 2))
  | 0x02#6 => some (.ld4R1R3 f.qp f.a f.c (f.mid.extractLsb' 1 2))
  | 0x03#6 => some (.ld8R1R3 f.qp f.a f.c (f.mid.extractLsb' 1 2))
  | 0x04#6 => some (.ld1SR1R3 f.qp f.a f.c (f.mid.extractLsb' 1 2))
  | 0x05#6 => some (.ld2SR1R3 f.qp f.a f.c (f.mid.extractLsb' 1 2))
  | 0x06#6 => some (.ld4SR1R3 f.qp f.a f.c (f.mid.extractLsb' 1 2))
  | 0x07#6 => some (.ld8SR1R3 f.qp f.a f.c (f.mid.extractLsb' 1 2))
  | 0x08#6 => some (.ld1AR1R3 f.qp f.a f.c (f.mid.extractLsb' 1 2))
  | 0x09#6 => some (.ld2AR1R3 f.qp f.a f.c (f.mid.extractLsb' 1 2))
  | 0x0a#6 => some (.ld4AR1R3 f.qp f.a f.c (f.mid.extractLsb' 1 2))
  | 0x0b#6 => some (.ld8AR1R3 f.qp f.a f.c (f.mid.extractLsb' 1 2))
  | 0x0c#6 => some (.ld1SaR1R3 f.qp f.a f.c (f.mid.extractLsb' 1 2))
  | 0x0d#6 => some (.ld2SaR1R3 f.qp f.a f.c (f.mid.extractLsb' 1 2))
  | 0x0e#6 => some (.ld4SaR1R3 f.qp f.a f.c (f.mid.extractLsb' 1 2))
  | 0x0f#6 => some (.ld8SaR1R3 f.qp f.a f.c (f.mid.extractLsb' 1 2))
  | 0x10#6 => some (.ld1BiasR1R3 f.qp f.a f.c (f.mid.extractLsb' 1 2))
  | 0x11#6 => some (.ld2BiasR1R3 f.qp f.a f.c (f.mid.extractLsb' 1 2))
  | 0x12#6 => some (.ld4BiasR1R3 f.qp f.a f.c (f.mid.extractLsb' 1 2))
  | 0x13#6 => some (.ld8BiasR1R3 f.qp f.a f.c (f.mid.extractLsb' 1 2))
  | 0x14#6 => some (.ld1AcqR1R3 f.qp f.a f.c (f.mid.extractLsb' 1 2))
  | 0x15#6 => some (.ld2AcqR1R3 f.qp f.a f.c (f.mid.extractLsb' 1 2))
  | 0x16#6 => some (.ld4AcqR1R3 f.qp f.a f.c (f.mid.extractLsb' 1 2))
  | 0x17#6 => some (.ld8AcqR1R3 f.qp f.a f.c (f.mid.extractLsb' 1 2))
  | 0x20#6 => some (.ld1CClrR1R3 f.qp f.a f.c (f.mid.extractLsb' 1 2))
  | 0x21#6 => some (.ld2CClrR1R3 f.qp f.a f.c (f.mid.extractLsb' 1 2))
  | 0x22#6 => some (.ld4CClrR1R3 f.qp f.a f.c (f.mid.extractLsb' 1 2))
  | 0x23#6 => some (.ld8CClrR1R3 f.qp f.a f.c (f.mid.extractLsb' 1 2))
  | 0x24#6 => some (.ld1CNcR1R3 f.qp f.a f.c (f.mid.extractLsb' 1 2))
  | 0x25#6 => some (.ld2CNcR1R3 f.qp f.a f.c (f.mid.extractLsb' 1 2))
  | 0x26#6 => some (.ld4CNcR1R3 f.qp f.a f.c (f.mid.extractLsb' 1 2))
  | 0x27#6 => some (.ld8CNcR1R3 f.qp f.a f.c (f.mid.extractLsb' 1 2))
  | 0x28#6 => some (.ld1CClrAcqR1R3 f.qp f.a f.c (f.mid.extractLsb' 1 2))
  | 0x29#6 => some (.ld2CClrAcqR1R3 f.qp f.a f.c (f.mid.extractLsb' 1 2))
  | 0x2a#6 => some (.ld4CClrAcqR1R3 f.qp f.a f.c (f.mid.extractLsb' 1 2))
  | 0x2b#6 => some (.ld8CClrAcqR1R3 f.qp f.a f.c (f.mid.extractLsb' 1 2))
  | 0x1b#6 => some (.ld8FillR1R3 f.qp f.a f.c (f.mid.extractLsb' 1 2))
  | 0x30#6 => some (.st1R3R2 f.qp f.c f.b (f.mid.extractLsb' 1 2))
  | 0x31#6 => some (.st2R3R2 f.qp f.c f.b (f.mid.extractLsb' 1 2))
  | 0x32#6 => some (.st4R3R2 f.qp f.c f.b (f.mid.extractLsb' 1 2))
  | 0x33#6 => some (.st8R3R2 f.qp f.c f.b (f.mid.extractLsb' 1 2))
  | 0x34#6 => some (.st1RelR3R2 f.qp f.c f.b (f.mid.extractLsb' 1 2))
  | 0x35#6 => some (.st2RelR3R2 f.qp f.c f.b (f.mid.extractLsb' 1 2))
  | 0x36#6 => some (.st4RelR3R2 f.qp f.c f.b (f.mid.extractLsb' 1 2))
  | 0x37#6 => some (.st8RelR3R2 f.qp f.c f.b (f.mid.extractLsb' 1 2))
  | 0x3b#6 => some (.st8SpillR3R2 f.qp f.c f.b (f.mid.extractLsb' 1 2))
  | _ => none

/-- Format M2 (major opcode 4, m = 1, x = 0): loads with register base update (R237). -/
noncomputable def decodeM2 (f : Slot) : Option Instr :=
  match f.mid.extractLsb' 3 6 with
  | 0x00#6 => some (.ld1R1R3R2 f.qp f.a f.c f.b (f.mid.extractLsb' 1 2))
  | 0x01#6 => some (.ld2R1R3R2 f.qp f.a f.c f.b (f.mid.extractLsb' 1 2))
  | 0x02#6 => some (.ld4R1R3R2 f.qp f.a f.c f.b (f.mid.extractLsb' 1 2))
  | 0x03#6 => some (.ld8R1R3R2 f.qp f.a f.c f.b (f.mid.extractLsb' 1 2))
  | 0x04#6 => some (.ld1SR1R3R2 f.qp f.a f.c f.b (f.mid.extractLsb' 1 2))
  | 0x05#6 => some (.ld2SR1R3R2 f.qp f.a f.c f.b (f.mid.extractLsb' 1 2))
  | 0x06#6 => some (.ld4SR1R3R2 f.qp f.a f.c f.b (f.mid.extractLsb' 1 2))
  | 0x07#6 => some (.ld8SR1R3R2 f.qp f.a f.c f.b (f.mid.extractLsb' 1 2))
  | 0x08#6 => some (.ld1AR1R3R2 f.qp f.a f.c f.b (f.mid.extractLsb' 1 2))
  | 0x09#6 => some (.ld2AR1R3R2 f.qp f.a f.c f.b (f.mid.extractLsb' 1 2))
  | 0x0a#6 => some (.ld4AR1R3R2 f.qp f.a f.c f.b (f.mid.extractLsb' 1 2))
  | 0x0b#6 => some (.ld8AR1R3R2 f.qp f.a f.c f.b (f.mid.extractLsb' 1 2))
  | 0x0c#6 => some (.ld1SaR1R3R2 f.qp f.a f.c f.b (f.mid.extractLsb' 1 2))
  | 0x0d#6 => some (.ld2SaR1R3R2 f.qp f.a f.c f.b (f.mid.extractLsb' 1 2))
  | 0x0e#6 => some (.ld4SaR1R3R2 f.qp f.a f.c f.b (f.mid.extractLsb' 1 2))
  | 0x0f#6 => some (.ld8SaR1R3R2 f.qp f.a f.c f.b (f.mid.extractLsb' 1 2))
  | 0x10#6 => some (.ld1BiasR1R3R2 f.qp f.a f.c f.b (f.mid.extractLsb' 1 2))
  | 0x11#6 => some (.ld2BiasR1R3R2 f.qp f.a f.c f.b (f.mid.extractLsb' 1 2))
  | 0x12#6 => some (.ld4BiasR1R3R2 f.qp f.a f.c f.b (f.mid.extractLsb' 1 2))
  | 0x13#6 => some (.ld8BiasR1R3R2 f.qp f.a f.c f.b (f.mid.extractLsb' 1 2))
  | 0x14#6 => some (.ld1AcqR1R3R2 f.qp f.a f.c f.b (f.mid.extractLsb' 1 2))
  | 0x15#6 => some (.ld2AcqR1R3R2 f.qp f.a f.c f.b (f.mid.extractLsb' 1 2))
  | 0x16#6 => some (.ld4AcqR1R3R2 f.qp f.a f.c f.b (f.mid.extractLsb' 1 2))
  | 0x17#6 => some (.ld8AcqR1R3R2 f.qp f.a f.c f.b (f.mid.extractLsb' 1 2))
  | 0x20#6 => some (.ld1CClrR1R3R2 f.qp f.a f.c f.b (f.mid.extractLsb' 1 2))
  | 0x21#6 => some (.ld2CClrR1R3R2 f.qp f.a f.c f.b (f.mid.extractLsb' 1 2))
  | 0x22#6 => some (.ld4CClrR1R3R2 f.qp f.a f.c f.b (f.mid.extractLsb' 1 2))
  | 0x23#6 => some (.ld8CClrR1R3R2 f.qp f.a f.c f.b (f.mid.extractLsb' 1 2))
  | 0x24#6 => some (.ld1CNcR1R3R2 f.qp f.a f.c f.b (f.mid.extractLsb' 1 2))
  | 0x25#6 => some (.ld2CNcR1R3R2 f.qp f.a f.c f.b (f.mid.extractLsb' 1 2))
  | 0x26#6 => some (.ld4CNcR1R3R2 f.qp f.a f.c f.b (f.mid.extractLsb' 1 2))
  | 0x27#6 => some (.ld8CNcR1R3R2 f.qp f.a f.c f.b (f.mid.extractLsb' 1 2))
  | 0x28#6 => some (.ld1CClrAcqR1R3R2 f.qp f.a f.c f.b (f.mid.extractLsb' 1 2))
  | 0x29#6 => some (.ld2CClrAcqR1R3R2 f.qp f.a f.c f.b (f.mid.extractLsb' 1 2))
  | 0x2a#6 => some (.ld4CClrAcqR1R3R2 f.qp f.a f.c f.b (f.mid.extractLsb' 1 2))
  | 0x2b#6 => some (.ld8CClrAcqR1R3R2 f.qp f.a f.c f.b (f.mid.extractLsb' 1 2))
  | 0x1b#6 => some (.ld8FillR1R3R2 f.qp f.a f.c f.b (f.mid.extractLsb' 1 2))
  | _ => none

/-- Formats M3 and M5 (major opcode 5): loads and stores with immediate base update (R237). -/
noncomputable def decodeM3 (f : Slot) : Option Instr :=
  match f.mid.extractLsb' 3 6 with
  | 0x00#6 => some (.ld1R1R3Imm9 f.qp f.a f.c (f.s ++ f.mid.extractLsb' 0 1 ++ f.b) (f.mid.extractLsb' 1 2))
  | 0x01#6 => some (.ld2R1R3Imm9 f.qp f.a f.c (f.s ++ f.mid.extractLsb' 0 1 ++ f.b) (f.mid.extractLsb' 1 2))
  | 0x02#6 => some (.ld4R1R3Imm9 f.qp f.a f.c (f.s ++ f.mid.extractLsb' 0 1 ++ f.b) (f.mid.extractLsb' 1 2))
  | 0x03#6 => some (.ld8R1R3Imm9 f.qp f.a f.c (f.s ++ f.mid.extractLsb' 0 1 ++ f.b) (f.mid.extractLsb' 1 2))
  | 0x04#6 => some (.ld1SR1R3Imm9 f.qp f.a f.c (f.s ++ f.mid.extractLsb' 0 1 ++ f.b) (f.mid.extractLsb' 1 2))
  | 0x05#6 => some (.ld2SR1R3Imm9 f.qp f.a f.c (f.s ++ f.mid.extractLsb' 0 1 ++ f.b) (f.mid.extractLsb' 1 2))
  | 0x06#6 => some (.ld4SR1R3Imm9 f.qp f.a f.c (f.s ++ f.mid.extractLsb' 0 1 ++ f.b) (f.mid.extractLsb' 1 2))
  | 0x07#6 => some (.ld8SR1R3Imm9 f.qp f.a f.c (f.s ++ f.mid.extractLsb' 0 1 ++ f.b) (f.mid.extractLsb' 1 2))
  | 0x08#6 => some (.ld1AR1R3Imm9 f.qp f.a f.c (f.s ++ f.mid.extractLsb' 0 1 ++ f.b) (f.mid.extractLsb' 1 2))
  | 0x09#6 => some (.ld2AR1R3Imm9 f.qp f.a f.c (f.s ++ f.mid.extractLsb' 0 1 ++ f.b) (f.mid.extractLsb' 1 2))
  | 0x0a#6 => some (.ld4AR1R3Imm9 f.qp f.a f.c (f.s ++ f.mid.extractLsb' 0 1 ++ f.b) (f.mid.extractLsb' 1 2))
  | 0x0b#6 => some (.ld8AR1R3Imm9 f.qp f.a f.c (f.s ++ f.mid.extractLsb' 0 1 ++ f.b) (f.mid.extractLsb' 1 2))
  | 0x0c#6 => some (.ld1SaR1R3Imm9 f.qp f.a f.c (f.s ++ f.mid.extractLsb' 0 1 ++ f.b) (f.mid.extractLsb' 1 2))
  | 0x0d#6 => some (.ld2SaR1R3Imm9 f.qp f.a f.c (f.s ++ f.mid.extractLsb' 0 1 ++ f.b) (f.mid.extractLsb' 1 2))
  | 0x0e#6 => some (.ld4SaR1R3Imm9 f.qp f.a f.c (f.s ++ f.mid.extractLsb' 0 1 ++ f.b) (f.mid.extractLsb' 1 2))
  | 0x0f#6 => some (.ld8SaR1R3Imm9 f.qp f.a f.c (f.s ++ f.mid.extractLsb' 0 1 ++ f.b) (f.mid.extractLsb' 1 2))
  | 0x10#6 => some (.ld1BiasR1R3Imm9 f.qp f.a f.c (f.s ++ f.mid.extractLsb' 0 1 ++ f.b) (f.mid.extractLsb' 1 2))
  | 0x11#6 => some (.ld2BiasR1R3Imm9 f.qp f.a f.c (f.s ++ f.mid.extractLsb' 0 1 ++ f.b) (f.mid.extractLsb' 1 2))
  | 0x12#6 => some (.ld4BiasR1R3Imm9 f.qp f.a f.c (f.s ++ f.mid.extractLsb' 0 1 ++ f.b) (f.mid.extractLsb' 1 2))
  | 0x13#6 => some (.ld8BiasR1R3Imm9 f.qp f.a f.c (f.s ++ f.mid.extractLsb' 0 1 ++ f.b) (f.mid.extractLsb' 1 2))
  | 0x14#6 => some (.ld1AcqR1R3Imm9 f.qp f.a f.c (f.s ++ f.mid.extractLsb' 0 1 ++ f.b) (f.mid.extractLsb' 1 2))
  | 0x15#6 => some (.ld2AcqR1R3Imm9 f.qp f.a f.c (f.s ++ f.mid.extractLsb' 0 1 ++ f.b) (f.mid.extractLsb' 1 2))
  | 0x16#6 => some (.ld4AcqR1R3Imm9 f.qp f.a f.c (f.s ++ f.mid.extractLsb' 0 1 ++ f.b) (f.mid.extractLsb' 1 2))
  | 0x17#6 => some (.ld8AcqR1R3Imm9 f.qp f.a f.c (f.s ++ f.mid.extractLsb' 0 1 ++ f.b) (f.mid.extractLsb' 1 2))
  | 0x20#6 => some (.ld1CClrR1R3Imm9 f.qp f.a f.c (f.s ++ f.mid.extractLsb' 0 1 ++ f.b) (f.mid.extractLsb' 1 2))
  | 0x21#6 => some (.ld2CClrR1R3Imm9 f.qp f.a f.c (f.s ++ f.mid.extractLsb' 0 1 ++ f.b) (f.mid.extractLsb' 1 2))
  | 0x22#6 => some (.ld4CClrR1R3Imm9 f.qp f.a f.c (f.s ++ f.mid.extractLsb' 0 1 ++ f.b) (f.mid.extractLsb' 1 2))
  | 0x23#6 => some (.ld8CClrR1R3Imm9 f.qp f.a f.c (f.s ++ f.mid.extractLsb' 0 1 ++ f.b) (f.mid.extractLsb' 1 2))
  | 0x24#6 => some (.ld1CNcR1R3Imm9 f.qp f.a f.c (f.s ++ f.mid.extractLsb' 0 1 ++ f.b) (f.mid.extractLsb' 1 2))
  | 0x25#6 => some (.ld2CNcR1R3Imm9 f.qp f.a f.c (f.s ++ f.mid.extractLsb' 0 1 ++ f.b) (f.mid.extractLsb' 1 2))
  | 0x26#6 => some (.ld4CNcR1R3Imm9 f.qp f.a f.c (f.s ++ f.mid.extractLsb' 0 1 ++ f.b) (f.mid.extractLsb' 1 2))
  | 0x27#6 => some (.ld8CNcR1R3Imm9 f.qp f.a f.c (f.s ++ f.mid.extractLsb' 0 1 ++ f.b) (f.mid.extractLsb' 1 2))
  | 0x28#6 => some (.ld1CClrAcqR1R3Imm9 f.qp f.a f.c (f.s ++ f.mid.extractLsb' 0 1 ++ f.b) (f.mid.extractLsb' 1 2))
  | 0x29#6 => some (.ld2CClrAcqR1R3Imm9 f.qp f.a f.c (f.s ++ f.mid.extractLsb' 0 1 ++ f.b) (f.mid.extractLsb' 1 2))
  | 0x2a#6 => some (.ld4CClrAcqR1R3Imm9 f.qp f.a f.c (f.s ++ f.mid.extractLsb' 0 1 ++ f.b) (f.mid.extractLsb' 1 2))
  | 0x2b#6 => some (.ld8CClrAcqR1R3Imm9 f.qp f.a f.c (f.s ++ f.mid.extractLsb' 0 1 ++ f.b) (f.mid.extractLsb' 1 2))
  | 0x1b#6 => some (.ld8FillR1R3Imm9 f.qp f.a f.c (f.s ++ f.mid.extractLsb' 0 1 ++ f.b) (f.mid.extractLsb' 1 2))
  | 0x30#6 => some (.st1R3R2Imm9 f.qp f.c f.b (f.s ++ f.mid.extractLsb' 0 1 ++ f.a) (f.mid.extractLsb' 1 2))
  | 0x31#6 => some (.st2R3R2Imm9 f.qp f.c f.b (f.s ++ f.mid.extractLsb' 0 1 ++ f.a) (f.mid.extractLsb' 1 2))
  | 0x32#6 => some (.st4R3R2Imm9 f.qp f.c f.b (f.s ++ f.mid.extractLsb' 0 1 ++ f.a) (f.mid.extractLsb' 1 2))
  | 0x33#6 => some (.st8R3R2Imm9 f.qp f.c f.b (f.s ++ f.mid.extractLsb' 0 1 ++ f.a) (f.mid.extractLsb' 1 2))
  | 0x34#6 => some (.st1RelR3R2Imm9 f.qp f.c f.b (f.s ++ f.mid.extractLsb' 0 1 ++ f.a) (f.mid.extractLsb' 1 2))
  | 0x35#6 => some (.st2RelR3R2Imm9 f.qp f.c f.b (f.s ++ f.mid.extractLsb' 0 1 ++ f.a) (f.mid.extractLsb' 1 2))
  | 0x36#6 => some (.st4RelR3R2Imm9 f.qp f.c f.b (f.s ++ f.mid.extractLsb' 0 1 ++ f.a) (f.mid.extractLsb' 1 2))
  | 0x37#6 => some (.st8RelR3R2Imm9 f.qp f.c f.b (f.s ++ f.mid.extractLsb' 0 1 ++ f.a) (f.mid.extractLsb' 1 2))
  | 0x3b#6 => some (.st8SpillR3R2Imm9 f.qp f.c f.b (f.s ++ f.mid.extractLsb' 0 1 ++ f.a) (f.mid.extractLsb' 1 2))
  | _ => none

/-- Formats M6 and M9 (major opcode 6, m = 0, x = 0): floating-point loads and stores (R245). The register field printed as 0, 19:13 of M6
and 12:6 of M9, is ignored (DESIGN CHOICE, log 7). -/
noncomputable def decodeM6 (f : Slot) : Option Instr :=
  match f.mid.extractLsb' 3 6 with
  | 0x00#6 => some (.ldfeF1R3 f.qp f.a f.c (f.mid.extractLsb' 1 2))
  | 0x01#6 => some (.ldf8F1R3 f.qp f.a f.c (f.mid.extractLsb' 1 2))
  | 0x02#6 => some (.ldfsF1R3 f.qp f.a f.c (f.mid.extractLsb' 1 2))
  | 0x03#6 => some (.ldfdF1R3 f.qp f.a f.c (f.mid.extractLsb' 1 2))
  | 0x04#6 => some (.ldfeSF1R3 f.qp f.a f.c (f.mid.extractLsb' 1 2))
  | 0x05#6 => some (.ldf8SF1R3 f.qp f.a f.c (f.mid.extractLsb' 1 2))
  | 0x06#6 => some (.ldfsSF1R3 f.qp f.a f.c (f.mid.extractLsb' 1 2))
  | 0x07#6 => some (.ldfdSF1R3 f.qp f.a f.c (f.mid.extractLsb' 1 2))
  | 0x08#6 => some (.ldfeAF1R3 f.qp f.a f.c (f.mid.extractLsb' 1 2))
  | 0x09#6 => some (.ldf8AF1R3 f.qp f.a f.c (f.mid.extractLsb' 1 2))
  | 0x0a#6 => some (.ldfsAF1R3 f.qp f.a f.c (f.mid.extractLsb' 1 2))
  | 0x0b#6 => some (.ldfdAF1R3 f.qp f.a f.c (f.mid.extractLsb' 1 2))
  | 0x0c#6 => some (.ldfeSaF1R3 f.qp f.a f.c (f.mid.extractLsb' 1 2))
  | 0x0d#6 => some (.ldf8SaF1R3 f.qp f.a f.c (f.mid.extractLsb' 1 2))
  | 0x0e#6 => some (.ldfsSaF1R3 f.qp f.a f.c (f.mid.extractLsb' 1 2))
  | 0x0f#6 => some (.ldfdSaF1R3 f.qp f.a f.c (f.mid.extractLsb' 1 2))
  | 0x20#6 => some (.ldfeCClrF1R3 f.qp f.a f.c (f.mid.extractLsb' 1 2))
  | 0x21#6 => some (.ldf8CClrF1R3 f.qp f.a f.c (f.mid.extractLsb' 1 2))
  | 0x22#6 => some (.ldfsCClrF1R3 f.qp f.a f.c (f.mid.extractLsb' 1 2))
  | 0x23#6 => some (.ldfdCClrF1R3 f.qp f.a f.c (f.mid.extractLsb' 1 2))
  | 0x24#6 => some (.ldfeCNcF1R3 f.qp f.a f.c (f.mid.extractLsb' 1 2))
  | 0x25#6 => some (.ldf8CNcF1R3 f.qp f.a f.c (f.mid.extractLsb' 1 2))
  | 0x26#6 => some (.ldfsCNcF1R3 f.qp f.a f.c (f.mid.extractLsb' 1 2))
  | 0x27#6 => some (.ldfdCNcF1R3 f.qp f.a f.c (f.mid.extractLsb' 1 2))
  | 0x1b#6 => some (.ldfFillF1R3 f.qp f.a f.c (f.mid.extractLsb' 1 2))
  | 0x30#6 => some (.stfeR3F2 f.qp f.c f.b (f.mid.extractLsb' 1 2))
  | 0x31#6 => some (.stf8R3F2 f.qp f.c f.b (f.mid.extractLsb' 1 2))
  | 0x32#6 => some (.stfsR3F2 f.qp f.c f.b (f.mid.extractLsb' 1 2))
  | 0x33#6 => some (.stfdR3F2 f.qp f.c f.b (f.mid.extractLsb' 1 2))
  | 0x3b#6 => some (.stfSpillR3F2 f.qp f.c f.b (f.mid.extractLsb' 1 2))
  | _ => none

/-- Format M18 (major opcode 6, m = 0, x = 1): `setf` (R245). Bits 26:20, printed as 0, are ignored (DESIGN CHOICE, log 7). -/
noncomputable def decodeM18 (f : Slot) : Option Instr :=
  match f.mid.extractLsb' 3 6 with
  | 0x1c#6 => some (.setfSigF1R2 f.qp f.a f.b)
  | 0x1d#6 => some (.setfExpF1R2 f.qp f.a f.b)
  | 0x1e#6 => some (.setfSF1R2 f.qp f.a f.b)
  | 0x1f#6 => some (.setfDF1R2 f.qp f.a f.b)
  | _ => none

/-- Format M19 (major opcode 4, m = 0, x = 1): `getf` (R245). Bits 26:20, printed as 0, are ignored (DESIGN CHOICE, log 7). -/
noncomputable def decodeM19 (f : Slot) : Option Instr :=
  match f.mid.extractLsb' 3 6 with
  | 0x1c#6 => some (.getfSigR1F2 f.qp f.a f.b)
  | 0x1d#6 => some (.getfExpR1F2 f.qp f.a f.b)
  | 0x1e#6 => some (.getfSR1F2 f.qp f.a f.b)
  | 0x1f#6 => some (.getfDR1F2 f.qp f.a f.b)
  | _ => none

/-- M slots (R236, R237, R239, R245). The register fields that M29 and M31 print as 0 are ignored (DESIGN CHOICE, log 7). -/
noncomputable def decodeM (f : Slot) : Option Instr :=
  match f.op with
  | 0#4 =>
    match f.mid with
    | 0x000#9 => some (.breakMImm21 f.qp f.imm21)
    | 0x001#9 => some (.nopMImm21 f.qp f.imm21)
    | _ => none
  | 1#4 =>
    match f.mid.extractLsb' 6 3 with
    | 0#3 =>
      match f.s, f.mid.extractLsb' 0 6 with
      | 0#1, 0x2a#6 => some (.movMAr3R2 f.qp f.c f.b)
      | 0#1, 0x22#6 => some (.movMR1Ar3 f.qp f.a f.c)
      | _, _ => none
    | 1#3 => some (.chkSMR2Target25 f.qp f.b f.chk21)
    | 3#3 => some (.chkSF2Target25 f.qp f.b f.chk21)
    | 6#3 => some (.allocR1ArPfsILOR f.qp f.a f.b f.c (f.mid.extractLsb' 0 4))
    | _ => none
  | 4#4 =>
    match f.s, f.mid.extractLsb' 0 1 with
    | 0#1, 0#1 => decodeM1 f
    | 1#1, 0#1 => decodeM2 f
    | 0#1, 1#1 => decodeM19 f
    | _, _ => none
  | 5#4 => decodeM3 f
  | 6#4 =>
    match f.s, f.mid.extractLsb' 0 1 with
    | 0#1, 0#1 => decodeM6 f
    | 0#1, 1#1 => decodeM18 f
    | _, _ => none
  | _ => decodeA f

/-- Formats I16 and I17 (major opcode 5, x2 = 0): `tbit` and `tnat`, by `ta`, `tb`, `c` and `y` (R245). Bits 19:14 of I17, printed as 0,
are ignored (DESIGN CHOICE, log 7). -/
noncomputable def decodeI16 (f : Slot) : Option Instr :=
  match f.mid.extractLsb' 6 1, f.s, f.a.extractLsb' 6 1, f.b.extractLsb' 0 1 with
  | 0#1, 0#1, 0#1, 0#1 => some (.tbitZP1P2R3Pos6 f.qp (f.a.extractLsb' 0 6) (f.mid.extractLsb' 0 6) f.c (f.b.extractLsb' 1 6))
  | 0#1, 0#1, 0#1, 1#1 => some (.tnatZP1P2R3 f.qp (f.a.extractLsb' 0 6) (f.mid.extractLsb' 0 6) f.c)
  | 0#1, 0#1, 1#1, 0#1 => some (.tbitZUncP1P2R3Pos6 f.qp (f.a.extractLsb' 0 6) (f.mid.extractLsb' 0 6) f.c (f.b.extractLsb' 1 6))
  | 0#1, 0#1, 1#1, 1#1 => some (.tnatZUncP1P2R3 f.qp (f.a.extractLsb' 0 6) (f.mid.extractLsb' 0 6) f.c)
  | 0#1, 1#1, 0#1, 0#1 => some (.tbitZAndP1P2R3Pos6 f.qp (f.a.extractLsb' 0 6) (f.mid.extractLsb' 0 6) f.c (f.b.extractLsb' 1 6))
  | 0#1, 1#1, 0#1, 1#1 => some (.tnatZAndP1P2R3 f.qp (f.a.extractLsb' 0 6) (f.mid.extractLsb' 0 6) f.c)
  | 0#1, 1#1, 1#1, 0#1 => some (.tbitNzAndP1P2R3Pos6 f.qp (f.a.extractLsb' 0 6) (f.mid.extractLsb' 0 6) f.c (f.b.extractLsb' 1 6))
  | 0#1, 1#1, 1#1, 1#1 => some (.tnatNzAndP1P2R3 f.qp (f.a.extractLsb' 0 6) (f.mid.extractLsb' 0 6) f.c)
  | 1#1, 0#1, 0#1, 0#1 => some (.tbitZOrP1P2R3Pos6 f.qp (f.a.extractLsb' 0 6) (f.mid.extractLsb' 0 6) f.c (f.b.extractLsb' 1 6))
  | 1#1, 0#1, 0#1, 1#1 => some (.tnatZOrP1P2R3 f.qp (f.a.extractLsb' 0 6) (f.mid.extractLsb' 0 6) f.c)
  | 1#1, 0#1, 1#1, 0#1 => some (.tbitNzOrP1P2R3Pos6 f.qp (f.a.extractLsb' 0 6) (f.mid.extractLsb' 0 6) f.c (f.b.extractLsb' 1 6))
  | 1#1, 0#1, 1#1, 1#1 => some (.tnatNzOrP1P2R3 f.qp (f.a.extractLsb' 0 6) (f.mid.extractLsb' 0 6) f.c)
  | 1#1, 1#1, 0#1, 0#1 => some (.tbitZOrAndcmP1P2R3Pos6 f.qp (f.a.extractLsb' 0 6) (f.mid.extractLsb' 0 6) f.c (f.b.extractLsb' 1 6))
  | 1#1, 1#1, 0#1, 1#1 => some (.tnatZOrAndcmP1P2R3 f.qp (f.a.extractLsb' 0 6) (f.mid.extractLsb' 0 6) f.c)
  | 1#1, 1#1, 1#1, 0#1 => some (.tbitNzOrAndcmP1P2R3Pos6 f.qp (f.a.extractLsb' 0 6) (f.mid.extractLsb' 0 6) f.c (f.b.extractLsb' 1 6))
  | 1#1, 1#1, 1#1, 1#1 => some (.tnatNzOrAndcmP1P2R3 f.qp (f.a.extractLsb' 0 6) (f.mid.extractLsb' 0 6) f.c)
  | _, _, _, _ => none

/-- I slots, major opcode 0 with x3 = 0, by x6 (R239, R245). The register fields that I26, I28 and I29 print as 0 are ignored (DESIGN
CHOICE, log 7). -/
noncomputable def decodeI0 (f : Slot) : Option Instr :=
  match f.mid.extractLsb' 0 6 with
  | 0x00#6 => some (.breakIImm21 f.qp f.imm21)
  | 0x01#6 => some (.nopIImm21 f.qp f.imm21)
  | 0x0a#6 => some (.movIAr3Imm8 f.qp f.c (f.s ++ f.b))
  | 0x2a#6 => if f.s = 0#1 then some (.movIAr3R2 f.qp f.c f.b) else none
  | 0x30#6 => some (.movR1Ip f.qp f.a)
  | 0x31#6 => some (.movR1B2 f.qp f.a (f.b.extractLsb' 0 3))
  | 0x32#6 => if f.s = 0#1 then some (.movIR1Ar3 f.qp f.a f.c) else none
  | 0x33#6 => some (.movR1Pr f.qp f.a)
  | 0x10#6 => if f.s = 0#1 then some (.zxt1R1R3 f.qp f.a f.c) else none
  | 0x11#6 => if f.s = 0#1 then some (.zxt2R1R3 f.qp f.a f.c) else none
  | 0x12#6 => if f.s = 0#1 then some (.zxt4R1R3 f.qp f.a f.c) else none
  | 0x14#6 => if f.s = 0#1 then some (.sxt1R1R3 f.qp f.a f.c) else none
  | 0x15#6 => if f.s = 0#1 then some (.sxt2R1R3 f.qp f.a f.c) else none
  | 0x16#6 => if f.s = 0#1 then some (.sxt4R1R3 f.qp f.a f.c) else none
  | 0x18#6 => if f.s = 0#1 then some (.czx1LR1R3 f.qp f.a f.c) else none
  | 0x19#6 => if f.s = 0#1 then some (.czx2LR1R3 f.qp f.a f.c) else none
  | 0x1c#6 => if f.s = 0#1 then some (.czx1RR1R3 f.qp f.a f.c) else none
  | 0x1d#6 => if f.s = 0#1 then some (.czx2RR1R3 f.qp f.a f.c) else none
  | _ => none

/-- I slots (R236, R239, R245). The `wh` value 3 of I21, which R239 does not list, is accepted (DESIGN CHOICE, log 7). -/
noncomputable def decodeI (f : Slot) : Option Instr :=
  match f.op with
  | 0#4 =>
    match f.mid.extractLsb' 6 3 with
    | 0#3 => decodeI0 f
    | 1#3 => some (.chkSIR2Target25 f.qp f.b f.chk21)
    | 7#3 =>
      match f.c.extractLsb' 2 1 with
      | 0#1 => some (.movB1R2 f.qp (f.a.extractLsb' 0 3) f.b (f.mid.extractLsb' 0 6 ++ f.c.extractLsb' 4 3)
          (f.c.extractLsb' 3 1) (f.c.extractLsb' 0 2))
      | _ => some (.movRetB1R2 f.qp (f.a.extractLsb' 0 3) f.b (f.mid.extractLsb' 0 6 ++ f.c.extractLsb' 4 3)
          (f.c.extractLsb' 3 1) (f.c.extractLsb' 0 2))
    | _ => none
  | 5#4 =>
    match f.mid.extractLsb' 7 2, f.mid.extractLsb' 6 1 with
    | 0#2, _ => decodeI16 f
    | 1#2, 0#1 =>
      match f.s, f.b.extractLsb' 0 1 with
      | 0#1, 0#1 => some (.extrUR1R3Pos6Len6 f.qp f.a f.c (f.b.extractLsb' 1 6) (f.mid.extractLsb' 0 6))
      | 0#1, 1#1 => some (.extrR1R3Pos6Len6 f.qp f.a f.c (f.b.extractLsb' 1 6) (f.mid.extractLsb' 0 6))
      | _, _ => none
    | 1#2, 1#1 =>
      match f.c.extractLsb' 6 1 with
      | 0#1 => some (.depZR1R2Pos6Len6 f.qp f.a f.b (~~~ f.c.extractLsb' 0 6) (f.mid.extractLsb' 0 6))
      | _ => none
    | _, _ => none
  | _ => decodeA f

/-- F slots (R239, R245). -/
noncomputable def decodeF (f : Slot) : Option Instr :=
  match f.op, f.s with
  | 0#4, _ =>
    match f.mid.extractLsb' 0 7 with
    | 0#7 => some (.breakFImm21 f.qp f.imm21)
    | 1#7 => some (.nopFImm21 f.qp f.imm21)
    | _ => none
  | 8#4, 0#1 => some (.fmaSfF1F3F4F2 f.qp (f.mid.extractLsb' 7 2) f.a f.c (f.mid.extractLsb' 0 7) f.b)
  | 8#4, 1#1 => some (.fmaSSfF1F3F4F2 f.qp (f.mid.extractLsb' 7 2) f.a f.c (f.mid.extractLsb' 0 7) f.b)
  | 9#4, 0#1 => some (.fmaDSfF1F3F4F2 f.qp (f.mid.extractLsb' 7 2) f.a f.c (f.mid.extractLsb' 0 7) f.b)
  | 9#4, 1#1 => some (.fpmaSfF1F3F4F2 f.qp (f.mid.extractLsb' 7 2) f.a f.c (f.mid.extractLsb' 0 7) f.b)
  | 10#4, 0#1 => some (.fmsSfF1F3F4F2 f.qp (f.mid.extractLsb' 7 2) f.a f.c (f.mid.extractLsb' 0 7) f.b)
  | 10#4, 1#1 => some (.fmsSSfF1F3F4F2 f.qp (f.mid.extractLsb' 7 2) f.a f.c (f.mid.extractLsb' 0 7) f.b)
  | 11#4, 0#1 => some (.fmsDSfF1F3F4F2 f.qp (f.mid.extractLsb' 7 2) f.a f.c (f.mid.extractLsb' 0 7) f.b)
  | 11#4, 1#1 => some (.fpmsSfF1F3F4F2 f.qp (f.mid.extractLsb' 7 2) f.a f.c (f.mid.extractLsb' 0 7) f.b)
  | 12#4, 0#1 => some (.fnmaSfF1F3F4F2 f.qp (f.mid.extractLsb' 7 2) f.a f.c (f.mid.extractLsb' 0 7) f.b)
  | 12#4, 1#1 => some (.fnmaSSfF1F3F4F2 f.qp (f.mid.extractLsb' 7 2) f.a f.c (f.mid.extractLsb' 0 7) f.b)
  | 13#4, 0#1 => some (.fnmaDSfF1F3F4F2 f.qp (f.mid.extractLsb' 7 2) f.a f.c (f.mid.extractLsb' 0 7) f.b)
  | 13#4, 1#1 => some (.fpnmaSfF1F3F4F2 f.qp (f.mid.extractLsb' 7 2) f.a f.c (f.mid.extractLsb' 0 7) f.b)
  | 14#4, 1#1 =>
    match f.mid.extractLsb' 7 2 with
    | 0#2 => some (.xmaLF1F3F4F2 f.qp f.a f.c (f.mid.extractLsb' 0 7) f.b)
    | 2#2 => some (.xmaHuF1F3F4F2 f.qp f.a f.c (f.mid.extractLsb' 0 7) f.b)
    | 3#2 => some (.xmaHF1F3F4F2 f.qp f.a f.c (f.mid.extractLsb' 0 7) f.b)
    | _ => none
  | _, _ => none

/-- B slots (R238). The B8 instructions have no qualifying predicate: a non-zero `qp` field is not decodable (R560). The `wh3` values 0, 2, 4
and 6 of B5, which R238 does not list, are accepted (DESIGN CHOICE, log 7). -/
noncomputable def decodeB (f : Slot) : Option Instr :=
  match f.op with
  | 0#4 =>
    match f.mid.extractLsb' 0 6, f.a.extractLsb' 0 3 with
    | 0x00#6, _ => some (.breakBImm21 f.qp f.imm21)
    | 0x02#6, _ => if f.qp = 0#6 then some .cover else none
    | 0x04#6, _ => if f.qp = 0#6 then some .clrrrb else none
    | 0x05#6, _ => if f.qp = 0#6 then some .clrrrbPr else none
    | 0x08#6, _ => if f.qp = 0#6 then some .rfi else none
    | 0x0c#6, _ => if f.qp = 0#6 then some .bsw0 else none
    | 0x0d#6, _ => if f.qp = 0#6 then some .bsw1 else none
    | 0x10#6, _ => if f.qp = 0#6 then some .epc else none
    | 0x20#6, 0#3 => some (.brCondBwhPhDhB2 f.qp (f.b.extractLsb' 0 3) f.hint)
    | 0x20#6, 1#3 => if f.qp = 0#6 then some (.brIaBwhPhDhB2 (f.b.extractLsb' 0 3) f.hint) else none
    | 0x21#6, 4#3 => some (.brRetBwhPhDhB2 f.qp (f.b.extractLsb' 0 3) f.hint)
    | _, _ => none
  | 1#4 => some (.brCallBwhPhDhB1B2 f.qp (f.a.extractLsb' 0 3) (f.b.extractLsb' 0 3) (f.mid.extractLsb' 5 3)
      (f.mid.extractLsb' 8 1) (f.a.extractLsb' 6 1))
  | 2#4 => if f.mid.extractLsb' 0 6 = 0#6 then some (.nopBImm21 f.qp f.imm21) else none
  | 4#4 =>
    match f.a.extractLsb' 0 3 with
    | 0#3 => some (.brCondBwhPhDhTarget25 f.qp f.disp21 f.hint)
    | 2#3 => some (.brWexitBwhPhDhTarget25 f.qp f.disp21 f.hint)
    | 3#3 => some (.brWtopBwhPhDhTarget25 f.qp f.disp21 f.hint)
    | 5#3 => if f.qp = 0#6 then some (.brCloopBwhPhDhTarget25 f.disp21 f.hint) else none
    | 6#3 => if f.qp = 0#6 then some (.brCexitBwhPhDhTarget25 f.disp21 f.hint) else none
    | 7#3 => if f.qp = 0#6 then some (.brCtopBwhPhDhTarget25 f.disp21 f.hint) else none
    | _ => none
  | 5#4 => some (.brCallBwhPhDhB1Target25 f.qp (f.a.extractLsb' 0 3) f.disp21 f.hint)
  | _ => none

/-- The long instruction of an MLX bundle: slot 1 (`l`) holds the long immediate, slot 2 (`f`) the rest (R238, R240). -/
noncomputable def decodeLong (l : BitVec 41) (f : Slot) : Option Instr :=
  match f.op with
  | 6#4 =>
    if f.c.extractLsb' 0 1 = 0#1 then
      some (.movlR1Imm64 f.qp f.a (f.s ++ l ++ f.c.extractLsb' 1 1 ++ f.c.extractLsb' 2 5 ++ f.mid ++ f.b))
    else none
  | 12#4 =>
    if f.a.extractLsb' 0 3 = 0#3 then
      some (.brlCondBwhPhDhTarget64 f.qp (f.s ++ l.extractLsb' 2 39 ++ f.mid.extractLsb' 0 6 ++ f.c ++ f.b) f.hint)
    else none
  | 13#4 => some (.brlCallBwhPhDhB1Target64 f.qp (f.a.extractLsb' 0 3)
      (f.s ++ l.extractLsb' 2 39 ++ f.mid.extractLsb' 0 6 ++ f.c ++ f.b) f.hint)
  | _ => none

/-- The instruction in a slot of the given type; for the X slot the L slot's bits come beside it. `none` refuses. -/
noncomputable def decodeSlot (t : SlotType) (l w : BitVec 41) : Option Instr :=
  match t with
  | .M => decodeM (Slot.ofWord w)
  | .I => decodeI (Slot.ofWord w)
  | .F => decodeF (Slot.ofWord w)
  | .B => decodeB (Slot.ofWord w)
  | .L | .X => decodeLong l (Slot.ofWord w)

/-- The slot type whose decoder the fixed-name interface uses for a bare 41-bit word: the first of M, I, F, B, X that
accepts it. The table's word does not say its slot type, and one word can mean different instructions in different
slot types (log 5). -/
noncomputable def tableSlotType (w : BitVec 41) : SlotType :=
  if (decodeM (Slot.ofWord w)).isSome then .M
  else if (decodeI (Slot.ofWord w)).isSome then .I
  else if (decodeF (Slot.ofWord w)).isSome then .F
  else if (decodeB (Slot.ofWord w)).isSome then .B
  else .X

/-- The instruction the decoder reads from the bits `w` of an opcode-table row, numbered from bit 0 of the slot; the L
slot of a long instruction is all zeros (log 5). -/
noncomputable def decodeTableWord (_nbits w : Nat) : Option Instr :=
  decodeSlot (tableSlotType (BitVec.ofNat 41 w)) 0 (BitVec.ofNat 41 w)

/-- The slot types an instruction with a bit pattern is written in (R233, R235): an A-type instruction is given an M
slot. `none`: the spec gives the instruction no pattern (N71; log 7). -/
structure Encoded where
  slot : SlotType
  long : BitVec 41
  word : BitVec 41
  deriving DecidableEq, Repr

/-- The L-slot bits and slot-2 word of a long instruction (R238). -/
def longWord (l : BitVec 41) (w : BitVec 41) : Encoded := { slot := .X, long := l, word := w }

/-- The word of an instruction in its slot, from the encoding tables R236 to R240 and R245; `none` for the instructions
the spec gives no bit pattern for (N71; log 7). -/
def encode : Instr → Option Encoded
  | .addR1R2R3 qp r1 r2 r3 => some { slot := .M, long := 0, word := slotWord 8 0 0x000#9 r3 r2 r1 qp }
  | .addR1R2R31 qp r1 r2 r3 => some { slot := .M, long := 0, word := slotWord 8 0 0x001#9 r3 r2 r1 qp }
  | .subR1R2R3 qp r1 r2 r3 => some { slot := .M, long := 0, word := slotWord 8 0 0x005#9 r3 r2 r1 qp }
  | .subR1R2R31 qp r1 r2 r3 => some { slot := .M, long := 0, word := slotWord 8 0 0x004#9 r3 r2 r1 qp }
  | .addp4R1R2R3 qp r1 r2 r3 => some { slot := .M, long := 0, word := slotWord 8 0 0x008#9 r3 r2 r1 qp }
  | .andR1R2R3 qp r1 r2 r3 => some { slot := .M, long := 0, word := slotWord 8 0 0x00c#9 r3 r2 r1 qp }
  | .andcmR1R2R3 qp r1 r2 r3 => some { slot := .M, long := 0, word := slotWord 8 0 0x00d#9 r3 r2 r1 qp }
  | .orR1R2R3 qp r1 r2 r3 => some { slot := .M, long := 0, word := slotWord 8 0 0x00e#9 r3 r2 r1 qp }
  | .xorR1R2R3 qp r1 r2 r3 => some { slot := .M, long := 0, word := slotWord 8 0 0x00f#9 r3 r2 r1 qp }
  | .shladdR1R2Count2R3 qp r1 r2 ct2d r3 => some { slot := .M, long := 0, word := slotWord 8 0 (0#3 ++ 4#4 ++ ct2d) r3 r2 r1 qp }
  | .shladdp4R1R2Count2R3 qp r1 r2 ct2d r3 => some { slot := .M, long := 0, word := slotWord 8 0 (0#3 ++ 6#4 ++ ct2d) r3 r2 r1 qp }
  | .subR1Imm8R3 qp r1 imm8 r3 => some { slot := .M, long := 0, word := slotWord 8 (imm8.extractLsb' 7 1) 0x025#9 r3 (imm8.extractLsb' 0 7) r1 qp }
  | .andR1Imm8R3 qp r1 imm8 r3 => some { slot := .M, long := 0, word := slotWord 8 (imm8.extractLsb' 7 1) 0x02c#9 r3 (imm8.extractLsb' 0 7) r1 qp }
  | .andcmR1Imm8R3 qp r1 imm8 r3 => some { slot := .M, long := 0, word := slotWord 8 (imm8.extractLsb' 7 1) 0x02d#9 r3 (imm8.extractLsb' 0 7) r1 qp }
  | .orR1Imm8R3 qp r1 imm8 r3 => some { slot := .M, long := 0, word := slotWord 8 (imm8.extractLsb' 7 1) 0x02e#9 r3 (imm8.extractLsb' 0 7) r1 qp }
  | .xorR1Imm8R3 qp r1 imm8 r3 => some { slot := .M, long := 0, word := slotWord 8 (imm8.extractLsb' 7 1) 0x02f#9 r3 (imm8.extractLsb' 0 7) r1 qp }
  | .addsR1Imm14R3 qp r1 imm14 r3 => some { slot := .M, long := 0, word := slotWord 8 (imm14.extractLsb' 13 1) (2#2 ++ 0#1 ++ (imm14.extractLsb' 7 6)) r3 (imm14.extractLsb' 0 7) r1 qp }
  | .addp4R1Imm14R3 qp r1 imm14 r3 => some { slot := .M, long := 0, word := slotWord 8 (imm14.extractLsb' 13 1) (3#2 ++ 0#1 ++ (imm14.extractLsb' 7 6)) r3 (imm14.extractLsb' 0 7) r1 qp }
  | .addlR1Imm22R3 qp r1 imm22 r3 => some { slot := .M, long := 0, word := slotWord 9 (imm22.extractLsb' 21 1) (imm22.extractLsb' 7 9) ((imm22.extractLsb' 16 5) ++ r3) (imm22.extractLsb' 0 7) r1 qp }
  | .cmpLtP1P2R2R3 qp p1 p2 r2 r3 => some { slot := .M, long := 0, word := slotWord 12 0 (0#2 ++ 0#1 ++ p2) r3 r2 (0#1 ++ p1) qp }
  | .cmpLtUncP1P2R2R3 qp p1 p2 r2 r3 => some { slot := .M, long := 0, word := slotWord 12 0 (0#2 ++ 0#1 ++ p2) r3 r2 (1#1 ++ p1) qp }
  | .cmp4LtP1P2R2R3 qp p1 p2 r2 r3 => some { slot := .M, long := 0, word := slotWord 12 0 (1#2 ++ 0#1 ++ p2) r3 r2 (0#1 ++ p1) qp }
  | .cmp4LtUncP1P2R2R3 qp p1 p2 r2 r3 => some { slot := .M, long := 0, word := slotWord 12 0 (1#2 ++ 0#1 ++ p2) r3 r2 (1#1 ++ p1) qp }
  | .cmpLtP1P2Imm8R3 qp p1 p2 imm8 r3 => some { slot := .M, long := 0, word := slotWord 12 (imm8.extractLsb' 7 1) (2#2 ++ 0#1 ++ p2) r3 (imm8.extractLsb' 0 7) (0#1 ++ p1) qp }
  | .cmpLtUncP1P2Imm8R3 qp p1 p2 imm8 r3 => some { slot := .M, long := 0, word := slotWord 12 (imm8.extractLsb' 7 1) (2#2 ++ 0#1 ++ p2) r3 (imm8.extractLsb' 0 7) (1#1 ++ p1) qp }
  | .cmp4LtP1P2Imm8R3 qp p1 p2 imm8 r3 => some { slot := .M, long := 0, word := slotWord 12 (imm8.extractLsb' 7 1) (3#2 ++ 0#1 ++ p2) r3 (imm8.extractLsb' 0 7) (0#1 ++ p1) qp }
  | .cmp4LtUncP1P2Imm8R3 qp p1 p2 imm8 r3 => some { slot := .M, long := 0, word := slotWord 12 (imm8.extractLsb' 7 1) (3#2 ++ 0#1 ++ p2) r3 (imm8.extractLsb' 0 7) (1#1 ++ p1) qp }
  | .cmpLtuP1P2R2R3 qp p1 p2 r2 r3 => some { slot := .M, long := 0, word := slotWord 13 0 (0#2 ++ 0#1 ++ p2) r3 r2 (0#1 ++ p1) qp }
  | .cmpLtuUncP1P2R2R3 qp p1 p2 r2 r3 => some { slot := .M, long := 0, word := slotWord 13 0 (0#2 ++ 0#1 ++ p2) r3 r2 (1#1 ++ p1) qp }
  | .cmp4LtuP1P2R2R3 qp p1 p2 r2 r3 => some { slot := .M, long := 0, word := slotWord 13 0 (1#2 ++ 0#1 ++ p2) r3 r2 (0#1 ++ p1) qp }
  | .cmp4LtuUncP1P2R2R3 qp p1 p2 r2 r3 => some { slot := .M, long := 0, word := slotWord 13 0 (1#2 ++ 0#1 ++ p2) r3 r2 (1#1 ++ p1) qp }
  | .cmpLtuP1P2Imm8R3 qp p1 p2 imm8 r3 => some { slot := .M, long := 0, word := slotWord 13 (imm8.extractLsb' 7 1) (2#2 ++ 0#1 ++ p2) r3 (imm8.extractLsb' 0 7) (0#1 ++ p1) qp }
  | .cmpLtuUncP1P2Imm8R3 qp p1 p2 imm8 r3 => some { slot := .M, long := 0, word := slotWord 13 (imm8.extractLsb' 7 1) (2#2 ++ 0#1 ++ p2) r3 (imm8.extractLsb' 0 7) (1#1 ++ p1) qp }
  | .cmp4LtuP1P2Imm8R3 qp p1 p2 imm8 r3 => some { slot := .M, long := 0, word := slotWord 13 (imm8.extractLsb' 7 1) (3#2 ++ 0#1 ++ p2) r3 (imm8.extractLsb' 0 7) (0#1 ++ p1) qp }
  | .cmp4LtuUncP1P2Imm8R3 qp p1 p2 imm8 r3 => some { slot := .M, long := 0, word := slotWord 13 (imm8.extractLsb' 7 1) (3#2 ++ 0#1 ++ p2) r3 (imm8.extractLsb' 0 7) (1#1 ++ p1) qp }
  | .cmpEqP1P2R2R3 qp p1 p2 r2 r3 => some { slot := .M, long := 0, word := slotWord 14 0 (0#2 ++ 0#1 ++ p2) r3 r2 (0#1 ++ p1) qp }
  | .cmpEqUncP1P2R2R3 qp p1 p2 r2 r3 => some { slot := .M, long := 0, word := slotWord 14 0 (0#2 ++ 0#1 ++ p2) r3 r2 (1#1 ++ p1) qp }
  | .cmp4EqP1P2R2R3 qp p1 p2 r2 r3 => some { slot := .M, long := 0, word := slotWord 14 0 (1#2 ++ 0#1 ++ p2) r3 r2 (0#1 ++ p1) qp }
  | .cmp4EqUncP1P2R2R3 qp p1 p2 r2 r3 => some { slot := .M, long := 0, word := slotWord 14 0 (1#2 ++ 0#1 ++ p2) r3 r2 (1#1 ++ p1) qp }
  | .cmpEqP1P2Imm8R3 qp p1 p2 imm8 r3 => some { slot := .M, long := 0, word := slotWord 14 (imm8.extractLsb' 7 1) (2#2 ++ 0#1 ++ p2) r3 (imm8.extractLsb' 0 7) (0#1 ++ p1) qp }
  | .cmpEqUncP1P2Imm8R3 qp p1 p2 imm8 r3 => some { slot := .M, long := 0, word := slotWord 14 (imm8.extractLsb' 7 1) (2#2 ++ 0#1 ++ p2) r3 (imm8.extractLsb' 0 7) (1#1 ++ p1) qp }
  | .cmp4EqP1P2Imm8R3 qp p1 p2 imm8 r3 => some { slot := .M, long := 0, word := slotWord 14 (imm8.extractLsb' 7 1) (3#2 ++ 0#1 ++ p2) r3 (imm8.extractLsb' 0 7) (0#1 ++ p1) qp }
  | .cmp4EqUncP1P2Imm8R3 qp p1 p2 imm8 r3 => some { slot := .M, long := 0, word := slotWord 14 (imm8.extractLsb' 7 1) (3#2 ++ 0#1 ++ p2) r3 (imm8.extractLsb' 0 7) (1#1 ++ p1) qp }
  | .ld1R1R3 qp r1 r3 hint => some { slot := .M, long := 0, word := slotWord 4 0 (0x00#6 ++ hint ++ 0#1) r3 0 r1 qp }
  | .ld1R1R3R2 qp r1 r3 r2 hint => some { slot := .M, long := 0, word := slotWord 4 1 (0x00#6 ++ hint ++ 0#1) r3 r2 r1 qp }
  | .ld1R1R3Imm9 qp r1 r3 imm9 hint => some { slot := .M, long := 0, word := slotWord 5 (imm9.extractLsb' 8 1) (0x00#6 ++ hint ++ (imm9.extractLsb' 7 1)) r3 (imm9.extractLsb' 0 7) r1 qp }
  | .ld2R1R3 qp r1 r3 hint => some { slot := .M, long := 0, word := slotWord 4 0 (0x01#6 ++ hint ++ 0#1) r3 0 r1 qp }
  | .ld2R1R3R2 qp r1 r3 r2 hint => some { slot := .M, long := 0, word := slotWord 4 1 (0x01#6 ++ hint ++ 0#1) r3 r2 r1 qp }
  | .ld2R1R3Imm9 qp r1 r3 imm9 hint => some { slot := .M, long := 0, word := slotWord 5 (imm9.extractLsb' 8 1) (0x01#6 ++ hint ++ (imm9.extractLsb' 7 1)) r3 (imm9.extractLsb' 0 7) r1 qp }
  | .ld4R1R3 qp r1 r3 hint => some { slot := .M, long := 0, word := slotWord 4 0 (0x02#6 ++ hint ++ 0#1) r3 0 r1 qp }
  | .ld4R1R3R2 qp r1 r3 r2 hint => some { slot := .M, long := 0, word := slotWord 4 1 (0x02#6 ++ hint ++ 0#1) r3 r2 r1 qp }
  | .ld4R1R3Imm9 qp r1 r3 imm9 hint => some { slot := .M, long := 0, word := slotWord 5 (imm9.extractLsb' 8 1) (0x02#6 ++ hint ++ (imm9.extractLsb' 7 1)) r3 (imm9.extractLsb' 0 7) r1 qp }
  | .ld8R1R3 qp r1 r3 hint => some { slot := .M, long := 0, word := slotWord 4 0 (0x03#6 ++ hint ++ 0#1) r3 0 r1 qp }
  | .ld8R1R3R2 qp r1 r3 r2 hint => some { slot := .M, long := 0, word := slotWord 4 1 (0x03#6 ++ hint ++ 0#1) r3 r2 r1 qp }
  | .ld8R1R3Imm9 qp r1 r3 imm9 hint => some { slot := .M, long := 0, word := slotWord 5 (imm9.extractLsb' 8 1) (0x03#6 ++ hint ++ (imm9.extractLsb' 7 1)) r3 (imm9.extractLsb' 0 7) r1 qp }
  | .ld1SR1R3 qp r1 r3 hint => some { slot := .M, long := 0, word := slotWord 4 0 (0x04#6 ++ hint ++ 0#1) r3 0 r1 qp }
  | .ld1SR1R3R2 qp r1 r3 r2 hint => some { slot := .M, long := 0, word := slotWord 4 1 (0x04#6 ++ hint ++ 0#1) r3 r2 r1 qp }
  | .ld1SR1R3Imm9 qp r1 r3 imm9 hint => some { slot := .M, long := 0, word := slotWord 5 (imm9.extractLsb' 8 1) (0x04#6 ++ hint ++ (imm9.extractLsb' 7 1)) r3 (imm9.extractLsb' 0 7) r1 qp }
  | .ld2SR1R3 qp r1 r3 hint => some { slot := .M, long := 0, word := slotWord 4 0 (0x05#6 ++ hint ++ 0#1) r3 0 r1 qp }
  | .ld2SR1R3R2 qp r1 r3 r2 hint => some { slot := .M, long := 0, word := slotWord 4 1 (0x05#6 ++ hint ++ 0#1) r3 r2 r1 qp }
  | .ld2SR1R3Imm9 qp r1 r3 imm9 hint => some { slot := .M, long := 0, word := slotWord 5 (imm9.extractLsb' 8 1) (0x05#6 ++ hint ++ (imm9.extractLsb' 7 1)) r3 (imm9.extractLsb' 0 7) r1 qp }
  | .ld4SR1R3 qp r1 r3 hint => some { slot := .M, long := 0, word := slotWord 4 0 (0x06#6 ++ hint ++ 0#1) r3 0 r1 qp }
  | .ld4SR1R3R2 qp r1 r3 r2 hint => some { slot := .M, long := 0, word := slotWord 4 1 (0x06#6 ++ hint ++ 0#1) r3 r2 r1 qp }
  | .ld4SR1R3Imm9 qp r1 r3 imm9 hint => some { slot := .M, long := 0, word := slotWord 5 (imm9.extractLsb' 8 1) (0x06#6 ++ hint ++ (imm9.extractLsb' 7 1)) r3 (imm9.extractLsb' 0 7) r1 qp }
  | .ld8SR1R3 qp r1 r3 hint => some { slot := .M, long := 0, word := slotWord 4 0 (0x07#6 ++ hint ++ 0#1) r3 0 r1 qp }
  | .ld8SR1R3R2 qp r1 r3 r2 hint => some { slot := .M, long := 0, word := slotWord 4 1 (0x07#6 ++ hint ++ 0#1) r3 r2 r1 qp }
  | .ld8SR1R3Imm9 qp r1 r3 imm9 hint => some { slot := .M, long := 0, word := slotWord 5 (imm9.extractLsb' 8 1) (0x07#6 ++ hint ++ (imm9.extractLsb' 7 1)) r3 (imm9.extractLsb' 0 7) r1 qp }
  | .ld1AR1R3 qp r1 r3 hint => some { slot := .M, long := 0, word := slotWord 4 0 (0x08#6 ++ hint ++ 0#1) r3 0 r1 qp }
  | .ld1AR1R3R2 qp r1 r3 r2 hint => some { slot := .M, long := 0, word := slotWord 4 1 (0x08#6 ++ hint ++ 0#1) r3 r2 r1 qp }
  | .ld1AR1R3Imm9 qp r1 r3 imm9 hint => some { slot := .M, long := 0, word := slotWord 5 (imm9.extractLsb' 8 1) (0x08#6 ++ hint ++ (imm9.extractLsb' 7 1)) r3 (imm9.extractLsb' 0 7) r1 qp }
  | .ld2AR1R3 qp r1 r3 hint => some { slot := .M, long := 0, word := slotWord 4 0 (0x09#6 ++ hint ++ 0#1) r3 0 r1 qp }
  | .ld2AR1R3R2 qp r1 r3 r2 hint => some { slot := .M, long := 0, word := slotWord 4 1 (0x09#6 ++ hint ++ 0#1) r3 r2 r1 qp }
  | .ld2AR1R3Imm9 qp r1 r3 imm9 hint => some { slot := .M, long := 0, word := slotWord 5 (imm9.extractLsb' 8 1) (0x09#6 ++ hint ++ (imm9.extractLsb' 7 1)) r3 (imm9.extractLsb' 0 7) r1 qp }
  | .ld4AR1R3 qp r1 r3 hint => some { slot := .M, long := 0, word := slotWord 4 0 (0x0a#6 ++ hint ++ 0#1) r3 0 r1 qp }
  | .ld4AR1R3R2 qp r1 r3 r2 hint => some { slot := .M, long := 0, word := slotWord 4 1 (0x0a#6 ++ hint ++ 0#1) r3 r2 r1 qp }
  | .ld4AR1R3Imm9 qp r1 r3 imm9 hint => some { slot := .M, long := 0, word := slotWord 5 (imm9.extractLsb' 8 1) (0x0a#6 ++ hint ++ (imm9.extractLsb' 7 1)) r3 (imm9.extractLsb' 0 7) r1 qp }
  | .ld8AR1R3 qp r1 r3 hint => some { slot := .M, long := 0, word := slotWord 4 0 (0x0b#6 ++ hint ++ 0#1) r3 0 r1 qp }
  | .ld8AR1R3R2 qp r1 r3 r2 hint => some { slot := .M, long := 0, word := slotWord 4 1 (0x0b#6 ++ hint ++ 0#1) r3 r2 r1 qp }
  | .ld8AR1R3Imm9 qp r1 r3 imm9 hint => some { slot := .M, long := 0, word := slotWord 5 (imm9.extractLsb' 8 1) (0x0b#6 ++ hint ++ (imm9.extractLsb' 7 1)) r3 (imm9.extractLsb' 0 7) r1 qp }
  | .ld1SaR1R3 qp r1 r3 hint => some { slot := .M, long := 0, word := slotWord 4 0 (0x0c#6 ++ hint ++ 0#1) r3 0 r1 qp }
  | .ld1SaR1R3R2 qp r1 r3 r2 hint => some { slot := .M, long := 0, word := slotWord 4 1 (0x0c#6 ++ hint ++ 0#1) r3 r2 r1 qp }
  | .ld1SaR1R3Imm9 qp r1 r3 imm9 hint => some { slot := .M, long := 0, word := slotWord 5 (imm9.extractLsb' 8 1) (0x0c#6 ++ hint ++ (imm9.extractLsb' 7 1)) r3 (imm9.extractLsb' 0 7) r1 qp }
  | .ld2SaR1R3 qp r1 r3 hint => some { slot := .M, long := 0, word := slotWord 4 0 (0x0d#6 ++ hint ++ 0#1) r3 0 r1 qp }
  | .ld2SaR1R3R2 qp r1 r3 r2 hint => some { slot := .M, long := 0, word := slotWord 4 1 (0x0d#6 ++ hint ++ 0#1) r3 r2 r1 qp }
  | .ld2SaR1R3Imm9 qp r1 r3 imm9 hint => some { slot := .M, long := 0, word := slotWord 5 (imm9.extractLsb' 8 1) (0x0d#6 ++ hint ++ (imm9.extractLsb' 7 1)) r3 (imm9.extractLsb' 0 7) r1 qp }
  | .ld4SaR1R3 qp r1 r3 hint => some { slot := .M, long := 0, word := slotWord 4 0 (0x0e#6 ++ hint ++ 0#1) r3 0 r1 qp }
  | .ld4SaR1R3R2 qp r1 r3 r2 hint => some { slot := .M, long := 0, word := slotWord 4 1 (0x0e#6 ++ hint ++ 0#1) r3 r2 r1 qp }
  | .ld4SaR1R3Imm9 qp r1 r3 imm9 hint => some { slot := .M, long := 0, word := slotWord 5 (imm9.extractLsb' 8 1) (0x0e#6 ++ hint ++ (imm9.extractLsb' 7 1)) r3 (imm9.extractLsb' 0 7) r1 qp }
  | .ld8SaR1R3 qp r1 r3 hint => some { slot := .M, long := 0, word := slotWord 4 0 (0x0f#6 ++ hint ++ 0#1) r3 0 r1 qp }
  | .ld8SaR1R3R2 qp r1 r3 r2 hint => some { slot := .M, long := 0, word := slotWord 4 1 (0x0f#6 ++ hint ++ 0#1) r3 r2 r1 qp }
  | .ld8SaR1R3Imm9 qp r1 r3 imm9 hint => some { slot := .M, long := 0, word := slotWord 5 (imm9.extractLsb' 8 1) (0x0f#6 ++ hint ++ (imm9.extractLsb' 7 1)) r3 (imm9.extractLsb' 0 7) r1 qp }
  | .ld1BiasR1R3 qp r1 r3 hint => some { slot := .M, long := 0, word := slotWord 4 0 (0x10#6 ++ hint ++ 0#1) r3 0 r1 qp }
  | .ld1BiasR1R3R2 qp r1 r3 r2 hint => some { slot := .M, long := 0, word := slotWord 4 1 (0x10#6 ++ hint ++ 0#1) r3 r2 r1 qp }
  | .ld1BiasR1R3Imm9 qp r1 r3 imm9 hint => some { slot := .M, long := 0, word := slotWord 5 (imm9.extractLsb' 8 1) (0x10#6 ++ hint ++ (imm9.extractLsb' 7 1)) r3 (imm9.extractLsb' 0 7) r1 qp }
  | .ld2BiasR1R3 qp r1 r3 hint => some { slot := .M, long := 0, word := slotWord 4 0 (0x11#6 ++ hint ++ 0#1) r3 0 r1 qp }
  | .ld2BiasR1R3R2 qp r1 r3 r2 hint => some { slot := .M, long := 0, word := slotWord 4 1 (0x11#6 ++ hint ++ 0#1) r3 r2 r1 qp }
  | .ld2BiasR1R3Imm9 qp r1 r3 imm9 hint => some { slot := .M, long := 0, word := slotWord 5 (imm9.extractLsb' 8 1) (0x11#6 ++ hint ++ (imm9.extractLsb' 7 1)) r3 (imm9.extractLsb' 0 7) r1 qp }
  | .ld4BiasR1R3 qp r1 r3 hint => some { slot := .M, long := 0, word := slotWord 4 0 (0x12#6 ++ hint ++ 0#1) r3 0 r1 qp }
  | .ld4BiasR1R3R2 qp r1 r3 r2 hint => some { slot := .M, long := 0, word := slotWord 4 1 (0x12#6 ++ hint ++ 0#1) r3 r2 r1 qp }
  | .ld4BiasR1R3Imm9 qp r1 r3 imm9 hint => some { slot := .M, long := 0, word := slotWord 5 (imm9.extractLsb' 8 1) (0x12#6 ++ hint ++ (imm9.extractLsb' 7 1)) r3 (imm9.extractLsb' 0 7) r1 qp }
  | .ld8BiasR1R3 qp r1 r3 hint => some { slot := .M, long := 0, word := slotWord 4 0 (0x13#6 ++ hint ++ 0#1) r3 0 r1 qp }
  | .ld8BiasR1R3R2 qp r1 r3 r2 hint => some { slot := .M, long := 0, word := slotWord 4 1 (0x13#6 ++ hint ++ 0#1) r3 r2 r1 qp }
  | .ld8BiasR1R3Imm9 qp r1 r3 imm9 hint => some { slot := .M, long := 0, word := slotWord 5 (imm9.extractLsb' 8 1) (0x13#6 ++ hint ++ (imm9.extractLsb' 7 1)) r3 (imm9.extractLsb' 0 7) r1 qp }
  | .ld1AcqR1R3 qp r1 r3 hint => some { slot := .M, long := 0, word := slotWord 4 0 (0x14#6 ++ hint ++ 0#1) r3 0 r1 qp }
  | .ld1AcqR1R3R2 qp r1 r3 r2 hint => some { slot := .M, long := 0, word := slotWord 4 1 (0x14#6 ++ hint ++ 0#1) r3 r2 r1 qp }
  | .ld1AcqR1R3Imm9 qp r1 r3 imm9 hint => some { slot := .M, long := 0, word := slotWord 5 (imm9.extractLsb' 8 1) (0x14#6 ++ hint ++ (imm9.extractLsb' 7 1)) r3 (imm9.extractLsb' 0 7) r1 qp }
  | .ld2AcqR1R3 qp r1 r3 hint => some { slot := .M, long := 0, word := slotWord 4 0 (0x15#6 ++ hint ++ 0#1) r3 0 r1 qp }
  | .ld2AcqR1R3R2 qp r1 r3 r2 hint => some { slot := .M, long := 0, word := slotWord 4 1 (0x15#6 ++ hint ++ 0#1) r3 r2 r1 qp }
  | .ld2AcqR1R3Imm9 qp r1 r3 imm9 hint => some { slot := .M, long := 0, word := slotWord 5 (imm9.extractLsb' 8 1) (0x15#6 ++ hint ++ (imm9.extractLsb' 7 1)) r3 (imm9.extractLsb' 0 7) r1 qp }
  | .ld4AcqR1R3 qp r1 r3 hint => some { slot := .M, long := 0, word := slotWord 4 0 (0x16#6 ++ hint ++ 0#1) r3 0 r1 qp }
  | .ld4AcqR1R3R2 qp r1 r3 r2 hint => some { slot := .M, long := 0, word := slotWord 4 1 (0x16#6 ++ hint ++ 0#1) r3 r2 r1 qp }
  | .ld4AcqR1R3Imm9 qp r1 r3 imm9 hint => some { slot := .M, long := 0, word := slotWord 5 (imm9.extractLsb' 8 1) (0x16#6 ++ hint ++ (imm9.extractLsb' 7 1)) r3 (imm9.extractLsb' 0 7) r1 qp }
  | .ld8AcqR1R3 qp r1 r3 hint => some { slot := .M, long := 0, word := slotWord 4 0 (0x17#6 ++ hint ++ 0#1) r3 0 r1 qp }
  | .ld8AcqR1R3R2 qp r1 r3 r2 hint => some { slot := .M, long := 0, word := slotWord 4 1 (0x17#6 ++ hint ++ 0#1) r3 r2 r1 qp }
  | .ld8AcqR1R3Imm9 qp r1 r3 imm9 hint => some { slot := .M, long := 0, word := slotWord 5 (imm9.extractLsb' 8 1) (0x17#6 ++ hint ++ (imm9.extractLsb' 7 1)) r3 (imm9.extractLsb' 0 7) r1 qp }
  | .ld1CClrR1R3 qp r1 r3 hint => some { slot := .M, long := 0, word := slotWord 4 0 (0x20#6 ++ hint ++ 0#1) r3 0 r1 qp }
  | .ld1CClrR1R3R2 qp r1 r3 r2 hint => some { slot := .M, long := 0, word := slotWord 4 1 (0x20#6 ++ hint ++ 0#1) r3 r2 r1 qp }
  | .ld1CClrR1R3Imm9 qp r1 r3 imm9 hint => some { slot := .M, long := 0, word := slotWord 5 (imm9.extractLsb' 8 1) (0x20#6 ++ hint ++ (imm9.extractLsb' 7 1)) r3 (imm9.extractLsb' 0 7) r1 qp }
  | .ld2CClrR1R3 qp r1 r3 hint => some { slot := .M, long := 0, word := slotWord 4 0 (0x21#6 ++ hint ++ 0#1) r3 0 r1 qp }
  | .ld2CClrR1R3R2 qp r1 r3 r2 hint => some { slot := .M, long := 0, word := slotWord 4 1 (0x21#6 ++ hint ++ 0#1) r3 r2 r1 qp }
  | .ld2CClrR1R3Imm9 qp r1 r3 imm9 hint => some { slot := .M, long := 0, word := slotWord 5 (imm9.extractLsb' 8 1) (0x21#6 ++ hint ++ (imm9.extractLsb' 7 1)) r3 (imm9.extractLsb' 0 7) r1 qp }
  | .ld4CClrR1R3 qp r1 r3 hint => some { slot := .M, long := 0, word := slotWord 4 0 (0x22#6 ++ hint ++ 0#1) r3 0 r1 qp }
  | .ld4CClrR1R3R2 qp r1 r3 r2 hint => some { slot := .M, long := 0, word := slotWord 4 1 (0x22#6 ++ hint ++ 0#1) r3 r2 r1 qp }
  | .ld4CClrR1R3Imm9 qp r1 r3 imm9 hint => some { slot := .M, long := 0, word := slotWord 5 (imm9.extractLsb' 8 1) (0x22#6 ++ hint ++ (imm9.extractLsb' 7 1)) r3 (imm9.extractLsb' 0 7) r1 qp }
  | .ld8CClrR1R3 qp r1 r3 hint => some { slot := .M, long := 0, word := slotWord 4 0 (0x23#6 ++ hint ++ 0#1) r3 0 r1 qp }
  | .ld8CClrR1R3R2 qp r1 r3 r2 hint => some { slot := .M, long := 0, word := slotWord 4 1 (0x23#6 ++ hint ++ 0#1) r3 r2 r1 qp }
  | .ld8CClrR1R3Imm9 qp r1 r3 imm9 hint => some { slot := .M, long := 0, word := slotWord 5 (imm9.extractLsb' 8 1) (0x23#6 ++ hint ++ (imm9.extractLsb' 7 1)) r3 (imm9.extractLsb' 0 7) r1 qp }
  | .ld1CNcR1R3 qp r1 r3 hint => some { slot := .M, long := 0, word := slotWord 4 0 (0x24#6 ++ hint ++ 0#1) r3 0 r1 qp }
  | .ld1CNcR1R3R2 qp r1 r3 r2 hint => some { slot := .M, long := 0, word := slotWord 4 1 (0x24#6 ++ hint ++ 0#1) r3 r2 r1 qp }
  | .ld1CNcR1R3Imm9 qp r1 r3 imm9 hint => some { slot := .M, long := 0, word := slotWord 5 (imm9.extractLsb' 8 1) (0x24#6 ++ hint ++ (imm9.extractLsb' 7 1)) r3 (imm9.extractLsb' 0 7) r1 qp }
  | .ld2CNcR1R3 qp r1 r3 hint => some { slot := .M, long := 0, word := slotWord 4 0 (0x25#6 ++ hint ++ 0#1) r3 0 r1 qp }
  | .ld2CNcR1R3R2 qp r1 r3 r2 hint => some { slot := .M, long := 0, word := slotWord 4 1 (0x25#6 ++ hint ++ 0#1) r3 r2 r1 qp }
  | .ld2CNcR1R3Imm9 qp r1 r3 imm9 hint => some { slot := .M, long := 0, word := slotWord 5 (imm9.extractLsb' 8 1) (0x25#6 ++ hint ++ (imm9.extractLsb' 7 1)) r3 (imm9.extractLsb' 0 7) r1 qp }
  | .ld4CNcR1R3 qp r1 r3 hint => some { slot := .M, long := 0, word := slotWord 4 0 (0x26#6 ++ hint ++ 0#1) r3 0 r1 qp }
  | .ld4CNcR1R3R2 qp r1 r3 r2 hint => some { slot := .M, long := 0, word := slotWord 4 1 (0x26#6 ++ hint ++ 0#1) r3 r2 r1 qp }
  | .ld4CNcR1R3Imm9 qp r1 r3 imm9 hint => some { slot := .M, long := 0, word := slotWord 5 (imm9.extractLsb' 8 1) (0x26#6 ++ hint ++ (imm9.extractLsb' 7 1)) r3 (imm9.extractLsb' 0 7) r1 qp }
  | .ld8CNcR1R3 qp r1 r3 hint => some { slot := .M, long := 0, word := slotWord 4 0 (0x27#6 ++ hint ++ 0#1) r3 0 r1 qp }
  | .ld8CNcR1R3R2 qp r1 r3 r2 hint => some { slot := .M, long := 0, word := slotWord 4 1 (0x27#6 ++ hint ++ 0#1) r3 r2 r1 qp }
  | .ld8CNcR1R3Imm9 qp r1 r3 imm9 hint => some { slot := .M, long := 0, word := slotWord 5 (imm9.extractLsb' 8 1) (0x27#6 ++ hint ++ (imm9.extractLsb' 7 1)) r3 (imm9.extractLsb' 0 7) r1 qp }
  | .ld1CClrAcqR1R3 qp r1 r3 hint => some { slot := .M, long := 0, word := slotWord 4 0 (0x28#6 ++ hint ++ 0#1) r3 0 r1 qp }
  | .ld1CClrAcqR1R3R2 qp r1 r3 r2 hint => some { slot := .M, long := 0, word := slotWord 4 1 (0x28#6 ++ hint ++ 0#1) r3 r2 r1 qp }
  | .ld1CClrAcqR1R3Imm9 qp r1 r3 imm9 hint => some { slot := .M, long := 0, word := slotWord 5 (imm9.extractLsb' 8 1) (0x28#6 ++ hint ++ (imm9.extractLsb' 7 1)) r3 (imm9.extractLsb' 0 7) r1 qp }
  | .ld2CClrAcqR1R3 qp r1 r3 hint => some { slot := .M, long := 0, word := slotWord 4 0 (0x29#6 ++ hint ++ 0#1) r3 0 r1 qp }
  | .ld2CClrAcqR1R3R2 qp r1 r3 r2 hint => some { slot := .M, long := 0, word := slotWord 4 1 (0x29#6 ++ hint ++ 0#1) r3 r2 r1 qp }
  | .ld2CClrAcqR1R3Imm9 qp r1 r3 imm9 hint => some { slot := .M, long := 0, word := slotWord 5 (imm9.extractLsb' 8 1) (0x29#6 ++ hint ++ (imm9.extractLsb' 7 1)) r3 (imm9.extractLsb' 0 7) r1 qp }
  | .ld4CClrAcqR1R3 qp r1 r3 hint => some { slot := .M, long := 0, word := slotWord 4 0 (0x2a#6 ++ hint ++ 0#1) r3 0 r1 qp }
  | .ld4CClrAcqR1R3R2 qp r1 r3 r2 hint => some { slot := .M, long := 0, word := slotWord 4 1 (0x2a#6 ++ hint ++ 0#1) r3 r2 r1 qp }
  | .ld4CClrAcqR1R3Imm9 qp r1 r3 imm9 hint => some { slot := .M, long := 0, word := slotWord 5 (imm9.extractLsb' 8 1) (0x2a#6 ++ hint ++ (imm9.extractLsb' 7 1)) r3 (imm9.extractLsb' 0 7) r1 qp }
  | .ld8CClrAcqR1R3 qp r1 r3 hint => some { slot := .M, long := 0, word := slotWord 4 0 (0x2b#6 ++ hint ++ 0#1) r3 0 r1 qp }
  | .ld8CClrAcqR1R3R2 qp r1 r3 r2 hint => some { slot := .M, long := 0, word := slotWord 4 1 (0x2b#6 ++ hint ++ 0#1) r3 r2 r1 qp }
  | .ld8CClrAcqR1R3Imm9 qp r1 r3 imm9 hint => some { slot := .M, long := 0, word := slotWord 5 (imm9.extractLsb' 8 1) (0x2b#6 ++ hint ++ (imm9.extractLsb' 7 1)) r3 (imm9.extractLsb' 0 7) r1 qp }
  | .ld8FillR1R3 qp r1 r3 hint => some { slot := .M, long := 0, word := slotWord 4 0 (0x1b#6 ++ hint ++ 0#1) r3 0 r1 qp }
  | .ld8FillR1R3R2 qp r1 r3 r2 hint => some { slot := .M, long := 0, word := slotWord 4 1 (0x1b#6 ++ hint ++ 0#1) r3 r2 r1 qp }
  | .ld8FillR1R3Imm9 qp r1 r3 imm9 hint => some { slot := .M, long := 0, word := slotWord 5 (imm9.extractLsb' 8 1) (0x1b#6 ++ hint ++ (imm9.extractLsb' 7 1)) r3 (imm9.extractLsb' 0 7) r1 qp }
  | .st1R3R2 qp r3 r2 hint => some { slot := .M, long := 0, word := slotWord 4 0 (0x30#6 ++ hint ++ 0#1) r3 r2 0 qp }
  | .st1R3R2Imm9 qp r3 r2 imm9 hint => some { slot := .M, long := 0, word := slotWord 5 (imm9.extractLsb' 8 1) (0x30#6 ++ hint ++ (imm9.extractLsb' 7 1)) r3 r2 (imm9.extractLsb' 0 7) qp }
  | .st2R3R2 qp r3 r2 hint => some { slot := .M, long := 0, word := slotWord 4 0 (0x31#6 ++ hint ++ 0#1) r3 r2 0 qp }
  | .st2R3R2Imm9 qp r3 r2 imm9 hint => some { slot := .M, long := 0, word := slotWord 5 (imm9.extractLsb' 8 1) (0x31#6 ++ hint ++ (imm9.extractLsb' 7 1)) r3 r2 (imm9.extractLsb' 0 7) qp }
  | .st4R3R2 qp r3 r2 hint => some { slot := .M, long := 0, word := slotWord 4 0 (0x32#6 ++ hint ++ 0#1) r3 r2 0 qp }
  | .st4R3R2Imm9 qp r3 r2 imm9 hint => some { slot := .M, long := 0, word := slotWord 5 (imm9.extractLsb' 8 1) (0x32#6 ++ hint ++ (imm9.extractLsb' 7 1)) r3 r2 (imm9.extractLsb' 0 7) qp }
  | .st8R3R2 qp r3 r2 hint => some { slot := .M, long := 0, word := slotWord 4 0 (0x33#6 ++ hint ++ 0#1) r3 r2 0 qp }
  | .st8R3R2Imm9 qp r3 r2 imm9 hint => some { slot := .M, long := 0, word := slotWord 5 (imm9.extractLsb' 8 1) (0x33#6 ++ hint ++ (imm9.extractLsb' 7 1)) r3 r2 (imm9.extractLsb' 0 7) qp }
  | .st1RelR3R2 qp r3 r2 hint => some { slot := .M, long := 0, word := slotWord 4 0 (0x34#6 ++ hint ++ 0#1) r3 r2 0 qp }
  | .st1RelR3R2Imm9 qp r3 r2 imm9 hint => some { slot := .M, long := 0, word := slotWord 5 (imm9.extractLsb' 8 1) (0x34#6 ++ hint ++ (imm9.extractLsb' 7 1)) r3 r2 (imm9.extractLsb' 0 7) qp }
  | .st2RelR3R2 qp r3 r2 hint => some { slot := .M, long := 0, word := slotWord 4 0 (0x35#6 ++ hint ++ 0#1) r3 r2 0 qp }
  | .st2RelR3R2Imm9 qp r3 r2 imm9 hint => some { slot := .M, long := 0, word := slotWord 5 (imm9.extractLsb' 8 1) (0x35#6 ++ hint ++ (imm9.extractLsb' 7 1)) r3 r2 (imm9.extractLsb' 0 7) qp }
  | .st4RelR3R2 qp r3 r2 hint => some { slot := .M, long := 0, word := slotWord 4 0 (0x36#6 ++ hint ++ 0#1) r3 r2 0 qp }
  | .st4RelR3R2Imm9 qp r3 r2 imm9 hint => some { slot := .M, long := 0, word := slotWord 5 (imm9.extractLsb' 8 1) (0x36#6 ++ hint ++ (imm9.extractLsb' 7 1)) r3 r2 (imm9.extractLsb' 0 7) qp }
  | .st8RelR3R2 qp r3 r2 hint => some { slot := .M, long := 0, word := slotWord 4 0 (0x37#6 ++ hint ++ 0#1) r3 r2 0 qp }
  | .st8RelR3R2Imm9 qp r3 r2 imm9 hint => some { slot := .M, long := 0, word := slotWord 5 (imm9.extractLsb' 8 1) (0x37#6 ++ hint ++ (imm9.extractLsb' 7 1)) r3 r2 (imm9.extractLsb' 0 7) qp }
  | .st8SpillR3R2 qp r3 r2 hint => some { slot := .M, long := 0, word := slotWord 4 0 (0x3b#6 ++ hint ++ 0#1) r3 r2 0 qp }
  | .st8SpillR3R2Imm9 qp r3 r2 imm9 hint => some { slot := .M, long := 0, word := slotWord 5 (imm9.extractLsb' 8 1) (0x3b#6 ++ hint ++ (imm9.extractLsb' 7 1)) r3 r2 (imm9.extractLsb' 0 7) qp }
  | .ldfeF1R3 qp f1 r3 hint => some { slot := .M, long := 0, word := slotWord 6 0 (0x00#6 ++ hint ++ 0#1) r3 0 f1 qp }
  | .ldf8F1R3 qp f1 r3 hint => some { slot := .M, long := 0, word := slotWord 6 0 (0x01#6 ++ hint ++ 0#1) r3 0 f1 qp }
  | .ldfsF1R3 qp f1 r3 hint => some { slot := .M, long := 0, word := slotWord 6 0 (0x02#6 ++ hint ++ 0#1) r3 0 f1 qp }
  | .ldfdF1R3 qp f1 r3 hint => some { slot := .M, long := 0, word := slotWord 6 0 (0x03#6 ++ hint ++ 0#1) r3 0 f1 qp }
  | .ldfeSF1R3 qp f1 r3 hint => some { slot := .M, long := 0, word := slotWord 6 0 (0x04#6 ++ hint ++ 0#1) r3 0 f1 qp }
  | .ldf8SF1R3 qp f1 r3 hint => some { slot := .M, long := 0, word := slotWord 6 0 (0x05#6 ++ hint ++ 0#1) r3 0 f1 qp }
  | .ldfsSF1R3 qp f1 r3 hint => some { slot := .M, long := 0, word := slotWord 6 0 (0x06#6 ++ hint ++ 0#1) r3 0 f1 qp }
  | .ldfdSF1R3 qp f1 r3 hint => some { slot := .M, long := 0, word := slotWord 6 0 (0x07#6 ++ hint ++ 0#1) r3 0 f1 qp }
  | .ldfeAF1R3 qp f1 r3 hint => some { slot := .M, long := 0, word := slotWord 6 0 (0x08#6 ++ hint ++ 0#1) r3 0 f1 qp }
  | .ldf8AF1R3 qp f1 r3 hint => some { slot := .M, long := 0, word := slotWord 6 0 (0x09#6 ++ hint ++ 0#1) r3 0 f1 qp }
  | .ldfsAF1R3 qp f1 r3 hint => some { slot := .M, long := 0, word := slotWord 6 0 (0x0a#6 ++ hint ++ 0#1) r3 0 f1 qp }
  | .ldfdAF1R3 qp f1 r3 hint => some { slot := .M, long := 0, word := slotWord 6 0 (0x0b#6 ++ hint ++ 0#1) r3 0 f1 qp }
  | .ldfeSaF1R3 qp f1 r3 hint => some { slot := .M, long := 0, word := slotWord 6 0 (0x0c#6 ++ hint ++ 0#1) r3 0 f1 qp }
  | .ldf8SaF1R3 qp f1 r3 hint => some { slot := .M, long := 0, word := slotWord 6 0 (0x0d#6 ++ hint ++ 0#1) r3 0 f1 qp }
  | .ldfsSaF1R3 qp f1 r3 hint => some { slot := .M, long := 0, word := slotWord 6 0 (0x0e#6 ++ hint ++ 0#1) r3 0 f1 qp }
  | .ldfdSaF1R3 qp f1 r3 hint => some { slot := .M, long := 0, word := slotWord 6 0 (0x0f#6 ++ hint ++ 0#1) r3 0 f1 qp }
  | .ldfeCClrF1R3 qp f1 r3 hint => some { slot := .M, long := 0, word := slotWord 6 0 (0x20#6 ++ hint ++ 0#1) r3 0 f1 qp }
  | .ldf8CClrF1R3 qp f1 r3 hint => some { slot := .M, long := 0, word := slotWord 6 0 (0x21#6 ++ hint ++ 0#1) r3 0 f1 qp }
  | .ldfsCClrF1R3 qp f1 r3 hint => some { slot := .M, long := 0, word := slotWord 6 0 (0x22#6 ++ hint ++ 0#1) r3 0 f1 qp }
  | .ldfdCClrF1R3 qp f1 r3 hint => some { slot := .M, long := 0, word := slotWord 6 0 (0x23#6 ++ hint ++ 0#1) r3 0 f1 qp }
  | .ldfeCNcF1R3 qp f1 r3 hint => some { slot := .M, long := 0, word := slotWord 6 0 (0x24#6 ++ hint ++ 0#1) r3 0 f1 qp }
  | .ldf8CNcF1R3 qp f1 r3 hint => some { slot := .M, long := 0, word := slotWord 6 0 (0x25#6 ++ hint ++ 0#1) r3 0 f1 qp }
  | .ldfsCNcF1R3 qp f1 r3 hint => some { slot := .M, long := 0, word := slotWord 6 0 (0x26#6 ++ hint ++ 0#1) r3 0 f1 qp }
  | .ldfdCNcF1R3 qp f1 r3 hint => some { slot := .M, long := 0, word := slotWord 6 0 (0x27#6 ++ hint ++ 0#1) r3 0 f1 qp }
  | .ldfFillF1R3 qp f1 r3 hint => some { slot := .M, long := 0, word := slotWord 6 0 (0x1b#6 ++ hint ++ 0#1) r3 0 f1 qp }
  | .stfeR3F2 qp r3 f2 hint => some { slot := .M, long := 0, word := slotWord 6 0 (0x30#6 ++ hint ++ 0#1) r3 f2 0 qp }
  | .stf8R3F2 qp r3 f2 hint => some { slot := .M, long := 0, word := slotWord 6 0 (0x31#6 ++ hint ++ 0#1) r3 f2 0 qp }
  | .stfsR3F2 qp r3 f2 hint => some { slot := .M, long := 0, word := slotWord 6 0 (0x32#6 ++ hint ++ 0#1) r3 f2 0 qp }
  | .stfdR3F2 qp r3 f2 hint => some { slot := .M, long := 0, word := slotWord 6 0 (0x33#6 ++ hint ++ 0#1) r3 f2 0 qp }
  | .stfSpillR3F2 qp r3 f2 hint => some { slot := .M, long := 0, word := slotWord 6 0 (0x3b#6 ++ hint ++ 0#1) r3 f2 0 qp }
  | .setfSigF1R2 qp f1 r2 => some { slot := .M, long := 0, word := slotWord 6 0 (0x1c#6 ++ 0#2 ++ 1#1) 0 r2 f1 qp }
  | .getfSigR1F2 qp r1 f2 => some { slot := .M, long := 0, word := slotWord 4 0 (0x1c#6 ++ 0#2 ++ 1#1) 0 f2 r1 qp }
  | .setfExpF1R2 qp f1 r2 => some { slot := .M, long := 0, word := slotWord 6 0 (0x1d#6 ++ 0#2 ++ 1#1) 0 r2 f1 qp }
  | .getfExpR1F2 qp r1 f2 => some { slot := .M, long := 0, word := slotWord 4 0 (0x1d#6 ++ 0#2 ++ 1#1) 0 f2 r1 qp }
  | .setfSF1R2 qp f1 r2 => some { slot := .M, long := 0, word := slotWord 6 0 (0x1e#6 ++ 0#2 ++ 1#1) 0 r2 f1 qp }
  | .getfSR1F2 qp r1 f2 => some { slot := .M, long := 0, word := slotWord 4 0 (0x1e#6 ++ 0#2 ++ 1#1) 0 f2 r1 qp }
  | .setfDF1R2 qp f1 r2 => some { slot := .M, long := 0, word := slotWord 6 0 (0x1f#6 ++ 0#2 ++ 1#1) 0 r2 f1 qp }
  | .getfDR1F2 qp r1 f2 => some { slot := .M, long := 0, word := slotWord 4 0 (0x1f#6 ++ 0#2 ++ 1#1) 0 f2 r1 qp }
  | .breakMImm21 qp imm21 => some { slot := .M, long := 0, word := slotWord 0 (imm21.extractLsb' 20 1) 0 (0#1 ++ (imm21.extractLsb' 14 6)) (imm21.extractLsb' 7 7) (imm21.extractLsb' 0 7) qp }
  | .nopMImm21 qp imm21 => some { slot := .M, long := 0, word := slotWord 0 (imm21.extractLsb' 20 1) 0x001#9 (0#1 ++ (imm21.extractLsb' 14 6)) (imm21.extractLsb' 7 7) (imm21.extractLsb' 0 7) qp }
  | .movMAr3R2 qp ar3 r2 => some { slot := .M, long := 0, word := slotWord 1 0 0x02a#9 ar3 r2 0 qp }
  | .movMR1Ar3 qp r1 ar3 => some { slot := .M, long := 0, word := slotWord 1 0 0x022#9 ar3 0 r1 qp }
  | .chkSMR2Target25 qp r2 imm21 => some { slot := .M, long := 0, word := slotWord 1 (imm21.extractLsb' 20 1) (1#3 ++ (imm21.extractLsb' 14 6)) (imm21.extractLsb' 7 7) r2 (imm21.extractLsb' 0 7) qp }
  | .chkSF2Target25 qp f2 imm21 => some { slot := .M, long := 0, word := slotWord 1 (imm21.extractLsb' 20 1) (3#3 ++ (imm21.extractLsb' 14 6)) (imm21.extractLsb' 7 7) f2 (imm21.extractLsb' 0 7) qp }
  | .allocR1ArPfsILOR qp r1 sof sol sor => some { slot := .M, long := 0, word := slotWord 1 0 (6#3 ++ 0#2 ++ sor) sol sof r1 qp }
  | .tbitZP1P2R3Pos6 qp p1 p2 r3 pos6 => some { slot := .I, long := 0, word := slotWord 5 0#1 (0#2 ++ 0#1 ++ p2) r3 (pos6 ++ 0#1) (0#1 ++ p1) qp }
  | .tnatZP1P2R3 qp p1 p2 r3 => some { slot := .I, long := 0, word := slotWord 5 0#1 (0#2 ++ 0#1 ++ p2) r3 (0#6 ++ 1#1) (0#1 ++ p1) qp }
  | .tbitZUncP1P2R3Pos6 qp p1 p2 r3 pos6 => some { slot := .I, long := 0, word := slotWord 5 0#1 (0#2 ++ 0#1 ++ p2) r3 (pos6 ++ 0#1) (1#1 ++ p1) qp }
  | .tnatZUncP1P2R3 qp p1 p2 r3 => some { slot := .I, long := 0, word := slotWord 5 0#1 (0#2 ++ 0#1 ++ p2) r3 (0#6 ++ 1#1) (1#1 ++ p1) qp }
  | .tbitZAndP1P2R3Pos6 qp p1 p2 r3 pos6 => some { slot := .I, long := 0, word := slotWord 5 1#1 (0#2 ++ 0#1 ++ p2) r3 (pos6 ++ 0#1) (0#1 ++ p1) qp }
  | .tnatZAndP1P2R3 qp p1 p2 r3 => some { slot := .I, long := 0, word := slotWord 5 1#1 (0#2 ++ 0#1 ++ p2) r3 (0#6 ++ 1#1) (0#1 ++ p1) qp }
  | .tbitNzAndP1P2R3Pos6 qp p1 p2 r3 pos6 => some { slot := .I, long := 0, word := slotWord 5 1#1 (0#2 ++ 0#1 ++ p2) r3 (pos6 ++ 0#1) (1#1 ++ p1) qp }
  | .tnatNzAndP1P2R3 qp p1 p2 r3 => some { slot := .I, long := 0, word := slotWord 5 1#1 (0#2 ++ 0#1 ++ p2) r3 (0#6 ++ 1#1) (1#1 ++ p1) qp }
  | .tbitZOrP1P2R3Pos6 qp p1 p2 r3 pos6 => some { slot := .I, long := 0, word := slotWord 5 0#1 (0#2 ++ 1#1 ++ p2) r3 (pos6 ++ 0#1) (0#1 ++ p1) qp }
  | .tnatZOrP1P2R3 qp p1 p2 r3 => some { slot := .I, long := 0, word := slotWord 5 0#1 (0#2 ++ 1#1 ++ p2) r3 (0#6 ++ 1#1) (0#1 ++ p1) qp }
  | .tbitNzOrP1P2R3Pos6 qp p1 p2 r3 pos6 => some { slot := .I, long := 0, word := slotWord 5 0#1 (0#2 ++ 1#1 ++ p2) r3 (pos6 ++ 0#1) (1#1 ++ p1) qp }
  | .tnatNzOrP1P2R3 qp p1 p2 r3 => some { slot := .I, long := 0, word := slotWord 5 0#1 (0#2 ++ 1#1 ++ p2) r3 (0#6 ++ 1#1) (1#1 ++ p1) qp }
  | .tbitZOrAndcmP1P2R3Pos6 qp p1 p2 r3 pos6 => some { slot := .I, long := 0, word := slotWord 5 1#1 (0#2 ++ 1#1 ++ p2) r3 (pos6 ++ 0#1) (0#1 ++ p1) qp }
  | .tnatZOrAndcmP1P2R3 qp p1 p2 r3 => some { slot := .I, long := 0, word := slotWord 5 1#1 (0#2 ++ 1#1 ++ p2) r3 (0#6 ++ 1#1) (0#1 ++ p1) qp }
  | .tbitNzOrAndcmP1P2R3Pos6 qp p1 p2 r3 pos6 => some { slot := .I, long := 0, word := slotWord 5 1#1 (0#2 ++ 1#1 ++ p2) r3 (pos6 ++ 0#1) (1#1 ++ p1) qp }
  | .tnatNzOrAndcmP1P2R3 qp p1 p2 r3 => some { slot := .I, long := 0, word := slotWord 5 1#1 (0#2 ++ 1#1 ++ p2) r3 (0#6 ++ 1#1) (1#1 ++ p1) qp }
  | .breakIImm21 qp imm21 => some { slot := .I, long := 0, word := slotWord 0 (imm21.extractLsb' 20 1) 0 (0#1 ++ (imm21.extractLsb' 14 6)) (imm21.extractLsb' 7 7) (imm21.extractLsb' 0 7) qp }
  | .nopIImm21 qp imm21 => some { slot := .I, long := 0, word := slotWord 0 (imm21.extractLsb' 20 1) 0x001#9 (0#1 ++ (imm21.extractLsb' 14 6)) (imm21.extractLsb' 7 7) (imm21.extractLsb' 0 7) qp }
  | .movIAr3Imm8 qp ar3 imm8 => some { slot := .I, long := 0, word := slotWord 0 (imm8.extractLsb' 7 1) 0x00a#9 ar3 (imm8.extractLsb' 0 7) 0 qp }
  | .movIAr3R2 qp ar3 r2 => some { slot := .I, long := 0, word := slotWord 0 0 0x02a#9 ar3 r2 0 qp }
  | .movR1Ip qp r1 => some { slot := .I, long := 0, word := slotWord 0 0 0x030#9 0 0 r1 qp }
  | .movR1B2 qp r1 b2 => some { slot := .I, long := 0, word := slotWord 0 0 0x031#9 0 (0#4 ++ b2) r1 qp }
  | .movIR1Ar3 qp r1 ar3 => some { slot := .I, long := 0, word := slotWord 0 0 0x032#9 ar3 0 r1 qp }
  | .movR1Pr qp r1 => some { slot := .I, long := 0, word := slotWord 0 0 0x033#9 0 0 r1 qp }
  | .zxt1R1R3 qp r1 r3 => some { slot := .I, long := 0, word := slotWord 0 0 0x010#9 r3 0 r1 qp }
  | .zxt2R1R3 qp r1 r3 => some { slot := .I, long := 0, word := slotWord 0 0 0x011#9 r3 0 r1 qp }
  | .zxt4R1R3 qp r1 r3 => some { slot := .I, long := 0, word := slotWord 0 0 0x012#9 r3 0 r1 qp }
  | .sxt1R1R3 qp r1 r3 => some { slot := .I, long := 0, word := slotWord 0 0 0x014#9 r3 0 r1 qp }
  | .sxt2R1R3 qp r1 r3 => some { slot := .I, long := 0, word := slotWord 0 0 0x015#9 r3 0 r1 qp }
  | .sxt4R1R3 qp r1 r3 => some { slot := .I, long := 0, word := slotWord 0 0 0x016#9 r3 0 r1 qp }
  | .czx1LR1R3 qp r1 r3 => some { slot := .I, long := 0, word := slotWord 0 0 0x018#9 r3 0 r1 qp }
  | .czx2LR1R3 qp r1 r3 => some { slot := .I, long := 0, word := slotWord 0 0 0x019#9 r3 0 r1 qp }
  | .czx1RR1R3 qp r1 r3 => some { slot := .I, long := 0, word := slotWord 0 0 0x01c#9 r3 0 r1 qp }
  | .czx2RR1R3 qp r1 r3 => some { slot := .I, long := 0, word := slotWord 0 0 0x01d#9 r3 0 r1 qp }
  | .chkSIR2Target25 qp r2 imm21 => some { slot := .I, long := 0, word := slotWord 0 (imm21.extractLsb' 20 1) (1#3 ++ (imm21.extractLsb' 14 6)) (imm21.extractLsb' 7 7) r2 (imm21.extractLsb' 0 7) qp }
  | .movB1R2 qp b1 r2 timm9 ih wh => some { slot := .I, long := 0, word := slotWord 0 0 (7#3 ++ (timm9.extractLsb' 3 6)) ((timm9.extractLsb' 0 3) ++ ih ++ 0#1 ++ wh) r2 (0#4 ++ b1) qp }
  | .movRetB1R2 qp b1 r2 timm9 ih wh => some { slot := .I, long := 0, word := slotWord 0 0 (7#3 ++ (timm9.extractLsb' 3 6)) ((timm9.extractLsb' 0 3) ++ ih ++ 1#1 ++ wh) r2 (0#4 ++ b1) qp }
  | .extrUR1R3Pos6Len6 qp r1 r3 pos6 len6d => some { slot := .I, long := 0, word := slotWord 5 0 (1#2 ++ 0#1 ++ len6d) r3 (pos6 ++ 0#1) r1 qp }
  | .extrR1R3Pos6Len6 qp r1 r3 pos6 len6d => some { slot := .I, long := 0, word := slotWord 5 0 (1#2 ++ 0#1 ++ len6d) r3 (pos6 ++ 1#1) r1 qp }
  | .depZR1R2Pos6Len6 qp r1 r2 pos6 len6d => some { slot := .I, long := 0, word := slotWord 5 0 (1#2 ++ 1#1 ++ len6d) (0#1 ++ (~~~ pos6)) r2 r1 qp }
  | .breakFImm21 qp imm21 => some { slot := .F, long := 0, word := slotWord 0 (imm21.extractLsb' 20 1) 0 (0#1 ++ (imm21.extractLsb' 14 6)) (imm21.extractLsb' 7 7) (imm21.extractLsb' 0 7) qp }
  | .nopFImm21 qp imm21 => some { slot := .F, long := 0, word := slotWord 0 (imm21.extractLsb' 20 1) 0x001#9 (0#1 ++ (imm21.extractLsb' 14 6)) (imm21.extractLsb' 7 7) (imm21.extractLsb' 0 7) qp }
  | .fmaSfF1F3F4F2 qp sf f1 f3 f4 f2 => some { slot := .F, long := 0, word := slotWord 8 0#1 (sf ++ f4) f3 f2 f1 qp }
  | .fmaSSfF1F3F4F2 qp sf f1 f3 f4 f2 => some { slot := .F, long := 0, word := slotWord 8 1#1 (sf ++ f4) f3 f2 f1 qp }
  | .fmaDSfF1F3F4F2 qp sf f1 f3 f4 f2 => some { slot := .F, long := 0, word := slotWord 9 0#1 (sf ++ f4) f3 f2 f1 qp }
  | .fpmaSfF1F3F4F2 qp sf f1 f3 f4 f2 => some { slot := .F, long := 0, word := slotWord 9 1#1 (sf ++ f4) f3 f2 f1 qp }
  | .fmsSfF1F3F4F2 qp sf f1 f3 f4 f2 => some { slot := .F, long := 0, word := slotWord 10 0#1 (sf ++ f4) f3 f2 f1 qp }
  | .fmsSSfF1F3F4F2 qp sf f1 f3 f4 f2 => some { slot := .F, long := 0, word := slotWord 10 1#1 (sf ++ f4) f3 f2 f1 qp }
  | .fmsDSfF1F3F4F2 qp sf f1 f3 f4 f2 => some { slot := .F, long := 0, word := slotWord 11 0#1 (sf ++ f4) f3 f2 f1 qp }
  | .fpmsSfF1F3F4F2 qp sf f1 f3 f4 f2 => some { slot := .F, long := 0, word := slotWord 11 1#1 (sf ++ f4) f3 f2 f1 qp }
  | .fnmaSfF1F3F4F2 qp sf f1 f3 f4 f2 => some { slot := .F, long := 0, word := slotWord 12 0#1 (sf ++ f4) f3 f2 f1 qp }
  | .fnmaSSfF1F3F4F2 qp sf f1 f3 f4 f2 => some { slot := .F, long := 0, word := slotWord 12 1#1 (sf ++ f4) f3 f2 f1 qp }
  | .fnmaDSfF1F3F4F2 qp sf f1 f3 f4 f2 => some { slot := .F, long := 0, word := slotWord 13 0#1 (sf ++ f4) f3 f2 f1 qp }
  | .fpnmaSfF1F3F4F2 qp sf f1 f3 f4 f2 => some { slot := .F, long := 0, word := slotWord 13 1#1 (sf ++ f4) f3 f2 f1 qp }
  | .xmaLF1F3F4F2 qp f1 f3 f4 f2 => some { slot := .F, long := 0, word := slotWord 14 1#1 (0#2 ++ f4) f3 f2 f1 qp }
  | .xmaHuF1F3F4F2 qp f1 f3 f4 f2 => some { slot := .F, long := 0, word := slotWord 14 1#1 (2#2 ++ f4) f3 f2 f1 qp }
  | .xmaHF1F3F4F2 qp f1 f3 f4 f2 => some { slot := .F, long := 0, word := slotWord 14 1#1 (3#2 ++ f4) f3 f2 f1 qp }
  | .cover => some { slot := .B, long := 0, word := slotWord 0 0 0x002#9 0 0 0 0 }
  | .clrrrb => some { slot := .B, long := 0, word := slotWord 0 0 0x004#9 0 0 0 0 }
  | .clrrrbPr => some { slot := .B, long := 0, word := slotWord 0 0 0x005#9 0 0 0 0 }
  | .rfi => some { slot := .B, long := 0, word := slotWord 0 0 0x008#9 0 0 0 0 }
  | .bsw0 => some { slot := .B, long := 0, word := slotWord 0 0 0x00c#9 0 0 0 0 }
  | .bsw1 => some { slot := .B, long := 0, word := slotWord 0 0 0x00d#9 0 0 0 0 }
  | .epc => some { slot := .B, long := 0, word := slotWord 0 0 0x010#9 0 0 0 0 }
  | .brCondBwhPhDhB2 qp b2 h => some { slot := .B, long := 0, word := slotWord 0 0 (h.d ++ h.wh ++ 0x20#6) 0 (0#4 ++ b2) (h.p ++ 0#3 ++ 0#3) qp }
  | .brIaBwhPhDhB2 b2 h => some { slot := .B, long := 0, word := slotWord 0 0 (h.d ++ h.wh ++ 0x20#6) 0 (0#4 ++ b2) (h.p ++ 0#3 ++ 1#3) 0 }
  | .brRetBwhPhDhB2 qp b2 h => some { slot := .B, long := 0, word := slotWord 0 0 (h.d ++ h.wh ++ 0x21#6) 0 (0#4 ++ b2) (h.p ++ 0#3 ++ 4#3) qp }
  | .brCallBwhPhDhB1B2 qp b1 b2 wh3 d p => some { slot := .B, long := 0, word := slotWord 1 0 (d ++ wh3 ++ 0#5) 0 (0#4 ++ b2) (p ++ 0#3 ++ b1) qp }
  | .breakBImm21 qp imm21 => some { slot := .B, long := 0, word := slotWord 0 (imm21.extractLsb' 20 1) 0 (0#1 ++ (imm21.extractLsb' 14 6)) (imm21.extractLsb' 7 7) (imm21.extractLsb' 0 7) qp }
  | .nopBImm21 qp imm21 => some { slot := .B, long := 0, word := slotWord 2 (imm21.extractLsb' 20 1) 0 (0#1 ++ (imm21.extractLsb' 14 6)) (imm21.extractLsb' 7 7) (imm21.extractLsb' 0 7) qp }
  | .brCondBwhPhDhTarget25 qp imm21 h => some { slot := .B, long := 0, word := slotWord 4 (imm21.extractLsb' 20 1) (h.d ++ h.wh ++ (imm21.extractLsb' 14 6)) (imm21.extractLsb' 7 7) (imm21.extractLsb' 0 7) (h.p ++ 0#3 ++ 0#3) qp }
  | .brWexitBwhPhDhTarget25 qp imm21 h => some { slot := .B, long := 0, word := slotWord 4 (imm21.extractLsb' 20 1) (h.d ++ h.wh ++ (imm21.extractLsb' 14 6)) (imm21.extractLsb' 7 7) (imm21.extractLsb' 0 7) (h.p ++ 0#3 ++ 2#3) qp }
  | .brWtopBwhPhDhTarget25 qp imm21 h => some { slot := .B, long := 0, word := slotWord 4 (imm21.extractLsb' 20 1) (h.d ++ h.wh ++ (imm21.extractLsb' 14 6)) (imm21.extractLsb' 7 7) (imm21.extractLsb' 0 7) (h.p ++ 0#3 ++ 3#3) qp }
  | .brCloopBwhPhDhTarget25 imm21 h => some { slot := .B, long := 0, word := slotWord 4 (imm21.extractLsb' 20 1) (h.d ++ h.wh ++ (imm21.extractLsb' 14 6)) (imm21.extractLsb' 7 7) (imm21.extractLsb' 0 7) (h.p ++ 0#3 ++ 5#3) 0 }
  | .brCexitBwhPhDhTarget25 imm21 h => some { slot := .B, long := 0, word := slotWord 4 (imm21.extractLsb' 20 1) (h.d ++ h.wh ++ (imm21.extractLsb' 14 6)) (imm21.extractLsb' 7 7) (imm21.extractLsb' 0 7) (h.p ++ 0#3 ++ 6#3) 0 }
  | .brCtopBwhPhDhTarget25 imm21 h => some { slot := .B, long := 0, word := slotWord 4 (imm21.extractLsb' 20 1) (h.d ++ h.wh ++ (imm21.extractLsb' 14 6)) (imm21.extractLsb' 7 7) (imm21.extractLsb' 0 7) (h.p ++ 0#3 ++ 7#3) 0 }
  | .brCallBwhPhDhB1Target25 qp b1 imm21 h => some { slot := .B, long := 0, word := slotWord 5 (imm21.extractLsb' 20 1) (h.d ++ h.wh ++ (imm21.extractLsb' 14 6)) (imm21.extractLsb' 7 7) (imm21.extractLsb' 0 7) (h.p ++ 0#3 ++ b1) qp }
  | .movlR1Imm64 qp r1 imm64 => some (longWord (imm64.extractLsb' 22 41) (slotWord 6 (imm64.extractLsb' 63 1) (imm64.extractLsb' 7 9)
      (imm64.extractLsb' 16 5 ++ imm64.extractLsb' 21 1 ++ 0#1) (imm64.extractLsb' 0 7) r1 qp))
  | .brlCondBwhPhDhTarget64 qp imm60 h => some (longWord (imm60.extractLsb' 20 39 ++ 0#2) (slotWord 12 (imm60.extractLsb' 59 1)
      (h.d ++ h.wh ++ imm60.extractLsb' 14 6) (imm60.extractLsb' 7 7) (imm60.extractLsb' 0 7) (h.p ++ 0#3 ++ 0#3) qp))
  | .brlCallBwhPhDhB1Target64 qp b1 imm60 h => some (longWord (imm60.extractLsb' 20 39 ++ 0#2) (slotWord 13 (imm60.extractLsb' 59 1)
      (h.d ++ h.wh ++ imm60.extractLsb' 14 6) (imm60.extractLsb' 7 7) (imm60.extractLsb' 0 7) (h.p ++ 0#3 ++ b1) qp))
  | _ => none

end Sys2Proof
end

