-- ==== Sys2Proof/Machine/Bundle.lean ====
section
/-! DEFINITION. Machine/Bundle.lean: templates and the slots of a bundle (`spec/30_encoding.md` R231 to R233, `spec/40_a_type.md`
R330). -/

namespace Sys2Proof.Machine

/-- The slot types of a template and the stops after its slots (R232). -/
structure Template where
  t0 : SlotType
  t1 : SlotType
  t2 : SlotType
  e0 : Bool := false
  e1 : Bool := false
  e2 : Bool := false
  deriving DecidableEq, Repr

/-- The template codes; `none` is reserved (R232). -/
def template (c : BitVec 5) : Option Template :=
  match c.toNat with
  | 0x00 => some { t0 := .M, t1 := .I, t2 := .I }
  | 0x01 => some { t0 := .M, t1 := .I, t2 := .I, e2 := true }
  | 0x02 => some { t0 := .M, t1 := .I, t2 := .I, e1 := true }
  | 0x03 => some { t0 := .M, t1 := .I, t2 := .I, e1 := true, e2 := true }
  | 0x04 => some { t0 := .M, t1 := .L, t2 := .X }
  | 0x05 => some { t0 := .M, t1 := .L, t2 := .X, e2 := true }
  | 0x08 => some { t0 := .M, t1 := .M, t2 := .I }
  | 0x09 => some { t0 := .M, t1 := .M, t2 := .I, e2 := true }
  | 0x0A => some { t0 := .M, t1 := .M, t2 := .I, e0 := true }
  | 0x0B => some { t0 := .M, t1 := .M, t2 := .I, e0 := true, e2 := true }
  | 0x0C => some { t0 := .M, t1 := .F, t2 := .I }
  | 0x0D => some { t0 := .M, t1 := .F, t2 := .I, e2 := true }
  | 0x0E => some { t0 := .M, t1 := .M, t2 := .F }
  | 0x0F => some { t0 := .M, t1 := .M, t2 := .F, e2 := true }
  | 0x10 => some { t0 := .M, t1 := .I, t2 := .B }
  | 0x11 => some { t0 := .M, t1 := .I, t2 := .B, e2 := true }
  | 0x12 => some { t0 := .M, t1 := .B, t2 := .B }
  | 0x13 => some { t0 := .M, t1 := .B, t2 := .B, e2 := true }
  | 0x16 => some { t0 := .B, t1 := .B, t2 := .B }
  | 0x17 => some { t0 := .B, t1 := .B, t2 := .B, e2 := true }
  | 0x18 => some { t0 := .M, t1 := .M, t2 := .B }
  | 0x19 => some { t0 := .M, t1 := .M, t2 := .B, e2 := true }
  | 0x1C => some { t0 := .M, t1 := .F, t2 := .B }
  | 0x1D => some { t0 := .M, t1 := .F, t2 := .B, e2 := true }
  | _ => none

/-- The slot type executed for PSR.ri; the two halves of an MLX bundle's long slot are one instruction (R330). -/
def Template.slotType (t : Template) (ri : BitVec 2) : SlotType :=
  if ri = 0 then t.t0 else if ri = 1 then (if t.t1 = .L then .X else t.t1) else t.t2

/-- A stop follows the slot (R232). -/
def Template.stop (t : Template) (ri : BitVec 2) : Bool :=
  if ri = 0 then t.e0 else if ri = 1 then (if t.t1 = .L then t.e2 else t.e1) else t.e2

/-- A slot of a bundle (R231). -/
def bundleSlot (b : BitVec 128) (k : Nat) : BitVec 41 := b.extractLsb' (5 + 41 * k) 41

/-- The word executed for PSR.ri: in an MLX bundle that of slot 2 for both (R330). -/
def Template.word (t : Template) (b : BitVec 128) (ri : BitVec 2) : BitVec 41 :=
  bundleSlot b (if ri = 1 && t.t1 = .L then 2 else ri.toNat)

end Sys2Proof.Machine
end

