-- ==== Sys2Proof/Machine/PmuEvents.lean ====
section
/-! DEFINITION. Machine/PmuEvents.lean: what the events of the performance monitors count in one clock
(`spec/62_pmu_events_basic_to_l1.md`, `spec/63_pmu_events_l2_l3_bus.md`), and what qualifies an occurrence of one
(`spec/61_pmu_registers.md` R645 to R662). The activity behind the microarchitectural events is free (R726 (b), D35; log 30): it is
drawn once for each clock, and every counter and every event that looks at it sees the same. -/

namespace Sys2Proof.Machine

/-! ### Tags and address ranges (R646 to R662) -/

/-- `ematch` and `imatch` (R646). That the long instruction of an MLX bundle is matched as one of type I, by the word of its slot 2,
is a DESIGN CHOICE: N31 leaves open how the matcher sees it (log 30). -/
def opcodeMatch (r : Word) (t : SlotType) (enco : BitVec 41) : Bool :=
  let itype := match t with
    | .M => r.getLsbD 63
    | .I | .L | .X => r.getLsbD 62
    | .F => r.getLsbD 61
    | .B => r.getLsbD 60
  let e27 : BitVec 27 := enco.extractLsb' 27 14 ++ enco.extractLsb' 0 13
  itype && ((e27 ^^^ r.extractLsb' 33 27) &&& ~~~ (r.extractLsb' 3 27)) = 0

/-- What an occurrence of an event is qualified by: the address, slot type and encoding of its instruction, its data address, and the
privilege level it runs at. -/
structure EventSrc where
  ia   : Word
  ty   : SlotType
  enco : BitVec 41
  va   : Word
  cpl  : BitVec 2
  deriving DecidableEq, Repr

/-- The breakpoint compare the PMU makes (R655): in fine mode bits 11:0 lie strictly between the limits. -/
def ibrRange (fine : Bool) (lo mask hi addr : Word) : Bool :=
  if fine then
    ((addr ^^^ lo) &&& (breakMask mask &&& ~~~ 0xFFF#64)) = 0 && decide (lo.extractLsb' 0 12 < addr.extractLsb' 0 12)
      && decide (addr.extractLsb' 0 12 < hi.extractLsb' 0 12)
  else ((addr ^^^ lo) &&& breakMask mask) = 0

/-- The constraint by breakpoint pair `n` is switched off (R655, D30). -/
def State.ibrpOff (s : State) (n : Nat) : Bool := s.pmc[14].getLsbD (1 + 3 * n) || (n = 0 && s.pmc[8].getLsbD 0)

/-- `ibrp_match(n)` of an instruction address at a privilege level (R655 to R659, D30, D31, D32). In fine mode pairs 2 and 3 signal with
pairs 0 and 1 (R658), with the privilege bits of IBR1 and IBR3, where the formula of R655 would take those of IBR5 and IBR7
(DESIGN CHOICE, log 30). -/
def State.ibrpMatch (s : State) (n : Nat) (addr : Word) (cpl : BitVec 2) : Bool :=
  let fine := s.pmc[14].getLsbD 13
  let debugging := s.psrDb || s.ibr[1].getLsbD 63 || s.ibr[3].getLsbD 63 || s.ibr[5].getLsbD 63 || s.ibr[7].getLsbD 63
  let (lo, mask, hi) := match n with
    | 0 => (s.ibr[0], s.ibr[1], s.ibr[4])
    | 1 => (s.ibr[2], s.ibr[3], s.ibr[6])
    | 2 => if fine then (s.ibr[0], s.ibr[1], s.ibr[4]) else (s.ibr[4], s.ibr[5], 0)
    | _ => if fine then (s.ibr[2], s.ibr[3], s.ibr[6]) else (s.ibr[6], s.ibr[7], 0)
  let adr := ibrRange fine lo mask hi addr != (n = 0 && s.pmc[8].getLsbD 1)
  s.ibrpOff n || debugging || (adr && mask.getLsbD (56 + cpl.toNat))

/-- The opcode half of `tag[n]` (R649). -/
def State.opcodeTag (s : State) (e : EventSrc) (n : Nat) : Bool :=
  s.pmc[15].getLsbD n || opcodeMatch (if n % 2 = 0 then s.pmc[8] else s.pmc[9]) e.ty e.enco

/-- `tag[n]` (R649). -/
def State.pmuTag (s : State) (e : EventSrc) (n : Nat) : Bool := s.opcodeTag e n && s.ibrpMatch n e.ia e.cpl

/-- `DBRRangeMatch` of a data address (R661). -/
def State.dbrRange (s : State) (va : Word) : Bool :=
  let hit := fun (n : Nat) (even odd : Word) =>
    s.pmc[13].getLsbD (45 + n) && !s.pmc[13].getLsbD (3 + 8 * n) && ((va ^^^ even) &&& breakMask odd) = 0
  !s.psrDb && (hit 0 s.dbr[0] s.dbr[1] || hit 1 s.dbr[2] s.dbr[3] || hit 2 s.dbr[4] s.dbr[5] || hit 3 s.dbr[6] s.dbr[7])

/-- Some enabled pair of PMC13 constrains memory events by the instruction tag (bit `b` = 1) or by the data address (bit 0)
(R661, R662). -/
def State.pmc13Uses (s : State) (b : Nat) : Bool :=
  (List.range 4).any (fun n => s.pmc[13].getLsbD (45 + n) && !s.pmc[13].getLsbD (3 + 8 * n + b))

/-- Which constraint registers an event heeds: the flags IAR/DAR/OPC of R722, with IBRP1 for prefetches (R659, R724 (c)). -/
inductive Qual where
  /-- N/N/N. -/
  | none
  /-- Y/N/N: IBRP0. -/
  | iar
  /-- Y/N/N of a prefetch: IBRP1. -/
  | prefetch
  /-- Y/N/N of a line tagged as a demand fetch or as a prefetch (R790). -/
  | line
  /-- Y/N/Y. -/
  | tag
  /-- Y/Y/Y: through PMC13. -/
  | mem
  deriving DecidableEq, Repr

/-- The flags of an event (R895). -/
def eventQual (code : Nat) : Qual :=
  if code ∈ [0x03, 0x05, 0x06, 0x09, 0x0b, 0x40, 0x42, 0x43, 0x47, 0x48, 0x4b, 0x4d, 0x4e, 0x4f] then .iar
  else if code ∈ [0x44, 0x45, 0x5f] then .prefetch
  else if code ∈ [0x41, 0x46, 0x65, 0x66] then .line
  else if code ∈ [0x08, 0x11, 0x50, 0x51, 0x54, 0x5b, 0x61, 0x63, 0x68, 0x6a] then .tag
  else if code ∈ [0x20, 0x2c, 0x2d, 0x4a, 0x56, 0x57, 0x58] then .mem
  else if 0xa0 ≤ code ∧ code < 0xb0 then (if code % 4 < 2 then .mem else .none)
  else if 0xb0 ≤ code ∧ code < 0xbc then .mem
  else if (0xc0 ≤ code ∧ code < 0xdf) ∧ code ≠ 0xca then .mem
  else .none

/-- An occurrence is qualified (R650, R661, R722); `pf` says that its line was tagged as a prefetch. R661 has one pair of data breakpoint
registers: of several enabled ones the tag must hold where any of them wants it, and the data address where any wants that (DESIGN CHOICE,
log 30). -/
def State.qualified (s : State) (q : Qual) (e : EventSrc) (pf : Bool) : Bool :=
  match q with
  | .none => true
  | .iar => s.ibrpMatch 0 e.ia e.cpl
  | .prefetch => s.ibrpMatch 1 e.ia e.cpl
  | .line => s.ibrpMatch (if pf then 1 else 0) e.ia e.cpl
  | .tag => s.pmuTag e 0
  | .mem => (!s.pmc13Uses 1 || s.pmuTag e 0) && (!s.pmc13Uses 0 || s.dbrRange e.va)

/-! ### The codes -/

/-- The largest increment of an event in one clock (R895), for a unit mask where one code names two events (R703); none for a code that is
no event. -/
def eventMax (code umask : Nat) : Option Nat :=
  match code with
  | 0x00 | 0x01 | 0x02 | 0x03 | 0x04 | 0x05 | 0x06 | 0x07 | 0x11 | 0x12 | 0x13 | 0x24 | 0x26 | 0x32 | 0x40 | 0x41 => some 1
  | 0x42 | 0x43 | 0x44 | 0x45 | 0x46 | 0x47 | 0x48 | 0x49 | 0x4a | 0x4b | 0x52 | 0x53 | 0x55 | 0x57 | 0x5f | 0x60 => some 1
  | 0x61 | 0x64 | 0x65 | 0x66 | 0x67 | 0x69 | 0x71 | 0x80 | 0x81 | 0x82 | 0x83 | 0x84 | 0x85 | 0x86 | 0x87 | 0x88 => some 1
  | 0x89 | 0x8a | 0x8b | 0x8c | 0x8d | 0x8e | 0x8f | 0x90 | 0x91 | 0x92 | 0x93 | 0x9d | 0x9e | 0x9f | 0xa1 | 0xa2 => some 1
  | 0xa3 | 0xa5 | 0xa6 | 0xa7 | 0xa9 | 0xaa | 0xab | 0xad | 0xae | 0xaf | 0xb0 | 0xb5 | 0xb6 | 0xb7 | 0xbb | 0xbc => some 1
  | 0xbd | 0xbe | 0xbf | 0xc0 | 0xc6 | 0xc8 | 0xca | 0xcb | 0xdb | 0xdc | 0xdd | 0xde | 0xdf => some 1
  | 0x0b | 0x20 | 0x4f | 0x56 | 0x58 | 0x59 | 0x68 | 0x6a | 0x70 | 0x72 | 0x73 | 0x94 | 0x98 | 0x9a | 0x9c => some 2
  | 0xc2 | 0xc4 | 0xc7 | 0xd0 | 0xd1 | 0xd2 => some 2
  | 0x54 | 0x5b | 0x63 | 0x97 => some 3
  | 0x09 | 0x2c | 0x2d | 0xa0 | 0xa8 | 0xac | 0xb1 | 0xb2 | 0xb4 | 0xc1 | 0xc3 | 0xc5 | 0xc9 | 0xcd | 0xce | 0xcf => some 4
  | 0x4e => some 5
  | 0x08 | 0x4d | 0x50 | 0x51 => some 6
  | 0x28 | 0x29 | 0x2a | 0x2b | 0x95 | 0x96 | 0x99 | 0x9b => some 7
  | 0xb8 => some (if umask < 8 then 1 else 4)
  | 0xb9 => some (if umask < 8 then 4 else 1)
  | 0xba => some (if umask < 8 then 2 else 1)
  | _ => none

/-- The L1D set of an event code (R724 (a)). -/
def l1dSet (code : Nat) : Option Nat :=
  if 0xc0 ≤ code ∧ code ≤ 0xc3 then some 0
  else if code = 0xc4 ∨ code = 0xc5 ∨ code = 0xc7 then some 1
  else if code = 0xca then some 2
  else if 0xcd ≤ code ∧ code ≤ 0xcf then some 3
  else if 0xd0 ≤ code ∧ code ≤ 0xd2 then some 4
  else none

/-- The L2 set of an event code (R702, R703). -/
def l2Set (code umask : Nat) : Option Nat :=
  if 0xa0 ≤ code ∧ code ≤ 0xaf ∧ code ≠ 0xa4 then some 0
  else if 0xb0 ≤ code ∧ code ≤ 0xb2 then some 1
  else if 0xb4 ≤ code ∧ code ≤ 0xb7 then some 2
  else if 0xb8 ≤ code ∧ code ≤ 0xba then some (if umask < 8 then 3 else 4)
  else if 0xbc ≤ code ∧ code ≤ 0xbf then some 5
  else none

/-- The event may lead its L2 set in PMC4 (R702). -/
def l2Prime (code : Nat) : Bool :=
  if 0xa0 ≤ code ∧ code ≤ 0xaf then code % 4 = 1 || code = 0xa0 || code = 0xa8 || code = 0xac
  else if 0xb0 ≤ code ∧ code ≤ 0xb2 then code = 0xb0
  else if 0xb4 ≤ code ∧ code ≤ 0xb7 then code = 0xb4
  else true

/-- The L2 OZQ cancel events, of which one may be measured (R702). -/
def ozqCancels (code : Nat) : Bool := code = 0xa0 || code = 0xa8 || code = 0xac

/-- Event select of a counter's configuration (R633). -/
def pmcEs (r : Word) : Nat := (r.extractLsb' 8 8).toNat

/-- Unit mask of a counter's configuration (R634). -/
def pmcUmask (r : Word) : Nat := (r.extractLsb' 16 4).toNat

/-- The unit mask that applies to a counter: for the companions of an L2 set that of the prime event in PMC4 (R702). For codes 0xb8 to 0xba it
is PMC4's also where PMC4 selects no event of sets 3 and 4, which R703 does not foresee (DESIGN CHOICE, log 30). -/
def State.umaskOf (s : State) (r : Word) : Nat :=
  let own := pmcUmask r
  let lead := pmcUmask s.pmc[4]
  match l2Set (pmcEs r) lead with
  | some k => if k = 1 ∨ k = 2 then own else lead
  | none => own

/-- An event of an L1D or L2 set is programmed against R724 and R702: its set is not that of the prime event, or it is of L2 set 0 and more
than one of the OZQ cancel events is selected (R701). -/
def State.setViolated (s : State) (r : Word) : Bool :=
  let code := pmcEs r
  let lead := pmcEs s.pmc[4]
  let u := s.umaskOf r
  let codes := [pmcEs s.pmc[4], pmcEs s.pmc[5], pmcEs s.pmc[6], pmcEs s.pmc[7]]
  ((l1dSet code).isSome && l1dSet code != l1dSet (pmcEs s.pmc[5]))
    || ((l2Set code u).isSome && (l2Set code u != l2Set lead (pmcUmask s.pmc[4]) || !l2Prime lead
          || (l2Set code u = some 0 && codes.any (fun c => ozqCancels c && codes.any (fun d => ozqCancels d && d != c)))))

/-! ### The free activity of a clock (R726 (b), D35) -/

/-- A free word of one clock of the step: clock `k`, the stream of activity, its occurrence `j`, and which word of it (log 4). -/
def State.draw (s : State) (k stream j a : Nat) : Word := s.free (4 * (250000 + (((k * 512 + stream) * 8 + j) * 8 + a)) + 2)

/-- One possible occurrence of an activity: whether it is there, why, and whose it is. -/
structure Occ where
  there : Bool
  cause : Word
  src   : EventSrc
  deriving DecidableEq, Repr

/-- A slot type from two free bits. -/
def slotTypeOf (b : BitVec 2) : SlotType := match b.toNat with
  | 0 => .M
  | 1 => .I
  | 2 => .F
  | _ => .B

/-- The occurrence `j` of a stream in clock `k`. -/
def State.occ (s : State) (k stream j : Nat) : Occ :=
  let op := s.draw k stream j 3
  { there := (s.draw k stream j 0).getLsbD 0, cause := s.draw k stream j 1,
    src := { ia := s.draw k stream j 2, ty := slotTypeOf (op.extractLsb' 41 2), enco := op.setWidth 41, va := s.draw k stream j 4,
             cpl := s.cpl } }

/-- How many of the first `m` occurrences of a stream a test selects and the constraint registers let through. -/
def State.occCount (s : State) (k stream m : Nat) (q : Qual) (sel : Occ → Bool) : Nat :=
  ((List.range m).filter (fun j =>
    let o := s.occ k stream j
    o.there && sel o && s.qualified q o.src (o.cause.getLsbD 32))).length

/-- The one reason of sixteen that an occurrence has, where a unit mask selects among reasons. -/
def Occ.kind (o : Occ) : Nat := o.cause.toNat % 16

/-- A free flag of an occurrence. -/
def Occ.flag (o : Occ) (i : Nat) : Bool := o.cause.getLsbD (8 + i)

/-! ### Back-end cycle accounting (R760 to R765, R770, R772) -/

/-- The six causes of a back-end bubble, by priority (R770). -/
inductive BackCause where
  | xpn | bru | l1dFpu | exe | rse | frontEnd
  deriving DecidableEq, Repr

/-- The cause of a bubble in clock `k`: of those that hold the first in the order of R770; the front end where none else does. -/
def State.backCause (s : State) (k : Nat) : BackCause :=
  let holds := s.draw k 0 0 0
  if holds.getLsbD 0 then .xpn
  else if holds.getLsbD 1 then .bru
  else if holds.getLsbD 2 then .l1dFpu
  else if holds.getLsbD 3 then .exe
  else if holds.getLsbD 4 then .rse
  else .frontEnd

/-- The rows of BE_EXE_BUBBLE, from the free sub-causes `d` (R762). -/
def exeRow (d : Word) (umask : Nat) : Bool :=
  match umask with
  | 0 => true
  | 1 => d.getLsbD 1 || d.getLsbD 5
  | 8 => d.getLsbD 3 || d.getLsbD 4 || d.getLsbD 6 || d.getLsbD 7
  | u => decide (u < 8) && d.getLsbD u

/-- The rows of BE_L1D_FPU_BUBBLE (R764); none where the count is undefined. -/
def l1dFpuRow (d : Word) (umask : Nat) : Option Bool :=
  let l1d := d &&& 0xFFB8 != 0
  match umask with
  | 0 => some true
  | 1 => some (d.getLsbD 1)
  | 2 => some (l1d || !d.getLsbD 1 || d.getLsbD 2)
  | 6 => none
  | u => some (d.getLsbD u)

/-- The rows of BE_RSE_BUBBLE: AR_DEP comes before OVERFLOW, UNDERFLOW and LOADRS (R765). -/
def rseRow (d : Word) (umask : Nat) : Bool :=
  match umask % 8 with
  | 0 => true
  | 1 => d.getLsbD 1
  | 2 => d.getLsbD 2
  | 3 | 4 | 5 => !d.getLsbD 2 && d.getLsbD (umask % 8)
  | _ => false

/-- What the back-end events count of a clock: nothing where an instruction retired in it, else its one bubble (R772). -/
def State.backValue (s : State) (k : Nat) (retiring : Bool) (code umask : Nat) : Option Nat :=
  let c := s.backCause k
  let d := s.draw k 0 0 1
  let one := fun b : Bool => some (if !retiring && b then 1 else 0)
  match code with
  | 0x00 =>
    one (match umask % 4 with
      | 0 => true
      | 1 => c = .frontEnd
      | 2 => c = .l1dFpu || c = .rse
      | _ => false)
  | 0x01 => one (c = .rse && rseRow d umask)
  | 0x02 => one (c = .exe && exeRow d umask)
  | 0x04 =>
    one (match umask % 4 with
      | 0 => c = .xpn || c = .bru
      | 1 => c = .bru
      | 2 => c = .xpn
      | _ => false)
  | _ =>
    match l1dFpuRow d umask with
    | none => none
    | some b => one (c = .l1dFpu && b)

/-! ### Front-end cycle accounting (R766 to R769, R771) -/

/-- The front-end causes by priority, under their row numbers: FEFLUSH, TLBMISS, IMISS, PLP, BR_ILOCK, BRQ, BI, FILL_RECIRC, BUBBLE,
IBFULL (R766, R771). -/
def frontOrder : List Nat := [1, 7, 6, 11, 12, 10, 9, 8, 13, 5]

/-- The highest cause that holds (R771). -/
def frontCause (holds : Word) : Option Nat := frontOrder.find? (fun c => holds.getLsbD c)

/-- A row of the LOST_BW events selects a cause; none where the count is undefined or the selection illegal (R766, R768, R769). At the exit
of the instruction buffer IBFULL is "meaningless". -/
def lostRow (exit_ : Bool) (umask cause : Nat) : Option Bool :=
  if umask = 0 then some true
  else if umask ∈ [2, 3, 14, 15] || (exit_ && umask = 5) then none
  else some (umask = cause)

/-- A row of FE_BUBBLE selects a cause; the four branch causes are one (R767). -/
def bubbleRow (umask cause : Nat) : Option Bool :=
  let branch := decide (9 ≤ cause) && decide (cause ≤ 12)
  match umask with
  | 0 => some true
  | 2 => none
  | 3 => some (cause = 13 || branch)
  | 4 => some (cause = 6 || cause = 7)
  | 9 => some branch
  | 10 => some (cause = 8 || branch)
  | 11 => some (cause ≠ 1 && cause ≠ 13)
  | 12 => some (cause ≠ 5)
  | 14 | 15 => some false
  | u => some (u = cause && !branch)

/-- The two bundles of a clock, valid or lost: both to the cause of a stall, else only bundle 1, as unreached (R766). -/
def lostBundles (holds : Word) : List Nat :=
  match frontCause holds with
  | some c => (if holds.getLsbD 16 then [c] else []) ++ (if holds.getLsbD 17 then [c] else if holds.getLsbD 18 then [4] else [])
  | none => if holds.getLsbD 17 then [4] else []

/-- What a list of selections counts; undefined as soon as one is. -/
def countSelected (l : List (Option Bool)) : Option Nat :=
  l.foldl (fun n b => match n, b with
    | some n, some b => some (if b then n + 1 else n)
    | _, _ => none) (some 0)

/-- What the front-end events count of a clock: at the entrance of the instruction buffer (FE_LOST_BW, FE_BUBBLE), and at its exit, for
BE_LOST_BW_DUE_TO_FE only where the back end is not stalled for another reason (R766 to R769). -/
def State.frontValue (s : State) (k : Nat) (retiring : Bool) (code umask : Nat) : Option Nat :=
  let entrance := s.draw k 1 0 0
  let exit_ := s.draw k 1 0 1 &&& ~~~ 0x20
  match code with
  | 0x70 => if lostRow false umask 0 = none then none else countSelected ((lostBundles entrance).map (lostRow false umask))
  | 0x71 =>
    match frontCause entrance with
    | some c => (bubbleRow umask c).map (fun b => if b then 1 else 0)
    | none => if umask = 2 then none else some 0
  | _ =>
    if lostRow true umask 0 = none then none
    else if code = 0x72 && !retiring && s.backCause k != .frontEnd then some 0
    else countSelected ((lostBundles exit_).map (lostRow true umask))

/-! ### Dispersal (R736 to R740) -/

/-- The syllables of a clock in which dispersal is not stalled: how many are dispersed, and how many are overcounted, so that
6 = dispersed + not dispersed - overcounted (R740). -/
def State.dispersed (s : State) (k : Nat) : Nat × Nat :=
  let d := 1 + (s.draw k 2 0 1).toNat % 6
  (d, (s.draw k 2 0 2).toNat % (min 2 (d - 1) + 1))

/-- What the dispersal events count of a clock. The overcounted syllables are among those of the explicit and implicit stops
(R739). -/
def State.dispersalValue (s : State) (k code umask : Nat) : Nat :=
  if (s.draw k 2 0 0).getLsbD 0 then (if code = 0x49 then 1 else 0)
  else
    let (d, extra) := s.dispersed k
    let mine := fun (stream j : Nat) => s.qualified .iar (s.occ k stream j).src false
    let reason := fun j => let o := s.occ k 4 j; if j < extra then o.kind % 2 else o.kind % 4
    match code with
    | 0x4d => ((List.range d).filter (mine 3)).length
    | 0x4e => ((List.range (6 - d + extra)).filter (fun j => umask.testBit (reason j) && mine 4 j)).length
    | 0x4f => ((List.range extra).filter (fun j => umask.testBit (reason j) && mine 4 j)).length
    | _ => 0

/-! ### Data references (R812 to R814, R822, R861 to R867) -/

/-- The page walker is enabled for a data address (R863). -/
def State.hpwOn (s : State) (va : Word) : Bool := s.cr.pta.getLsbD 0 && s.psrDt && rrVe (s.regionReg va)

/-- A data reference to an address misses the L2 DTLB: no translation of it is there, or a walk of this step has brought it (`was`)
(R864). -/
def State.dtlbMisses (s : State) (va : Word) (was : Bool) : Bool :=
  s.psrDt && ((s.lookup false va).isEmpty || (was && s.events.contains (.tlbMiss false va .vhpt false)))

/-- A data reference to an address misses the L1 DTLB but not the L2 DTLB: the L1 DTLB has no segment of it, or this step has brought it
(`was`) (R867). -/
def State.l1dMisses (s : State) (va : Word) (was : Bool) : Bool :=
  s.psrDt && (s.l1dMoves va || (was && s.events.contains (.tlbMiss false va .l2 false)))

/-- An event selects a data reference: reads are served by the L1D through ports 0 and 1, misses are among the reads, a transfer from the
L2 DTLB is of a read that hits there, the walker is asked for each L2 DTLB miss while it is enabled, and inserts are among what it is
asked for (R812, R814, R861 to R864, R867). R37 and R822 say that DCR affects DATA_DEBUG_REGISTER_MATCHES (0xc6) and not how: here it has no
effect on it (DESIGN CHOICE, log 30). -/
def State.refSelects (s : State) (code umask j : Nat) (o : Occ) : Bool :=
  let read := decide (j < 2) && o.flag 0
  let tlbMiss := s.dtlbMisses o.src.va (o.flag 2)
  let walk := tlbMiss && s.hpwOn o.src.va
  match code with
  | 0xc3 | 0xc5 => true
  | 0xc2 | 0xc4 => read
  | 0xc7 => read && o.flag 1 && (!umask.testBit 0 || o.flag 3)
  | 0xc0 => read && !tlbMiss && s.l1dMisses o.src.va (o.flag 4)
  | 0xc1 => tlbMiss
  | 0x2d => walk
  | 0xc9 => walk && o.flag 5
  | 0x2c => walk && o.flag 5 && o.flag 6
  | 0xc6 => s.dbrRange o.src.va
  | _ => false

/-- What the events of data references count of a clock. -/
def State.refValue (s : State) (k code umask m : Nat) : Nat :=
  min m ((List.range 4).filter (fun j =>
    let o := s.occ k 5 j
    o.there && s.refSelects code umask j o && s.qualified .mem o.src false)).length

/-! ### The system bus (R870 to R899) -/

/-- The one transaction a clock can start, by its kind: 0 BRL of data, 1 BRL of code, 2 BRIL, 3 BIL, 4 BWL of a modified line, 5 BWL of
coalesced writes, 6 a clean castout, 7 BRP, 8 BWP, 9 IORD, 10 IOWR, 11 a locked one, others another one (R870). The processor is its
initiator (D13), so that IO alone counts nothing (R871). Bits 8 and 9 of the cause are the snoop response: HIT, HITM. -/
def busSelects (code umask : Nat) (o : Occ) : Option Bool :=
  let self := umask.testBit 1
  let k := o.kind
  let line := decide (k ≤ 3)
  let hit := o.flag 0 && !o.flag 1
  let hitm := o.flag 1
  match code with
  | 0x80 => some (decide (k ≤ 1) && hit)
  | 0x81 => some (decide (k ≤ 1) && hitm)
  | 0x82 => some (k = 3 && hitm)
  | 0x83 => some ((k = 2 || k = 3) && hitm)
  | 0x84 => some (line && hitm)
  | 0x87 => some self
  | 0x89 => if umask % 4 = 2 then none else some false
  | 0x8a => some (self && (match umask / 4 with
      | 0 => false
      | 1 => k ∈ [0, 1, 2, 4, 5]
      | 2 => k = 7 || k = 8
      | _ => k ≤ 8))
  | 0x8b => some (self && (match umask / 4 with
      | 0 => k = 3
      | 1 => decide (k ≤ 1)
      | 2 => k = 2
      | _ => line))
  | 0x8c => some (self && k = 0)
  | 0x8d => some (self && k = 7)
  | 0x90 => some (self && (k = 9 || k = 10))
  | 0x91 => some (self && k = 9)
  | 0x92 =>
    if umask = 9 then none
    else some (self && (match umask / 4 with
      | 0 => false
      | 1 => k = 4 || k = 5
      | 2 => k = 6
      | _ => decide (4 ≤ k) && decide (k ≤ 6)))
  | 0x93 => if umask % 4 = 1 then none else some (self && k = 11)
  | _ => none

/-- The BIL transactions that the bus has carried in the first clocks of a step: those the free activity has, as long as an `fc` has one
due (R870). -/
def State.bils (s : State) : Nat → Nat
  | 0 => 0
  | k + 1 =>
    let o := s.occ k 39 0
    if s.bils k < s.bilDue ∧ o.there = true ∧ o.kind = 3 then s.bils k + 1 else s.bils k

/-- The transaction that clock `k` starts: a BIL only where an `fc` has one due, as it is "Caused by flush cache (fc) instruction only" (R870);
that each `fc` causes at most one, of its 128-byte line, is a DESIGN CHOICE (log 30). -/
def State.busOcc (s : State) (k : Nat) : Occ :=
  let o := s.occ k 39 0
  if o.kind = 3 ∧ s.bilDue ≤ s.bils k then { o with cause := o.cause ||| 15 } else o

/-- What a transaction event counts of clock `k`. -/
def State.busValue (s : State) (k code umask : Nat) : Option Nat :=
  (busSelects code umask (s.busOcc k)).map (fun b => if b && (s.busOcc k).there then 1 else 0)

/-- The live requests of a bus queue in a clock: any number up to `most`. -/
def State.liveRequests (s : State) (k stream most : Nat) : Nat := (s.draw k stream 0 0).toNat % (most + 1)

/-- Live requests of the in-order queue, at most 8 (R215, R880). -/
def State.liveInOrder (s : State) (k : Nat) : Nat := s.liveRequests k 41 8

/-- Live requests of the out-of-order queue, at most 18, and with those of the in-order queue at most the 19 transactions that one processor
has outstanding (R215, R885; the one agent, log 34). -/
def State.liveOutOfOrder (s : State) (k : Nat) : Nat := s.liveRequests k 42 (min 18 (19 - s.liveInOrder k))

/-- A number of live requests as two events give it: the upper bits and the lower `low` ones (R875, R880, R884, R885). -/
def liveDigits (low : Nat) (hi : Bool) (n : Nat) : Nat := if hi then n / 2 ^ low else n % 2 ^ low

/-! ### The L3 cache (R707 to R711) -/

/-- The one access to the L3 a clock can make, by its kind: 0 demand instruction fetch, 1 instruction prefetch, 2 and 5 data reads, 3 a
read for ownership, 4 a write back of the L2, the rest the page walker's; flag 0 says that it misses. -/
def l3Selects (code umask : Nat) (o : Occ) : Bool :=
  let k := o.kind
  let outcome := match umask % 4 with
    | 0 => false
    | 1 => !o.flag 0
    | 2 => o.flag 0
    | _ => true
  match code with
  | 0xdb => true
  | 0xdc => o.flag 0
  | 0xdd => outcome && (match umask / 4 with
      | 0 => k = 0
      | 1 => decide (k ≤ 1)
      | 2 => k = 2 || k = 5
      | _ => k ≠ 3 && k ≠ 4)
  | _ => outcome && (match umask / 4 with
      | 0 => false
      | 1 => k = 3
      | 2 => k = 4
      | _ => k = 3 || k = 4)

/-! ### The L2 cache (R836 to R859) -/

/-- A row of an L2 event selects an occurrence; none where the count is undefined. The three OZQ cancel events see one stream of cancels:
of the first reason set (flag 0), of the second (flag 1, not 0), or late ones. -/
def l2Selects (code umask : Nat) (o : Occ) : Option Bool :=
  let k := o.kind
  if code = 0xa0 then
    some (match umask % 8 with
      | 0 => true
      | u => decide (u ≤ 4) && !o.flag 0 && !o.flag 1 && k = u)
  else if code = 0xac then some (umask ≠ 3 && o.flag 0 && k = umask)
  else if code = 0xa8 then some (umask ∉ [7, 11, 14] && !o.flag 0 && o.flag 1 && k = umask)
  else if 0xa0 ≤ code ∧ code ≤ 0xaf then
    some (if code % 4 ≠ 1 then true
      else match umask with
        | 0 | 1 => true
        | 2 | 3 => k = 2
        | 8 | 9 | 10 | 11 => k = 8
        | u => decide (u < 14) && k = u)
  else
    match code with
    | 0xb0 => if umask = 3 ∨ umask = 7 then none else some (umask = 9 || (umask ∈ [1, 2, 5, 6, 8, 10, 11] && k = umask))
    | 0xb4 => some (if umask = 0 then k ∉ [1, 5, 6] else umask ∉ [3, 7, 15] && k = umask)
    | 0xb8 => some (if umask < 8 then umask ∉ [3, 7] && k = umask else decide (umask ≤ 12) && k = umask)
    | 0xbc | 0xbd | 0xbe | 0xbf => if umask = 0 then some true else none
    | _ => some true

/-- The stream of an L2 event: the aliases of a code and the three OZQ cancel events share one. -/
def l2Stream (code umask : Nat) : Nat :=
  if 0xa0 ≤ code ∧ code ≤ 0xaf then (if code ∈ [0xa0, 0xa8, 0xac] then 20 else 20 + code % 4)
  else if 0xb8 ≤ code ∧ code ≤ 0xba then (code - 0xb8) + (if umask < 8 then 24 else 27)
  else 64 + code

/-- The requests to the L2 of a clock, as reads and writes: `room` more of them at most, a semaphore (flags 0 and 1) being one of each
(R838). -/
def State.l2Requests (s : State) (k : Nat) : Nat → List Nat → List (Bool × Bool × EventSrc)
  | _, [] => []
  | room, j :: js =>
    let o := s.occ k 32 j
    let need := if o.flag 0 && o.flag 1 then 2 else 1
    if o.there && decide (need ≤ room) then (o.flag 0 || !o.flag 1, o.flag 1, o.src) :: s.l2Requests k (room - need) js
    else s.l2Requests k room js

/-- L2_DATA_REFERENCES: reads and writes, a semaphore being both (R838). -/
def State.l2DataRefs (s : State) (k umask : Nat) : Nat :=
  (((s.l2Requests k 4 (List.range 4)).filter (fun r => s.qualified .mem r.2.2 false)).map (fun r =>
    (if umask.testBit 0 && r.1 then 1 else 0) + (if umask.testBit 1 && r.2.1 then 1 else 0))).sum

/-! ### One clock of an event -/

/-- The test of the events that count occurrences of a stream of their own: the streams of the front end, the ALAT, the pins and the bus
queues; streaming prefetches (0x5f) are among all prefetches (0x44, R552, R795). None for a code that is no such event, or whose count
is undefined for the unit mask. -/
def plainSelects (code umask : Nat) (o : Occ) : Option Bool :=
  match code with
  | 0x5f => some (o.flag 0)
  | 0x58 => some (umask.testBit (if o.flag 0 then 1 else 0))
  | 0x67 => some (match umask % 4 with
      | 2 => o.flag 0
      | 3 => true
      | _ => false)
  | 0x85 | 0x8f => if umask % 4 = 1 then none else some (umask.testBit 1)
  | 0x86 => some (umask.testBit 1)
  | 0x8e => some (umask % 4 = 1)
  | 0x9e => some ((List.range 4).any (fun i => umask.testBit i && o.flag i))
  | 0x9f => some ((List.range 2).any (fun i => umask.testBit i && o.flag i))
  | _ => some true

/-- A count that is undefined for the unit mask is one for every occurrence. -/
def State.selectCount (s : State) (k stream m : Nat) (q : Qual) (sel : Occ → Option Bool) : Option Nat :=
  if (sel (s.occ k stream 0)).isNone then none else some (s.occCount k stream m q (fun o => (sel o).getD false))

/-- The fetch TLB events see the TLBs as they are: a miss is of an address that the L1 ITLB does not hold, or did not before this step
(R866); a line is filled into the L1I only where it does (R794). -/
def State.fetchSelects (s : State) (code umask : Nat) (o : Occ) : Bool :=
  let ia := o.src.ia
  let held := (s.l1Hit ia).isSome
  if code = 0x41 then !s.psrIt || held
  else
    let missed := fun b : MissService => s.events.any (fun e => match e with
      | .tlbMiss true va c _ => va = ia && c = b
      | _ => false)
    let l2 := (s.lookup true ia).isEmpty || (o.flag 0 && missed .vhpt)
    s.psrIt && (!held || missed .l2) && (match umask % 4 with
      | 0 => false
      | 2 => l2
      | _ => true)

/-- What a microarchitectural event counts of clock `k`; none where the spec gives the count no value. `retiring`: an instruction retired
in that clock. -/
def State.clockValue (s : State) (k : Nat) (retiring : Bool) (code umask m : Nat) : Option Nat :=
  let q := eventQual code
  if code ∈ [0x00, 0x01, 0x02, 0x04, 0xca] then s.backValue k retiring code umask
  else if 0x70 ≤ code ∧ code ≤ 0x73 then s.frontValue k retiring code umask
  else if code ∈ [0x49, 0x4d, 0x4e, 0x4f] then some (s.dispersalValue k code umask)
  else if code ∈ [0x2c, 0x2d, 0xc0, 0xc1, 0xc2, 0xc3, 0xc4, 0xc5, 0xc6, 0xc7, 0xc9] then some (s.refValue k code umask m)
  else if code = 0x48 && !s.cr.pta.getLsbD 0 then some 0
  else if code ∈ [0x94, 0x95] then some (liveDigits 3 (code = 0x94) (s.liveRequests k 40 16))
  else if code ∈ [0x97, 0x98] then some (liveDigits 2 (code = 0x98) (s.liveInOrder k))
  else if code ∈ [0x99, 0x9a] then some (liveDigits 3 (code = 0x9a) (s.liveOutOfOrder k))
  else if code ∈ [0x9b, 0x9c] then some (liveDigits 3 (code = 0x9c) (s.liveRequests k 43 16))
  else if code = 0x96 then some (s.liveRequests k 44 7)
  else if code ∈ [0x80, 0x81, 0x82, 0x83, 0x84, 0x87, 0x89, 0x8a, 0x8b, 0x8c, 0x8d, 0x90, 0x91, 0x92, 0x93] then
    s.busValue k code umask
  else if 0xdb ≤ code ∧ code ≤ 0xde then some (s.occCount k 38 1 .mem (l3Selects code umask))
  else if code = 0xb2 then some (s.l2DataRefs k umask)
  else if 0xa0 ≤ code ∧ code ≤ 0xbf then s.selectCount k (l2Stream code umask) m q (l2Selects code umask)
  else if code = 0x41 ∨ code = 0x47 then some (s.occCount k (64 + code) m q (s.fetchSelects code umask))
  else if code = 0x5f then s.selectCount k (64 + 0x44) m q (plainSelects code umask)
  else s.selectCount k (64 + code) m q (plainSelects code umask)

end Sys2Proof.Machine
end

