-- ==== Sys2Proof/Machine/Pmu.lean ====
section
/-! DEFINITION. Machine/Pmu.lean: the performance monitoring unit (`spec/61_pmu_registers.md`,
`spec/62_pmu_events_basic_to_l1.md` R726), the interval timer (`spec/10_state.md` R33) and the interrupts they raise
(`spec/60_exceptions.md` R577 to R582). -/

namespace Sys2Proof.Machine

/-! ### The interrupt controller (R42, R577 to R582) -/

/-- Vectors 1 and 3 to 15 are reserved (R577). -/
def vectorValid (v : Nat) : Bool := v = 0 || v = 2 || (decide (16 ≤ v) && decide (v < 256))

/-- Priority of a vector: NMI above all, ExtINT next, then by vector number (R577). -/
def vectorRank (v : Nat) : Nat := if v = 2 then 257 else if v = 0 then 256 else v

/-- Priority class: vector div 16; ExtINT and NMI above the ordinary ones (R577). -/
def vectorClass (v : Nat) : Nat := if v = 2 then 17 else if v = 0 then 16 else v / 16

/-- The performance monitor requests its interrupt: some enabled counter is in the overflowed state (R578, R582). -/
def State.pmuRequest (s : State) : Bool :=
  (s.pmc[4].getLsbD 5 && s.pmd[4].getLsbD 47) || (s.pmc[5].getLsbD 5 && s.pmd[5].getLsbD 47)
    || (s.pmc[6].getLsbD 5 && s.pmd[6].getLsbD 47) || (s.pmc[7].getLsbD 5 && s.pmd[7].getLsbD 47)

/-- The vector of an interrupt register (ITV, PMV): bits 7:0, `m` bit 16 (R41, R42). -/
def vectorOf (w : Word) : Nat := (w.extractLsb' 0 8).toNat

/-- The pending bit of an unmasked, valid vector. -/
def vectorBit (w : Word) : BitVec 256 :=
  if w.getLsbD 16 || !vectorValid (vectorOf w) then 0 else 1#256 <<< vectorOf w

/-- All pending vectors: the latched ones, and the performance monitor's while it requests (R580, R582). -/
def State.pendingVectors (s : State) : BitVec 256 :=
  s.cr.irr ||| (if s.pmuRequest then vectorBit s.cr.pmv else 0)

/-- TPR does not mask a vector (R42, R577). -/
def tprAllows (tpr : Word) (v : Nat) : Bool :=
  v = 2 || (!tpr.getLsbD 16 && (v = 0 || decide ((tpr.extractLsb' 4 4).toNat < v / 16)))

/-- The vector is of higher class than every one in service (R577). -/
def State.aboveService (s : State) (v : Nat) : Bool :=
  (List.range 256).all (fun w => !s.cr.insvc.getLsbD w || decide (vectorClass w < vectorClass v))

/-- The better of two candidates. -/
def betterVector (a : Option Nat) (v : Nat) : Option Nat :=
  match a with
  | none => some v
  | some w => if vectorRank w < vectorRank v then some v else some w

/-- The highest-priority vector of a set that TPR and the ones in service let through (R577). -/
def State.highestVector (s : State) (p : BitVec 256) : Option Nat :=
  (List.range 256).foldl
    (fun a v => if p.getLsbD v && tprAllows s.cr.tpr v && s.aboveService v then betterVector a v else a) none

/-- A read of IVR: the vector, moved from pending to in service, or the spurious vector 15 (R42, R577). -/
def State.readIvr (s : State) : Word × State :=
  match s.highestVector s.pendingVectors with
  | none => (15, s)
  | some v =>
    (BitVec.ofNat 64 v,
     { s with cr := { s.cr with irr := putBit s.cr.irr v false, insvc := putBit s.cr.insvc v true } })

/-- A write of EOI: the highest-priority vector in service ends (R42, R577). -/
def State.writeEoi (s : State) : State :=
  match (List.range 256).foldl (fun a v => if s.cr.insvc.getLsbD v then betterVector a v else a) none with
  | none => s
  | some v => { s with cr := { s.cr with insvc := putBit s.cr.insvc v false } }

/-- An external interrupt is taken before the next instruction: at a group boundary, PSR.i = 1, and a vector gets
through; the performance monitor's counts only with PSR.ic = 1 (R577, R580). -/
def State.externalInterrupt (s : State) : Bool :=
  s.groupStart && s.psrI && (s.highestVector (if s.psrIc then s.pendingVectors else s.cr.irr)).isSome

/-! ### Monitor enables (R624) -/

/-- `monitor_enable[i]` in a clock that began with PMC0.fr = `fr`, from `plm`, `pm` and the two `ism` bits of the register (R624, R636);
execution is Itanium code. -/
def State.monitorEnable (s : State) (fr : Bool) (r : Word) (pm : Nat) (ism : Bool) : Bool :=
  s.pmc[4].getLsbD 23 && !fr && r.getLsbD s.cpl.toNat && (if r.getLsbD pm then s.psrPp else s.psrBit 2) && !ism

/-! ### Clocks (R636) -/

/-- A reference of the RSE or of the page walker: made in clocks before the instruction that needs it retires (R445, R160). -/
def PmuEvent.early : PmuEvent → Bool
  | .load _ by_ _ _ | .store _ by_ _ _ => by_ != .instr
  | _ => false

/-- How many events of a list satisfy a test. -/
def countEvents (l : List PmuEvent) (p : PmuEvent → Bool) : Nat := (l.filter p).length

/-- Only a `flushrs` and a call or return are two RSE events of one clock (R833). -/
def rseTooMany (l : List PmuEvent) : Bool :=
  let causes : List RseCause := l.filterMap (fun e => match e with | .rseEvent c _ _ => some c | _ => none)
  decide (1 < causes.length) && causes != [.flush, .callReturn] && causes != [.callReturn, .flush]

/-- The events are too many for one clock (the maxima of R895; the two F units, R745; R833 for two RSE events). -/
def tooMany (l : List PmuEvent) : Bool :=
  let more := fun (n : Nat) (p : PmuEvent → Bool) => decide (n < countEvents l p)
  more 6 (· == .retired) || more 4 (fun e => match e with | .load .. => true | _ => false)
    || more 2 (fun e => match e with | .store .. => true | _ => false)
    || more 3 (fun e => match e with | .branch .. => true | _ => false)
    || more 2 (fun e => match e with | .chkaLdc .. => true | _ => false)
    || more 1 (fun e => match e with | .chksFailed _ => true | _ => false)
    || more 2 (fun e => match e with | .fpOps _ => true | _ => false)
    || rseTooMany l
    || more 1 (· == .fchkfFailed) || more 2 (· == .flushToZero) || more 1 (· == .serialize) || more 1 (· == .cplChange)
    || more 1 (· == .dataDebugFault)

/-- The early references, one or two to a clock (R834). -/
def State.spread (s : State) : Nat → List PmuEvent → List (List PmuEvent)
  | _, [] => []
  | _, [e] => [[e]]
  | n, e :: f :: r => if s.freeBool (4 * (250000 + n) + 3) then [e] :: s.spread (n + 1) (f :: r) else [e, f] :: s.spread (n + 1) r

/-- The clock boundaries that pass before the events `own` of the instruction join a clock: any number, but at least one where they do not
fit into the clock in progress or begin an instruction group, and enough for its early references, `early` clocks of them (R636; log 29). -/
def State.clocks (s : State) (own : List PmuEvent) (early : Nat) : Nat :=
  let least := if 0 < early then early + 1 else if s.groupStart || tooMany (own ++ s.clkEvents) then 1 else 0
  least + (s.free 6000).toNat

/-! ### Branch predictions (R540, R680 to R686, R780 to R787) -/

/-- A branch of a step, with what the free predictor made of it. -/
structure BranchSeen where
  taken    : Bool
  kind     : Nat
  target   : Word
  pathOk   : Bool
  targetOk : Bool
  /-- A branch behind one of its bundle that was predicted taken: its path prediction is forced to not taken (R780). -/
  unknown  : Bool
  /-- It faulted, and did not retire (R685). -/
  faulted  : Bool
  deriving DecidableEq, Repr

/-- The branch of a step and its predictions. They are free (U45), but for an IP-relative branch that is taken across a 40-bit boundary, whose
target is always mispredicted (R531, R540), and for a branch correctly predicted not taken, whose prediction has no wrong target, as the
example of R682 captures it among the correct ones; that this holds of one whose unused target lies beyond the boundary too is a
DESIGN CHOICE (log 32). That this holds of `brl` too is DEDUCED: its target is computed from IP, as R521 defines
IP-relative branches, though R531 gives `brl` a further rule of its own (log 32). A branch that faults has not been taken or
resolved, so all its outcome is free. -/
def State.branchSeen (s : State) (l : List PmuEvent) : Option BranchSeen :=
  let unknown := s.brBundle.any (·.predTaken)
  let seen := fun (taken : Bool) (kind : Nat) (target : Word) (faulted : Bool) =>
    let far := kind = 1 && taken && s.ip.extractLsb' 40 24 != target.extractLsb' 40 24
    let pathOk := if unknown then !taken else s.freeBool 6020
    some ({ taken, kind, target, unknown, faulted, pathOk,
            targetOk := (pathOk && !taken) || (!far && s.freeBool 6021) } : BranchSeen)
  l.findSome? (fun e => match e with
    | .branch taken kind target => seen taken kind target false
    | .branchFault kind => seen (s.freeBool 6028) kind s.ip true
    | _ => none)

/-- The prediction was right in path and, for a taken branch, in target. -/
def BranchSeen.correct (b : BranchSeen) : Bool := b.pathOk && (!b.taken || b.targetOk)

/-- The branch was predicted taken. -/
def BranchSeen.predTaken (b : BranchSeen) : Bool := b.taken == b.pathOk

/-- The branches of the bundle being executed, with that of the step (R780, R781). -/
def State.bundleWith (s : State) (b : Option BranchSeen) (tagged : Bool) : Option BundleBranches :=
  match b with
  | none => s.brBundle
  | some b =>
    let c := s.brBundle.getD { predTaken := false, pathBad := false, taken := false, tagged := false, entered := false }
    some { predTaken := c.predTaken || b.predTaken, pathBad := c.pathBad || !b.pathOk, taken := c.taken || b.taken,
           tagged := c.tagged || tagged, entered := c.entered }

/-- The branches of the bundle after a step of `d` clocks that was `captured` or not: the trace buffer's last entry is one of them as long as
the clock it was written in goes on (R685). -/
def State.bundleNext (s : State) (b : Option BranchSeen) (tagged captured : Bool) (d : Nat) : Option BundleBranches :=
  (s.bundleWith b tagged).map (fun c => { c with entered := captured || (d = 0 && c.entered) })

/-- The next slot of the same bundle is executed next. -/
def State.staysInBundle (s u : State) : Bool := u.ip = s.ip && u.ri = s.ri + 1

/-- The prediction results that two unit mask bits select (R783). -/
def BranchSeen.result (b : BranchSeen) (u : Nat) : Bool :=
  match u % 4 with
  | 0 => true
  | 1 => b.correct
  | 2 => !b.pathOk
  | _ => b.pathOk && b.taken && !b.targetOk

/-- What the branch events count of a retired branch (R783 to R787). -/
def State.branchValue (s : State) (b : BranchSeen) (code umask : Nat) : Bool :=
  let typed := umask / 4 = 0 || umask / 4 = b.kind
  match code with
  | 0x5b => typed && b.result umask
  | 0x68 => typed && b.unknown && umask % 4 ≠ 3 && b.result umask
  | 0x54 =>
    typed && (match umask % 4 with
      | 0 => !b.pathOk && !b.taken
      | 1 => !b.pathOk && b.taken
      | 2 => b.pathOk && !b.taken
      | _ => b.pathOk && b.taken)
  | 0x6a => typed && b.unknown && (b.taken == umask.testBit 0)
  | _ =>
    s.freeBool 6053 && umask / 4 ≠ 1 && (umask / 4 ≠ 2 || s.freeBool 6054) && b.result umask

/-- BE_BR_MISPRED_DETAIL of a bundle whose last branch has retired: the stage, rotate and PFS predictions are per bundle, and count only
where no path misprediction is associated with its branches; the tag of one of them lets it through (R781; DESIGN CHOICE, log 30). -/
def State.bundleValue (s : State) (c : BundleBranches) (umask : Nat) : Bool :=
  let stg := s.freeBool 6050
  let rot := s.freeBool 6051
  let pfs := c.taken && s.freeBool 6052
  !c.pathBad && c.tagged && (match umask % 4 with
    | 0 => stg || rot || pfs
    | 1 => stg
    | 2 => rot
    | _ => pfs)

/-! ### Retirement events (R726 (a)) -/

/-- The unit mask of an integer or floating-point check event selects it (R747 to R749). -/
def fpUmask (umask : Nat) (fp : Bool) : Bool := umask.testBit (if fp then 1 else 0)

/-- What the monitors captured in a step. -/
structure Captures where
  branch : Bool := false
  iear   : Bool := false
  dear   : Bool := false
  deriving DecidableEq, Repr

/-- The instruction that the fetch at IP would execute, for the monitors; free where it does not succeed. -/
def State.nextSrc (t : State) : EventSrc :=
  let other := { (t.occ 0 8 0).src with ia := t.ip }
  match t.fetch with
  | .ok b =>
    match template (b.extractLsb' 0 5) with
    | some p => { ia := t.ip, ty := p.slotType t.ri, enco := p.word b t.ri, va := 0, cpl := t.cpl }
    | none => other
  | .error _ => other

/-- A memory reference is selected and qualified: by its instruction, the RSE's for `rfi` by the instruction the return goes to, at its
privilege level and with the PSR it runs with (R659, R661, R834), the page walker's by a free one. -/
def State.refCounts (s : State) (e : EventSrc) (by_ : RefOrigin) (va : Word) : Bool :=
  match by_ with
  | .instr | .rse => s.qualified .mem { e with va } false
  | .rseRfi => s.restoreContext.qualified .mem { s.restoreContext.nextSrc with va } false
  | .walk => s.qualified .mem { s.occ 0 6 0 with }.src false

/-- What an event that follows from the retired instructions counts for the events `l` (R726 (a)), for the branch events with the step's
branch `b` and, where its bundle ends, the branches `ends` of the bundle; `none` for the others. `e` is the instruction; `again` says
that its clock has seen an RSE event before (R833): the register counts of the clock are then those before the first of the two
(DESIGN CHOICE, log 30). Of two failing checks of a clock the first that the unit mask selects is the one counted (R748; DESIGN CHOICE,
log 30). -/
def State.retireValue (s : State) (e : EventSrc) (l : List PmuEvent) (b : Option BranchSeen) (ends : Option BundleBranches)
    (c : Captures) (again : Bool) (code umask : Nat) : Option Nat :=
  let count := fun (p : PmuEvent → Bool) => some (countEvents l p)
  let own := fun (p : PmuEvent → Bool) => some (if s.qualified (eventQual code) e false then countEvents l p else 0)
  let flag := fun (v : Bool) => some (if v then 1 else 0)
  let refs := fun (p : Bool → Bool → Bool → Bool) => count (fun f => match f with
    | .load va by_ mis uc => p true mis uc && s.refCounts e by_ va
    | .store va by_ mis uc => p false mis uc && s.refCounts e by_ va
    | _ => false)
  let checks := fun (p : Bool → Bool) => count (fun f => match f with
    | .chkaLdc fp failed va => p failed && fpUmask umask fp && s.qualified .mem { e with va := va.getD (s.free 6011) } false
    | _ => false)
  let regs := fun (dirty : Bool) (k n : Nat) =>
    if again then some 0
    else some ((l.findSome? (fun f => match f with
      | .rseEvent _ cur d => some (((if dirty then d else cur) / 2 ^ k) % n)
      | _ => none)).getD 0)
  match code with
  | 0x06 => own (· == .fchkfFailed)
  | 0x07 | 0x59 => some 0
  | 0x08 => some (if s.pmuTag e (umask % 4) && !l.contains .squashed then countEvents l (· == .retired) else 0)
  | 0x09 => some (if s.qualified .iar e false then l.foldl (fun n f => match f with | .fpOps k => n + k | _ => n) 0 else 0)
  | 0x0b => own (· == .flushToZero)
  | 0x11 => flag c.branch
  | 0x13 => count (· == .cplChange)
  | 0x20 => count (fun f => match f with
      | .load va by_ _ _ => (by_ = .rse || by_ = .rseRfi) && umask.testBit 0 && s.refCounts e by_ va
      | .store va by_ _ _ => by_ = .rse && umask.testBit 1 && s.refCounts e by_ va
      | _ => false)
  | 0x24 => regs true 6 2
  | 0x26 => regs false 6 2
  | 0x28 => regs true 3 8
  | 0x29 => regs true 0 8
  | 0x2a => regs false 3 8
  | 0x2b => regs false 0 8
  | 0x32 => count (fun f => match f with | .rseEvent .. => true | _ => false)
  | 0x43 => flag c.iear
  | 0x50 => own (· == .nop)
  | 0x51 => own (· == .squashed)
  | 0x52 => count (· == .dataDebugFault)
  | 0x53 => count (· == .serialize)
  | 0x55 => count (fun f => match f with | .chksFailed fp => fpUmask umask fp | _ => false)
  | 0x56 => checks (fun _ => true)
  | 0x57 => checks id
  | 0x61 => flag (ends.any (fun c => s.bundleValue c umask))
  | 0x54 | 0x5b | 0x63 | 0x68 | 0x6a =>
    flag (b.any (fun b => !b.faulted && s.branchValue b code umask) && s.qualified .tag e false)
  | 0xc8 => flag c.dear
  | 0xcd => refs (fun ld _ _ => ld)
  | 0xce => refs (fun ld mis _ => ld && mis)
  | 0xcf => refs (fun ld _ uc => ld && uc)
  | 0xd0 => refs (fun ld _ uc => !ld && uc)
  | 0xd1 => refs (fun ld _ _ => !ld)
  | 0xd2 => refs (fun ld mis _ => !ld && mis)
  | _ => none

/-- The most that one clock counts of a retirement event: FP_OPS_RETIRED up to 8 (R745, C53). -/
def retireCap (code m : Nat) : Nat := if code = 0x09 then 8 else m

/-! ### Counters (R633 to R638) -/

/-- The limits of a fine range break R658: bits 63:12 differ, or bits 11:0 do not rise. -/
def fineBad (lo hi : Word) : Bool :=
  lo.extractLsb' 12 52 != hi.extractLsb' 12 52 || decide (hi.extractLsb' 0 12 ≤ lo.extractLsb' 0 12)

/-- An event heeds breakpoint pair `n` (R649, R650, R662). -/
def State.heedsIbrp (s : State) (code umask n : Nat) : Bool :=
  match eventQual code with
  | .none => false
  | .iar => n = 0
  | .prefetch => n = 1
  | .line => decide (n < 2)
  | .tag => n = (if code = 0x08 then umask % 4 else 0)
  | .mem => n = 0 && s.pmc13Uses 1

/-- A fine range that an event heeds breaks R658. -/
def State.fineBroken (s : State) (code umask : Nat) : Bool :=
  s.pmc[14].getLsbD 13 && (List.range 4).any (fun n => s.heedsIbrp code umask n && !s.ibrpOff n &&
    (if n % 2 = 0 then fineBad s.ibr[0] s.ibr[4] else fineBad s.ibr[2] s.ibr[6]))

/-- The PMU is programmed against its restrictions for the event of a counter: the count is then any value (R648, R657, R658, R660, R661,
R919, U35; log 30). A constraint register affects the events that heed it, and no event with the flags N/N/N (R722). -/
def State.pmuMisprogrammed (s : State) (r : Word) (code umask : Nat) : Bool :=
  let q := eventQual code
  (r.extractLsb' 26 2 != 0)
    || (q != .none && (!s.pmc[8].getLsbD 2 || !s.pmc[9].getLsbD 2
          || (s.pmc[14] &&& 0xFFFFFFFFFFFFDB6D) != (0xdb6 &&& 0xFFFFFFFFFFFFDB6D)
          || (s.pmc[13].extractLsb' 45 4 = 0 && !s.pmc[8].getLsbD 0 && (!s.pmc[14].getLsbD 1 || !s.pmc[14].getLsbD 4))
          || s.fineBroken code umask))
    || ((q = .tag || q = .mem) && (s.pmc[15] &&& 0xFFFFFFFFFFFFFFF0) != 0xfffffff0)
    || (q = .mem && (s.pmc[13] &&& 0xFFFE1FFFE7E7E7E7) != (0x2078fefefefe &&& 0xFFFE1FFFE7E7E7E7))

/-- Thresholding of one clock's value (R635). -/
def thresholded (t x : Nat) : Nat := if t = 0 then x else if t < x then 1 else 0

/-- What the counters look at in a step: the clock boundaries passed, the events of the clocks before the last (early references), those
of the clock the instruction retires in, and the step's instruction, branch and, where its bundle ends, the branches of that. -/
structure TickView where
  d      : Nat
  early  : List (List PmuEvent)
  own    : List PmuEvent
  src    : EventSrc
  branch : Option BranchSeen
  ends   : Option BundleBranches
  deriving DecidableEq, Repr

/-- An instruction that IA64_INST_RETIRED counts retired in the clock in progress (R772). -/
def State.clockRetires (s : State) : Bool :=
  decide (countEvents s.clkEvents (· == .squashed) < countEvents s.clkEvents (· == .retired))

/-- PMC[4 + i]. -/
def State.counterPmc (s : State) (i : Nat) : Word := s.pmc.toList.getD (4 + i) 0

/-- The threshold of a counter's configuration (R635). -/
def pmcThreshold (r : Word) : Nat := (r.extractLsb' 20 3).toNat

/-- The early references of clock `k` of a step: those of a step fill the clocks just before the last. -/
def TickView.earlyIn (v : TickView) (k : Nat) : List PmuEvent :=
  if v.d ≤ k + v.early.length then v.early.getD (k + v.early.length - v.d) [] else []

/-- What counter `i` (0 to 3) adds for clock `k` of a step when that clock ends (R635, R636). Clock 0 is the one that was in progress,
whose retired instructions have been counted; in the others nothing retires but early references. Codes that are no event leave the
increment free, misprogrammed monitors and undefined rows within the event's bound (U33, U35; log 30). -/
def State.endedInc (s : State) (v : TickView) (k i : Nat) : Nat :=
  let r := s.counterPmc i
  let code := pmcEs r
  let umask := s.umaskOf r
  let t := pmcThreshold r
  match eventMax code umask with
  | none => (s.draw k 510 i 0).toNat
  | some m =>
    let any := (s.draw k 511 i 0).toNat % (m + 1)
    if s.pmuMisprogrammed r code umask || s.setViolated r then thresholded t any
    else if code = 0x12 then thresholded t 1
    else match s.retireValue v.src (v.earlyIn k) none none {} false code umask with
      | some n => if k = 0 then 0 else thresholded t (min m n)
      | none => thresholded t ((s.clockValue k (k = 0 && s.clockRetires) code umask m).getD any)

/-- The value of counter `i` in the clock in progress, before and after the instruction of the step retires in it (R635, R636). -/
def State.ownValue (s : State) (v : TickView) (c : Captures) (i : Nat) : Nat × Nat :=
  let r := s.counterPmc i
  let code := pmcEs r
  let umask := s.umaskOf r
  let before := if v.d = 0 then s.clkVals.toList.getD i 0 else 0
  match eventMax code umask with
  | none => (before, before)
  | some m =>
    let again := v.d = 0 && s.clkEvents.any (fun e => match e with | .rseEvent .. => true | _ => false)
    if s.pmuMisprogrammed r code umask || s.setViolated r then (before, before)
    else match s.retireValue v.src v.own v.branch v.ends c again code umask with
      | some n => (before, min (retireCap code m) (before + n))
      | none => (before, before)

/-- What the counters hold during a step: the PMDs, and the bits of PMC0 that overflows of the step have set. -/
structure Counts where
  pmd  : Vector Word 18
  ovf  : Word
  deriving DecidableEq, Repr

/-- Add to counter `i` (4 to 7) with configuration `r`: 48 bits wide, a carry out of bit 46 is the overflow, which sets its bit of PMC0,
and with `oi` = 1 the freeze bit (R632, R636 to R638). -/
def Counts.add (c : Counts) (i : Nat) (r : Word) (inc : Nat) : Counts :=
  let old := c.pmd.toList.getD i 0
  let carry := decide ((old.extractLsb' 0 47).toNat + inc ≥ 2 ^ 47)
  { pmd := c.pmd.setIfInBounds i (zext (old.extractLsb' 0 48 + BitVec.ofNat 48 inc)),
    ovf := if carry then putBit (if r.getLsbD 5 then putBit c.ovf 0 true else c.ovf) i true else c.ovf }

/-- The counters in one clock, which began with PMC0.fr = `fr`: each enabled one adds its increment (R636, R641). -/
def State.countClock (s : State) (fr : Bool) (inc : Nat → Nat) (c : Counts) : Counts :=
  [0, 1, 2, 3].foldl (fun c i =>
    let r := s.counterPmc i
    if s.monitorEnable fr r 6 (r.getLsbD 24) then c.add (4 + i) r (inc i) else c) c

/-- PMC0.fr as the clock after the counts `c` begins: as before the step, or set by an overflow since. -/
def State.frozenBy (s : State) (c : Counts) : Bool := (s.pmc[0] ||| c.ovf).getLsbD 0

/-- The counts after the first `n` clocks of a step have ended; an overflow with `oi` = 1 freezes the later ones (R636, R641). -/
def State.countEnded (s : State) (v : TickView) (c : Counts) : Nat → Counts
  | 0 => c
  | k + 1 =>
    let c' := s.countEnded v c k
    s.countClock (if k = 0 then s.clkFr else s.frozenBy c') (s.endedInc v k) c'

/-- PMC0.fr as clock `k` of a step began, `u` being the state that the instruction left. -/
def State.clockFr (s u : State) (v : TickView) (k : Nat) : Bool :=
  if k = 0 then s.clkFr else s.frozenBy (s.countEnded v { pmd := u.pmd, ovf := 0 } k)

/-! ### The branch trace buffer (R680 to R686) -/

/-- Write the next entry of the buffer: `ext` = {bruflush, b1} (R684, R685). -/
def State.btbPush (s : State) (entry : Word) (ext : BitVec 2) : State :=
  let idx := s.pmd[16]
  let bbi := (idx.extractLsb' 0 3).toNat
  let idx := putField idx (4 * (bbi + 1)) (ext.setWidth 4)
  let idx := if bbi = 7 then putBit idx 3 true else idx
  { s with pmd := (s.pmd.setIfInBounds (8 + bbi) entry).set 16 (putField idx 0 (BitVec.ofNat 3 (bbi + 1))) }

/-- The target prediction of a branch is one that `ptm` = {`good`, `bad`} asks for. For one whose path was mispredicted "no target prediction is
recorded": it is captured with both bits, never with `bad` alone, and with `good` alone freely, of which R682 does not speak (log 32). -/
def BranchSeen.targetWanted (b : BranchSeen) (good bad : Bool) : Bool :=
  if b.pathOk then (if b.targetOk then good else bad) else good && (bad || b.targetOk)

/-- The branch of a step meets the conditions of a capture (R682, with the type filter of R681). -/
def State.btbCaptures (s : State) (fr : Bool) (e : EventSrc) (b : BranchSeen) : Bool :=
  let c := s.pmc[12]
  let brt := (c.extractLsb' 14 2).toNat
  s.monitorEnable fr c 6 false && s.pmuTag e 0
    && ((c.getLsbD 9 && b.taken) || (c.getLsbD 8 && !b.taken))
    && b.targetWanted (c.getLsbD 11) (c.getLsbD 10)
    && ((c.getLsbD 13 && b.pathOk) || (c.getLsbD 12 && !b.pathOk))
    && !(!c.getLsbD 11 && c.getLsbD 10 && !c.getLsbD 13 && c.getLsbD 12)
    && (brt = 0 || brt = b.kind)

/-- A branch of the step is captured: one that retired and qualifies, or freely one that faulted and does (R682, R685). -/
def State.branchCaptured (s : State) (fr : Bool) (e : EventSrc) (b : Option BranchSeen) : Bool :=
  b.any (fun b => s.btbCaptures fr e b && (!b.faulted || s.freeBool 6019))

/-- The source entry of a branch at IP, and its extension bits: from bundle 0 or 1 of its pair, freely (R683, R684). -/
def State.btbSource (s : State) (slot : BitVec 2) (mp : Bool) : Word × BitVec 2 :=
  let b1 := s.freeBool 6023
  ((s.ip.extractLsb' 4 60 - (BitVec.ofBool b1).setWidth 60) ++ slot ++ BitVec.ofBool mp ++ 1#1,
   BitVec.ofBool (mp && s.freeBool 6024) ++ BitVec.ofBool b1)

/-- The last entry written is of an earlier, not taken branch of this bundle in this clock: the entry of the bundle is then written again,
for its first taken branch (R685). -/
def State.btbSame (s u : State) (d : Nat) : Bool :=
  let idx := u.pmd[16]
  let last := ((idx.extractLsb' 0 3).toNat + 7) % 8
  let entry := u.pmd.toList.getD (8 + last) 0
  let b1 := idx.getLsbD (4 * (last + 1))
  d = 0 && s.brBundle.any (·.entered) && idx.extractLsb' 0 4 != 0 && entry.getLsbD 0 && entry.extractLsb' 2 2 = 3
    && entry.extractLsb' 4 60 + (BitVec.ofBool b1).setWidth 60 = s.ip.extractLsb' 4 60

/-- Step back to the last entry; what waited to follow it is dropped. -/
def State.btbBack (s : State) : State :=
  { s with pmd := s.pmd.set 16 (putField s.pmd[16] 0 (s.pmd[16].extractLsb' 0 3 - 1)), btbPend := none }

/-- What is to be written behind the source of a captured branch: its target, or with `ds` = 1 the prediction detail; for IP-relative or not
taken branches with `ds` = 0, and where the branch faults or traps, nothing (R683, R685). -/
def State.btbSecond (s : State) (b : BranchSeen) (trapped : Bool) : Option Word :=
  let free2 := (s.free 6027).setWidth 2
  if trapped || b.faulted then none
  else if s.pmc[12].getLsbD 7 then
    let addr := s.ip.extractLsb' 4 60
    some (addr.extractLsb' 57 3 ++ (s.free 6026).setWidth 20 ++ addr.extractLsb' 0 37 ++ free2 ++ 0b10#2)
  else if b.taken && b.kind != 1 then some (b.target.extractLsb' 4 60 ++ free2 ++ 0b10#2)
  else none

/-- The entry that waits is written when the next clock has passed, but is dropped where that clock was `frozen` (R641; DESIGN CHOICE, log
32); a captured branch of its bundle within that clock takes its place, or, freely, follows it; another branch follows it (R685). -/
def State.btbSettle (s u : State) (d : Nat) (captured frozen : Bool) : State :=
  match u.btbPend with
  | none => u
  | some p =>
    if 1 < p.clocks + d then (if frozen then { u with btbPend := none } else { u.btbPush p.entry 0 with btbPend := none })
    else if !captured then { u with btbPend := some { p with clocks := p.clocks + d } }
    else if p.bundle = s.ip && s.freeBool 6025 then { u with btbPend := none }
    else { u.btbPush p.entry 0 with btbPend := none }

/-- PMC0.fr in the clock in which the entry that waits would be written. -/
def State.btbFrozen (s u : State) (v : TickView) : Bool :=
  u.btbPend.any (fun p => s.clockFr u v (1 - p.clocks))

/-- The trace buffer after a step: what waited, then the source of a captured branch (R685). A taken `brl`, which fills slots 1 and 2 of
its bundle, is recorded with slot 1 (DESIGN CHOICE, log 32). -/
def State.btbTick (s u : State) (v : TickView) (captured : Bool) : State :=
  match v.branch, captured with
  | some b, true =>
    let t := if s.btbSame u v.d then u.btbBack else s.btbSettle u v.d true (s.btbFrozen u v)
    let p := s.btbSource (if b.taken then s.ri else 3) (!b.correct)
    { t.btbPush p.1 p.2 with
      btbPend := (s.btbSecond b (v.own.contains .trapped)).map (fun w => { entry := w, bundle := u.ip, clocks := 0 }) }
  | _, _ => s.btbSettle u v.d false (s.btbFrozen u v)

/-! ### Event address registers (R665 to R675; log 31) -/

/-- The least latency that the cache mode of the instruction EAR captures; 0 for the hits in the RAB and where the table has no row, for which
any latency may be (R668). -/
def iearThreshold (umask : Nat) : Nat :=
  match umask with
  | 0xFF => 4
  | 0xFE => 8
  | 0xFC => 16
  | 0xF8 => 32
  | 0xF0 => 128
  | 0xE0 => 256
  | 0xC0 => 1024
  | 0x80 => 4096
  | u => if u / 64 = 1 then 1 else 0

/-- An element of a list, freely chosen (U37). -/
def State.choose {α : Type} (s : State) (site : Nat) (l : List α) : Option α := l[Config.freeBelow s.freeCtr site l.length]?

/-- A miss of a first-level TLB, as an EAR may capture it: its address, who serviced it, and whether it is of the instruction of the
step. -/
structure TlbMissSeen where
  va      : Word
  service : MissService
  own     : Bool
  deriving DecidableEq, Repr

/-- The code of who serviced a miss (R667, R671). -/
def MissService.code : MissService → Nat
  | .l2 => 1
  | .vhpt => 2
  | .fault => 3

/-- The misses of a step of one side. A reference of the instruction whose translation a walk of this step has brought is one miss that the
walk served or, freely, one that found what an earlier walk brought (R669, R673). `mine` tells the addresses the instruction itself
refers to. -/
def State.tlbMisses (s : State) (fetch : Bool) (mine : Word → Bool) (l : List PmuEvent) : List TlbMissSeen :=
  l.filterMap (fun e => match e with
    | .tlbMiss f va b own =>
      let walked := l.contains (.tlbMiss fetch va .vhpt false)
      if f != fetch || (b = .l2 && own && walked && s.freeBool 6049) then none
      else some { va, service := b, own := own || (mine va && s.freeBool 6049) }
    | _ => none)

/-- An instruction TLB miss of a wrong path, for a free address that misses the first level and hits the second (R725). -/
def State.wrongPathMiss (s : State) : List TlbMissSeen :=
  let va := s.free 6032
  if s.freeBool 6031 && s.psrIt && (s.l1Hit va).isNone && !(s.lookup true va).isEmpty then [{ va, service := .l2, own := false }] else []

/-- What the instruction EAR captures in a step, for PMD0 and PMD1. In cache mode the fetch of the step or one of a wrong path (R725), freely:
the L1I is no state here. In TLB mode a miss of the step that the unit mask selects (R666 to R669). -/
def State.iearCapture (s : State) (fr : Bool) (l : List PmuEvent) : Option (Word × Word) :=
  let c := s.pmc[10]
  if !s.monitorEnable fr c 4 (c.getLsbD 14) then none
  else if c.getLsbD 13 then
    let line := if s.freeBool 6031 then s.ip else s.free 6032
    let latency := (s.free 6033).toNat
    if decide (iearThreshold (c.extractLsb' 5 8).toNat ≤ latency) && s.ibrpMatch 0 line s.cpl && s.freeBool 6030 then
      some ((line &&& ~~~ 0x1F#64) ||| zext (BitVec.ofBool (s.freeBool 6034) ++ 1#1),
            zext (BitVec.ofBool (decide (4096 ≤ latency)) ++ BitVec.ofNat 12 latency))
    else none
  else if c.getLsbD 12 then none
  else
    let wanted := (s.tlbMisses true (· = s.ip) l ++ s.wrongPathMiss).filter (fun m =>
      (c.extractLsb' 5 3).getLsbD (m.service.code - 1) && s.ibrpMatch 0 m.va s.cpl)
    (s.choose 6030 wanted).map (fun m => ((m.va &&& ~~~ 0x1F#64) ||| BitVec.ofNat 64 m.service.code, s.free 6035 &&& 0x1FFF))

/-- A data reference the data EAR can monitor: not the page walker's; its address and whether it is a load (R672, R673). -/
def PmuEvent.dataRef : PmuEvent → Option (Word × Bool)
  | .load va by_ _ _ => if by_ = .walk then none else some (va, true)
  | .store va _ _ _ => some (va, false)
  | _ => none

/-- PMD17 for the instruction of the step: the first bundle of its pair, which of the two it is in, valid, its slot (R671). That `vl` is set
for every capture, also in cache mode, where `stat` = 01 says that PMD17 "may" be valid, is a DESIGN CHOICE (log 31). -/
def State.earInstr (s : State) : Word :=
  let bn := s.freeBool 6040
  (s.ip.extractLsb' 4 60 - (BitVec.ofBool bn).setWidth 60) ++ 1#1 ++ BitVec.ofBool bn ++ s.ri

/-- PMD17 with vl = 1 and any instruction. -/
def State.earAnyInstr (s : State) : Word := s.free 6044 ||| 8

/-- What the data EAR captures in a step, for PMD2, PMD3 and PMD17: in cache mode a load of the step that missed, at least 7 clocks after the last
such capture, in TLB mode a data TLB miss of the step, in ALAT mode a failing `chk.a` or `ld.c` (R671 to R675). With PMC12 not 0 the
instruction is any in the last two modes (R919 (c)). `d` is the clock boundaries that the step has passed. -/
def State.dearCapture (s : State) (fr : Bool) (e : EventSrc) (d : Nat) (l : List PmuEvent) : Option (Word × Word × Word) :=
  let c := s.pmc[11]
  let umask := (c.extractLsb' 16 4).toNat
  let instr := if s.pmc[12] = 0 then s.earInstr else s.earAnyInstr
  if !s.monitorEnable fr c 6 (c.getLsbD 24) then none
  else if c.getLsbD 8 then
    (l.findSome? (fun f => match f with
      | .chkaLdc _ true va => some (va.getD (s.free 6045))
      | _ => none)).bind fun va =>
        if s.qualified .mem { e with va } false then some (s.free 6041, (s.free 6042 &&& 0x3FFF) ||| 0x4000, instr) else none
  else if c.getLsbD 7 then
    let mine := fun va => l.any (fun f => f.dataRef.any (fun r => r.1 = va))
    let wanted := (s.tlbMisses false mine l).filter (fun m =>
      umask.testBit m.service.code && s.qualified .mem { if m.own then e else (s.occ 0 7 0).src with va := m.va } false)
    (s.choose 6048 wanted).map (fun m =>
      (m.va, (s.free 6042 &&& 0x3FFF) ||| (BitVec.ofNat 64 m.service.code <<< 14), if m.own then instr else s.earAnyInstr))
  else
    (s.choose 6048 ((l.filterMap PmuEvent.dataRef).filter (·.2))).bind fun r =>
      let latency := (s.free 6042).toNat
      if decide (umask ≤ 10) && decide (4 * 2 ^ umask ≤ latency) && decide (s.earWait ≤ d)
          && s.qualified .mem { e with va := r.1 } false && s.freeBool 6043 then
        some (r.1, zext (1#2 ++ BitVec.ofBool (decide (8192 ≤ latency)) ++ BitVec.ofNat 13 latency), s.earInstr)
      else none

/-- The EARs after a step: their captures, and the clocks for which a captured cache miss shuts out another one (R672). -/
def State.earTick (s u : State) (d : Nat) (i : Option (Word × Word)) (w : Option (Word × Word × Word)) : State :=
  let u := match i with
    | some p => { u with pmd := (u.pmd.set 0 p.1).set 1 p.2 }
    | none => u
  match w with
  | some p =>
    { u with pmd := ((u.pmd.set 2 p.1).set 3 p.2.1).set 17 p.2.2,
             earWait := if s.pmc[11].extractLsb' 7 2 = 0 then 7 else s.earWait - d }
  | none => { u with earWait := s.earWait - d }

/-! ### The interval timer (R33, D14) -/

/-- ITC advances by a free amount; when it comes to equal ITM, or a write of either makes them equal, the timer's vector becomes pending
unless ITV masks it (R33; log 29). -/
def State.timerTick (s u : State) : State :=
  let d := s.free 6001
  let gap := u.cr.itm - u.itc
  let written := s.itc != u.itc || s.cr.itm != u.cr.itm
  let hit := !u.cr.itv.getLsbD 16 && decide (gap ≤ d) && (gap != 0 || written)
  { u with itc := u.itc + d, cr := { u.cr with irr := u.cr.irr ||| (if hit then vectorBit u.cr.itv else 0) } }

/-! ### One step of the monitors -/

/-- What the monitors look at in a step from `s` to `u`, whose events are `l`; `ty` and `enco` are the instruction's slot type and
encoding. -/
def State.tickView (s u : State) (ty : SlotType) (enco : BitVec 41) (l : List PmuEvent) : TickView :=
  let own := l.filter (fun e => !e.early)
  let early := s.spread 0 (l.filter PmuEvent.early)
  let src : EventSrc := { ia := s.ip, ty, enco, va := 0, cpl := s.cpl }
  let branch := s.branchSeen own
  { d := s.clocks own early.length, early, own, src, branch,
    ends := if s.staysInBundle u then none else s.bundleWith (branch.filter (!·.faulted)) (s.qualified .tag src false) }

/-- What the monitors captured in a step goes into their registers: the trace buffer, the EARs (R641, R665, R680). -/
def State.captured (s u : State) (v : TickView) (l : List PmuEvent) : State × Captures :=
  let fr := s.clockFr u v v.d
  let b := s.branchCaptured fr v.src v.branch
  let i := s.iearCapture fr l
  let w := s.dearCapture fr v.src v.d l
  (s.earTick (s.btbTick u v b) v.d i w, { branch := b, iear := i.isSome, dear := w.isSome })

/-- The counters after a step from `s`, whose instruction and captures left `u`: the clocks that ended, then the one in progress, in which
the instruction retires (R636). What the instruction wrote to PMC0 stands when the overflows of the step set its bits, and what it wrote to PMD4 to PMD7 is what the clocks
and the events of the step add to (DESIGN CHOICE, log 29). -/
def State.counted (s u : State) (v : TickView) (c : Captures) : State :=
  let ended := s.countEnded v { pmd := u.pmd, ovf := 0 } v.d
  let fr := s.clockFr u v v.d
  let vals := fun i => s.ownValue v c i
  let t := s.countClock fr (fun i => thresholded (pmcThreshold (s.counterPmc i)) (vals i).2
    - thresholded (pmcThreshold (s.counterPmc i)) (vals i).1) ended
  let val := fun i => if s.counterPmc i = u.counterPmc i then (vals i).2 else 0
  { u with pmd := t.pmd, pmc := u.pmc.set 0 (u.pmc[0] ||| t.ovf), clkVals := #v[val 0, val 1, val 2, val 3],
           clkFr := if v.d = 0 then u.clkFr else (u.pmc[0] ||| ended.ovf).getLsbD 0 }

/-- The monitors and the timer beside one instruction, for all its events but a second change of the privilege level. -/
def State.tickOnce (s u : State) (ty : SlotType) (enco : BitVec 41) : State :=
  let v := s.tickView u ty enco u.events
  let p := s.captured u v u.events
  s.timerTick { s.counted p.1 v p.2 with
    events := [], clkEvents := if v.d = 0 then v.own ++ s.clkEvents else v.own,
    bilDue := u.bilDue - s.bils v.d,
    brBundle := if s.staysInBundle u then
      s.bundleNext (v.branch.filter (!·.faulted)) (s.qualified .tag v.src false) p.2.branch v.d else none }

/-- Everything that advances beside the instruction: timer, trace buffer, EARs, counters (R636). `s` is the state before the
step, `u` after it; `ty` and `enco` are the instruction's slot type and encoding. A second change of the privilege level in one step,
of a trap after a demoting return or after `rfi`, falls in a further clock (R820; DESIGN CHOICE, log 29). -/
def State.tick (s u : State) (ty : SlotType) (enco : BitVec 41) : State :=
  if countEvents u.events (· == .cplChange) ≤ 1 then s.tickOnce u ty enco
  else
    let t := s.tickOnce { u with events := u.events.erase .cplChange } ty enco
    State.tickOnce { t with psr := s.psr, ip := s.ip } { t with events := [.cplChange], freeCtr := t.freeCtr + 1 } ty enco

/-! ### PMC and PMD accesses (R480, R620 to R644) -/

/-- What PMC[i] keeps of a written value: ignored bits read 0 (R630, R640, R666). Reserved bits, such as 32:30 of PMC8 and PMC9, of which the
spec says nothing (R645), are kept and read back and have no effect (DESIGN CHOICE, log 30). -/
def pmcMask (i : Nat) : Word :=
  match i with
  | 0 => 0xF1
  | 1 | 2 | 3 => 0
  | 4 | 5 | 6 | 7 => 0x0FFFFF7F
  | 10 => 0xFFFF
  | _ => 0xFFFFFFFFFFFFFFFF

/-- A read of PMC[i]; with the PMU's clocks off all but PMC4 read any value (R625, R666, U30). -/
def State.readPmc (s : State) (i : Nat) : Word :=
  let v := s.pmc.toList.getD i 0
  if !s.pmc[4].getLsbD 23 && i != 4 then s.free (6100 + i)
  else if i = 10 then 0#16 ++ v.setWidth 16 ++ v.setWidth 16 ++ v.setWidth 16
  else v

/-- The PMDs a PMC controls (R620). -/
def pmdsOf (i : Nat) : List Nat :=
  match i with
  | 4 => [4]
  | 5 => [5]
  | 6 => [6]
  | 7 => [7]
  | 10 => [0, 1]
  | 11 => [2, 3, 17]
  | 12 => [8, 9, 10, 11, 12, 13, 14, 15, 16]
  | _ => []

/-- The PMC that controls PMD[j] (R620). -/
def pmcOf (j : Nat) : Nat := if j < 2 then 10 else if j < 4 ∨ j = 17 then 11 else if j < 8 then j else 12

/-- The PMDs of the list hold any value (U30, U31). -/
def State.loosePmds (s : State) (l : List Nat) : State :=
  { s with pmd := l.foldl (fun v j => v.setIfInBounds j (s.free (6200 + j))) s.pmd }

/-- Every PMD and every PMC but PMC4 holds any value (U30). -/
def State.loosePmu (s : State) : State :=
  let t := s.loosePmds (List.range 18)
  { t with pmc := (List.range 16).foldl (fun v i => if i = 4 then v else v.setIfInBounds i (s.free (6100 + i) &&& pmcMask i)) t.pmc }

/-- A write of PMC[i] (R625, R627, R630): with the clocks off only PMC4 can be written; turning them off or on, and
`plm` = 0, lose values (U30, U31). A write of PMC0 freezes or unfreezes at once (R641). -/
def State.writePmc (s : State) (i : Nat) (v : Word) : State :=
  let on := s.pmc[4].getLsbD 23
  if i = 4 then
    let t := if on && v.getLsbD 23 then s else s.loosePmu
    let t := { t with pmc := t.pmc.set 4 (v &&& pmcMask 4) }
    if v.extractLsb' 0 4 = 0 then t.loosePmds [4] else t
  else if !on then s
  else
    let t := { s with pmc := s.pmc.setIfInBounds i (v &&& pmcMask i), clkFr := if i = 0 then v.getLsbD 0 else s.clkFr }
    if v.extractLsb' 0 4 = 0 then t.loosePmds (pmdsOf i) else t

/-- A write of PMD[j]: bits 63:48 of a counter are ignored (R637); lost with the clocks off (R625). -/
def State.writePmd (s : State) (j : Nat) (v : Word) : State :=
  if !s.pmc[4].getLsbD 23 then s
  else { s with pmd := s.pmd.setIfInBounds j (if 4 ≤ j ∧ j < 8 then v &&& 0xFFFFFFFFFFFF else v) }

/-- The `pm` bit of PMC[i] (R628). -/
def State.pmcPm (s : State) (i : Nat) : Bool := (s.pmc.toList.getD i 0).getLsbD (if i = 10 then 4 else 6)

/-- A read of PMD[j] (R626, R637): one that PSR.sp or `pm` forbids at the privilege level returns 0 (R480, R626 (c), (d)), where R562 and
R490 name a Privileged Register fault for privileged PMDs (DESIGN CHOICE, log 19). -/
def State.readPmd (s : State) (j : Nat) : Word :=
  let v := s.pmd.toList.getD j 0
  if s.cpl != 0 && (s.psrSp || s.pmcPm (pmcOf j)) then 0
  else if !s.pmc[4].getLsbD 23 then s.free (6200 + j)
  else if 4 ≤ j ∧ j < 8 then (v.setWidth 48).signExtend 64
  else if s.pmc[0].getLsbD 0 then v
  else s.free (6200 + j)

end Sys2Proof.Machine
end

