-- ==== Sys2Proof/Machine/CtrlRegs.lean ====
section
/-! DEFINITION. Machine/CtrlRegs.lean: moves to and from control registers, PSR and the indirect register files, the mask
instructions, formats M32, M33, M35, M36, M42 to M44 (`spec/43_m_type_system.md` R463 to R484, `spec/10_state.md` R36 to
R52). -/

namespace Sys2Proof.Machine

/-! ### Control registers (R463, R464) -/

/-- The control registers by number (R36); `gpta` has no number (U6). -/
inductive CrReg where
  | dcr | itm | iva | pta | ipsr | isr | iip | ifa | itir | iipa | ifs | iim | iha | lid | ivr | tpr | eoi
  | irr (i : Fin 4)
  | itv | pmv | cmcv | lrr0 | lrr1
  deriving DecidableEq, Repr

/-- The register with a given number; `none` is reserved (R36). -/
def crReg (n : BitVec 7) : Option CrReg :=
  match n.toNat with
  | 0 => some .dcr
  | 1 => some .itm
  | 2 => some .iva
  | 8 => some .pta
  | 16 => some .ipsr
  | 17 => some .isr
  | 19 => some .iip
  | 20 => some .ifa
  | 21 => some .itir
  | 22 => some .iipa
  | 23 => some .ifs
  | 24 => some .iim
  | 25 => some .iha
  | 64 => some .lid
  | 65 => some .ivr
  | 66 => some .tpr
  | 67 => some .eoi
  | 68 => some (.irr 0)
  | 69 => some (.irr 1)
  | 70 => some (.irr 2)
  | 71 => some (.irr 3)
  | 72 => some .itv
  | 73 => some .pmv
  | 74 => some .cmcv
  | 80 => some .lrr0
  | 81 => some .lrr1
  | _ => none

/-- The interruption control registers, accessible with PSR.ic = 0 only (R463). -/
def CrReg.interruption : CrReg → Bool
  | .ipsr | .isr | .iip | .ifa | .itir | .iipa | .ifs | .iim | .iha => true
  | .dcr | .itm | .iva | .pta | .lid | .ivr | .tpr | .eoi | .irr _ | .itv | .pmv | .cmcv | .lrr0 | .lrr1 => false

/-- The read-only registers (R42). -/
def CrReg.readOnly : CrReg → Bool
  | .ivr | .irr _ => true
  | .dcr | .itm | .iva | .pta | .ipsr | .isr | .iip | .ifa | .itir | .iipa | .ifs | .iim | .iha | .lid | .tpr | .eoi
  | .itv | .pmv | .cmcv | .lrr0 | .lrr1 => false

/-- The bits the layouts of R34 to R42, R485 and R576 name; setting another one is refused (R463; log 19). -/
def CrReg.definedBits : CrReg → Word
  | .dcr => 0x7F07
  | .pta => 0xFFFFFFFFFFFF81FD
  | .ipsr => 0x00003FFF0FFEE03E
  | .isr => 0x00000FFF00FFFFFF
  | .itir => 0x00000000FFFFFFFC
  | .ifs => 0x8000003FFFFFFFFF
  | .lid => 0xFFFF0000
  | .tpr => 0x100F0
  | .itv | .pmv | .cmcv => 0x100FF
  | .lrr0 | .lrr1 => 0x1A7FF
  | .itm | .iva | .iip | .ifa | .iipa | .iim | .iha | .ivr | .eoi | .irr _ => 0xFFFFFFFFFFFFFFFF

/-- Put a value into a control register. -/
def CtrlRegs.put (c : CtrlRegs) (r : CrReg) (v : Word) : CtrlRegs :=
  match r with
  | .dcr => { c with dcr := v }
  | .itm => { c with itm := v }
  | .iva => { c with iva := v }
  | .pta => { c with pta := v }
  | .ipsr => { c with ipsr := v }
  | .isr => { c with isr := v }
  | .iip => { c with iip := v }
  | .ifa => { c with ifa := v }
  | .itir => { c with itir := v }
  | .iipa => { c with iipa := v }
  | .ifs => { c with ifs := v }
  | .iim => { c with iim := v }
  | .iha => { c with iha := v }
  | .lid => { c with lid := v }
  | .tpr => { c with tpr := v }
  | .itv => { c with itv := v }
  | .pmv => { c with pmv := v }
  | .cmcv => { c with cmcv := v }
  | .lrr0 => { c with lrr0 := v }
  | .lrr1 => { c with lrr1 := v }
  | .ivr | .eoi | .irr _ => c

/-- The value of a control register; a read of IVR also moves its vector into service, EOI reads 0 (R42, R464). -/
def State.readCr (s : State) (r : CrReg) : Word × State :=
  match r with
  | .ivr => s.readIvr
  | .eoi => (0, s)
  | .irr i => (s.pendingVectors.extractLsb' (64 * i.val) 64, s)
  | .dcr => (s.cr.dcr, s)
  | .itm => (s.cr.itm, s)
  | .iva => (s.cr.iva, s)
  | .pta => (s.cr.pta, s)
  | .ipsr => (s.cr.ipsr, s)
  | .isr => (s.cr.isr, s)
  | .iip => (s.cr.iip, s)
  | .ifa => (s.cr.ifa, s)
  | .itir => (s.cr.itir, s)
  | .iipa => (s.cr.iipa, s)
  | .ifs => (s.cr.ifs, s)
  | .iim => (s.cr.iim, s)
  | .iha => (s.cr.iha, s)
  | .lid => (s.cr.lid, s)
  | .tpr => (s.cr.tpr, s)
  | .itv => (s.cr.itv, s)
  | .pmv => (s.cr.pmv, s)
  | .cmcv => (s.cr.cmcv, s)
  | .lrr0 => (s.cr.lrr0, s)
  | .lrr1 => (s.cr.lrr1, s)

/-- Write a control register; a write of EOI ends the highest interrupt in service (R42). -/
def State.writeCr (s : State) (r : CrReg) (v : Word) : State :=
  match r with
  | .eoi => s.writeEoi
  | r => { s with cr := s.cr.put r v }

/-- The register exists and may be accessed now (R463, R464). -/
def State.crOk (s : State) (n : BitVec 7) (write : Bool) : Except Exc CrReg :=
  match crReg n with
  | none => .error illegalOp
  | some r => if (write && r.readOnly) || (r.interruption && s.psrIc) then .error illegalOp else .ok r

/-- `mov cr3 = r2` (R463, in the order of R490). Every value of IVA is kept and read back, the bits 14:0 that R38 does not name
too (DESIGN CHOICE, log 19). -/
def movToCr (s : State) (qp : PredIdx) (cr3 : BitVec 7) (r2 : GrIdx) : Host.Outcome State Fault Refusal :=
  run s qp (.ok ())
    ((s.crOk cr3 true).bind fun r => (s.sourceGr r2).bind fun _ => s.privileged.bind fun _ => (s.consumeGr r2).bind fun v =>
      (require (v &&& ~~~ r.definedBits == 0) reservedField).bind fun _ => .ok { s := s.writeCr r v })

/-- `mov r1 = cr3` (R464). -/
def movFromCr (s : State) (qp : PredIdx) (r1 : GrIdx) (cr3 : BitVec 7) : Host.Outcome State Fault Refusal :=
  run s qp (s.targetGr r1)
    ((s.crOk cr3 false).bind fun r => s.privileged.bind fun _ =>
      .ok { s := (s.readCr r).2.setGr r1 (GReg.ofWord (s.readCr r).1) .alu })

/-! ### PSR (R466 to R474) -/

/-- The reserved bits of PSR[31:0]: 0, 12:6, 16, 31:28 (R34). -/
def psrReservedLow : Word := 0xF0011FC1

/-- The reserved bits of the system mask PSR[23:0] (R473). -/
def smReserved : Word := 0x11FC1

/-- The user mask bits an immediate may name: 1 to 5 (R471). -/
def umBits : Word := 0x3E

/-- The user-mask bits that a user-mask instruction changes: not `up` when PSR.sp = 1 (R467, R471). -/
def State.umWritable (s : State) : Word := if s.psrSp then 0x3A else 0x3E

/-- `mov psr.l = r2` (R466). -/
def movToPsrL (s : State) (qp : PredIdx) (r2 : GrIdx) : Host.Outcome State Fault Refusal :=
  run s qp (.ok ())
    ((s.sourceGr r2).bind fun _ => s.privileged.bind fun _ => (s.consumeGr r2).bind fun v =>
      (require (v &&& psrReservedLow == 0) reservedField).bind fun _ =>
        .ok { s := s.putPsr 0xFFFFFFFF v .system })

/-- The user mask part of PSR replaced by that of `v` (R467). Every instruction that writes the user mask writes all of it that it may, also
the bits its operand leaves as they are (R467, R471, R472; log 6). -/
def State.putUm (s : State) (v : Word) : State := s.putPsr s.umWritable v .alu

/-- PSR as a read of it finds it: the user mask as it was before the group or at a serialization in it, the rest as written (R330, R467,
R911 (a); log 45). -/
def State.psrRead (s : State) : Word := putField s.psr 0 s.umGroup

/-- `mov psr.um = r2` (R467). -/
def movToPsrUm (s : State) (qp : PredIdx) (r2 : GrIdx) : Host.Outcome State Fault Refusal :=
  run s qp (.ok ())
    ((s.consumeGr r2).bind fun v =>
      (require (!v.getLsbD 0) reservedField).bind fun _ => .ok { s := s.putUm v })

/-- `mov r1 = psr` (R468). -/
def movFromPsr (s : State) (qp : PredIdx) (r1 : GrIdx) : Host.Outcome State Fault Refusal :=
  run s qp (s.targetGr r1)
    (s.privileged.bind fun _ => .ok { s := s.setGr r1 (GReg.ofWord (s.psrRead &&& 0x00000018FFFFFFFF)) .alu })

/-- `mov r1 = psr.um` (R469). -/
def movFromPsrUm (s : State) (qp : PredIdx) (r1 : GrIdx) : Host.Outcome State Fault Refusal :=
  run s qp (s.targetGr r1)
    (.ok { s := s.setGr r1 (GReg.ofWord (s.psrRead &&& (if s.psrSp then 0x3B else 0x3F))) .alu })

/-- `sum`, `rum` (R471, R472). -/
def userMask (s : State) (qp : PredIdx) (set : Bool) (imm24 : BitVec 24) : Host.Outcome State Fault Refusal :=
  run s qp (.ok ())
    ((require (zext imm24 &&& ~~~ umBits == 0) reservedField).bind fun _ =>
      .ok { s := s.putUm (if set then s.psr ||| zext imm24 else s.psr &&& ~~~ zext imm24) })

/-- `ssm`, `rsm` (R473, R474). -/
def systemMask (s : State) (qp : PredIdx) (set : Bool) (imm24 : BitVec 24) : Host.Outcome State Fault Refusal :=
  run s qp (.ok ())
    (s.privileged.bind fun _ => (require (zext imm24 &&& smReserved == 0) reservedField).bind fun _ =>
      .ok { s := s.putPsr (zext imm24) (if set then zext imm24 else 0) .system })

/-! ### Indirect register files (R480 to R484) -/

/-- The indirectly addressed files. -/
inductive IndFile where
  | pmc | pmd | rr | pkr | ibr | dbr | cpuid
  deriving DecidableEq, Repr

/-- The index an address register names (R484). -/
def IndFile.index (f : IndFile) (v : Word) : Nat :=
  match f with
  | .rr => (v.extractLsb' 61 3).toNat
  | .pmc | .pmd | .pkr | .ibr | .dbr | .cpuid => (v.extractLsb' 0 8).toNat

/-- The registers of a file (R45 to R52). -/
def IndFile.size : IndFile → Nat
  | .pmc => 16
  | .pmd => 18
  | .rr => 8
  | .pkr => 16
  | .ibr => 8
  | .dbr => 8
  | .cpuid => 5

/-- The page sizes of inserts and purges (R152). -/
def pageSizeOk (ps : BitVec 6) : Bool := [12, 13, 14, 16, 18, 20, 22, 24, 26, 28, 30, 32].contains ps.toNat

/-- The value may be written to a register of the file (R481). That bits 7:4 of a PKR, which the layout of R46 and R593 does not name, are
reserved as the unnamed bits of an RR are is a DESIGN CHOICE (log 19). -/
def IndFile.valueOk (f : IndFile) (v : Word) : Bool :=
  match f with
  | .rr => v &&& 0xFFFFFFFF00000002 == 0 && pageSizeOk (rrPs v)
  | .pkr => v &&& 0xFFFFFFFF000000F0 == 0
  | .pmc | .pmd | .ibr | .dbr | .cpuid => true

/-- A valid key register excludes another valid one with its key (R481). -/
def writePkr (p : Vector Word 16) (i : Nat) (v : Word) : Vector Word 16 :=
  let p := if v.getLsbD 0 then
      p.map (fun k => if k.getLsbD 0 && k.extractLsb' 8 24 = v.extractLsb' 8 24 then putBit k 0 false else k)
    else p
  p.setIfInBounds i v

/-- The ignored bits of odd breakpoint registers, 62:60 of IBR and 61:60 of DBR (R47, R48), are dropped by a write and read 0: the rules say
"ignored" and no more (DESIGN CHOICE, log 19). -/
def breakValue (i : Nat) (ignored v : Word) : Word := if i % 2 = 1 then v &&& ~~~ ignored else v

/-- Write a register of a file (R480 to R482). -/
def State.writeInd (s : State) (f : IndFile) (i : Nat) (v : Word) : State :=
  match f with
  | .pmc => s.writePmc i v
  | .pmd => s.writePmd i v
  | .rr => { s with rr := s.rr.setIfInBounds i v }
  | .pkr => { s with pkr := writePkr s.pkr i v }
  | .ibr => { s with ibr := s.ibr.setIfInBounds i (breakValue i 0x7000000000000000 v) }
  | .dbr => { s with dbr := s.dbr.setIfInBounds i (breakValue i 0x3000000000000000 v) }
  | .cpuid => s

/-- Read a register of a file (R480 to R483). -/
def State.readInd (s : State) (f : IndFile) (i : Nat) : Word :=
  match f with
  | .pmc => s.readPmc i
  | .pmd => s.readPmd i
  | .rr => s.rr.toList.getD i 0
  | .pkr => s.pkr.toList.getD i 0
  | .ibr => s.ibr.toList.getD i 0
  | .dbr => s.dbr.toList.getD i 0
  | .cpuid => Config.cpuid i

/-- `mov file[r3] = r2` (R484). -/
def movToInd (s : State) (qp : PredIdx) (f : IndFile) (r3 r2 : GrIdx) : Host.Outcome State Fault Refusal :=
  run s qp (.ok ())
    ((s.sourceGr r3).bind fun _ => (s.sourceGr r2).bind fun _ => s.privileged.bind fun _ =>
      (s.consumeGr r3).bind fun a => (s.consumeGr r2).bind fun v =>
      (require (decide (f.index a < f.size) && f.valueOk v) reservedField).bind fun _ =>
        .ok { s := s.writeInd f (f.index a) v })

/-- A read of the file is privileged: all but `pmd` and `cpuid` (R484). -/
def IndFile.readPrivileged : IndFile → Bool
  | .pmd | .cpuid => false
  | .pmc | .rr | .pkr | .ibr | .dbr => true

/-- `mov r1 = file[r3]` (R484). -/
def movFromInd (s : State) (qp : PredIdx) (f : IndFile) (r1 r3 : GrIdx) : Host.Outcome State Fault Refusal :=
  run s qp (s.targetGr r1)
    ((s.sourceGr r3).bind fun _ => (if f.readPrivileged then s.privileged else .ok ()).bind fun _ => (s.consumeGr r3).bind fun a =>
      (require (decide (f.index a < f.size)) reservedField).bind fun _ =>
        .ok { s := s.setGr r1 (GReg.ofWord (s.readInd f (f.index a))) .alu })

/-! ### The instructions -/

/-- `mov cr3=r2` (M32, R463). -/
def execMovCr3R2 (qp : PredIdx) (cr3 : BitVec 7) (r2 : GrIdx) (s : State) : Host.Outcome State Fault Refusal :=
  movToCr s qp cr3 r2

/-- `mov r1=cr3` (M33, R464). -/
def execMovR1Cr3 (qp : PredIdx) (r1 : GrIdx) (cr3 : BitVec 7) (s : State) : Host.Outcome State Fault Refusal :=
  movFromCr s qp r1 cr3

/-- `mov psr.l=r2` (M35, R466). -/
def execMovPsrLR2 (qp : PredIdx) (r2 : GrIdx) (s : State) : Host.Outcome State Fault Refusal :=
  movToPsrL s qp r2

/-- `mov psr.um=r2` (M35, R467). -/
def execMovPsrUmR2 (qp : PredIdx) (r2 : GrIdx) (s : State) : Host.Outcome State Fault Refusal :=
  movToPsrUm s qp r2

/-- `mov r1=psr` (M36, R468). -/
def execMovR1Psr (qp : PredIdx) (r1 : GrIdx) (s : State) : Host.Outcome State Fault Refusal :=
  movFromPsr s qp r1

/-- `mov r1=psr.um` (M36, R469). -/
def execMovR1PsrUm (qp : PredIdx) (r1 : GrIdx) (s : State) : Host.Outcome State Fault Refusal :=
  movFromPsrUm s qp r1

/-- `sum imm24` (M44, R471). -/
def execSumImm24 (qp : PredIdx) (imm24 : BitVec 24) (s : State) : Host.Outcome State Fault Refusal :=
  userMask s qp true imm24

/-- `rum imm24` (M44, R472). -/
def execRumImm24 (qp : PredIdx) (imm24 : BitVec 24) (s : State) : Host.Outcome State Fault Refusal :=
  userMask s qp false imm24

/-- `ssm imm24` (M44, R473). -/
def execSsmImm24 (qp : PredIdx) (imm24 : BitVec 24) (s : State) : Host.Outcome State Fault Refusal :=
  systemMask s qp true imm24

/-- `rsm imm24` (M44, R474). -/
def execRsmImm24 (qp : PredIdx) (imm24 : BitVec 24) (s : State) : Host.Outcome State Fault Refusal :=
  systemMask s qp false imm24

/-- `mov pmc[r3]=r2` (M42, R480). -/
def execMovPmcR3R2 (qp : PredIdx) (r3 r2 : GrIdx) (s : State) : Host.Outcome State Fault Refusal :=
  movToInd s qp .pmc r3 r2

/-- `mov r1=pmc[r3]` (M43, R480). -/
def execMovR1PmcR3 (qp : PredIdx) (r1 r3 : GrIdx) (s : State) : Host.Outcome State Fault Refusal :=
  movFromInd s qp .pmc r1 r3

/-- `mov pmd[r3]=r2` (M42, R480). -/
def execMovPmdR3R2 (qp : PredIdx) (r3 r2 : GrIdx) (s : State) : Host.Outcome State Fault Refusal :=
  movToInd s qp .pmd r3 r2

/-- `mov r1=pmd[r3]` (M43, R480). -/
def execMovR1PmdR3 (qp : PredIdx) (r1 r3 : GrIdx) (s : State) : Host.Outcome State Fault Refusal :=
  movFromInd s qp .pmd r1 r3

/-- `mov rr[r3]=r2` (M42, R481). -/
def execMovRrR3R2 (qp : PredIdx) (r3 r2 : GrIdx) (s : State) : Host.Outcome State Fault Refusal :=
  movToInd s qp .rr r3 r2

/-- `mov r1=rr[r3]` (M43, R481). -/
def execMovR1RrR3 (qp : PredIdx) (r1 r3 : GrIdx) (s : State) : Host.Outcome State Fault Refusal :=
  movFromInd s qp .rr r1 r3

/-- `mov pkr[r3]=r2` (M42, R481). -/
def execMovPkrR3R2 (qp : PredIdx) (r3 r2 : GrIdx) (s : State) : Host.Outcome State Fault Refusal :=
  movToInd s qp .pkr r3 r2

/-- `mov r1=pkr[r3]` (M43, R481). -/
def execMovR1PkrR3 (qp : PredIdx) (r1 r3 : GrIdx) (s : State) : Host.Outcome State Fault Refusal :=
  movFromInd s qp .pkr r1 r3

/-- `mov ibr[r3]=r2` (M42, R482). -/
def execMovIbrR3R2 (qp : PredIdx) (r3 r2 : GrIdx) (s : State) : Host.Outcome State Fault Refusal :=
  movToInd s qp .ibr r3 r2

/-- `mov r1=ibr[r3]` (M43, R482). -/
def execMovR1IbrR3 (qp : PredIdx) (r1 r3 : GrIdx) (s : State) : Host.Outcome State Fault Refusal :=
  movFromInd s qp .ibr r1 r3

/-- `mov dbr[r3]=r2` (M42, R482). -/
def execMovDbrR3R2 (qp : PredIdx) (r3 r2 : GrIdx) (s : State) : Host.Outcome State Fault Refusal :=
  movToInd s qp .dbr r3 r2

/-- `mov r1=dbr[r3]` (M43, R482). -/
def execMovR1DbrR3 (qp : PredIdx) (r1 r3 : GrIdx) (s : State) : Host.Outcome State Fault Refusal :=
  movFromInd s qp .dbr r1 r3

/-- `mov r1=cpuid[r3]` (M43, R483). -/
def execMovR1CpuidR3 (qp : PredIdx) (r1 r3 : GrIdx) (s : State) : Host.Outcome State Fault Refusal :=
  movFromInd s qp .cpuid r1 r3

end Sys2Proof.Machine
end

