-- ==== Sys2Proof/Machine/Float.lean ====
section
/-! DEFINITION. Machine/Float.lean: floating-point values, rounding, the arithmetic of the F formats and the faults and
traps it raises (`spec/44_f_type.md` R502 to R512, `spec/60_exceptions.md` R561). -/

namespace Sys2Proof.Machine

/-! ### Types -/

/-- The classes of R502. -/
inductive FpClass where
  | natVal | unsupported | snan | qnan | inf | zero | unnormal | normal
  deriving DecidableEq, Repr

/-- An exact finite value: `(-1)^neg * m * 2^k`. -/
structure Exact where
  neg : Bool
  m   : Nat
  k   : Int
  deriving DecidableEq, Repr

/-- The order of two values; an unsupported value or a NaN is unordered. -/
inductive FpOrd where
  | less | equal | greater | unordered
  deriving DecidableEq, Repr

end Sys2Proof.Machine

namespace Sys2Proof

open Machine

/-! ### Values (R502, R507) -/

/-- The class of a register value (R502); denormals and pseudo-denormals count as unnormal. -/
def FReg.fpClass (f : FReg) : FpClass :=
  if f = FReg.natVal then .natVal
  else if f.exp = 0x1FFFF then
    if !f.sig.getLsbD 63 then .unsupported
    else if f.sig = 0x8000000000000000 then .inf
    else if f.sig.getLsbD 62 then .qnan else .snan
  else if f.sig = 0 then .zero
  else if f.exp = 0 || !f.sig.getLsbD 63 then .unnormal
  else .normal

/-- The value is a NaN. -/
def FReg.isNan (f : FReg) : Bool := f.fpClass = .qnan || f.fpClass = .snan

/-- A NaN made quiet (R503). -/
def FReg.quiet (f : FReg) : FReg := { f with sig := f.sig ||| 0x4000000000000000 }

/-- The exact value of a finite register value (R502). -/
def FReg.exact (f : FReg) : Exact :=
  { neg := f.sign, m := f.sig.toNat, k := (if f.exp = 0 then -16382 else (f.exp.toNat : Int) - 65535) - 63 }

/-- An infinity. -/
def FReg.infinity (neg : Bool) : FReg := { sign := neg, exp := 0x1FFFF, sig := 0x8000000000000000 }

/-- A signed zero. -/
def FReg.zeroOf (neg : Bool) : FReg := { sign := neg, exp := 0, sig := 0 }

/-- A register value from a significand of `p` bits whose leading bit has weight `2^e`. -/
def FReg.ofParts (neg : Bool) (m p : Nat) (e : Int) : FReg :=
  { sign := neg, exp := BitVec.ofInt 17 (e + 65535), sig := BitVec.ofNat 64 (m <<< (64 - p)) }

/-- The value with its sign cleared. -/
def FReg.abs (f : FReg) : FReg := { f with sign := false }

/-- The high or the low single-precision half of a significand as a register value. -/
def FReg.half (f : FReg) (hi : Bool) : FReg :=
  singleToReg (if hi then f.sig.extractLsb' 32 32 else f.sig.extractLsb' 0 32)

/-- The high or low 32 bits of a significand. -/
def FReg.bits32 (f : FReg) (hi : Bool) : BitVec 32 := if hi then f.sig.extractLsb' 32 32 else f.sig.extractLsb' 0 32

/-- A relation on an order. -/
def FpRel.holds (r : FpRel) (o : FpOrd) : Bool :=
  match r with
  | .eq => o = .equal
  | .lt => o = .less
  | .le => o = .less || o = .equal
  | .unord => o = .unordered
  | .neq => o ≠ .equal
  | .nlt => o ≠ .less
  | .nle => o ≠ .less && o ≠ .equal
  | .ord => o ≠ .unordered

/-- The relation signals on a quiet NaN: `lt`, `le` and their negations (R507). -/
def FpRel.signals : FpRel → Bool
  | .lt | .le | .nlt | .nle => true
  | .eq | .unord | .neq | .ord => false

end Sys2Proof

namespace Sys2Proof.Machine

/-! ### Exact arithmetic -/

/-- The product of two exact values. -/
def Exact.mul (a b : Exact) : Exact := { neg := a.neg != b.neg, m := a.m * b.m, k := a.k + b.k }

/-- The significand of `a` in units of `2^k`, `k` not above `a.k`. -/
def Exact.scaled (a : Exact) (k : Int) : Int :=
  let n : Int := (a.m <<< (a.k - k).toNat : Nat)
  if a.neg then -n else n

/-- The exact sum; the sign of a zero sum is `zneg`. -/
def Exact.add (a b : Exact) (zneg : Bool) : Exact :=
  let k := min a.k b.k
  let n := a.scaled k + b.scaled k
  { neg := if n = 0 then zneg else decide (n < 0), m := n.natAbs, k }

/-- `a < b` of two exact values. -/
def Exact.lt (a b : Exact) : Bool := let k := min a.k b.k; decide (a.scaled k < b.scaled k)

/-- `a = b` of two exact values. -/
def Exact.eqv (a b : Exact) : Bool := let k := min a.k b.k; decide (a.scaled k = b.scaled k)

/-! ### Precision, range, rounding (R503) -/

/-- The precision completer of an instruction (R503). -/
inductive FpPrec where
  | none | single | double | simd
  deriving DecidableEq, Repr

/-- What governs one operation: rounding mode, significand bits, exponent range, flush to zero, enabled traps V, D, Z, O, U,
I, and the exponent field that denormal results take (log 22). -/
structure FpEnv where
  rc   : BitVec 2
  prec : Nat
  emin : Int
  emax : Int
  ftz  : Bool
  trap : BitVec 6
  denE : BitVec 17
  deriving DecidableEq, Repr

/-- Significand bits for a `pc` field; the reserved code 01 gives any of the three (R503; log 23). -/
def precOfPc (pc : BitVec 2) (k : Nat) : Nat :=
  match pc.toNat with
  | 0 => 24
  | 2 => 53
  | 3 => 64
  | _ => if k = 0 then 24 else if k = 1 then 53 else 64

/-- The environment of an instruction naming status field `sf` (R503). -/
def State.fpEnv (s : State) (sf : BitVec 2) (p : FpPrec) : FpEnv :=
  let c := fpsrControls s.old.fpsr sf
  let base : FpEnv :=
    { rc := c.extractLsb' 4 2, prec := precOfPc (c.extractLsb' 2 2) (Config.freeBelow s.freeCtr 7010 3), emin := -16382,
      emax := 16383, ftz := c.getLsbD 0, trap := fpsrEnabled s.old.fpsr sf, denE := 0 }
  match p with
  | .single | .simd => { base with prec := 24, emin := -126, emax := 127, denE := 0xFF81 }
  | .double => { base with prec := 53, emin := -1022, emax := 1023, denE := 0xFC01 }
  | .none => if c.getLsbD 1 then { base with emin := -65534, emax := 65535, denE := 1 } else base

/-- The rounding increment of a significand with its low bit, the discarded part `r` of `2^d` and the sign (R503). -/
def roundUp (rc : BitVec 2) (neg odd : Bool) (r d : Nat) : Bool :=
  match rc.toNat with
  | 0 => decide (2 * r > 2 ^ d) || (decide (2 * r = 2 ^ d) && odd)
  | 1 => neg && decide (r ≠ 0)
  | 2 => !neg && decide (r ≠ 0)
  | _ => false

/-- `m / 2^d` rounded: the result, whether it is inexact, whether it was rounded away from zero. -/
def roundShift (rc : BitVec 2) (neg : Bool) (m d : Nat) : Nat × Bool × Bool :=
  let q := m >>> d
  let r := m % 2 ^ d
  let up := roundUp rc neg (q % 2 = 1) r d
  (if up then q + 1 else q, decide (r ≠ 0), up)

/-- `m * 2^k` rounded to units of `2^g`. -/
def roundUnits (rc : BitVec 2) (neg : Bool) (m : Nat) (k g : Int) : Nat × Bool × Bool :=
  if g ≤ k then (m <<< (k - g).toNat, false, false) else roundShift rc neg m (g - k).toNat

/-! ### The outcome of one operation -/

/-- The result of one operation or of one half of a parallel one: value, the conditions V, D, Z, O, U, I, whether the
significand was rounded away from zero, whether the result was flushed, and whether R514 lets the hardware ask for
software assist (U44). -/
structure FpOut where
  res  : FReg
  v    : Bool := false
  d    : Bool := false
  z    : Bool := false
  o    : Bool := false
  u    : Bool := false
  i    : Bool := false
  fpa  : Bool := false
  ftz  : Bool := false
  tiny : Bool := false
  deriving DecidableEq, Repr

/-- What an overflow with the O trap disabled delivers: infinity or the largest finite number, as the rounding mode has it. R503 gives no
value for it: this one, and that I is set beside O, is the choice of IEEE 754 (DESIGN CHOICE, log 50). -/
def FpEnv.overflow (env : FpEnv) (neg : Bool) : FReg :=
  let toInf := match env.rc.toNat with
    | 0 => true
    | 1 => neg
    | 2 => !neg
    | _ => false
  if toInf then FReg.infinity neg else FReg.ofParts neg (2 ^ env.prec - 1) env.prec env.emax

/-- A denormal result of `n` units of the smallest magnitude (R508; log 22). -/
def FpEnv.denormal (env : FpEnv) (neg : Bool) (n : Nat) : FReg :=
  if n = 0 then FReg.zeroOf neg
  else if n = 2 ^ (env.prec - 1) then FReg.ofParts neg n env.prec env.emin
  else { sign := neg, exp := env.denE, sig := BitVec.ofNat 64 (n <<< (64 - env.prec)) }

/-- Round a non-zero exact value (R503, R508); tininess is detected after rounding, and with the U trap disabled an exact denormal
result raises no U (DESIGN CHOICE, log 22). -/
def FpEnv.round (env : FpEnv) (x : Exact) : FpOut :=
  let p := env.prec
  let g := x.k + (Nat.log2 x.m : Int) - (p - 1 : Nat)
  let (n, inexact, away) := roundUnits env.rc x.neg x.m x.k g
  let carry := decide (n = 2 ^ p)
  let n' := if carry then 2 ^ (p - 1) else n
  let e := g + (p - 1 : Nat) + (if carry then 1 else 0)
  let wrapped := FReg.ofParts x.neg n' p e
  if env.emax < e then
    if env.trap.getLsbD 3 then { res := wrapped, o := true, i := inexact, fpa := away }
    else
      let r := env.overflow x.neg
      { res := r, o := true, i := true, fpa := decide (r = FReg.infinity x.neg) }
  else if e < env.emin then
    if env.trap.getLsbD 4 then { res := wrapped, u := true, i := inexact, fpa := away, tiny := true }
    else if env.ftz then { res := FReg.zeroOf x.neg, u := true, i := true, ftz := true, tiny := true }
    else
      let (n2, inexact2, away2) := roundUnits env.rc x.neg x.m x.k (env.emin - (p - 1 : Nat))
      { res := env.denormal x.neg n2, u := inexact2, i := inexact2, fpa := away2, tiny := true }
  else { res := wrapped, i := inexact, fpa := away }

/-- Round an exact value; zero keeps its sign. -/
def FpEnv.roundZ (env : FpEnv) (x : Exact) : FpOut :=
  if x.m = 0 then { res := FReg.zeroOf x.neg } else env.round x

/-- The result of an invalid operation (R502, R503). -/
def fpInvalid : FpOut := { res := FReg.qnanIndefinite, v := true }

/-- What the operands alone decide, in the order given (R502, R503): an unsupported operand is invalid, else the first
NaN is returned quiet; the D condition holds when an operand is unnormal. -/
def fpOperands (l : List FReg) (k : FpOut) : FpOut :=
  let r : FpOut :=
    if l.any (fun f => f.fpClass = .unsupported) then fpInvalid
    else match l.find? FReg.isNan with
      | some f => { res := f.quiet, v := l.any (fun f => f.fpClass = .snan) }
      | none => k
  { r with d := l.any (fun f => f.fpClass = .unnormal) }

/-! ### `fma`, `fms`, `fnma` (R505) -/

/-- Which sign changes a multiply-add makes. -/
inductive FmaKind where
  | fma | fms | fnma
  deriving DecidableEq, Repr

/-- The sign of an exact zero sum: that of both terms if they agree, else minus only when rounding toward minus infinity, as in IEEE 754:
R503 and R505 do not say (DESIGN CHOICE, log 50). -/
def zeroSign (rc : BitVec 2) (a b : Bool) : Bool := if a = b then a else rc = 1

/-- `f3 * f4 + f2` with a single rounding; with `omit` the addend is left out (R505). Infinity times zero and infinity minus infinity are
invalid and deliver the QNaN Indefinite, which R502 says of unsupported operands only (DESIGN CHOICE, log 50). -/
def FpEnv.fma (env : FpEnv) (kind : FmaKind) (f3 f4 f2 : FReg) (omit_ : Bool) : FpOut :=
  fpOperands [f4, f2, f3]
    (let pneg := (f3.sign != f4.sign) != (kind == .fnma)
     let aneg := f2.sign != (kind == .fms)
     let c3 := f3.fpClass
     let c4 := f4.fpClass
     let c2 := f2.fpClass
     if (c3 = .inf && c4 = .zero) || (c3 = .zero && c4 = .inf) then fpInvalid
     else if c3 = .inf || c4 = .inf then
       if c2 = .inf && aneg != pneg then fpInvalid else { res := FReg.infinity pneg }
     else if c2 = .inf then { res := FReg.infinity aneg }
     else
       let prod := { f3.exact.mul f4.exact with neg := pneg }
       if omit_ then env.roundZ prod
       else env.roundZ (prod.add { f2.exact with neg := aneg } (zeroSign env.rc pneg aneg)))

/-! ### Division and square root of the special cases (R510) -/

/-- `a / b` of non-zero values with a sticky low bit: enough bits that any later rounding is exact. -/
def Exact.div (a b : Exact) : Exact :=
  let n := a.m <<< 200
  { neg := a.neg != b.neg, m := 2 * (n / b.m) + (if n % b.m = 0 then 0 else 1), k := a.k - b.k - 201 }

/-- The integer square root by bits: `2^bits` bounds it. -/
def natSqrtBits (n : Nat) : Nat → Nat → Nat
  | 0, r => r
  | b + 1, r => natSqrtBits n b (if (r + 2 ^ b) * (r + 2 ^ b) ≤ n then r + 2 ^ b else r)

/-- The square root of a positive value, with a sticky low bit. -/
def Exact.sqrt (a : Exact) : Exact :=
  let sh : Nat := if a.k % 2 = 0 then 200 else 201
  let n := a.m <<< sh
  let r := natSqrtBits n 140 0
  { neg := false, m := 2 * r + (if r * r = n then 0 else 1), k := (a.k - sh) / 2 - 1 }

/-- A quotient or a root sets V, Z and D only (R510); that it was flushed to zero is still seen (R744). -/
def FpOut.divFlags (o : FpOut) : FpOut := { o with o := false, u := false, i := false, fpa := false }

/-- Overflow and underflow as without their traps, which a quotient or a root does not raise (R510). -/
def FpEnv.untrapped (env : FpEnv) : FpEnv :=
  { env with trap := env.trap &&& 0x27, ftz := env.ftz && !env.trap.getLsbD 4 }

/-- The special cases of `frcpa`: `none` when the approximation is delivered. `far` says that the exponents are outside
the range of the software iteration; such a quotient may ask for software assist whatever its operands and its size, as R510 does not
say for which ranges the hardware does (`tiny`; DESIGN CHOICE, log 25). -/
def FpEnv.quotient (env : FpEnv) (a b : FReg) (far : Bool) : Option FpOut :=
  let ca := a.fpClass
  let cb := b.fpClass
  let neg := a.sign != b.sign
  let finite := fun c : FpClass => c = .normal || c = .unnormal
  if finite ca && finite cb && !far then none
  else some (fpOperands [a, b]
    (if (ca = .inf && cb = .inf) || (ca = .zero && cb = .zero) then fpInvalid
     else if ca = .inf then { res := FReg.infinity neg }
     else if cb = .inf || ca = .zero then { res := FReg.zeroOf neg }
     else if cb = .zero then { res := FReg.infinity neg, z := true }
     else { (env.untrapped.round (a.exact.div b.exact)).divFlags with tiny := true }))

/-- The special cases of `frsqrta`, with the software assist of a root out of range as for a quotient (DESIGN CHOICE, log 25). -/
def FpEnv.root (env : FpEnv) (b : FReg) (far : Bool) : Option FpOut :=
  let c := b.fpClass
  if (c = .normal || c = .unnormal) && !b.sign && !far then none
  else some (fpOperands [b]
    (if c = .zero then { res := FReg.zeroOf b.sign }
     else if b.sign then fpInvalid
     else if c = .inf then { res := FReg.infinity false }
     else { (env.untrapped.round b.exact.sqrt).divFlags with tiny := true }))

/-- 1. -/
def Exact.one : Exact := { neg := false, m := 1, k := 0 }

/-- The full register range, rounded to nearest. -/
def FpEnv.register : FpEnv := { rc := 0, prec := 64, emin := -65534, emax := 65535, ftz := false, trap := 0, denE := 1 }

/-- Single precision, rounded to nearest. -/
def FpEnv.singles : FpEnv := { rc := 0, prec := 24, emin := -126, emax := 127, ftz := false, trap := 0, denE := 0xFF81 }

/-- `1 - e < x < 1 + e`, with `e` in units of `2^-128`. -/
def Exact.nearOne (x : Exact) (e : Nat) : Bool :=
  Exact.lt { neg := false, m := 2 ^ 128 - e, k := -128 } x && x.lt { neg := false, m := 2 ^ 128 + e, k := -128 }

/-- `(1 - e)^2 < x < (1 + e)^2`, with `e` in units of `2^-256`. -/
def Exact.nearOneSq (x : Exact) (e : Nat) : Bool :=
  Exact.lt { neg := false, m := (2 ^ 256 - e) ^ 2, k := -512 } x && x.lt { neg := false, m := (2 ^ 256 + e) ^ 2, k := -512 }

/-- `2^-8.886` in units of `2^-128`, rounded up (R510). -/
def recipError : Nat := 0x8a86564f94e2c70082f7a02d258db0

/-- `2^-8.831` in units of `2^-256`, rounded up (R510). -/
def rsqrtError : Nat := 0x8fe85f2c9b09e5d92b52724b6c5b0d526189938ceef82cf0761d6ad70acd36

/-- `recip_approx`: the table's value where its relative error is below `2^-8.886`, the reciprocal itself where the free function
gives another one, rounded to the format of the result (R510, D25; log 26). -/
def recipBounded (env : FpEnv) (raw b : FReg) : FReg :=
  if raw.fpClass = .normal && (raw.exact.mul b.exact).nearOne recipError then raw
  else (env.round (Exact.one.div b.exact)).res

/-- The reciprocal of a finite value overflows the format: no approximation of it exists, so the operand is outside the range of the
software iteration (R510). -/
def recipOverflows (env : FpEnv) (b : FReg) : Bool := (env.round (Exact.one.div b.exact)).o

/-- `rsqrt_approx`, with the relative error `2^-8.831` (R510, D25; log 26). -/
def rsqrtBounded (env : FpEnv) (raw b : FReg) : FReg :=
  if raw.fpClass = .normal && !raw.sign && ((raw.exact.mul raw.exact).mul b.exact).nearOneSq rsqrtError then raw
  else (env.round (Exact.one.div b.exact.sqrt)).res

/-- The D condition of an approximation. -/
def fpApprox (ops : List FReg) (r : FReg) : FpOut := { res := r, d := ops.any (fun f => f.fpClass = .unnormal) }

/-! ### Conversions (R512) -/

/-- A value rounded to an integer in `lo` to `hi`, or the integer indefinite with V (R512); the result is a significand. -/
def fcvtTo (rc : BitVec 2) (f : FReg) (lo hi : Int) (indefinite : Word) : FpOut :=
  let bad : FpOut := { res := FReg.ofSig indefinite, v := true }
  let r : FpOut := match f.fpClass with
    | .natVal | .unsupported | .snan | .qnan | .inf => bad
    | .zero => { res := FReg.ofSig 0 }
    | .unnormal | .normal =>
      let (n, inexact, away) := roundUnits rc f.sign f.exact.m f.exact.k 0
      let v : Int := if f.sign then -(n : Int) else n
      if lo ≤ v ∧ v ≤ hi then { res := FReg.ofSig (BitVec.ofInt 64 v), i := inexact, fpa := away } else bad
  { r with d := f.fpClass = .unnormal }

/-- `fcvt.fx`, `fcvt.fxu`: 64-bit integers. -/
def fcvt64 (rc : BitVec 2) (unsigned : Bool) (f : FReg) : FpOut :=
  if unsigned then fcvtTo rc f 0 (2 ^ 64 - 1) 0x8000000000000000
  else fcvtTo rc f (-(2 ^ 63)) (2 ^ 63 - 1) 0x8000000000000000

/-- `fpcvt.fx`, `fpcvt.fxu`: 32-bit integers. -/
def fcvt32 (rc : BitVec 2) (unsigned : Bool) (f : FReg) : FpOut :=
  if unsigned then fcvtTo rc f 0 (2 ^ 32 - 1) 0x80000000 else fcvtTo rc f (-(2 ^ 31)) (2 ^ 31 - 1) 0x80000000

/-- `fcvt.xf`: a signed 64-bit integer significand, exactly (R512). -/
def fcvtXf (f : FReg) : FReg :=
  if f.sig = 0 then FReg.zero
  else
    let m := f.sig.toInt.natAbs
    let l := Nat.log2 m
    { sign := f.sig.getLsbD 63, exp := BitVec.ofNat 17 (0xFFFF + l), sig := BitVec.ofNat 64 (m <<< (63 - l)) }

/-! ### Compares, minimum and maximum (R507) -/

/-- The order of two values that are not NaNs: infinities by sign, the rest exactly. -/
def fpOrder (a b : FReg) : FpOrd :=
  let un := fun f : FReg => f.isNan || f.fpClass = .unsupported
  if un a || un b then .unordered
  else
    let rank := fun f : FReg => if f.fpClass = .inf then (if f.sign then -1 else 1 : Int) else 0
    if rank a < rank b then .less
    else if rank b < rank a then .greater
    else if rank a ≠ 0 then .equal
    else if a.exact.lt b.exact then .less
    else if a.exact.eqv b.exact then .equal
    else .greater

/-- The V and D conditions of a compare; the value is unused (R507). -/
def fpCompareOut (r : FpRel) (a b : FReg) : FpOut :=
  let bad := fun f : FReg => f.fpClass = .snan || f.fpClass = .unsupported || (r.signals && f.fpClass = .qnan)
  { res := FReg.zero, v := bad a || bad b, d := a.fpClass = .unnormal || b.fpClass = .unnormal }

/-- Minimum and maximum. -/
inductive MinMax where
  | min | max | amin | amax
  deriving DecidableEq, Repr

/-- `fmin`, `fmax`, `famin`, `famax` of one pair: `f2` when it is strictly the one looked for, else `f3`; a NaN gives `f3`
and V (R507). -/
def fpMinMax (m : MinMax) (f2 f3 : FReg) : FpOut :=
  let first : Bool := match m with
    | .min => fpOrder f2 f3 = .less
    | .max => fpOrder f2 f3 = .greater
    | .amin => fpOrder f2.abs f3.abs = .less
    | .amax => fpOrder f2.abs f3.abs = .greater
  let d := f2.fpClass = .unnormal || f3.fpClass = .unnormal
  if f2.fpClass = .unsupported || f3.fpClass = .unsupported then { fpInvalid with d }
  else if f2.isNan || f3.isNan then { res := f3, v := true, d }
  else { res := if first then f2 else f3, d }

/-- Membership in a class mask (R507): bit 8 NaTVal, 7 QNaN, 6 SNaN; bits 0 positive, 1 negative together with 2 zero,
3 unnormal, 4 normal, 5 infinity (PRESUMED, log 24). -/
def fclassHolds (m : BitVec 9) (f : FReg) : Bool :=
  let sign := if f.sign then m.getLsbD 1 else m.getLsbD 0
  match f.fpClass with
  | .natVal => m.getLsbD 8
  | .qnan => m.getLsbD 7
  | .snan => m.getLsbD 6
  | .zero => sign && m.getLsbD 2
  | .unnormal => sign && m.getLsbD 3
  | .normal => sign && m.getLsbD 4
  | .inf => sign && m.getLsbD 5
  | .unsupported => false

/-! ### Parallel halves (R502) -/

/-- Two 32-bit halves in a significand (R502). -/
def packHalves (hi lo : BitVec 32) : FReg := FReg.ofSig (hi ++ lo)

/-! ### Faults and traps (R503, R514, R561) -/

/-- What an instruction computes: one outcome, or one for each half of a parallel instruction, with its result. -/
structure FpResult where
  lo  : FpOut
  hi  : FpOut := { res := FReg.zero }
  res : FReg
  deriving DecidableEq, Repr

/-- A scalar result. -/
def FpResult.scalar (o : FpOut) : FpResult := { lo := o, res := o.res }

/-- A parallel result: each half in single-precision memory format. The exponent of a half whose enabled trap has it adjusted (R503) is cut to
the 8 bits of the format (DESIGN CHOICE, log 22). -/
def FpResult.parallel (hi lo : FpOut) : FpResult :=
  { lo, hi, res := packHalves (regToSingle hi.res) (regToSingle lo.res) }

/-- A bit as a number field. -/
def bitAt (b : Bool) (w k : Nat) : BitVec w := (BitVec.ofBool b).setWidth w <<< k

/-- The flags V, D, Z, O, U, I of an outcome (R31 order). -/
def FpOut.flags (o : FpOut) : BitVec 6 :=
  bitAt o.v 6 0 ||| bitAt o.d 6 1 ||| bitAt o.z 6 2 ||| bitAt o.o 6 3 ||| bitAt o.u 6 4 ||| bitAt o.i 6 5

/-- Software assist is asked for: freely, for an unnormal operand or a tiny result (U44; log 25). -/
def State.swa (s : State) (o : FpOut) (site : Nat) : Bool := (o.d || o.tiny) && s.freeBool site

/-- The four fault bits of one half: V, D, Z where enabled, SWA (R561). -/
def faultBits (trap : BitVec 6) (o : FpOut) (swa : Bool) : BitVec 16 :=
  bitAt (o.v && trap.getLsbD 0) 16 0 ||| bitAt (o.d && trap.getLsbD 1) 16 1 ||| bitAt (o.z && trap.getLsbD 2) 16 2
    ||| bitAt swa 16 3

/-- ISR.code of a Floating-Point Exception fault, 0 when there is none (R561). -/
def State.fpFaultCode (s : State) (trap : BitVec 6) (r : FpResult) : BitVec 16 :=
  faultBits trap r.lo (s.swa r.lo 7000) ||| (faultBits trap r.hi (s.swa r.hi 7001) <<< 4)

/-- The trap bits O, U, I (enabled) and FPA of one half (R561; log 28). -/
def trapBits (trap : BitVec 6) (o : FpOut) : BitVec 16 :=
  let t := bitAt (o.o && trap.getLsbD 3) 16 0 ||| bitAt (o.u && trap.getLsbD 4) 16 1 ||| bitAt (o.i && trap.getLsbD 5) 16 2
  if t = 0 then 0 else t ||| bitAt o.fpa 16 3

/-- ISR.code of a Floating-Point Exception trap (R561). -/
def fpTrapCode (trap : BitVec 6) (r : FpResult) : Option (BitVec 16) :=
  let c := (trapBits trap r.lo <<< 11) ||| (trapBits trap r.hi <<< 7)
  if c = 0 then none else some c

/-- Note the flushed results of an instruction (R744): two flushed halves of a parallel one are two (DESIGN CHOICE, log 30). -/
def State.noteFlush (s : State) (r : FpResult) : State :=
  let s := if r.lo.ftz then s.emit .flushToZero else s
  if r.hi.ftz then s.emit .flushToZero else s

/-- Complete an arithmetic instruction: the fault before the write, or flags, target and trap (R503, R514). -/
def State.fpComplete (s : State) (sf : BitVec 2) (trap : BitVec 6) (r : FpResult) (write : State → State) :
    Except Exc Res :=
  let code := s.fpFaultCode trap r
  if code ≠ 0 then .error (.intr { vec := .fpFault, code })
  else .ok { s := write ((s.raiseFlags sf (r.lo.flags ||| r.hi.flags)).noteFlush r), fpTrap := fpTrapCode trap r }

/-- Some source is NaTVal (R503). -/
def anyNatVal (l : List FReg) : Bool := l.any (fun f => f = FReg.natVal)

/-- An arithmetic instruction with one floating-point target: checks (R514), NaTVal (R503), then the computation. `ops` is
its weight in FP_OPS_RETIRED (R745). -/
def fpArith (s : State) (qp : PredIdx) (f1 : FrIdx) (srcs : List FrIdx) (sf : BitVec 2) (ops : Nat)
    (r : FpResult) : Host.Outcome State Fault Refusal :=
  run s qp (targetFr f1)
    ((s.fpEnabled (f1 :: srcs)).bind fun _ =>
      let t := s.emit (.fpOps ops)
      if anyNatVal (srcs.map s.fr) then .ok { s := t.setFr f1 FReg.natVal .alu }
      else t.fpComplete sf (fpsrEnabled s.old.fpsr sf) r fun u => u.setFr f1 r.res .alu)

/-- The weight of a multiply-add in FP_OPS_RETIRED (R745). -/
def fmaWeight (f4 f2 : FrIdx) : Nat := if f2 = 0 || f4 = 1 then 1 else 2

/-- The weight of a parallel multiply-add (R745): `fpms` has the general weight only. -/
def fpmaWeight (kind : FmaKind) (f2 : FrIdx) : Nat := if f2 = 0 && kind != .fms then 2 else 4

/-- `fma`, `fms`, `fnma` (R505). -/
def fmaScalar (s : State) (qp : PredIdx) (kind : FmaKind) (p : FpPrec) (sf : BitVec 2) (f1 f3 f4 f2 : FrIdx) :
    Host.Outcome State Fault Refusal :=
  fpArith s qp f1 [f3, f4, f2] sf (fmaWeight f4 f2)
    (.scalar ((s.fpEnv sf p).fma kind (s.fr f3) (s.fr f4) (s.fr f2) (f2 = 0)))

/-- `fpma`, `fpms`, `fpnma` (R505). -/
def fmaParallel (s : State) (qp : PredIdx) (kind : FmaKind) (sf : BitVec 2) (f1 f3 f4 f2 : FrIdx) :
    Host.Outcome State Fault Refusal :=
  let h := fun hi => (s.fpEnv sf .simd).fma kind ((s.fr f3).half hi) ((s.fr f4).half hi) ((s.fr f2).half hi) (f2 = 0)
  fpArith s qp f1 [f3, f4, f2] sf (fpmaWeight kind f2) (.parallel (h true) (h false))

/-- `fcvt.fx`, `fcvt.fxu`; the `.trunc` forms round toward zero (R512). -/
def fcvtScalar (s : State) (qp : PredIdx) (unsigned trunc : Bool) (sf : BitVec 2) (f1 f2 : FrIdx) (ops : Nat) :
    Host.Outcome State Fault Refusal :=
  fpArith s qp f1 [f2] sf ops (.scalar (fcvt64 (if trunc then 3 else (s.fpEnv sf .none).rc) unsigned (s.fr f2)))

/-- `fpcvt.fx`, `fpcvt.fxu` (R512). -/
def fcvtParallel (s : State) (qp : PredIdx) (unsigned trunc : Bool) (sf : BitVec 2) (f1 f2 : FrIdx) :
    Host.Outcome State Fault Refusal :=
  let h := fun hi => fcvt32 (if trunc then 3 else (s.fpEnv sf .none).rc) unsigned ((s.fr f2).half hi)
  let res := packHalves ((h true).res.sig.setWidth 32) ((h false).res.sig.setWidth 32)
  fpArith s qp f1 [f2] sf 2 { lo := h false, hi := h true, res }

/-- `fmin`, `fmax`, `famin`, `famax` (R507). -/
def minMaxScalar (s : State) (qp : PredIdx) (m : MinMax) (sf : BitVec 2) (f1 f2 f3 : FrIdx) :
    Host.Outcome State Fault Refusal :=
  fpArith s qp f1 [f2, f3] sf 1 (.scalar (fpMinMax m (s.fr f2) (s.fr f3)))

/-- `fpmin`, `fpmax`, `fpamin`, `fpamax` (R507); `fpmin` counts as one operation (R745). -/
def minMaxParallel (s : State) (qp : PredIdx) (m : MinMax) (sf : BitVec 2) (f1 f2 f3 : FrIdx) (ops : Nat) :
    Host.Outcome State Fault Refusal :=
  let h := fun hi => fpMinMax m ((s.fr f2).half hi) ((s.fr f3).half hi)
  fpArith s qp f1 [f2, f3] sf ops (.parallel (h true) (h false))

/-- `fpcmp`: all ones where the relation holds (R507). -/
def fpcmpParallel (s : State) (qp : PredIdx) (rel : FpRel) (sf : BitVec 2) (f1 f2 f3 : FrIdx) :
    Host.Outcome State Fault Refusal :=
  let o := fun hi => fpCompareOut rel ((s.fr f2).half hi) ((s.fr f3).half hi)
  let m := fun hi => if rel.holds (fpOrder ((s.fr f2).half hi) ((s.fr f3).half hi)) then BitVec.allOnes 32 else 0#32
  fpArith s qp f1 [f2, f3] sf 2 { lo := o false, hi := o true, res := packHalves (m true) (m false) }

/-- `fcmp` (R507). -/
def fcmpBody (s : State) (qp : PredIdx) (rel : FpRel) (ct : CmpType) (sf : BitVec 2) (p1 p2 : PredIdx) (f2 f3 : FrIdx) :
    Host.Outcome State Fault Refusal :=
  compare s .alu qp ct p1 p2
    ((s.fpEnabled [f2, f3]).bind fun _ =>
      let a := s.fr f2
      let b := s.fr f3
      let t := s.emit (.fpOps 1)
      if anyNatVal [a, b] then .ok (t, true, false)
      else
        (t.fpComplete sf (fpsrEnabled s.old.fpsr sf) (.scalar (fpCompareOut rel a b)) id).map fun r =>
          (r.s, false, rel.holds (fpOrder a b)))

/-- `fclass.m` (R507): NaTVal without its mask bit clears both targets. -/
def fclassBody (s : State) (qp : PredIdx) (ct : CmpType) (p1 p2 : PredIdx) (f2 : FrIdx) (m : BitVec 9) :
    Host.Outcome State Fault Refusal :=
  compare s .alu qp ct p1 p2
    ((s.fpEnabled [f2]).map fun _ =>
      (s, decide (s.fr f2 = FReg.natVal) && !m.getLsbD 8, fclassHolds m (s.fr f2)))

/-! ### `frcpa`, `frsqrta` (R510) -/

/-- An approximation instruction: `special` holds its outcome and whether PR[p2] becomes 1. A squashed one clears PR[p2]. -/
def fpApproxInstr (s : State) (qp : PredIdx) (f1 : FrIdx) (p2 : PredIdx) (srcs : List FrIdx) (sf : BitVec 2) (ops : Nat)
    (r : FpResult) (ok : Bool) : Host.Outcome State Fault Refusal :=
  finish s
    ((targetFr f1).bind fun _ =>
      if s.pred qp then
        (s.fpEnabled (f1 :: srcs)).bind fun _ =>
          let t := s.emit (.fpOps ops)
          if anyNatVal (srcs.map s.fr) then .ok { s := (t.setFr f1 FReg.natVal .alu).setPr p2 false .alu }
          else t.fpComplete sf (fpsrEnabled s.old.fpsr sf) r fun u => (u.setFr f1 r.res .alu).setPr p2 ok .alu
      else .ok { s := (s.setPr p2 false .alu).emit .squashed })

/-- `frcpa` (R510). -/
def frcpaScalar (s : State) (qp : PredIdx) (f1 : FrIdx) (p2 : PredIdx) (f2 f3 : FrIdx) (sf : BitVec 2) :
    Host.Outcome State Fault Refusal :=
  let a := s.fr f2
  let b := s.fr f3
  let q := (s.fpEnv sf .none).quotient a b (Config.recipOutOfRange a b || recipOverflows .register b)
  fpApproxInstr s qp f1 p2 [f2, f3] sf 1 (.scalar (q.getD (fpApprox [a, b] (recipBounded .register (Config.recipApprox b) b)))) q.isNone

/-- `frsqrta` (R510). -/
def frsqrtaScalar (s : State) (qp : PredIdx) (f1 : FrIdx) (p2 : PredIdx) (f3 : FrIdx) (sf : BitVec 2) :
    Host.Outcome State Fault Refusal :=
  let b := s.fr f3
  let q := (s.fpEnv sf .none).root b (Config.rsqrtOutOfRange b)
  fpApproxInstr s qp f1 p2 [f3] sf 1 (.scalar (q.getD (fpApprox [b] (rsqrtBounded .register (Config.rsqrtApprox b) b)))) q.isNone

/-- `fprcpa`: both halves; PR[p2] is 1 when neither half is a special case (R510; log 26). -/
def frcpaParallel (s : State) (qp : PredIdx) (f1 : FrIdx) (p2 : PredIdx) (f2 f3 : FrIdx) (sf : BitVec 2) :
    Host.Outcome State Fault Refusal :=
  let a := fun hi => (s.fr f2).bits32 hi
  let b := fun hi => (s.fr f3).bits32 hi
  let q := fun hi => (s.fpEnv sf .simd).quotient (singleToReg (a hi)) (singleToReg (b hi))
    (Config.recipOutOfRangeSingle (a hi) (b hi) || recipOverflows .singles (singleToReg (b hi)))
  let o := fun hi => (q hi).getD
    (fpApprox [singleToReg (a hi), singleToReg (b hi)]
      (recipBounded .singles (singleToReg (Config.recipApproxSingle (b hi))) (singleToReg (b hi))))
  fpApproxInstr s qp f1 p2 [f2, f3] sf 2 (.parallel (o true) (o false)) ((q true).isNone && (q false).isNone)

/-- `fprsqrta` (R510; log 26). -/
def frsqrtaParallel (s : State) (qp : PredIdx) (f1 : FrIdx) (p2 : PredIdx) (f3 : FrIdx) (sf : BitVec 2) :
    Host.Outcome State Fault Refusal :=
  let b := fun hi => (s.fr f3).bits32 hi
  let q := fun hi => (s.fpEnv sf .simd).root (singleToReg (b hi)) (Config.rsqrtOutOfRangeSingle (b hi))
  let o := fun hi => (q hi).getD (fpApprox [singleToReg (b hi)]
    (rsqrtBounded .singles (singleToReg (Config.rsqrtApproxSingle (b hi))) (singleToReg (b hi))))
  fpApproxInstr s qp f1 p2 [f3] sf 2 (.parallel (o true) (o false)) ((q true).isNone && (q false).isNone)

/-! ### Register moves and bit operations (R504, R506, R507) -/

/-- A non-arithmetic instruction: NaTVal in a source gives NaTVal, no flags (R503, R504). -/
def fpMove (s : State) (qp : PredIdx) (f1 : FrIdx) (srcs : List FrIdx) (r : FReg) : Host.Outcome State Fault Refusal :=
  run s qp (targetFr f1)
    ((s.fpEnabled (f1 :: srcs)).bind fun _ =>
      .ok { s := s.setFr f1 (if anyNatVal (srcs.map s.fr) then FReg.natVal else r) .alu })

/-- `xma`: the low 64 bits (`high` = false) or the high 64 bits of the 128-bit product plus addend (R506). -/
def xmaValue (high unsigned : Bool) (a b c : Word) : Word :=
  let ext := fun v : Word => if unsigned then v.setWidth 128 else v.signExtend 128
  let p := ext a * ext b + c.setWidth 128
  if high then p.extractLsb' 64 64 else p.extractLsb' 0 64

/-- `fselect` (R507). -/
def fselectValue (m3 m4 m2 : Word) : Word := (m3 &&& m2) ||| (m4 &&& ~~~ m2)

end Sys2Proof.Machine
end

