-- ==== Sys2Proof/Machine/FpArith.lean ====
section
/-! DEFINITION. Machine/FpArith.lean: floating-point arithmetic, compares and approximations, formats F1, F2, F4 to F8, F10, F11 (`spec/44_f_type.md` R505 to R512). -/

namespace Sys2Proof.Machine

/-! ### The instructions -/

/-- `fma.sf f1=f3,f4,f2` (F1, R505). -/
def execFmaSfF1F3F4F2 (qp : PredIdx) (sf : BitVec 2) (f1 f3 f4 f2 : FrIdx) (s : State) :
    Host.Outcome State Fault Refusal :=
  fmaScalar s qp .fma .none sf f1 f3 f4 f2

/-- `fma.s.sf f1=f3,f4,f2` (F1, R505). -/
def execFmaSSfF1F3F4F2 (qp : PredIdx) (sf : BitVec 2) (f1 f3 f4 f2 : FrIdx) (s : State) :
    Host.Outcome State Fault Refusal :=
  fmaScalar s qp .fma .single sf f1 f3 f4 f2

/-- `fma.d.sf f1=f3,f4,f2` (F1, R505). -/
def execFmaDSfF1F3F4F2 (qp : PredIdx) (sf : BitVec 2) (f1 f3 f4 f2 : FrIdx) (s : State) :
    Host.Outcome State Fault Refusal :=
  fmaScalar s qp .fma .double sf f1 f3 f4 f2

/-- `fpma.sf f1=f3,f4,f2` (F1, R505). -/
def execFpmaSfF1F3F4F2 (qp : PredIdx) (sf : BitVec 2) (f1 f3 f4 f2 : FrIdx) (s : State) :
    Host.Outcome State Fault Refusal :=
  fmaParallel s qp .fma sf f1 f3 f4 f2

/-- `fms.sf f1=f3,f4,f2` (F1, R505). -/
def execFmsSfF1F3F4F2 (qp : PredIdx) (sf : BitVec 2) (f1 f3 f4 f2 : FrIdx) (s : State) :
    Host.Outcome State Fault Refusal :=
  fmaScalar s qp .fms .none sf f1 f3 f4 f2

/-- `fms.s.sf f1=f3,f4,f2` (F1, R505). -/
def execFmsSSfF1F3F4F2 (qp : PredIdx) (sf : BitVec 2) (f1 f3 f4 f2 : FrIdx) (s : State) :
    Host.Outcome State Fault Refusal :=
  fmaScalar s qp .fms .single sf f1 f3 f4 f2

/-- `fms.d.sf f1=f3,f4,f2` (F1, R505). -/
def execFmsDSfF1F3F4F2 (qp : PredIdx) (sf : BitVec 2) (f1 f3 f4 f2 : FrIdx) (s : State) :
    Host.Outcome State Fault Refusal :=
  fmaScalar s qp .fms .double sf f1 f3 f4 f2

/-- `fpms.sf f1=f3,f4,f2` (F1, R505). -/
def execFpmsSfF1F3F4F2 (qp : PredIdx) (sf : BitVec 2) (f1 f3 f4 f2 : FrIdx) (s : State) :
    Host.Outcome State Fault Refusal :=
  fmaParallel s qp .fms sf f1 f3 f4 f2

/-- `fnma.sf f1=f3,f4,f2` (F1, R505). -/
def execFnmaSfF1F3F4F2 (qp : PredIdx) (sf : BitVec 2) (f1 f3 f4 f2 : FrIdx) (s : State) :
    Host.Outcome State Fault Refusal :=
  fmaScalar s qp .fnma .none sf f1 f3 f4 f2

/-- `fnma.s.sf f1=f3,f4,f2` (F1, R505). -/
def execFnmaSSfF1F3F4F2 (qp : PredIdx) (sf : BitVec 2) (f1 f3 f4 f2 : FrIdx) (s : State) :
    Host.Outcome State Fault Refusal :=
  fmaScalar s qp .fnma .single sf f1 f3 f4 f2

/-- `fnma.d.sf f1=f3,f4,f2` (F1, R505). -/
def execFnmaDSfF1F3F4F2 (qp : PredIdx) (sf : BitVec 2) (f1 f3 f4 f2 : FrIdx) (s : State) :
    Host.Outcome State Fault Refusal :=
  fmaScalar s qp .fnma .double sf f1 f3 f4 f2

/-- `fpnma.sf f1=f3,f4,f2` (F1, R505). -/
def execFpnmaSfF1F3F4F2 (qp : PredIdx) (sf : BitVec 2) (f1 f3 f4 f2 : FrIdx) (s : State) :
    Host.Outcome State Fault Refusal :=
  fmaParallel s qp .fnma sf f1 f3 f4 f2

/-- `xma.l f1=f3,f4,f2` (F2, R506). -/
def execXmaLF1F3F4F2 (qp : PredIdx) (f1 f3 f4 f2 : FrIdx) (s : State) : Host.Outcome State Fault Refusal :=
  fpMove s qp f1 [f3, f4, f2]
    (FReg.ofSig (xmaValue false false (s.fr f3).sig (s.fr f4).sig (s.fr f2).sig))

/-- `xma.hu f1=f3,f4,f2` (F2, R506). -/
def execXmaHuF1F3F4F2 (qp : PredIdx) (f1 f3 f4 f2 : FrIdx) (s : State) : Host.Outcome State Fault Refusal :=
  fpMove s qp f1 [f3, f4, f2]
    (FReg.ofSig (xmaValue true true (s.fr f3).sig (s.fr f4).sig (s.fr f2).sig))

/-- `xma.h f1=f3,f4,f2` (F2, R506). -/
def execXmaHF1F3F4F2 (qp : PredIdx) (f1 f3 f4 f2 : FrIdx) (s : State) : Host.Outcome State Fault Refusal :=
  fpMove s qp f1 [f3, f4, f2]
    (FReg.ofSig (xmaValue true false (s.fr f3).sig (s.fr f4).sig (s.fr f2).sig))

/-- `fcmp.eq.sf p1,p2=f2,f3` (F4, R507). -/
def execFcmpEqSfP1P2F2F3 (qp p1 p2 : PredIdx) (f2 f3 : FrIdx) (sf : BitVec 2) (s : State) :
    Host.Outcome State Fault Refusal :=
  fcmpBody s qp .eq .norm sf p1 p2 f2 f3

/-- `fcmp.eq.unc.sf p1,p2=f2,f3` (F4, R507). -/
def execFcmpEqUncSfP1P2F2F3 (qp p1 p2 : PredIdx) (f2 f3 : FrIdx) (sf : BitVec 2) (s : State) :
    Host.Outcome State Fault Refusal :=
  fcmpBody s qp .eq .unc sf p1 p2 f2 f3

/-- `fcmp.lt.sf p1,p2=f2,f3` (F4, R507). -/
def execFcmpLtSfP1P2F2F3 (qp p1 p2 : PredIdx) (f2 f3 : FrIdx) (sf : BitVec 2) (s : State) :
    Host.Outcome State Fault Refusal :=
  fcmpBody s qp .lt .norm sf p1 p2 f2 f3

/-- `fcmp.lt.unc.sf p1,p2=f2,f3` (F4, R507). -/
def execFcmpLtUncSfP1P2F2F3 (qp p1 p2 : PredIdx) (f2 f3 : FrIdx) (sf : BitVec 2) (s : State) :
    Host.Outcome State Fault Refusal :=
  fcmpBody s qp .lt .unc sf p1 p2 f2 f3

/-- `fcmp.le.sf p1,p2=f2,f3` (F4, R507). -/
def execFcmpLeSfP1P2F2F3 (qp p1 p2 : PredIdx) (f2 f3 : FrIdx) (sf : BitVec 2) (s : State) :
    Host.Outcome State Fault Refusal :=
  fcmpBody s qp .le .norm sf p1 p2 f2 f3

/-- `fcmp.le.unc.sf p1,p2=f2,f3` (F4, R507). -/
def execFcmpLeUncSfP1P2F2F3 (qp p1 p2 : PredIdx) (f2 f3 : FrIdx) (sf : BitVec 2) (s : State) :
    Host.Outcome State Fault Refusal :=
  fcmpBody s qp .le .unc sf p1 p2 f2 f3

/-- `fcmp.unord.sf p1,p2=f2,f3` (F4, R507). -/
def execFcmpUnordSfP1P2F2F3 (qp p1 p2 : PredIdx) (f2 f3 : FrIdx) (sf : BitVec 2) (s : State) :
    Host.Outcome State Fault Refusal :=
  fcmpBody s qp .unord .norm sf p1 p2 f2 f3

/-- `fcmp.unord.unc.sf p1,p2=f2,f3` (F4, R507). -/
def execFcmpUnordUncSfP1P2F2F3 (qp p1 p2 : PredIdx) (f2 f3 : FrIdx) (sf : BitVec 2) (s : State) :
    Host.Outcome State Fault Refusal :=
  fcmpBody s qp .unord .unc sf p1 p2 f2 f3

/-- `fclass.m p1,p2=f2,fclass9` (F5, R507). -/
def execFclassMP1P2F2Fclass9 (qp p1 p2 : PredIdx) (f2 : FrIdx) (fclass9 : BitVec 9) (s : State) :
    Host.Outcome State Fault Refusal :=
  fclassBody s qp .norm p1 p2 f2 fclass9

/-- `fclass.m.unc p1,p2=f2,fclass9` (F5, R507). -/
def execFclassMUncP1P2F2Fclass9 (qp p1 p2 : PredIdx) (f2 : FrIdx) (fclass9 : BitVec 9) (s : State) :
    Host.Outcome State Fault Refusal :=
  fclassBody s qp .unc p1 p2 f2 fclass9

/-- `frcpa.sf f1,p2=f2,f3` (F6, R510). -/
def execFrcpaSfF1P2F2F3 (qp : PredIdx) (f1 : FrIdx) (p2 : PredIdx) (f2 f3 : FrIdx) (sf : BitVec 2) (s : State) :
    Host.Outcome State Fault Refusal :=
  frcpaScalar s qp f1 p2 f2 f3 sf

/-- `fprcpa.sf f1,p2=f2,f3` (F6, R510). -/
def execFprcpaSfF1P2F2F3 (qp : PredIdx) (f1 : FrIdx) (p2 : PredIdx) (f2 f3 : FrIdx) (sf : BitVec 2) (s : State) :
    Host.Outcome State Fault Refusal :=
  frcpaParallel s qp f1 p2 f2 f3 sf

/-- `frsqrta.sf f1,p2=f3` (F7, R510). -/
def execFrsqrtaSfF1P2F3 (qp : PredIdx) (f1 : FrIdx) (p2 : PredIdx) (f3 : FrIdx) (sf : BitVec 2) (s : State) :
    Host.Outcome State Fault Refusal :=
  frsqrtaScalar s qp f1 p2 f3 sf

/-- `fprsqrta.sf f1,p2=f3` (F7, R510). -/
def execFprsqrtaSfF1P2F3 (qp : PredIdx) (f1 : FrIdx) (p2 : PredIdx) (f3 : FrIdx) (sf : BitVec 2) (s : State) :
    Host.Outcome State Fault Refusal :=
  frsqrtaParallel s qp f1 p2 f3 sf

/-- `fmin.sf f1=f2,f3` (F8, R507). -/
def execFminSfF1F2F3 (qp : PredIdx) (f1 f2 f3 : FrIdx) (sf : BitVec 2) (s : State) :
    Host.Outcome State Fault Refusal :=
  minMaxScalar s qp .min sf f1 f2 f3

/-- `fmax.sf f1=f2,f3` (F8, R507). -/
def execFmaxSfF1F2F3 (qp : PredIdx) (f1 f2 f3 : FrIdx) (sf : BitVec 2) (s : State) :
    Host.Outcome State Fault Refusal :=
  minMaxScalar s qp .max sf f1 f2 f3

/-- `famin.sf f1=f2,f3` (F8, R507). -/
def execFaminSfF1F2F3 (qp : PredIdx) (f1 f2 f3 : FrIdx) (sf : BitVec 2) (s : State) :
    Host.Outcome State Fault Refusal :=
  minMaxScalar s qp .amin sf f1 f2 f3

/-- `famax.sf f1=f2,f3` (F8, R507). -/
def execFamaxSfF1F2F3 (qp : PredIdx) (f1 f2 f3 : FrIdx) (sf : BitVec 2) (s : State) :
    Host.Outcome State Fault Refusal :=
  minMaxScalar s qp .amax sf f1 f2 f3

/-- `fpmin.sf f1=f2,f3` (F8, R507). -/
def execFpminSfF1F2F3 (qp : PredIdx) (f1 f2 f3 : FrIdx) (sf : BitVec 2) (s : State) :
    Host.Outcome State Fault Refusal :=
  minMaxParallel s qp .min sf f1 f2 f3 1

/-- `fpmax.sf f1=f2,f3` (F8, R507). -/
def execFpmaxSfF1F2F3 (qp : PredIdx) (f1 f2 f3 : FrIdx) (sf : BitVec 2) (s : State) :
    Host.Outcome State Fault Refusal :=
  minMaxParallel s qp .max sf f1 f2 f3 2

/-- `fpamin.sf f1=f2,f3` (F8, R507). -/
def execFpaminSfF1F2F3 (qp : PredIdx) (f1 f2 f3 : FrIdx) (sf : BitVec 2) (s : State) :
    Host.Outcome State Fault Refusal :=
  minMaxParallel s qp .amin sf f1 f2 f3 2

/-- `fpamax.sf f1=f2,f3` (F8, R507). -/
def execFpamaxSfF1F2F3 (qp : PredIdx) (f1 f2 f3 : FrIdx) (sf : BitVec 2) (s : State) :
    Host.Outcome State Fault Refusal :=
  minMaxParallel s qp .amax sf f1 f2 f3 2

/-- `fpcmp.frel.sf f1=f2,f3` (F8, R507). -/
def execFpcmpFrelSfF1F2F3 (qp : PredIdx) (f1 f2 f3 : FrIdx) (frel : FpRel) (sf : BitVec 2) (s : State) :
    Host.Outcome State Fault Refusal :=
  fpcmpParallel s qp frel sf f1 f2 f3

/-- `fcvt.fx.sf f1=f2` (F10, R512). -/
def execFcvtFxSfF1F2 (qp : PredIdx) (f1 f2 : FrIdx) (sf : BitVec 2) (s : State) : Host.Outcome State Fault Refusal :=
  fcvtScalar s qp false false sf f1 f2 1

/-- `fcvt.fxu.sf f1=f2` (F10, R512). -/
def execFcvtFxuSfF1F2 (qp : PredIdx) (f1 f2 : FrIdx) (sf : BitVec 2) (s : State) : Host.Outcome State Fault Refusal :=
  fcvtScalar s qp true false sf f1 f2 0

/-- `fcvt.fx.trunc.sf f1=f2` (F10, R512). -/
def execFcvtFxTruncSfF1F2 (qp : PredIdx) (f1 f2 : FrIdx) (sf : BitVec 2) (s : State) :
    Host.Outcome State Fault Refusal :=
  fcvtScalar s qp false true sf f1 f2 1

/-- `fcvt.fxu.trunc.sf f1=f2` (F10, R512). -/
def execFcvtFxuTruncSfF1F2 (qp : PredIdx) (f1 f2 : FrIdx) (sf : BitVec 2) (s : State) :
    Host.Outcome State Fault Refusal :=
  fcvtScalar s qp true true sf f1 f2 0

/-- `fpcvt.fx.sf f1=f2` (F10, R512). -/
def execFpcvtFxSfF1F2 (qp : PredIdx) (f1 f2 : FrIdx) (sf : BitVec 2) (s : State) : Host.Outcome State Fault Refusal :=
  fcvtParallel s qp false false sf f1 f2

/-- `fpcvt.fxu.sf f1=f2` (F10, R512). -/
def execFpcvtFxuSfF1F2 (qp : PredIdx) (f1 f2 : FrIdx) (sf : BitVec 2) (s : State) :
    Host.Outcome State Fault Refusal :=
  fcvtParallel s qp true false sf f1 f2

/-- `fpcvt.fx.trunc.sf f1=f2` (F10, R512). -/
def execFpcvtFxTruncSfF1F2 (qp : PredIdx) (f1 f2 : FrIdx) (sf : BitVec 2) (s : State) :
    Host.Outcome State Fault Refusal :=
  fcvtParallel s qp false true sf f1 f2

/-- `fpcvt.fxu.trunc.sf f1=f2` (F10, R512). -/
def execFpcvtFxuTruncSfF1F2 (qp : PredIdx) (f1 f2 : FrIdx) (sf : BitVec 2) (s : State) :
    Host.Outcome State Fault Refusal :=
  fcvtParallel s qp true true sf f1 f2

/-- `fcvt.xf f1=f2` (F11, R512). -/
def execFcvtXfF1F2 (qp : PredIdx) (f1 f2 : FrIdx) (s : State) : Host.Outcome State Fault Refusal :=
  fpMove s qp f1 [f2] (fcvtXf (s.fr f2))

end Sys2Proof.Machine
end

