-- ==== Sys2Proof/Machine/FpMem.lean ====
section
/-! DEFINITION. Machine/FpMem.lean: floating-point loads, stores and transfers, formats M6 to M12, M18, M19 (`spec/42_m_type_memory.md` R392 to R396, R405, R406). -/

namespace Sys2Proof.Machine

/-! ### The instructions -/

/-- `ldfe f1=[r3]` (M6, R392). -/
def execLdfeF1R3 (qp : PredIdx) (f1 : FrIdx) (r3 : GrIdx) (_hint : BitVec 2) (s : State) :
    Host.Outcome State Fault Refusal :=
  fpLoad s qp f1 r3 .none .extended .plain

/-- `ldfe f1=[r3],r2` (M7, R392). -/
def execLdfeF1R3R2 (qp : PredIdx) (f1 : FrIdx) (r3 r2 : GrIdx) (_hint : BitVec 2) (s : State) :
    Host.Outcome State Fault Refusal :=
  fpLoad s qp f1 r3 (.reg r2) .extended .plain

/-- `ldfe f1=[r3],imm9` (M8, R392). -/
def execLdfeF1R3Imm9 (qp : PredIdx) (f1 : FrIdx) (r3 : GrIdx) (imm9 : BitVec 9) (_hint : BitVec 2) (s : State) :
    Host.Outcome State Fault Refusal :=
  fpLoad s qp f1 r3 (.imm (sext imm9)) .extended .plain

/-- `ldf8 f1=[r3]` (M6, R392). -/
def execLdf8F1R3 (qp : PredIdx) (f1 : FrIdx) (r3 : GrIdx) (_hint : BitVec 2) (s : State) :
    Host.Outcome State Fault Refusal :=
  fpLoad s qp f1 r3 .none .integer .plain

/-- `ldf8 f1=[r3],r2` (M7, R392). -/
def execLdf8F1R3R2 (qp : PredIdx) (f1 : FrIdx) (r3 r2 : GrIdx) (_hint : BitVec 2) (s : State) :
    Host.Outcome State Fault Refusal :=
  fpLoad s qp f1 r3 (.reg r2) .integer .plain

/-- `ldf8 f1=[r3],imm9` (M8, R392). -/
def execLdf8F1R3Imm9 (qp : PredIdx) (f1 : FrIdx) (r3 : GrIdx) (imm9 : BitVec 9) (_hint : BitVec 2) (s : State) :
    Host.Outcome State Fault Refusal :=
  fpLoad s qp f1 r3 (.imm (sext imm9)) .integer .plain

/-- `ldfs f1=[r3]` (M6, R392). -/
def execLdfsF1R3 (qp : PredIdx) (f1 : FrIdx) (r3 : GrIdx) (_hint : BitVec 2) (s : State) :
    Host.Outcome State Fault Refusal :=
  fpLoad s qp f1 r3 .none .single .plain

/-- `ldfs f1=[r3],r2` (M7, R392). -/
def execLdfsF1R3R2 (qp : PredIdx) (f1 : FrIdx) (r3 r2 : GrIdx) (_hint : BitVec 2) (s : State) :
    Host.Outcome State Fault Refusal :=
  fpLoad s qp f1 r3 (.reg r2) .single .plain

/-- `ldfs f1=[r3],imm9` (M8, R392). -/
def execLdfsF1R3Imm9 (qp : PredIdx) (f1 : FrIdx) (r3 : GrIdx) (imm9 : BitVec 9) (_hint : BitVec 2) (s : State) :
    Host.Outcome State Fault Refusal :=
  fpLoad s qp f1 r3 (.imm (sext imm9)) .single .plain

/-- `ldfd f1=[r3]` (M6, R392). -/
def execLdfdF1R3 (qp : PredIdx) (f1 : FrIdx) (r3 : GrIdx) (_hint : BitVec 2) (s : State) :
    Host.Outcome State Fault Refusal :=
  fpLoad s qp f1 r3 .none .double .plain

/-- `ldfd f1=[r3],r2` (M7, R392). -/
def execLdfdF1R3R2 (qp : PredIdx) (f1 : FrIdx) (r3 r2 : GrIdx) (_hint : BitVec 2) (s : State) :
    Host.Outcome State Fault Refusal :=
  fpLoad s qp f1 r3 (.reg r2) .double .plain

/-- `ldfd f1=[r3],imm9` (M8, R392). -/
def execLdfdF1R3Imm9 (qp : PredIdx) (f1 : FrIdx) (r3 : GrIdx) (imm9 : BitVec 9) (_hint : BitVec 2) (s : State) :
    Host.Outcome State Fault Refusal :=
  fpLoad s qp f1 r3 (.imm (sext imm9)) .double .plain

/-- `ldfe.s f1=[r3]` (M6, R393). -/
def execLdfeSF1R3 (qp : PredIdx) (f1 : FrIdx) (r3 : GrIdx) (_hint : BitVec 2) (s : State) :
    Host.Outcome State Fault Refusal :=
  fpLoad s qp f1 r3 .none .extended .spec

/-- `ldfe.s f1=[r3],r2` (M7, R393). -/
def execLdfeSF1R3R2 (qp : PredIdx) (f1 : FrIdx) (r3 r2 : GrIdx) (_hint : BitVec 2) (s : State) :
    Host.Outcome State Fault Refusal :=
  fpLoad s qp f1 r3 (.reg r2) .extended .spec

/-- `ldfe.s f1=[r3],imm9` (M8, R393). -/
def execLdfeSF1R3Imm9 (qp : PredIdx) (f1 : FrIdx) (r3 : GrIdx) (imm9 : BitVec 9) (_hint : BitVec 2) (s : State) :
    Host.Outcome State Fault Refusal :=
  fpLoad s qp f1 r3 (.imm (sext imm9)) .extended .spec

/-- `ldf8.s f1=[r3]` (M6, R393). -/
def execLdf8SF1R3 (qp : PredIdx) (f1 : FrIdx) (r3 : GrIdx) (_hint : BitVec 2) (s : State) :
    Host.Outcome State Fault Refusal :=
  fpLoad s qp f1 r3 .none .integer .spec

/-- `ldf8.s f1=[r3],r2` (M7, R393). -/
def execLdf8SF1R3R2 (qp : PredIdx) (f1 : FrIdx) (r3 r2 : GrIdx) (_hint : BitVec 2) (s : State) :
    Host.Outcome State Fault Refusal :=
  fpLoad s qp f1 r3 (.reg r2) .integer .spec

/-- `ldf8.s f1=[r3],imm9` (M8, R393). -/
def execLdf8SF1R3Imm9 (qp : PredIdx) (f1 : FrIdx) (r3 : GrIdx) (imm9 : BitVec 9) (_hint : BitVec 2) (s : State) :
    Host.Outcome State Fault Refusal :=
  fpLoad s qp f1 r3 (.imm (sext imm9)) .integer .spec

/-- `ldfs.s f1=[r3]` (M6, R393). -/
def execLdfsSF1R3 (qp : PredIdx) (f1 : FrIdx) (r3 : GrIdx) (_hint : BitVec 2) (s : State) :
    Host.Outcome State Fault Refusal :=
  fpLoad s qp f1 r3 .none .single .spec

/-- `ldfs.s f1=[r3],r2` (M7, R393). -/
def execLdfsSF1R3R2 (qp : PredIdx) (f1 : FrIdx) (r3 r2 : GrIdx) (_hint : BitVec 2) (s : State) :
    Host.Outcome State Fault Refusal :=
  fpLoad s qp f1 r3 (.reg r2) .single .spec

/-- `ldfs.s f1=[r3],imm9` (M8, R393). -/
def execLdfsSF1R3Imm9 (qp : PredIdx) (f1 : FrIdx) (r3 : GrIdx) (imm9 : BitVec 9) (_hint : BitVec 2) (s : State) :
    Host.Outcome State Fault Refusal :=
  fpLoad s qp f1 r3 (.imm (sext imm9)) .single .spec

/-- `ldfd.s f1=[r3]` (M6, R393). -/
def execLdfdSF1R3 (qp : PredIdx) (f1 : FrIdx) (r3 : GrIdx) (_hint : BitVec 2) (s : State) :
    Host.Outcome State Fault Refusal :=
  fpLoad s qp f1 r3 .none .double .spec

/-- `ldfd.s f1=[r3],r2` (M7, R393). -/
def execLdfdSF1R3R2 (qp : PredIdx) (f1 : FrIdx) (r3 r2 : GrIdx) (_hint : BitVec 2) (s : State) :
    Host.Outcome State Fault Refusal :=
  fpLoad s qp f1 r3 (.reg r2) .double .spec

/-- `ldfd.s f1=[r3],imm9` (M8, R393). -/
def execLdfdSF1R3Imm9 (qp : PredIdx) (f1 : FrIdx) (r3 : GrIdx) (imm9 : BitVec 9) (_hint : BitVec 2) (s : State) :
    Host.Outcome State Fault Refusal :=
  fpLoad s qp f1 r3 (.imm (sext imm9)) .double .spec

/-- `ldfe.a f1=[r3]` (M6, R393). -/
def execLdfeAF1R3 (qp : PredIdx) (f1 : FrIdx) (r3 : GrIdx) (_hint : BitVec 2) (s : State) :
    Host.Outcome State Fault Refusal :=
  fpLoad s qp f1 r3 .none .extended .adv

/-- `ldfe.a f1=[r3],r2` (M7, R393). -/
def execLdfeAF1R3R2 (qp : PredIdx) (f1 : FrIdx) (r3 r2 : GrIdx) (_hint : BitVec 2) (s : State) :
    Host.Outcome State Fault Refusal :=
  fpLoad s qp f1 r3 (.reg r2) .extended .adv

/-- `ldfe.a f1=[r3],imm9` (M8, R393). -/
def execLdfeAF1R3Imm9 (qp : PredIdx) (f1 : FrIdx) (r3 : GrIdx) (imm9 : BitVec 9) (_hint : BitVec 2) (s : State) :
    Host.Outcome State Fault Refusal :=
  fpLoad s qp f1 r3 (.imm (sext imm9)) .extended .adv

/-- `ldf8.a f1=[r3]` (M6, R393). -/
def execLdf8AF1R3 (qp : PredIdx) (f1 : FrIdx) (r3 : GrIdx) (_hint : BitVec 2) (s : State) :
    Host.Outcome State Fault Refusal :=
  fpLoad s qp f1 r3 .none .integer .adv

/-- `ldf8.a f1=[r3],r2` (M7, R393). -/
def execLdf8AF1R3R2 (qp : PredIdx) (f1 : FrIdx) (r3 r2 : GrIdx) (_hint : BitVec 2) (s : State) :
    Host.Outcome State Fault Refusal :=
  fpLoad s qp f1 r3 (.reg r2) .integer .adv

/-- `ldf8.a f1=[r3],imm9` (M8, R393). -/
def execLdf8AF1R3Imm9 (qp : PredIdx) (f1 : FrIdx) (r3 : GrIdx) (imm9 : BitVec 9) (_hint : BitVec 2) (s : State) :
    Host.Outcome State Fault Refusal :=
  fpLoad s qp f1 r3 (.imm (sext imm9)) .integer .adv

/-- `ldfs.a f1=[r3]` (M6, R393). -/
def execLdfsAF1R3 (qp : PredIdx) (f1 : FrIdx) (r3 : GrIdx) (_hint : BitVec 2) (s : State) :
    Host.Outcome State Fault Refusal :=
  fpLoad s qp f1 r3 .none .single .adv

/-- `ldfs.a f1=[r3],r2` (M7, R393). -/
def execLdfsAF1R3R2 (qp : PredIdx) (f1 : FrIdx) (r3 r2 : GrIdx) (_hint : BitVec 2) (s : State) :
    Host.Outcome State Fault Refusal :=
  fpLoad s qp f1 r3 (.reg r2) .single .adv

/-- `ldfs.a f1=[r3],imm9` (M8, R393). -/
def execLdfsAF1R3Imm9 (qp : PredIdx) (f1 : FrIdx) (r3 : GrIdx) (imm9 : BitVec 9) (_hint : BitVec 2) (s : State) :
    Host.Outcome State Fault Refusal :=
  fpLoad s qp f1 r3 (.imm (sext imm9)) .single .adv

/-- `ldfd.a f1=[r3]` (M6, R393). -/
def execLdfdAF1R3 (qp : PredIdx) (f1 : FrIdx) (r3 : GrIdx) (_hint : BitVec 2) (s : State) :
    Host.Outcome State Fault Refusal :=
  fpLoad s qp f1 r3 .none .double .adv

/-- `ldfd.a f1=[r3],r2` (M7, R393). -/
def execLdfdAF1R3R2 (qp : PredIdx) (f1 : FrIdx) (r3 r2 : GrIdx) (_hint : BitVec 2) (s : State) :
    Host.Outcome State Fault Refusal :=
  fpLoad s qp f1 r3 (.reg r2) .double .adv

/-- `ldfd.a f1=[r3],imm9` (M8, R393). -/
def execLdfdAF1R3Imm9 (qp : PredIdx) (f1 : FrIdx) (r3 : GrIdx) (imm9 : BitVec 9) (_hint : BitVec 2) (s : State) :
    Host.Outcome State Fault Refusal :=
  fpLoad s qp f1 r3 (.imm (sext imm9)) .double .adv

/-- `ldfe.sa f1=[r3]` (M6, R393). -/
def execLdfeSaF1R3 (qp : PredIdx) (f1 : FrIdx) (r3 : GrIdx) (_hint : BitVec 2) (s : State) :
    Host.Outcome State Fault Refusal :=
  fpLoad s qp f1 r3 .none .extended .specAdv

/-- `ldfe.sa f1=[r3],r2` (M7, R393). -/
def execLdfeSaF1R3R2 (qp : PredIdx) (f1 : FrIdx) (r3 r2 : GrIdx) (_hint : BitVec 2) (s : State) :
    Host.Outcome State Fault Refusal :=
  fpLoad s qp f1 r3 (.reg r2) .extended .specAdv

/-- `ldfe.sa f1=[r3],imm9` (M8, R393). -/
def execLdfeSaF1R3Imm9 (qp : PredIdx) (f1 : FrIdx) (r3 : GrIdx) (imm9 : BitVec 9) (_hint : BitVec 2) (s : State) :
    Host.Outcome State Fault Refusal :=
  fpLoad s qp f1 r3 (.imm (sext imm9)) .extended .specAdv

/-- `ldf8.sa f1=[r3]` (M6, R393). -/
def execLdf8SaF1R3 (qp : PredIdx) (f1 : FrIdx) (r3 : GrIdx) (_hint : BitVec 2) (s : State) :
    Host.Outcome State Fault Refusal :=
  fpLoad s qp f1 r3 .none .integer .specAdv

/-- `ldf8.sa f1=[r3],r2` (M7, R393). -/
def execLdf8SaF1R3R2 (qp : PredIdx) (f1 : FrIdx) (r3 r2 : GrIdx) (_hint : BitVec 2) (s : State) :
    Host.Outcome State Fault Refusal :=
  fpLoad s qp f1 r3 (.reg r2) .integer .specAdv

/-- `ldf8.sa f1=[r3],imm9` (M8, R393). -/
def execLdf8SaF1R3Imm9 (qp : PredIdx) (f1 : FrIdx) (r3 : GrIdx) (imm9 : BitVec 9) (_hint : BitVec 2) (s : State) :
    Host.Outcome State Fault Refusal :=
  fpLoad s qp f1 r3 (.imm (sext imm9)) .integer .specAdv

/-- `ldfs.sa f1=[r3]` (M6, R393). -/
def execLdfsSaF1R3 (qp : PredIdx) (f1 : FrIdx) (r3 : GrIdx) (_hint : BitVec 2) (s : State) :
    Host.Outcome State Fault Refusal :=
  fpLoad s qp f1 r3 .none .single .specAdv

/-- `ldfs.sa f1=[r3],r2` (M7, R393). -/
def execLdfsSaF1R3R2 (qp : PredIdx) (f1 : FrIdx) (r3 r2 : GrIdx) (_hint : BitVec 2) (s : State) :
    Host.Outcome State Fault Refusal :=
  fpLoad s qp f1 r3 (.reg r2) .single .specAdv

/-- `ldfs.sa f1=[r3],imm9` (M8, R393). -/
def execLdfsSaF1R3Imm9 (qp : PredIdx) (f1 : FrIdx) (r3 : GrIdx) (imm9 : BitVec 9) (_hint : BitVec 2) (s : State) :
    Host.Outcome State Fault Refusal :=
  fpLoad s qp f1 r3 (.imm (sext imm9)) .single .specAdv

/-- `ldfd.sa f1=[r3]` (M6, R393). -/
def execLdfdSaF1R3 (qp : PredIdx) (f1 : FrIdx) (r3 : GrIdx) (_hint : BitVec 2) (s : State) :
    Host.Outcome State Fault Refusal :=
  fpLoad s qp f1 r3 .none .double .specAdv

/-- `ldfd.sa f1=[r3],r2` (M7, R393). -/
def execLdfdSaF1R3R2 (qp : PredIdx) (f1 : FrIdx) (r3 r2 : GrIdx) (_hint : BitVec 2) (s : State) :
    Host.Outcome State Fault Refusal :=
  fpLoad s qp f1 r3 (.reg r2) .double .specAdv

/-- `ldfd.sa f1=[r3],imm9` (M8, R393). -/
def execLdfdSaF1R3Imm9 (qp : PredIdx) (f1 : FrIdx) (r3 : GrIdx) (imm9 : BitVec 9) (_hint : BitVec 2) (s : State) :
    Host.Outcome State Fault Refusal :=
  fpLoad s qp f1 r3 (.imm (sext imm9)) .double .specAdv

/-- `ldfe.c.clr f1=[r3]` (M6, R393). -/
def execLdfeCClrF1R3 (qp : PredIdx) (f1 : FrIdx) (r3 : GrIdx) (_hint : BitVec 2) (s : State) :
    Host.Outcome State Fault Refusal :=
  fpLoad s qp f1 r3 .none .extended .chkClr

/-- `ldfe.c.clr f1=[r3],r2` (M7, R393). -/
def execLdfeCClrF1R3R2 (qp : PredIdx) (f1 : FrIdx) (r3 r2 : GrIdx) (_hint : BitVec 2) (s : State) :
    Host.Outcome State Fault Refusal :=
  fpLoad s qp f1 r3 (.reg r2) .extended .chkClr

/-- `ldfe.c.clr f1=[r3],imm9` (M8, R393). -/
def execLdfeCClrF1R3Imm9 (qp : PredIdx) (f1 : FrIdx) (r3 : GrIdx) (imm9 : BitVec 9) (_hint : BitVec 2) (s : State) :
    Host.Outcome State Fault Refusal :=
  fpLoad s qp f1 r3 (.imm (sext imm9)) .extended .chkClr

/-- `ldf8.c.clr f1=[r3]` (M6, R393). -/
def execLdf8CClrF1R3 (qp : PredIdx) (f1 : FrIdx) (r3 : GrIdx) (_hint : BitVec 2) (s : State) :
    Host.Outcome State Fault Refusal :=
  fpLoad s qp f1 r3 .none .integer .chkClr

/-- `ldf8.c.clr f1=[r3],r2` (M7, R393). -/
def execLdf8CClrF1R3R2 (qp : PredIdx) (f1 : FrIdx) (r3 r2 : GrIdx) (_hint : BitVec 2) (s : State) :
    Host.Outcome State Fault Refusal :=
  fpLoad s qp f1 r3 (.reg r2) .integer .chkClr

/-- `ldf8.c.clr f1=[r3],imm9` (M8, R393). -/
def execLdf8CClrF1R3Imm9 (qp : PredIdx) (f1 : FrIdx) (r3 : GrIdx) (imm9 : BitVec 9) (_hint : BitVec 2) (s : State) :
    Host.Outcome State Fault Refusal :=
  fpLoad s qp f1 r3 (.imm (sext imm9)) .integer .chkClr

/-- `ldfs.c.clr f1=[r3]` (M6, R393). -/
def execLdfsCClrF1R3 (qp : PredIdx) (f1 : FrIdx) (r3 : GrIdx) (_hint : BitVec 2) (s : State) :
    Host.Outcome State Fault Refusal :=
  fpLoad s qp f1 r3 .none .single .chkClr

/-- `ldfs.c.clr f1=[r3],r2` (M7, R393). -/
def execLdfsCClrF1R3R2 (qp : PredIdx) (f1 : FrIdx) (r3 r2 : GrIdx) (_hint : BitVec 2) (s : State) :
    Host.Outcome State Fault Refusal :=
  fpLoad s qp f1 r3 (.reg r2) .single .chkClr

/-- `ldfs.c.clr f1=[r3],imm9` (M8, R393). -/
def execLdfsCClrF1R3Imm9 (qp : PredIdx) (f1 : FrIdx) (r3 : GrIdx) (imm9 : BitVec 9) (_hint : BitVec 2) (s : State) :
    Host.Outcome State Fault Refusal :=
  fpLoad s qp f1 r3 (.imm (sext imm9)) .single .chkClr

/-- `ldfd.c.clr f1=[r3]` (M6, R393). -/
def execLdfdCClrF1R3 (qp : PredIdx) (f1 : FrIdx) (r3 : GrIdx) (_hint : BitVec 2) (s : State) :
    Host.Outcome State Fault Refusal :=
  fpLoad s qp f1 r3 .none .double .chkClr

/-- `ldfd.c.clr f1=[r3],r2` (M7, R393). -/
def execLdfdCClrF1R3R2 (qp : PredIdx) (f1 : FrIdx) (r3 r2 : GrIdx) (_hint : BitVec 2) (s : State) :
    Host.Outcome State Fault Refusal :=
  fpLoad s qp f1 r3 (.reg r2) .double .chkClr

/-- `ldfd.c.clr f1=[r3],imm9` (M8, R393). -/
def execLdfdCClrF1R3Imm9 (qp : PredIdx) (f1 : FrIdx) (r3 : GrIdx) (imm9 : BitVec 9) (_hint : BitVec 2) (s : State) :
    Host.Outcome State Fault Refusal :=
  fpLoad s qp f1 r3 (.imm (sext imm9)) .double .chkClr

/-- `ldfe.c.nc f1=[r3]` (M6, R393). -/
def execLdfeCNcF1R3 (qp : PredIdx) (f1 : FrIdx) (r3 : GrIdx) (_hint : BitVec 2) (s : State) :
    Host.Outcome State Fault Refusal :=
  fpLoad s qp f1 r3 .none .extended .chkNc

/-- `ldfe.c.nc f1=[r3],r2` (M7, R393). -/
def execLdfeCNcF1R3R2 (qp : PredIdx) (f1 : FrIdx) (r3 r2 : GrIdx) (_hint : BitVec 2) (s : State) :
    Host.Outcome State Fault Refusal :=
  fpLoad s qp f1 r3 (.reg r2) .extended .chkNc

/-- `ldfe.c.nc f1=[r3],imm9` (M8, R393). -/
def execLdfeCNcF1R3Imm9 (qp : PredIdx) (f1 : FrIdx) (r3 : GrIdx) (imm9 : BitVec 9) (_hint : BitVec 2) (s : State) :
    Host.Outcome State Fault Refusal :=
  fpLoad s qp f1 r3 (.imm (sext imm9)) .extended .chkNc

/-- `ldf8.c.nc f1=[r3]` (M6, R393). -/
def execLdf8CNcF1R3 (qp : PredIdx) (f1 : FrIdx) (r3 : GrIdx) (_hint : BitVec 2) (s : State) :
    Host.Outcome State Fault Refusal :=
  fpLoad s qp f1 r3 .none .integer .chkNc

/-- `ldf8.c.nc f1=[r3],r2` (M7, R393). -/
def execLdf8CNcF1R3R2 (qp : PredIdx) (f1 : FrIdx) (r3 r2 : GrIdx) (_hint : BitVec 2) (s : State) :
    Host.Outcome State Fault Refusal :=
  fpLoad s qp f1 r3 (.reg r2) .integer .chkNc

/-- `ldf8.c.nc f1=[r3],imm9` (M8, R393). -/
def execLdf8CNcF1R3Imm9 (qp : PredIdx) (f1 : FrIdx) (r3 : GrIdx) (imm9 : BitVec 9) (_hint : BitVec 2) (s : State) :
    Host.Outcome State Fault Refusal :=
  fpLoad s qp f1 r3 (.imm (sext imm9)) .integer .chkNc

/-- `ldfs.c.nc f1=[r3]` (M6, R393). -/
def execLdfsCNcF1R3 (qp : PredIdx) (f1 : FrIdx) (r3 : GrIdx) (_hint : BitVec 2) (s : State) :
    Host.Outcome State Fault Refusal :=
  fpLoad s qp f1 r3 .none .single .chkNc

/-- `ldfs.c.nc f1=[r3],r2` (M7, R393). -/
def execLdfsCNcF1R3R2 (qp : PredIdx) (f1 : FrIdx) (r3 r2 : GrIdx) (_hint : BitVec 2) (s : State) :
    Host.Outcome State Fault Refusal :=
  fpLoad s qp f1 r3 (.reg r2) .single .chkNc

/-- `ldfs.c.nc f1=[r3],imm9` (M8, R393). -/
def execLdfsCNcF1R3Imm9 (qp : PredIdx) (f1 : FrIdx) (r3 : GrIdx) (imm9 : BitVec 9) (_hint : BitVec 2) (s : State) :
    Host.Outcome State Fault Refusal :=
  fpLoad s qp f1 r3 (.imm (sext imm9)) .single .chkNc

/-- `ldfd.c.nc f1=[r3]` (M6, R393). -/
def execLdfdCNcF1R3 (qp : PredIdx) (f1 : FrIdx) (r3 : GrIdx) (_hint : BitVec 2) (s : State) :
    Host.Outcome State Fault Refusal :=
  fpLoad s qp f1 r3 .none .double .chkNc

/-- `ldfd.c.nc f1=[r3],r2` (M7, R393). -/
def execLdfdCNcF1R3R2 (qp : PredIdx) (f1 : FrIdx) (r3 r2 : GrIdx) (_hint : BitVec 2) (s : State) :
    Host.Outcome State Fault Refusal :=
  fpLoad s qp f1 r3 (.reg r2) .double .chkNc

/-- `ldfd.c.nc f1=[r3],imm9` (M8, R393). -/
def execLdfdCNcF1R3Imm9 (qp : PredIdx) (f1 : FrIdx) (r3 : GrIdx) (imm9 : BitVec 9) (_hint : BitVec 2) (s : State) :
    Host.Outcome State Fault Refusal :=
  fpLoad s qp f1 r3 (.imm (sext imm9)) .double .chkNc

/-- `ldf.fill f1=[r3]` (M6, R394). -/
def execLdfFillF1R3 (qp : PredIdx) (f1 : FrIdx) (r3 : GrIdx) (_hint : BitVec 2) (s : State) :
    Host.Outcome State Fault Refusal :=
  fpLoad s qp f1 r3 .none .fill .plain

/-- `ldf.fill f1=[r3],r2` (M7, R394). -/
def execLdfFillF1R3R2 (qp : PredIdx) (f1 : FrIdx) (r3 r2 : GrIdx) (_hint : BitVec 2) (s : State) :
    Host.Outcome State Fault Refusal :=
  fpLoad s qp f1 r3 (.reg r2) .fill .plain

/-- `ldf.fill f1=[r3],imm9` (M8, R394). -/
def execLdfFillF1R3Imm9 (qp : PredIdx) (f1 : FrIdx) (r3 : GrIdx) (imm9 : BitVec 9) (_hint : BitVec 2) (s : State) :
    Host.Outcome State Fault Refusal :=
  fpLoad s qp f1 r3 (.imm (sext imm9)) .fill .plain

/-- `stfe [r3]=f2` (M9, R395). -/
def execStfeR3F2 (qp : PredIdx) (r3 : GrIdx) (f2 : FrIdx) (_hint : BitVec 2) (s : State) :
    Host.Outcome State Fault Refusal :=
  fpStore s qp r3 f2 .none .extended

/-- `stfe [r3]=f2,imm9` (M10, R395). -/
def execStfeR3F2Imm9 (qp : PredIdx) (r3 : GrIdx) (f2 : FrIdx) (imm9 : BitVec 9) (_hint : BitVec 2) (s : State) :
    Host.Outcome State Fault Refusal :=
  fpStore s qp r3 f2 (.imm (sext imm9)) .extended

/-- `stf8 [r3]=f2` (M9, R395). -/
def execStf8R3F2 (qp : PredIdx) (r3 : GrIdx) (f2 : FrIdx) (_hint : BitVec 2) (s : State) :
    Host.Outcome State Fault Refusal :=
  fpStore s qp r3 f2 .none .integer

/-- `stf8 [r3]=f2,imm9` (M10, R395). -/
def execStf8R3F2Imm9 (qp : PredIdx) (r3 : GrIdx) (f2 : FrIdx) (imm9 : BitVec 9) (_hint : BitVec 2) (s : State) :
    Host.Outcome State Fault Refusal :=
  fpStore s qp r3 f2 (.imm (sext imm9)) .integer

/-- `stfs [r3]=f2` (M9, R395). -/
def execStfsR3F2 (qp : PredIdx) (r3 : GrIdx) (f2 : FrIdx) (_hint : BitVec 2) (s : State) :
    Host.Outcome State Fault Refusal :=
  fpStore s qp r3 f2 .none .single

/-- `stfs [r3]=f2,imm9` (M10, R395). -/
def execStfsR3F2Imm9 (qp : PredIdx) (r3 : GrIdx) (f2 : FrIdx) (imm9 : BitVec 9) (_hint : BitVec 2) (s : State) :
    Host.Outcome State Fault Refusal :=
  fpStore s qp r3 f2 (.imm (sext imm9)) .single

/-- `stfd [r3]=f2` (M9, R395). -/
def execStfdR3F2 (qp : PredIdx) (r3 : GrIdx) (f2 : FrIdx) (_hint : BitVec 2) (s : State) :
    Host.Outcome State Fault Refusal :=
  fpStore s qp r3 f2 .none .double

/-- `stfd [r3]=f2,imm9` (M10, R395). -/
def execStfdR3F2Imm9 (qp : PredIdx) (r3 : GrIdx) (f2 : FrIdx) (imm9 : BitVec 9) (_hint : BitVec 2) (s : State) :
    Host.Outcome State Fault Refusal :=
  fpStore s qp r3 f2 (.imm (sext imm9)) .double

/-- `stf.spill [r3]=f2` (M9, R395). -/
def execStfSpillR3F2 (qp : PredIdx) (r3 : GrIdx) (f2 : FrIdx) (_hint : BitVec 2) (s : State) :
    Host.Outcome State Fault Refusal :=
  fpStore s qp r3 f2 .none .fill

/-- `stf.spill [r3]=f2,imm9` (M10, R395). -/
def execStfSpillR3F2Imm9 (qp : PredIdx) (r3 : GrIdx) (f2 : FrIdx) (imm9 : BitVec 9) (_hint : BitVec 2) (s : State) :
    Host.Outcome State Fault Refusal :=
  fpStore s qp r3 f2 (.imm (sext imm9)) .fill

/-- `ldfps f1,f2=[r3]` (M11, R396). -/
def execLdfpsF1F2R3 (qp : PredIdx) (f1 f2 : FrIdx) (r3 : GrIdx) (_hint : BitVec 2) (s : State) :
    Host.Outcome State Fault Refusal :=
  fpLoadPair s qp f1 f2 r3 .none .single .plain

/-- `ldfps f1,f2=[r3],8` (M12, R396). -/
def execLdfpsF1F2R38 (qp : PredIdx) (f1 f2 : FrIdx) (r3 : GrIdx) (_hint : BitVec 2) (s : State) :
    Host.Outcome State Fault Refusal :=
  fpLoadPair s qp f1 f2 r3 (.imm 8) .single .plain

/-- `ldfps.s f1,f2=[r3]` (M11, R396). -/
def execLdfpsSF1F2R3 (qp : PredIdx) (f1 f2 : FrIdx) (r3 : GrIdx) (_hint : BitVec 2) (s : State) :
    Host.Outcome State Fault Refusal :=
  fpLoadPair s qp f1 f2 r3 .none .single .spec

/-- `ldfps.s f1,f2=[r3],8` (M12, R396). -/
def execLdfpsSF1F2R38 (qp : PredIdx) (f1 f2 : FrIdx) (r3 : GrIdx) (_hint : BitVec 2) (s : State) :
    Host.Outcome State Fault Refusal :=
  fpLoadPair s qp f1 f2 r3 (.imm 8) .single .spec

/-- `ldfps.a f1,f2=[r3]` (M11, R396). -/
def execLdfpsAF1F2R3 (qp : PredIdx) (f1 f2 : FrIdx) (r3 : GrIdx) (_hint : BitVec 2) (s : State) :
    Host.Outcome State Fault Refusal :=
  fpLoadPair s qp f1 f2 r3 .none .single .adv

/-- `ldfps.a f1,f2=[r3],8` (M12, R396). -/
def execLdfpsAF1F2R38 (qp : PredIdx) (f1 f2 : FrIdx) (r3 : GrIdx) (_hint : BitVec 2) (s : State) :
    Host.Outcome State Fault Refusal :=
  fpLoadPair s qp f1 f2 r3 (.imm 8) .single .adv

/-- `ldfps.sa f1,f2=[r3]` (M11, R396). -/
def execLdfpsSaF1F2R3 (qp : PredIdx) (f1 f2 : FrIdx) (r3 : GrIdx) (_hint : BitVec 2) (s : State) :
    Host.Outcome State Fault Refusal :=
  fpLoadPair s qp f1 f2 r3 .none .single .specAdv

/-- `ldfps.sa f1,f2=[r3],8` (M12, R396). -/
def execLdfpsSaF1F2R38 (qp : PredIdx) (f1 f2 : FrIdx) (r3 : GrIdx) (_hint : BitVec 2) (s : State) :
    Host.Outcome State Fault Refusal :=
  fpLoadPair s qp f1 f2 r3 (.imm 8) .single .specAdv

/-- `ldfps.c.clr f1,f2=[r3]` (M11, R396). -/
def execLdfpsCClrF1F2R3 (qp : PredIdx) (f1 f2 : FrIdx) (r3 : GrIdx) (_hint : BitVec 2) (s : State) :
    Host.Outcome State Fault Refusal :=
  fpLoadPair s qp f1 f2 r3 .none .single .chkClr

/-- `ldfps.c.clr f1,f2=[r3],8` (M12, R396). -/
def execLdfpsCClrF1F2R38 (qp : PredIdx) (f1 f2 : FrIdx) (r3 : GrIdx) (_hint : BitVec 2) (s : State) :
    Host.Outcome State Fault Refusal :=
  fpLoadPair s qp f1 f2 r3 (.imm 8) .single .chkClr

/-- `ldfps.c.nc f1,f2=[r3]` (M11, R396). -/
def execLdfpsCNcF1F2R3 (qp : PredIdx) (f1 f2 : FrIdx) (r3 : GrIdx) (_hint : BitVec 2) (s : State) :
    Host.Outcome State Fault Refusal :=
  fpLoadPair s qp f1 f2 r3 .none .single .chkNc

/-- `ldfps.c.nc f1,f2=[r3],8` (M12, R396). -/
def execLdfpsCNcF1F2R38 (qp : PredIdx) (f1 f2 : FrIdx) (r3 : GrIdx) (_hint : BitVec 2) (s : State) :
    Host.Outcome State Fault Refusal :=
  fpLoadPair s qp f1 f2 r3 (.imm 8) .single .chkNc

/-- `ldfpd f1,f2=[r3]` (M11, R396). -/
def execLdfpdF1F2R3 (qp : PredIdx) (f1 f2 : FrIdx) (r3 : GrIdx) (_hint : BitVec 2) (s : State) :
    Host.Outcome State Fault Refusal :=
  fpLoadPair s qp f1 f2 r3 .none .double .plain

/-- `ldfpd f1,f2=[r3],16` (M12, R396). -/
def execLdfpdF1F2R316 (qp : PredIdx) (f1 f2 : FrIdx) (r3 : GrIdx) (_hint : BitVec 2) (s : State) :
    Host.Outcome State Fault Refusal :=
  fpLoadPair s qp f1 f2 r3 (.imm 16) .double .plain

/-- `ldfpd.s f1,f2=[r3]` (M11, R396). -/
def execLdfpdSF1F2R3 (qp : PredIdx) (f1 f2 : FrIdx) (r3 : GrIdx) (_hint : BitVec 2) (s : State) :
    Host.Outcome State Fault Refusal :=
  fpLoadPair s qp f1 f2 r3 .none .double .spec

/-- `ldfpd.s f1,f2=[r3],16` (M12, R396). -/
def execLdfpdSF1F2R316 (qp : PredIdx) (f1 f2 : FrIdx) (r3 : GrIdx) (_hint : BitVec 2) (s : State) :
    Host.Outcome State Fault Refusal :=
  fpLoadPair s qp f1 f2 r3 (.imm 16) .double .spec

/-- `ldfpd.a f1,f2=[r3]` (M11, R396). -/
def execLdfpdAF1F2R3 (qp : PredIdx) (f1 f2 : FrIdx) (r3 : GrIdx) (_hint : BitVec 2) (s : State) :
    Host.Outcome State Fault Refusal :=
  fpLoadPair s qp f1 f2 r3 .none .double .adv

/-- `ldfpd.a f1,f2=[r3],16` (M12, R396). -/
def execLdfpdAF1F2R316 (qp : PredIdx) (f1 f2 : FrIdx) (r3 : GrIdx) (_hint : BitVec 2) (s : State) :
    Host.Outcome State Fault Refusal :=
  fpLoadPair s qp f1 f2 r3 (.imm 16) .double .adv

/-- `ldfpd.sa f1,f2=[r3]` (M11, R396). -/
def execLdfpdSaF1F2R3 (qp : PredIdx) (f1 f2 : FrIdx) (r3 : GrIdx) (_hint : BitVec 2) (s : State) :
    Host.Outcome State Fault Refusal :=
  fpLoadPair s qp f1 f2 r3 .none .double .specAdv

/-- `ldfpd.sa f1,f2=[r3],16` (M12, R396). -/
def execLdfpdSaF1F2R316 (qp : PredIdx) (f1 f2 : FrIdx) (r3 : GrIdx) (_hint : BitVec 2) (s : State) :
    Host.Outcome State Fault Refusal :=
  fpLoadPair s qp f1 f2 r3 (.imm 16) .double .specAdv

/-- `ldfpd.c.clr f1,f2=[r3]` (M11, R396). -/
def execLdfpdCClrF1F2R3 (qp : PredIdx) (f1 f2 : FrIdx) (r3 : GrIdx) (_hint : BitVec 2) (s : State) :
    Host.Outcome State Fault Refusal :=
  fpLoadPair s qp f1 f2 r3 .none .double .chkClr

/-- `ldfpd.c.clr f1,f2=[r3],16` (M12, R396). -/
def execLdfpdCClrF1F2R316 (qp : PredIdx) (f1 f2 : FrIdx) (r3 : GrIdx) (_hint : BitVec 2) (s : State) :
    Host.Outcome State Fault Refusal :=
  fpLoadPair s qp f1 f2 r3 (.imm 16) .double .chkClr

/-- `ldfpd.c.nc f1,f2=[r3]` (M11, R396). -/
def execLdfpdCNcF1F2R3 (qp : PredIdx) (f1 f2 : FrIdx) (r3 : GrIdx) (_hint : BitVec 2) (s : State) :
    Host.Outcome State Fault Refusal :=
  fpLoadPair s qp f1 f2 r3 .none .double .chkNc

/-- `ldfpd.c.nc f1,f2=[r3],16` (M12, R396). -/
def execLdfpdCNcF1F2R316 (qp : PredIdx) (f1 f2 : FrIdx) (r3 : GrIdx) (_hint : BitVec 2) (s : State) :
    Host.Outcome State Fault Refusal :=
  fpLoadPair s qp f1 f2 r3 (.imm 16) .double .chkNc

/-- `ldfp8 f1,f2=[r3]` (M11, R396). -/
def execLdfp8F1F2R3 (qp : PredIdx) (f1 f2 : FrIdx) (r3 : GrIdx) (_hint : BitVec 2) (s : State) :
    Host.Outcome State Fault Refusal :=
  fpLoadPair s qp f1 f2 r3 .none .integer .plain

/-- `ldfp8 f1,f2=[r3],16` (M12, R396). -/
def execLdfp8F1F2R316 (qp : PredIdx) (f1 f2 : FrIdx) (r3 : GrIdx) (_hint : BitVec 2) (s : State) :
    Host.Outcome State Fault Refusal :=
  fpLoadPair s qp f1 f2 r3 (.imm 16) .integer .plain

/-- `ldfp8.s f1,f2=[r3]` (M11, R396). -/
def execLdfp8SF1F2R3 (qp : PredIdx) (f1 f2 : FrIdx) (r3 : GrIdx) (_hint : BitVec 2) (s : State) :
    Host.Outcome State Fault Refusal :=
  fpLoadPair s qp f1 f2 r3 .none .integer .spec

/-- `ldfp8.s f1,f2=[r3],16` (M12, R396). -/
def execLdfp8SF1F2R316 (qp : PredIdx) (f1 f2 : FrIdx) (r3 : GrIdx) (_hint : BitVec 2) (s : State) :
    Host.Outcome State Fault Refusal :=
  fpLoadPair s qp f1 f2 r3 (.imm 16) .integer .spec

/-- `ldfp8.a f1,f2=[r3]` (M11, R396). -/
def execLdfp8AF1F2R3 (qp : PredIdx) (f1 f2 : FrIdx) (r3 : GrIdx) (_hint : BitVec 2) (s : State) :
    Host.Outcome State Fault Refusal :=
  fpLoadPair s qp f1 f2 r3 .none .integer .adv

/-- `ldfp8.a f1,f2=[r3],16` (M12, R396). -/
def execLdfp8AF1F2R316 (qp : PredIdx) (f1 f2 : FrIdx) (r3 : GrIdx) (_hint : BitVec 2) (s : State) :
    Host.Outcome State Fault Refusal :=
  fpLoadPair s qp f1 f2 r3 (.imm 16) .integer .adv

/-- `ldfp8.sa f1,f2=[r3]` (M11, R396). -/
def execLdfp8SaF1F2R3 (qp : PredIdx) (f1 f2 : FrIdx) (r3 : GrIdx) (_hint : BitVec 2) (s : State) :
    Host.Outcome State Fault Refusal :=
  fpLoadPair s qp f1 f2 r3 .none .integer .specAdv

/-- `ldfp8.sa f1,f2=[r3],16` (M12, R396). -/
def execLdfp8SaF1F2R316 (qp : PredIdx) (f1 f2 : FrIdx) (r3 : GrIdx) (_hint : BitVec 2) (s : State) :
    Host.Outcome State Fault Refusal :=
  fpLoadPair s qp f1 f2 r3 (.imm 16) .integer .specAdv

/-- `ldfp8.c.clr f1,f2=[r3]` (M11, R396). -/
def execLdfp8CClrF1F2R3 (qp : PredIdx) (f1 f2 : FrIdx) (r3 : GrIdx) (_hint : BitVec 2) (s : State) :
    Host.Outcome State Fault Refusal :=
  fpLoadPair s qp f1 f2 r3 .none .integer .chkClr

/-- `ldfp8.c.clr f1,f2=[r3],16` (M12, R396). -/
def execLdfp8CClrF1F2R316 (qp : PredIdx) (f1 f2 : FrIdx) (r3 : GrIdx) (_hint : BitVec 2) (s : State) :
    Host.Outcome State Fault Refusal :=
  fpLoadPair s qp f1 f2 r3 (.imm 16) .integer .chkClr

/-- `ldfp8.c.nc f1,f2=[r3]` (M11, R396). -/
def execLdfp8CNcF1F2R3 (qp : PredIdx) (f1 f2 : FrIdx) (r3 : GrIdx) (_hint : BitVec 2) (s : State) :
    Host.Outcome State Fault Refusal :=
  fpLoadPair s qp f1 f2 r3 .none .integer .chkNc

/-- `ldfp8.c.nc f1,f2=[r3],16` (M12, R396). -/
def execLdfp8CNcF1F2R316 (qp : PredIdx) (f1 f2 : FrIdx) (r3 : GrIdx) (_hint : BitVec 2) (s : State) :
    Host.Outcome State Fault Refusal :=
  fpLoadPair s qp f1 f2 r3 (.imm 16) .integer .chkNc

/-- `setf.sig f1=r2` (M18, R405). -/
def execSetfSigF1R2 (qp : PredIdx) (f1 : FrIdx) (r2 : GrIdx) (s : State) : Host.Outcome State Fault Refusal :=
  setfBody s qp f1 r2 FReg.ofSig

/-- `setf.exp f1=r2` (M18, R405). -/
def execSetfExpF1R2 (qp : PredIdx) (f1 : FrIdx) (r2 : GrIdx) (s : State) : Host.Outcome State Fault Refusal :=
  setfBody s qp f1 r2 setfExp

/-- `setf.s f1=r2` (M18, R405). -/
def execSetfSF1R2 (qp : PredIdx) (f1 : FrIdx) (r2 : GrIdx) (s : State) : Host.Outcome State Fault Refusal :=
  setfBody s qp f1 r2 (fun v => singleToReg (v.setWidth 32))

/-- `setf.d f1=r2` (M18, R405). -/
def execSetfDF1R2 (qp : PredIdx) (f1 : FrIdx) (r2 : GrIdx) (s : State) : Host.Outcome State Fault Refusal :=
  setfBody s qp f1 r2 doubleToReg

/-- `getf.sig r1=f2` (M19, R406). -/
def execGetfSigR1F2 (qp : PredIdx) (r1 : GrIdx) (f2 : FrIdx) (s : State) : Host.Outcome State Fault Refusal :=
  getfBody s qp r1 f2 FReg.sig

/-- `getf.exp r1=f2` (M19, R406). -/
def execGetfExpR1F2 (qp : PredIdx) (r1 : GrIdx) (f2 : FrIdx) (s : State) : Host.Outcome State Fault Refusal :=
  getfBody s qp r1 f2 getfExp

/-- `getf.s r1=f2` (M19, R406). -/
def execGetfSR1F2 (qp : PredIdx) (r1 : GrIdx) (f2 : FrIdx) (s : State) : Host.Outcome State Fault Refusal :=
  getfBody s qp r1 f2 (fun f => zext (regToSingle f))

/-- `getf.d r1=f2` (M19, R406). -/
def execGetfDR1F2 (qp : PredIdx) (r1 : GrIdx) (f2 : FrIdx) (s : State) : Host.Outcome State Fault Refusal :=
  getfBody s qp r1 f2 regToDouble

end Sys2Proof.Machine
end

