-- ==== Sys2Proof/Machine/FpMisc.lean ====
section
/-! DEFINITION. Machine/FpMisc.lean: floating-point moves, merges, bit operations and status instructions, formats F3, F9, F12
to F14 (`spec/44_f_type.md` R504, R507, R511, R513; the half-word rearrangements are PRESUMED, log 20). -/

namespace Sys2Proof.Machine

/-- The halves of a significand. -/
def hiOf (f : FReg) : BitVec 32 := f.sig.extractLsb' 32 32
/-- The low half. -/
def loOf (f : FReg) : BitVec 32 := f.sig.extractLsb' 0 32

/-- An F9 instruction of two sources. -/
def fpMove2 (s : State) (qp : PredIdx) (f1 f2 f3 : FrIdx) (g : FReg → FReg → FReg) : Host.Outcome State Fault Refusal :=
  fpMove s qp f1 [f2, f3] (g (s.fr f2) (s.fr f3))

/-- `fand`, `fandcm`, `for`, `fxor`: on the significands (R504). -/
def sigOp (g : Word → Word → Word) (a b : FReg) : FReg := FReg.ofSig (g a.sig b.sig)

/-- All copies of the sign of a half (`fsxt`). -/
def signHalf (h : BitVec 32) : BitVec 32 := if h.getLsbD 31 then BitVec.allOnes 32 else 0

/-- A half with its sign inverted. -/
def negHalf (h : BitVec 32) : BitVec 32 := h ^^^ 0x80000000

/-- Sign and magnitude of a half from two halves; `neg` inverts the sign (`fpmerge.s`, `fpmerge.ns`). -/
def mergeSign (neg : Bool) (a b : BitVec 32) : BitVec 32 := BitVec.ofBool (a.getLsbD 31 != neg) ++ b.extractLsb' 0 31

/-- Sign and exponent of one half, fraction of the other (`fpmerge.se`). -/
def mergeSe (a b : BitVec 32) : BitVec 32 := a.extractLsb' 23 9 ++ b.extractLsb' 0 23

/-- `fsetc` (R513). -/
def fsetcInstr (s : State) (qp : PredIdx) (sf : BitVec 2) (amask7 omask7 : BitVec 7) :
    Host.Outcome State Fault Refusal :=
  run s qp (.ok ())
    (let c := fsetcControls s.old.fpsr amask7 omask7
     (require (!fsetcReserved sf c) reservedField).bind fun _ =>
       .ok { s := s.setFpsrPart (controlsPart sf) .alu (sfBase sf) c })

/-- `fclrf` (R513). -/
def fclrfInstr (s : State) (qp : PredIdx) (sf : BitVec 2) : Host.Outcome State Fault Refusal :=
  run s qp (.ok ()) (.ok { s := s.setFpsrPart (flagsPart sf) .alu (sfBase sf + 7) 0#6 })

/-- `fchkf` (R511). -/
def fchkfInstr (s : State) (qp : PredIdx) (sf : BitVec 2) (imm21 : BitVec 21) : Host.Outcome State Fault Refusal :=
  run s qp (.ok ())
    (if fchkfFails s.old.fpsr sf then s.checkFail s .fchkfFailed imm21 else .ok { s := s })

/-! ### The instructions -/

/-- `fselect f1=f3,f4,f2` (F3, R507). -/
def execFselectF1F3F4F2 (qp : PredIdx) (f1 f3 f4 f2 : FrIdx) (s : State) : Host.Outcome State Fault Refusal :=
  fpMove s qp f1 [f3, f4, f2] (FReg.ofSig (fselectValue (s.fr f3).sig (s.fr f4).sig (s.fr f2).sig))

/-- `fmerge.s f1=f2,f3` (F9, R504). -/
def execFmergeSF1F2F3 (qp : PredIdx) (f1 f2 f3 : FrIdx) (s : State) : Host.Outcome State Fault Refusal :=
  fpMove2 s qp f1 f2 f3 (fun a b => { b with sign := a.sign })

/-- `fmerge.ns f1=f2,f3` (F9, R504). -/
def execFmergeNsF1F2F3 (qp : PredIdx) (f1 f2 f3 : FrIdx) (s : State) : Host.Outcome State Fault Refusal :=
  fpMove2 s qp f1 f2 f3 (fun a b => { b with sign := !a.sign })

/-- `fmerge.se f1=f2,f3` (F9, R504). -/
def execFmergeSeF1F2F3 (qp : PredIdx) (f1 f2 f3 : FrIdx) (s : State) : Host.Outcome State Fault Refusal :=
  fpMove2 s qp f1 f2 f3 (fun a b => { a with sig := b.sig })

/-- `fand f1=f2,f3` (F9, R504). -/
def execFandF1F2F3 (qp : PredIdx) (f1 f2 f3 : FrIdx) (s : State) : Host.Outcome State Fault Refusal :=
  fpMove2 s qp f1 f2 f3 (sigOp (fun a b => a &&& b))

/-- `fandcm f1=f2,f3` (F9, R504). -/
def execFandcmF1F2F3 (qp : PredIdx) (f1 f2 f3 : FrIdx) (s : State) : Host.Outcome State Fault Refusal :=
  fpMove2 s qp f1 f2 f3 (sigOp (fun a b => a &&& ~~~ b))

/-- `for f1=f2,f3` (F9, R504). -/
def execForF1F2F3 (qp : PredIdx) (f1 f2 f3 : FrIdx) (s : State) : Host.Outcome State Fault Refusal :=
  fpMove2 s qp f1 f2 f3 (sigOp (fun a b => a ||| b))

/-- `fxor f1=f2,f3` (F9, R504). -/
def execFxorF1F2F3 (qp : PredIdx) (f1 f2 f3 : FrIdx) (s : State) : Host.Outcome State Fault Refusal :=
  fpMove2 s qp f1 f2 f3 (sigOp (fun a b => a ^^^ b))

/-- `fmix.l f1=f2,f3` (F9, R504). -/
def execFmixLF1F2F3 (qp : PredIdx) (f1 f2 f3 : FrIdx) (s : State) : Host.Outcome State Fault Refusal :=
  fpMove2 s qp f1 f2 f3 (fun a b => packHalves (hiOf a) (hiOf b))

/-- `fmix.r f1=f2,f3` (F9, R504). -/
def execFmixRF1F2F3 (qp : PredIdx) (f1 f2 f3 : FrIdx) (s : State) : Host.Outcome State Fault Refusal :=
  fpMove2 s qp f1 f2 f3 (fun a b => packHalves (loOf a) (loOf b))

/-- `fmix.lr f1=f2,f3` (F9, R504). -/
def execFmixLrF1F2F3 (qp : PredIdx) (f1 f2 f3 : FrIdx) (s : State) : Host.Outcome State Fault Refusal :=
  fpMove2 s qp f1 f2 f3 (fun a b => packHalves (hiOf a) (loOf b))

/-- `fsxt.l f1=f2,f3` (F9, R504). -/
def execFsxtLF1F2F3 (qp : PredIdx) (f1 f2 f3 : FrIdx) (s : State) : Host.Outcome State Fault Refusal :=
  fpMove2 s qp f1 f2 f3 (fun a b => packHalves (signHalf (hiOf a)) (hiOf b))

/-- `fsxt.r f1=f2,f3` (F9, R504). -/
def execFsxtRF1F2F3 (qp : PredIdx) (f1 f2 f3 : FrIdx) (s : State) : Host.Outcome State Fault Refusal :=
  fpMove2 s qp f1 f2 f3 (fun a b => packHalves (signHalf (loOf a)) (loOf b))

/-- `fpack f1=f2,f3` (F9, R504). -/
def execFpackF1F2F3 (qp : PredIdx) (f1 f2 f3 : FrIdx) (s : State) : Host.Outcome State Fault Refusal :=
  fpMove2 s qp f1 f2 f3 (fun a b => packHalves (regToSingle a) (regToSingle b))

/-- `fswap f1=f2,f3` (F9, R504). -/
def execFswapF1F2F3 (qp : PredIdx) (f1 f2 f3 : FrIdx) (s : State) : Host.Outcome State Fault Refusal :=
  fpMove2 s qp f1 f2 f3 (fun a b => packHalves (loOf b) (hiOf a))

/-- `fswap.nl f1=f2,f3` (F9, R504). -/
def execFswapNlF1F2F3 (qp : PredIdx) (f1 f2 f3 : FrIdx) (s : State) : Host.Outcome State Fault Refusal :=
  fpMove2 s qp f1 f2 f3 (fun a b => packHalves (negHalf (loOf b)) (hiOf a))

/-- `fswap.nr f1=f2,f3` (F9, R504). -/
def execFswapNrF1F2F3 (qp : PredIdx) (f1 f2 f3 : FrIdx) (s : State) : Host.Outcome State Fault Refusal :=
  fpMove2 s qp f1 f2 f3 (fun a b => packHalves (loOf b) (negHalf (hiOf a)))

/-- `fpmerge.s f1=f2,f3` (F9, R504). -/
def execFpmergeSF1F2F3 (qp : PredIdx) (f1 f2 f3 : FrIdx) (s : State) : Host.Outcome State Fault Refusal :=
  fpMove2 s qp f1 f2 f3 (fun a b => packHalves (mergeSign false (hiOf a) (hiOf b)) (mergeSign false (loOf a) (loOf b)))

/-- `fpmerge.ns f1=f2,f3` (F9, R504). -/
def execFpmergeNsF1F2F3 (qp : PredIdx) (f1 f2 f3 : FrIdx) (s : State) : Host.Outcome State Fault Refusal :=
  fpMove2 s qp f1 f2 f3 (fun a b => packHalves (mergeSign true (hiOf a) (hiOf b)) (mergeSign true (loOf a) (loOf b)))

/-- `fpmerge.se f1=f2,f3` (F9, R504). -/
def execFpmergeSeF1F2F3 (qp : PredIdx) (f1 f2 f3 : FrIdx) (s : State) : Host.Outcome State Fault Refusal :=
  fpMove2 s qp f1 f2 f3 (fun a b => packHalves (mergeSe (hiOf a) (hiOf b)) (mergeSe (loOf a) (loOf b)))

/-- `fsetc.sf amask7,omask7` (F12, R513). -/
def execFsetcSfAmask7Omask7 (qp : PredIdx) (sf : BitVec 2) (amask7 omask7 : BitVec 7) (s : State) :
    Host.Outcome State Fault Refusal :=
  fsetcInstr s qp sf amask7 omask7

/-- `fclrf.sf` (F13, R513). -/
def execFclrfSf (qp : PredIdx) (sf : BitVec 2) (s : State) : Host.Outcome State Fault Refusal :=
  fclrfInstr s qp sf

/-- `fchkf.sf target25` (F14, R511). -/
def execFchkfSfTarget25 (qp : PredIdx) (sf : BitVec 2) (imm21 : BitVec 21) (s : State) :
    Host.Outcome State Fault Refusal :=
  fchkfInstr s qp sf imm21

end Sys2Proof.Machine
end

