-- ==== Sys2Proof/Machine/Load.lean ====
section
/-! DEFINITION. Machine/Load.lean: integer loads, formats M1 to M3 (`spec/42_m_type_memory.md` R380 to R386, R425). -/

namespace Sys2Proof.Machine

/-! ### The instructions -/

/-- `ld1 r1=[r3]` (M1, R381). -/
def execLd1R1R3 (qp : PredIdx) (r1 r3 : GrIdx) (_hint : BitVec 2) (s : State) : Host.Outcome State Fault Refusal :=
  intLoad s qp r1 r3 .none 1 .plain

/-- `ld1 r1=[r3],r2` (M2, R381). -/
def execLd1R1R3R2 (qp : PredIdx) (r1 r3 r2 : GrIdx) (_hint : BitVec 2) (s : State) :
    Host.Outcome State Fault Refusal :=
  intLoad s qp r1 r3 (.reg r2) 1 .plain

/-- `ld1 r1=[r3],imm9` (M3, R381). -/
def execLd1R1R3Imm9 (qp : PredIdx) (r1 r3 : GrIdx) (imm9 : BitVec 9) (_hint : BitVec 2) (s : State) :
    Host.Outcome State Fault Refusal :=
  intLoad s qp r1 r3 (.imm (sext imm9)) 1 .plain

/-- `ld2 r1=[r3]` (M1, R381). -/
def execLd2R1R3 (qp : PredIdx) (r1 r3 : GrIdx) (_hint : BitVec 2) (s : State) : Host.Outcome State Fault Refusal :=
  intLoad s qp r1 r3 .none 2 .plain

/-- `ld2 r1=[r3],r2` (M2, R381). -/
def execLd2R1R3R2 (qp : PredIdx) (r1 r3 r2 : GrIdx) (_hint : BitVec 2) (s : State) :
    Host.Outcome State Fault Refusal :=
  intLoad s qp r1 r3 (.reg r2) 2 .plain

/-- `ld2 r1=[r3],imm9` (M3, R381). -/
def execLd2R1R3Imm9 (qp : PredIdx) (r1 r3 : GrIdx) (imm9 : BitVec 9) (_hint : BitVec 2) (s : State) :
    Host.Outcome State Fault Refusal :=
  intLoad s qp r1 r3 (.imm (sext imm9)) 2 .plain

/-- `ld4 r1=[r3]` (M1, R381). -/
def execLd4R1R3 (qp : PredIdx) (r1 r3 : GrIdx) (_hint : BitVec 2) (s : State) : Host.Outcome State Fault Refusal :=
  intLoad s qp r1 r3 .none 4 .plain

/-- `ld4 r1=[r3],r2` (M2, R381). -/
def execLd4R1R3R2 (qp : PredIdx) (r1 r3 r2 : GrIdx) (_hint : BitVec 2) (s : State) :
    Host.Outcome State Fault Refusal :=
  intLoad s qp r1 r3 (.reg r2) 4 .plain

/-- `ld4 r1=[r3],imm9` (M3, R381). -/
def execLd4R1R3Imm9 (qp : PredIdx) (r1 r3 : GrIdx) (imm9 : BitVec 9) (_hint : BitVec 2) (s : State) :
    Host.Outcome State Fault Refusal :=
  intLoad s qp r1 r3 (.imm (sext imm9)) 4 .plain

/-- `ld8 r1=[r3]` (M1, R381). -/
def execLd8R1R3 (qp : PredIdx) (r1 r3 : GrIdx) (_hint : BitVec 2) (s : State) : Host.Outcome State Fault Refusal :=
  intLoad s qp r1 r3 .none 8 .plain

/-- `ld8 r1=[r3],r2` (M2, R381). -/
def execLd8R1R3R2 (qp : PredIdx) (r1 r3 r2 : GrIdx) (_hint : BitVec 2) (s : State) :
    Host.Outcome State Fault Refusal :=
  intLoad s qp r1 r3 (.reg r2) 8 .plain

/-- `ld8 r1=[r3],imm9` (M3, R381). -/
def execLd8R1R3Imm9 (qp : PredIdx) (r1 r3 : GrIdx) (imm9 : BitVec 9) (_hint : BitVec 2) (s : State) :
    Host.Outcome State Fault Refusal :=
  intLoad s qp r1 r3 (.imm (sext imm9)) 8 .plain

/-- `ld1.s r1=[r3]` (M1, R382). -/
def execLd1SR1R3 (qp : PredIdx) (r1 r3 : GrIdx) (_hint : BitVec 2) (s : State) : Host.Outcome State Fault Refusal :=
  intLoad s qp r1 r3 .none 1 .spec

/-- `ld1.s r1=[r3],r2` (M2, R382). -/
def execLd1SR1R3R2 (qp : PredIdx) (r1 r3 r2 : GrIdx) (_hint : BitVec 2) (s : State) :
    Host.Outcome State Fault Refusal :=
  intLoad s qp r1 r3 (.reg r2) 1 .spec

/-- `ld1.s r1=[r3],imm9` (M3, R382). -/
def execLd1SR1R3Imm9 (qp : PredIdx) (r1 r3 : GrIdx) (imm9 : BitVec 9) (_hint : BitVec 2) (s : State) :
    Host.Outcome State Fault Refusal :=
  intLoad s qp r1 r3 (.imm (sext imm9)) 1 .spec

/-- `ld2.s r1=[r3]` (M1, R382). -/
def execLd2SR1R3 (qp : PredIdx) (r1 r3 : GrIdx) (_hint : BitVec 2) (s : State) : Host.Outcome State Fault Refusal :=
  intLoad s qp r1 r3 .none 2 .spec

/-- `ld2.s r1=[r3],r2` (M2, R382). -/
def execLd2SR1R3R2 (qp : PredIdx) (r1 r3 r2 : GrIdx) (_hint : BitVec 2) (s : State) :
    Host.Outcome State Fault Refusal :=
  intLoad s qp r1 r3 (.reg r2) 2 .spec

/-- `ld2.s r1=[r3],imm9` (M3, R382). -/
def execLd2SR1R3Imm9 (qp : PredIdx) (r1 r3 : GrIdx) (imm9 : BitVec 9) (_hint : BitVec 2) (s : State) :
    Host.Outcome State Fault Refusal :=
  intLoad s qp r1 r3 (.imm (sext imm9)) 2 .spec

/-- `ld4.s r1=[r3]` (M1, R382). -/
def execLd4SR1R3 (qp : PredIdx) (r1 r3 : GrIdx) (_hint : BitVec 2) (s : State) : Host.Outcome State Fault Refusal :=
  intLoad s qp r1 r3 .none 4 .spec

/-- `ld4.s r1=[r3],r2` (M2, R382). -/
def execLd4SR1R3R2 (qp : PredIdx) (r1 r3 r2 : GrIdx) (_hint : BitVec 2) (s : State) :
    Host.Outcome State Fault Refusal :=
  intLoad s qp r1 r3 (.reg r2) 4 .spec

/-- `ld4.s r1=[r3],imm9` (M3, R382). -/
def execLd4SR1R3Imm9 (qp : PredIdx) (r1 r3 : GrIdx) (imm9 : BitVec 9) (_hint : BitVec 2) (s : State) :
    Host.Outcome State Fault Refusal :=
  intLoad s qp r1 r3 (.imm (sext imm9)) 4 .spec

/-- `ld8.s r1=[r3]` (M1, R382). -/
def execLd8SR1R3 (qp : PredIdx) (r1 r3 : GrIdx) (_hint : BitVec 2) (s : State) : Host.Outcome State Fault Refusal :=
  intLoad s qp r1 r3 .none 8 .spec

/-- `ld8.s r1=[r3],r2` (M2, R382). -/
def execLd8SR1R3R2 (qp : PredIdx) (r1 r3 r2 : GrIdx) (_hint : BitVec 2) (s : State) :
    Host.Outcome State Fault Refusal :=
  intLoad s qp r1 r3 (.reg r2) 8 .spec

/-- `ld8.s r1=[r3],imm9` (M3, R382). -/
def execLd8SR1R3Imm9 (qp : PredIdx) (r1 r3 : GrIdx) (imm9 : BitVec 9) (_hint : BitVec 2) (s : State) :
    Host.Outcome State Fault Refusal :=
  intLoad s qp r1 r3 (.imm (sext imm9)) 8 .spec

/-- `ld1.a r1=[r3]` (M1, R383). -/
def execLd1AR1R3 (qp : PredIdx) (r1 r3 : GrIdx) (_hint : BitVec 2) (s : State) : Host.Outcome State Fault Refusal :=
  intLoad s qp r1 r3 .none 1 .adv

/-- `ld1.a r1=[r3],r2` (M2, R383). -/
def execLd1AR1R3R2 (qp : PredIdx) (r1 r3 r2 : GrIdx) (_hint : BitVec 2) (s : State) :
    Host.Outcome State Fault Refusal :=
  intLoad s qp r1 r3 (.reg r2) 1 .adv

/-- `ld1.a r1=[r3],imm9` (M3, R383). -/
def execLd1AR1R3Imm9 (qp : PredIdx) (r1 r3 : GrIdx) (imm9 : BitVec 9) (_hint : BitVec 2) (s : State) :
    Host.Outcome State Fault Refusal :=
  intLoad s qp r1 r3 (.imm (sext imm9)) 1 .adv

/-- `ld2.a r1=[r3]` (M1, R383). -/
def execLd2AR1R3 (qp : PredIdx) (r1 r3 : GrIdx) (_hint : BitVec 2) (s : State) : Host.Outcome State Fault Refusal :=
  intLoad s qp r1 r3 .none 2 .adv

/-- `ld2.a r1=[r3],r2` (M2, R383). -/
def execLd2AR1R3R2 (qp : PredIdx) (r1 r3 r2 : GrIdx) (_hint : BitVec 2) (s : State) :
    Host.Outcome State Fault Refusal :=
  intLoad s qp r1 r3 (.reg r2) 2 .adv

/-- `ld2.a r1=[r3],imm9` (M3, R383). -/
def execLd2AR1R3Imm9 (qp : PredIdx) (r1 r3 : GrIdx) (imm9 : BitVec 9) (_hint : BitVec 2) (s : State) :
    Host.Outcome State Fault Refusal :=
  intLoad s qp r1 r3 (.imm (sext imm9)) 2 .adv

/-- `ld4.a r1=[r3]` (M1, R383). -/
def execLd4AR1R3 (qp : PredIdx) (r1 r3 : GrIdx) (_hint : BitVec 2) (s : State) : Host.Outcome State Fault Refusal :=
  intLoad s qp r1 r3 .none 4 .adv

/-- `ld4.a r1=[r3],r2` (M2, R383). -/
def execLd4AR1R3R2 (qp : PredIdx) (r1 r3 r2 : GrIdx) (_hint : BitVec 2) (s : State) :
    Host.Outcome State Fault Refusal :=
  intLoad s qp r1 r3 (.reg r2) 4 .adv

/-- `ld4.a r1=[r3],imm9` (M3, R383). -/
def execLd4AR1R3Imm9 (qp : PredIdx) (r1 r3 : GrIdx) (imm9 : BitVec 9) (_hint : BitVec 2) (s : State) :
    Host.Outcome State Fault Refusal :=
  intLoad s qp r1 r3 (.imm (sext imm9)) 4 .adv

/-- `ld8.a r1=[r3]` (M1, R383). -/
def execLd8AR1R3 (qp : PredIdx) (r1 r3 : GrIdx) (_hint : BitVec 2) (s : State) : Host.Outcome State Fault Refusal :=
  intLoad s qp r1 r3 .none 8 .adv

/-- `ld8.a r1=[r3],r2` (M2, R383). -/
def execLd8AR1R3R2 (qp : PredIdx) (r1 r3 r2 : GrIdx) (_hint : BitVec 2) (s : State) :
    Host.Outcome State Fault Refusal :=
  intLoad s qp r1 r3 (.reg r2) 8 .adv

/-- `ld8.a r1=[r3],imm9` (M3, R383). -/
def execLd8AR1R3Imm9 (qp : PredIdx) (r1 r3 : GrIdx) (imm9 : BitVec 9) (_hint : BitVec 2) (s : State) :
    Host.Outcome State Fault Refusal :=
  intLoad s qp r1 r3 (.imm (sext imm9)) 8 .adv

/-- `ld1.sa r1=[r3]` (M1, R384). -/
def execLd1SaR1R3 (qp : PredIdx) (r1 r3 : GrIdx) (_hint : BitVec 2) (s : State) : Host.Outcome State Fault Refusal :=
  intLoad s qp r1 r3 .none 1 .specAdv

/-- `ld1.sa r1=[r3],r2` (M2, R384). -/
def execLd1SaR1R3R2 (qp : PredIdx) (r1 r3 r2 : GrIdx) (_hint : BitVec 2) (s : State) :
    Host.Outcome State Fault Refusal :=
  intLoad s qp r1 r3 (.reg r2) 1 .specAdv

/-- `ld1.sa r1=[r3],imm9` (M3, R384). -/
def execLd1SaR1R3Imm9 (qp : PredIdx) (r1 r3 : GrIdx) (imm9 : BitVec 9) (_hint : BitVec 2) (s : State) :
    Host.Outcome State Fault Refusal :=
  intLoad s qp r1 r3 (.imm (sext imm9)) 1 .specAdv

/-- `ld2.sa r1=[r3]` (M1, R384). -/
def execLd2SaR1R3 (qp : PredIdx) (r1 r3 : GrIdx) (_hint : BitVec 2) (s : State) : Host.Outcome State Fault Refusal :=
  intLoad s qp r1 r3 .none 2 .specAdv

/-- `ld2.sa r1=[r3],r2` (M2, R384). -/
def execLd2SaR1R3R2 (qp : PredIdx) (r1 r3 r2 : GrIdx) (_hint : BitVec 2) (s : State) :
    Host.Outcome State Fault Refusal :=
  intLoad s qp r1 r3 (.reg r2) 2 .specAdv

/-- `ld2.sa r1=[r3],imm9` (M3, R384). -/
def execLd2SaR1R3Imm9 (qp : PredIdx) (r1 r3 : GrIdx) (imm9 : BitVec 9) (_hint : BitVec 2) (s : State) :
    Host.Outcome State Fault Refusal :=
  intLoad s qp r1 r3 (.imm (sext imm9)) 2 .specAdv

/-- `ld4.sa r1=[r3]` (M1, R384). -/
def execLd4SaR1R3 (qp : PredIdx) (r1 r3 : GrIdx) (_hint : BitVec 2) (s : State) : Host.Outcome State Fault Refusal :=
  intLoad s qp r1 r3 .none 4 .specAdv

/-- `ld4.sa r1=[r3],r2` (M2, R384). -/
def execLd4SaR1R3R2 (qp : PredIdx) (r1 r3 r2 : GrIdx) (_hint : BitVec 2) (s : State) :
    Host.Outcome State Fault Refusal :=
  intLoad s qp r1 r3 (.reg r2) 4 .specAdv

/-- `ld4.sa r1=[r3],imm9` (M3, R384). -/
def execLd4SaR1R3Imm9 (qp : PredIdx) (r1 r3 : GrIdx) (imm9 : BitVec 9) (_hint : BitVec 2) (s : State) :
    Host.Outcome State Fault Refusal :=
  intLoad s qp r1 r3 (.imm (sext imm9)) 4 .specAdv

/-- `ld8.sa r1=[r3]` (M1, R384). -/
def execLd8SaR1R3 (qp : PredIdx) (r1 r3 : GrIdx) (_hint : BitVec 2) (s : State) : Host.Outcome State Fault Refusal :=
  intLoad s qp r1 r3 .none 8 .specAdv

/-- `ld8.sa r1=[r3],r2` (M2, R384). -/
def execLd8SaR1R3R2 (qp : PredIdx) (r1 r3 r2 : GrIdx) (_hint : BitVec 2) (s : State) :
    Host.Outcome State Fault Refusal :=
  intLoad s qp r1 r3 (.reg r2) 8 .specAdv

/-- `ld8.sa r1=[r3],imm9` (M3, R384). -/
def execLd8SaR1R3Imm9 (qp : PredIdx) (r1 r3 : GrIdx) (imm9 : BitVec 9) (_hint : BitVec 2) (s : State) :
    Host.Outcome State Fault Refusal :=
  intLoad s qp r1 r3 (.imm (sext imm9)) 8 .specAdv

/-- `ld1.bias r1=[r3]` (M1, R386). -/
def execLd1BiasR1R3 (qp : PredIdx) (r1 r3 : GrIdx) (_hint : BitVec 2) (s : State) :
    Host.Outcome State Fault Refusal :=
  intLoad s qp r1 r3 .none 1 .plain

/-- `ld1.bias r1=[r3],r2` (M2, R386). -/
def execLd1BiasR1R3R2 (qp : PredIdx) (r1 r3 r2 : GrIdx) (_hint : BitVec 2) (s : State) :
    Host.Outcome State Fault Refusal :=
  intLoad s qp r1 r3 (.reg r2) 1 .plain

/-- `ld1.bias r1=[r3],imm9` (M3, R386). -/
def execLd1BiasR1R3Imm9 (qp : PredIdx) (r1 r3 : GrIdx) (imm9 : BitVec 9) (_hint : BitVec 2) (s : State) :
    Host.Outcome State Fault Refusal :=
  intLoad s qp r1 r3 (.imm (sext imm9)) 1 .plain

/-- `ld2.bias r1=[r3]` (M1, R386). -/
def execLd2BiasR1R3 (qp : PredIdx) (r1 r3 : GrIdx) (_hint : BitVec 2) (s : State) :
    Host.Outcome State Fault Refusal :=
  intLoad s qp r1 r3 .none 2 .plain

/-- `ld2.bias r1=[r3],r2` (M2, R386). -/
def execLd2BiasR1R3R2 (qp : PredIdx) (r1 r3 r2 : GrIdx) (_hint : BitVec 2) (s : State) :
    Host.Outcome State Fault Refusal :=
  intLoad s qp r1 r3 (.reg r2) 2 .plain

/-- `ld2.bias r1=[r3],imm9` (M3, R386). -/
def execLd2BiasR1R3Imm9 (qp : PredIdx) (r1 r3 : GrIdx) (imm9 : BitVec 9) (_hint : BitVec 2) (s : State) :
    Host.Outcome State Fault Refusal :=
  intLoad s qp r1 r3 (.imm (sext imm9)) 2 .plain

/-- `ld4.bias r1=[r3]` (M1, R386). -/
def execLd4BiasR1R3 (qp : PredIdx) (r1 r3 : GrIdx) (_hint : BitVec 2) (s : State) :
    Host.Outcome State Fault Refusal :=
  intLoad s qp r1 r3 .none 4 .plain

/-- `ld4.bias r1=[r3],r2` (M2, R386). -/
def execLd4BiasR1R3R2 (qp : PredIdx) (r1 r3 r2 : GrIdx) (_hint : BitVec 2) (s : State) :
    Host.Outcome State Fault Refusal :=
  intLoad s qp r1 r3 (.reg r2) 4 .plain

/-- `ld4.bias r1=[r3],imm9` (M3, R386). -/
def execLd4BiasR1R3Imm9 (qp : PredIdx) (r1 r3 : GrIdx) (imm9 : BitVec 9) (_hint : BitVec 2) (s : State) :
    Host.Outcome State Fault Refusal :=
  intLoad s qp r1 r3 (.imm (sext imm9)) 4 .plain

/-- `ld8.bias r1=[r3]` (M1, R386). -/
def execLd8BiasR1R3 (qp : PredIdx) (r1 r3 : GrIdx) (_hint : BitVec 2) (s : State) :
    Host.Outcome State Fault Refusal :=
  intLoad s qp r1 r3 .none 8 .plain

/-- `ld8.bias r1=[r3],r2` (M2, R386). -/
def execLd8BiasR1R3R2 (qp : PredIdx) (r1 r3 r2 : GrIdx) (_hint : BitVec 2) (s : State) :
    Host.Outcome State Fault Refusal :=
  intLoad s qp r1 r3 (.reg r2) 8 .plain

/-- `ld8.bias r1=[r3],imm9` (M3, R386). -/
def execLd8BiasR1R3Imm9 (qp : PredIdx) (r1 r3 : GrIdx) (imm9 : BitVec 9) (_hint : BitVec 2) (s : State) :
    Host.Outcome State Fault Refusal :=
  intLoad s qp r1 r3 (.imm (sext imm9)) 8 .plain

/-- `ld1.acq r1=[r3]` (M1, R386). -/
def execLd1AcqR1R3 (qp : PredIdx) (r1 r3 : GrIdx) (_hint : BitVec 2) (s : State) : Host.Outcome State Fault Refusal :=
  intLoad s qp r1 r3 .none 1 .acq

/-- `ld1.acq r1=[r3],r2` (M2, R386). -/
def execLd1AcqR1R3R2 (qp : PredIdx) (r1 r3 r2 : GrIdx) (_hint : BitVec 2) (s : State) :
    Host.Outcome State Fault Refusal :=
  intLoad s qp r1 r3 (.reg r2) 1 .acq

/-- `ld1.acq r1=[r3],imm9` (M3, R386). -/
def execLd1AcqR1R3Imm9 (qp : PredIdx) (r1 r3 : GrIdx) (imm9 : BitVec 9) (_hint : BitVec 2) (s : State) :
    Host.Outcome State Fault Refusal :=
  intLoad s qp r1 r3 (.imm (sext imm9)) 1 .acq

/-- `ld2.acq r1=[r3]` (M1, R386). -/
def execLd2AcqR1R3 (qp : PredIdx) (r1 r3 : GrIdx) (_hint : BitVec 2) (s : State) : Host.Outcome State Fault Refusal :=
  intLoad s qp r1 r3 .none 2 .acq

/-- `ld2.acq r1=[r3],r2` (M2, R386). -/
def execLd2AcqR1R3R2 (qp : PredIdx) (r1 r3 r2 : GrIdx) (_hint : BitVec 2) (s : State) :
    Host.Outcome State Fault Refusal :=
  intLoad s qp r1 r3 (.reg r2) 2 .acq

/-- `ld2.acq r1=[r3],imm9` (M3, R386). -/
def execLd2AcqR1R3Imm9 (qp : PredIdx) (r1 r3 : GrIdx) (imm9 : BitVec 9) (_hint : BitVec 2) (s : State) :
    Host.Outcome State Fault Refusal :=
  intLoad s qp r1 r3 (.imm (sext imm9)) 2 .acq

/-- `ld4.acq r1=[r3]` (M1, R386). -/
def execLd4AcqR1R3 (qp : PredIdx) (r1 r3 : GrIdx) (_hint : BitVec 2) (s : State) : Host.Outcome State Fault Refusal :=
  intLoad s qp r1 r3 .none 4 .acq

/-- `ld4.acq r1=[r3],r2` (M2, R386). -/
def execLd4AcqR1R3R2 (qp : PredIdx) (r1 r3 r2 : GrIdx) (_hint : BitVec 2) (s : State) :
    Host.Outcome State Fault Refusal :=
  intLoad s qp r1 r3 (.reg r2) 4 .acq

/-- `ld4.acq r1=[r3],imm9` (M3, R386). -/
def execLd4AcqR1R3Imm9 (qp : PredIdx) (r1 r3 : GrIdx) (imm9 : BitVec 9) (_hint : BitVec 2) (s : State) :
    Host.Outcome State Fault Refusal :=
  intLoad s qp r1 r3 (.imm (sext imm9)) 4 .acq

/-- `ld8.acq r1=[r3]` (M1, R386). -/
def execLd8AcqR1R3 (qp : PredIdx) (r1 r3 : GrIdx) (_hint : BitVec 2) (s : State) : Host.Outcome State Fault Refusal :=
  intLoad s qp r1 r3 .none 8 .acq

/-- `ld8.acq r1=[r3],r2` (M2, R386). -/
def execLd8AcqR1R3R2 (qp : PredIdx) (r1 r3 r2 : GrIdx) (_hint : BitVec 2) (s : State) :
    Host.Outcome State Fault Refusal :=
  intLoad s qp r1 r3 (.reg r2) 8 .acq

/-- `ld8.acq r1=[r3],imm9` (M3, R386). -/
def execLd8AcqR1R3Imm9 (qp : PredIdx) (r1 r3 : GrIdx) (imm9 : BitVec 9) (_hint : BitVec 2) (s : State) :
    Host.Outcome State Fault Refusal :=
  intLoad s qp r1 r3 (.imm (sext imm9)) 8 .acq

/-- `ld1.c.clr r1=[r3]` (M1, R385). -/
def execLd1CClrR1R3 (qp : PredIdx) (r1 r3 : GrIdx) (_hint : BitVec 2) (s : State) :
    Host.Outcome State Fault Refusal :=
  intLoad s qp r1 r3 .none 1 .chkClr

/-- `ld1.c.clr r1=[r3],r2` (M2, R385). -/
def execLd1CClrR1R3R2 (qp : PredIdx) (r1 r3 r2 : GrIdx) (_hint : BitVec 2) (s : State) :
    Host.Outcome State Fault Refusal :=
  intLoad s qp r1 r3 (.reg r2) 1 .chkClr

/-- `ld1.c.clr r1=[r3],imm9` (M3, R385). -/
def execLd1CClrR1R3Imm9 (qp : PredIdx) (r1 r3 : GrIdx) (imm9 : BitVec 9) (_hint : BitVec 2) (s : State) :
    Host.Outcome State Fault Refusal :=
  intLoad s qp r1 r3 (.imm (sext imm9)) 1 .chkClr

/-- `ld2.c.clr r1=[r3]` (M1, R385). -/
def execLd2CClrR1R3 (qp : PredIdx) (r1 r3 : GrIdx) (_hint : BitVec 2) (s : State) :
    Host.Outcome State Fault Refusal :=
  intLoad s qp r1 r3 .none 2 .chkClr

/-- `ld2.c.clr r1=[r3],r2` (M2, R385). -/
def execLd2CClrR1R3R2 (qp : PredIdx) (r1 r3 r2 : GrIdx) (_hint : BitVec 2) (s : State) :
    Host.Outcome State Fault Refusal :=
  intLoad s qp r1 r3 (.reg r2) 2 .chkClr

/-- `ld2.c.clr r1=[r3],imm9` (M3, R385). -/
def execLd2CClrR1R3Imm9 (qp : PredIdx) (r1 r3 : GrIdx) (imm9 : BitVec 9) (_hint : BitVec 2) (s : State) :
    Host.Outcome State Fault Refusal :=
  intLoad s qp r1 r3 (.imm (sext imm9)) 2 .chkClr

/-- `ld4.c.clr r1=[r3]` (M1, R385). -/
def execLd4CClrR1R3 (qp : PredIdx) (r1 r3 : GrIdx) (_hint : BitVec 2) (s : State) :
    Host.Outcome State Fault Refusal :=
  intLoad s qp r1 r3 .none 4 .chkClr

/-- `ld4.c.clr r1=[r3],r2` (M2, R385). -/
def execLd4CClrR1R3R2 (qp : PredIdx) (r1 r3 r2 : GrIdx) (_hint : BitVec 2) (s : State) :
    Host.Outcome State Fault Refusal :=
  intLoad s qp r1 r3 (.reg r2) 4 .chkClr

/-- `ld4.c.clr r1=[r3],imm9` (M3, R385). -/
def execLd4CClrR1R3Imm9 (qp : PredIdx) (r1 r3 : GrIdx) (imm9 : BitVec 9) (_hint : BitVec 2) (s : State) :
    Host.Outcome State Fault Refusal :=
  intLoad s qp r1 r3 (.imm (sext imm9)) 4 .chkClr

/-- `ld8.c.clr r1=[r3]` (M1, R385). -/
def execLd8CClrR1R3 (qp : PredIdx) (r1 r3 : GrIdx) (_hint : BitVec 2) (s : State) :
    Host.Outcome State Fault Refusal :=
  intLoad s qp r1 r3 .none 8 .chkClr

/-- `ld8.c.clr r1=[r3],r2` (M2, R385). -/
def execLd8CClrR1R3R2 (qp : PredIdx) (r1 r3 r2 : GrIdx) (_hint : BitVec 2) (s : State) :
    Host.Outcome State Fault Refusal :=
  intLoad s qp r1 r3 (.reg r2) 8 .chkClr

/-- `ld8.c.clr r1=[r3],imm9` (M3, R385). -/
def execLd8CClrR1R3Imm9 (qp : PredIdx) (r1 r3 : GrIdx) (imm9 : BitVec 9) (_hint : BitVec 2) (s : State) :
    Host.Outcome State Fault Refusal :=
  intLoad s qp r1 r3 (.imm (sext imm9)) 8 .chkClr

/-- `ld1.c.nc r1=[r3]` (M1, R385). -/
def execLd1CNcR1R3 (qp : PredIdx) (r1 r3 : GrIdx) (_hint : BitVec 2) (s : State) : Host.Outcome State Fault Refusal :=
  intLoad s qp r1 r3 .none 1 .chkNc

/-- `ld1.c.nc r1=[r3],r2` (M2, R385). -/
def execLd1CNcR1R3R2 (qp : PredIdx) (r1 r3 r2 : GrIdx) (_hint : BitVec 2) (s : State) :
    Host.Outcome State Fault Refusal :=
  intLoad s qp r1 r3 (.reg r2) 1 .chkNc

/-- `ld1.c.nc r1=[r3],imm9` (M3, R385). -/
def execLd1CNcR1R3Imm9 (qp : PredIdx) (r1 r3 : GrIdx) (imm9 : BitVec 9) (_hint : BitVec 2) (s : State) :
    Host.Outcome State Fault Refusal :=
  intLoad s qp r1 r3 (.imm (sext imm9)) 1 .chkNc

/-- `ld2.c.nc r1=[r3]` (M1, R385). -/
def execLd2CNcR1R3 (qp : PredIdx) (r1 r3 : GrIdx) (_hint : BitVec 2) (s : State) : Host.Outcome State Fault Refusal :=
  intLoad s qp r1 r3 .none 2 .chkNc

/-- `ld2.c.nc r1=[r3],r2` (M2, R385). -/
def execLd2CNcR1R3R2 (qp : PredIdx) (r1 r3 r2 : GrIdx) (_hint : BitVec 2) (s : State) :
    Host.Outcome State Fault Refusal :=
  intLoad s qp r1 r3 (.reg r2) 2 .chkNc

/-- `ld2.c.nc r1=[r3],imm9` (M3, R385). -/
def execLd2CNcR1R3Imm9 (qp : PredIdx) (r1 r3 : GrIdx) (imm9 : BitVec 9) (_hint : BitVec 2) (s : State) :
    Host.Outcome State Fault Refusal :=
  intLoad s qp r1 r3 (.imm (sext imm9)) 2 .chkNc

/-- `ld4.c.nc r1=[r3]` (M1, R385). -/
def execLd4CNcR1R3 (qp : PredIdx) (r1 r3 : GrIdx) (_hint : BitVec 2) (s : State) : Host.Outcome State Fault Refusal :=
  intLoad s qp r1 r3 .none 4 .chkNc

/-- `ld4.c.nc r1=[r3],r2` (M2, R385). -/
def execLd4CNcR1R3R2 (qp : PredIdx) (r1 r3 r2 : GrIdx) (_hint : BitVec 2) (s : State) :
    Host.Outcome State Fault Refusal :=
  intLoad s qp r1 r3 (.reg r2) 4 .chkNc

/-- `ld4.c.nc r1=[r3],imm9` (M3, R385). -/
def execLd4CNcR1R3Imm9 (qp : PredIdx) (r1 r3 : GrIdx) (imm9 : BitVec 9) (_hint : BitVec 2) (s : State) :
    Host.Outcome State Fault Refusal :=
  intLoad s qp r1 r3 (.imm (sext imm9)) 4 .chkNc

/-- `ld8.c.nc r1=[r3]` (M1, R385). -/
def execLd8CNcR1R3 (qp : PredIdx) (r1 r3 : GrIdx) (_hint : BitVec 2) (s : State) : Host.Outcome State Fault Refusal :=
  intLoad s qp r1 r3 .none 8 .chkNc

/-- `ld8.c.nc r1=[r3],r2` (M2, R385). -/
def execLd8CNcR1R3R2 (qp : PredIdx) (r1 r3 r2 : GrIdx) (_hint : BitVec 2) (s : State) :
    Host.Outcome State Fault Refusal :=
  intLoad s qp r1 r3 (.reg r2) 8 .chkNc

/-- `ld8.c.nc r1=[r3],imm9` (M3, R385). -/
def execLd8CNcR1R3Imm9 (qp : PredIdx) (r1 r3 : GrIdx) (imm9 : BitVec 9) (_hint : BitVec 2) (s : State) :
    Host.Outcome State Fault Refusal :=
  intLoad s qp r1 r3 (.imm (sext imm9)) 8 .chkNc

/-- `ld1.c.clr.acq r1=[r3]` (M1, R385). -/
def execLd1CClrAcqR1R3 (qp : PredIdx) (r1 r3 : GrIdx) (_hint : BitVec 2) (s : State) :
    Host.Outcome State Fault Refusal :=
  intLoad s qp r1 r3 .none 1 .chkClrAcq

/-- `ld1.c.clr.acq r1=[r3],r2` (M2, R385). -/
def execLd1CClrAcqR1R3R2 (qp : PredIdx) (r1 r3 r2 : GrIdx) (_hint : BitVec 2) (s : State) :
    Host.Outcome State Fault Refusal :=
  intLoad s qp r1 r3 (.reg r2) 1 .chkClrAcq

/-- `ld1.c.clr.acq r1=[r3],imm9` (M3, R385). -/
def execLd1CClrAcqR1R3Imm9 (qp : PredIdx) (r1 r3 : GrIdx) (imm9 : BitVec 9) (_hint : BitVec 2) (s : State) :
    Host.Outcome State Fault Refusal :=
  intLoad s qp r1 r3 (.imm (sext imm9)) 1 .chkClrAcq

/-- `ld2.c.clr.acq r1=[r3]` (M1, R385). -/
def execLd2CClrAcqR1R3 (qp : PredIdx) (r1 r3 : GrIdx) (_hint : BitVec 2) (s : State) :
    Host.Outcome State Fault Refusal :=
  intLoad s qp r1 r3 .none 2 .chkClrAcq

/-- `ld2.c.clr.acq r1=[r3],r2` (M2, R385). -/
def execLd2CClrAcqR1R3R2 (qp : PredIdx) (r1 r3 r2 : GrIdx) (_hint : BitVec 2) (s : State) :
    Host.Outcome State Fault Refusal :=
  intLoad s qp r1 r3 (.reg r2) 2 .chkClrAcq

/-- `ld2.c.clr.acq r1=[r3],imm9` (M3, R385). -/
def execLd2CClrAcqR1R3Imm9 (qp : PredIdx) (r1 r3 : GrIdx) (imm9 : BitVec 9) (_hint : BitVec 2) (s : State) :
    Host.Outcome State Fault Refusal :=
  intLoad s qp r1 r3 (.imm (sext imm9)) 2 .chkClrAcq

/-- `ld4.c.clr.acq r1=[r3]` (M1, R385). -/
def execLd4CClrAcqR1R3 (qp : PredIdx) (r1 r3 : GrIdx) (_hint : BitVec 2) (s : State) :
    Host.Outcome State Fault Refusal :=
  intLoad s qp r1 r3 .none 4 .chkClrAcq

/-- `ld4.c.clr.acq r1=[r3],r2` (M2, R385). -/
def execLd4CClrAcqR1R3R2 (qp : PredIdx) (r1 r3 r2 : GrIdx) (_hint : BitVec 2) (s : State) :
    Host.Outcome State Fault Refusal :=
  intLoad s qp r1 r3 (.reg r2) 4 .chkClrAcq

/-- `ld4.c.clr.acq r1=[r3],imm9` (M3, R385). -/
def execLd4CClrAcqR1R3Imm9 (qp : PredIdx) (r1 r3 : GrIdx) (imm9 : BitVec 9) (_hint : BitVec 2) (s : State) :
    Host.Outcome State Fault Refusal :=
  intLoad s qp r1 r3 (.imm (sext imm9)) 4 .chkClrAcq

/-- `ld8.c.clr.acq r1=[r3]` (M1, R385). -/
def execLd8CClrAcqR1R3 (qp : PredIdx) (r1 r3 : GrIdx) (_hint : BitVec 2) (s : State) :
    Host.Outcome State Fault Refusal :=
  intLoad s qp r1 r3 .none 8 .chkClrAcq

/-- `ld8.c.clr.acq r1=[r3],r2` (M2, R385). -/
def execLd8CClrAcqR1R3R2 (qp : PredIdx) (r1 r3 r2 : GrIdx) (_hint : BitVec 2) (s : State) :
    Host.Outcome State Fault Refusal :=
  intLoad s qp r1 r3 (.reg r2) 8 .chkClrAcq

/-- `ld8.c.clr.acq r1=[r3],imm9` (M3, R385). -/
def execLd8CClrAcqR1R3Imm9 (qp : PredIdx) (r1 r3 : GrIdx) (imm9 : BitVec 9) (_hint : BitVec 2) (s : State) :
    Host.Outcome State Fault Refusal :=
  intLoad s qp r1 r3 (.imm (sext imm9)) 8 .chkClrAcq

/-- `ld8.fill r1=[r3]` (M1, R386). -/
def execLd8FillR1R3 (qp : PredIdx) (r1 r3 : GrIdx) (_hint : BitVec 2) (s : State) :
    Host.Outcome State Fault Refusal :=
  intFill s qp r1 r3 .none

/-- `ld8.fill r1=[r3],r2` (M2, R386). -/
def execLd8FillR1R3R2 (qp : PredIdx) (r1 r3 r2 : GrIdx) (_hint : BitVec 2) (s : State) :
    Host.Outcome State Fault Refusal :=
  intFill s qp r1 r3 (.reg r2)

/-- `ld8.fill r1=[r3],imm9` (M3, R386). -/
def execLd8FillR1R3Imm9 (qp : PredIdx) (r1 r3 : GrIdx) (imm9 : BitVec 9) (_hint : BitVec 2) (s : State) :
    Host.Outcome State Fault Refusal :=
  intFill s qp r1 r3 (.imm (sext imm9))

end Sys2Proof.Machine
end

