-- ==== Sys2Proof/Machine/RegStack.lean ====
section
/-! DEFINITION. Machine/RegStack.lean: `alloc`, `flushrs`, `loadrs`, formats M34 and M25 (`spec/43_m_type_system.md` R442 to
R445). -/

namespace Sys2Proof.Machine

/-! ### The instructions -/

/-- `alloc r1=ar.pfs,i,l,o,r` (M34, R444). -/
def execAllocR1ArPfsILOR (qp : PredIdx) (r1 : GrIdx) (sof sol : BitVec 7) (sor : BitVec 4) (s : State) :
    Host.Outcome State Fault Refusal :=
  allocBody s qp r1 sof sol sor

/-- `flushrs` (M25, R442). -/
def execFlushrs (qp : PredIdx) (s : State) : Host.Outcome State Fault Refusal :=
  flushrsBody s qp

/-- `loadrs` (M25, R443). -/
def execLoadrs (qp : PredIdx) (s : State) : Host.Outcome State Fault Refusal :=
  loadrsBody s qp

end Sys2Proof.Machine
end

