-- ==== Sys2Proof/Machine/Semaphore.lean ====
section
/-! DEFINITION. Machine/Semaphore.lean: semaphores and line prefetch, formats M13 to M17 (`spec/42_m_type_memory.md` R400 to R403, R412). -/

namespace Sys2Proof.Machine

/-! ### The instructions -/

/-- `lfetch [r3]` (M13, R412). -/
def execLfetchR3 (qp : PredIdx) (r3 : GrIdx) (_hint : BitVec 2) (s : State) : Host.Outcome State Fault Refusal :=
  lfetchPlain s qp r3 .none

/-- `lfetch [r3],r2` (M14, R412). -/
def execLfetchR3R2 (qp : PredIdx) (r3 r2 : GrIdx) (_hint : BitVec 2) (s : State) : Host.Outcome State Fault Refusal :=
  lfetchPlain s qp r3 (.reg r2)

/-- `lfetch [r3],imm9` (M15, R412). -/
def execLfetchR3Imm9 (qp : PredIdx) (r3 : GrIdx) (imm9 : BitVec 9) (_hint : BitVec 2) (s : State) :
    Host.Outcome State Fault Refusal :=
  lfetchPlain s qp r3 (.imm (sext imm9))

/-- `lfetch.excl [r3]` (M13, R412). -/
def execLfetchExclR3 (qp : PredIdx) (r3 : GrIdx) (_hint : BitVec 2) (s : State) : Host.Outcome State Fault Refusal :=
  lfetchPlain s qp r3 .none

/-- `lfetch.excl [r3],r2` (M14, R412). -/
def execLfetchExclR3R2 (qp : PredIdx) (r3 r2 : GrIdx) (_hint : BitVec 2) (s : State) :
    Host.Outcome State Fault Refusal :=
  lfetchPlain s qp r3 (.reg r2)

/-- `lfetch.excl [r3],imm9` (M15, R412). -/
def execLfetchExclR3Imm9 (qp : PredIdx) (r3 : GrIdx) (imm9 : BitVec 9) (_hint : BitVec 2) (s : State) :
    Host.Outcome State Fault Refusal :=
  lfetchPlain s qp r3 (.imm (sext imm9))

/-- `lfetch.fault [r3]` (M13, R412). -/
def execLfetchFaultR3 (qp : PredIdx) (r3 : GrIdx) (_hint : BitVec 2) (s : State) : Host.Outcome State Fault Refusal :=
  lfetchFault s qp r3 .none

/-- `lfetch.fault [r3],r2` (M14, R412). -/
def execLfetchFaultR3R2 (qp : PredIdx) (r3 r2 : GrIdx) (_hint : BitVec 2) (s : State) :
    Host.Outcome State Fault Refusal :=
  lfetchFault s qp r3 (.reg r2)

/-- `lfetch.fault [r3],imm9` (M15, R412). -/
def execLfetchFaultR3Imm9 (qp : PredIdx) (r3 : GrIdx) (imm9 : BitVec 9) (_hint : BitVec 2) (s : State) :
    Host.Outcome State Fault Refusal :=
  lfetchFault s qp r3 (.imm (sext imm9))

/-- `lfetch.fault.excl [r3]` (M13, R412). -/
def execLfetchFaultExclR3 (qp : PredIdx) (r3 : GrIdx) (_hint : BitVec 2) (s : State) :
    Host.Outcome State Fault Refusal :=
  lfetchFault s qp r3 .none

/-- `lfetch.fault.excl [r3],r2` (M14, R412). -/
def execLfetchFaultExclR3R2 (qp : PredIdx) (r3 r2 : GrIdx) (_hint : BitVec 2) (s : State) :
    Host.Outcome State Fault Refusal :=
  lfetchFault s qp r3 (.reg r2)

/-- `lfetch.fault.excl [r3],imm9` (M15, R412). -/
def execLfetchFaultExclR3Imm9 (qp : PredIdx) (r3 : GrIdx) (imm9 : BitVec 9) (_hint : BitVec 2) (s : State) :
    Host.Outcome State Fault Refusal :=
  lfetchFault s qp r3 (.imm (sext imm9))

/-- `cmpxchg1.acq r1=[r3],r2,ar.ccv` (M16, R400). -/
def execCmpxchg1AcqR1R3R2ArCcv (qp : PredIdx) (r1 r3 r2 : GrIdx) (_hint : BitVec 2) (s : State) :
    Host.Outcome State Fault Refusal :=
  cmpxchg s qp r1 r3 r2 1 false

/-- `cmpxchg1.rel r1=[r3],r2,ar.ccv` (M16, R400). -/
def execCmpxchg1RelR1R3R2ArCcv (qp : PredIdx) (r1 r3 r2 : GrIdx) (_hint : BitVec 2) (s : State) :
    Host.Outcome State Fault Refusal :=
  cmpxchg s qp r1 r3 r2 1 true

/-- `cmpxchg2.acq r1=[r3],r2,ar.ccv` (M16, R400). -/
def execCmpxchg2AcqR1R3R2ArCcv (qp : PredIdx) (r1 r3 r2 : GrIdx) (_hint : BitVec 2) (s : State) :
    Host.Outcome State Fault Refusal :=
  cmpxchg s qp r1 r3 r2 2 false

/-- `cmpxchg2.rel r1=[r3],r2,ar.ccv` (M16, R400). -/
def execCmpxchg2RelR1R3R2ArCcv (qp : PredIdx) (r1 r3 r2 : GrIdx) (_hint : BitVec 2) (s : State) :
    Host.Outcome State Fault Refusal :=
  cmpxchg s qp r1 r3 r2 2 true

/-- `cmpxchg4.acq r1=[r3],r2,ar.ccv` (M16, R400). -/
def execCmpxchg4AcqR1R3R2ArCcv (qp : PredIdx) (r1 r3 r2 : GrIdx) (_hint : BitVec 2) (s : State) :
    Host.Outcome State Fault Refusal :=
  cmpxchg s qp r1 r3 r2 4 false

/-- `cmpxchg4.rel r1=[r3],r2,ar.ccv` (M16, R400). -/
def execCmpxchg4RelR1R3R2ArCcv (qp : PredIdx) (r1 r3 r2 : GrIdx) (_hint : BitVec 2) (s : State) :
    Host.Outcome State Fault Refusal :=
  cmpxchg s qp r1 r3 r2 4 true

/-- `cmpxchg8.acq r1=[r3],r2,ar.ccv` (M16, R400). -/
def execCmpxchg8AcqR1R3R2ArCcv (qp : PredIdx) (r1 r3 r2 : GrIdx) (_hint : BitVec 2) (s : State) :
    Host.Outcome State Fault Refusal :=
  cmpxchg s qp r1 r3 r2 8 false

/-- `cmpxchg8.rel r1=[r3],r2,ar.ccv` (M16, R400). -/
def execCmpxchg8RelR1R3R2ArCcv (qp : PredIdx) (r1 r3 r2 : GrIdx) (_hint : BitVec 2) (s : State) :
    Host.Outcome State Fault Refusal :=
  cmpxchg s qp r1 r3 r2 8 true

/-- `xchg1 r1=[r3],r2` (M16, R401). -/
def execXchg1R1R3R2 (qp : PredIdx) (r1 r3 r2 : GrIdx) (_hint : BitVec 2) (s : State) :
    Host.Outcome State Fault Refusal :=
  xchg s qp r1 r3 r2 1

/-- `xchg2 r1=[r3],r2` (M16, R401). -/
def execXchg2R1R3R2 (qp : PredIdx) (r1 r3 r2 : GrIdx) (_hint : BitVec 2) (s : State) :
    Host.Outcome State Fault Refusal :=
  xchg s qp r1 r3 r2 2

/-- `xchg4 r1=[r3],r2` (M16, R401). -/
def execXchg4R1R3R2 (qp : PredIdx) (r1 r3 r2 : GrIdx) (_hint : BitVec 2) (s : State) :
    Host.Outcome State Fault Refusal :=
  xchg s qp r1 r3 r2 4

/-- `xchg8 r1=[r3],r2` (M16, R401). -/
def execXchg8R1R3R2 (qp : PredIdx) (r1 r3 r2 : GrIdx) (_hint : BitVec 2) (s : State) :
    Host.Outcome State Fault Refusal :=
  xchg s qp r1 r3 r2 8

/-- `fetchadd4.acq r1=[r3],inc3` (M17, R402). -/
def execFetchadd4AcqR1R3Inc3 (qp : PredIdx) (r1 r3 : GrIdx) (inc3 : FetchInc) (_hint : BitVec 2) (s : State) :
    Host.Outcome State Fault Refusal :=
  fetchadd s qp r1 r3 inc3 4 false

/-- `fetchadd4.rel r1=[r3],inc3` (M17, R402). -/
def execFetchadd4RelR1R3Inc3 (qp : PredIdx) (r1 r3 : GrIdx) (inc3 : FetchInc) (_hint : BitVec 2) (s : State) :
    Host.Outcome State Fault Refusal :=
  fetchadd s qp r1 r3 inc3 4 true

/-- `fetchadd8.acq r1=[r3],inc3` (M17, R402). -/
def execFetchadd8AcqR1R3Inc3 (qp : PredIdx) (r1 r3 : GrIdx) (inc3 : FetchInc) (_hint : BitVec 2) (s : State) :
    Host.Outcome State Fault Refusal :=
  fetchadd s qp r1 r3 inc3 8 false

/-- `fetchadd8.rel r1=[r3],inc3` (M17, R402). -/
def execFetchadd8RelR1R3Inc3 (qp : PredIdx) (r1 r3 : GrIdx) (inc3 : FetchInc) (_hint : BitVec 2) (s : State) :
    Host.Outcome State Fault Refusal :=
  fetchadd s qp r1 r3 inc3 8 true

end Sys2Proof.Machine
end

