-- ==== Sys2Proof/Machine/Store.lean ====
section
/-! DEFINITION. Machine/Store.lean: integer stores, formats M4 and M5 (`spec/42_m_type_memory.md` R388 to R390, R425). -/

namespace Sys2Proof.Machine

/-! ### The instructions -/

/-- `st1 [r3]=r2` (M4, R388). -/
def execSt1R3R2 (qp : PredIdx) (r3 r2 : GrIdx) (_hint : BitVec 2) (s : State) : Host.Outcome State Fault Refusal :=
  intStore s qp r3 r2 .none 1 false

/-- `st1 [r3]=r2,imm9` (M5, R388). -/
def execSt1R3R2Imm9 (qp : PredIdx) (r3 r2 : GrIdx) (imm9 : BitVec 9) (_hint : BitVec 2) (s : State) :
    Host.Outcome State Fault Refusal :=
  intStore s qp r3 r2 (.imm (sext imm9)) 1 false

/-- `st2 [r3]=r2` (M4, R388). -/
def execSt2R3R2 (qp : PredIdx) (r3 r2 : GrIdx) (_hint : BitVec 2) (s : State) : Host.Outcome State Fault Refusal :=
  intStore s qp r3 r2 .none 2 false

/-- `st2 [r3]=r2,imm9` (M5, R388). -/
def execSt2R3R2Imm9 (qp : PredIdx) (r3 r2 : GrIdx) (imm9 : BitVec 9) (_hint : BitVec 2) (s : State) :
    Host.Outcome State Fault Refusal :=
  intStore s qp r3 r2 (.imm (sext imm9)) 2 false

/-- `st4 [r3]=r2` (M4, R388). -/
def execSt4R3R2 (qp : PredIdx) (r3 r2 : GrIdx) (_hint : BitVec 2) (s : State) : Host.Outcome State Fault Refusal :=
  intStore s qp r3 r2 .none 4 false

/-- `st4 [r3]=r2,imm9` (M5, R388). -/
def execSt4R3R2Imm9 (qp : PredIdx) (r3 r2 : GrIdx) (imm9 : BitVec 9) (_hint : BitVec 2) (s : State) :
    Host.Outcome State Fault Refusal :=
  intStore s qp r3 r2 (.imm (sext imm9)) 4 false

/-- `st8 [r3]=r2` (M4, R388). -/
def execSt8R3R2 (qp : PredIdx) (r3 r2 : GrIdx) (_hint : BitVec 2) (s : State) : Host.Outcome State Fault Refusal :=
  intStore s qp r3 r2 .none 8 false

/-- `st8 [r3]=r2,imm9` (M5, R388). -/
def execSt8R3R2Imm9 (qp : PredIdx) (r3 r2 : GrIdx) (imm9 : BitVec 9) (_hint : BitVec 2) (s : State) :
    Host.Outcome State Fault Refusal :=
  intStore s qp r3 r2 (.imm (sext imm9)) 8 false

/-- `st1.rel [r3]=r2` (M4, R389). -/
def execSt1RelR3R2 (qp : PredIdx) (r3 r2 : GrIdx) (_hint : BitVec 2) (s : State) : Host.Outcome State Fault Refusal :=
  intStore s qp r3 r2 .none 1 true

/-- `st1.rel [r3]=r2,imm9` (M5, R389). -/
def execSt1RelR3R2Imm9 (qp : PredIdx) (r3 r2 : GrIdx) (imm9 : BitVec 9) (_hint : BitVec 2) (s : State) :
    Host.Outcome State Fault Refusal :=
  intStore s qp r3 r2 (.imm (sext imm9)) 1 true

/-- `st2.rel [r3]=r2` (M4, R389). -/
def execSt2RelR3R2 (qp : PredIdx) (r3 r2 : GrIdx) (_hint : BitVec 2) (s : State) : Host.Outcome State Fault Refusal :=
  intStore s qp r3 r2 .none 2 true

/-- `st2.rel [r3]=r2,imm9` (M5, R389). -/
def execSt2RelR3R2Imm9 (qp : PredIdx) (r3 r2 : GrIdx) (imm9 : BitVec 9) (_hint : BitVec 2) (s : State) :
    Host.Outcome State Fault Refusal :=
  intStore s qp r3 r2 (.imm (sext imm9)) 2 true

/-- `st4.rel [r3]=r2` (M4, R389). -/
def execSt4RelR3R2 (qp : PredIdx) (r3 r2 : GrIdx) (_hint : BitVec 2) (s : State) : Host.Outcome State Fault Refusal :=
  intStore s qp r3 r2 .none 4 true

/-- `st4.rel [r3]=r2,imm9` (M5, R389). -/
def execSt4RelR3R2Imm9 (qp : PredIdx) (r3 r2 : GrIdx) (imm9 : BitVec 9) (_hint : BitVec 2) (s : State) :
    Host.Outcome State Fault Refusal :=
  intStore s qp r3 r2 (.imm (sext imm9)) 4 true

/-- `st8.rel [r3]=r2` (M4, R389). -/
def execSt8RelR3R2 (qp : PredIdx) (r3 r2 : GrIdx) (_hint : BitVec 2) (s : State) : Host.Outcome State Fault Refusal :=
  intStore s qp r3 r2 .none 8 true

/-- `st8.rel [r3]=r2,imm9` (M5, R389). -/
def execSt8RelR3R2Imm9 (qp : PredIdx) (r3 r2 : GrIdx) (imm9 : BitVec 9) (_hint : BitVec 2) (s : State) :
    Host.Outcome State Fault Refusal :=
  intStore s qp r3 r2 (.imm (sext imm9)) 8 true

/-- `st8.spill [r3]=r2` (M4, R390). -/
def execSt8SpillR3R2 (qp : PredIdx) (r3 r2 : GrIdx) (_hint : BitVec 2) (s : State) :
    Host.Outcome State Fault Refusal :=
  intSpill s qp r3 r2 .none

/-- `st8.spill [r3]=r2,imm9` (M5, R390). -/
def execSt8SpillR3R2Imm9 (qp : PredIdx) (r3 r2 : GrIdx) (imm9 : BitVec 9) (_hint : BitVec 2) (s : State) :
    Host.Outcome State Fault Refusal :=
  intSpill s qp r3 r2 (.imm (sext imm9))

end Sys2Proof.Machine
end

