-- ==== Sys2Proof/Machine/Tlb.lean ====
section
/-! DEFINITION. Machine/Tlb.lean: translation inserts, purges and queries, cache flush, fences and serialization, formats M24,
M28, M38 to M42, M45, M46 (`spec/43_m_type_system.md` R447 to R455, R485 to R488, `spec/21_memory_hierarchy.md` R158). -/

namespace Sys2Proof.Machine

/-! ### Fences and flushes (R447, R450 to R455) -/

/-- `mf`, `fwb`: the write-coalescing buffer is flushed (R122, R450, R452). -/
def fenceInstr (s : State) (qp : PredIdx) : Host.Outcome State Fault Refusal := run s qp (.ok ()) (.ok { s := s.wcbFlush })

/-- `mf.a`: accesses are already performed in order. It does what `mf` does (R451), or leaves the write-coalescing buffer alone (R122):
which of the two is free (log 44). -/
def acceptInstr (s : State) (qp : PredIdx) : Host.Outcome State Fault Refusal :=
  run s qp (.ok ()) (.ok { s := if !s.wcb.isEmpty && Config.mfAFlushes then s.wcbFlush else s })

/-- `sync.i` (R453). -/
def syncI (s : State) (qp : PredIdx) : Host.Outcome State Fault Refusal := run s qp (.ok ()) (.ok { s := s.staleSync })

/-- Data references see the user mask that PSR now holds (R454). -/
def State.serializeData (s : State) : State := { s with umGroup := s.psr.extractLsb' 0 6 }

/-- `srlz.d`: later data references see what was written to PSR, in its own group too; writes of the other system registers are
visible at once in this model (R454, D37). -/
def srlzD (s : State) (qp : PredIdx) : Host.Outcome State Fault Refusal := run s qp (.ok ()) (.ok { s := s.serializeData })

/-- `srlz.i`: what `srlz.d` does, and instruction serialization (R455). -/
def srlzI (s : State) (qp : PredIdx) : Host.Outcome State Fault Refusal :=
  run s qp (.ok ()) (.ok { s := (s.serializeData.serializeInstr).emit .serialize })

/-- The line that `fc` flushes, for the bus: its BIL transaction is due (R870; log 30). -/
def State.noteBil (s : State) : State := { s with bilDue := s.bilDue + 1 }

/-- `fc` (R447, R141): the address is translated as a read; a hit in the WCB flushes it; the line's old bytes are marked, and its
invalidation goes out on the bus (R870). -/
def fcInstr (s : State) (qp : PredIdx) (r3 : GrIdx) : Host.Outcome State Fault Refusal :=
  run s qp (.ok ())
    ((s.readGr r3).bind fun base =>
      if base.nat then .error (natConsumptionNa 1 true false)
      else
        (s.access { va := base.val, n := 1, cls := .reference, r := true, na := some 1, cpl := s.cpl }).bind fun p =>
          let t := if s.wcb.any (fun e => e.line = p.1 / 128) then s.wcbFlush else s
          .ok { s := (t.staleFc p.1).noteBil })

/-! ### Purges (R448, R449) -/

/-- Read a register operand of a purge or an insert; a NaT bit is consumed by a non-access instruction (R573, R576). -/
def State.consumeNa (s : State) (r : GrIdx) : Except Exc Word :=
  (s.readGr r).bind fun v => if v.nat then .error (natConsumptionNa 0 false false) else .ok v.val

/-- A translation overlaps the block of size 2^`ps` at `off` in region `rid` (R449). -/
def TlbEntry.overlaps (e : TlbEntry) (rid : BitVec 24) (off : BitVec 61) (ps : BitVec 6) : Bool :=
  e.rid = rid && (e.va >>> (max e.ps.toNat ps.toNat)) = (off >>> (max e.ps.toNat ps.toNat))

/-- Remove the overlapping entries of a translation cache. -/
def purgeCache (l : List TlbEntry) (rid : BitVec 24) (off : BitVec 61) (ps : BitVec 6) : List TlbEntry :=
  l.filter (fun e => !e.overlaps rid off ps)

/-- Empty the slots of overlapping translation registers. -/
def purgeRegs (v : Vector (Option TlbEntry) 64) (rid : BitVec 24) (off : BitVec 61) (ps : BitVec 6) :
    Vector (Option TlbEntry) 64 :=
  v.map (fun o => if o.any (fun e => e.overlaps rid off ps) then none else o)

/-- Which structures a purge clears. -/
inductive PurgeKind where
  | ptcL | ptcG | ptcGa | ptrD | ptrI
  deriving DecidableEq, Repr

/-- The instruction side of a purge: translation cache and first level lose what overlaps (R158). -/
def State.purgeItc (s : State) (rid : BitVec 24) (off : BitVec 61) (ps : BitVec 6) : State :=
  { s with itcache := purgeCache s.itcache rid off ps, l1itlb := purgeCache s.l1itlb rid off ps }

/-- The first-level data TLB keeps the segments of translations that the second level holds: "the L1 DTLB is a strict subset of the L2
DTLB" (R155). -/
def State.l1dBacked (s : State) : State :=
  { s with l1dtlb := s.l1dtlb.filter (fun g => (s.translations false).any (fun e => e.covers g.rid g.va)) }

/-- The data side of a purge: the translation cache loses what overlaps, the first level that and what is in the second level no more
(R155, R158). -/
def State.purgeDtc (s : State) (rid : BitVec 24) (off : BitVec 61) (ps : BitVec 6) : State :=
  State.l1dBacked { s with dtcache := purgeCache s.dtcache rid off ps, l1dtlb := purgeCache s.l1dtlb rid off ps }

/-- The effect of a purge (R449); `ptc.g` and `ptc.ga` release, which flushes the WCB (R122). Exactly the overlapping entries go,
where R158 lets a part remove more (DESIGN CHOICE, log 33). -/
def State.purge (s : State) (k : PurgeKind) (rid : BitVec 24) (off : BitVec 61) (ps : BitVec 6) : State :=
  match k with
  | .ptcL => (s.purgeItc rid off ps).purgeDtc rid off ps
  | .ptcG | .ptcGa => State.wcbFlush ((s.purgeItc rid off ps).purgeDtc rid off ps)
  | .ptrD => State.purgeDtc { s with dtr := purgeRegs s.dtr rid off ps } rid off ps
  | .ptrI => { s.purgeItc rid off ps with itr := purgeRegs s.itr rid off ps }

/-- The operands of a purge are inside the frame and the privilege is there (R490). -/
def State.purgeOk (s : State) (r3 r2 : GrIdx) : Except Exc Unit :=
  (s.sourceGr r3).bind fun _ => (s.sourceGr r2).bind fun _ => s.privileged

/-- `ptc.l`, `ptc.g`, `ptc.ga`, `ptr.d`, `ptr.i` (R449). -/
def purgeInstr (s : State) (qp : PredIdx) (k : PurgeKind) (r3 r2 : GrIdx) : Host.Outcome State Fault Refusal :=
  run s qp (.ok ())
    ((s.purgeOk r3 r2).bind fun _ => (s.consumeNa r3).bind fun a => (s.consumeNa r2).bind fun v =>
      let ps : BitVec 6 := v.extractLsb' 2 6
      (require (pageSizeOk ps) reservedField).bind fun _ =>
        .ok { s := s.purge k (rrRid (s.regionReg a)) (a.extractLsb' 0 61) ps })

/-- The effect of `ptc.e`: every translation cache entry of all levels goes, the registers stay (R158, R448). -/
def State.purgeAll (s : State) : State := { s with itcache := [], dtcache := [], l1itlb := [], l1dtlb := [] }

/-- `ptc.e` (R448). -/
def ptcE (s : State) (qp : PredIdx) (r3 : GrIdx) : Host.Outcome State Fault Refusal :=
  run s qp (.ok ())
    ((s.sourceGr r3).bind fun _ => s.privileged.bind fun _ => (s.consumeNa r3).bind fun _ => .ok { s := s.purgeAll })

/-! ### Inserts (R485) -/

/-- The memory attribute codes (R152). -/
def memAttr (ma : BitVec 3) : Option MemAttr :=
  match ma.toNat with
  | 0 => some .wb
  | 4 => some .uc
  | 5 => some .uce
  | 6 => some .wc
  | 7 => some .natPage
  | _ => none

/-- The translation of virtual address `va` that the words `v` and `itir` describe in the layout of an insert; `none` for a
reserved attribute, page size or bit (R485). Of the bits that R485 does not name, 1, 50 and 51 are refused and 63:53 ignored
(DESIGN CHOICE, log 33). -/
def State.makeEntry (s : State) (va itir v : Word) : Option TlbEntry :=
  let ps : BitVec 6 := itir.extractLsb' 2 6
  let off : BitVec 61 := va.extractLsb' 0 61
  if !pageSizeOk ps || v &&& 0x000C000000000002 != 0 then none
  else (memAttr (v.extractLsb' 2 3)).map fun ma =>
    { rid := rrRid (s.regionReg va), va := off &&& ~~~ pageMask ps, ps,
      pa := (v.extractLsb' 12 38 ++ 0#12) &&& ~~~ ((pageMask ps).setWidth 50), p := v.getLsbD 0, ma, a := v.getLsbD 5,
      d := v.getLsbD 6, pl := v.extractLsb' 7 2, ar := v.extractLsb' 9 3, key := itir.extractLsb' 8 24,
      ed := v.getLsbD 52 }

/-- The translation an insert names by GR[r2], CR[ITIR] and CR[IFA] (R485). -/
def State.insertEntry (s : State) (v : Word) : Option TlbEntry := s.makeEntry s.cr.ifa s.cr.itir v

/-- The room a translation cache has beside the registers in use (R156). -/
def cacheRoom (regs : Vector (Option TlbEntry) 64) : Nat := Config.tlbSize - (regs.toList.filterMap id).length

/-- Insert into a translation cache: overlapping entries go first, the new one is the most recently used, and where there is no room
the least recently used one goes (R154, R156, R485). -/
def insertCache (l : List TlbEntry) (regs : Vector (Option TlbEntry) 64) (e : TlbEntry) : List TlbEntry :=
  e :: (purgeCache l e.rid e.va e.ps).take (cacheRoom regs - 1)

/-- Put a translation into the cache of one side; the first level of the side loses what overlaps it (R485, R158), that of the data side
also what is in the second level no more (R155). -/
def State.insertTc (s : State) (instr : Bool) (e : TlbEntry) : State :=
  if instr then
    { s with itcache := insertCache s.itcache s.itr e, l1itlb := purgeCache s.l1itlb e.rid e.va e.ps }
  else State.l1dBacked { s with dtcache := insertCache s.dtcache s.dtr e, l1dtlb := purgeCache s.l1dtlb e.rid e.va e.ps }

/-- The new entry overlaps a translation register: a Machine Check (R485). -/
def hitsReg (regs : Vector (Option TlbEntry) 64) (e : TlbEntry) : Bool :=
  regs.toList.any (fun o => o.any (fun f => f.overlaps e.rid e.va e.ps))

/-- The checks of an insert (R485, R490): `PSR.ic` = 0, privilege, operands, reserved values. -/
def State.insertChecks (s : State) (ic : Bool) (r2 : GrIdx) (source : Except Exc Unit) (slot : Except Exc Nat) :
    Except Exc (TlbEntry × Nat) :=
  (require (!ic) illegalOp).bind fun _ => source.bind fun _ => (s.sourceGr r2).bind fun _ => s.privileged.bind fun _ =>
  slot.bind fun i => (s.consumeNa r2).bind fun v =>
  match s.insertEntry v with
  | none => .error reservedField
  | some e => if i < 64 then .ok (e, i) else .error reservedField

/-- `itc.d`, `itc.i` (R485). -/
def itcInstr (s : State) (qp : PredIdx) (instr : Bool) (r2 : GrIdx) : Host.Outcome State Fault Refusal :=
  run s qp (.ok ())
    ((s.insertChecks s.psrIc r2 (.ok ()) (.ok 0)).bind fun p =>
      if hitsReg (if instr then s.itr else s.dtr) p.1 then .error (.fault .machineCheckOverlap)
      else .ok { s := s.insertTc instr p.1 })

/-- The first-level instruction TLB `l` without what overlaps the translation `e`, new in register `i`, and without what overlaps the
translation that was in it. R151 does not say what becomes of the segments of a replaced translation (DESIGN CHOICE, log 37). -/
def l1After (l : List TlbEntry) (regs : Vector (Option TlbEntry) 64) (i : Nat) (e : TlbEntry) : List TlbEntry :=
  let l' := purgeCache l e.rid e.va e.ps
  match regs.toList.getD i none with
  | some o => purgeCache l' o.rid o.va o.ps
  | none => l'

/-- Put a translation into a register and cut the cache to its room, the least recently used entries going (R154, R156); the first-level data
TLB stays a subset of the second level (R155). -/
def State.insertReg (s : State) (instr : Bool) (i : Nat) (e : TlbEntry) : State :=
  if instr then
    let regs := s.itr.setIfInBounds i (some e)
    { s with itr := regs, itcache := (purgeCache s.itcache e.rid e.va e.ps).take (cacheRoom regs),
             l1itlb := l1After s.l1itlb s.itr i e }
  else
    let regs := s.dtr.setIfInBounds i (some e)
    State.l1dBacked { s with dtr := regs, dtcache := (purgeCache s.dtcache e.rid e.va e.ps).take (cacheRoom regs),
                             l1dtlb := purgeCache s.l1dtlb e.rid e.va e.ps }

/-- `itr.d`, `itr.i` (R485). -/
def itrInstr (s : State) (qp : PredIdx) (instr : Bool) (r3 r2 : GrIdx) : Host.Outcome State Fault Refusal :=
  run s qp (.ok ())
    ((s.insertChecks s.psrIc r2 (s.sourceGr r3) ((s.consumeNa r3).map fun a => (a.extractLsb' 0 8).toNat)).bind fun p =>
      if hitsReg (if instr then s.itr else s.dtr) p.1 then .error (.fault .machineCheckOverlap)
      else .ok { s := s.insertReg instr p.2 p.1 })

/-! ### Queries (R486 to R488) -/

/-- The privilege a probe checks: the less privileged of PSR.cpl and the operand (R486). -/
def State.probeLevel (s : State) (pl : BitVec 2) : BitVec 2 := if s.cpl < pl then pl else s.cpl

/-- The translation a non-access instruction finds; a miss raises the data TLB faults (R486, R487, R568). -/
def State.findEntry (s : State) (acc : Acc) : Except Exc TlbEntry :=
  match s.lookup false acc.va with
  | [e] => .ok e
  | [] => .error (s.raise acc (s.missFault acc))
  | _ => .error (s.raise acc .multipleHit)

/-- A non-access reference with ISR.code `k` (R576). -/
def State.naAcc (s : State) (va : Word) (k : BitVec 16) : Acc :=
  { va, n := 1, cls := .reference, na := some k, cpl := s.cpl }

/-- `probe.r`, `probe.w` (R486): do the access rights permit the access? (log 35) -/
def probeInstr (s : State) (qp : PredIdx) (r1 r3 : GrIdx) (write : Bool) (source : Except Exc Unit) (pl : Except Exc (BitVec 2)) :
    Host.Outcome State Fault Refusal :=
  run s qp (s.targetGr r1)
    ((s.readGr r3).bind fun base => source.bind fun _ => pl.bind fun l =>
      if base.nat then .error (natConsumptionNa 2 false false)
      else (s.findEntry (s.naAcc base.val 2)).bind fun e =>
        let ok := rightsAllow e.ar e.pl (s.probeLevel l) (!write) write false
        .ok { s := s.setGr r1 (GReg.ofWord (if ok then 1 else 0)) .alu })

/-- The privilege level operand of the register form, GR[r2]{1:0} (R486). -/
def State.probeOperand (s : State) (r2 : GrIdx) : Except Exc (BitVec 2) :=
  (s.readGr r2).bind fun v => if v.nat then .error (natConsumptionNa 2 false false) else .ok (v.val.extractLsb' 0 2)

/-- `probe.fault`: the faults the access would raise (R486; log 35). -/
def probeFault (s : State) (qp : PredIdx) (r3 : GrIdx) (r w : Bool) (pl : BitVec 2) :
    Host.Outcome State Fault Refusal :=
  run s qp (.ok ())
    ((s.readGr r3).bind fun base =>
      let acc : Acc := { va := base.val, n := 1, cls := .reference, r, w, na := some 5, cpl := s.probeLevel pl }
      if base.nat then .error (natConsumptionNa 5 r w)
      else match (s.translateVirtual acc).bind fun p => s.checkData acc p.2 with
        | .ok _ => .ok { s := s }
        | .error f => .error (s.raise acc f))

/-- `tpa` (R487): the physical address; translation faults as a non-access. -/
def tpaInstr (s : State) (qp : PredIdx) (r1 r3 : GrIdx) : Host.Outcome State Fault Refusal :=
  run s qp (s.targetGr r1)
    ((s.readGr r3).bind fun base => s.privileged.bind fun _ =>
      if base.nat then .error (natConsumptionNa 0 false false)
      else
        let acc := s.naAcc base.val 0
        (s.findEntry acc).bind fun e =>
          if !e.p then .error (s.raise acc (.pageNotPresent e))
          else if e.ma = .natPage then .error (s.raise acc .natPage)
          else .ok { s := s.setGr r1 (GReg.ofWord (BitVec.ofNat 64 (e.phys base.val))) .alu })

/-- `tak` (R487): the key of the translation in bits 31:8, or 1. -/
def takInstr (s : State) (qp : PredIdx) (r1 r3 : GrIdx) : Host.Outcome State Fault Refusal :=
  run s qp (s.targetGr r1)
    ((s.readGr r3).bind fun base => s.privileged.bind fun _ =>
      if base.nat then .error (natConsumptionNa 3 false false)
      else
        (match s.lookup false base.val with
          | [] => Except.ok (1 : Word)
          | [e] => .ok (if e.p then zext (e.key ++ 0#8) else 1)
          | _ => .error (Exc.fault .machineCheckMultipleHit)).map fun v =>
        { s := s.setGr r1 (GReg.ofWord v) .alu })

/-- `thash`, `ttag` (R488): opaque functions; NaT propagates. -/
def hashInstr (s : State) (qp : PredIdx) (r1 r3 : GrIdx) (f : Word → Word) : Host.Outcome State Fault Refusal :=
  run s qp (s.targetGr r1)
    ((s.readGr r3).bind fun a => .ok { s := s.setGr r1 { val := f a.val, nat := a.nat } .alu })

/-! ### The instructions -/

/-- `fc r3` (M28, R447). -/
def execFcR3 (qp : PredIdx) (r3 : GrIdx) (s : State) : Host.Outcome State Fault Refusal :=
  fcInstr s qp r3

/-- `ptc.e r3` (M28, R448). -/
def execPtcER3 (qp : PredIdx) (r3 : GrIdx) (s : State) : Host.Outcome State Fault Refusal :=
  ptcE s qp r3

/-- `ptc.l r3,r2` (M45, R449). -/
def execPtcLR3R2 (qp : PredIdx) (r3 r2 : GrIdx) (s : State) : Host.Outcome State Fault Refusal :=
  purgeInstr s qp .ptcL r3 r2

/-- `ptc.g r3,r2` (M45, R449). -/
def execPtcGR3R2 (qp : PredIdx) (r3 r2 : GrIdx) (s : State) : Host.Outcome State Fault Refusal :=
  purgeInstr s qp .ptcG r3 r2

/-- `ptc.ga r3,r2` (M45, R449). -/
def execPtcGaR3R2 (qp : PredIdx) (r3 r2 : GrIdx) (s : State) : Host.Outcome State Fault Refusal :=
  purgeInstr s qp .ptcGa r3 r2

/-- `ptr.d r3,r2` (M45, R449). -/
def execPtrDR3R2 (qp : PredIdx) (r3 r2 : GrIdx) (s : State) : Host.Outcome State Fault Refusal :=
  purgeInstr s qp .ptrD r3 r2

/-- `ptr.i r3,r2` (M45, R449). -/
def execPtrIR3R2 (qp : PredIdx) (r3 r2 : GrIdx) (s : State) : Host.Outcome State Fault Refusal :=
  purgeInstr s qp .ptrI r3 r2

/-- `mf` (M24, R450). -/
def execMf (qp : PredIdx) (s : State) : Host.Outcome State Fault Refusal :=
  fenceInstr s qp

/-- `mf.a` (M24, R451). -/
def execMfA (qp : PredIdx) (s : State) : Host.Outcome State Fault Refusal :=
  acceptInstr s qp

/-- `fwb` (M24, R452). -/
def execFwb (qp : PredIdx) (s : State) : Host.Outcome State Fault Refusal :=
  fenceInstr s qp

/-- `sync.i` (M24, R453). -/
def execSyncI (qp : PredIdx) (s : State) : Host.Outcome State Fault Refusal :=
  syncI s qp

/-- `srlz.d` (M24, R454). -/
def execSrlzD (qp : PredIdx) (s : State) : Host.Outcome State Fault Refusal :=
  srlzD s qp

/-- `srlz.i` (M24, R455). -/
def execSrlzI (qp : PredIdx) (s : State) : Host.Outcome State Fault Refusal :=
  srlzI s qp

/-- `itc.d r2` (M41, R485). -/
def execItcDR2 (qp : PredIdx) (r2 : GrIdx) (s : State) : Host.Outcome State Fault Refusal :=
  itcInstr s qp false r2

/-- `itc.i r2` (M41, R485). -/
def execItcIR2 (qp : PredIdx) (r2 : GrIdx) (s : State) : Host.Outcome State Fault Refusal :=
  itcInstr s qp true r2

/-- `itr.d dtr[r3]=r2` (M42, R485). -/
def execItrDDtrR3R2 (qp : PredIdx) (r3 r2 : GrIdx) (s : State) : Host.Outcome State Fault Refusal :=
  itrInstr s qp false r3 r2

/-- `itr.i itr[r3]=r2` (M42, R485). -/
def execItrIItrR3R2 (qp : PredIdx) (r3 r2 : GrIdx) (s : State) : Host.Outcome State Fault Refusal :=
  itrInstr s qp true r3 r2

/-- `probe.r r1=r3,r2` (M38, R486). -/
def execProbeRR1R3R2 (qp : PredIdx) (r1 r3 r2 : GrIdx) (s : State) : Host.Outcome State Fault Refusal :=
  probeInstr s qp r1 r3 false (s.sourceGr r2) (s.probeOperand r2)

/-- `probe.r r1=r3,imm2` (M39, R486). -/
def execProbeRR1R3Imm2 (qp : PredIdx) (r1 r3 : GrIdx) (imm2 : BitVec 2) (s : State) :
    Host.Outcome State Fault Refusal :=
  probeInstr s qp r1 r3 false (.ok ()) (.ok imm2)

/-- `probe.w r1=r3,r2` (M38, R486). -/
def execProbeWR1R3R2 (qp : PredIdx) (r1 r3 r2 : GrIdx) (s : State) : Host.Outcome State Fault Refusal :=
  probeInstr s qp r1 r3 true (s.sourceGr r2) (s.probeOperand r2)

/-- `probe.w r1=r3,imm2` (M39, R486). -/
def execProbeWR1R3Imm2 (qp : PredIdx) (r1 r3 : GrIdx) (imm2 : BitVec 2) (s : State) :
    Host.Outcome State Fault Refusal :=
  probeInstr s qp r1 r3 true (.ok ()) (.ok imm2)

/-- `probe.r.fault r3,imm2` (M40, R486). -/
def execProbeRFaultR3Imm2 (qp : PredIdx) (r3 : GrIdx) (imm2 : BitVec 2) (s : State) :
    Host.Outcome State Fault Refusal :=
  probeFault s qp r3 true false imm2

/-- `probe.w.fault r3,imm2` (M40, R486). -/
def execProbeWFaultR3Imm2 (qp : PredIdx) (r3 : GrIdx) (imm2 : BitVec 2) (s : State) :
    Host.Outcome State Fault Refusal :=
  probeFault s qp r3 false true imm2

/-- `probe.rw.fault r3,imm2` (M40, R486). -/
def execProbeRwFaultR3Imm2 (qp : PredIdx) (r3 : GrIdx) (imm2 : BitVec 2) (s : State) :
    Host.Outcome State Fault Refusal :=
  probeFault s qp r3 true true imm2

/-- `tpa r1=r3` (M46, R487). -/
def execTpaR1R3 (qp : PredIdx) (r1 r3 : GrIdx) (s : State) : Host.Outcome State Fault Refusal :=
  tpaInstr s qp r1 r3

/-- `tak r1=r3` (M46, R487). -/
def execTakR1R3 (qp : PredIdx) (r1 r3 : GrIdx) (s : State) : Host.Outcome State Fault Refusal :=
  takInstr s qp r1 r3

/-- `thash r1=r3` (M46, R488). -/
def execThashR1R3 (qp : PredIdx) (r1 r3 : GrIdx) (s : State) : Host.Outcome State Fault Refusal :=
  hashInstr s qp r1 r3 s.vhptAddr

/-- `ttag r1=r3` (M46, R488). -/
def execTtagR1R3 (qp : PredIdx) (r1 r3 : GrIdx) (s : State) : Host.Outcome State Fault Refusal :=
  hashInstr s qp r1 r3 (fun va => Config.vhptTag va (rrRid (s.regionReg va)))

end Sys2Proof.Machine
end

