-- ==== Sys2Proof/Machine/Dispatch.lean ====
section
/-! DEFINITION. Machine/Dispatch.lean: one arm per constructor of `Instr`, each one direct call of its meaning. -/

namespace Sys2Proof.Machine

def exec (i : Instr) (s : State) : Host.Outcome State Fault Refusal :=
  match i with
  | .addR1R2R3 qp r1 r2 r3 => Sys2Proof.Machine.execAddR1R2R3 qp r1 r2 r3 s
  | .addR1R2R31 qp r1 r2 r3 => Sys2Proof.Machine.execAddR1R2R31 qp r1 r2 r3 s
  | .subR1R2R3 qp r1 r2 r3 => Sys2Proof.Machine.execSubR1R2R3 qp r1 r2 r3 s
  | .subR1R2R31 qp r1 r2 r3 => Sys2Proof.Machine.execSubR1R2R31 qp r1 r2 r3 s
  | .addp4R1R2R3 qp r1 r2 r3 => Sys2Proof.Machine.execAddp4R1R2R3 qp r1 r2 r3 s
  | .andR1R2R3 qp r1 r2 r3 => Sys2Proof.Machine.execAndR1R2R3 qp r1 r2 r3 s
  | .andcmR1R2R3 qp r1 r2 r3 => Sys2Proof.Machine.execAndcmR1R2R3 qp r1 r2 r3 s
  | .orR1R2R3 qp r1 r2 r3 => Sys2Proof.Machine.execOrR1R2R3 qp r1 r2 r3 s
  | .xorR1R2R3 qp r1 r2 r3 => Sys2Proof.Machine.execXorR1R2R3 qp r1 r2 r3 s
  | .shladdR1R2Count2R3 qp r1 r2 ct2d r3 => Sys2Proof.Machine.execShladdR1R2Count2R3 qp r1 r2 ct2d r3 s
  | .shladdp4R1R2Count2R3 qp r1 r2 ct2d r3 => Sys2Proof.Machine.execShladdp4R1R2Count2R3 qp r1 r2 ct2d r3 s
  | .subR1Imm8R3 qp r1 imm8 r3 => Sys2Proof.Machine.execSubR1Imm8R3 qp r1 imm8 r3 s
  | .andR1Imm8R3 qp r1 imm8 r3 => Sys2Proof.Machine.execAndR1Imm8R3 qp r1 imm8 r3 s
  | .andcmR1Imm8R3 qp r1 imm8 r3 => Sys2Proof.Machine.execAndcmR1Imm8R3 qp r1 imm8 r3 s
  | .orR1Imm8R3 qp r1 imm8 r3 => Sys2Proof.Machine.execOrR1Imm8R3 qp r1 imm8 r3 s
  | .xorR1Imm8R3 qp r1 imm8 r3 => Sys2Proof.Machine.execXorR1Imm8R3 qp r1 imm8 r3 s
  | .addsR1Imm14R3 qp r1 imm14 r3 => Sys2Proof.Machine.execAddsR1Imm14R3 qp r1 imm14 r3 s
  | .addp4R1Imm14R3 qp r1 imm14 r3 => Sys2Proof.Machine.execAddp4R1Imm14R3 qp r1 imm14 r3 s
  | .addlR1Imm22R3 qp r1 imm22 r3 => Sys2Proof.Machine.execAddlR1Imm22R3 qp r1 imm22 r3 s
  | .cmpLtP1P2R2R3 qp p1 p2 r2 r3 => Sys2Proof.Machine.execCmpLtP1P2R2R3 qp p1 p2 r2 r3 s
  | .cmpLtUncP1P2R2R3 qp p1 p2 r2 r3 => Sys2Proof.Machine.execCmpLtUncP1P2R2R3 qp p1 p2 r2 r3 s
  | .cmp4LtP1P2R2R3 qp p1 p2 r2 r3 => Sys2Proof.Machine.execCmp4LtP1P2R2R3 qp p1 p2 r2 r3 s
  | .cmp4LtUncP1P2R2R3 qp p1 p2 r2 r3 => Sys2Proof.Machine.execCmp4LtUncP1P2R2R3 qp p1 p2 r2 r3 s
  | .cmpLtP1P2Imm8R3 qp p1 p2 imm8 r3 => Sys2Proof.Machine.execCmpLtP1P2Imm8R3 qp p1 p2 imm8 r3 s
  | .cmpLtUncP1P2Imm8R3 qp p1 p2 imm8 r3 => Sys2Proof.Machine.execCmpLtUncP1P2Imm8R3 qp p1 p2 imm8 r3 s
  | .cmp4LtP1P2Imm8R3 qp p1 p2 imm8 r3 => Sys2Proof.Machine.execCmp4LtP1P2Imm8R3 qp p1 p2 imm8 r3 s
  | .cmp4LtUncP1P2Imm8R3 qp p1 p2 imm8 r3 => Sys2Proof.Machine.execCmp4LtUncP1P2Imm8R3 qp p1 p2 imm8 r3 s
  | .cmpLtuP1P2R2R3 qp p1 p2 r2 r3 => Sys2Proof.Machine.execCmpLtuP1P2R2R3 qp p1 p2 r2 r3 s
  | .cmpLtuUncP1P2R2R3 qp p1 p2 r2 r3 => Sys2Proof.Machine.execCmpLtuUncP1P2R2R3 qp p1 p2 r2 r3 s
  | .cmp4LtuP1P2R2R3 qp p1 p2 r2 r3 => Sys2Proof.Machine.execCmp4LtuP1P2R2R3 qp p1 p2 r2 r3 s
  | .cmp4LtuUncP1P2R2R3 qp p1 p2 r2 r3 => Sys2Proof.Machine.execCmp4LtuUncP1P2R2R3 qp p1 p2 r2 r3 s
  | .cmpLtuP1P2Imm8R3 qp p1 p2 imm8 r3 => Sys2Proof.Machine.execCmpLtuP1P2Imm8R3 qp p1 p2 imm8 r3 s
  | .cmpLtuUncP1P2Imm8R3 qp p1 p2 imm8 r3 => Sys2Proof.Machine.execCmpLtuUncP1P2Imm8R3 qp p1 p2 imm8 r3 s
  | .cmp4LtuP1P2Imm8R3 qp p1 p2 imm8 r3 => Sys2Proof.Machine.execCmp4LtuP1P2Imm8R3 qp p1 p2 imm8 r3 s
  | .cmp4LtuUncP1P2Imm8R3 qp p1 p2 imm8 r3 => Sys2Proof.Machine.execCmp4LtuUncP1P2Imm8R3 qp p1 p2 imm8 r3 s
  | .cmpEqP1P2R2R3 qp p1 p2 r2 r3 => Sys2Proof.Machine.execCmpEqP1P2R2R3 qp p1 p2 r2 r3 s
  | .cmpEqUncP1P2R2R3 qp p1 p2 r2 r3 => Sys2Proof.Machine.execCmpEqUncP1P2R2R3 qp p1 p2 r2 r3 s
  | .cmp4EqP1P2R2R3 qp p1 p2 r2 r3 => Sys2Proof.Machine.execCmp4EqP1P2R2R3 qp p1 p2 r2 r3 s
  | .cmp4EqUncP1P2R2R3 qp p1 p2 r2 r3 => Sys2Proof.Machine.execCmp4EqUncP1P2R2R3 qp p1 p2 r2 r3 s
  | .cmpEqP1P2Imm8R3 qp p1 p2 imm8 r3 => Sys2Proof.Machine.execCmpEqP1P2Imm8R3 qp p1 p2 imm8 r3 s
  | .cmpEqUncP1P2Imm8R3 qp p1 p2 imm8 r3 => Sys2Proof.Machine.execCmpEqUncP1P2Imm8R3 qp p1 p2 imm8 r3 s
  | .cmp4EqP1P2Imm8R3 qp p1 p2 imm8 r3 => Sys2Proof.Machine.execCmp4EqP1P2Imm8R3 qp p1 p2 imm8 r3 s
  | .cmp4EqUncP1P2Imm8R3 qp p1 p2 imm8 r3 => Sys2Proof.Machine.execCmp4EqUncP1P2Imm8R3 qp p1 p2 imm8 r3 s
  | .cmpEqAndP1P2R2R3 qp p1 p2 r2 r3 => Sys2Proof.Machine.execCmpEqAndP1P2R2R3 qp p1 p2 r2 r3 s
  | .cmpEqAndP1P2Imm8R3 qp p1 p2 imm8 r3 => Sys2Proof.Machine.execCmpEqAndP1P2Imm8R3 qp p1 p2 imm8 r3 s
  | .cmpNeAndP1P2R2R3 qp p1 p2 r2 r3 => Sys2Proof.Machine.execCmpNeAndP1P2R2R3 qp p1 p2 r2 r3 s
  | .cmpNeAndP1P2Imm8R3 qp p1 p2 imm8 r3 => Sys2Proof.Machine.execCmpNeAndP1P2Imm8R3 qp p1 p2 imm8 r3 s
  | .cmpGtAndP1P2R0R3 qp p1 p2 r3 => Sys2Proof.Machine.execCmpGtAndP1P2R0R3 qp p1 p2 r3 s
  | .cmpLeAndP1P2R0R3 qp p1 p2 r3 => Sys2Proof.Machine.execCmpLeAndP1P2R0R3 qp p1 p2 r3 s
  | .cmpGeAndP1P2R0R3 qp p1 p2 r3 => Sys2Proof.Machine.execCmpGeAndP1P2R0R3 qp p1 p2 r3 s
  | .cmpLtAndP1P2R0R3 qp p1 p2 r3 => Sys2Proof.Machine.execCmpLtAndP1P2R0R3 qp p1 p2 r3 s
  | .cmpEqOrP1P2R2R3 qp p1 p2 r2 r3 => Sys2Proof.Machine.execCmpEqOrP1P2R2R3 qp p1 p2 r2 r3 s
  | .cmpEqOrP1P2Imm8R3 qp p1 p2 imm8 r3 => Sys2Proof.Machine.execCmpEqOrP1P2Imm8R3 qp p1 p2 imm8 r3 s
  | .cmpNeOrP1P2R2R3 qp p1 p2 r2 r3 => Sys2Proof.Machine.execCmpNeOrP1P2R2R3 qp p1 p2 r2 r3 s
  | .cmpNeOrP1P2Imm8R3 qp p1 p2 imm8 r3 => Sys2Proof.Machine.execCmpNeOrP1P2Imm8R3 qp p1 p2 imm8 r3 s
  | .cmpGtOrP1P2R0R3 qp p1 p2 r3 => Sys2Proof.Machine.execCmpGtOrP1P2R0R3 qp p1 p2 r3 s
  | .cmpLeOrP1P2R0R3 qp p1 p2 r3 => Sys2Proof.Machine.execCmpLeOrP1P2R0R3 qp p1 p2 r3 s
  | .cmpGeOrP1P2R0R3 qp p1 p2 r3 => Sys2Proof.Machine.execCmpGeOrP1P2R0R3 qp p1 p2 r3 s
  | .cmpLtOrP1P2R0R3 qp p1 p2 r3 => Sys2Proof.Machine.execCmpLtOrP1P2R0R3 qp p1 p2 r3 s
  | .cmpEqOrAndcmP1P2R2R3 qp p1 p2 r2 r3 => Sys2Proof.Machine.execCmpEqOrAndcmP1P2R2R3 qp p1 p2 r2 r3 s
  | .cmpEqOrAndcmP1P2Imm8R3 qp p1 p2 imm8 r3 => Sys2Proof.Machine.execCmpEqOrAndcmP1P2Imm8R3 qp p1 p2 imm8 r3 s
  | .cmpNeOrAndcmP1P2R2R3 qp p1 p2 r2 r3 => Sys2Proof.Machine.execCmpNeOrAndcmP1P2R2R3 qp p1 p2 r2 r3 s
  | .cmpNeOrAndcmP1P2Imm8R3 qp p1 p2 imm8 r3 => Sys2Proof.Machine.execCmpNeOrAndcmP1P2Imm8R3 qp p1 p2 imm8 r3 s
  | .cmpGtOrAndcmP1P2R0R3 qp p1 p2 r3 => Sys2Proof.Machine.execCmpGtOrAndcmP1P2R0R3 qp p1 p2 r3 s
  | .cmpLeOrAndcmP1P2R0R3 qp p1 p2 r3 => Sys2Proof.Machine.execCmpLeOrAndcmP1P2R0R3 qp p1 p2 r3 s
  | .cmpGeOrAndcmP1P2R0R3 qp p1 p2 r3 => Sys2Proof.Machine.execCmpGeOrAndcmP1P2R0R3 qp p1 p2 r3 s
  | .cmpLtOrAndcmP1P2R0R3 qp p1 p2 r3 => Sys2Proof.Machine.execCmpLtOrAndcmP1P2R0R3 qp p1 p2 r3 s
  | .cmp4EqAndP1P2R2R3 qp p1 p2 r2 r3 => Sys2Proof.Machine.execCmp4EqAndP1P2R2R3 qp p1 p2 r2 r3 s
  | .cmp4EqAndP1P2Imm8R3 qp p1 p2 imm8 r3 => Sys2Proof.Machine.execCmp4EqAndP1P2Imm8R3 qp p1 p2 imm8 r3 s
  | .cmp4NeAndP1P2R2R3 qp p1 p2 r2 r3 => Sys2Proof.Machine.execCmp4NeAndP1P2R2R3 qp p1 p2 r2 r3 s
  | .cmp4NeAndP1P2Imm8R3 qp p1 p2 imm8 r3 => Sys2Proof.Machine.execCmp4NeAndP1P2Imm8R3 qp p1 p2 imm8 r3 s
  | .cmp4GtAndP1P2R0R3 qp p1 p2 r3 => Sys2Proof.Machine.execCmp4GtAndP1P2R0R3 qp p1 p2 r3 s
  | .cmp4LeAndP1P2R0R3 qp p1 p2 r3 => Sys2Proof.Machine.execCmp4LeAndP1P2R0R3 qp p1 p2 r3 s
  | .cmp4GeAndP1P2R0R3 qp p1 p2 r3 => Sys2Proof.Machine.execCmp4GeAndP1P2R0R3 qp p1 p2 r3 s
  | .cmp4LtAndP1P2R0R3 qp p1 p2 r3 => Sys2Proof.Machine.execCmp4LtAndP1P2R0R3 qp p1 p2 r3 s
  | .cmp4EqOrP1P2R2R3 qp p1 p2 r2 r3 => Sys2Proof.Machine.execCmp4EqOrP1P2R2R3 qp p1 p2 r2 r3 s
  | .cmp4EqOrP1P2Imm8R3 qp p1 p2 imm8 r3 => Sys2Proof.Machine.execCmp4EqOrP1P2Imm8R3 qp p1 p2 imm8 r3 s
  | .cmp4NeOrP1P2R2R3 qp p1 p2 r2 r3 => Sys2Proof.Machine.execCmp4NeOrP1P2R2R3 qp p1 p2 r2 r3 s
  | .cmp4NeOrP1P2Imm8R3 qp p1 p2 imm8 r3 => Sys2Proof.Machine.execCmp4NeOrP1P2Imm8R3 qp p1 p2 imm8 r3 s
  | .cmp4GtOrP1P2R0R3 qp p1 p2 r3 => Sys2Proof.Machine.execCmp4GtOrP1P2R0R3 qp p1 p2 r3 s
  | .cmp4LeOrP1P2R0R3 qp p1 p2 r3 => Sys2Proof.Machine.execCmp4LeOrP1P2R0R3 qp p1 p2 r3 s
  | .cmp4GeOrP1P2R0R3 qp p1 p2 r3 => Sys2Proof.Machine.execCmp4GeOrP1P2R0R3 qp p1 p2 r3 s
  | .cmp4LtOrP1P2R0R3 qp p1 p2 r3 => Sys2Proof.Machine.execCmp4LtOrP1P2R0R3 qp p1 p2 r3 s
  | .cmp4EqOrAndcmP1P2R2R3 qp p1 p2 r2 r3 => Sys2Proof.Machine.execCmp4EqOrAndcmP1P2R2R3 qp p1 p2 r2 r3 s
  | .cmp4EqOrAndcmP1P2Imm8R3 qp p1 p2 imm8 r3 => Sys2Proof.Machine.execCmp4EqOrAndcmP1P2Imm8R3 qp p1 p2 imm8 r3 s
  | .cmp4NeOrAndcmP1P2R2R3 qp p1 p2 r2 r3 => Sys2Proof.Machine.execCmp4NeOrAndcmP1P2R2R3 qp p1 p2 r2 r3 s
  | .cmp4NeOrAndcmP1P2Imm8R3 qp p1 p2 imm8 r3 => Sys2Proof.Machine.execCmp4NeOrAndcmP1P2Imm8R3 qp p1 p2 imm8 r3 s
  | .cmp4GtOrAndcmP1P2R0R3 qp p1 p2 r3 => Sys2Proof.Machine.execCmp4GtOrAndcmP1P2R0R3 qp p1 p2 r3 s
  | .cmp4LeOrAndcmP1P2R0R3 qp p1 p2 r3 => Sys2Proof.Machine.execCmp4LeOrAndcmP1P2R0R3 qp p1 p2 r3 s
  | .cmp4GeOrAndcmP1P2R0R3 qp p1 p2 r3 => Sys2Proof.Machine.execCmp4GeOrAndcmP1P2R0R3 qp p1 p2 r3 s
  | .cmp4LtOrAndcmP1P2R0R3 qp p1 p2 r3 => Sys2Proof.Machine.execCmp4LtOrAndcmP1P2R0R3 qp p1 p2 r3 s
  | .padd1R1R2R3 qp r1 r2 r3 => Sys2Proof.Machine.execPadd1R1R2R3 qp r1 r2 r3 s
  | .padd2R1R2R3 qp r1 r2 r3 => Sys2Proof.Machine.execPadd2R1R2R3 qp r1 r2 r3 s
  | .padd4R1R2R3 qp r1 r2 r3 => Sys2Proof.Machine.execPadd4R1R2R3 qp r1 r2 r3 s
  | .padd1SssR1R2R3 qp r1 r2 r3 => Sys2Proof.Machine.execPadd1SssR1R2R3 qp r1 r2 r3 s
  | .padd2SssR1R2R3 qp r1 r2 r3 => Sys2Proof.Machine.execPadd2SssR1R2R3 qp r1 r2 r3 s
  | .padd1UusR1R2R3 qp r1 r2 r3 => Sys2Proof.Machine.execPadd1UusR1R2R3 qp r1 r2 r3 s
  | .padd2UusR1R2R3 qp r1 r2 r3 => Sys2Proof.Machine.execPadd2UusR1R2R3 qp r1 r2 r3 s
  | .padd1UuuR1R2R3 qp r1 r2 r3 => Sys2Proof.Machine.execPadd1UuuR1R2R3 qp r1 r2 r3 s
  | .padd2UuuR1R2R3 qp r1 r2 r3 => Sys2Proof.Machine.execPadd2UuuR1R2R3 qp r1 r2 r3 s
  | .psub1R1R2R3 qp r1 r2 r3 => Sys2Proof.Machine.execPsub1R1R2R3 qp r1 r2 r3 s
  | .psub2R1R2R3 qp r1 r2 r3 => Sys2Proof.Machine.execPsub2R1R2R3 qp r1 r2 r3 s
  | .psub4R1R2R3 qp r1 r2 r3 => Sys2Proof.Machine.execPsub4R1R2R3 qp r1 r2 r3 s
  | .psub1SssR1R2R3 qp r1 r2 r3 => Sys2Proof.Machine.execPsub1SssR1R2R3 qp r1 r2 r3 s
  | .psub2SssR1R2R3 qp r1 r2 r3 => Sys2Proof.Machine.execPsub2SssR1R2R3 qp r1 r2 r3 s
  | .psub1UusR1R2R3 qp r1 r2 r3 => Sys2Proof.Machine.execPsub1UusR1R2R3 qp r1 r2 r3 s
  | .psub2UusR1R2R3 qp r1 r2 r3 => Sys2Proof.Machine.execPsub2UusR1R2R3 qp r1 r2 r3 s
  | .psub1UuuR1R2R3 qp r1 r2 r3 => Sys2Proof.Machine.execPsub1UuuR1R2R3 qp r1 r2 r3 s
  | .psub2UuuR1R2R3 qp r1 r2 r3 => Sys2Proof.Machine.execPsub2UuuR1R2R3 qp r1 r2 r3 s
  | .pavg1R1R2R3 qp r1 r2 r3 => Sys2Proof.Machine.execPavg1R1R2R3 qp r1 r2 r3 s
  | .pavg2R1R2R3 qp r1 r2 r3 => Sys2Proof.Machine.execPavg2R1R2R3 qp r1 r2 r3 s
  | .pavg1RazR1R2R3 qp r1 r2 r3 => Sys2Proof.Machine.execPavg1RazR1R2R3 qp r1 r2 r3 s
  | .pavg2RazR1R2R3 qp r1 r2 r3 => Sys2Proof.Machine.execPavg2RazR1R2R3 qp r1 r2 r3 s
  | .pavgsub1R1R2R3 qp r1 r2 r3 => Sys2Proof.Machine.execPavgsub1R1R2R3 qp r1 r2 r3 s
  | .pavgsub2R1R2R3 qp r1 r2 r3 => Sys2Proof.Machine.execPavgsub2R1R2R3 qp r1 r2 r3 s
  | .pcmp1EqR1R2R3 qp r1 r2 r3 => Sys2Proof.Machine.execPcmp1EqR1R2R3 qp r1 r2 r3 s
  | .pcmp2EqR1R2R3 qp r1 r2 r3 => Sys2Proof.Machine.execPcmp2EqR1R2R3 qp r1 r2 r3 s
  | .pcmp4EqR1R2R3 qp r1 r2 r3 => Sys2Proof.Machine.execPcmp4EqR1R2R3 qp r1 r2 r3 s
  | .pcmp1GtR1R2R3 qp r1 r2 r3 => Sys2Proof.Machine.execPcmp1GtR1R2R3 qp r1 r2 r3 s
  | .pcmp2GtR1R2R3 qp r1 r2 r3 => Sys2Proof.Machine.execPcmp2GtR1R2R3 qp r1 r2 r3 s
  | .pcmp4GtR1R2R3 qp r1 r2 r3 => Sys2Proof.Machine.execPcmp4GtR1R2R3 qp r1 r2 r3 s
  | .pshladd2R1R2Count2R3 qp r1 r2 count2 r3 => Sys2Proof.Machine.execPshladd2R1R2Count2R3 qp r1 r2 count2 r3 s
  | .pshradd2R1R2Count2R3 qp r1 r2 count2 r3 => Sys2Proof.Machine.execPshradd2R1R2Count2R3 qp r1 r2 count2 r3 s
  | .pmpyshr2R1R2R3Count2 qp r1 r2 r3 count2 => Sys2Proof.Machine.execPmpyshr2R1R2R3Count2 qp r1 r2 r3 count2 s
  | .pmpyshr2UR1R2R3Count2 qp r1 r2 r3 count2 => Sys2Proof.Machine.execPmpyshr2UR1R2R3Count2 qp r1 r2 r3 count2 s
  | .pmpy2RR1R2R3 qp r1 r2 r3 => Sys2Proof.Machine.execPmpy2RR1R2R3 qp r1 r2 r3 s
  | .pmpy2LR1R2R3 qp r1 r2 r3 => Sys2Proof.Machine.execPmpy2LR1R2R3 qp r1 r2 r3 s
  | .mix1RR1R2R3 qp r1 r2 r3 => Sys2Proof.Machine.execMix1RR1R2R3 qp r1 r2 r3 s
  | .mix1LR1R2R3 qp r1 r2 r3 => Sys2Proof.Machine.execMix1LR1R2R3 qp r1 r2 r3 s
  | .mix2RR1R2R3 qp r1 r2 r3 => Sys2Proof.Machine.execMix2RR1R2R3 qp r1 r2 r3 s
  | .mix2LR1R2R3 qp r1 r2 r3 => Sys2Proof.Machine.execMix2LR1R2R3 qp r1 r2 r3 s
  | .mix4RR1R2R3 qp r1 r2 r3 => Sys2Proof.Machine.execMix4RR1R2R3 qp r1 r2 r3 s
  | .mix4LR1R2R3 qp r1 r2 r3 => Sys2Proof.Machine.execMix4LR1R2R3 qp r1 r2 r3 s
  | .pack2SssR1R2R3 qp r1 r2 r3 => Sys2Proof.Machine.execPack2SssR1R2R3 qp r1 r2 r3 s
  | .pack2UssR1R2R3 qp r1 r2 r3 => Sys2Proof.Machine.execPack2UssR1R2R3 qp r1 r2 r3 s
  | .pack4SssR1R2R3 qp r1 r2 r3 => Sys2Proof.Machine.execPack4SssR1R2R3 qp r1 r2 r3 s
  | .unpack1LR1R2R3 qp r1 r2 r3 => Sys2Proof.Machine.execUnpack1LR1R2R3 qp r1 r2 r3 s
  | .unpack1HR1R2R3 qp r1 r2 r3 => Sys2Proof.Machine.execUnpack1HR1R2R3 qp r1 r2 r3 s
  | .unpack2LR1R2R3 qp r1 r2 r3 => Sys2Proof.Machine.execUnpack2LR1R2R3 qp r1 r2 r3 s
  | .unpack2HR1R2R3 qp r1 r2 r3 => Sys2Proof.Machine.execUnpack2HR1R2R3 qp r1 r2 r3 s
  | .unpack4LR1R2R3 qp r1 r2 r3 => Sys2Proof.Machine.execUnpack4LR1R2R3 qp r1 r2 r3 s
  | .unpack4HR1R2R3 qp r1 r2 r3 => Sys2Proof.Machine.execUnpack4HR1R2R3 qp r1 r2 r3 s
  | .pmin1UR1R2R3 qp r1 r2 r3 => Sys2Proof.Machine.execPmin1UR1R2R3 qp r1 r2 r3 s
  | .pmax1UR1R2R3 qp r1 r2 r3 => Sys2Proof.Machine.execPmax1UR1R2R3 qp r1 r2 r3 s
  | .pmin2R1R2R3 qp r1 r2 r3 => Sys2Proof.Machine.execPmin2R1R2R3 qp r1 r2 r3 s
  | .pmax2R1R2R3 qp r1 r2 r3 => Sys2Proof.Machine.execPmax2R1R2R3 qp r1 r2 r3 s
  | .psad1R1R2R3 qp r1 r2 r3 => Sys2Proof.Machine.execPsad1R1R2R3 qp r1 r2 r3 s
  | .mux1R1R2Mbtype4 qp r1 r2 mbtype4 => Sys2Proof.Machine.execMux1R1R2Mbtype4 qp r1 r2 mbtype4 s
  | .mux2R1R2Mhtype8 qp r1 r2 mhtype8 => Sys2Proof.Machine.execMux2R1R2Mhtype8 qp r1 r2 mhtype8 s
  | .shrR1R3R2 qp r1 r3 r2 => Sys2Proof.Machine.execShrR1R3R2 qp r1 r3 r2 s
  | .shrUR1R3R2 qp r1 r3 r2 => Sys2Proof.Machine.execShrUR1R3R2 qp r1 r3 r2 s
  | .pshr2R1R3R2 qp r1 r3 r2 => Sys2Proof.Machine.execPshr2R1R3R2 qp r1 r3 r2 s
  | .pshr2UR1R3R2 qp r1 r3 r2 => Sys2Proof.Machine.execPshr2UR1R3R2 qp r1 r3 r2 s
  | .pshr4R1R3R2 qp r1 r3 r2 => Sys2Proof.Machine.execPshr4R1R3R2 qp r1 r3 r2 s
  | .pshr4UR1R3R2 qp r1 r3 r2 => Sys2Proof.Machine.execPshr4UR1R3R2 qp r1 r3 r2 s
  | .pshr2R1R3Count5 qp r1 r3 count5 => Sys2Proof.Machine.execPshr2R1R3Count5 qp r1 r3 count5 s
  | .pshr2UR1R3Count5 qp r1 r3 count5 => Sys2Proof.Machine.execPshr2UR1R3Count5 qp r1 r3 count5 s
  | .pshr4R1R3Count5 qp r1 r3 count5 => Sys2Proof.Machine.execPshr4R1R3Count5 qp r1 r3 count5 s
  | .pshr4UR1R3Count5 qp r1 r3 count5 => Sys2Proof.Machine.execPshr4UR1R3Count5 qp r1 r3 count5 s
  | .shlR1R2R3 qp r1 r2 r3 => Sys2Proof.Machine.execShlR1R2R3 qp r1 r2 r3 s
  | .pshl2R1R2R3 qp r1 r2 r3 => Sys2Proof.Machine.execPshl2R1R2R3 qp r1 r2 r3 s
  | .pshl4R1R2R3 qp r1 r2 r3 => Sys2Proof.Machine.execPshl4R1R2R3 qp r1 r2 r3 s
  | .pshl2R1R2Count5 qp r1 r2 count5 => Sys2Proof.Machine.execPshl2R1R2Count5 qp r1 r2 count5 s
  | .pshl4R1R2Count5 qp r1 r2 count5 => Sys2Proof.Machine.execPshl4R1R2Count5 qp r1 r2 count5 s
  | .popcntR1R3 qp r1 r3 => Sys2Proof.Machine.execPopcntR1R3 qp r1 r3 s
  | .shrpR1R2R3Count6 qp r1 r2 r3 count6 => Sys2Proof.Machine.execShrpR1R2R3Count6 qp r1 r2 r3 count6 s
  | .extrUR1R3Pos6Len6 qp r1 r3 pos6 len6d => Sys2Proof.Machine.execExtrUR1R3Pos6Len6 qp r1 r3 pos6 len6d s
  | .extrR1R3Pos6Len6 qp r1 r3 pos6 len6d => Sys2Proof.Machine.execExtrR1R3Pos6Len6 qp r1 r3 pos6 len6d s
  | .depZR1R2Pos6Len6 qp r1 r2 pos6 len6d => Sys2Proof.Machine.execDepZR1R2Pos6Len6 qp r1 r2 pos6 len6d s
  | .depZR1Imm8Pos6Len6 qp r1 imm8 pos6 len6d => Sys2Proof.Machine.execDepZR1Imm8Pos6Len6 qp r1 imm8 pos6 len6d s
  | .depR1Imm1R3Pos6Len6 qp r1 imm1 r3 pos6 len6d => Sys2Proof.Machine.execDepR1Imm1R3Pos6Len6 qp r1 imm1 r3 pos6 len6d s
  | .depR1R2R3Pos6Len4 qp r1 r2 r3 pos6 len4d => Sys2Proof.Machine.execDepR1R2R3Pos6Len4 qp r1 r2 r3 pos6 len4d s
  | .tbitZP1P2R3Pos6 qp p1 p2 r3 pos6 => Sys2Proof.Machine.execTbitZP1P2R3Pos6 qp p1 p2 r3 pos6 s
  | .tbitZUncP1P2R3Pos6 qp p1 p2 r3 pos6 => Sys2Proof.Machine.execTbitZUncP1P2R3Pos6 qp p1 p2 r3 pos6 s
  | .tbitZAndP1P2R3Pos6 qp p1 p2 r3 pos6 => Sys2Proof.Machine.execTbitZAndP1P2R3Pos6 qp p1 p2 r3 pos6 s
  | .tbitNzAndP1P2R3Pos6 qp p1 p2 r3 pos6 => Sys2Proof.Machine.execTbitNzAndP1P2R3Pos6 qp p1 p2 r3 pos6 s
  | .tbitZOrP1P2R3Pos6 qp p1 p2 r3 pos6 => Sys2Proof.Machine.execTbitZOrP1P2R3Pos6 qp p1 p2 r3 pos6 s
  | .tbitNzOrP1P2R3Pos6 qp p1 p2 r3 pos6 => Sys2Proof.Machine.execTbitNzOrP1P2R3Pos6 qp p1 p2 r3 pos6 s
  | .tbitZOrAndcmP1P2R3Pos6 qp p1 p2 r3 pos6 => Sys2Proof.Machine.execTbitZOrAndcmP1P2R3Pos6 qp p1 p2 r3 pos6 s
  | .tbitNzOrAndcmP1P2R3Pos6 qp p1 p2 r3 pos6 => Sys2Proof.Machine.execTbitNzOrAndcmP1P2R3Pos6 qp p1 p2 r3 pos6 s
  | .tnatZP1P2R3 qp p1 p2 r3 => Sys2Proof.Machine.execTnatZP1P2R3 qp p1 p2 r3 s
  | .tnatZUncP1P2R3 qp p1 p2 r3 => Sys2Proof.Machine.execTnatZUncP1P2R3 qp p1 p2 r3 s
  | .tnatZAndP1P2R3 qp p1 p2 r3 => Sys2Proof.Machine.execTnatZAndP1P2R3 qp p1 p2 r3 s
  | .tnatNzAndP1P2R3 qp p1 p2 r3 => Sys2Proof.Machine.execTnatNzAndP1P2R3 qp p1 p2 r3 s
  | .tnatZOrP1P2R3 qp p1 p2 r3 => Sys2Proof.Machine.execTnatZOrP1P2R3 qp p1 p2 r3 s
  | .tnatNzOrP1P2R3 qp p1 p2 r3 => Sys2Proof.Machine.execTnatNzOrP1P2R3 qp p1 p2 r3 s
  | .tnatZOrAndcmP1P2R3 qp p1 p2 r3 => Sys2Proof.Machine.execTnatZOrAndcmP1P2R3 qp p1 p2 r3 s
  | .tnatNzOrAndcmP1P2R3 qp p1 p2 r3 => Sys2Proof.Machine.execTnatNzOrAndcmP1P2R3 qp p1 p2 r3 s
  | .tbitNzP1P2R3Pos6 qp p1 p2 r3 pos6 => Sys2Proof.Machine.execTbitNzP1P2R3Pos6 qp p1 p2 r3 pos6 s
  | .tbitNzUncP1P2R3Pos6 qp p1 p2 r3 pos6 => Sys2Proof.Machine.execTbitNzUncP1P2R3Pos6 qp p1 p2 r3 pos6 s
  | .tnatNzP1P2R3 qp p1 p2 r3 => Sys2Proof.Machine.execTnatNzP1P2R3 qp p1 p2 r3 s
  | .tnatNzUncP1P2R3 qp p1 p2 r3 => Sys2Proof.Machine.execTnatNzUncP1P2R3 qp p1 p2 r3 s
  | .breakIImm21 qp imm21 => Sys2Proof.Machine.execBreakIImm21 qp imm21 s
  | .nopIImm21 qp imm21 => Sys2Proof.Machine.execNopIImm21 qp imm21 s
  | .chkSIR2Target25 qp r2 imm21 => Sys2Proof.Machine.execChkSIR2Target25 qp r2 imm21 s
  | .movB1R2 qp b1 r2 timm9 ih wh => Sys2Proof.Machine.execMovB1R2 qp b1 r2 timm9 ih wh s
  | .movRetB1R2 qp b1 r2 timm9 ih wh => Sys2Proof.Machine.execMovRetB1R2 qp b1 r2 timm9 ih wh s
  | .movR1B2 qp r1 b2 => Sys2Proof.Machine.execMovR1B2 qp r1 b2 s
  | .movPrR2Mask17 qp r2 mask17 => Sys2Proof.Machine.execMovPrR2Mask17 qp r2 mask17 s
  | .movPrRotImm44 qp imm28 => Sys2Proof.Machine.execMovPrRotImm44 qp imm28 s
  | .movR1Ip qp r1 => Sys2Proof.Machine.execMovR1Ip qp r1 s
  | .movR1Pr qp r1 => Sys2Proof.Machine.execMovR1Pr qp r1 s
  | .movIAr3R2 qp ar3 r2 => Sys2Proof.Machine.execMovIAr3R2 qp ar3 r2 s
  | .movIAr3Imm8 qp ar3 imm8 => Sys2Proof.Machine.execMovIAr3Imm8 qp ar3 imm8 s
  | .movIR1Ar3 qp r1 ar3 => Sys2Proof.Machine.execMovIR1Ar3 qp r1 ar3 s
  | .zxt1R1R3 qp r1 r3 => Sys2Proof.Machine.execZxt1R1R3 qp r1 r3 s
  | .zxt2R1R3 qp r1 r3 => Sys2Proof.Machine.execZxt2R1R3 qp r1 r3 s
  | .zxt4R1R3 qp r1 r3 => Sys2Proof.Machine.execZxt4R1R3 qp r1 r3 s
  | .sxt1R1R3 qp r1 r3 => Sys2Proof.Machine.execSxt1R1R3 qp r1 r3 s
  | .sxt2R1R3 qp r1 r3 => Sys2Proof.Machine.execSxt2R1R3 qp r1 r3 s
  | .sxt4R1R3 qp r1 r3 => Sys2Proof.Machine.execSxt4R1R3 qp r1 r3 s
  | .czx1LR1R3 qp r1 r3 => Sys2Proof.Machine.execCzx1LR1R3 qp r1 r3 s
  | .czx2LR1R3 qp r1 r3 => Sys2Proof.Machine.execCzx2LR1R3 qp r1 r3 s
  | .czx1RR1R3 qp r1 r3 => Sys2Proof.Machine.execCzx1RR1R3 qp r1 r3 s
  | .czx2RR1R3 qp r1 r3 => Sys2Proof.Machine.execCzx2RR1R3 qp r1 r3 s
  | .movlR1Imm64 qp r1 imm64 => Sys2Proof.Machine.execMovlR1Imm64 qp r1 imm64 s
  | .breakXImm62 qp imm62 => Sys2Proof.Machine.execBreakXImm62 qp imm62 s
  | .nopXImm62 qp imm62 => Sys2Proof.Machine.execNopXImm62 qp imm62 s
  | .ld1R1R3 qp r1 r3 hint => Sys2Proof.Machine.execLd1R1R3 qp r1 r3 hint s
  | .ld1R1R3R2 qp r1 r3 r2 hint => Sys2Proof.Machine.execLd1R1R3R2 qp r1 r3 r2 hint s
  | .ld1R1R3Imm9 qp r1 r3 imm9 hint => Sys2Proof.Machine.execLd1R1R3Imm9 qp r1 r3 imm9 hint s
  | .ld2R1R3 qp r1 r3 hint => Sys2Proof.Machine.execLd2R1R3 qp r1 r3 hint s
  | .ld2R1R3R2 qp r1 r3 r2 hint => Sys2Proof.Machine.execLd2R1R3R2 qp r1 r3 r2 hint s
  | .ld2R1R3Imm9 qp r1 r3 imm9 hint => Sys2Proof.Machine.execLd2R1R3Imm9 qp r1 r3 imm9 hint s
  | .ld4R1R3 qp r1 r3 hint => Sys2Proof.Machine.execLd4R1R3 qp r1 r3 hint s
  | .ld4R1R3R2 qp r1 r3 r2 hint => Sys2Proof.Machine.execLd4R1R3R2 qp r1 r3 r2 hint s
  | .ld4R1R3Imm9 qp r1 r3 imm9 hint => Sys2Proof.Machine.execLd4R1R3Imm9 qp r1 r3 imm9 hint s
  | .ld8R1R3 qp r1 r3 hint => Sys2Proof.Machine.execLd8R1R3 qp r1 r3 hint s
  | .ld8R1R3R2 qp r1 r3 r2 hint => Sys2Proof.Machine.execLd8R1R3R2 qp r1 r3 r2 hint s
  | .ld8R1R3Imm9 qp r1 r3 imm9 hint => Sys2Proof.Machine.execLd8R1R3Imm9 qp r1 r3 imm9 hint s
  | .ld1SR1R3 qp r1 r3 hint => Sys2Proof.Machine.execLd1SR1R3 qp r1 r3 hint s
  | .ld1SR1R3R2 qp r1 r3 r2 hint => Sys2Proof.Machine.execLd1SR1R3R2 qp r1 r3 r2 hint s
  | .ld1SR1R3Imm9 qp r1 r3 imm9 hint => Sys2Proof.Machine.execLd1SR1R3Imm9 qp r1 r3 imm9 hint s
  | .ld2SR1R3 qp r1 r3 hint => Sys2Proof.Machine.execLd2SR1R3 qp r1 r3 hint s
  | .ld2SR1R3R2 qp r1 r3 r2 hint => Sys2Proof.Machine.execLd2SR1R3R2 qp r1 r3 r2 hint s
  | .ld2SR1R3Imm9 qp r1 r3 imm9 hint => Sys2Proof.Machine.execLd2SR1R3Imm9 qp r1 r3 imm9 hint s
  | .ld4SR1R3 qp r1 r3 hint => Sys2Proof.Machine.execLd4SR1R3 qp r1 r3 hint s
  | .ld4SR1R3R2 qp r1 r3 r2 hint => Sys2Proof.Machine.execLd4SR1R3R2 qp r1 r3 r2 hint s
  | .ld4SR1R3Imm9 qp r1 r3 imm9 hint => Sys2Proof.Machine.execLd4SR1R3Imm9 qp r1 r3 imm9 hint s
  | .ld8SR1R3 qp r1 r3 hint => Sys2Proof.Machine.execLd8SR1R3 qp r1 r3 hint s
  | .ld8SR1R3R2 qp r1 r3 r2 hint => Sys2Proof.Machine.execLd8SR1R3R2 qp r1 r3 r2 hint s
  | .ld8SR1R3Imm9 qp r1 r3 imm9 hint => Sys2Proof.Machine.execLd8SR1R3Imm9 qp r1 r3 imm9 hint s
  | .ld1AR1R3 qp r1 r3 hint => Sys2Proof.Machine.execLd1AR1R3 qp r1 r3 hint s
  | .ld1AR1R3R2 qp r1 r3 r2 hint => Sys2Proof.Machine.execLd1AR1R3R2 qp r1 r3 r2 hint s
  | .ld1AR1R3Imm9 qp r1 r3 imm9 hint => Sys2Proof.Machine.execLd1AR1R3Imm9 qp r1 r3 imm9 hint s
  | .ld2AR1R3 qp r1 r3 hint => Sys2Proof.Machine.execLd2AR1R3 qp r1 r3 hint s
  | .ld2AR1R3R2 qp r1 r3 r2 hint => Sys2Proof.Machine.execLd2AR1R3R2 qp r1 r3 r2 hint s
  | .ld2AR1R3Imm9 qp r1 r3 imm9 hint => Sys2Proof.Machine.execLd2AR1R3Imm9 qp r1 r3 imm9 hint s
  | .ld4AR1R3 qp r1 r3 hint => Sys2Proof.Machine.execLd4AR1R3 qp r1 r3 hint s
  | .ld4AR1R3R2 qp r1 r3 r2 hint => Sys2Proof.Machine.execLd4AR1R3R2 qp r1 r3 r2 hint s
  | .ld4AR1R3Imm9 qp r1 r3 imm9 hint => Sys2Proof.Machine.execLd4AR1R3Imm9 qp r1 r3 imm9 hint s
  | .ld8AR1R3 qp r1 r3 hint => Sys2Proof.Machine.execLd8AR1R3 qp r1 r3 hint s
  | .ld8AR1R3R2 qp r1 r3 r2 hint => Sys2Proof.Machine.execLd8AR1R3R2 qp r1 r3 r2 hint s
  | .ld8AR1R3Imm9 qp r1 r3 imm9 hint => Sys2Proof.Machine.execLd8AR1R3Imm9 qp r1 r3 imm9 hint s
  | .ld1SaR1R3 qp r1 r3 hint => Sys2Proof.Machine.execLd1SaR1R3 qp r1 r3 hint s
  | .ld1SaR1R3R2 qp r1 r3 r2 hint => Sys2Proof.Machine.execLd1SaR1R3R2 qp r1 r3 r2 hint s
  | .ld1SaR1R3Imm9 qp r1 r3 imm9 hint => Sys2Proof.Machine.execLd1SaR1R3Imm9 qp r1 r3 imm9 hint s
  | .ld2SaR1R3 qp r1 r3 hint => Sys2Proof.Machine.execLd2SaR1R3 qp r1 r3 hint s
  | .ld2SaR1R3R2 qp r1 r3 r2 hint => Sys2Proof.Machine.execLd2SaR1R3R2 qp r1 r3 r2 hint s
  | .ld2SaR1R3Imm9 qp r1 r3 imm9 hint => Sys2Proof.Machine.execLd2SaR1R3Imm9 qp r1 r3 imm9 hint s
  | .ld4SaR1R3 qp r1 r3 hint => Sys2Proof.Machine.execLd4SaR1R3 qp r1 r3 hint s
  | .ld4SaR1R3R2 qp r1 r3 r2 hint => Sys2Proof.Machine.execLd4SaR1R3R2 qp r1 r3 r2 hint s
  | .ld4SaR1R3Imm9 qp r1 r3 imm9 hint => Sys2Proof.Machine.execLd4SaR1R3Imm9 qp r1 r3 imm9 hint s
  | .ld8SaR1R3 qp r1 r3 hint => Sys2Proof.Machine.execLd8SaR1R3 qp r1 r3 hint s
  | .ld8SaR1R3R2 qp r1 r3 r2 hint => Sys2Proof.Machine.execLd8SaR1R3R2 qp r1 r3 r2 hint s
  | .ld8SaR1R3Imm9 qp r1 r3 imm9 hint => Sys2Proof.Machine.execLd8SaR1R3Imm9 qp r1 r3 imm9 hint s
  | .ld1BiasR1R3 qp r1 r3 hint => Sys2Proof.Machine.execLd1BiasR1R3 qp r1 r3 hint s
  | .ld1BiasR1R3R2 qp r1 r3 r2 hint => Sys2Proof.Machine.execLd1BiasR1R3R2 qp r1 r3 r2 hint s
  | .ld1BiasR1R3Imm9 qp r1 r3 imm9 hint => Sys2Proof.Machine.execLd1BiasR1R3Imm9 qp r1 r3 imm9 hint s
  | .ld2BiasR1R3 qp r1 r3 hint => Sys2Proof.Machine.execLd2BiasR1R3 qp r1 r3 hint s
  | .ld2BiasR1R3R2 qp r1 r3 r2 hint => Sys2Proof.Machine.execLd2BiasR1R3R2 qp r1 r3 r2 hint s
  | .ld2BiasR1R3Imm9 qp r1 r3 imm9 hint => Sys2Proof.Machine.execLd2BiasR1R3Imm9 qp r1 r3 imm9 hint s
  | .ld4BiasR1R3 qp r1 r3 hint => Sys2Proof.Machine.execLd4BiasR1R3 qp r1 r3 hint s
  | .ld4BiasR1R3R2 qp r1 r3 r2 hint => Sys2Proof.Machine.execLd4BiasR1R3R2 qp r1 r3 r2 hint s
  | .ld4BiasR1R3Imm9 qp r1 r3 imm9 hint => Sys2Proof.Machine.execLd4BiasR1R3Imm9 qp r1 r3 imm9 hint s
  | .ld8BiasR1R3 qp r1 r3 hint => Sys2Proof.Machine.execLd8BiasR1R3 qp r1 r3 hint s
  | .ld8BiasR1R3R2 qp r1 r3 r2 hint => Sys2Proof.Machine.execLd8BiasR1R3R2 qp r1 r3 r2 hint s
  | .ld8BiasR1R3Imm9 qp r1 r3 imm9 hint => Sys2Proof.Machine.execLd8BiasR1R3Imm9 qp r1 r3 imm9 hint s
  | .ld1AcqR1R3 qp r1 r3 hint => Sys2Proof.Machine.execLd1AcqR1R3 qp r1 r3 hint s
  | .ld1AcqR1R3R2 qp r1 r3 r2 hint => Sys2Proof.Machine.execLd1AcqR1R3R2 qp r1 r3 r2 hint s
  | .ld1AcqR1R3Imm9 qp r1 r3 imm9 hint => Sys2Proof.Machine.execLd1AcqR1R3Imm9 qp r1 r3 imm9 hint s
  | .ld2AcqR1R3 qp r1 r3 hint => Sys2Proof.Machine.execLd2AcqR1R3 qp r1 r3 hint s
  | .ld2AcqR1R3R2 qp r1 r3 r2 hint => Sys2Proof.Machine.execLd2AcqR1R3R2 qp r1 r3 r2 hint s
  | .ld2AcqR1R3Imm9 qp r1 r3 imm9 hint => Sys2Proof.Machine.execLd2AcqR1R3Imm9 qp r1 r3 imm9 hint s
  | .ld4AcqR1R3 qp r1 r3 hint => Sys2Proof.Machine.execLd4AcqR1R3 qp r1 r3 hint s
  | .ld4AcqR1R3R2 qp r1 r3 r2 hint => Sys2Proof.Machine.execLd4AcqR1R3R2 qp r1 r3 r2 hint s
  | .ld4AcqR1R3Imm9 qp r1 r3 imm9 hint => Sys2Proof.Machine.execLd4AcqR1R3Imm9 qp r1 r3 imm9 hint s
  | .ld8AcqR1R3 qp r1 r3 hint => Sys2Proof.Machine.execLd8AcqR1R3 qp r1 r3 hint s
  | .ld8AcqR1R3R2 qp r1 r3 r2 hint => Sys2Proof.Machine.execLd8AcqR1R3R2 qp r1 r3 r2 hint s
  | .ld8AcqR1R3Imm9 qp r1 r3 imm9 hint => Sys2Proof.Machine.execLd8AcqR1R3Imm9 qp r1 r3 imm9 hint s
  | .ld1CClrR1R3 qp r1 r3 hint => Sys2Proof.Machine.execLd1CClrR1R3 qp r1 r3 hint s
  | .ld1CClrR1R3R2 qp r1 r3 r2 hint => Sys2Proof.Machine.execLd1CClrR1R3R2 qp r1 r3 r2 hint s
  | .ld1CClrR1R3Imm9 qp r1 r3 imm9 hint => Sys2Proof.Machine.execLd1CClrR1R3Imm9 qp r1 r3 imm9 hint s
  | .ld2CClrR1R3 qp r1 r3 hint => Sys2Proof.Machine.execLd2CClrR1R3 qp r1 r3 hint s
  | .ld2CClrR1R3R2 qp r1 r3 r2 hint => Sys2Proof.Machine.execLd2CClrR1R3R2 qp r1 r3 r2 hint s
  | .ld2CClrR1R3Imm9 qp r1 r3 imm9 hint => Sys2Proof.Machine.execLd2CClrR1R3Imm9 qp r1 r3 imm9 hint s
  | .ld4CClrR1R3 qp r1 r3 hint => Sys2Proof.Machine.execLd4CClrR1R3 qp r1 r3 hint s
  | .ld4CClrR1R3R2 qp r1 r3 r2 hint => Sys2Proof.Machine.execLd4CClrR1R3R2 qp r1 r3 r2 hint s
  | .ld4CClrR1R3Imm9 qp r1 r3 imm9 hint => Sys2Proof.Machine.execLd4CClrR1R3Imm9 qp r1 r3 imm9 hint s
  | .ld8CClrR1R3 qp r1 r3 hint => Sys2Proof.Machine.execLd8CClrR1R3 qp r1 r3 hint s
  | .ld8CClrR1R3R2 qp r1 r3 r2 hint => Sys2Proof.Machine.execLd8CClrR1R3R2 qp r1 r3 r2 hint s
  | .ld8CClrR1R3Imm9 qp r1 r3 imm9 hint => Sys2Proof.Machine.execLd8CClrR1R3Imm9 qp r1 r3 imm9 hint s
  | .ld1CNcR1R3 qp r1 r3 hint => Sys2Proof.Machine.execLd1CNcR1R3 qp r1 r3 hint s
  | .ld1CNcR1R3R2 qp r1 r3 r2 hint => Sys2Proof.Machine.execLd1CNcR1R3R2 qp r1 r3 r2 hint s
  | .ld1CNcR1R3Imm9 qp r1 r3 imm9 hint => Sys2Proof.Machine.execLd1CNcR1R3Imm9 qp r1 r3 imm9 hint s
  | .ld2CNcR1R3 qp r1 r3 hint => Sys2Proof.Machine.execLd2CNcR1R3 qp r1 r3 hint s
  | .ld2CNcR1R3R2 qp r1 r3 r2 hint => Sys2Proof.Machine.execLd2CNcR1R3R2 qp r1 r3 r2 hint s
  | .ld2CNcR1R3Imm9 qp r1 r3 imm9 hint => Sys2Proof.Machine.execLd2CNcR1R3Imm9 qp r1 r3 imm9 hint s
  | .ld4CNcR1R3 qp r1 r3 hint => Sys2Proof.Machine.execLd4CNcR1R3 qp r1 r3 hint s
  | .ld4CNcR1R3R2 qp r1 r3 r2 hint => Sys2Proof.Machine.execLd4CNcR1R3R2 qp r1 r3 r2 hint s
  | .ld4CNcR1R3Imm9 qp r1 r3 imm9 hint => Sys2Proof.Machine.execLd4CNcR1R3Imm9 qp r1 r3 imm9 hint s
  | .ld8CNcR1R3 qp r1 r3 hint => Sys2Proof.Machine.execLd8CNcR1R3 qp r1 r3 hint s
  | .ld8CNcR1R3R2 qp r1 r3 r2 hint => Sys2Proof.Machine.execLd8CNcR1R3R2 qp r1 r3 r2 hint s
  | .ld8CNcR1R3Imm9 qp r1 r3 imm9 hint => Sys2Proof.Machine.execLd8CNcR1R3Imm9 qp r1 r3 imm9 hint s
  | .ld1CClrAcqR1R3 qp r1 r3 hint => Sys2Proof.Machine.execLd1CClrAcqR1R3 qp r1 r3 hint s
  | .ld1CClrAcqR1R3R2 qp r1 r3 r2 hint => Sys2Proof.Machine.execLd1CClrAcqR1R3R2 qp r1 r3 r2 hint s
  | .ld1CClrAcqR1R3Imm9 qp r1 r3 imm9 hint => Sys2Proof.Machine.execLd1CClrAcqR1R3Imm9 qp r1 r3 imm9 hint s
  | .ld2CClrAcqR1R3 qp r1 r3 hint => Sys2Proof.Machine.execLd2CClrAcqR1R3 qp r1 r3 hint s
  | .ld2CClrAcqR1R3R2 qp r1 r3 r2 hint => Sys2Proof.Machine.execLd2CClrAcqR1R3R2 qp r1 r3 r2 hint s
  | .ld2CClrAcqR1R3Imm9 qp r1 r3 imm9 hint => Sys2Proof.Machine.execLd2CClrAcqR1R3Imm9 qp r1 r3 imm9 hint s
  | .ld4CClrAcqR1R3 qp r1 r3 hint => Sys2Proof.Machine.execLd4CClrAcqR1R3 qp r1 r3 hint s
  | .ld4CClrAcqR1R3R2 qp r1 r3 r2 hint => Sys2Proof.Machine.execLd4CClrAcqR1R3R2 qp r1 r3 r2 hint s
  | .ld4CClrAcqR1R3Imm9 qp r1 r3 imm9 hint => Sys2Proof.Machine.execLd4CClrAcqR1R3Imm9 qp r1 r3 imm9 hint s
  | .ld8CClrAcqR1R3 qp r1 r3 hint => Sys2Proof.Machine.execLd8CClrAcqR1R3 qp r1 r3 hint s
  | .ld8CClrAcqR1R3R2 qp r1 r3 r2 hint => Sys2Proof.Machine.execLd8CClrAcqR1R3R2 qp r1 r3 r2 hint s
  | .ld8CClrAcqR1R3Imm9 qp r1 r3 imm9 hint => Sys2Proof.Machine.execLd8CClrAcqR1R3Imm9 qp r1 r3 imm9 hint s
  | .ld8FillR1R3 qp r1 r3 hint => Sys2Proof.Machine.execLd8FillR1R3 qp r1 r3 hint s
  | .ld8FillR1R3R2 qp r1 r3 r2 hint => Sys2Proof.Machine.execLd8FillR1R3R2 qp r1 r3 r2 hint s
  | .ld8FillR1R3Imm9 qp r1 r3 imm9 hint => Sys2Proof.Machine.execLd8FillR1R3Imm9 qp r1 r3 imm9 hint s
  | .st1R3R2 qp r3 r2 hint => Sys2Proof.Machine.execSt1R3R2 qp r3 r2 hint s
  | .st1R3R2Imm9 qp r3 r2 imm9 hint => Sys2Proof.Machine.execSt1R3R2Imm9 qp r3 r2 imm9 hint s
  | .st2R3R2 qp r3 r2 hint => Sys2Proof.Machine.execSt2R3R2 qp r3 r2 hint s
  | .st2R3R2Imm9 qp r3 r2 imm9 hint => Sys2Proof.Machine.execSt2R3R2Imm9 qp r3 r2 imm9 hint s
  | .st4R3R2 qp r3 r2 hint => Sys2Proof.Machine.execSt4R3R2 qp r3 r2 hint s
  | .st4R3R2Imm9 qp r3 r2 imm9 hint => Sys2Proof.Machine.execSt4R3R2Imm9 qp r3 r2 imm9 hint s
  | .st8R3R2 qp r3 r2 hint => Sys2Proof.Machine.execSt8R3R2 qp r3 r2 hint s
  | .st8R3R2Imm9 qp r3 r2 imm9 hint => Sys2Proof.Machine.execSt8R3R2Imm9 qp r3 r2 imm9 hint s
  | .st1RelR3R2 qp r3 r2 hint => Sys2Proof.Machine.execSt1RelR3R2 qp r3 r2 hint s
  | .st1RelR3R2Imm9 qp r3 r2 imm9 hint => Sys2Proof.Machine.execSt1RelR3R2Imm9 qp r3 r2 imm9 hint s
  | .st2RelR3R2 qp r3 r2 hint => Sys2Proof.Machine.execSt2RelR3R2 qp r3 r2 hint s
  | .st2RelR3R2Imm9 qp r3 r2 imm9 hint => Sys2Proof.Machine.execSt2RelR3R2Imm9 qp r3 r2 imm9 hint s
  | .st4RelR3R2 qp r3 r2 hint => Sys2Proof.Machine.execSt4RelR3R2 qp r3 r2 hint s
  | .st4RelR3R2Imm9 qp r3 r2 imm9 hint => Sys2Proof.Machine.execSt4RelR3R2Imm9 qp r3 r2 imm9 hint s
  | .st8RelR3R2 qp r3 r2 hint => Sys2Proof.Machine.execSt8RelR3R2 qp r3 r2 hint s
  | .st8RelR3R2Imm9 qp r3 r2 imm9 hint => Sys2Proof.Machine.execSt8RelR3R2Imm9 qp r3 r2 imm9 hint s
  | .st8SpillR3R2 qp r3 r2 hint => Sys2Proof.Machine.execSt8SpillR3R2 qp r3 r2 hint s
  | .st8SpillR3R2Imm9 qp r3 r2 imm9 hint => Sys2Proof.Machine.execSt8SpillR3R2Imm9 qp r3 r2 imm9 hint s
  | .ldfeF1R3 qp f1 r3 hint => Sys2Proof.Machine.execLdfeF1R3 qp f1 r3 hint s
  | .ldfeF1R3R2 qp f1 r3 r2 hint => Sys2Proof.Machine.execLdfeF1R3R2 qp f1 r3 r2 hint s
  | .ldfeF1R3Imm9 qp f1 r3 imm9 hint => Sys2Proof.Machine.execLdfeF1R3Imm9 qp f1 r3 imm9 hint s
  | .ldf8F1R3 qp f1 r3 hint => Sys2Proof.Machine.execLdf8F1R3 qp f1 r3 hint s
  | .ldf8F1R3R2 qp f1 r3 r2 hint => Sys2Proof.Machine.execLdf8F1R3R2 qp f1 r3 r2 hint s
  | .ldf8F1R3Imm9 qp f1 r3 imm9 hint => Sys2Proof.Machine.execLdf8F1R3Imm9 qp f1 r3 imm9 hint s
  | .ldfsF1R3 qp f1 r3 hint => Sys2Proof.Machine.execLdfsF1R3 qp f1 r3 hint s
  | .ldfsF1R3R2 qp f1 r3 r2 hint => Sys2Proof.Machine.execLdfsF1R3R2 qp f1 r3 r2 hint s
  | .ldfsF1R3Imm9 qp f1 r3 imm9 hint => Sys2Proof.Machine.execLdfsF1R3Imm9 qp f1 r3 imm9 hint s
  | .ldfdF1R3 qp f1 r3 hint => Sys2Proof.Machine.execLdfdF1R3 qp f1 r3 hint s
  | .ldfdF1R3R2 qp f1 r3 r2 hint => Sys2Proof.Machine.execLdfdF1R3R2 qp f1 r3 r2 hint s
  | .ldfdF1R3Imm9 qp f1 r3 imm9 hint => Sys2Proof.Machine.execLdfdF1R3Imm9 qp f1 r3 imm9 hint s
  | .ldfeSF1R3 qp f1 r3 hint => Sys2Proof.Machine.execLdfeSF1R3 qp f1 r3 hint s
  | .ldfeSF1R3R2 qp f1 r3 r2 hint => Sys2Proof.Machine.execLdfeSF1R3R2 qp f1 r3 r2 hint s
  | .ldfeSF1R3Imm9 qp f1 r3 imm9 hint => Sys2Proof.Machine.execLdfeSF1R3Imm9 qp f1 r3 imm9 hint s
  | .ldf8SF1R3 qp f1 r3 hint => Sys2Proof.Machine.execLdf8SF1R3 qp f1 r3 hint s
  | .ldf8SF1R3R2 qp f1 r3 r2 hint => Sys2Proof.Machine.execLdf8SF1R3R2 qp f1 r3 r2 hint s
  | .ldf8SF1R3Imm9 qp f1 r3 imm9 hint => Sys2Proof.Machine.execLdf8SF1R3Imm9 qp f1 r3 imm9 hint s
  | .ldfsSF1R3 qp f1 r3 hint => Sys2Proof.Machine.execLdfsSF1R3 qp f1 r3 hint s
  | .ldfsSF1R3R2 qp f1 r3 r2 hint => Sys2Proof.Machine.execLdfsSF1R3R2 qp f1 r3 r2 hint s
  | .ldfsSF1R3Imm9 qp f1 r3 imm9 hint => Sys2Proof.Machine.execLdfsSF1R3Imm9 qp f1 r3 imm9 hint s
  | .ldfdSF1R3 qp f1 r3 hint => Sys2Proof.Machine.execLdfdSF1R3 qp f1 r3 hint s
  | .ldfdSF1R3R2 qp f1 r3 r2 hint => Sys2Proof.Machine.execLdfdSF1R3R2 qp f1 r3 r2 hint s
  | .ldfdSF1R3Imm9 qp f1 r3 imm9 hint => Sys2Proof.Machine.execLdfdSF1R3Imm9 qp f1 r3 imm9 hint s
  | .ldfeAF1R3 qp f1 r3 hint => Sys2Proof.Machine.execLdfeAF1R3 qp f1 r3 hint s
  | .ldfeAF1R3R2 qp f1 r3 r2 hint => Sys2Proof.Machine.execLdfeAF1R3R2 qp f1 r3 r2 hint s
  | .ldfeAF1R3Imm9 qp f1 r3 imm9 hint => Sys2Proof.Machine.execLdfeAF1R3Imm9 qp f1 r3 imm9 hint s
  | .ldf8AF1R3 qp f1 r3 hint => Sys2Proof.Machine.execLdf8AF1R3 qp f1 r3 hint s
  | .ldf8AF1R3R2 qp f1 r3 r2 hint => Sys2Proof.Machine.execLdf8AF1R3R2 qp f1 r3 r2 hint s
  | .ldf8AF1R3Imm9 qp f1 r3 imm9 hint => Sys2Proof.Machine.execLdf8AF1R3Imm9 qp f1 r3 imm9 hint s
  | .ldfsAF1R3 qp f1 r3 hint => Sys2Proof.Machine.execLdfsAF1R3 qp f1 r3 hint s
  | .ldfsAF1R3R2 qp f1 r3 r2 hint => Sys2Proof.Machine.execLdfsAF1R3R2 qp f1 r3 r2 hint s
  | .ldfsAF1R3Imm9 qp f1 r3 imm9 hint => Sys2Proof.Machine.execLdfsAF1R3Imm9 qp f1 r3 imm9 hint s
  | .ldfdAF1R3 qp f1 r3 hint => Sys2Proof.Machine.execLdfdAF1R3 qp f1 r3 hint s
  | .ldfdAF1R3R2 qp f1 r3 r2 hint => Sys2Proof.Machine.execLdfdAF1R3R2 qp f1 r3 r2 hint s
  | .ldfdAF1R3Imm9 qp f1 r3 imm9 hint => Sys2Proof.Machine.execLdfdAF1R3Imm9 qp f1 r3 imm9 hint s
  | .ldfeSaF1R3 qp f1 r3 hint => Sys2Proof.Machine.execLdfeSaF1R3 qp f1 r3 hint s
  | .ldfeSaF1R3R2 qp f1 r3 r2 hint => Sys2Proof.Machine.execLdfeSaF1R3R2 qp f1 r3 r2 hint s
  | .ldfeSaF1R3Imm9 qp f1 r3 imm9 hint => Sys2Proof.Machine.execLdfeSaF1R3Imm9 qp f1 r3 imm9 hint s
  | .ldf8SaF1R3 qp f1 r3 hint => Sys2Proof.Machine.execLdf8SaF1R3 qp f1 r3 hint s
  | .ldf8SaF1R3R2 qp f1 r3 r2 hint => Sys2Proof.Machine.execLdf8SaF1R3R2 qp f1 r3 r2 hint s
  | .ldf8SaF1R3Imm9 qp f1 r3 imm9 hint => Sys2Proof.Machine.execLdf8SaF1R3Imm9 qp f1 r3 imm9 hint s
  | .ldfsSaF1R3 qp f1 r3 hint => Sys2Proof.Machine.execLdfsSaF1R3 qp f1 r3 hint s
  | .ldfsSaF1R3R2 qp f1 r3 r2 hint => Sys2Proof.Machine.execLdfsSaF1R3R2 qp f1 r3 r2 hint s
  | .ldfsSaF1R3Imm9 qp f1 r3 imm9 hint => Sys2Proof.Machine.execLdfsSaF1R3Imm9 qp f1 r3 imm9 hint s
  | .ldfdSaF1R3 qp f1 r3 hint => Sys2Proof.Machine.execLdfdSaF1R3 qp f1 r3 hint s
  | .ldfdSaF1R3R2 qp f1 r3 r2 hint => Sys2Proof.Machine.execLdfdSaF1R3R2 qp f1 r3 r2 hint s
  | .ldfdSaF1R3Imm9 qp f1 r3 imm9 hint => Sys2Proof.Machine.execLdfdSaF1R3Imm9 qp f1 r3 imm9 hint s
  | .ldfeCClrF1R3 qp f1 r3 hint => Sys2Proof.Machine.execLdfeCClrF1R3 qp f1 r3 hint s
  | .ldfeCClrF1R3R2 qp f1 r3 r2 hint => Sys2Proof.Machine.execLdfeCClrF1R3R2 qp f1 r3 r2 hint s
  | .ldfeCClrF1R3Imm9 qp f1 r3 imm9 hint => Sys2Proof.Machine.execLdfeCClrF1R3Imm9 qp f1 r3 imm9 hint s
  | .ldf8CClrF1R3 qp f1 r3 hint => Sys2Proof.Machine.execLdf8CClrF1R3 qp f1 r3 hint s
  | .ldf8CClrF1R3R2 qp f1 r3 r2 hint => Sys2Proof.Machine.execLdf8CClrF1R3R2 qp f1 r3 r2 hint s
  | .ldf8CClrF1R3Imm9 qp f1 r3 imm9 hint => Sys2Proof.Machine.execLdf8CClrF1R3Imm9 qp f1 r3 imm9 hint s
  | .ldfsCClrF1R3 qp f1 r3 hint => Sys2Proof.Machine.execLdfsCClrF1R3 qp f1 r3 hint s
  | .ldfsCClrF1R3R2 qp f1 r3 r2 hint => Sys2Proof.Machine.execLdfsCClrF1R3R2 qp f1 r3 r2 hint s
  | .ldfsCClrF1R3Imm9 qp f1 r3 imm9 hint => Sys2Proof.Machine.execLdfsCClrF1R3Imm9 qp f1 r3 imm9 hint s
  | .ldfdCClrF1R3 qp f1 r3 hint => Sys2Proof.Machine.execLdfdCClrF1R3 qp f1 r3 hint s
  | .ldfdCClrF1R3R2 qp f1 r3 r2 hint => Sys2Proof.Machine.execLdfdCClrF1R3R2 qp f1 r3 r2 hint s
  | .ldfdCClrF1R3Imm9 qp f1 r3 imm9 hint => Sys2Proof.Machine.execLdfdCClrF1R3Imm9 qp f1 r3 imm9 hint s
  | .ldfeCNcF1R3 qp f1 r3 hint => Sys2Proof.Machine.execLdfeCNcF1R3 qp f1 r3 hint s
  | .ldfeCNcF1R3R2 qp f1 r3 r2 hint => Sys2Proof.Machine.execLdfeCNcF1R3R2 qp f1 r3 r2 hint s
  | .ldfeCNcF1R3Imm9 qp f1 r3 imm9 hint => Sys2Proof.Machine.execLdfeCNcF1R3Imm9 qp f1 r3 imm9 hint s
  | .ldf8CNcF1R3 qp f1 r3 hint => Sys2Proof.Machine.execLdf8CNcF1R3 qp f1 r3 hint s
  | .ldf8CNcF1R3R2 qp f1 r3 r2 hint => Sys2Proof.Machine.execLdf8CNcF1R3R2 qp f1 r3 r2 hint s
  | .ldf8CNcF1R3Imm9 qp f1 r3 imm9 hint => Sys2Proof.Machine.execLdf8CNcF1R3Imm9 qp f1 r3 imm9 hint s
  | .ldfsCNcF1R3 qp f1 r3 hint => Sys2Proof.Machine.execLdfsCNcF1R3 qp f1 r3 hint s
  | .ldfsCNcF1R3R2 qp f1 r3 r2 hint => Sys2Proof.Machine.execLdfsCNcF1R3R2 qp f1 r3 r2 hint s
  | .ldfsCNcF1R3Imm9 qp f1 r3 imm9 hint => Sys2Proof.Machine.execLdfsCNcF1R3Imm9 qp f1 r3 imm9 hint s
  | .ldfdCNcF1R3 qp f1 r3 hint => Sys2Proof.Machine.execLdfdCNcF1R3 qp f1 r3 hint s
  | .ldfdCNcF1R3R2 qp f1 r3 r2 hint => Sys2Proof.Machine.execLdfdCNcF1R3R2 qp f1 r3 r2 hint s
  | .ldfdCNcF1R3Imm9 qp f1 r3 imm9 hint => Sys2Proof.Machine.execLdfdCNcF1R3Imm9 qp f1 r3 imm9 hint s
  | .ldfFillF1R3 qp f1 r3 hint => Sys2Proof.Machine.execLdfFillF1R3 qp f1 r3 hint s
  | .ldfFillF1R3R2 qp f1 r3 r2 hint => Sys2Proof.Machine.execLdfFillF1R3R2 qp f1 r3 r2 hint s
  | .ldfFillF1R3Imm9 qp f1 r3 imm9 hint => Sys2Proof.Machine.execLdfFillF1R3Imm9 qp f1 r3 imm9 hint s
  | .stfeR3F2 qp r3 f2 hint => Sys2Proof.Machine.execStfeR3F2 qp r3 f2 hint s
  | .stfeR3F2Imm9 qp r3 f2 imm9 hint => Sys2Proof.Machine.execStfeR3F2Imm9 qp r3 f2 imm9 hint s
  | .stf8R3F2 qp r3 f2 hint => Sys2Proof.Machine.execStf8R3F2 qp r3 f2 hint s
  | .stf8R3F2Imm9 qp r3 f2 imm9 hint => Sys2Proof.Machine.execStf8R3F2Imm9 qp r3 f2 imm9 hint s
  | .stfsR3F2 qp r3 f2 hint => Sys2Proof.Machine.execStfsR3F2 qp r3 f2 hint s
  | .stfsR3F2Imm9 qp r3 f2 imm9 hint => Sys2Proof.Machine.execStfsR3F2Imm9 qp r3 f2 imm9 hint s
  | .stfdR3F2 qp r3 f2 hint => Sys2Proof.Machine.execStfdR3F2 qp r3 f2 hint s
  | .stfdR3F2Imm9 qp r3 f2 imm9 hint => Sys2Proof.Machine.execStfdR3F2Imm9 qp r3 f2 imm9 hint s
  | .stfSpillR3F2 qp r3 f2 hint => Sys2Proof.Machine.execStfSpillR3F2 qp r3 f2 hint s
  | .stfSpillR3F2Imm9 qp r3 f2 imm9 hint => Sys2Proof.Machine.execStfSpillR3F2Imm9 qp r3 f2 imm9 hint s
  | .ldfpsF1F2R3 qp f1 f2 r3 hint => Sys2Proof.Machine.execLdfpsF1F2R3 qp f1 f2 r3 hint s
  | .ldfpsF1F2R38 qp f1 f2 r3 hint => Sys2Proof.Machine.execLdfpsF1F2R38 qp f1 f2 r3 hint s
  | .ldfpsSF1F2R3 qp f1 f2 r3 hint => Sys2Proof.Machine.execLdfpsSF1F2R3 qp f1 f2 r3 hint s
  | .ldfpsSF1F2R38 qp f1 f2 r3 hint => Sys2Proof.Machine.execLdfpsSF1F2R38 qp f1 f2 r3 hint s
  | .ldfpsAF1F2R3 qp f1 f2 r3 hint => Sys2Proof.Machine.execLdfpsAF1F2R3 qp f1 f2 r3 hint s
  | .ldfpsAF1F2R38 qp f1 f2 r3 hint => Sys2Proof.Machine.execLdfpsAF1F2R38 qp f1 f2 r3 hint s
  | .ldfpsSaF1F2R3 qp f1 f2 r3 hint => Sys2Proof.Machine.execLdfpsSaF1F2R3 qp f1 f2 r3 hint s
  | .ldfpsSaF1F2R38 qp f1 f2 r3 hint => Sys2Proof.Machine.execLdfpsSaF1F2R38 qp f1 f2 r3 hint s
  | .ldfpsCClrF1F2R3 qp f1 f2 r3 hint => Sys2Proof.Machine.execLdfpsCClrF1F2R3 qp f1 f2 r3 hint s
  | .ldfpsCClrF1F2R38 qp f1 f2 r3 hint => Sys2Proof.Machine.execLdfpsCClrF1F2R38 qp f1 f2 r3 hint s
  | .ldfpsCNcF1F2R3 qp f1 f2 r3 hint => Sys2Proof.Machine.execLdfpsCNcF1F2R3 qp f1 f2 r3 hint s
  | .ldfpsCNcF1F2R38 qp f1 f2 r3 hint => Sys2Proof.Machine.execLdfpsCNcF1F2R38 qp f1 f2 r3 hint s
  | .ldfpdF1F2R3 qp f1 f2 r3 hint => Sys2Proof.Machine.execLdfpdF1F2R3 qp f1 f2 r3 hint s
  | .ldfpdF1F2R316 qp f1 f2 r3 hint => Sys2Proof.Machine.execLdfpdF1F2R316 qp f1 f2 r3 hint s
  | .ldfpdSF1F2R3 qp f1 f2 r3 hint => Sys2Proof.Machine.execLdfpdSF1F2R3 qp f1 f2 r3 hint s
  | .ldfpdSF1F2R316 qp f1 f2 r3 hint => Sys2Proof.Machine.execLdfpdSF1F2R316 qp f1 f2 r3 hint s
  | .ldfpdAF1F2R3 qp f1 f2 r3 hint => Sys2Proof.Machine.execLdfpdAF1F2R3 qp f1 f2 r3 hint s
  | .ldfpdAF1F2R316 qp f1 f2 r3 hint => Sys2Proof.Machine.execLdfpdAF1F2R316 qp f1 f2 r3 hint s
  | .ldfpdSaF1F2R3 qp f1 f2 r3 hint => Sys2Proof.Machine.execLdfpdSaF1F2R3 qp f1 f2 r3 hint s
  | .ldfpdSaF1F2R316 qp f1 f2 r3 hint => Sys2Proof.Machine.execLdfpdSaF1F2R316 qp f1 f2 r3 hint s
  | .ldfpdCClrF1F2R3 qp f1 f2 r3 hint => Sys2Proof.Machine.execLdfpdCClrF1F2R3 qp f1 f2 r3 hint s
  | .ldfpdCClrF1F2R316 qp f1 f2 r3 hint => Sys2Proof.Machine.execLdfpdCClrF1F2R316 qp f1 f2 r3 hint s
  | .ldfpdCNcF1F2R3 qp f1 f2 r3 hint => Sys2Proof.Machine.execLdfpdCNcF1F2R3 qp f1 f2 r3 hint s
  | .ldfpdCNcF1F2R316 qp f1 f2 r3 hint => Sys2Proof.Machine.execLdfpdCNcF1F2R316 qp f1 f2 r3 hint s
  | .ldfp8F1F2R3 qp f1 f2 r3 hint => Sys2Proof.Machine.execLdfp8F1F2R3 qp f1 f2 r3 hint s
  | .ldfp8F1F2R316 qp f1 f2 r3 hint => Sys2Proof.Machine.execLdfp8F1F2R316 qp f1 f2 r3 hint s
  | .ldfp8SF1F2R3 qp f1 f2 r3 hint => Sys2Proof.Machine.execLdfp8SF1F2R3 qp f1 f2 r3 hint s
  | .ldfp8SF1F2R316 qp f1 f2 r3 hint => Sys2Proof.Machine.execLdfp8SF1F2R316 qp f1 f2 r3 hint s
  | .ldfp8AF1F2R3 qp f1 f2 r3 hint => Sys2Proof.Machine.execLdfp8AF1F2R3 qp f1 f2 r3 hint s
  | .ldfp8AF1F2R316 qp f1 f2 r3 hint => Sys2Proof.Machine.execLdfp8AF1F2R316 qp f1 f2 r3 hint s
  | .ldfp8SaF1F2R3 qp f1 f2 r3 hint => Sys2Proof.Machine.execLdfp8SaF1F2R3 qp f1 f2 r3 hint s
  | .ldfp8SaF1F2R316 qp f1 f2 r3 hint => Sys2Proof.Machine.execLdfp8SaF1F2R316 qp f1 f2 r3 hint s
  | .ldfp8CClrF1F2R3 qp f1 f2 r3 hint => Sys2Proof.Machine.execLdfp8CClrF1F2R3 qp f1 f2 r3 hint s
  | .ldfp8CClrF1F2R316 qp f1 f2 r3 hint => Sys2Proof.Machine.execLdfp8CClrF1F2R316 qp f1 f2 r3 hint s
  | .ldfp8CNcF1F2R3 qp f1 f2 r3 hint => Sys2Proof.Machine.execLdfp8CNcF1F2R3 qp f1 f2 r3 hint s
  | .ldfp8CNcF1F2R316 qp f1 f2 r3 hint => Sys2Proof.Machine.execLdfp8CNcF1F2R316 qp f1 f2 r3 hint s
  | .lfetchR3 qp r3 hint => Sys2Proof.Machine.execLfetchR3 qp r3 hint s
  | .lfetchR3R2 qp r3 r2 hint => Sys2Proof.Machine.execLfetchR3R2 qp r3 r2 hint s
  | .lfetchR3Imm9 qp r3 imm9 hint => Sys2Proof.Machine.execLfetchR3Imm9 qp r3 imm9 hint s
  | .lfetchExclR3 qp r3 hint => Sys2Proof.Machine.execLfetchExclR3 qp r3 hint s
  | .lfetchExclR3R2 qp r3 r2 hint => Sys2Proof.Machine.execLfetchExclR3R2 qp r3 r2 hint s
  | .lfetchExclR3Imm9 qp r3 imm9 hint => Sys2Proof.Machine.execLfetchExclR3Imm9 qp r3 imm9 hint s
  | .lfetchFaultR3 qp r3 hint => Sys2Proof.Machine.execLfetchFaultR3 qp r3 hint s
  | .lfetchFaultR3R2 qp r3 r2 hint => Sys2Proof.Machine.execLfetchFaultR3R2 qp r3 r2 hint s
  | .lfetchFaultR3Imm9 qp r3 imm9 hint => Sys2Proof.Machine.execLfetchFaultR3Imm9 qp r3 imm9 hint s
  | .lfetchFaultExclR3 qp r3 hint => Sys2Proof.Machine.execLfetchFaultExclR3 qp r3 hint s
  | .lfetchFaultExclR3R2 qp r3 r2 hint => Sys2Proof.Machine.execLfetchFaultExclR3R2 qp r3 r2 hint s
  | .lfetchFaultExclR3Imm9 qp r3 imm9 hint => Sys2Proof.Machine.execLfetchFaultExclR3Imm9 qp r3 imm9 hint s
  | .cmpxchg1AcqR1R3R2ArCcv qp r1 r3 r2 hint => Sys2Proof.Machine.execCmpxchg1AcqR1R3R2ArCcv qp r1 r3 r2 hint s
  | .cmpxchg1RelR1R3R2ArCcv qp r1 r3 r2 hint => Sys2Proof.Machine.execCmpxchg1RelR1R3R2ArCcv qp r1 r3 r2 hint s
  | .cmpxchg2AcqR1R3R2ArCcv qp r1 r3 r2 hint => Sys2Proof.Machine.execCmpxchg2AcqR1R3R2ArCcv qp r1 r3 r2 hint s
  | .cmpxchg2RelR1R3R2ArCcv qp r1 r3 r2 hint => Sys2Proof.Machine.execCmpxchg2RelR1R3R2ArCcv qp r1 r3 r2 hint s
  | .cmpxchg4AcqR1R3R2ArCcv qp r1 r3 r2 hint => Sys2Proof.Machine.execCmpxchg4AcqR1R3R2ArCcv qp r1 r3 r2 hint s
  | .cmpxchg4RelR1R3R2ArCcv qp r1 r3 r2 hint => Sys2Proof.Machine.execCmpxchg4RelR1R3R2ArCcv qp r1 r3 r2 hint s
  | .cmpxchg8AcqR1R3R2ArCcv qp r1 r3 r2 hint => Sys2Proof.Machine.execCmpxchg8AcqR1R3R2ArCcv qp r1 r3 r2 hint s
  | .cmpxchg8RelR1R3R2ArCcv qp r1 r3 r2 hint => Sys2Proof.Machine.execCmpxchg8RelR1R3R2ArCcv qp r1 r3 r2 hint s
  | .xchg1R1R3R2 qp r1 r3 r2 hint => Sys2Proof.Machine.execXchg1R1R3R2 qp r1 r3 r2 hint s
  | .xchg2R1R3R2 qp r1 r3 r2 hint => Sys2Proof.Machine.execXchg2R1R3R2 qp r1 r3 r2 hint s
  | .xchg4R1R3R2 qp r1 r3 r2 hint => Sys2Proof.Machine.execXchg4R1R3R2 qp r1 r3 r2 hint s
  | .xchg8R1R3R2 qp r1 r3 r2 hint => Sys2Proof.Machine.execXchg8R1R3R2 qp r1 r3 r2 hint s
  | .fetchadd4AcqR1R3Inc3 qp r1 r3 inc3 hint => Sys2Proof.Machine.execFetchadd4AcqR1R3Inc3 qp r1 r3 inc3 hint s
  | .fetchadd4RelR1R3Inc3 qp r1 r3 inc3 hint => Sys2Proof.Machine.execFetchadd4RelR1R3Inc3 qp r1 r3 inc3 hint s
  | .fetchadd8AcqR1R3Inc3 qp r1 r3 inc3 hint => Sys2Proof.Machine.execFetchadd8AcqR1R3Inc3 qp r1 r3 inc3 hint s
  | .fetchadd8RelR1R3Inc3 qp r1 r3 inc3 hint => Sys2Proof.Machine.execFetchadd8RelR1R3Inc3 qp r1 r3 inc3 hint s
  | .setfSigF1R2 qp f1 r2 => Sys2Proof.Machine.execSetfSigF1R2 qp f1 r2 s
  | .setfExpF1R2 qp f1 r2 => Sys2Proof.Machine.execSetfExpF1R2 qp f1 r2 s
  | .setfSF1R2 qp f1 r2 => Sys2Proof.Machine.execSetfSF1R2 qp f1 r2 s
  | .setfDF1R2 qp f1 r2 => Sys2Proof.Machine.execSetfDF1R2 qp f1 r2 s
  | .getfSigR1F2 qp r1 f2 => Sys2Proof.Machine.execGetfSigR1F2 qp r1 f2 s
  | .getfExpR1F2 qp r1 f2 => Sys2Proof.Machine.execGetfExpR1F2 qp r1 f2 s
  | .getfSR1F2 qp r1 f2 => Sys2Proof.Machine.execGetfSR1F2 qp r1 f2 s
  | .getfDR1F2 qp r1 f2 => Sys2Proof.Machine.execGetfDR1F2 qp r1 f2 s
  | .chkSMR2Target25 qp r2 imm21 => Sys2Proof.Machine.execChkSMR2Target25 qp r2 imm21 s
  | .chkSF2Target25 qp f2 imm21 => Sys2Proof.Machine.execChkSF2Target25 qp f2 imm21 s
  | .chkAClrR1Target25 qp r1 imm21 => Sys2Proof.Machine.execChkAClrR1Target25 qp r1 imm21 s
  | .chkAClrF1Target25 qp f1 imm21 => Sys2Proof.Machine.execChkAClrF1Target25 qp f1 imm21 s
  | .chkANcR1Target25 qp r1 imm21 => Sys2Proof.Machine.execChkANcR1Target25 qp r1 imm21 s
  | .chkANcF1Target25 qp f1 imm21 => Sys2Proof.Machine.execChkANcF1Target25 qp f1 imm21 s
  | .invala qp => Sys2Proof.Machine.execInvala qp s
  | .invalaER1 qp r1 => Sys2Proof.Machine.execInvalaER1 qp r1 s
  | .invalaEF1 qp f1 => Sys2Proof.Machine.execInvalaEF1 qp f1 s
  | .allocR1ArPfsILOR qp r1 sof sol sor => Sys2Proof.Machine.execAllocR1ArPfsILOR qp r1 sof sol sor s
  | .flushrs qp => Sys2Proof.Machine.execFlushrs qp s
  | .loadrs qp => Sys2Proof.Machine.execLoadrs qp s
  | .fcR3 qp r3 => Sys2Proof.Machine.execFcR3 qp r3 s
  | .ptcER3 qp r3 => Sys2Proof.Machine.execPtcER3 qp r3 s
  | .ptcLR3R2 qp r3 r2 => Sys2Proof.Machine.execPtcLR3R2 qp r3 r2 s
  | .ptcGR3R2 qp r3 r2 => Sys2Proof.Machine.execPtcGR3R2 qp r3 r2 s
  | .ptcGaR3R2 qp r3 r2 => Sys2Proof.Machine.execPtcGaR3R2 qp r3 r2 s
  | .ptrDR3R2 qp r3 r2 => Sys2Proof.Machine.execPtrDR3R2 qp r3 r2 s
  | .ptrIR3R2 qp r3 r2 => Sys2Proof.Machine.execPtrIR3R2 qp r3 r2 s
  | .mf qp => Sys2Proof.Machine.execMf qp s
  | .mfA qp => Sys2Proof.Machine.execMfA qp s
  | .fwb qp => Sys2Proof.Machine.execFwb qp s
  | .syncI qp => Sys2Proof.Machine.execSyncI qp s
  | .srlzD qp => Sys2Proof.Machine.execSrlzD qp s
  | .srlzI qp => Sys2Proof.Machine.execSrlzI qp s
  | .movMAr3R2 qp ar3 r2 => Sys2Proof.Machine.execMovMAr3R2 qp ar3 r2 s
  | .movMAr3Imm8 qp ar3 imm8 => Sys2Proof.Machine.execMovMAr3Imm8 qp ar3 imm8 s
  | .movMR1Ar3 qp r1 ar3 => Sys2Proof.Machine.execMovMR1Ar3 qp r1 ar3 s
  | .movCr3R2 qp cr3 r2 => Sys2Proof.Machine.execMovCr3R2 qp cr3 r2 s
  | .movR1Cr3 qp r1 cr3 => Sys2Proof.Machine.execMovR1Cr3 qp r1 cr3 s
  | .movPsrLR2 qp r2 => Sys2Proof.Machine.execMovPsrLR2 qp r2 s
  | .movPsrUmR2 qp r2 => Sys2Proof.Machine.execMovPsrUmR2 qp r2 s
  | .movR1Psr qp r1 => Sys2Proof.Machine.execMovR1Psr qp r1 s
  | .movR1PsrUm qp r1 => Sys2Proof.Machine.execMovR1PsrUm qp r1 s
  | .breakMImm21 qp imm21 => Sys2Proof.Machine.execBreakMImm21 qp imm21 s
  | .nopMImm21 qp imm21 => Sys2Proof.Machine.execNopMImm21 qp imm21 s
  | .sumImm24 qp imm24 => Sys2Proof.Machine.execSumImm24 qp imm24 s
  | .rumImm24 qp imm24 => Sys2Proof.Machine.execRumImm24 qp imm24 s
  | .ssmImm24 qp imm24 => Sys2Proof.Machine.execSsmImm24 qp imm24 s
  | .rsmImm24 qp imm24 => Sys2Proof.Machine.execRsmImm24 qp imm24 s
  | .movPmcR3R2 qp r3 r2 => Sys2Proof.Machine.execMovPmcR3R2 qp r3 r2 s
  | .movR1PmcR3 qp r1 r3 => Sys2Proof.Machine.execMovR1PmcR3 qp r1 r3 s
  | .movPmdR3R2 qp r3 r2 => Sys2Proof.Machine.execMovPmdR3R2 qp r3 r2 s
  | .movR1PmdR3 qp r1 r3 => Sys2Proof.Machine.execMovR1PmdR3 qp r1 r3 s
  | .movRrR3R2 qp r3 r2 => Sys2Proof.Machine.execMovRrR3R2 qp r3 r2 s
  | .movR1RrR3 qp r1 r3 => Sys2Proof.Machine.execMovR1RrR3 qp r1 r3 s
  | .movPkrR3R2 qp r3 r2 => Sys2Proof.Machine.execMovPkrR3R2 qp r3 r2 s
  | .movR1PkrR3 qp r1 r3 => Sys2Proof.Machine.execMovR1PkrR3 qp r1 r3 s
  | .movIbrR3R2 qp r3 r2 => Sys2Proof.Machine.execMovIbrR3R2 qp r3 r2 s
  | .movR1IbrR3 qp r1 r3 => Sys2Proof.Machine.execMovR1IbrR3 qp r1 r3 s
  | .movDbrR3R2 qp r3 r2 => Sys2Proof.Machine.execMovDbrR3R2 qp r3 r2 s
  | .movR1DbrR3 qp r1 r3 => Sys2Proof.Machine.execMovR1DbrR3 qp r1 r3 s
  | .movR1CpuidR3 qp r1 r3 => Sys2Proof.Machine.execMovR1CpuidR3 qp r1 r3 s
  | .itcDR2 qp r2 => Sys2Proof.Machine.execItcDR2 qp r2 s
  | .itcIR2 qp r2 => Sys2Proof.Machine.execItcIR2 qp r2 s
  | .itrDDtrR3R2 qp r3 r2 => Sys2Proof.Machine.execItrDDtrR3R2 qp r3 r2 s
  | .itrIItrR3R2 qp r3 r2 => Sys2Proof.Machine.execItrIItrR3R2 qp r3 r2 s
  | .probeRR1R3R2 qp r1 r3 r2 => Sys2Proof.Machine.execProbeRR1R3R2 qp r1 r3 r2 s
  | .probeRR1R3Imm2 qp r1 r3 imm2 => Sys2Proof.Machine.execProbeRR1R3Imm2 qp r1 r3 imm2 s
  | .probeWR1R3R2 qp r1 r3 r2 => Sys2Proof.Machine.execProbeWR1R3R2 qp r1 r3 r2 s
  | .probeWR1R3Imm2 qp r1 r3 imm2 => Sys2Proof.Machine.execProbeWR1R3Imm2 qp r1 r3 imm2 s
  | .probeRFaultR3Imm2 qp r3 imm2 => Sys2Proof.Machine.execProbeRFaultR3Imm2 qp r3 imm2 s
  | .probeWFaultR3Imm2 qp r3 imm2 => Sys2Proof.Machine.execProbeWFaultR3Imm2 qp r3 imm2 s
  | .probeRwFaultR3Imm2 qp r3 imm2 => Sys2Proof.Machine.execProbeRwFaultR3Imm2 qp r3 imm2 s
  | .tpaR1R3 qp r1 r3 => Sys2Proof.Machine.execTpaR1R3 qp r1 r3 s
  | .takR1R3 qp r1 r3 => Sys2Proof.Machine.execTakR1R3 qp r1 r3 s
  | .thashR1R3 qp r1 r3 => Sys2Proof.Machine.execThashR1R3 qp r1 r3 s
  | .ttagR1R3 qp r1 r3 => Sys2Proof.Machine.execTtagR1R3 qp r1 r3 s
  | .fmaSfF1F3F4F2 qp sf f1 f3 f4 f2 => Sys2Proof.Machine.execFmaSfF1F3F4F2 qp sf f1 f3 f4 f2 s
  | .fmaSSfF1F3F4F2 qp sf f1 f3 f4 f2 => Sys2Proof.Machine.execFmaSSfF1F3F4F2 qp sf f1 f3 f4 f2 s
  | .fmaDSfF1F3F4F2 qp sf f1 f3 f4 f2 => Sys2Proof.Machine.execFmaDSfF1F3F4F2 qp sf f1 f3 f4 f2 s
  | .fpmaSfF1F3F4F2 qp sf f1 f3 f4 f2 => Sys2Proof.Machine.execFpmaSfF1F3F4F2 qp sf f1 f3 f4 f2 s
  | .fmsSfF1F3F4F2 qp sf f1 f3 f4 f2 => Sys2Proof.Machine.execFmsSfF1F3F4F2 qp sf f1 f3 f4 f2 s
  | .fmsSSfF1F3F4F2 qp sf f1 f3 f4 f2 => Sys2Proof.Machine.execFmsSSfF1F3F4F2 qp sf f1 f3 f4 f2 s
  | .fmsDSfF1F3F4F2 qp sf f1 f3 f4 f2 => Sys2Proof.Machine.execFmsDSfF1F3F4F2 qp sf f1 f3 f4 f2 s
  | .fpmsSfF1F3F4F2 qp sf f1 f3 f4 f2 => Sys2Proof.Machine.execFpmsSfF1F3F4F2 qp sf f1 f3 f4 f2 s
  | .fnmaSfF1F3F4F2 qp sf f1 f3 f4 f2 => Sys2Proof.Machine.execFnmaSfF1F3F4F2 qp sf f1 f3 f4 f2 s
  | .fnmaSSfF1F3F4F2 qp sf f1 f3 f4 f2 => Sys2Proof.Machine.execFnmaSSfF1F3F4F2 qp sf f1 f3 f4 f2 s
  | .fnmaDSfF1F3F4F2 qp sf f1 f3 f4 f2 => Sys2Proof.Machine.execFnmaDSfF1F3F4F2 qp sf f1 f3 f4 f2 s
  | .fpnmaSfF1F3F4F2 qp sf f1 f3 f4 f2 => Sys2Proof.Machine.execFpnmaSfF1F3F4F2 qp sf f1 f3 f4 f2 s
  | .xmaLF1F3F4F2 qp f1 f3 f4 f2 => Sys2Proof.Machine.execXmaLF1F3F4F2 qp f1 f3 f4 f2 s
  | .xmaHuF1F3F4F2 qp f1 f3 f4 f2 => Sys2Proof.Machine.execXmaHuF1F3F4F2 qp f1 f3 f4 f2 s
  | .xmaHF1F3F4F2 qp f1 f3 f4 f2 => Sys2Proof.Machine.execXmaHF1F3F4F2 qp f1 f3 f4 f2 s
  | .fselectF1F3F4F2 qp f1 f3 f4 f2 => Sys2Proof.Machine.execFselectF1F3F4F2 qp f1 f3 f4 f2 s
  | .fcmpEqSfP1P2F2F3 qp p1 p2 f2 f3 sf => Sys2Proof.Machine.execFcmpEqSfP1P2F2F3 qp p1 p2 f2 f3 sf s
  | .fcmpEqUncSfP1P2F2F3 qp p1 p2 f2 f3 sf => Sys2Proof.Machine.execFcmpEqUncSfP1P2F2F3 qp p1 p2 f2 f3 sf s
  | .fcmpLtSfP1P2F2F3 qp p1 p2 f2 f3 sf => Sys2Proof.Machine.execFcmpLtSfP1P2F2F3 qp p1 p2 f2 f3 sf s
  | .fcmpLtUncSfP1P2F2F3 qp p1 p2 f2 f3 sf => Sys2Proof.Machine.execFcmpLtUncSfP1P2F2F3 qp p1 p2 f2 f3 sf s
  | .fcmpLeSfP1P2F2F3 qp p1 p2 f2 f3 sf => Sys2Proof.Machine.execFcmpLeSfP1P2F2F3 qp p1 p2 f2 f3 sf s
  | .fcmpLeUncSfP1P2F2F3 qp p1 p2 f2 f3 sf => Sys2Proof.Machine.execFcmpLeUncSfP1P2F2F3 qp p1 p2 f2 f3 sf s
  | .fcmpUnordSfP1P2F2F3 qp p1 p2 f2 f3 sf => Sys2Proof.Machine.execFcmpUnordSfP1P2F2F3 qp p1 p2 f2 f3 sf s
  | .fcmpUnordUncSfP1P2F2F3 qp p1 p2 f2 f3 sf => Sys2Proof.Machine.execFcmpUnordUncSfP1P2F2F3 qp p1 p2 f2 f3 sf s
  | .fclassMP1P2F2Fclass9 qp p1 p2 f2 fclass9 => Sys2Proof.Machine.execFclassMP1P2F2Fclass9 qp p1 p2 f2 fclass9 s
  | .fclassMUncP1P2F2Fclass9 qp p1 p2 f2 fclass9 => Sys2Proof.Machine.execFclassMUncP1P2F2Fclass9 qp p1 p2 f2 fclass9 s
  | .frcpaSfF1P2F2F3 qp f1 p2 f2 f3 sf => Sys2Proof.Machine.execFrcpaSfF1P2F2F3 qp f1 p2 f2 f3 sf s
  | .fprcpaSfF1P2F2F3 qp f1 p2 f2 f3 sf => Sys2Proof.Machine.execFprcpaSfF1P2F2F3 qp f1 p2 f2 f3 sf s
  | .frsqrtaSfF1P2F3 qp f1 p2 f3 sf => Sys2Proof.Machine.execFrsqrtaSfF1P2F3 qp f1 p2 f3 sf s
  | .fprsqrtaSfF1P2F3 qp f1 p2 f3 sf => Sys2Proof.Machine.execFprsqrtaSfF1P2F3 qp f1 p2 f3 sf s
  | .fminSfF1F2F3 qp f1 f2 f3 sf => Sys2Proof.Machine.execFminSfF1F2F3 qp f1 f2 f3 sf s
  | .fmaxSfF1F2F3 qp f1 f2 f3 sf => Sys2Proof.Machine.execFmaxSfF1F2F3 qp f1 f2 f3 sf s
  | .faminSfF1F2F3 qp f1 f2 f3 sf => Sys2Proof.Machine.execFaminSfF1F2F3 qp f1 f2 f3 sf s
  | .famaxSfF1F2F3 qp f1 f2 f3 sf => Sys2Proof.Machine.execFamaxSfF1F2F3 qp f1 f2 f3 sf s
  | .fpminSfF1F2F3 qp f1 f2 f3 sf => Sys2Proof.Machine.execFpminSfF1F2F3 qp f1 f2 f3 sf s
  | .fpmaxSfF1F2F3 qp f1 f2 f3 sf => Sys2Proof.Machine.execFpmaxSfF1F2F3 qp f1 f2 f3 sf s
  | .fpaminSfF1F2F3 qp f1 f2 f3 sf => Sys2Proof.Machine.execFpaminSfF1F2F3 qp f1 f2 f3 sf s
  | .fpamaxSfF1F2F3 qp f1 f2 f3 sf => Sys2Proof.Machine.execFpamaxSfF1F2F3 qp f1 f2 f3 sf s
  | .fpcmpFrelSfF1F2F3 qp f1 f2 f3 frel sf => Sys2Proof.Machine.execFpcmpFrelSfF1F2F3 qp f1 f2 f3 frel sf s
  | .fmergeSF1F2F3 qp f1 f2 f3 => Sys2Proof.Machine.execFmergeSF1F2F3 qp f1 f2 f3 s
  | .fmergeNsF1F2F3 qp f1 f2 f3 => Sys2Proof.Machine.execFmergeNsF1F2F3 qp f1 f2 f3 s
  | .fmergeSeF1F2F3 qp f1 f2 f3 => Sys2Proof.Machine.execFmergeSeF1F2F3 qp f1 f2 f3 s
  | .fandF1F2F3 qp f1 f2 f3 => Sys2Proof.Machine.execFandF1F2F3 qp f1 f2 f3 s
  | .fandcmF1F2F3 qp f1 f2 f3 => Sys2Proof.Machine.execFandcmF1F2F3 qp f1 f2 f3 s
  | .forF1F2F3 qp f1 f2 f3 => Sys2Proof.Machine.execForF1F2F3 qp f1 f2 f3 s
  | .fxorF1F2F3 qp f1 f2 f3 => Sys2Proof.Machine.execFxorF1F2F3 qp f1 f2 f3 s
  | .fmixLF1F2F3 qp f1 f2 f3 => Sys2Proof.Machine.execFmixLF1F2F3 qp f1 f2 f3 s
  | .fmixRF1F2F3 qp f1 f2 f3 => Sys2Proof.Machine.execFmixRF1F2F3 qp f1 f2 f3 s
  | .fmixLrF1F2F3 qp f1 f2 f3 => Sys2Proof.Machine.execFmixLrF1F2F3 qp f1 f2 f3 s
  | .fsxtLF1F2F3 qp f1 f2 f3 => Sys2Proof.Machine.execFsxtLF1F2F3 qp f1 f2 f3 s
  | .fsxtRF1F2F3 qp f1 f2 f3 => Sys2Proof.Machine.execFsxtRF1F2F3 qp f1 f2 f3 s
  | .fpackF1F2F3 qp f1 f2 f3 => Sys2Proof.Machine.execFpackF1F2F3 qp f1 f2 f3 s
  | .fswapF1F2F3 qp f1 f2 f3 => Sys2Proof.Machine.execFswapF1F2F3 qp f1 f2 f3 s
  | .fswapNlF1F2F3 qp f1 f2 f3 => Sys2Proof.Machine.execFswapNlF1F2F3 qp f1 f2 f3 s
  | .fswapNrF1F2F3 qp f1 f2 f3 => Sys2Proof.Machine.execFswapNrF1F2F3 qp f1 f2 f3 s
  | .fpmergeSF1F2F3 qp f1 f2 f3 => Sys2Proof.Machine.execFpmergeSF1F2F3 qp f1 f2 f3 s
  | .fpmergeNsF1F2F3 qp f1 f2 f3 => Sys2Proof.Machine.execFpmergeNsF1F2F3 qp f1 f2 f3 s
  | .fpmergeSeF1F2F3 qp f1 f2 f3 => Sys2Proof.Machine.execFpmergeSeF1F2F3 qp f1 f2 f3 s
  | .fcvtFxSfF1F2 qp f1 f2 sf => Sys2Proof.Machine.execFcvtFxSfF1F2 qp f1 f2 sf s
  | .fcvtFxuSfF1F2 qp f1 f2 sf => Sys2Proof.Machine.execFcvtFxuSfF1F2 qp f1 f2 sf s
  | .fcvtFxTruncSfF1F2 qp f1 f2 sf => Sys2Proof.Machine.execFcvtFxTruncSfF1F2 qp f1 f2 sf s
  | .fcvtFxuTruncSfF1F2 qp f1 f2 sf => Sys2Proof.Machine.execFcvtFxuTruncSfF1F2 qp f1 f2 sf s
  | .fpcvtFxSfF1F2 qp f1 f2 sf => Sys2Proof.Machine.execFpcvtFxSfF1F2 qp f1 f2 sf s
  | .fpcvtFxuSfF1F2 qp f1 f2 sf => Sys2Proof.Machine.execFpcvtFxuSfF1F2 qp f1 f2 sf s
  | .fpcvtFxTruncSfF1F2 qp f1 f2 sf => Sys2Proof.Machine.execFpcvtFxTruncSfF1F2 qp f1 f2 sf s
  | .fpcvtFxuTruncSfF1F2 qp f1 f2 sf => Sys2Proof.Machine.execFpcvtFxuTruncSfF1F2 qp f1 f2 sf s
  | .fcvtXfF1F2 qp f1 f2 => Sys2Proof.Machine.execFcvtXfF1F2 qp f1 f2 s
  | .fsetcSfAmask7Omask7 qp sf amask7 omask7 => Sys2Proof.Machine.execFsetcSfAmask7Omask7 qp sf amask7 omask7 s
  | .fclrfSf qp sf => Sys2Proof.Machine.execFclrfSf qp sf s
  | .fchkfSfTarget25 qp sf imm21 => Sys2Proof.Machine.execFchkfSfTarget25 qp sf imm21 s
  | .breakFImm21 qp imm21 => Sys2Proof.Machine.execBreakFImm21 qp imm21 s
  | .nopFImm21 qp imm21 => Sys2Proof.Machine.execNopFImm21 qp imm21 s
  | .brCondBwhPhDhTarget25 qp imm21 h => Sys2Proof.Machine.execBrCondBwhPhDhTarget25 qp imm21 h s
  | .brWexitBwhPhDhTarget25 qp imm21 h => Sys2Proof.Machine.execBrWexitBwhPhDhTarget25 qp imm21 h s
  | .brWtopBwhPhDhTarget25 qp imm21 h => Sys2Proof.Machine.execBrWtopBwhPhDhTarget25 qp imm21 h s
  | .brCloopBwhPhDhTarget25 imm21 h => Sys2Proof.Machine.execBrCloopBwhPhDhTarget25 imm21 h s
  | .brCexitBwhPhDhTarget25 imm21 h => Sys2Proof.Machine.execBrCexitBwhPhDhTarget25 imm21 h s
  | .brCtopBwhPhDhTarget25 imm21 h => Sys2Proof.Machine.execBrCtopBwhPhDhTarget25 imm21 h s
  | .brCallBwhPhDhB1Target25 qp b1 imm21 h => Sys2Proof.Machine.execBrCallBwhPhDhB1Target25 qp b1 imm21 h s
  | .brCondBwhPhDhB2 qp b2 h => Sys2Proof.Machine.execBrCondBwhPhDhB2 qp b2 h s
  | .brIaBwhPhDhB2 b2 h => Sys2Proof.Machine.execBrIaBwhPhDhB2 b2 h s
  | .brRetBwhPhDhB2 qp b2 h => Sys2Proof.Machine.execBrRetBwhPhDhB2 qp b2 h s
  | .brCallBwhPhDhB1B2 qp b1 b2 wh3 d p => Sys2Proof.Machine.execBrCallBwhPhDhB1B2 qp b1 b2 wh3 d p s
  | .brpIpwhIhTarget25Tag13 imm21 tag13 ipwh ih => Sys2Proof.Machine.execBrpIpwhIhTarget25Tag13 imm21 tag13 ipwh ih s
  | .brpIndwhIhB2Tag13 b2 tag13 indwh ih => Sys2Proof.Machine.execBrpIndwhIhB2Tag13 b2 tag13 indwh ih s
  | .cover => Sys2Proof.Machine.execCover s
  | .clrrrb => Sys2Proof.Machine.execClrrrb s
  | .clrrrbPr => Sys2Proof.Machine.execClrrrbPr s
  | .rfi => Sys2Proof.Machine.execRfi s
  | .bsw0 => Sys2Proof.Machine.execBsw0 s
  | .bsw1 => Sys2Proof.Machine.execBsw1 s
  | .epc => Sys2Proof.Machine.execEpc s
  | .breakBImm21 qp imm21 => Sys2Proof.Machine.execBreakBImm21 qp imm21 s
  | .nopBImm21 qp imm21 => Sys2Proof.Machine.execNopBImm21 qp imm21 s
  | .brlCondBwhPhDhTarget64 qp imm60 h => Sys2Proof.Machine.execBrlCondBwhPhDhTarget64 qp imm60 h s
  | .brlCallBwhPhDhB1Target64 qp b1 imm60 h => Sys2Proof.Machine.execBrlCallBwhPhDhB1Target64 qp b1 imm60 h s

end Sys2Proof.Machine
end

