-- ==== Sys2Proof/Machine/Walker.lean ====
section
/-! DEFINITION. Machine/Walker.lean: the hardware page walker (`spec/21_memory_hierarchy.md` R160, `spec/60_exceptions.md`
R568). Walks are made before an instruction, as many as a free number says and for free addresses: "each walk nondeterministically
succeeds (if the VHPT entry is good) or aborts", and entries that agree with the VHPT may appear at any time (U41; log 13). The first-level data TLB takes in translations of the second level on its own too (R867). -/

namespace Sys2Proof.Machine

/-- The physical address from which a walk for `va` reads the VHPT entry; `none` when the data TLB does not give it (R160, R568). -/
def State.walkReads (s : State) (va : Word) : Option Nat :=
  match s.lookup false (s.vhptAddr va) with
  | [e] => if e.p && e.ma = .wb then some (e.phys (s.vhptAddr va)) else none
  | _ => none

/-- The translation that a walk for `va` finds: it reads the VHPT entry in the byte order of DCR.be (R82, R138), and looks at its
validity and tag (R160); `none` when it cannot be read or is not good (R568). -/
def State.walkFinds (s : State) (va : Word) : Option TlbEntry :=
  (s.walkReads va).bind fun pa =>
    let bytes := BitVec.ofNat 256 (Memory.load s.mem pa 32 (s.cr.dcr.getLsbD 1))
    (Config.vhptEntry bytes (Config.vhptTag va (rrRid (s.regionReg va))) (s.regionReg va) s.cr.pta).bind fun w =>
      s.makeEntry va w.2 w.1

/-- The read of a VHPT entry is a load too (R750). -/
def State.walkNote (s : State) (va : Word) : State :=
  if (s.walkReads va).isSome then s.emit (.load (s.vhptAddr va) .walk false false) else s

/-- A walk for an address of one side is made: PSR.ic = 1, the walker enabled, no translation yet (R160, R568). -/
def State.walks (s : State) (instr : Bool) (va : Word) : Bool :=
  s.psrIc && s.walkerOn instr va && (s.lookup instr va).isEmpty

/-- What a walk that is made leaves: a good entry that overlaps no translation register becomes a translation cache entry (R160,
R568, R485), and the miss that it served is noted for the EARs (R669, R673). -/
def State.walked (s : State) (instr : Bool) (va : Word) : State :=
  match s.walkFinds va with
  | none => s
  | some e =>
    if hitsReg (if instr then s.itr else s.dtr) e then s else (s.insertTc instr e).emit (.tlbMiss instr va .vhpt false)

/-- One walk, for the side and the address that are free at `site`; on the data side it "inserts a translation into one or both TLBs"
(R860). -/
def State.walkInsert (s : State) (site : Nat) : State :=
  let instr := s.freeBool site
  let va := s.free (site + 1)
  if s.walks instr va then
    let t := (s.walkNote va).walked instr va
    if !instr && s.freeBool (site + 8) then { t with l1dtlb := t.l1dUsed va } else t
  else s

/-- A number of walks, one after the other (R160: "The requests are effectively serialized"). -/
def State.walkMany : Nat → State → State
  | 0, s => s
  | n + 1, s => State.walkMany n (s.walkInsert (16 * (250000 + n)))

/-- The walks before an instruction: with PTA.ve = 1 any number of them (U41; log 13). -/
def State.walkFree (s : State) : State :=
  if s.cr.pta.getLsbD 0 then State.walkMany (s.free 5310).toNat s else s

/-- A transfer from the second-level to the first-level data TLB for a load that is not reached (R673, R867; log 37). -/
def State.l1dTransfer (s : State) (va : Word) : State :=
  if s.l1dMoves va then State.emit { s with l1dtlb := s.l1dUsed va } (.tlbMiss false va .l2 false) else s

/-- A number of transfers, for free addresses. -/
def State.l1dMany : Nat → State → State
  | 0, s => s
  | n + 1, s => State.l1dMany n (s.l1dTransfer (s.free (8 * (250000 + n) + 4)))

/-- The transfers before an instruction: in virtual mode any number of them (R867; log 37). -/
def State.l1dFree (s : State) : State := if s.psrDt || s.psrRt then State.l1dMany (s.free 5311).toNat s else s

/-- What the TLBs do on their own before an instruction. -/
def State.tlbFree (s : State) : State := s.walkFree.l1dFree

end Sys2Proof.Machine
end

