-- ==== Sys2Proof/Machine/Cycle.lean ====
section
/-! DEFINITION. Machine/Cycle.lean: from the fetched bundle to the executed slot (`spec/30_encoding.md` R231 to R233,
`spec/40_a_type.md` R330), what one step does around `exec`, and the placing of an instruction for the host's checks. -/

namespace Sys2Proof.Machine

/-- The instruction of a bundle that PSR.ri selects. -/
noncomputable def Template.instr (t : Template) (b : BitVec 128) (ri : BitVec 2) : Option Instr :=
  decodeSlot (t.slotType ri) (bundleSlot b 1) (t.word b ri)

/-- A step that only takes an interruption. -/
def State.interrupted (s : State) (i : Intr) : Host.Outcome State Fault Refusal :=
  .next (s.tick (s.takeInterruption i s.ri) .M 0)

/-- What a step leaves after its instruction: a stop ends the group, the monitors advance. -/
def State.afterExec (s : State) (ty : SlotType) (w : BitVec 41) (stop : Bool) (r : Host.Outcome State Fault Refusal) :
    Host.Outcome State Fault Refusal :=
  match r with
  | .next u => .next (s.tick (if stop then u.endGroup else u) ty w)
  | .fault f => .fault f
  | .refused f => .refused f

/-- Execute the slot PSR.ri of a fetched bundle: a reserved template is an Illegal Operation (R232), an encoding without
a pattern is refused (D22). -/
noncomputable def State.runBundle (s : State) (b : BitVec 128) : Host.Outcome State Fault Refusal :=
  match template (b.extractLsb' 0 5) with
  | none => s.interrupted { vec := .generalException }
  | some t =>
    match t.instr b s.ri with
    | none => .refused .noEncodingPattern
    | some i => s.afterExec (t.slotType s.ri) (t.word b s.ri) (t.stop s.ri) (exec i s)

/-- Fetch and execute, or take the fault of the fetch (R586 line 5); a fetch that completes fills the first-level instruction TLB (R151). -/
noncomputable def State.fetchRun (s : State) : Host.Outcome State Fault Refusal :=
  match s.fetch with
  | .error (.intr i) => s.interrupted i
  | .error (.fault f) => .fault f
  | .error (.refused f) => .refused f
  | .ok b => s.l1Fill.runBundle b

/-- One step: IA-32 mode and the non-existing slot 3 are refused; the write-coalescing buffer may evict (R126) and the
TLBs may take translations in (R160, R867); a pending external interrupt is taken (R577); else one instruction is fetched and executed. -/
noncomputable def State.cycle (s : State) : Host.Outcome State Fault Refusal :=
  if s.psrIs then .refused .ia32Execution
  else if s.ri = 3 then .refused .reservedRestartSlot
  else
    let s := s.wcbFreeEvict.tlbFree
    if s.externalInterrupt then s.interrupted { vec := .externalInterrupt } else s.fetchRun

/-! ### Placing an instruction (log 5) -/

/-- The bundle that holds a word in a slot of the given type, its other slots zero, and the slot. -/
def placeBundle (ty : SlotType) (w : BitVec 41) : BitVec 128 × BitVec 2 :=
  match ty with
  | .M => (0#82 ++ w ++ 0x00#5, 0)
  | .I => (0#41 ++ w ++ 0#41 ++ 0x00#5, 1)
  | .F => (0#41 ++ w ++ 0#41 ++ 0x0C#5, 1)
  | .B => (w ++ 0#82 ++ 0x10#5, 2)
  | .L | .X => (w ++ 0#82 ++ 0x04#5, 1)

/-- The physical address the next fetch reads; where the fetch faults, that of IP without translation. -/
def State.fetchAddr (s : State) : Nat :=
  match s.translate s.fetchAcc with
  | .ok p => p.1 / 16 * 16
  | .error _ => (s.ip.setWidth 50).toNat / 16 * 16

/-- Place a word where the next step fetches: its bundle in memory, no older bytes for it in the fetch path, and PSR.ri
at its slot. -/
noncomputable def State.placeWord (s : State) (w : BitVec 41) : State :=
  let p := placeBundle (tableSlotType w) w
  let a := s.fetchAddr
  { s with mem := Memory.writeBytes s.mem a (bytesLE p.1.toNat 16),
           stale := s.stale.filter (fun b => b.addr / 16 ≠ a / 16),
           psr := putField s.psr 41 p.2 }

end Sys2Proof.Machine
end

