-- ==== Sys2Proof/Machine/Step.lean ====
section
/-! DEFINITION. Machine/Step.lean: the step of the machine and the host's placing of an instruction; both only call
Machine/Cycle.lean. -/

namespace Sys2Proof.Machine

/-- One step of the processor. -/
noncomputable def step (s : State) : Host.Outcome State Fault Refusal := s.cycle

/-- The state whose next step fetches and runs the instruction with the bits `w` (log 5). -/
noncomputable def State.withFetchWord (s : State) (_nbits w : Nat) : State := s.placeWord (BitVec.ofNat 41 w)

end Sys2Proof.Machine
end

