-- ==== Sys2Proof/Safety.lean ====
section
/-! DEFINITION. Safety.lean: the terms in which claims speak of good states, of outcomes, and of what an instruction leaves
unchanged (its frame). -/

namespace Sys2Proof.Machine

/-! ### Good states -/

/-- The canonical form of memory holds. -/
def State.MemOk (s : State) : Prop := Memory.wf s.mem = true

/-- The instruction pointer is the address of a bundle: a multiple of 16 (R21, R231). -/
def State.IpAligned (s : State) : Prop := s.ip.extractLsb' 0 4 = 0

/-- The ALAT holds at most 32 entries (R90), the write-coalescing buffer at most two lines (R121), each first-level TLB
at most 32 segments (R151, R155). -/
def State.BuffersOk (s : State) : Prop := s.alat.length ≤ 32 ∧ s.wcb.length ≤ 2 ∧ s.l1itlb.length ≤ 32 ∧ s.l1dtlb.length ≤ 32

/-- The current frame fits the 96 physical stacked registers: its size, its locals and its rotating part (R22, R23, R444). -/
def State.FrameOk (s : State) : Prop := cfmSof s.cfm ≤ 96 ∧ cfmSol s.cfm ≤ cfmSof s.cfm ∧ cfmSor s.cfm ≤ 12

/-- The register stack is in its 96 registers: dirty, clean and current ones together; BSP and BSPSTORE are 8-byte addresses,
and BSP is never the slot of an RNAT collection (R24, R445). -/
def State.StackOk (s : State) : Prop :=
  s.FrameOk ∧ s.bof < 96 ∧ s.cur.bsp.extractLsb' 0 3 = 0 ∧ s.cur.bspstore.extractLsb' 0 3 = 0 ∧ rseSlot s.cur.bsp ≠ 63 ∧
    s.ndirty + s.nclean + cfmSof s.cfm ≤ 96

/-- No two translations of one TLB overlap (R159, R485), none is of less than 4 KB (R152), and every segment of the first-level data TLB is of
a translation that the second level holds (R155). -/
def State.TlbOk (s : State) : Prop :=
  (∀ instr : Bool, (s.translations instr).Pairwise (fun e f => e.overlaps f.rid f.va f.ps = false)) ∧
  (∀ (instr : Bool), ∀ e ∈ s.translations instr, 12 ≤ e.ps.toNat) ∧
  ∀ g ∈ s.l1dtlb, ∃ e ∈ s.translations false, e.covers g.rid g.va = true

/-- An outcome is a next state. -/
def Completes (r : Host.Outcome State Fault Refusal) : Prop := ∃ t, r = .next t

/-- A state from which the machine can make a step. -/
def State.Live (s : State) : Prop := Completes (step s)

/-- The byte at a physical address as the processor's own WC stores and stores leave it: the newest byte of the
write-coalescing buffer, else memory (R121). -/
def State.coherentByte (s : State) (a : Nat) : Byte :=
  match s.wcb.find? (fun e => e.line = a / 128) with
  | none => Memory.read s.mem a
  | some e => match e.bytes.find? (fun c => c.1 = a % 128) with
    | none => Memory.read s.mem a
    | some c => c.2

/-- No line has two entries in the write-coalescing buffer, and offsets are inside their line (R121). -/
def State.WcbOk (s : State) : Prop :=
  s.wcb.Pairwise (fun e f => e.line ≠ f.line) ∧
    ∀ e ∈ s.wcb, e.bytes.Pairwise (fun c d => c.1 < d.1) ∧ ∀ c ∈ e.bytes, c.1 < 128

/-- `t` is reached from `s` by page walks alone (R160). -/
inductive State.Walked (s : State) : State → Prop where
  | none : Walked s s
  | more {t : State} (site : Nat) : Walked s t → Walked s (t.walkInsert site)

/-- A page walk made from `s` on, after other walks, finds the translation `e` for the address `va` of one side. -/
def State.WalkFound (s : State) (instr : Bool) (va : Word) (e : TlbEntry) : Prop :=
  ∃ t, s.Walked t ∧ t.walks instr va = true ∧ t.walkFinds va = some e

/-! ### Frames -/

/-- Every byte of memory reads the same. -/
def State.SameMem (s u : State) : Prop := ∀ a, Memory.read u.mem a = Memory.read s.mem a

/-- Every byte of memory outside the `n` bytes at `pa` reads the same. -/
def State.SameMemExcept (s u : State) (pa n : Nat) : Prop :=
  ∀ a, (a < pa ∨ pa + n ≤ a) → Memory.read u.mem a = Memory.read s.mem a

/-- The newest registers differ in general registers only. -/
def Regs.OnlyGr (g h : Regs) : Prop :=
  h = { g with stat := h.stat, bank0 := h.bank0, bank1 := h.bank1, stacked := h.stacked }

/-- The newest registers differ in general and floating-point registers only. -/
def Regs.OnlyGrFr (g h : Regs) : Prop :=
  h = { g with stat := h.stat, bank0 := h.bank0, bank1 := h.bank1, stacked := h.stacked, fr := h.fr }

/-- Nothing but the newest registers, the group's note of register writes and the monitors' events differs. -/
def State.OnlyRegs (s u : State) : Prop := u = { s with cur := u.cur, grpWrites := u.grpWrites, events := u.events }

/-- GR[r] was written with `v` by an instruction that is no memory instruction, and nothing else changed. Where the group had
written GR[r] before, the value is not fixed (R911 (b)). -/
def State.WroteGr (s u : State) (r : GrIdx) (v : GReg) : Prop :=
  (s.wawFree (.gr (s.grPhys r)) .alu = false → u.cur.gr (s.grPhys r) = v) ∧
  (∀ p, p ≠ s.grPhys r → u.cur.gr p = s.cur.gr p) ∧ s.cur.OnlyGr u.cur ∧ s.OnlyRegs u ∧ s.SameMem u

/-- BR[b] was written with `v`, and nothing else changed. -/
def State.WroteBr (s u : State) (b : BrIdx) (v : Word) : Prop :=
  (s.wawFree (.br b.toNat) .alu = false → u.cur.br[b.toNat]'(b.isLt) = v) ∧
  (∀ c : BrIdx, c ≠ b → u.cur.br[c.toNat]'(c.isLt) = s.cur.br[c.toNat]'(c.isLt)) ∧
  u.cur = { s.cur with br := u.cur.br } ∧ s.OnlyRegs u ∧ s.SameMem u

/-- PSR after writes of the floating-point registers `fs`: `mfl` or `mfh` set (R27, R34), but where the group has written that bit of the
user mask otherwise, of which the value is not fixed (R911 (b)); every other bit as it was. -/
def State.MarksFr (s u : State) (fs : List FrIdx) : Prop :=
  (∀ f ∈ fs, s.wawFree (.um (modifiedBit f)) .sticky = false → u.psr.getLsbD (modifiedBit f) = true) ∧
  ∀ k, (∀ f ∈ fs, k ≠ modifiedBit f) → u.psr.getLsbD k = s.psr.getLsbD k

/-- FR[f] was written with `v` by an instruction that is no memory instruction, PSR.mfl or PSR.mfh is set, and nothing else
changed but the flags of AR[FPSR], which become `fpsr`. -/
def State.WroteFr (s u : State) (f : FrIdx) (v : FReg) (fpsr : Word) : Prop :=
  (s.wawFree (.fr (s.frPhys f)) .alu = false → u.cur.frAt (s.frPhys f) = v) ∧
  (∀ p, p ≠ s.frPhys f → u.cur.frAt p = s.cur.frAt p) ∧ u.cur = { s.cur with fr := u.cur.fr, fpsr := fpsr } ∧
  u = { s with cur := u.cur, psr := u.psr, grpWrites := u.grpWrites, events := u.events } ∧ s.MarksFr u [f] ∧ s.SameMem u

/-- The predicates of the newest register file are `pr`; nothing else but the group's notes and the events changed. -/
def State.WrotePr (s u : State) (pr : Nat → Bool) : Prop :=
  (∀ k, k < 64 → u.cur.pr.getLsbD k = pr k) ∧ u.cur = { s.cur with pr := u.cur.pr } ∧
  u = { s with cur := u.cur, grpPrAlu := u.grpPrAlu, grpPrAnd := u.grpPrAnd, grpPrOr := u.grpPrOr,
               grpPrCmp := u.grpPrCmp, events := u.events } ∧
  s.SameMem u

/-- `u` is `s` but for the monitors' events. -/
def State.OnlyEvents (s u : State) : Prop := u = { s with events := u.events }

/-- The step takes the interruption `v` with ISR.code `c` on the state before the instruction. -/
def Takes (s : State) (r : Host.Outcome State Fault Refusal) (v : IvtVector) (c : BitVec 16) : Prop :=
  ∃ i : Intr, i.vec = v ∧ i.code = c ∧ r = .next (s.takeInterruption i s.ri)

end Sys2Proof.Machine
end

