-- ==== Sys2Proof/Forms/Access.lean ====
section
/-! DEFINITION. Forms/Access.lean: what an access meets on its way to memory, written out from the rules: the translation that an
address has, its physical address, and the checks with their faults, in order (`spec/20_memory.md` R80, R84,
`spec/21_memory_hierarchy.md` R159, `spec/60_exceptions.md` R565, R568 to R572, R585, R593, R594). -/

namespace Sys2Proof.Forms

open Sys2Proof.Machine

/-! ### Translations -/

/-- The region register of an address: bits 63:61 name it (R80). -/
def regionOf (s : State) (va : Word) : Word := s.rr.toList.getD (va.toNat / 2 ^ 61) 0

/-- The region identifier of an address (R46). -/
def ridOf (s : State) (va : Word) : Nat := (regionOf s va).toNat / 2 ^ 8 % 2 ^ 24

/-- A translation is one of an address: its region, and the page that holds bits 60:0 (R159). -/
def translatesTo (s : State) (va : Word) (e : TlbEntry) : Bool :=
  decide (e.rid.toNat = ridOf s va ∧ e.va.toNat / 2 ^ e.ps.toNat = va.toNat % 2 ^ 61 / 2 ^ e.ps.toNat)

/-- The translations of an address on one side: of the registers and of the cache (R154, R159). -/
def hitsOf (s : State) (instr : Bool) (va : Word) : List TlbEntry :=
  (if instr then s.itr.toList.filterMap id ++ s.itcache else s.dtr.toList.filterMap id ++ s.dtcache).filter (translatesTo s va)

/-- The physical address: the page's number, then the low bits of the address (R159). -/
def physicalOf (e : TlbEntry) (va : Word) : Nat :=
  e.pa.toNat / 2 ^ e.ps.toNat * 2 ^ e.ps.toNat + va.toNat % 2 ^ min e.ps.toNat 50

/-- The access is a virtual one: PSR.it for a fetch, PSR.rt for the RSE, else PSR.dt (R34, R80). -/
def isVirtual (s : State) (acc : Acc) : Prop := s.psr.getLsbD (if acc.x then 36 else if acc.rs then 27 else 17) = true

/-! ### Checks and their order -/

/-- Checks in the order in which they are made: what makes one fail, and its fault. -/
abbrev OrderedChecks := List (Prop × TransFault)

/-- `f` is the fault of the first check that fails. -/
def firstFails (l : OrderedChecks) (f : TransFault) : Prop := ∃ a c b, l = a ++ (c, f) :: b ∧ c ∧ ∀ d ∈ a, ¬ d.1

/-- Every check passes. -/
def allPass (l : OrderedChecks) : Prop := ∀ d ∈ l, ¬ d.1

/-- UC, UCE and WC (R81). -/
def isUncacheable (ma : MemAttr) : Prop := ma = .uc ∨ ma = .uce ∨ ma = .wc

/-- The rights that code R594 gives for `ar`: reading, writing and executing at levels up to `pl`, and the same at level 0. Row 7 lets
every level execute. -/
def rightsRow (ar : Nat) : (Bool × Bool × Bool) × (Bool × Bool × Bool) :=
  match ar with
  | 0 => ((true, false, false), (true, false, false))
  | 1 => ((true, false, true), (true, false, true))
  | 2 => ((true, true, false), (true, true, false))
  | 3 => ((true, true, true), (true, true, true))
  | 4 => ((true, false, false), (true, true, false))
  | 5 => ((true, false, true), (true, true, true))
  | 6 => ((true, true, true), (true, true, false))
  | _ => ((false, false, true), (true, false, true))

/-- The page does not permit the access at its privilege level (R594; row 6 log 15). -/
def rightsDeny (e : TlbEntry) (acc : Acc) : Prop :=
  let may := fun k : Bool × Bool × Bool → Bool =>
    (acc.cpl.toNat ≤ e.pl.toNat ∧ k (rightsRow e.ar.toNat).1 = true) ∨ (acc.cpl = 0 ∧ k (rightsRow e.ar.toNat).2 = true)
  (acc.r = true ∧ ¬ may (·.1)) ∨ (acc.w = true ∧ ¬ may (·.2.1)) ∨ (acc.x = true ∧ ¬ may (·.2.2) ∧ e.ar ≠ 7)

/-- A protection key register is valid and holds the key of a translation (R46, R593). -/
def keyHeld (k : Word) (e : TlbEntry) : Prop := k.getLsbD 0 = true ∧ k.toNat / 2 ^ 8 % 2 ^ 24 = e.key.toNat

/-- A protection key register forbids the access: `wd`, `rd`, `xd` (R46, R569). -/
def keyDenies (k : Word) (acc : Acc) : Prop :=
  (acc.w = true ∧ k.getLsbD 1 = true) ∨ (acc.r = true ∧ k.getLsbD 2 = true) ∨ (acc.x = true ∧ k.getLsbD 3 = true)

/-- Lines 1 to 7 of R569, on the translation of an access; a speculative one defers on an uncacheable page (R567). -/
def tlbChecks (s : State) (acc : Acc) (e : TlbEntry) : OrderedChecks :=
  [(e.p = false, .pageNotPresent e),
   (e.ma = .natPage, .natPage),
   (acc.sp = true ∧ isUncacheable e.ma, .uncacheableSpeculative),
   (s.psr.getLsbD 15 = true ∧ ∀ k : Fin 16, ¬ keyHeld s.pkr[k] e, .keyMiss e),
   (s.psr.getLsbD 15 = true ∧ ∃ k : Fin 16, keyHeld s.pkr[k] e ∧ (∀ j : Fin 16, j < k → ¬ keyHeld s.pkr[j] e) ∧ keyDenies s.pkr[k] acc,
    .keyPermission e),
   (rightsDeny e acc, .accessRights e),
   (acc.w = true ∧ e.d = false, .dirtyBit e),
   (e.a = false, .accessBit e)]

/-- A data breakpoint pair matches a byte of the access (R47, R572). -/
def breakpointHit (s : State) (acc : Acc) : Prop :=
  ∃ i : Fin 4, let even := s.dbr[2 * i.val]'(by omega); let odd := s.dbr[2 * i.val + 1]'(by omega)
    ((acc.r = true ∧ odd.getLsbD 63 = true) ∨ (acc.w = true ∧ odd.getLsbD 62 = true)) ∧ odd.getLsbD (56 + acc.cpl.toNat) = true ∧
      ∃ k, k < acc.n ∧ ∀ b, b < 64 → (56 ≤ b ∨ odd.getLsbD b = true) →
        (acc.va + BitVec.ofNat 64 k).getLsbD b = even.getLsbD b

/-- Not on a multiple of its size; of 16 for the 10-byte forms (R84). -/
def unnatural (acc : Acc) : Prop := acc.va.toNat % (if acc.n = 10 then 16 else acc.n) ≠ 0

/-- It leaves the aligned window of `w` bytes that it begins in (R84). -/
def leavesWindow (acc : Acc) (w : Nat) : Prop := w < acc.va.toNat % w + acc.n

/-- The alignment rule of R84 and R571; ordered accesses: log 10; the 10- and 16-byte forms on uncacheable pages: log 11. -/
def unalignedAccess (s : State) (acc : Acc) (ma : MemAttr) : Prop :=
  if s.umGroup.getLsbD 3 then unnatural acc
  else match acc.cls with
    | .semaphore | .ordered | .fpPair => unnatural acc
    | .int => leavesWindow acc 8
    | .fp => (isUncacheable ma ∧ acc.n ≤ 8 ∧ leavesWindow acc 8) ∨ leavesWindow acc 16
    | .reference => False

/-- Lines 8 to 10 of R569, with R570 (D7), R571 and R572 (D33). -/
def dataChecks (s : State) (acc : Acc) (ma : MemAttr) : OrderedChecks :=
  [(s.psr.getLsbD 24 = true ∧ s.psr.getLsbD 39 = false ∧ (leavesWindow acc 16 ∨ breakpointHit s acc), .debug),
   (unalignedAccess s acc ma, .unaligned),
   (isUncacheable ma ∧ (acc.cls = .semaphore ∨ acc.n = 10 ∨ acc.n = 16), .unsupported)]

/-- A speculative load defers the fault (R567): always those of the address, the page and the alignment, and a walk that fails or aborts (R104,
R160; log 17); the others with PSR.ic = 0 or PSR.ed = 1, or where their bit of DCR is set and the code page has `ed` with PSR.it = 1; early
deferral also the miss (C6). -/
def deferred (s : State) (f : TransFault) : Prop :=
  let codeEd := ∃ e, s.found true s.ip = [e] ∧ e.ed = true
  let by_ := fun k : Nat => s.psr.getLsbD 13 = false ∨ s.psr.getLsbD 43 = true ∨
    (s.psr.getLsbD 36 = true ∧ s.cr.dcr.getLsbD k = true ∧ codeEd)
  match f with
  | .unimplementedAddress | .natPage | .uncacheableSpeculative | .unaligned | .unsupported | .vhptFault | .tlbMiss => True
  | .altTlb | .nestedTlb => by_ 8 ∨ (s.deferral = .earlyEnabled ∧ s.psr.getLsbD 13 = true ∧ s.cr.dcr.getLsbD 8 = true)
  | .pageNotPresent _ => by_ 9
  | .keyMiss _ => by_ 10
  | .keyPermission _ => by_ 11
  | .accessRights _ => by_ 12
  | .accessBit _ => by_ 13
  | .debug => by_ 14
  | .dirtyBit _ | .multipleHit => False

/-! ### Misses and vectors -/

/-- The page walker is enabled for an access: PTA.ve and RR.ve, with PSR.dt, and for a fetch PSR.it and PSR.ic (R160, R568; log 13). -/
def walkerEnabled (s : State) (acc : Acc) : Prop :=
  s.cr.pta.getLsbD 0 = true ∧ (regionOf s acc.va).getLsbD 0 = true ∧ s.psr.getLsbD 17 = true ∧
    (acc.x = true → s.psr.getLsbD 36 = true ∧ s.psr.getLsbD 13 = true)

/-- Where the VHPT entry of an address lies: inside the 2^`size` bytes from `base` that CR[PTA] describes (R38, D15; the place in them is
free, log 14). -/
def vhptEntryAt (s : State) (va : Word) : Word :=
  BitVec.ofNat 64 (s.cr.pta.toNat / 2 ^ 15 * 2 ^ 15 +
    (Config.vhptHash va (regionOf s va) s.cr.pta).toNat % 2 ^ (s.cr.pta.toNat / 4 % 64))

/-- The fault of a miss (R568). Where the walk reads its entry and finds no good one, or is aborted, it is the TLB fault; where the
entry itself has no translation it is the VHPT fault, or the walk was aborted before (U41; log 13). -/
def missFaults (s : State) (acc : Acc) (f : TransFault) : Prop :=
  let nested := s.psr.getLsbD 13 = false ∧ acc.x = false
  (nested ∧ f = .nestedTlb) ∨ (¬ nested ∧ ¬ walkerEnabled s acc ∧ f = .altTlb) ∨
    (¬ nested ∧ walkerEnabled s acc ∧
      (f = .tlbMiss ∨ (f = .vhptFault ∧ hitsOf s false (vhptEntryAt s acc.va) = [])))

/-- The vector of a fault, for a fetch or a data access (R565, R568, R569). -/
def vectorOffset (f : TransFault) (x : Bool) : Nat :=
  match f with
  | .unimplementedAddress => 0x5400
  | .nestedTlb => 0x1400
  | .altTlb => if x then 0x0C00 else 0x1000
  | .vhptFault => 0x0000
  | .tlbMiss => if x then 0x0400 else 0x0800
  | .multipleHit | .natPage | .uncacheableSpeculative => 0x5600
  | .pageNotPresent _ => 0x5000
  | .keyMiss _ => if x then 0x1800 else 0x1C00
  | .keyPermission _ => 0x5100
  | .accessRights _ => if x then 0x5200 else 0x5300
  | .dirtyBit _ => 0x2000
  | .accessBit _ => if x then 0x2400 else 0x2800
  | .debug => 0x5900
  | .unaligned => 0x5A00
  | .unsupported => 0x5B00

/-- The translation whose page size and key a fault reports in ITIR (R585). -/
def reportedEntry (f : TransFault) : Option TlbEntry :=
  match f with
  | .pageNotPresent e | .keyMiss e | .keyPermission e | .accessRights e | .dirtyBit e | .accessBit e => some e
  | .unimplementedAddress | .nestedTlb | .altTlb | .vhptFault | .tlbMiss | .multipleHit | .natPage | .uncacheableSpeculative | .debug
  | .unaligned | .unsupported => none

/-- The bits of ISR.code that name a fault, beside the number of a non-access instruction (R576, log 36). -/
def faultCode (f : TransFault) : BitVec 16 :=
  match f with
  | .unimplementedAddress => 0x50
  | .multipleHit | .natPage | .uncacheableSpeculative => 0x20
  | .nestedTlb | .altTlb | .vhptFault | .tlbMiss | .pageNotPresent _ | .keyMiss _ | .keyPermission _ | .accessRights _
  | .dirtyBit _ | .accessBit _ | .debug | .unaligned | .unsupported => 0

/-- What the interruption of a fault is: its vector; ISR says what the access was; IFA its address, but for a nested fault and an
unimplemented address; ITIR page size and region of the address for a miss, page size and key for a failed check; IHA the address of
the VHPT entry (R565, R576, R585). -/
def Interrupts (s : State) (acc : Acc) (f : TransFault) (i : Intr) : Prop :=
  i.vec.offset.toNat = vectorOffset f acc.x ∧ i.r = acc.r ∧ i.w = acc.w ∧ i.x = acc.x ∧ i.sp = acc.sp ∧ i.rs = acc.rs ∧ i.ir = acc.ir ∧
  i.na = acc.na.isSome ∧ i.code = acc.na.getD 0 ||| faultCode f ∧ i.iim = none ∧
  i.ifa = (if f = .nestedTlb ∨ f = .unimplementedAddress then none else some acc.va) ∧
  (∀ v, i.itir = some v → f = .altTlb ∨ f = .vhptFault ∨ f = .tlbMiss ∨ reportedEntry f ≠ none) ∧
  (f = .altTlb ∨ f = .vhptFault ∨ f = .tlbMiss → ∃ v, i.itir = some v ∧ v.toNat / 4 % 64 = (regionOf s acc.va).toNat / 4 % 64 ∧
    v.toNat / 2 ^ 8 % 2 ^ 24 = ridOf s acc.va) ∧
  (∀ e, reportedEntry f = some e → ∃ v, i.itir = some v ∧ v.toNat / 4 % 64 = e.ps.toNat ∧ v.toNat / 2 ^ 8 % 2 ^ 24 = e.key.toNat) ∧
  i.iha = (if f = .vhptFault ∨ f = .tlbMiss then some (vhptEntryAt s acc.va) else none)

end Sys2Proof.Forms
end

