-- ==== Sys2Proof/Forms/Cmp.lean ====
section
/-! DEFINITION. Forms/Cmp.lean: the instructions that write two predicates from general registers, with the relation the spec
gives each (`spec/40_a_type.md` R325 to R327, `spec/41_i_type.md` R352, R353). -/

namespace Sys2Proof.Forms

open Sys2Proof.Machine

/-- A compare or a bit test of GR[a] and GR[b] (GR[0] where there is no second register): its relation and its NaT
condition. -/
structure CmpForm where
  qp  : PredIdx
  ct  : CmpType
  p1  : PredIdx
  p2  : PredIdx
  a   : GrIdx
  b   : GrIdx := 0
  rel : GReg → GReg → Prop
  nat : GReg → GReg → Bool := fun x y => x.nat || y.nat

/-- What a compare of type `ct` with predicate 1 writes to PR[p1] and PR[p2]; `none` leaves the register (R325). -/
def cmpWrites (ct : CmpType) (nat rel : Bool) : Option Bool × Option Bool :=
  match ct with
  | .norm | .unc => if nat then (some false, some false) else (some rel, some !rel)
  | .pand => if nat || !rel then (some false, some false) else (none, none)
  | .por => if !nat && rel then (some true, some true) else (none, none)
  | .orAndcm => if !nat && rel then (some true, some false) else (none, none)

/-- The predicate with physical number `k` after the writes `w` of PR[p1] and PR[p2], in this order; PR[0] stays (R25). -/
def prAfter (s : State) (p1 p2 : PredIdx) (w : Option Bool × Option Bool) (k : Nat) : Bool :=
  let old := s.cur.pr.getLsbD k
  if k = 0 then old
  else
    let v := if k = s.prPhys p1 then w.1.getD old else old
    if k = s.prPhys p2 then w.2.getD v else v

/-- No earlier instruction of the group wrote a predicate that this type of compare may not join (R325, R911). -/
def noPrHazard (s : State) (ct : CmpType) : Prop :=
  match ct with
  | .norm | .unc => s.prHazard .alu = 0
  | .pand => s.prHazard .pand = 0
  | .por => s.prHazard .por = 0
  | .orAndcm => s.prHazard .por = 0 ∧ s.prHazard .pand = 0

/-- With predicate 1 the instruction completes, writes the two predicates as its type says and changes nothing else. -/
def CmpForm.Correct (i : Instr) (f : CmpForm) : Prop :=
  ∀ s : State, s.pred f.qp = true → s.grVisible f.a = true → s.grVisible f.b = true → f.p1 ≠ f.p2 →
    ∀ rel : Bool, (rel = true ↔ f.rel (s.gr f.a) (s.gr f.b)) →
      ∃ u, exec i s = .next (retire s { s := u }) ∧
        s.WrotePr u (fun k => u.cur.pr.getLsbD k) ∧
        (∀ k, k < 64 → k ≠ s.prPhys f.p1 → k ≠ s.prPhys f.p2 → u.cur.pr.getLsbD k = s.cur.pr.getLsbD k) ∧
        (noPrHazard s f.ct →
          s.WrotePr u (prAfter s f.p1 f.p2 (cmpWrites f.ct (f.nat (s.gr f.a) (s.gr f.b)) rel)))

/-- With predicate 0 the instruction completes; `unc` clears both predicates, the other types write nothing (R325). -/
def CmpForm.Squashed (i : Instr) (f : CmpForm) : Prop :=
  ∀ s : State, s.pred f.qp = false →
    (f.ct ≠ .unc → ∃ u, exec i s = .next (retire s { s := u }) ∧ s.OnlyEvents u) ∧
    (f.ct = .unc → f.p1 ≠ f.p2 → ∃ u, exec i s = .next (retire s { s := u }) ∧
      (noPrHazard s .unc → s.WrotePr u (prAfter s f.p1 f.p2 (some false, some false))))

/-- One register as both targets is an Illegal Operation: for `unc` always (R325), for every type with predicate 1 (R241). -/
def CmpForm.Illegal (i : Instr) (f : CmpForm) : Prop :=
  ∀ s : State, f.p1 = f.p2 → (f.ct = .unc ∨ s.pred f.qp = true) →
    Takes s (exec i s) .generalException 0

/-- Formats A6 to A8, I16 and I17 (R325 to R327, R352, R353). -/
def cmpForm : Instr → Option CmpForm
  | .cmpLtP1P2R2R3 qp p1 p2 r2 r3 =>
    some { qp, ct := .norm, p1, p2, a := r2, b := r3, rel := fun x y => x.val.toInt < y.val.toInt }
  | .cmpLtUncP1P2R2R3 qp p1 p2 r2 r3 =>
    some { qp, ct := .unc, p1, p2, a := r2, b := r3, rel := fun x y => x.val.toInt < y.val.toInt }
  | .cmp4LtP1P2R2R3 qp p1 p2 r2 r3 =>
    some { qp, ct := .norm, p1, p2, a := r2, b := r3, rel := fun x y => (x.val.setWidth 32 : BitVec 32).toInt < (y.val.setWidth 32 : BitVec 32).toInt }
  | .cmp4LtUncP1P2R2R3 qp p1 p2 r2 r3 =>
    some { qp, ct := .unc, p1, p2, a := r2, b := r3, rel := fun x y => (x.val.setWidth 32 : BitVec 32).toInt < (y.val.setWidth 32 : BitVec 32).toInt }
  | .cmpLtP1P2Imm8R3 qp p1 p2 imm8 r3 =>
    some { qp, ct := .norm, p1, p2, a := r3, rel := fun x _ => (imm8.signExtend 64).toInt < x.val.toInt }
  | .cmpLtUncP1P2Imm8R3 qp p1 p2 imm8 r3 =>
    some { qp, ct := .unc, p1, p2, a := r3, rel := fun x _ => (imm8.signExtend 64).toInt < x.val.toInt }
  | .cmp4LtP1P2Imm8R3 qp p1 p2 imm8 r3 =>
    some { qp, ct := .norm, p1, p2, a := r3, rel := fun x _ => (imm8.signExtend 32).toInt < (x.val.setWidth 32 : BitVec 32).toInt }
  | .cmp4LtUncP1P2Imm8R3 qp p1 p2 imm8 r3 =>
    some { qp, ct := .unc, p1, p2, a := r3, rel := fun x _ => (imm8.signExtend 32).toInt < (x.val.setWidth 32 : BitVec 32).toInt }
  | .cmpLtuP1P2R2R3 qp p1 p2 r2 r3 =>
    some { qp, ct := .norm, p1, p2, a := r2, b := r3, rel := fun x y => x.val.toNat < y.val.toNat }
  | .cmpLtuUncP1P2R2R3 qp p1 p2 r2 r3 =>
    some { qp, ct := .unc, p1, p2, a := r2, b := r3, rel := fun x y => x.val.toNat < y.val.toNat }
  | .cmp4LtuP1P2R2R3 qp p1 p2 r2 r3 =>
    some { qp, ct := .norm, p1, p2, a := r2, b := r3, rel := fun x y => (x.val.setWidth 32 : BitVec 32).toNat < (y.val.setWidth 32 : BitVec 32).toNat }
  | .cmp4LtuUncP1P2R2R3 qp p1 p2 r2 r3 =>
    some { qp, ct := .unc, p1, p2, a := r2, b := r3, rel := fun x y => (x.val.setWidth 32 : BitVec 32).toNat < (y.val.setWidth 32 : BitVec 32).toNat }
  | .cmpLtuP1P2Imm8R3 qp p1 p2 imm8 r3 =>
    some { qp, ct := .norm, p1, p2, a := r3, rel := fun x _ => (imm8.signExtend 64).toNat < x.val.toNat }
  | .cmpLtuUncP1P2Imm8R3 qp p1 p2 imm8 r3 =>
    some { qp, ct := .unc, p1, p2, a := r3, rel := fun x _ => (imm8.signExtend 64).toNat < x.val.toNat }
  | .cmp4LtuP1P2Imm8R3 qp p1 p2 imm8 r3 =>
    some { qp, ct := .norm, p1, p2, a := r3, rel := fun x _ => (imm8.signExtend 32).toNat < (x.val.setWidth 32 : BitVec 32).toNat }
  | .cmp4LtuUncP1P2Imm8R3 qp p1 p2 imm8 r3 =>
    some { qp, ct := .unc, p1, p2, a := r3, rel := fun x _ => (imm8.signExtend 32).toNat < (x.val.setWidth 32 : BitVec 32).toNat }
  | .cmpEqP1P2R2R3 qp p1 p2 r2 r3 =>
    some { qp, ct := .norm, p1, p2, a := r2, b := r3, rel := fun x y => x.val = y.val }
  | .cmpEqUncP1P2R2R3 qp p1 p2 r2 r3 =>
    some { qp, ct := .unc, p1, p2, a := r2, b := r3, rel := fun x y => x.val = y.val }
  | .cmp4EqP1P2R2R3 qp p1 p2 r2 r3 =>
    some { qp, ct := .norm, p1, p2, a := r2, b := r3, rel := fun x y => (x.val.setWidth 32 : BitVec 32) = (y.val.setWidth 32 : BitVec 32) }
  | .cmp4EqUncP1P2R2R3 qp p1 p2 r2 r3 =>
    some { qp, ct := .unc, p1, p2, a := r2, b := r3, rel := fun x y => (x.val.setWidth 32 : BitVec 32) = (y.val.setWidth 32 : BitVec 32) }
  | .cmpEqP1P2Imm8R3 qp p1 p2 imm8 r3 =>
    some { qp, ct := .norm, p1, p2, a := r3, rel := fun x _ => (imm8.signExtend 64) = x.val }
  | .cmpEqUncP1P2Imm8R3 qp p1 p2 imm8 r3 =>
    some { qp, ct := .unc, p1, p2, a := r3, rel := fun x _ => (imm8.signExtend 64) = x.val }
  | .cmp4EqP1P2Imm8R3 qp p1 p2 imm8 r3 =>
    some { qp, ct := .norm, p1, p2, a := r3, rel := fun x _ => (imm8.signExtend 32) = (x.val.setWidth 32 : BitVec 32) }
  | .cmp4EqUncP1P2Imm8R3 qp p1 p2 imm8 r3 =>
    some { qp, ct := .unc, p1, p2, a := r3, rel := fun x _ => (imm8.signExtend 32) = (x.val.setWidth 32 : BitVec 32) }
  | .cmpEqAndP1P2R2R3 qp p1 p2 r2 r3 =>
    some { qp, ct := .pand, p1, p2, a := r2, b := r3, rel := fun x y => x.val = y.val }
  | .cmpEqAndP1P2Imm8R3 qp p1 p2 imm8 r3 =>
    some { qp, ct := .pand, p1, p2, a := r3, rel := fun x _ => (imm8.signExtend 64) = x.val }
  | .cmpNeAndP1P2R2R3 qp p1 p2 r2 r3 =>
    some { qp, ct := .pand, p1, p2, a := r2, b := r3, rel := fun x y => x.val ≠ y.val }
  | .cmpNeAndP1P2Imm8R3 qp p1 p2 imm8 r3 =>
    some { qp, ct := .pand, p1, p2, a := r3, rel := fun x _ => (imm8.signExtend 64) ≠ x.val }
  | .cmpGtAndP1P2R0R3 qp p1 p2 r3 =>
    some { qp, ct := .pand, p1, p2, a := r3, rel := fun x _ => (0#64).toInt > x.val.toInt }
  | .cmpLeAndP1P2R0R3 qp p1 p2 r3 =>
    some { qp, ct := .pand, p1, p2, a := r3, rel := fun x _ => (0#64).toInt ≤ x.val.toInt }
  | .cmpGeAndP1P2R0R3 qp p1 p2 r3 =>
    some { qp, ct := .pand, p1, p2, a := r3, rel := fun x _ => (0#64).toInt ≥ x.val.toInt }
  | .cmpLtAndP1P2R0R3 qp p1 p2 r3 =>
    some { qp, ct := .pand, p1, p2, a := r3, rel := fun x _ => (0#64).toInt < x.val.toInt }
  | .cmpEqOrP1P2R2R3 qp p1 p2 r2 r3 =>
    some { qp, ct := .por, p1, p2, a := r2, b := r3, rel := fun x y => x.val = y.val }
  | .cmpEqOrP1P2Imm8R3 qp p1 p2 imm8 r3 =>
    some { qp, ct := .por, p1, p2, a := r3, rel := fun x _ => (imm8.signExtend 64) = x.val }
  | .cmpNeOrP1P2R2R3 qp p1 p2 r2 r3 =>
    some { qp, ct := .por, p1, p2, a := r2, b := r3, rel := fun x y => x.val ≠ y.val }
  | .cmpNeOrP1P2Imm8R3 qp p1 p2 imm8 r3 =>
    some { qp, ct := .por, p1, p2, a := r3, rel := fun x _ => (imm8.signExtend 64) ≠ x.val }
  | .cmpGtOrP1P2R0R3 qp p1 p2 r3 =>
    some { qp, ct := .por, p1, p2, a := r3, rel := fun x _ => (0#64).toInt > x.val.toInt }
  | .cmpLeOrP1P2R0R3 qp p1 p2 r3 =>
    some { qp, ct := .por, p1, p2, a := r3, rel := fun x _ => (0#64).toInt ≤ x.val.toInt }
  | .cmpGeOrP1P2R0R3 qp p1 p2 r3 =>
    some { qp, ct := .por, p1, p2, a := r3, rel := fun x _ => (0#64).toInt ≥ x.val.toInt }
  | .cmpLtOrP1P2R0R3 qp p1 p2 r3 =>
    some { qp, ct := .por, p1, p2, a := r3, rel := fun x _ => (0#64).toInt < x.val.toInt }
  | .cmpEqOrAndcmP1P2R2R3 qp p1 p2 r2 r3 =>
    some { qp, ct := .orAndcm, p1, p2, a := r2, b := r3, rel := fun x y => x.val = y.val }
  | .cmpEqOrAndcmP1P2Imm8R3 qp p1 p2 imm8 r3 =>
    some { qp, ct := .orAndcm, p1, p2, a := r3, rel := fun x _ => (imm8.signExtend 64) = x.val }
  | .cmpNeOrAndcmP1P2R2R3 qp p1 p2 r2 r3 =>
    some { qp, ct := .orAndcm, p1, p2, a := r2, b := r3, rel := fun x y => x.val ≠ y.val }
  | .cmpNeOrAndcmP1P2Imm8R3 qp p1 p2 imm8 r3 =>
    some { qp, ct := .orAndcm, p1, p2, a := r3, rel := fun x _ => (imm8.signExtend 64) ≠ x.val }
  | .cmpGtOrAndcmP1P2R0R3 qp p1 p2 r3 =>
    some { qp, ct := .orAndcm, p1, p2, a := r3, rel := fun x _ => (0#64).toInt > x.val.toInt }
  | .cmpLeOrAndcmP1P2R0R3 qp p1 p2 r3 =>
    some { qp, ct := .orAndcm, p1, p2, a := r3, rel := fun x _ => (0#64).toInt ≤ x.val.toInt }
  | .cmpGeOrAndcmP1P2R0R3 qp p1 p2 r3 =>
    some { qp, ct := .orAndcm, p1, p2, a := r3, rel := fun x _ => (0#64).toInt ≥ x.val.toInt }
  | .cmpLtOrAndcmP1P2R0R3 qp p1 p2 r3 =>
    some { qp, ct := .orAndcm, p1, p2, a := r3, rel := fun x _ => (0#64).toInt < x.val.toInt }
  | .cmp4EqAndP1P2R2R3 qp p1 p2 r2 r3 =>
    some { qp, ct := .pand, p1, p2, a := r2, b := r3, rel := fun x y => (x.val.setWidth 32 : BitVec 32) = (y.val.setWidth 32 : BitVec 32) }
  | .cmp4EqAndP1P2Imm8R3 qp p1 p2 imm8 r3 =>
    some { qp, ct := .pand, p1, p2, a := r3, rel := fun x _ => (imm8.signExtend 32) = (x.val.setWidth 32 : BitVec 32) }
  | .cmp4NeAndP1P2R2R3 qp p1 p2 r2 r3 =>
    some { qp, ct := .pand, p1, p2, a := r2, b := r3, rel := fun x y => (x.val.setWidth 32 : BitVec 32) ≠ (y.val.setWidth 32 : BitVec 32) }
  | .cmp4NeAndP1P2Imm8R3 qp p1 p2 imm8 r3 =>
    some { qp, ct := .pand, p1, p2, a := r3, rel := fun x _ => (imm8.signExtend 32) ≠ (x.val.setWidth 32 : BitVec 32) }
  | .cmp4GtAndP1P2R0R3 qp p1 p2 r3 =>
    some { qp, ct := .pand, p1, p2, a := r3, rel := fun x _ => (0#32).toInt > (x.val.setWidth 32 : BitVec 32).toInt }
  | .cmp4LeAndP1P2R0R3 qp p1 p2 r3 =>
    some { qp, ct := .pand, p1, p2, a := r3, rel := fun x _ => (0#32).toInt ≤ (x.val.setWidth 32 : BitVec 32).toInt }
  | .cmp4GeAndP1P2R0R3 qp p1 p2 r3 =>
    some { qp, ct := .pand, p1, p2, a := r3, rel := fun x _ => (0#32).toInt ≥ (x.val.setWidth 32 : BitVec 32).toInt }
  | .cmp4LtAndP1P2R0R3 qp p1 p2 r3 =>
    some { qp, ct := .pand, p1, p2, a := r3, rel := fun x _ => (0#32).toInt < (x.val.setWidth 32 : BitVec 32).toInt }
  | .cmp4EqOrP1P2R2R3 qp p1 p2 r2 r3 =>
    some { qp, ct := .por, p1, p2, a := r2, b := r3, rel := fun x y => (x.val.setWidth 32 : BitVec 32) = (y.val.setWidth 32 : BitVec 32) }
  | .cmp4EqOrP1P2Imm8R3 qp p1 p2 imm8 r3 =>
    some { qp, ct := .por, p1, p2, a := r3, rel := fun x _ => (imm8.signExtend 32) = (x.val.setWidth 32 : BitVec 32) }
  | .cmp4NeOrP1P2R2R3 qp p1 p2 r2 r3 =>
    some { qp, ct := .por, p1, p2, a := r2, b := r3, rel := fun x y => (x.val.setWidth 32 : BitVec 32) ≠ (y.val.setWidth 32 : BitVec 32) }
  | .cmp4NeOrP1P2Imm8R3 qp p1 p2 imm8 r3 =>
    some { qp, ct := .por, p1, p2, a := r3, rel := fun x _ => (imm8.signExtend 32) ≠ (x.val.setWidth 32 : BitVec 32) }
  | .cmp4GtOrP1P2R0R3 qp p1 p2 r3 =>
    some { qp, ct := .por, p1, p2, a := r3, rel := fun x _ => (0#32).toInt > (x.val.setWidth 32 : BitVec 32).toInt }
  | .cmp4LeOrP1P2R0R3 qp p1 p2 r3 =>
    some { qp, ct := .por, p1, p2, a := r3, rel := fun x _ => (0#32).toInt ≤ (x.val.setWidth 32 : BitVec 32).toInt }
  | .cmp4GeOrP1P2R0R3 qp p1 p2 r3 =>
    some { qp, ct := .por, p1, p2, a := r3, rel := fun x _ => (0#32).toInt ≥ (x.val.setWidth 32 : BitVec 32).toInt }
  | .cmp4LtOrP1P2R0R3 qp p1 p2 r3 =>
    some { qp, ct := .por, p1, p2, a := r3, rel := fun x _ => (0#32).toInt < (x.val.setWidth 32 : BitVec 32).toInt }
  | .cmp4EqOrAndcmP1P2R2R3 qp p1 p2 r2 r3 =>
    some { qp, ct := .orAndcm, p1, p2, a := r2, b := r3, rel := fun x y => (x.val.setWidth 32 : BitVec 32) = (y.val.setWidth 32 : BitVec 32) }
  | .cmp4EqOrAndcmP1P2Imm8R3 qp p1 p2 imm8 r3 =>
    some { qp, ct := .orAndcm, p1, p2, a := r3, rel := fun x _ => (imm8.signExtend 32) = (x.val.setWidth 32 : BitVec 32) }
  | .cmp4NeOrAndcmP1P2R2R3 qp p1 p2 r2 r3 =>
    some { qp, ct := .orAndcm, p1, p2, a := r2, b := r3, rel := fun x y => (x.val.setWidth 32 : BitVec 32) ≠ (y.val.setWidth 32 : BitVec 32) }
  | .cmp4NeOrAndcmP1P2Imm8R3 qp p1 p2 imm8 r3 =>
    some { qp, ct := .orAndcm, p1, p2, a := r3, rel := fun x _ => (imm8.signExtend 32) ≠ (x.val.setWidth 32 : BitVec 32) }
  | .cmp4GtOrAndcmP1P2R0R3 qp p1 p2 r3 =>
    some { qp, ct := .orAndcm, p1, p2, a := r3, rel := fun x _ => (0#32).toInt > (x.val.setWidth 32 : BitVec 32).toInt }
  | .cmp4LeOrAndcmP1P2R0R3 qp p1 p2 r3 =>
    some { qp, ct := .orAndcm, p1, p2, a := r3, rel := fun x _ => (0#32).toInt ≤ (x.val.setWidth 32 : BitVec 32).toInt }
  | .cmp4GeOrAndcmP1P2R0R3 qp p1 p2 r3 =>
    some { qp, ct := .orAndcm, p1, p2, a := r3, rel := fun x _ => (0#32).toInt ≥ (x.val.setWidth 32 : BitVec 32).toInt }
  | .cmp4LtOrAndcmP1P2R0R3 qp p1 p2 r3 =>
    some { qp, ct := .orAndcm, p1, p2, a := r3, rel := fun x _ => (0#32).toInt < (x.val.setWidth 32 : BitVec 32).toInt }
  | .tbitZP1P2R3Pos6 qp p1 p2 r3 pos6 =>
    some { qp, ct := .norm, p1, p2, a := r3, rel := fun x _ => x.val.getLsbD pos6.toNat = false }
  | .tbitZUncP1P2R3Pos6 qp p1 p2 r3 pos6 =>
    some { qp, ct := .unc, p1, p2, a := r3, rel := fun x _ => x.val.getLsbD pos6.toNat = false }
  | .tbitZAndP1P2R3Pos6 qp p1 p2 r3 pos6 =>
    some { qp, ct := .pand, p1, p2, a := r3, rel := fun x _ => x.val.getLsbD pos6.toNat = false }
  | .tbitNzAndP1P2R3Pos6 qp p1 p2 r3 pos6 =>
    some { qp, ct := .pand, p1, p2, a := r3, rel := fun x _ => x.val.getLsbD pos6.toNat = true }
  | .tbitZOrP1P2R3Pos6 qp p1 p2 r3 pos6 =>
    some { qp, ct := .por, p1, p2, a := r3, rel := fun x _ => x.val.getLsbD pos6.toNat = false }
  | .tbitNzOrP1P2R3Pos6 qp p1 p2 r3 pos6 =>
    some { qp, ct := .por, p1, p2, a := r3, rel := fun x _ => x.val.getLsbD pos6.toNat = true }
  | .tbitZOrAndcmP1P2R3Pos6 qp p1 p2 r3 pos6 =>
    some { qp, ct := .orAndcm, p1, p2, a := r3, rel := fun x _ => x.val.getLsbD pos6.toNat = false }
  | .tbitNzOrAndcmP1P2R3Pos6 qp p1 p2 r3 pos6 =>
    some { qp, ct := .orAndcm, p1, p2, a := r3, rel := fun x _ => x.val.getLsbD pos6.toNat = true }
  | .tnatZP1P2R3 qp p1 p2 r3 =>
    some { qp, ct := .norm, p1, p2, a := r3, rel := fun x _ => x.nat = false, nat := fun _ _ => false }
  | .tnatZUncP1P2R3 qp p1 p2 r3 =>
    some { qp, ct := .unc, p1, p2, a := r3, rel := fun x _ => x.nat = false, nat := fun _ _ => false }
  | .tnatZAndP1P2R3 qp p1 p2 r3 =>
    some { qp, ct := .pand, p1, p2, a := r3, rel := fun x _ => x.nat = false, nat := fun _ _ => false }
  | .tnatNzAndP1P2R3 qp p1 p2 r3 =>
    some { qp, ct := .pand, p1, p2, a := r3, rel := fun x _ => x.nat = true, nat := fun _ _ => false }
  | .tnatZOrP1P2R3 qp p1 p2 r3 =>
    some { qp, ct := .por, p1, p2, a := r3, rel := fun x _ => x.nat = false, nat := fun _ _ => false }
  | .tnatNzOrP1P2R3 qp p1 p2 r3 =>
    some { qp, ct := .por, p1, p2, a := r3, rel := fun x _ => x.nat = true, nat := fun _ _ => false }
  | .tnatZOrAndcmP1P2R3 qp p1 p2 r3 =>
    some { qp, ct := .orAndcm, p1, p2, a := r3, rel := fun x _ => x.nat = false, nat := fun _ _ => false }
  | .tnatNzOrAndcmP1P2R3 qp p1 p2 r3 =>
    some { qp, ct := .orAndcm, p1, p2, a := r3, rel := fun x _ => x.nat = true, nat := fun _ _ => false }
  | .tbitNzP1P2R3Pos6 qp p1 p2 r3 pos6 =>
    some { qp, ct := .norm, p1, p2, a := r3, rel := fun x _ => x.val.getLsbD pos6.toNat = true }
  | .tbitNzUncP1P2R3Pos6 qp p1 p2 r3 pos6 =>
    some { qp, ct := .unc, p1, p2, a := r3, rel := fun x _ => x.val.getLsbD pos6.toNat = true }
  | .tnatNzP1P2R3 qp p1 p2 r3 =>
    some { qp, ct := .norm, p1, p2, a := r3, rel := fun x _ => x.nat = true, nat := fun _ _ => false }
  | .tnatNzUncP1P2R3 qp p1 p2 r3 =>
    some { qp, ct := .unc, p1, p2, a := r3, rel := fun x _ => x.nat = true, nat := fun _ _ => false }
  | _ => none

end Sys2Proof.Forms
end

