-- ==== Sys2Proof/Forms/Mem.lean ====
section
/-! DEFINITION. Forms/Mem.lean: the loads, stores, semaphores and prefetches, with what the spec says they leave in registers,
memory and the ALAT (`spec/42_m_type_memory.md` R380 to R403, R412, R425, `spec/20_memory.md` R91 to R98). -/

namespace Sys2Proof.Forms

open Sys2Proof.Machine

/-! ### Base registers -/

/-- The form updates its base register, which must then be a writable register, not `other`; an increment register must be
readable (R425). -/
def baseReady (s : State) (r3 : GrIdx) (u : BaseUpdate) (other : Option GrIdx) : Prop :=
  s.grVisible r3 = true ∧
  match u with
  | .none => True
  | .reg r2 => s.grTargetOk r3 = true ∧ s.grVisible r2 = true ∧ other ≠ some r3
  | .imm _ => s.grTargetOk r3 = true ∧ other ≠ some r3

/-- The updated base: the old one plus the increment, the NaT bits joined (R425 step 7). -/
def newBase (s : State) (r3 : GrIdx) (u : BaseUpdate) : GReg :=
  match u with
  | .none => s.gr r3
  | .reg r2 => { val := (s.gr r3).val + (s.gr r2).val, nat := (s.gr r3).nat || (s.gr r2).nat }
  | .imm v => { val := (s.gr r3).val + v, nat := (s.gr r3).nat }

/-- The base register of `u` is the updated one, but where another instruction of the group wrote it on no memory port (R911). -/
def baseDone (s t : State) (r3 : GrIdx) (u : BaseUpdate) : Prop :=
  u.updates = true → s.wawFree (.gr (s.grPhys r3)) .update = false → t.cur.gr (s.grPhys r3) = newBase s r3 u

/-- The physical general register the base update writes. -/
def basePhys (s : State) (r3 : GrIdx) (u : BaseUpdate) : Option Nat := if u.updates then some (s.grPhys r3) else none

/-! ### Loads -/

/-- What a load writes. -/
inductive LoadDst where
  | gr (r1 : GrIdx)
  | fr (f1 : FrIdx) (fmt : FpFormat)
  | pair (f1 f2 : FrIdx) (fmt : FpFormat)
  deriving DecidableEq, Repr

/-- A load. -/
structure LoadForm where
  qp  : PredIdx
  dst : LoadDst
  r3  : GrIdx
  u   : BaseUpdate
  n   : Nat
  k   : LoadKind
  deriving DecidableEq, Repr

/-- The targets are writable, enabled, and a pair has an odd and an even register (R330, R396, R426). -/
def LoadDst.ready (s : State) : LoadDst → Prop
  | .gr r1 => s.grTargetOk r1 = true
  | .fr f1 _ => frTargetOk f1 = true ∧ s.frDisabled f1 = 0
  | .pair f1 f2 _ => frTargetOk f1 = true ∧ frTargetOk f2 = true ∧ f1.toNat % 2 ≠ f2.toNat % 2 ∧ s.frDisabled f1 = 0 ∧
      s.frDisabled f2 = 0

/-- The general register a load writes. -/
def LoadDst.greg : LoadDst → Option GrIdx
  | .gr r1 => some r1
  | .fr _ _ | .pair _ _ _ => none

/-- The register the ALAT files the load under (R90, R91). -/
def LoadDst.alat (s : State) : LoadDst → AlatReg
  | .gr r1 => .gr (s.grPhys r1)
  | .fr f1 _ | .pair f1 _ _ => .fr (s.frPhys f1)

/-- The kind of access (R84). -/
def LoadDst.cls : LoadDst → AccClass
  | .gr _ => .int
  | .fr _ _ => .fp
  | .pair _ _ _ => .fpPair

/-- The access of the load, at the address in the base register. -/
def LoadForm.acc (s : State) (f : LoadForm) : Acc :=
  { va := (s.gr f.r3).val, n := f.n, cls := if f.k.ordered then .ordered else f.dst.cls, r := true, sp := f.k.speculative,
    cpl := s.cpl }

/-- The load may go ahead: predicate 1, targets and base ready. -/
def LoadForm.ready (s : State) (f : LoadForm) : Prop :=
  s.pred f.qp = true ∧ f.dst.ready s ∧ baseReady s f.r3 f.u f.dst.greg

/-- FR[f] holds `v`, but where an instruction of the group that is no load wrote it too (R911). -/
def frLoaded (s t : State) (f : FrIdx) (v : FReg) : Prop :=
  s.wawFree (.fr (s.frPhys f)) .load = false → t.cur.frAt (s.frPhys f) = v

/-- The targets hold the bytes at physical address `pa`, converted (R380, R392, R396). -/
def LoadDst.loaded (s t : State) (pa n : Nat) : LoadDst → Prop
  | .gr r1 => t.cur.gr (s.grPhys r1) = { val := BitVec.ofNat 64 (Memory.load s.mem pa n s.umBe), nat := false }
  | .fr f1 fmt => frLoaded s t f1 (fmt.toReg (Memory.load s.mem pa n s.umBe))
  | .pair f1 f2 fmt =>
    frLoaded s t f1 (fmt.toReg (Memory.load s.mem pa (n / 2) s.umBe)) ∧
      frLoaded s t f2 (fmt.toReg (Memory.load s.mem (pa + n / 2) (n / 2) s.umBe))

/-- The targets hold the deferred-exception token (R382, R393, R396). -/
def LoadDst.deferred (s t : State) : LoadDst → Prop
  | .gr r1 => t.cur.gr (s.grPhys r1) = { val := 0, nat := true }
  | .fr f1 _ => frLoaded s t f1 FReg.natVal
  | .pair f1 f2 _ => frLoaded s t f1 FReg.natVal ∧ frLoaded s t f2 FReg.natVal

/-- The floating-point registers a load writes. -/
def LoadDst.frs : LoadDst → List FrIdx
  | .gr _ => []
  | .fr f1 _ => [f1]
  | .pair f1 f2 _ => [f1, f2]

/-- What a load leaves alone: every register but its targets (when `w`) and an updated base, all of memory, and everything
that is no register, no ALAT entry and no note of the group; PSR.mfl and mfh follow the floating-point targets (R27); `d` is the data
translation cache, which keeps its entries in the order of their use, and `l` the first-level data TLB. What the load does to the ALAT and
its notes stands beside it: `LoadForm.AlatPerformed`, `LoadForm.AlatDeferred`, `LoadForm.Hits`. -/
def LoadForm.Frame (s t : State) (f : LoadForm) (w : Bool) (d l : List TlbEntry) : Prop :=
  (∀ p, (w = true → (f.dst.greg.map s.grPhys) ≠ some p) → basePhys s f.r3 f.u ≠ some p → t.cur.gr p = s.cur.gr p) ∧
  (∀ p, (w = true → match f.dst with
      | .gr _ => True
      | .fr f1 _ => p ≠ s.frPhys f1
      | .pair f1 f2 _ => p ≠ s.frPhys f1 ∧ p ≠ s.frPhys f2) → t.cur.frAt p = s.cur.frAt p) ∧
  s.cur.OnlyGrFr t.cur ∧
  s.MarksFr t (if w then f.dst.frs else []) ∧
  t = { s with cur := t.cur, psr := t.psr, grpWrites := t.grpWrites, alat := t.alat, dtcache := d,
               l1dtlb := l, grpAlatSets := t.grpAlatSets, grpAlatChecks := t.grpAlatChecks, grpAlatInval := t.grpAlatInval,
               events := t.events } ∧
  s.SameMem t

/-- The loads that make an ALAT entry: advanced loads and missing `.nc` checks (R91). -/
def LoadForm.makesEntry (f : LoadForm) : Bool := f.k.advanced || f.k = .chkNc

/-- The ALAT entries of other registers stay. Only where they fill all 32 places and an entry is made does one of them go, any one (R91;
log 9). -/
def othersStay (s t : State) (r : AlatReg) (made : Bool) : Prop :=
  let others := s.alat.filter (fun e => e.reg ≠ r)
  (∀ e ∈ t.alat, e.reg ≠ r → e ∈ s.alat) ∧ (made = false ∨ others.length < 32 → t.alat.filter (fun e => e.reg ≠ r) = others) ∧
    others.length ≤ (t.alat.filter (fun e => e.reg ≠ r)).length + 1

/-- The notes of the group about the ALAT: the register was set, checked, invalidated, or not (R96, R97). -/
def alatNotes (s t : State) (r : AlatReg) (set check inval : Bool) : Prop :=
  t.grpAlatSets = (if set then r :: s.grpAlatSets else s.grpAlatSets) ∧
    t.grpAlatChecks = (if check then r :: s.grpAlatChecks else s.grpAlatChecks) ∧
    t.grpAlatInval = (if inval then r :: s.grpAlatInval else s.grpAlatInval)

/-- What a performed load does to the ALAT: a load that neither makes nor checks an entry leaves it as it is; a missing `.clr` check leaves no
entry of its register; one that makes an entry (`LoadForm.Files` says which) leaves those of other registers (R91, R94, R97). -/
def LoadForm.AlatPerformed (s t : State) (f : LoadForm) : Prop :=
  let r := f.dst.alat s
  alatNotes s t r f.makesEntry f.k.check f.k.clears ∧
    if f.makesEntry then othersStay s t r true
    else t.alat = if f.k.clears then s.alat.filter (fun e => e.reg ≠ r) else s.alat

/-- What a deferred load does to the ALAT: `ld.sa` leaves no entry of its register, nothing else changes (R98). -/
def LoadForm.AlatDeferred (s t : State) (f : LoadForm) : Prop :=
  alatNotes s t (f.dst.alat s) false false false ∧
    t.alat = if f.k = .specAdv then s.alat.filter (fun e => e.reg ≠ f.dst.alat s) else s.alat

/-- A load whose access is allowed is performed: the targets get the bytes, the base moves, the translation used becomes the most
recently used one (R156), and an integer load has it in the first-level data TLB (R155). PSR.ed = 1 would defer a speculative one (R567). -/
def LoadForm.Performs (i : Instr) (f : LoadForm) : Prop :=
  ∀ s : State, s.FrameOk → f.ready s → (s.gr f.r3).nat = false → (f.k.speculative = true → s.psrEd = false) →
    (f.k.check = true → s.alatHit (f.dst.alat s) = false) → ∀ pa ma, s.resolve (f.acc s) = .ok (pa, ma) →
      ∃ t, exec i s = .next (retire s { s := t }) ∧ f.dst.loaded s t pa f.n ∧ baseDone s t f.r3 f.u ∧
        f.Frame s t true (s.dtcUsed (f.acc s)) (s.l1dAfter (f.acc s)) ∧ f.AlatPerformed s t

/-- A speculative load of a NaT address, or whose access fails in a way that is deferred, or any with PSR.ed = 1, writes the token
(R382, R425 step 6, R567). -/
def LoadForm.Defers (i : Instr) (f : LoadForm) : Prop :=
  ∀ s : State, s.FrameOk → f.ready s → f.k.speculative = true →
    ((s.gr f.r3).nat = true ∨ (∃ e, s.resolve (f.acc s) = .error e ∧ s.defers e = true) ∨
      (s.psrEd = true ∧ ∃ p, s.resolve (f.acc s) = .ok p)) →
      ∃ t, exec i s = .next (retire s { s := t }) ∧ f.dst.deferred s t ∧ baseDone s t f.r3 f.u ∧ f.Frame s t true s.dtcache s.l1dtlb ∧
        f.AlatDeferred s t

/-- A check load that finds its entry accesses nothing: the targets stay; `.clr` removes the entry (R94, R385). -/
def LoadForm.Hits (i : Instr) (f : LoadForm) : Prop :=
  ∀ s : State, f.ready s → f.k.check = true → s.alatHit (f.dst.alat s) = true →
    ∃ t, exec i s = .next (retire s { s := t }) ∧ baseDone s t f.r3 f.u ∧ f.Frame s t false s.dtcache s.l1dtlb ∧
      alatNotes s t (f.dst.alat s) false true f.k.clears ∧
      t.alat = (if f.k = .chkNc then s.alat else s.alat.filter (fun e => e.reg ≠ f.dst.alat s))

/-- A non-speculative load of a NaT address, and any load whose access fails with a fault that it does not defer, takes the
interruption and writes nothing; an advanced load leaves no entry for its register (R87, R98, R425, R426, R567). -/
def LoadForm.Faults (i : Instr) (f : LoadForm) : Prop :=
  ∀ s : State, f.ready s → (f.k.check = true → s.alatHit (f.dst.alat s) = false) →
    let s' := if f.k.advanced then { s with alat := s.alat.filter (fun e => e.reg ≠ f.dst.alat s) } else s
    (f.k.speculative = false → (s.gr f.r3).nat = true →
      exec i s = .next (s'.takeInterruption { vec := .natConsumption, code := 0x10, r := true } s.ri)) ∧
    ((s.gr f.r3).nat = false → ∀ e, s.resolve (f.acc s) = .error e → e ≠ .multipleHit →
      (f.k.speculative = true → s.defers e = false) →
        exec i s = .next (s'.takeInterruption (s.transIntr (f.acc s) e) s.ri))

/-- A performed load that makes an entry files its register, the low 20 bits of its address and its size, unless its group
invalidates the register or has checked it (R91, R96, R97); the entries of other registers stay (log 9). -/
def LoadForm.Files (i : Instr) (f : LoadForm) : Prop :=
  ∀ s : State, f.ready s → f.makesEntry = true → (s.gr f.r3).nat = false → (f.k.speculative = true → s.psrEd = false) →
    (f.k.check = true → s.alatHit (f.dst.alat s) = false) →
    s.grpAlatInvalAll = false → f.dst.alat s ∉ s.grpAlatInval → f.dst.alat s ∉ s.grpAlatChecks →
    ∀ pa ma, s.resolve (f.acc s) = .ok (pa, ma) →
      ∃ t, exec i s = .next (retire s { s := t }) ∧
        ({ reg := f.dst.alat s, pa20 := BitVec.ofNat 20 pa, size := f.n } : AlatEntry) ∈ t.alat ∧
        (∀ e ∈ t.alat, e.reg = f.dst.alat s → e = { reg := f.dst.alat s, pa20 := BitVec.ofNat 20 pa, size := f.n }) ∧
        othersStay s t (f.dst.alat s) true

/-- Formats M1 to M3 but for `ld8.fill` (R380 to R386). -/
def intLoadForm : Instr → Option LoadForm
  | .ld1R1R3 qp r1 r3 _ =>
    some { qp, dst := .gr r1, r3, u := .none, n := 1, k := .plain }
  | .ld1R1R3R2 qp r1 r3 r2 _ =>
    some { qp, dst := .gr r1, r3, u := .reg r2, n := 1, k := .plain }
  | .ld1R1R3Imm9 qp r1 r3 imm9 _ =>
    some { qp, dst := .gr r1, r3, u := .imm (imm9.signExtend 64), n := 1, k := .plain }
  | .ld2R1R3 qp r1 r3 _ =>
    some { qp, dst := .gr r1, r3, u := .none, n := 2, k := .plain }
  | .ld2R1R3R2 qp r1 r3 r2 _ =>
    some { qp, dst := .gr r1, r3, u := .reg r2, n := 2, k := .plain }
  | .ld2R1R3Imm9 qp r1 r3 imm9 _ =>
    some { qp, dst := .gr r1, r3, u := .imm (imm9.signExtend 64), n := 2, k := .plain }
  | .ld4R1R3 qp r1 r3 _ =>
    some { qp, dst := .gr r1, r3, u := .none, n := 4, k := .plain }
  | .ld4R1R3R2 qp r1 r3 r2 _ =>
    some { qp, dst := .gr r1, r3, u := .reg r2, n := 4, k := .plain }
  | .ld4R1R3Imm9 qp r1 r3 imm9 _ =>
    some { qp, dst := .gr r1, r3, u := .imm (imm9.signExtend 64), n := 4, k := .plain }
  | .ld8R1R3 qp r1 r3 _ =>
    some { qp, dst := .gr r1, r3, u := .none, n := 8, k := .plain }
  | .ld8R1R3R2 qp r1 r3 r2 _ =>
    some { qp, dst := .gr r1, r3, u := .reg r2, n := 8, k := .plain }
  | .ld8R1R3Imm9 qp r1 r3 imm9 _ =>
    some { qp, dst := .gr r1, r3, u := .imm (imm9.signExtend 64), n := 8, k := .plain }
  | .ld1SR1R3 qp r1 r3 _ =>
    some { qp, dst := .gr r1, r3, u := .none, n := 1, k := .spec }
  | .ld1SR1R3R2 qp r1 r3 r2 _ =>
    some { qp, dst := .gr r1, r3, u := .reg r2, n := 1, k := .spec }
  | .ld1SR1R3Imm9 qp r1 r3 imm9 _ =>
    some { qp, dst := .gr r1, r3, u := .imm (imm9.signExtend 64), n := 1, k := .spec }
  | .ld2SR1R3 qp r1 r3 _ =>
    some { qp, dst := .gr r1, r3, u := .none, n := 2, k := .spec }
  | .ld2SR1R3R2 qp r1 r3 r2 _ =>
    some { qp, dst := .gr r1, r3, u := .reg r2, n := 2, k := .spec }
  | .ld2SR1R3Imm9 qp r1 r3 imm9 _ =>
    some { qp, dst := .gr r1, r3, u := .imm (imm9.signExtend 64), n := 2, k := .spec }
  | .ld4SR1R3 qp r1 r3 _ =>
    some { qp, dst := .gr r1, r3, u := .none, n := 4, k := .spec }
  | .ld4SR1R3R2 qp r1 r3 r2 _ =>
    some { qp, dst := .gr r1, r3, u := .reg r2, n := 4, k := .spec }
  | .ld4SR1R3Imm9 qp r1 r3 imm9 _ =>
    some { qp, dst := .gr r1, r3, u := .imm (imm9.signExtend 64), n := 4, k := .spec }
  | .ld8SR1R3 qp r1 r3 _ =>
    some { qp, dst := .gr r1, r3, u := .none, n := 8, k := .spec }
  | .ld8SR1R3R2 qp r1 r3 r2 _ =>
    some { qp, dst := .gr r1, r3, u := .reg r2, n := 8, k := .spec }
  | .ld8SR1R3Imm9 qp r1 r3 imm9 _ =>
    some { qp, dst := .gr r1, r3, u := .imm (imm9.signExtend 64), n := 8, k := .spec }
  | .ld1AR1R3 qp r1 r3 _ =>
    some { qp, dst := .gr r1, r3, u := .none, n := 1, k := .adv }
  | .ld1AR1R3R2 qp r1 r3 r2 _ =>
    some { qp, dst := .gr r1, r3, u := .reg r2, n := 1, k := .adv }
  | .ld1AR1R3Imm9 qp r1 r3 imm9 _ =>
    some { qp, dst := .gr r1, r3, u := .imm (imm9.signExtend 64), n := 1, k := .adv }
  | .ld2AR1R3 qp r1 r3 _ =>
    some { qp, dst := .gr r1, r3, u := .none, n := 2, k := .adv }
  | .ld2AR1R3R2 qp r1 r3 r2 _ =>
    some { qp, dst := .gr r1, r3, u := .reg r2, n := 2, k := .adv }
  | .ld2AR1R3Imm9 qp r1 r3 imm9 _ =>
    some { qp, dst := .gr r1, r3, u := .imm (imm9.signExtend 64), n := 2, k := .adv }
  | .ld4AR1R3 qp r1 r3 _ =>
    some { qp, dst := .gr r1, r3, u := .none, n := 4, k := .adv }
  | .ld4AR1R3R2 qp r1 r3 r2 _ =>
    some { qp, dst := .gr r1, r3, u := .reg r2, n := 4, k := .adv }
  | .ld4AR1R3Imm9 qp r1 r3 imm9 _ =>
    some { qp, dst := .gr r1, r3, u := .imm (imm9.signExtend 64), n := 4, k := .adv }
  | .ld8AR1R3 qp r1 r3 _ =>
    some { qp, dst := .gr r1, r3, u := .none, n := 8, k := .adv }
  | .ld8AR1R3R2 qp r1 r3 r2 _ =>
    some { qp, dst := .gr r1, r3, u := .reg r2, n := 8, k := .adv }
  | .ld8AR1R3Imm9 qp r1 r3 imm9 _ =>
    some { qp, dst := .gr r1, r3, u := .imm (imm9.signExtend 64), n := 8, k := .adv }
  | .ld1SaR1R3 qp r1 r3 _ =>
    some { qp, dst := .gr r1, r3, u := .none, n := 1, k := .specAdv }
  | .ld1SaR1R3R2 qp r1 r3 r2 _ =>
    some { qp, dst := .gr r1, r3, u := .reg r2, n := 1, k := .specAdv }
  | .ld1SaR1R3Imm9 qp r1 r3 imm9 _ =>
    some { qp, dst := .gr r1, r3, u := .imm (imm9.signExtend 64), n := 1, k := .specAdv }
  | .ld2SaR1R3 qp r1 r3 _ =>
    some { qp, dst := .gr r1, r3, u := .none, n := 2, k := .specAdv }
  | .ld2SaR1R3R2 qp r1 r3 r2 _ =>
    some { qp, dst := .gr r1, r3, u := .reg r2, n := 2, k := .specAdv }
  | .ld2SaR1R3Imm9 qp r1 r3 imm9 _ =>
    some { qp, dst := .gr r1, r3, u := .imm (imm9.signExtend 64), n := 2, k := .specAdv }
  | .ld4SaR1R3 qp r1 r3 _ =>
    some { qp, dst := .gr r1, r3, u := .none, n := 4, k := .specAdv }
  | .ld4SaR1R3R2 qp r1 r3 r2 _ =>
    some { qp, dst := .gr r1, r3, u := .reg r2, n := 4, k := .specAdv }
  | .ld4SaR1R3Imm9 qp r1 r3 imm9 _ =>
    some { qp, dst := .gr r1, r3, u := .imm (imm9.signExtend 64), n := 4, k := .specAdv }
  | .ld8SaR1R3 qp r1 r3 _ =>
    some { qp, dst := .gr r1, r3, u := .none, n := 8, k := .specAdv }
  | .ld8SaR1R3R2 qp r1 r3 r2 _ =>
    some { qp, dst := .gr r1, r3, u := .reg r2, n := 8, k := .specAdv }
  | .ld8SaR1R3Imm9 qp r1 r3 imm9 _ =>
    some { qp, dst := .gr r1, r3, u := .imm (imm9.signExtend 64), n := 8, k := .specAdv }
  | .ld1BiasR1R3 qp r1 r3 _ =>
    some { qp, dst := .gr r1, r3, u := .none, n := 1, k := .plain }
  | .ld1BiasR1R3R2 qp r1 r3 r2 _ =>
    some { qp, dst := .gr r1, r3, u := .reg r2, n := 1, k := .plain }
  | .ld1BiasR1R3Imm9 qp r1 r3 imm9 _ =>
    some { qp, dst := .gr r1, r3, u := .imm (imm9.signExtend 64), n := 1, k := .plain }
  | .ld2BiasR1R3 qp r1 r3 _ =>
    some { qp, dst := .gr r1, r3, u := .none, n := 2, k := .plain }
  | .ld2BiasR1R3R2 qp r1 r3 r2 _ =>
    some { qp, dst := .gr r1, r3, u := .reg r2, n := 2, k := .plain }
  | .ld2BiasR1R3Imm9 qp r1 r3 imm9 _ =>
    some { qp, dst := .gr r1, r3, u := .imm (imm9.signExtend 64), n := 2, k := .plain }
  | .ld4BiasR1R3 qp r1 r3 _ =>
    some { qp, dst := .gr r1, r3, u := .none, n := 4, k := .plain }
  | .ld4BiasR1R3R2 qp r1 r3 r2 _ =>
    some { qp, dst := .gr r1, r3, u := .reg r2, n := 4, k := .plain }
  | .ld4BiasR1R3Imm9 qp r1 r3 imm9 _ =>
    some { qp, dst := .gr r1, r3, u := .imm (imm9.signExtend 64), n := 4, k := .plain }
  | .ld8BiasR1R3 qp r1 r3 _ =>
    some { qp, dst := .gr r1, r3, u := .none, n := 8, k := .plain }
  | .ld8BiasR1R3R2 qp r1 r3 r2 _ =>
    some { qp, dst := .gr r1, r3, u := .reg r2, n := 8, k := .plain }
  | .ld8BiasR1R3Imm9 qp r1 r3 imm9 _ =>
    some { qp, dst := .gr r1, r3, u := .imm (imm9.signExtend 64), n := 8, k := .plain }
  | .ld1AcqR1R3 qp r1 r3 _ =>
    some { qp, dst := .gr r1, r3, u := .none, n := 1, k := .acq }
  | .ld1AcqR1R3R2 qp r1 r3 r2 _ =>
    some { qp, dst := .gr r1, r3, u := .reg r2, n := 1, k := .acq }
  | .ld1AcqR1R3Imm9 qp r1 r3 imm9 _ =>
    some { qp, dst := .gr r1, r3, u := .imm (imm9.signExtend 64), n := 1, k := .acq }
  | .ld2AcqR1R3 qp r1 r3 _ =>
    some { qp, dst := .gr r1, r3, u := .none, n := 2, k := .acq }
  | .ld2AcqR1R3R2 qp r1 r3 r2 _ =>
    some { qp, dst := .gr r1, r3, u := .reg r2, n := 2, k := .acq }
  | .ld2AcqR1R3Imm9 qp r1 r3 imm9 _ =>
    some { qp, dst := .gr r1, r3, u := .imm (imm9.signExtend 64), n := 2, k := .acq }
  | .ld4AcqR1R3 qp r1 r3 _ =>
    some { qp, dst := .gr r1, r3, u := .none, n := 4, k := .acq }
  | .ld4AcqR1R3R2 qp r1 r3 r2 _ =>
    some { qp, dst := .gr r1, r3, u := .reg r2, n := 4, k := .acq }
  | .ld4AcqR1R3Imm9 qp r1 r3 imm9 _ =>
    some { qp, dst := .gr r1, r3, u := .imm (imm9.signExtend 64), n := 4, k := .acq }
  | .ld8AcqR1R3 qp r1 r3 _ =>
    some { qp, dst := .gr r1, r3, u := .none, n := 8, k := .acq }
  | .ld8AcqR1R3R2 qp r1 r3 r2 _ =>
    some { qp, dst := .gr r1, r3, u := .reg r2, n := 8, k := .acq }
  | .ld8AcqR1R3Imm9 qp r1 r3 imm9 _ =>
    some { qp, dst := .gr r1, r3, u := .imm (imm9.signExtend 64), n := 8, k := .acq }
  | .ld1CClrR1R3 qp r1 r3 _ =>
    some { qp, dst := .gr r1, r3, u := .none, n := 1, k := .chkClr }
  | .ld1CClrR1R3R2 qp r1 r3 r2 _ =>
    some { qp, dst := .gr r1, r3, u := .reg r2, n := 1, k := .chkClr }
  | .ld1CClrR1R3Imm9 qp r1 r3 imm9 _ =>
    some { qp, dst := .gr r1, r3, u := .imm (imm9.signExtend 64), n := 1, k := .chkClr }
  | .ld2CClrR1R3 qp r1 r3 _ =>
    some { qp, dst := .gr r1, r3, u := .none, n := 2, k := .chkClr }
  | .ld2CClrR1R3R2 qp r1 r3 r2 _ =>
    some { qp, dst := .gr r1, r3, u := .reg r2, n := 2, k := .chkClr }
  | .ld2CClrR1R3Imm9 qp r1 r3 imm9 _ =>
    some { qp, dst := .gr r1, r3, u := .imm (imm9.signExtend 64), n := 2, k := .chkClr }
  | .ld4CClrR1R3 qp r1 r3 _ =>
    some { qp, dst := .gr r1, r3, u := .none, n := 4, k := .chkClr }
  | .ld4CClrR1R3R2 qp r1 r3 r2 _ =>
    some { qp, dst := .gr r1, r3, u := .reg r2, n := 4, k := .chkClr }
  | .ld4CClrR1R3Imm9 qp r1 r3 imm9 _ =>
    some { qp, dst := .gr r1, r3, u := .imm (imm9.signExtend 64), n := 4, k := .chkClr }
  | .ld8CClrR1R3 qp r1 r3 _ =>
    some { qp, dst := .gr r1, r3, u := .none, n := 8, k := .chkClr }
  | .ld8CClrR1R3R2 qp r1 r3 r2 _ =>
    some { qp, dst := .gr r1, r3, u := .reg r2, n := 8, k := .chkClr }
  | .ld8CClrR1R3Imm9 qp r1 r3 imm9 _ =>
    some { qp, dst := .gr r1, r3, u := .imm (imm9.signExtend 64), n := 8, k := .chkClr }
  | .ld1CNcR1R3 qp r1 r3 _ =>
    some { qp, dst := .gr r1, r3, u := .none, n := 1, k := .chkNc }
  | .ld1CNcR1R3R2 qp r1 r3 r2 _ =>
    some { qp, dst := .gr r1, r3, u := .reg r2, n := 1, k := .chkNc }
  | .ld1CNcR1R3Imm9 qp r1 r3 imm9 _ =>
    some { qp, dst := .gr r1, r3, u := .imm (imm9.signExtend 64), n := 1, k := .chkNc }
  | .ld2CNcR1R3 qp r1 r3 _ =>
    some { qp, dst := .gr r1, r3, u := .none, n := 2, k := .chkNc }
  | .ld2CNcR1R3R2 qp r1 r3 r2 _ =>
    some { qp, dst := .gr r1, r3, u := .reg r2, n := 2, k := .chkNc }
  | .ld2CNcR1R3Imm9 qp r1 r3 imm9 _ =>
    some { qp, dst := .gr r1, r3, u := .imm (imm9.signExtend 64), n := 2, k := .chkNc }
  | .ld4CNcR1R3 qp r1 r3 _ =>
    some { qp, dst := .gr r1, r3, u := .none, n := 4, k := .chkNc }
  | .ld4CNcR1R3R2 qp r1 r3 r2 _ =>
    some { qp, dst := .gr r1, r3, u := .reg r2, n := 4, k := .chkNc }
  | .ld4CNcR1R3Imm9 qp r1 r3 imm9 _ =>
    some { qp, dst := .gr r1, r3, u := .imm (imm9.signExtend 64), n := 4, k := .chkNc }
  | .ld8CNcR1R3 qp r1 r3 _ =>
    some { qp, dst := .gr r1, r3, u := .none, n := 8, k := .chkNc }
  | .ld8CNcR1R3R2 qp r1 r3 r2 _ =>
    some { qp, dst := .gr r1, r3, u := .reg r2, n := 8, k := .chkNc }
  | .ld8CNcR1R3Imm9 qp r1 r3 imm9 _ =>
    some { qp, dst := .gr r1, r3, u := .imm (imm9.signExtend 64), n := 8, k := .chkNc }
  | .ld1CClrAcqR1R3 qp r1 r3 _ =>
    some { qp, dst := .gr r1, r3, u := .none, n := 1, k := .chkClrAcq }
  | .ld1CClrAcqR1R3R2 qp r1 r3 r2 _ =>
    some { qp, dst := .gr r1, r3, u := .reg r2, n := 1, k := .chkClrAcq }
  | .ld1CClrAcqR1R3Imm9 qp r1 r3 imm9 _ =>
    some { qp, dst := .gr r1, r3, u := .imm (imm9.signExtend 64), n := 1, k := .chkClrAcq }
  | .ld2CClrAcqR1R3 qp r1 r3 _ =>
    some { qp, dst := .gr r1, r3, u := .none, n := 2, k := .chkClrAcq }
  | .ld2CClrAcqR1R3R2 qp r1 r3 r2 _ =>
    some { qp, dst := .gr r1, r3, u := .reg r2, n := 2, k := .chkClrAcq }
  | .ld2CClrAcqR1R3Imm9 qp r1 r3 imm9 _ =>
    some { qp, dst := .gr r1, r3, u := .imm (imm9.signExtend 64), n := 2, k := .chkClrAcq }
  | .ld4CClrAcqR1R3 qp r1 r3 _ =>
    some { qp, dst := .gr r1, r3, u := .none, n := 4, k := .chkClrAcq }
  | .ld4CClrAcqR1R3R2 qp r1 r3 r2 _ =>
    some { qp, dst := .gr r1, r3, u := .reg r2, n := 4, k := .chkClrAcq }
  | .ld4CClrAcqR1R3Imm9 qp r1 r3 imm9 _ =>
    some { qp, dst := .gr r1, r3, u := .imm (imm9.signExtend 64), n := 4, k := .chkClrAcq }
  | .ld8CClrAcqR1R3 qp r1 r3 _ =>
    some { qp, dst := .gr r1, r3, u := .none, n := 8, k := .chkClrAcq }
  | .ld8CClrAcqR1R3R2 qp r1 r3 r2 _ =>
    some { qp, dst := .gr r1, r3, u := .reg r2, n := 8, k := .chkClrAcq }
  | .ld8CClrAcqR1R3Imm9 qp r1 r3 imm9 _ =>
    some { qp, dst := .gr r1, r3, u := .imm (imm9.signExtend 64), n := 8, k := .chkClrAcq }
  | _ => none

/-- Formats M6 to M8 (R392, R393, R394). -/
def fpLoadForm : Instr → Option LoadForm
  | .ldfeF1R3 qp f1 r3 _ =>
    some { qp, dst := .fr f1 .extended, r3, u := .none, n := 10, k := .plain }
  | .ldfeF1R3R2 qp f1 r3 r2 _ =>
    some { qp, dst := .fr f1 .extended, r3, u := .reg r2, n := 10, k := .plain }
  | .ldfeF1R3Imm9 qp f1 r3 imm9 _ =>
    some { qp, dst := .fr f1 .extended, r3, u := .imm (imm9.signExtend 64), n := 10, k := .plain }
  | .ldf8F1R3 qp f1 r3 _ =>
    some { qp, dst := .fr f1 .integer, r3, u := .none, n := 8, k := .plain }
  | .ldf8F1R3R2 qp f1 r3 r2 _ =>
    some { qp, dst := .fr f1 .integer, r3, u := .reg r2, n := 8, k := .plain }
  | .ldf8F1R3Imm9 qp f1 r3 imm9 _ =>
    some { qp, dst := .fr f1 .integer, r3, u := .imm (imm9.signExtend 64), n := 8, k := .plain }
  | .ldfsF1R3 qp f1 r3 _ =>
    some { qp, dst := .fr f1 .single, r3, u := .none, n := 4, k := .plain }
  | .ldfsF1R3R2 qp f1 r3 r2 _ =>
    some { qp, dst := .fr f1 .single, r3, u := .reg r2, n := 4, k := .plain }
  | .ldfsF1R3Imm9 qp f1 r3 imm9 _ =>
    some { qp, dst := .fr f1 .single, r3, u := .imm (imm9.signExtend 64), n := 4, k := .plain }
  | .ldfdF1R3 qp f1 r3 _ =>
    some { qp, dst := .fr f1 .double, r3, u := .none, n := 8, k := .plain }
  | .ldfdF1R3R2 qp f1 r3 r2 _ =>
    some { qp, dst := .fr f1 .double, r3, u := .reg r2, n := 8, k := .plain }
  | .ldfdF1R3Imm9 qp f1 r3 imm9 _ =>
    some { qp, dst := .fr f1 .double, r3, u := .imm (imm9.signExtend 64), n := 8, k := .plain }
  | .ldfeSF1R3 qp f1 r3 _ =>
    some { qp, dst := .fr f1 .extended, r3, u := .none, n := 10, k := .spec }
  | .ldfeSF1R3R2 qp f1 r3 r2 _ =>
    some { qp, dst := .fr f1 .extended, r3, u := .reg r2, n := 10, k := .spec }
  | .ldfeSF1R3Imm9 qp f1 r3 imm9 _ =>
    some { qp, dst := .fr f1 .extended, r3, u := .imm (imm9.signExtend 64), n := 10, k := .spec }
  | .ldf8SF1R3 qp f1 r3 _ =>
    some { qp, dst := .fr f1 .integer, r3, u := .none, n := 8, k := .spec }
  | .ldf8SF1R3R2 qp f1 r3 r2 _ =>
    some { qp, dst := .fr f1 .integer, r3, u := .reg r2, n := 8, k := .spec }
  | .ldf8SF1R3Imm9 qp f1 r3 imm9 _ =>
    some { qp, dst := .fr f1 .integer, r3, u := .imm (imm9.signExtend 64), n := 8, k := .spec }
  | .ldfsSF1R3 qp f1 r3 _ =>
    some { qp, dst := .fr f1 .single, r3, u := .none, n := 4, k := .spec }
  | .ldfsSF1R3R2 qp f1 r3 r2 _ =>
    some { qp, dst := .fr f1 .single, r3, u := .reg r2, n := 4, k := .spec }
  | .ldfsSF1R3Imm9 qp f1 r3 imm9 _ =>
    some { qp, dst := .fr f1 .single, r3, u := .imm (imm9.signExtend 64), n := 4, k := .spec }
  | .ldfdSF1R3 qp f1 r3 _ =>
    some { qp, dst := .fr f1 .double, r3, u := .none, n := 8, k := .spec }
  | .ldfdSF1R3R2 qp f1 r3 r2 _ =>
    some { qp, dst := .fr f1 .double, r3, u := .reg r2, n := 8, k := .spec }
  | .ldfdSF1R3Imm9 qp f1 r3 imm9 _ =>
    some { qp, dst := .fr f1 .double, r3, u := .imm (imm9.signExtend 64), n := 8, k := .spec }
  | .ldfeAF1R3 qp f1 r3 _ =>
    some { qp, dst := .fr f1 .extended, r3, u := .none, n := 10, k := .adv }
  | .ldfeAF1R3R2 qp f1 r3 r2 _ =>
    some { qp, dst := .fr f1 .extended, r3, u := .reg r2, n := 10, k := .adv }
  | .ldfeAF1R3Imm9 qp f1 r3 imm9 _ =>
    some { qp, dst := .fr f1 .extended, r3, u := .imm (imm9.signExtend 64), n := 10, k := .adv }
  | .ldf8AF1R3 qp f1 r3 _ =>
    some { qp, dst := .fr f1 .integer, r3, u := .none, n := 8, k := .adv }
  | .ldf8AF1R3R2 qp f1 r3 r2 _ =>
    some { qp, dst := .fr f1 .integer, r3, u := .reg r2, n := 8, k := .adv }
  | .ldf8AF1R3Imm9 qp f1 r3 imm9 _ =>
    some { qp, dst := .fr f1 .integer, r3, u := .imm (imm9.signExtend 64), n := 8, k := .adv }
  | .ldfsAF1R3 qp f1 r3 _ =>
    some { qp, dst := .fr f1 .single, r3, u := .none, n := 4, k := .adv }
  | .ldfsAF1R3R2 qp f1 r3 r2 _ =>
    some { qp, dst := .fr f1 .single, r3, u := .reg r2, n := 4, k := .adv }
  | .ldfsAF1R3Imm9 qp f1 r3 imm9 _ =>
    some { qp, dst := .fr f1 .single, r3, u := .imm (imm9.signExtend 64), n := 4, k := .adv }
  | .ldfdAF1R3 qp f1 r3 _ =>
    some { qp, dst := .fr f1 .double, r3, u := .none, n := 8, k := .adv }
  | .ldfdAF1R3R2 qp f1 r3 r2 _ =>
    some { qp, dst := .fr f1 .double, r3, u := .reg r2, n := 8, k := .adv }
  | .ldfdAF1R3Imm9 qp f1 r3 imm9 _ =>
    some { qp, dst := .fr f1 .double, r3, u := .imm (imm9.signExtend 64), n := 8, k := .adv }
  | .ldfeSaF1R3 qp f1 r3 _ =>
    some { qp, dst := .fr f1 .extended, r3, u := .none, n := 10, k := .specAdv }
  | .ldfeSaF1R3R2 qp f1 r3 r2 _ =>
    some { qp, dst := .fr f1 .extended, r3, u := .reg r2, n := 10, k := .specAdv }
  | .ldfeSaF1R3Imm9 qp f1 r3 imm9 _ =>
    some { qp, dst := .fr f1 .extended, r3, u := .imm (imm9.signExtend 64), n := 10, k := .specAdv }
  | .ldf8SaF1R3 qp f1 r3 _ =>
    some { qp, dst := .fr f1 .integer, r3, u := .none, n := 8, k := .specAdv }
  | .ldf8SaF1R3R2 qp f1 r3 r2 _ =>
    some { qp, dst := .fr f1 .integer, r3, u := .reg r2, n := 8, k := .specAdv }
  | .ldf8SaF1R3Imm9 qp f1 r3 imm9 _ =>
    some { qp, dst := .fr f1 .integer, r3, u := .imm (imm9.signExtend 64), n := 8, k := .specAdv }
  | .ldfsSaF1R3 qp f1 r3 _ =>
    some { qp, dst := .fr f1 .single, r3, u := .none, n := 4, k := .specAdv }
  | .ldfsSaF1R3R2 qp f1 r3 r2 _ =>
    some { qp, dst := .fr f1 .single, r3, u := .reg r2, n := 4, k := .specAdv }
  | .ldfsSaF1R3Imm9 qp f1 r3 imm9 _ =>
    some { qp, dst := .fr f1 .single, r3, u := .imm (imm9.signExtend 64), n := 4, k := .specAdv }
  | .ldfdSaF1R3 qp f1 r3 _ =>
    some { qp, dst := .fr f1 .double, r3, u := .none, n := 8, k := .specAdv }
  | .ldfdSaF1R3R2 qp f1 r3 r2 _ =>
    some { qp, dst := .fr f1 .double, r3, u := .reg r2, n := 8, k := .specAdv }
  | .ldfdSaF1R3Imm9 qp f1 r3 imm9 _ =>
    some { qp, dst := .fr f1 .double, r3, u := .imm (imm9.signExtend 64), n := 8, k := .specAdv }
  | .ldfeCClrF1R3 qp f1 r3 _ =>
    some { qp, dst := .fr f1 .extended, r3, u := .none, n := 10, k := .chkClr }
  | .ldfeCClrF1R3R2 qp f1 r3 r2 _ =>
    some { qp, dst := .fr f1 .extended, r3, u := .reg r2, n := 10, k := .chkClr }
  | .ldfeCClrF1R3Imm9 qp f1 r3 imm9 _ =>
    some { qp, dst := .fr f1 .extended, r3, u := .imm (imm9.signExtend 64), n := 10, k := .chkClr }
  | .ldf8CClrF1R3 qp f1 r3 _ =>
    some { qp, dst := .fr f1 .integer, r3, u := .none, n := 8, k := .chkClr }
  | .ldf8CClrF1R3R2 qp f1 r3 r2 _ =>
    some { qp, dst := .fr f1 .integer, r3, u := .reg r2, n := 8, k := .chkClr }
  | .ldf8CClrF1R3Imm9 qp f1 r3 imm9 _ =>
    some { qp, dst := .fr f1 .integer, r3, u := .imm (imm9.signExtend 64), n := 8, k := .chkClr }
  | .ldfsCClrF1R3 qp f1 r3 _ =>
    some { qp, dst := .fr f1 .single, r3, u := .none, n := 4, k := .chkClr }
  | .ldfsCClrF1R3R2 qp f1 r3 r2 _ =>
    some { qp, dst := .fr f1 .single, r3, u := .reg r2, n := 4, k := .chkClr }
  | .ldfsCClrF1R3Imm9 qp f1 r3 imm9 _ =>
    some { qp, dst := .fr f1 .single, r3, u := .imm (imm9.signExtend 64), n := 4, k := .chkClr }
  | .ldfdCClrF1R3 qp f1 r3 _ =>
    some { qp, dst := .fr f1 .double, r3, u := .none, n := 8, k := .chkClr }
  | .ldfdCClrF1R3R2 qp f1 r3 r2 _ =>
    some { qp, dst := .fr f1 .double, r3, u := .reg r2, n := 8, k := .chkClr }
  | .ldfdCClrF1R3Imm9 qp f1 r3 imm9 _ =>
    some { qp, dst := .fr f1 .double, r3, u := .imm (imm9.signExtend 64), n := 8, k := .chkClr }
  | .ldfeCNcF1R3 qp f1 r3 _ =>
    some { qp, dst := .fr f1 .extended, r3, u := .none, n := 10, k := .chkNc }
  | .ldfeCNcF1R3R2 qp f1 r3 r2 _ =>
    some { qp, dst := .fr f1 .extended, r3, u := .reg r2, n := 10, k := .chkNc }
  | .ldfeCNcF1R3Imm9 qp f1 r3 imm9 _ =>
    some { qp, dst := .fr f1 .extended, r3, u := .imm (imm9.signExtend 64), n := 10, k := .chkNc }
  | .ldf8CNcF1R3 qp f1 r3 _ =>
    some { qp, dst := .fr f1 .integer, r3, u := .none, n := 8, k := .chkNc }
  | .ldf8CNcF1R3R2 qp f1 r3 r2 _ =>
    some { qp, dst := .fr f1 .integer, r3, u := .reg r2, n := 8, k := .chkNc }
  | .ldf8CNcF1R3Imm9 qp f1 r3 imm9 _ =>
    some { qp, dst := .fr f1 .integer, r3, u := .imm (imm9.signExtend 64), n := 8, k := .chkNc }
  | .ldfsCNcF1R3 qp f1 r3 _ =>
    some { qp, dst := .fr f1 .single, r3, u := .none, n := 4, k := .chkNc }
  | .ldfsCNcF1R3R2 qp f1 r3 r2 _ =>
    some { qp, dst := .fr f1 .single, r3, u := .reg r2, n := 4, k := .chkNc }
  | .ldfsCNcF1R3Imm9 qp f1 r3 imm9 _ =>
    some { qp, dst := .fr f1 .single, r3, u := .imm (imm9.signExtend 64), n := 4, k := .chkNc }
  | .ldfdCNcF1R3 qp f1 r3 _ =>
    some { qp, dst := .fr f1 .double, r3, u := .none, n := 8, k := .chkNc }
  | .ldfdCNcF1R3R2 qp f1 r3 r2 _ =>
    some { qp, dst := .fr f1 .double, r3, u := .reg r2, n := 8, k := .chkNc }
  | .ldfdCNcF1R3Imm9 qp f1 r3 imm9 _ =>
    some { qp, dst := .fr f1 .double, r3, u := .imm (imm9.signExtend 64), n := 8, k := .chkNc }
  | .ldfFillF1R3 qp f1 r3 _ =>
    some { qp, dst := .fr f1 .fill, r3, u := .none, n := 16, k := .plain }
  | .ldfFillF1R3R2 qp f1 r3 r2 _ =>
    some { qp, dst := .fr f1 .fill, r3, u := .reg r2, n := 16, k := .plain }
  | .ldfFillF1R3Imm9 qp f1 r3 imm9 _ =>
    some { qp, dst := .fr f1 .fill, r3, u := .imm (imm9.signExtend 64), n := 16, k := .plain }
  | _ => none

/-- Formats M11 and M12 (R396). -/
def fpPairForm : Instr → Option LoadForm
  | .ldfpsF1F2R3 qp f1 f2 r3 _ =>
    some { qp, dst := .pair f1 f2 .single, r3, u := .none, n := 8, k := .plain }
  | .ldfpsF1F2R38 qp f1 f2 r3 _ =>
    some { qp, dst := .pair f1 f2 .single, r3, u := .imm 8, n := 8, k := .plain }
  | .ldfpsSF1F2R3 qp f1 f2 r3 _ =>
    some { qp, dst := .pair f1 f2 .single, r3, u := .none, n := 8, k := .spec }
  | .ldfpsSF1F2R38 qp f1 f2 r3 _ =>
    some { qp, dst := .pair f1 f2 .single, r3, u := .imm 8, n := 8, k := .spec }
  | .ldfpsAF1F2R3 qp f1 f2 r3 _ =>
    some { qp, dst := .pair f1 f2 .single, r3, u := .none, n := 8, k := .adv }
  | .ldfpsAF1F2R38 qp f1 f2 r3 _ =>
    some { qp, dst := .pair f1 f2 .single, r3, u := .imm 8, n := 8, k := .adv }
  | .ldfpsSaF1F2R3 qp f1 f2 r3 _ =>
    some { qp, dst := .pair f1 f2 .single, r3, u := .none, n := 8, k := .specAdv }
  | .ldfpsSaF1F2R38 qp f1 f2 r3 _ =>
    some { qp, dst := .pair f1 f2 .single, r3, u := .imm 8, n := 8, k := .specAdv }
  | .ldfpsCClrF1F2R3 qp f1 f2 r3 _ =>
    some { qp, dst := .pair f1 f2 .single, r3, u := .none, n := 8, k := .chkClr }
  | .ldfpsCClrF1F2R38 qp f1 f2 r3 _ =>
    some { qp, dst := .pair f1 f2 .single, r3, u := .imm 8, n := 8, k := .chkClr }
  | .ldfpsCNcF1F2R3 qp f1 f2 r3 _ =>
    some { qp, dst := .pair f1 f2 .single, r3, u := .none, n := 8, k := .chkNc }
  | .ldfpsCNcF1F2R38 qp f1 f2 r3 _ =>
    some { qp, dst := .pair f1 f2 .single, r3, u := .imm 8, n := 8, k := .chkNc }
  | .ldfpdF1F2R3 qp f1 f2 r3 _ =>
    some { qp, dst := .pair f1 f2 .double, r3, u := .none, n := 16, k := .plain }
  | .ldfpdF1F2R316 qp f1 f2 r3 _ =>
    some { qp, dst := .pair f1 f2 .double, r3, u := .imm 16, n := 16, k := .plain }
  | .ldfpdSF1F2R3 qp f1 f2 r3 _ =>
    some { qp, dst := .pair f1 f2 .double, r3, u := .none, n := 16, k := .spec }
  | .ldfpdSF1F2R316 qp f1 f2 r3 _ =>
    some { qp, dst := .pair f1 f2 .double, r3, u := .imm 16, n := 16, k := .spec }
  | .ldfpdAF1F2R3 qp f1 f2 r3 _ =>
    some { qp, dst := .pair f1 f2 .double, r3, u := .none, n := 16, k := .adv }
  | .ldfpdAF1F2R316 qp f1 f2 r3 _ =>
    some { qp, dst := .pair f1 f2 .double, r3, u := .imm 16, n := 16, k := .adv }
  | .ldfpdSaF1F2R3 qp f1 f2 r3 _ =>
    some { qp, dst := .pair f1 f2 .double, r3, u := .none, n := 16, k := .specAdv }
  | .ldfpdSaF1F2R316 qp f1 f2 r3 _ =>
    some { qp, dst := .pair f1 f2 .double, r3, u := .imm 16, n := 16, k := .specAdv }
  | .ldfpdCClrF1F2R3 qp f1 f2 r3 _ =>
    some { qp, dst := .pair f1 f2 .double, r3, u := .none, n := 16, k := .chkClr }
  | .ldfpdCClrF1F2R316 qp f1 f2 r3 _ =>
    some { qp, dst := .pair f1 f2 .double, r3, u := .imm 16, n := 16, k := .chkClr }
  | .ldfpdCNcF1F2R3 qp f1 f2 r3 _ =>
    some { qp, dst := .pair f1 f2 .double, r3, u := .none, n := 16, k := .chkNc }
  | .ldfpdCNcF1F2R316 qp f1 f2 r3 _ =>
    some { qp, dst := .pair f1 f2 .double, r3, u := .imm 16, n := 16, k := .chkNc }
  | .ldfp8F1F2R3 qp f1 f2 r3 _ =>
    some { qp, dst := .pair f1 f2 .integer, r3, u := .none, n := 16, k := .plain }
  | .ldfp8F1F2R316 qp f1 f2 r3 _ =>
    some { qp, dst := .pair f1 f2 .integer, r3, u := .imm 16, n := 16, k := .plain }
  | .ldfp8SF1F2R3 qp f1 f2 r3 _ =>
    some { qp, dst := .pair f1 f2 .integer, r3, u := .none, n := 16, k := .spec }
  | .ldfp8SF1F2R316 qp f1 f2 r3 _ =>
    some { qp, dst := .pair f1 f2 .integer, r3, u := .imm 16, n := 16, k := .spec }
  | .ldfp8AF1F2R3 qp f1 f2 r3 _ =>
    some { qp, dst := .pair f1 f2 .integer, r3, u := .none, n := 16, k := .adv }
  | .ldfp8AF1F2R316 qp f1 f2 r3 _ =>
    some { qp, dst := .pair f1 f2 .integer, r3, u := .imm 16, n := 16, k := .adv }
  | .ldfp8SaF1F2R3 qp f1 f2 r3 _ =>
    some { qp, dst := .pair f1 f2 .integer, r3, u := .none, n := 16, k := .specAdv }
  | .ldfp8SaF1F2R316 qp f1 f2 r3 _ =>
    some { qp, dst := .pair f1 f2 .integer, r3, u := .imm 16, n := 16, k := .specAdv }
  | .ldfp8CClrF1F2R3 qp f1 f2 r3 _ =>
    some { qp, dst := .pair f1 f2 .integer, r3, u := .none, n := 16, k := .chkClr }
  | .ldfp8CClrF1F2R316 qp f1 f2 r3 _ =>
    some { qp, dst := .pair f1 f2 .integer, r3, u := .imm 16, n := 16, k := .chkClr }
  | .ldfp8CNcF1F2R3 qp f1 f2 r3 _ =>
    some { qp, dst := .pair f1 f2 .integer, r3, u := .none, n := 16, k := .chkNc }
  | .ldfp8CNcF1F2R316 qp f1 f2 r3 _ =>
    some { qp, dst := .pair f1 f2 .integer, r3, u := .imm 16, n := 16, k := .chkNc }
  | _ => none

/-- The load that an instruction is. -/
def loadForm (i : Instr) : Option LoadForm := intLoadForm i <|> fpLoadForm i <|> fpPairForm i

/-- The state on which a fault of instruction `i` is taken: an advanced load leaves no ALAT entry of its own register (R98), every other
instruction leaves all as it was. -/
def faultState (i : Instr) (s : State) : State :=
  match loadForm i with
  | some f =>
    if f.k.advanced = true ∧ s.pred f.qp = true then { s with alat := s.alat.filter (fun e => e.reg ≠ f.dst.alat s) } else s
  | none => s

/-! ### Stores -/

/-- What a store takes its bytes from. -/
inductive StoreSrc where
  | gr (r2 : GrIdx)
  | spill (r2 : GrIdx)
  | fr (f2 : FrIdx) (fmt : FpFormat)
  deriving DecidableEq, Repr

/-- A store. -/
structure StoreForm where
  qp  : PredIdx
  src : StoreSrc
  r3  : GrIdx
  u   : BaseUpdate
  n   : Nat
  rel : Bool
  deriving DecidableEq, Repr

/-- The source may be stored: readable, enabled, and no NaT bit or NaTVal where the form consumes it (R388, R390, R395). -/
def StoreSrc.ready (s : State) : StoreSrc → Prop
  | .gr r2 => s.grVisible r2 = true ∧ (s.gr r2).nat = false
  | .spill r2 => s.grVisible r2 = true
  | .fr f2 fmt => s.frDisabled f2 = 0 ∧ (s.fr f2 = FReg.natVal → fmt = .fill)

/-- The number stored (R388, R395). -/
def StoreSrc.value (s : State) : StoreSrc → Nat
  | .gr r2 | .spill r2 => (s.gr r2).val.toNat
  | .fr f2 fmt => fmt.toMem (s.fr f2)

/-- The access of the store, at the address in the base register. -/
def StoreForm.acc (s : State) (f : StoreForm) : Acc :=
  { va := (s.gr f.r3).val, n := f.n, cls := match f.src with
      | .gr _ => if f.rel then .ordered else .int
      | .spill _ => .int
      | .fr _ _ => .fp, w := true, cpl := s.cpl }

/-- Byte `k` of a value of `n` bytes in memory order (R82). -/
def byteOf (v n : Nat) (be : Bool) (k : Nat) : Byte := BitVec.ofNat 8 (v / 256 ^ (if be then n - 1 - k else k))

/-- Memory after the store: with release semantics the write-coalescing buffer is empty first (R122); a WC page's bytes go
into the buffer (R121); otherwise the bytes are in memory, and every other byte is as it was. -/
def StoreForm.stored (s t : State) (f : StoreForm) (pa : Nat) (ma : MemAttr) : Prop :=
  let m := if f.rel then s.wcbFlush else s
  (ma ≠ .wc → m.SameMemExcept t pa f.n ∧
    (s.MemOk → ∀ k, k < f.n → Memory.read t.mem (pa + k) = byteOf (f.src.value s) f.n s.umBe k) ∧ t.wcb = m.wcb) ∧
  (ma = .wc → t.mem = (m.wcStore pa (storeBytes (f.src.value s) f.n s.umBe)).mem ∧
    t.wcb = (m.wcStore pa (storeBytes (f.src.value s) f.n s.umBe)).wcb)

/-- What a store leaves alone: every register but an updated base and, for a spill, one bit of AR[UNAT], which is fixed where the
group wrote neither it nor AR[UNAT] before (R390, R911); the ALAT loses only entries
whose bytes it overlaps (R92). The first-level data TLB takes the translation of one of the integer side in (R860; log 37). -/
def StoreForm.Frame (s t : State) (f : StoreForm) (pa : Nat) : Prop :=
  (∀ p, basePhys s f.r3 f.u ≠ some p → t.cur.gr p = s.cur.gr p) ∧
  t.cur = { s.cur with stat := t.cur.stat, bank0 := t.cur.bank0, bank1 := t.cur.bank1, stacked := t.cur.stacked,
                       unat := t.cur.unat } ∧
  (match f.src with
    | .spill r2 => ∀ k, k < 64 →
        if k = (s.gr f.r3).val.toNat / 8 % 64 then s.wawFree (.part 36 k) .alu = false → t.cur.unat.getLsbD k = (s.gr r2).nat
        else t.cur.unat.getLsbD k = s.cur.unat.getLsbD k
    | .gr _ | .fr _ _ => t.cur.unat = s.cur.unat) ∧
  t.alat = s.alat.filter (fun e => !overlap20 pa f.n e.pa20.toNat e.size) ∧
  t = { s with cur := t.cur, mem := t.mem, wcb := t.wcb, stale := t.stale, alat := t.alat, grpWrites := t.grpWrites,
               dtcache := s.dtcUsed (f.acc s), l1dtlb := s.l1dAfter (f.acc s), events := t.events }

/-- A store whose access is allowed is performed (R388 to R390, R395). -/
def StoreForm.Performs (i : Instr) (f : StoreForm) : Prop :=
  ∀ s : State, s.pred f.qp = true → baseReady s f.r3 f.u none → f.src.ready s → (s.gr f.r3).nat = false →
    ∀ pa ma, s.access (f.acc s) = .ok (pa, ma) →
      ∃ t, exec i s = .next (retire s { s := t }) ∧ f.stored s t pa ma ∧ baseDone s t f.r3 f.u ∧ f.Frame s t pa

/-- Formats M4 and M5 (R388 to R390). -/
def intStoreForm : Instr → Option StoreForm
  | .st1R3R2 qp r3 r2 _ =>
    some { qp, src := .gr r2, r3, u := .none, n := 1, rel := false }
  | .st1R3R2Imm9 qp r3 r2 imm9 _ =>
    some { qp, src := .gr r2, r3, u := .imm (imm9.signExtend 64), n := 1, rel := false }
  | .st2R3R2 qp r3 r2 _ =>
    some { qp, src := .gr r2, r3, u := .none, n := 2, rel := false }
  | .st2R3R2Imm9 qp r3 r2 imm9 _ =>
    some { qp, src := .gr r2, r3, u := .imm (imm9.signExtend 64), n := 2, rel := false }
  | .st4R3R2 qp r3 r2 _ =>
    some { qp, src := .gr r2, r3, u := .none, n := 4, rel := false }
  | .st4R3R2Imm9 qp r3 r2 imm9 _ =>
    some { qp, src := .gr r2, r3, u := .imm (imm9.signExtend 64), n := 4, rel := false }
  | .st8R3R2 qp r3 r2 _ =>
    some { qp, src := .gr r2, r3, u := .none, n := 8, rel := false }
  | .st8R3R2Imm9 qp r3 r2 imm9 _ =>
    some { qp, src := .gr r2, r3, u := .imm (imm9.signExtend 64), n := 8, rel := false }
  | .st1RelR3R2 qp r3 r2 _ =>
    some { qp, src := .gr r2, r3, u := .none, n := 1, rel := true }
  | .st1RelR3R2Imm9 qp r3 r2 imm9 _ =>
    some { qp, src := .gr r2, r3, u := .imm (imm9.signExtend 64), n := 1, rel := true }
  | .st2RelR3R2 qp r3 r2 _ =>
    some { qp, src := .gr r2, r3, u := .none, n := 2, rel := true }
  | .st2RelR3R2Imm9 qp r3 r2 imm9 _ =>
    some { qp, src := .gr r2, r3, u := .imm (imm9.signExtend 64), n := 2, rel := true }
  | .st4RelR3R2 qp r3 r2 _ =>
    some { qp, src := .gr r2, r3, u := .none, n := 4, rel := true }
  | .st4RelR3R2Imm9 qp r3 r2 imm9 _ =>
    some { qp, src := .gr r2, r3, u := .imm (imm9.signExtend 64), n := 4, rel := true }
  | .st8RelR3R2 qp r3 r2 _ =>
    some { qp, src := .gr r2, r3, u := .none, n := 8, rel := true }
  | .st8RelR3R2Imm9 qp r3 r2 imm9 _ =>
    some { qp, src := .gr r2, r3, u := .imm (imm9.signExtend 64), n := 8, rel := true }
  | .st8SpillR3R2 qp r3 r2 _ =>
    some { qp, src := .spill r2, r3, u := .none, n := 8, rel := false }
  | .st8SpillR3R2Imm9 qp r3 r2 imm9 _ =>
    some { qp, src := .spill r2, r3, u := .imm (imm9.signExtend 64), n := 8, rel := false }
  | _ => none

/-- Formats M9 and M10 (R395). -/
def fpStoreForm : Instr → Option StoreForm
  | .stfeR3F2 qp r3 f2 _ =>
    some { qp, src := .fr f2 .extended, r3, u := .none, n := 10, rel := false }
  | .stfeR3F2Imm9 qp r3 f2 imm9 _ =>
    some { qp, src := .fr f2 .extended, r3, u := .imm (imm9.signExtend 64), n := 10, rel := false }
  | .stf8R3F2 qp r3 f2 _ =>
    some { qp, src := .fr f2 .integer, r3, u := .none, n := 8, rel := false }
  | .stf8R3F2Imm9 qp r3 f2 imm9 _ =>
    some { qp, src := .fr f2 .integer, r3, u := .imm (imm9.signExtend 64), n := 8, rel := false }
  | .stfsR3F2 qp r3 f2 _ =>
    some { qp, src := .fr f2 .single, r3, u := .none, n := 4, rel := false }
  | .stfsR3F2Imm9 qp r3 f2 imm9 _ =>
    some { qp, src := .fr f2 .single, r3, u := .imm (imm9.signExtend 64), n := 4, rel := false }
  | .stfdR3F2 qp r3 f2 _ =>
    some { qp, src := .fr f2 .double, r3, u := .none, n := 8, rel := false }
  | .stfdR3F2Imm9 qp r3 f2 imm9 _ =>
    some { qp, src := .fr f2 .double, r3, u := .imm (imm9.signExtend 64), n := 8, rel := false }
  | .stfSpillR3F2 qp r3 f2 _ =>
    some { qp, src := .fr f2 .fill, r3, u := .none, n := 16, rel := false }
  | .stfSpillR3F2Imm9 qp r3 f2 imm9 _ =>
    some { qp, src := .fr f2 .fill, r3, u := .imm (imm9.signExtend 64), n := 16, rel := false }
  | _ => none

/-! ### Semaphores -/

/-- A semaphore: `new s old` is the value it stores for the value it found, `none` when it stores nothing. -/
structure SemForm where
  qp  : PredIdx
  r1  : GrIdx
  r3  : GrIdx
  r2  : GrIdx := 0
  n   : Nat
  rel : Bool
  new : State → Nat → Option Nat

/-- The access of a semaphore: it reads and writes (R400). -/
def SemForm.acc (s : State) (f : SemForm) : Acc :=
  { va := (s.gr f.r3).val, n := f.n, cls := .semaphore, r := true, w := true, cpl := s.cpl }

/-- A semaphore whose access is allowed reads the old value into GR[r1] and stores the new one, if any; the release forms
empty the write-coalescing buffer before the read (R130, R400 to R403). -/
def SemForm.Performs (i : Instr) (f : SemForm) : Prop :=
  ∀ s : State, s.pred f.qp = true → s.grTargetOk f.r1 = true → s.grVisible f.r3 = true → s.grVisible f.r2 = true →
    (s.gr f.r3).nat = false → (s.gr f.r2).nat = false →
    ∀ pa ma, s.access (f.acc s) = .ok (pa, ma) →
      ∃ t, exec i s = .next (retire s { s := t }) ∧
        (let m := if f.rel then s.wcbFlush else s
         let old := Memory.load m.mem pa f.n s.umBe
         t.cur.gr (s.grPhys f.r1) = { val := BitVec.ofNat 64 old, nat := false } ∧
         m.SameMemExcept t pa f.n ∧ t.wcb = m.wcb ∧
         (f.new s old = none → m.SameMem t) ∧
         (∀ v, f.new s old = some v → s.MemOk → ∀ k, k < f.n →
           Memory.read t.mem (pa + k) = byteOf v f.n s.umBe k)) ∧
        (∀ p, p ≠ s.grPhys f.r1 → t.cur.gr p = s.cur.gr p) ∧ s.cur.OnlyGr t.cur ∧
        t.alat = s.alat.filter (fun e => !overlap20 pa f.n e.pa20.toNat e.size) ∧
        t = { s with cur := t.cur, mem := t.mem, wcb := t.wcb, stale := t.stale, alat := t.alat,
                     dtcache := s.dtcUsed (f.acc s), l1dtlb := s.l1dAfter (f.acc s), grpWrites := t.grpWrites, events := t.events }

/-- `old` equals the low `n` bytes of AR[CCV]: the value of GR[r2] is stored (R400). -/
def casNew (r2 : GrIdx) (n : Nat) (s : State) (old : Nat) : Option Nat :=
  if old = s.old.ccv.toNat % 256 ^ n then some (s.gr r2).val.toNat else none

/-- The increments of `fetchadd` (R402). -/
def incOf : FetchInc → Int
  | .m16 => -16
  | .m8 => -8
  | .m4 => -4
  | .m1 => -1
  | .p1 => 1
  | .p4 => 4
  | .p8 => 8
  | .p16 => 16

/-- The old value plus the increment, modulo the width (R402). -/
def addNew (inc : FetchInc) (n : Nat) (_ : State) (old : Nat) : Option Nat :=
  some (((old : Int) + incOf inc) % 256 ^ n).toNat

/-- Formats M16 and M17 (R400 to R402). -/
def semForm : Instr → Option SemForm
  | .cmpxchg1AcqR1R3R2ArCcv qp r1 r3 r2 _ =>
    some { qp, r1, r3, r2, n := 1, rel := false, new := casNew r2 1 }
  | .cmpxchg1RelR1R3R2ArCcv qp r1 r3 r2 _ =>
    some { qp, r1, r3, r2, n := 1, rel := true, new := casNew r2 1 }
  | .cmpxchg2AcqR1R3R2ArCcv qp r1 r3 r2 _ =>
    some { qp, r1, r3, r2, n := 2, rel := false, new := casNew r2 2 }
  | .cmpxchg2RelR1R3R2ArCcv qp r1 r3 r2 _ =>
    some { qp, r1, r3, r2, n := 2, rel := true, new := casNew r2 2 }
  | .cmpxchg4AcqR1R3R2ArCcv qp r1 r3 r2 _ =>
    some { qp, r1, r3, r2, n := 4, rel := false, new := casNew r2 4 }
  | .cmpxchg4RelR1R3R2ArCcv qp r1 r3 r2 _ =>
    some { qp, r1, r3, r2, n := 4, rel := true, new := casNew r2 4 }
  | .cmpxchg8AcqR1R3R2ArCcv qp r1 r3 r2 _ =>
    some { qp, r1, r3, r2, n := 8, rel := false, new := casNew r2 8 }
  | .cmpxchg8RelR1R3R2ArCcv qp r1 r3 r2 _ =>
    some { qp, r1, r3, r2, n := 8, rel := true, new := casNew r2 8 }
  | .xchg1R1R3R2 qp r1 r3 r2 _ =>
    some { qp, r1, r3, r2, n := 1, rel := false, new := fun s _ => some (s.gr r2).val.toNat }
  | .xchg2R1R3R2 qp r1 r3 r2 _ =>
    some { qp, r1, r3, r2, n := 2, rel := false, new := fun s _ => some (s.gr r2).val.toNat }
  | .xchg4R1R3R2 qp r1 r3 r2 _ =>
    some { qp, r1, r3, r2, n := 4, rel := false, new := fun s _ => some (s.gr r2).val.toNat }
  | .xchg8R1R3R2 qp r1 r3 r2 _ =>
    some { qp, r1, r3, r2, n := 8, rel := false, new := fun s _ => some (s.gr r2).val.toNat }
  | .fetchadd4AcqR1R3Inc3 qp r1 r3 inc3 _ =>
    some { qp, r1, r3, n := 4, rel := false, new := addNew inc3 4 }
  | .fetchadd4RelR1R3Inc3 qp r1 r3 inc3 _ =>
    some { qp, r1, r3, n := 4, rel := true, new := addNew inc3 4 }
  | .fetchadd8AcqR1R3Inc3 qp r1 r3 inc3 _ =>
    some { qp, r1, r3, n := 8, rel := false, new := addNew inc3 8 }
  | .fetchadd8RelR1R3Inc3 qp r1 r3 inc3 _ =>
    some { qp, r1, r3, n := 8, rel := true, new := addNew inc3 8 }
  | _ => none

/-! ### Line prefetch -/

/-- A prefetch. -/
structure PrefetchForm where
  qp    : PredIdx
  r3    : GrIdx
  u     : BaseUpdate
  fault : Bool
  deriving DecidableEq, Repr

/-- The access of a prefetch: a read of a byte by a non-access instruction (R412, R576). -/
def PrefetchForm.acc (s : State) (f : PrefetchForm) : Acc :=
  { va := (s.gr f.r3).val, n := 1, cls := .reference, r := true, na := some 4, cpl := s.cpl }

/-- A prefetch changes nothing but its base register and, where its address has no NaT and its access is allowed, the use of its
translation, which is that of a load (R110); the `.fault` forms need such an address and access (R412, R425 step 7). -/
def PrefetchForm.Completes (i : Instr) (f : PrefetchForm) : Prop :=
  ∀ s : State, s.pred f.qp = true → baseReady s f.r3 f.u none →
    let reads := (s.gr f.r3).nat = false ∧ ∃ p, s.access (f.acc s) = .ok p
    (f.fault = true → reads) →
    ∃ t, exec i s = .next (retire s { s := t }) ∧ baseDone s t f.r3 f.u ∧
      (∀ p, basePhys s f.r3 f.u ≠ some p → t.cur.gr p = s.cur.gr p) ∧ s.cur.OnlyGr t.cur ∧ s.SameMem t ∧
      (reads → t = { s with cur := t.cur, grpWrites := t.grpWrites, events := t.events, dtcache := s.dtcUsed (f.acc s),
                            l1dtlb := s.l1dAfter (f.acc s) }) ∧
      (¬ reads → t = { s with cur := t.cur, grpWrites := t.grpWrites })

/-- A `.fault` prefetch of a NaT address, or whose access fails, takes the interruption, with ISR.na and code 4; its base stays
(R412, R573, R576). -/
def PrefetchForm.Faults (i : Instr) (f : PrefetchForm) : Prop :=
  ∀ s : State, s.pred f.qp = true → baseReady s f.r3 f.u none → f.fault = true →
    ((s.gr f.r3).nat = true →
      exec i s = .next (s.takeInterruption { vec := .natConsumption, code := 0x14, na := true, r := true } s.ri)) ∧
    ((s.gr f.r3).nat = false → ∀ e, s.resolve (f.acc s) = .error e → e ≠ .multipleHit →
      exec i s = .next (s.takeInterruption (s.transIntr (f.acc s) e) s.ri))

/-- Formats M13 to M15 (R412). -/
def prefetchForm : Instr → Option PrefetchForm
  | .lfetchR3 qp r3 _ =>
    some { qp, r3, u := .none, fault := false }
  | .lfetchR3R2 qp r3 r2 _ =>
    some { qp, r3, u := .reg r2, fault := false }
  | .lfetchR3Imm9 qp r3 imm9 _ =>
    some { qp, r3, u := .imm (imm9.signExtend 64), fault := false }
  | .lfetchExclR3 qp r3 _ =>
    some { qp, r3, u := .none, fault := false }
  | .lfetchExclR3R2 qp r3 r2 _ =>
    some { qp, r3, u := .reg r2, fault := false }
  | .lfetchExclR3Imm9 qp r3 imm9 _ =>
    some { qp, r3, u := .imm (imm9.signExtend 64), fault := false }
  | .lfetchFaultR3 qp r3 _ =>
    some { qp, r3, u := .none, fault := true }
  | .lfetchFaultR3R2 qp r3 r2 _ =>
    some { qp, r3, u := .reg r2, fault := true }
  | .lfetchFaultR3Imm9 qp r3 imm9 _ =>
    some { qp, r3, u := .imm (imm9.signExtend 64), fault := true }
  | .lfetchFaultExclR3 qp r3 _ =>
    some { qp, r3, u := .none, fault := true }
  | .lfetchFaultExclR3R2 qp r3 r2 _ =>
    some { qp, r3, u := .reg r2, fault := true }
  | .lfetchFaultExclR3Imm9 qp r3 imm9 _ =>
    some { qp, r3, u := .imm (imm9.signExtend 64), fault := true }
  | _ => none

end Sys2Proof.Forms
end

