-- ==== Sys2Proof/Forms/Gr.lean ====
section
/-! DEFINITION. Forms/Gr.lean: the instructions that compute one general register, with what the spec says the register
becomes (`spec/40_a_type.md` R320 to R324, R328, R329, R331, `spec/41_i_type.md` R340 to R351, R364), as relations between
the sources and the result, written without the functions of the model. -/

namespace Sys2Proof.Forms

open Sys2Proof.Machine

/-- An instruction that computes GR[r1] from GR[a] and GR[b]; a missing source is GR[0]. `ok x y v`: the spec gives `v` for
the source values `x` and `y`. -/
structure GrForm where
  qp   : PredIdx
  r1   : GrIdx
  a    : GrIdx
  b    : GrIdx := 0
  ok   : Word → Word → Word → Prop

/-- The instruction completes with the result the spec gives, the NaT bits joined (R331), and changes nothing else. -/
def GrForm.Correct (i : Instr) (f : GrForm) : Prop :=
  ∀ s : State, s.pred f.qp = true → s.grTargetOk f.r1 = true → s.grVisible f.a = true → s.grVisible f.b = true →
    ∃ v u, f.ok (s.gr f.a).val (s.gr f.b).val v ∧ exec i s = .next (retire s { s := u }) ∧
      s.WroteGr u f.r1 { val := v, nat := (s.gr f.a).nat || (s.gr f.b).nat }

/-! ### Words, elements, ranges -/

/-- `v` is the number `n` modulo 2^64. -/
def isMod (v : Word) (n : Int) : Prop := (v.toNat : Int) = n % 2 ^ 64

/-- Bit by bit. -/
def isBits (v : Word) (f : Nat → Bool) : Prop := ∀ k, k < 64 → v.getLsbD k = f k

/-- Element `k` of width `w`, element 0 least significant. -/
def lane (w : Nat) (x : Word) (k : Nat) : BitVec w := x.extractLsb' (w * k) w

/-- Element by element. -/
def lanes (w : Nat) (r : BitVec w → BitVec w → BitVec w → Prop) (x y v : Word) : Prop :=
  ∀ k, k < 64 / w → r (lane w x k) (lane w y k) (lane w v k)

/-- `n` cut to the range from `lo` to `hi`. -/
def clampTo (lo hi n : Int) : Int := if n < lo then lo else if hi < n then hi else n

/-- `v` is `n` saturated to the signed range of its width. -/
def satSigned (v : BitVec w) (n : Int) : Prop := v.toInt = clampTo (-(2 ^ (w - 1))) (2 ^ (w - 1) - 1) n

/-- `v` is `n` saturated to the unsigned range of its width. -/
def satUnsigned (v : BitVec w) (n : Int) : Prop := (v.toNat : Int) = clampTo 0 (2 ^ w - 1) n

/-- The pointer form of a sum: 32 bits of the sum, bits 62:61 from bits 31:30 of the last source (R320). -/
def isPtr4 (sum : Int) (b v : Word) : Prop :=
  isBits v (fun k => if k < 32 then (BitVec.ofInt 32 sum).getLsbD k else if k = 61 then b.getLsbD 30
    else if k = 62 then b.getLsbD 31 else false)

/-- Formats A1 to A5 (R320 to R324). -/
def aluForm : Instr → Option GrForm
  | .addR1R2R3 qp r1 r2 r3 =>
    some { qp, r1, a := r2, b := r3, ok := fun x y v => isMod v (x.toNat + y.toNat) }
  | .addR1R2R31 qp r1 r2 r3 =>
    some { qp, r1, a := r2, b := r3, ok := fun x y v => isMod v (x.toNat + y.toNat + 1) }
  | .subR1R2R3 qp r1 r2 r3 =>
    some { qp, r1, a := r2, b := r3, ok := fun x y v => isMod v ((x.toNat : Int) - y.toNat) }
  | .subR1R2R31 qp r1 r2 r3 =>
    some { qp, r1, a := r2, b := r3, ok := fun x y v => isMod v ((x.toNat : Int) - y.toNat - 1) }
  | .addp4R1R2R3 qp r1 r2 r3 =>
    some { qp, r1, a := r2, b := r3, ok := fun x y v => isPtr4 (x.toNat + y.toNat) y v }
  | .andR1R2R3 qp r1 r2 r3 =>
    some { qp, r1, a := r2, b := r3, ok := fun x y v => isBits v (fun k => x.getLsbD k && y.getLsbD k) }
  | .andcmR1R2R3 qp r1 r2 r3 =>
    some { qp, r1, a := r2, b := r3, ok := fun x y v => isBits v (fun k => x.getLsbD k && !y.getLsbD k) }
  | .orR1R2R3 qp r1 r2 r3 =>
    some { qp, r1, a := r2, b := r3, ok := fun x y v => isBits v (fun k => x.getLsbD k || y.getLsbD k) }
  | .xorR1R2R3 qp r1 r2 r3 =>
    some { qp, r1, a := r2, b := r3, ok := fun x y v => isBits v (fun k => x.getLsbD k != y.getLsbD k) }
  | .shladdR1R2Count2R3 qp r1 r2 ct2d r3 =>
    some { qp, r1, a := r2, b := r3, ok := fun x y v => isMod v (x.toNat * 2 ^ (ct2d.toNat + 1) + y.toNat) }
  | .shladdp4R1R2Count2R3 qp r1 r2 ct2d r3 =>
    some { qp, r1, a := r2, b := r3, ok := fun x y v => isPtr4 (x.toNat * 2 ^ (ct2d.toNat + 1) + y.toNat) y v }
  | .subR1Imm8R3 qp r1 imm8 r3 =>
    some { qp, r1, a := r3, ok := fun x _ v => isMod v (imm8.toInt - x.toNat) }
  | .andR1Imm8R3 qp r1 imm8 r3 =>
    some { qp, r1, a := r3, ok := fun x _ v => isBits v (fun k => (imm8.signExtend 64).getLsbD k && x.getLsbD k) }
  | .andcmR1Imm8R3 qp r1 imm8 r3 =>
    some { qp, r1, a := r3, ok := fun x _ v => isBits v (fun k => (imm8.signExtend 64).getLsbD k && !x.getLsbD k) }
  | .orR1Imm8R3 qp r1 imm8 r3 =>
    some { qp, r1, a := r3, ok := fun x _ v => isBits v (fun k => (imm8.signExtend 64).getLsbD k || x.getLsbD k) }
  | .xorR1Imm8R3 qp r1 imm8 r3 =>
    some { qp, r1, a := r3, ok := fun x _ v => isBits v (fun k => (imm8.signExtend 64).getLsbD k != x.getLsbD k) }
  | .addsR1Imm14R3 qp r1 imm14 r3 =>
    some { qp, r1, a := r3, ok := fun x _ v => isMod v (imm14.toInt + x.toNat) }
  | .addp4R1Imm14R3 qp r1 imm14 r3 =>
    some { qp, r1, a := r3, ok := fun x _ v => isPtr4 (imm14.toInt + x.toNat) x v }
  | .addlR1Imm22R3 qp r1 imm22 r3 =>
    some { qp, r1, a := r3.setWidth 7, ok := fun x _ v => isMod v (imm22.toInt + x.toNat) }
  | _ => none

/-- `pavg`: half the sum, its lost bit kept (R328). -/
def isPavg (x y v : BitVec w) : Prop :=
  v.toNat = (x.toNat + y.toNat) / 2 ||| (x.toNat + y.toNat) % 2

/-- `pavgsub`: half the difference of w + 1 bits, its lost bit kept (R328). -/
def isPavgsub (x y v : BitVec w) : Prop :=
  v = BitVec.ofInt w (((x.toNat : Int) - y.toNat) / 2) ||| BitVec.ofInt w (((x.toNat : Int) - y.toNat) % 2)

/-- `pcmp`: all ones or all zeros (R328). -/
def isMask (v : BitVec w) (c : Prop) : Prop := (c → ∀ k, k < w → v.getLsbD k = true) ∧ (¬ c → v.toNat = 0)

/-- Formats A9 and A10, element by element (R328, R329). -/
def parallelForm : Instr → Option GrForm
  | .padd1R1R2R3 qp r1 r2 r3 =>
    some { qp, r1, a := r2, b := r3, ok := lanes 8 fun x y v => (v.toNat : Int) = ((x.toNat : Int) + y.toNat) % 2 ^ 8 }
  | .padd2R1R2R3 qp r1 r2 r3 =>
    some { qp, r1, a := r2, b := r3, ok := lanes 16 fun x y v => (v.toNat : Int) = ((x.toNat : Int) + y.toNat) % 2 ^ 16 }
  | .padd4R1R2R3 qp r1 r2 r3 =>
    some { qp, r1, a := r2, b := r3, ok := lanes 32 fun x y v => (v.toNat : Int) = ((x.toNat : Int) + y.toNat) % 2 ^ 32 }
  | .padd1SssR1R2R3 qp r1 r2 r3 =>
    some { qp, r1, a := r2, b := r3, ok := lanes 8 fun x y v => satSigned v (x.toInt + y.toInt) }
  | .padd1UusR1R2R3 qp r1 r2 r3 =>
    some { qp, r1, a := r2, b := r3, ok := lanes 8 fun x y v => satUnsigned v ((x.toNat : Int) + y.toInt) }
  | .padd1UuuR1R2R3 qp r1 r2 r3 =>
    some { qp, r1, a := r2, b := r3, ok := lanes 8 fun x y v => satUnsigned v ((x.toNat : Int) + y.toNat) }
  | .psub1SssR1R2R3 qp r1 r2 r3 =>
    some { qp, r1, a := r2, b := r3, ok := lanes 8 fun x y v => satSigned v (x.toInt - y.toInt) }
  | .psub1UusR1R2R3 qp r1 r2 r3 =>
    some { qp, r1, a := r2, b := r3, ok := lanes 8 fun x y v => satUnsigned v ((x.toNat : Int) - y.toInt) }
  | .psub1UuuR1R2R3 qp r1 r2 r3 =>
    some { qp, r1, a := r2, b := r3, ok := lanes 8 fun x y v => satUnsigned v ((x.toNat : Int) - y.toNat) }
  | .padd2SssR1R2R3 qp r1 r2 r3 =>
    some { qp, r1, a := r2, b := r3, ok := lanes 16 fun x y v => satSigned v (x.toInt + y.toInt) }
  | .padd2UusR1R2R3 qp r1 r2 r3 =>
    some { qp, r1, a := r2, b := r3, ok := lanes 16 fun x y v => satUnsigned v ((x.toNat : Int) + y.toInt) }
  | .padd2UuuR1R2R3 qp r1 r2 r3 =>
    some { qp, r1, a := r2, b := r3, ok := lanes 16 fun x y v => satUnsigned v ((x.toNat : Int) + y.toNat) }
  | .psub2SssR1R2R3 qp r1 r2 r3 =>
    some { qp, r1, a := r2, b := r3, ok := lanes 16 fun x y v => satSigned v (x.toInt - y.toInt) }
  | .psub2UusR1R2R3 qp r1 r2 r3 =>
    some { qp, r1, a := r2, b := r3, ok := lanes 16 fun x y v => satUnsigned v ((x.toNat : Int) - y.toInt) }
  | .psub2UuuR1R2R3 qp r1 r2 r3 =>
    some { qp, r1, a := r2, b := r3, ok := lanes 16 fun x y v => satUnsigned v ((x.toNat : Int) - y.toNat) }
  | .psub1R1R2R3 qp r1 r2 r3 =>
    some { qp, r1, a := r2, b := r3, ok := lanes 8 fun x y v => (v.toNat : Int) = ((x.toNat : Int) - y.toNat) % 2 ^ 8 }
  | .psub2R1R2R3 qp r1 r2 r3 =>
    some { qp, r1, a := r2, b := r3, ok := lanes 16 fun x y v => (v.toNat : Int) = ((x.toNat : Int) - y.toNat) % 2 ^ 16 }
  | .psub4R1R2R3 qp r1 r2 r3 =>
    some { qp, r1, a := r2, b := r3, ok := lanes 32 fun x y v => (v.toNat : Int) = ((x.toNat : Int) - y.toNat) % 2 ^ 32 }
  | .pavg1R1R2R3 qp r1 r2 r3 =>
    some { qp, r1, a := r2, b := r3, ok := lanes 8 fun x y v => isPavg x y v }
  | .pavg1RazR1R2R3 qp r1 r2 r3 =>
    some { qp, r1, a := r2, b := r3, ok := lanes 8 fun x y v => v.toNat = (x.toNat + y.toNat + 1) / 2 }
  | .pavgsub1R1R2R3 qp r1 r2 r3 =>
    some { qp, r1, a := r2, b := r3, ok := lanes 8 fun x y v => isPavgsub x y v }
  | .pavg2R1R2R3 qp r1 r2 r3 =>
    some { qp, r1, a := r2, b := r3, ok := lanes 16 fun x y v => isPavg x y v }
  | .pavg2RazR1R2R3 qp r1 r2 r3 =>
    some { qp, r1, a := r2, b := r3, ok := lanes 16 fun x y v => v.toNat = (x.toNat + y.toNat + 1) / 2 }
  | .pavgsub2R1R2R3 qp r1 r2 r3 =>
    some { qp, r1, a := r2, b := r3, ok := lanes 16 fun x y v => isPavgsub x y v }
  | .pcmp1EqR1R2R3 qp r1 r2 r3 =>
    some { qp, r1, a := r2, b := r3, ok := lanes 8 fun x y v => isMask v (x = y) }
  | .pcmp1GtR1R2R3 qp r1 r2 r3 =>
    some { qp, r1, a := r2, b := r3, ok := lanes 8 fun x y v => isMask v (y.toInt < x.toInt) }
  | .pcmp2EqR1R2R3 qp r1 r2 r3 =>
    some { qp, r1, a := r2, b := r3, ok := lanes 16 fun x y v => isMask v (x = y) }
  | .pcmp2GtR1R2R3 qp r1 r2 r3 =>
    some { qp, r1, a := r2, b := r3, ok := lanes 16 fun x y v => isMask v (y.toInt < x.toInt) }
  | .pcmp4EqR1R2R3 qp r1 r2 r3 =>
    some { qp, r1, a := r2, b := r3, ok := lanes 32 fun x y v => isMask v (x = y) }
  | .pcmp4GtR1R2R3 qp r1 r2 r3 =>
    some { qp, r1, a := r2, b := r3, ok := lanes 32 fun x y v => isMask v (y.toInt < x.toInt) }
  | .pshladd2R1R2Count2R3 qp r1 r2 count2 r3 =>
    some { qp, r1, a := r2, b := r3, ok := lanes 16 fun x y v => ∃ t : BitVec 16, satSigned t (x.toInt * 2 ^ count2.toNat) ∧ satSigned v (t.toInt + y.toInt) }
  | .pshradd2R1R2Count2R3 qp r1 r2 count2 r3 =>
    some { qp, r1, a := r2, b := r3, ok := lanes 16 fun x y v => satSigned v (x.toInt / 2 ^ count2.toNat + y.toInt) }
  | _ => none

/-- Interleaved elements: an even element of the result is element `f k` of `y`, an odd one element `f k` of `x` (R341). -/
def isMix (w : Nat) (f : Nat → Nat) (x y v : Word) : Prop :=
  ∀ k, k < 64 / w / 2 → lane w v (2 * k) = lane w y (f k) ∧ lane w v (2 * k + 1) = lane w x (f k)

/-- The elements of `x`, then those of `y`, each saturated to half its width (R341). -/
def isPack (w : Nat) (sat : BitVec (w / 2) → Int → Prop) (x y v : Word) : Prop :=
  ∀ k, k < 64 / w → sat (lane (w / 2) v k) (lane w x k).toInt ∧ sat (lane (w / 2) v (64 / w + k)) (lane w y k).toInt

/-- The sum of the absolute differences of the bytes (R341). -/
def sad (x y : Word) : Nat :=
  ((List.range 8).map fun k => (((lane 8 x k).toNat : Int) - (lane 8 y k).toNat).natAbs).sum

/-- The count a `pmpyshr2` names (R340). -/
def countOf : PmpyCount → Nat
  | .c0 => 0
  | .c7 => 7
  | .c15 => 15
  | .c16 => 16

/-- Formats I1 and I2 (R340, R341). -/
def mixForm : Instr → Option GrForm
  | .pmpyshr2R1R2R3Count2 qp r1 r2 r3 count2 =>
    some { qp, r1, a := r2, b := r3, ok := lanes 16 fun x y v => v = BitVec.ofInt 16 (x.toInt * y.toInt / 2 ^ countOf count2) }
  | .pmpyshr2UR1R2R3Count2 qp r1 r2 r3 count2 =>
    some { qp, r1, a := r2, b := r3, ok := lanes 16 fun x y v => v = BitVec.ofNat 16 (x.toNat * y.toNat / 2 ^ countOf count2) }
  | .pmpy2RR1R2R3 qp r1 r2 r3 =>
    some { qp, r1, a := r2, b := r3, ok := fun x y v =>
      (lane 32 v 0).toInt = (lane 16 x 0).toInt * (lane 16 y 0).toInt ∧
      (lane 32 v 1).toInt = (lane 16 x 2).toInt * (lane 16 y 2).toInt }
  | .pmpy2LR1R2R3 qp r1 r2 r3 =>
    some { qp, r1, a := r2, b := r3, ok := fun x y v =>
      (lane 32 v 0).toInt = (lane 16 x 1).toInt * (lane 16 y 1).toInt ∧
      (lane 32 v 1).toInt = (lane 16 x 3).toInt * (lane 16 y 3).toInt }
  | .mix1RR1R2R3 qp r1 r2 r3 =>
    some { qp, r1, a := r2, b := r3, ok := isMix 8 fun k => 2 * k }
  | .mix1LR1R2R3 qp r1 r2 r3 =>
    some { qp, r1, a := r2, b := r3, ok := isMix 8 fun k => 2 * k + 1 }
  | .mix2RR1R2R3 qp r1 r2 r3 =>
    some { qp, r1, a := r2, b := r3, ok := isMix 16 fun k => 2 * k }
  | .mix2LR1R2R3 qp r1 r2 r3 =>
    some { qp, r1, a := r2, b := r3, ok := isMix 16 fun k => 2 * k + 1 }
  | .mix4RR1R2R3 qp r1 r2 r3 =>
    some { qp, r1, a := r2, b := r3, ok := isMix 32 fun k => 2 * k }
  | .mix4LR1R2R3 qp r1 r2 r3 =>
    some { qp, r1, a := r2, b := r3, ok := isMix 32 fun k => 2 * k + 1 }
  | .pack2SssR1R2R3 qp r1 r2 r3 =>
    some { qp, r1, a := r2, b := r3, ok := isPack 16 satSigned }
  | .pack2UssR1R2R3 qp r1 r2 r3 =>
    some { qp, r1, a := r2, b := r3, ok := isPack 16 satUnsigned }
  | .pack4SssR1R2R3 qp r1 r2 r3 =>
    some { qp, r1, a := r2, b := r3, ok := isPack 32 satSigned }
  | .unpack1LR1R2R3 qp r1 r2 r3 =>
    some { qp, r1, a := r2, b := r3, ok := isMix 8 fun k => k }
  | .unpack1HR1R2R3 qp r1 r2 r3 =>
    some { qp, r1, a := r2, b := r3, ok := isMix 8 fun k => 4 + k }
  | .unpack2LR1R2R3 qp r1 r2 r3 =>
    some { qp, r1, a := r2, b := r3, ok := isMix 16 fun k => k }
  | .unpack2HR1R2R3 qp r1 r2 r3 =>
    some { qp, r1, a := r2, b := r3, ok := isMix 16 fun k => 2 + k }
  | .unpack4LR1R2R3 qp r1 r2 r3 =>
    some { qp, r1, a := r2, b := r3, ok := isMix 32 fun k => k }
  | .unpack4HR1R2R3 qp r1 r2 r3 =>
    some { qp, r1, a := r2, b := r3, ok := isMix 32 fun k => 1 + k }
  | .pmin1UR1R2R3 qp r1 r2 r3 =>
    some { qp, r1, a := r2, b := r3, ok := lanes 8 fun x y v => v.toNat = min x.toNat y.toNat }
  | .pmax1UR1R2R3 qp r1 r2 r3 =>
    some { qp, r1, a := r2, b := r3, ok := lanes 8 fun x y v => v.toNat = max x.toNat y.toNat }
  | .pmin2R1R2R3 qp r1 r2 r3 =>
    some { qp, r1, a := r2, b := r3, ok := lanes 16 fun x y v => v.toInt = min x.toInt y.toInt }
  | .pmax2R1R2R3 qp r1 r2 r3 =>
    some { qp, r1, a := r2, b := r3, ok := lanes 16 fun x y v => v.toInt = max x.toInt y.toInt }
  | .psad1R1R2R3 qp r1 r2 r3 =>
    some { qp, r1, a := r2, b := r3, ok := fun x y v => v.toNat = sad x y }
  | _ => none

/-- The byte permutations of `mux1` (R342). -/
def mux1Table : List (Nat × List Nat) :=
  [(0x0, [0, 0, 0, 0, 0, 0, 0, 0]), (0x8, [0, 4, 2, 6, 1, 5, 3, 7]), (0x9, [0, 4, 1, 5, 2, 6, 3, 7]),
   (0xA, [0, 2, 4, 6, 1, 3, 5, 7]), (0xB, [7, 6, 5, 4, 3, 2, 1, 0])]

/-- Formats I3, I4 and I9; a reserved `mux1` code has no form (R342, R347). -/
def permuteForm : Instr → Option GrForm
  | .mux1R1R2Mbtype4 qp r1 r2 mbtype4 =>
    (mux1Table.lookup mbtype4.toNat).map fun perm =>
      { qp, r1, a := r2, ok := fun x _ v => ∀ k, k < 8 → lane 8 v k = lane 8 x (perm.getD k 0) }
  | .mux2R1R2Mhtype8 qp r1 r2 mhtype8 =>
    some { qp, r1, a := r2, ok := fun x _ v => ∀ k, k < 4 → lane 16 v k = lane 16 x (mhtype8.toNat / 4 ^ k % 4) }
  | .popcntR1R3 qp r1 r3 =>
    some { qp, r1, a := r3, ok := fun x _ v => v.toNat = ((List.range 64).filter fun k => x.getLsbD k).length }
  | _ => none

/-- Shifted right by `n`, the sign or zeros coming in (R343, R344). -/
def isShr (signed : Bool) (n : Nat) (x v : BitVec w) : Prop :=
  ∀ k, k < w → v.getLsbD k = if n + k < w then x.getLsbD (n + k) else signed && x.msb

/-- Shifted left by `n`, zeros coming in (R345, R346). -/
def isShl (n : Nat) (x v : BitVec w) : Prop := ∀ k, k < w → v.getLsbD k = (decide (n ≤ k) && x.getLsbD (k - n))

/-- Every element shifted. -/
def eachLane (w : Nat) (r : BitVec w → BitVec w → Prop) (x v : Word) : Prop := ∀ k, k < 64 / w → r (lane w x k) (lane w v k)

/-- Formats I5 to I8 (R343 to R346). -/
def shiftForm : Instr → Option GrForm
  | .shrR1R3R2 qp r1 r3 r2 =>
    some { qp, r1, a := r3, b := r2, ok := fun x n v => isShr true n.toNat x v }
  | .shrUR1R3R2 qp r1 r3 r2 =>
    some { qp, r1, a := r3, b := r2, ok := fun x n v => isShr false n.toNat x v }
  | .pshr2R1R3R2 qp r1 r3 r2 =>
    some { qp, r1, a := r3, b := r2, ok := fun x n v => eachLane 16 (isShr true n.toNat) x v }
  | .pshr2R1R3Count5 qp r1 r3 count5 =>
    some { qp, r1, a := r3, ok := fun x _ v => eachLane 16 (isShr true count5.toNat) x v }
  | .pshr2UR1R3R2 qp r1 r3 r2 =>
    some { qp, r1, a := r3, b := r2, ok := fun x n v => eachLane 16 (isShr false n.toNat) x v }
  | .pshr2UR1R3Count5 qp r1 r3 count5 =>
    some { qp, r1, a := r3, ok := fun x _ v => eachLane 16 (isShr false count5.toNat) x v }
  | .pshr4R1R3R2 qp r1 r3 r2 =>
    some { qp, r1, a := r3, b := r2, ok := fun x n v => eachLane 32 (isShr true n.toNat) x v }
  | .pshr4R1R3Count5 qp r1 r3 count5 =>
    some { qp, r1, a := r3, ok := fun x _ v => eachLane 32 (isShr true count5.toNat) x v }
  | .pshr4UR1R3R2 qp r1 r3 r2 =>
    some { qp, r1, a := r3, b := r2, ok := fun x n v => eachLane 32 (isShr false n.toNat) x v }
  | .pshr4UR1R3Count5 qp r1 r3 count5 =>
    some { qp, r1, a := r3, ok := fun x _ v => eachLane 32 (isShr false count5.toNat) x v }
  | .shlR1R2R3 qp r1 r2 r3 =>
    some { qp, r1, a := r2, b := r3, ok := fun x n v => isShl n.toNat x v }
  | .pshl2R1R2R3 qp r1 r2 r3 =>
    some { qp, r1, a := r2, b := r3, ok := fun x n v => eachLane 16 (isShl n.toNat) x v }
  | .pshl2R1R2Count5 qp r1 r2 count5 =>
    some { qp, r1, a := r2, ok := fun x _ v => eachLane 16 (isShl count5.toNat) x v }
  | .pshl4R1R2R3 qp r1 r2 r3 =>
    some { qp, r1, a := r2, b := r3, ok := fun x n v => eachLane 32 (isShl n.toNat) x v }
  | .pshl4R1R2Count5 qp r1 r2 count5 =>
    some { qp, r1, a := r2, ok := fun x _ v => eachLane 32 (isShl count5.toNat) x v }
  | _ => none

/-- Sign- or zero-extended from the low `n` bits (R364). -/
def isExt (signed : Bool) (n : Nat) (x v : Word) : Prop :=
  isBits v fun k => if k < n then x.getLsbD k else signed && x.getLsbD (n - 1)

/-- The field of at most `len` bits at `pos`, cut at bit 63, extended (R349). -/
def isExtr (signed : Bool) (pos len : Nat) (x v : Word) : Prop :=
  let n := min len (64 - pos)
  isBits v fun k => if k < n then x.getLsbD (pos + k) else signed && x.getLsbD (pos + n - 1)

/-- `x`'s low `len` bits at `pos`, the rest from `y` (R350, R351). -/
def isDep (pos len : Nat) (x y v : Word) : Prop :=
  isBits v fun k => if pos ≤ k ∧ k < pos + len then x.getLsbD (k - pos) else y.getLsbD k

/-- The index of the first zero element in the order `f`, or the number of elements (R364). -/
def isCzx (w : Nat) (f : Nat → Nat) (x v : Word) : Prop :=
  v.toNat ≤ 64 / w ∧ (∀ k, k < v.toNat → lane w x (f k) ≠ 0) ∧ (v.toNat < 64 / w → lane w x (f v.toNat) = 0)

/-- Formats I10 to I15 and I29 (R348 to R351, R364). -/
def fieldForm : Instr → Option GrForm
  | .shrpR1R2R3Count6 qp r1 r2 r3 count6 =>
    some { qp, r1, a := r2, b := r3, ok := fun x y v =>
      isBits v fun k => if count6.toNat + k < 64 then y.getLsbD (count6.toNat + k) else x.getLsbD (count6.toNat + k - 64) }
  | .extrUR1R3Pos6Len6 qp r1 r3 pos6 len6d =>
    some { qp, r1, a := r3, ok := fun x _ v => isExtr false pos6.toNat (len6d.toNat + 1) x v }
  | .extrR1R3Pos6Len6 qp r1 r3 pos6 len6d =>
    some { qp, r1, a := r3, ok := fun x _ v => isExtr true pos6.toNat (len6d.toNat + 1) x v }
  | .depZR1R2Pos6Len6 qp r1 r2 pos6 len6d =>
    some { qp, r1, a := r2, ok := fun x _ v => isDep pos6.toNat (len6d.toNat + 1) x 0 v }
  | .depZR1Imm8Pos6Len6 qp r1 imm8 pos6 len6d =>
    some { qp, r1, a := 0, ok := fun _ _ v => isDep pos6.toNat (len6d.toNat + 1) (imm8.signExtend 64) 0 v }
  | .depR1Imm1R3Pos6Len6 qp r1 imm1 r3 pos6 len6d =>
    some { qp, r1, a := r3, ok := fun x _ v => isDep pos6.toNat (len6d.toNat + 1) (imm1.signExtend 64) x v }
  | .depR1R2R3Pos6Len4 qp r1 r2 r3 pos6 len4d =>
    some { qp, r1, a := r2, b := r3, ok := fun x y v => isDep pos6.toNat (len4d.toNat + 1) x y v }
  | .sxt1R1R3 qp r1 r3 =>
    some { qp, r1, a := r3, ok := fun x _ v => isExt true 8 x v }
  | .zxt1R1R3 qp r1 r3 =>
    some { qp, r1, a := r3, ok := fun x _ v => isExt false 8 x v }
  | .sxt2R1R3 qp r1 r3 =>
    some { qp, r1, a := r3, ok := fun x _ v => isExt true 16 x v }
  | .zxt2R1R3 qp r1 r3 =>
    some { qp, r1, a := r3, ok := fun x _ v => isExt false 16 x v }
  | .sxt4R1R3 qp r1 r3 =>
    some { qp, r1, a := r3, ok := fun x _ v => isExt true 32 x v }
  | .zxt4R1R3 qp r1 r3 =>
    some { qp, r1, a := r3, ok := fun x _ v => isExt false 32 x v }
  | .czx1LR1R3 qp r1 r3 =>
    some { qp, r1, a := r3, ok := fun x _ v => isCzx 8 (fun k => 7 - k) x v }
  | .czx1RR1R3 qp r1 r3 =>
    some { qp, r1, a := r3, ok := fun x _ v => isCzx 8 (fun k => k) x v }
  | .czx2LR1R3 qp r1 r3 =>
    some { qp, r1, a := r3, ok := fun x _ v => isCzx 16 (fun k => 3 - k) x v }
  | .czx2RR1R3 qp r1 r3 =>
    some { qp, r1, a := r3, ok := fun x _ v => isCzx 16 (fun k => k) x v }
  | _ => none

/-- Every form of this file. -/
def grForm (i : Instr) : Option GrForm :=
  aluForm i <|> parallelForm i <|> mixForm i <|> permuteForm i <|> shiftForm i <|> fieldForm i

end Sys2Proof.Forms
end

