-- ==== Sys2Proof/Forms/Rules.lean ====
section
/-! DEFINITION. Forms/Rules.lean: which registers each instruction writes, which predicate guards it, which floating-point
registers it touches and whether it is privileged, for the rules that hold of all instructions alike
(`spec/40_a_type.md` R330, `spec/44_f_type.md` R514, `spec/60_exceptions.md` R589, R591). -/

namespace Sys2Proof.Forms

open Sys2Proof.Machine

/-- The registers an instruction writes; `clash`: its form forbids the combination. -/
structure Targets where
  gr    : List GrIdx := []
  fr    : List FrIdx := []
  clash : Bool := false
  deriving DecidableEq, Repr

/-- The targets may be written: no GR[0], FR[0], FR[1], no stacked register outside the frame (R330 step 2). -/
def Targets.Ok (s : State) (t : Targets) : Prop :=
  (∀ r ∈ t.gr, s.grTargetOk r = true) ∧ (∀ f ∈ t.fr, frTargetOk f = true) ∧ t.clash = false

/-- The general and floating-point targets of every instruction but `alloc`, whose target is checked against its new frame; an
updated base is a target, not the loaded register too; a load pair has an odd and an even register (R330, R396, R425). -/
def targetsOf : Instr → Targets
  | .addR1R2R3 _ r1 _ _ => { gr := [r1] }
  | .addR1R2R31 _ r1 _ _ => { gr := [r1] }
  | .subR1R2R3 _ r1 _ _ => { gr := [r1] }
  | .subR1R2R31 _ r1 _ _ => { gr := [r1] }
  | .addp4R1R2R3 _ r1 _ _ => { gr := [r1] }
  | .andR1R2R3 _ r1 _ _ => { gr := [r1] }
  | .andcmR1R2R3 _ r1 _ _ => { gr := [r1] }
  | .orR1R2R3 _ r1 _ _ => { gr := [r1] }
  | .xorR1R2R3 _ r1 _ _ => { gr := [r1] }
  | .shladdR1R2Count2R3 _ r1 _ _ _ => { gr := [r1] }
  | .shladdp4R1R2Count2R3 _ r1 _ _ _ => { gr := [r1] }
  | .subR1Imm8R3 _ r1 _ _ => { gr := [r1] }
  | .andR1Imm8R3 _ r1 _ _ => { gr := [r1] }
  | .andcmR1Imm8R3 _ r1 _ _ => { gr := [r1] }
  | .orR1Imm8R3 _ r1 _ _ => { gr := [r1] }
  | .xorR1Imm8R3 _ r1 _ _ => { gr := [r1] }
  | .addsR1Imm14R3 _ r1 _ _ => { gr := [r1] }
  | .addp4R1Imm14R3 _ r1 _ _ => { gr := [r1] }
  | .addlR1Imm22R3 _ r1 _ _ => { gr := [r1] }
  | .padd1R1R2R3 _ r1 _ _ => { gr := [r1] }
  | .padd2R1R2R3 _ r1 _ _ => { gr := [r1] }
  | .padd4R1R2R3 _ r1 _ _ => { gr := [r1] }
  | .padd1SssR1R2R3 _ r1 _ _ => { gr := [r1] }
  | .padd2SssR1R2R3 _ r1 _ _ => { gr := [r1] }
  | .padd1UusR1R2R3 _ r1 _ _ => { gr := [r1] }
  | .padd2UusR1R2R3 _ r1 _ _ => { gr := [r1] }
  | .padd1UuuR1R2R3 _ r1 _ _ => { gr := [r1] }
  | .padd2UuuR1R2R3 _ r1 _ _ => { gr := [r1] }
  | .psub1R1R2R3 _ r1 _ _ => { gr := [r1] }
  | .psub2R1R2R3 _ r1 _ _ => { gr := [r1] }
  | .psub4R1R2R3 _ r1 _ _ => { gr := [r1] }
  | .psub1SssR1R2R3 _ r1 _ _ => { gr := [r1] }
  | .psub2SssR1R2R3 _ r1 _ _ => { gr := [r1] }
  | .psub1UusR1R2R3 _ r1 _ _ => { gr := [r1] }
  | .psub2UusR1R2R3 _ r1 _ _ => { gr := [r1] }
  | .psub1UuuR1R2R3 _ r1 _ _ => { gr := [r1] }
  | .psub2UuuR1R2R3 _ r1 _ _ => { gr := [r1] }
  | .pavg1R1R2R3 _ r1 _ _ => { gr := [r1] }
  | .pavg2R1R2R3 _ r1 _ _ => { gr := [r1] }
  | .pavg1RazR1R2R3 _ r1 _ _ => { gr := [r1] }
  | .pavg2RazR1R2R3 _ r1 _ _ => { gr := [r1] }
  | .pavgsub1R1R2R3 _ r1 _ _ => { gr := [r1] }
  | .pavgsub2R1R2R3 _ r1 _ _ => { gr := [r1] }
  | .pcmp1EqR1R2R3 _ r1 _ _ => { gr := [r1] }
  | .pcmp2EqR1R2R3 _ r1 _ _ => { gr := [r1] }
  | .pcmp4EqR1R2R3 _ r1 _ _ => { gr := [r1] }
  | .pcmp1GtR1R2R3 _ r1 _ _ => { gr := [r1] }
  | .pcmp2GtR1R2R3 _ r1 _ _ => { gr := [r1] }
  | .pcmp4GtR1R2R3 _ r1 _ _ => { gr := [r1] }
  | .pshladd2R1R2Count2R3 _ r1 _ _ _ => { gr := [r1] }
  | .pshradd2R1R2Count2R3 _ r1 _ _ _ => { gr := [r1] }
  | .pmpyshr2R1R2R3Count2 _ r1 _ _ _ => { gr := [r1] }
  | .pmpyshr2UR1R2R3Count2 _ r1 _ _ _ => { gr := [r1] }
  | .pmpy2RR1R2R3 _ r1 _ _ => { gr := [r1] }
  | .pmpy2LR1R2R3 _ r1 _ _ => { gr := [r1] }
  | .mix1RR1R2R3 _ r1 _ _ => { gr := [r1] }
  | .mix1LR1R2R3 _ r1 _ _ => { gr := [r1] }
  | .mix2RR1R2R3 _ r1 _ _ => { gr := [r1] }
  | .mix2LR1R2R3 _ r1 _ _ => { gr := [r1] }
  | .mix4RR1R2R3 _ r1 _ _ => { gr := [r1] }
  | .mix4LR1R2R3 _ r1 _ _ => { gr := [r1] }
  | .pack2SssR1R2R3 _ r1 _ _ => { gr := [r1] }
  | .pack2UssR1R2R3 _ r1 _ _ => { gr := [r1] }
  | .pack4SssR1R2R3 _ r1 _ _ => { gr := [r1] }
  | .unpack1LR1R2R3 _ r1 _ _ => { gr := [r1] }
  | .unpack1HR1R2R3 _ r1 _ _ => { gr := [r1] }
  | .unpack2LR1R2R3 _ r1 _ _ => { gr := [r1] }
  | .unpack2HR1R2R3 _ r1 _ _ => { gr := [r1] }
  | .unpack4LR1R2R3 _ r1 _ _ => { gr := [r1] }
  | .unpack4HR1R2R3 _ r1 _ _ => { gr := [r1] }
  | .pmin1UR1R2R3 _ r1 _ _ => { gr := [r1] }
  | .pmax1UR1R2R3 _ r1 _ _ => { gr := [r1] }
  | .pmin2R1R2R3 _ r1 _ _ => { gr := [r1] }
  | .pmax2R1R2R3 _ r1 _ _ => { gr := [r1] }
  | .psad1R1R2R3 _ r1 _ _ => { gr := [r1] }
  | .mux1R1R2Mbtype4 _ r1 _ _ => { gr := [r1] }
  | .mux2R1R2Mhtype8 _ r1 _ _ => { gr := [r1] }
  | .shrR1R3R2 _ r1 _ _ => { gr := [r1] }
  | .shrUR1R3R2 _ r1 _ _ => { gr := [r1] }
  | .pshr2R1R3R2 _ r1 _ _ => { gr := [r1] }
  | .pshr2UR1R3R2 _ r1 _ _ => { gr := [r1] }
  | .pshr4R1R3R2 _ r1 _ _ => { gr := [r1] }
  | .pshr4UR1R3R2 _ r1 _ _ => { gr := [r1] }
  | .pshr2R1R3Count5 _ r1 _ _ => { gr := [r1] }
  | .pshr2UR1R3Count5 _ r1 _ _ => { gr := [r1] }
  | .pshr4R1R3Count5 _ r1 _ _ => { gr := [r1] }
  | .pshr4UR1R3Count5 _ r1 _ _ => { gr := [r1] }
  | .shlR1R2R3 _ r1 _ _ => { gr := [r1] }
  | .pshl2R1R2R3 _ r1 _ _ => { gr := [r1] }
  | .pshl4R1R2R3 _ r1 _ _ => { gr := [r1] }
  | .pshl2R1R2Count5 _ r1 _ _ => { gr := [r1] }
  | .pshl4R1R2Count5 _ r1 _ _ => { gr := [r1] }
  | .popcntR1R3 _ r1 _ => { gr := [r1] }
  | .shrpR1R2R3Count6 _ r1 _ _ _ => { gr := [r1] }
  | .extrUR1R3Pos6Len6 _ r1 _ _ _ => { gr := [r1] }
  | .extrR1R3Pos6Len6 _ r1 _ _ _ => { gr := [r1] }
  | .depZR1R2Pos6Len6 _ r1 _ _ _ => { gr := [r1] }
  | .depZR1Imm8Pos6Len6 _ r1 _ _ _ => { gr := [r1] }
  | .depR1Imm1R3Pos6Len6 _ r1 _ _ _ _ => { gr := [r1] }
  | .depR1R2R3Pos6Len4 _ r1 _ _ _ _ => { gr := [r1] }
  | .movR1B2 _ r1 _ => { gr := [r1] }
  | .movR1Ip _ r1 => { gr := [r1] }
  | .movR1Pr _ r1 => { gr := [r1] }
  | .movIR1Ar3 _ r1 _ => { gr := [r1] }
  | .zxt1R1R3 _ r1 _ => { gr := [r1] }
  | .zxt2R1R3 _ r1 _ => { gr := [r1] }
  | .zxt4R1R3 _ r1 _ => { gr := [r1] }
  | .sxt1R1R3 _ r1 _ => { gr := [r1] }
  | .sxt2R1R3 _ r1 _ => { gr := [r1] }
  | .sxt4R1R3 _ r1 _ => { gr := [r1] }
  | .czx1LR1R3 _ r1 _ => { gr := [r1] }
  | .czx2LR1R3 _ r1 _ => { gr := [r1] }
  | .czx1RR1R3 _ r1 _ => { gr := [r1] }
  | .czx2RR1R3 _ r1 _ => { gr := [r1] }
  | .movlR1Imm64 _ r1 _ => { gr := [r1] }
  | .ld1R1R3 _ r1 _ _ => { gr := [r1] }
  | .ld1R1R3R2 _ r1 r3 _ _ => { gr := [r1, r3], clash := r1 == r3 }
  | .ld1R1R3Imm9 _ r1 r3 _ _ => { gr := [r1, r3], clash := r1 == r3 }
  | .ld2R1R3 _ r1 _ _ => { gr := [r1] }
  | .ld2R1R3R2 _ r1 r3 _ _ => { gr := [r1, r3], clash := r1 == r3 }
  | .ld2R1R3Imm9 _ r1 r3 _ _ => { gr := [r1, r3], clash := r1 == r3 }
  | .ld4R1R3 _ r1 _ _ => { gr := [r1] }
  | .ld4R1R3R2 _ r1 r3 _ _ => { gr := [r1, r3], clash := r1 == r3 }
  | .ld4R1R3Imm9 _ r1 r3 _ _ => { gr := [r1, r3], clash := r1 == r3 }
  | .ld8R1R3 _ r1 _ _ => { gr := [r1] }
  | .ld8R1R3R2 _ r1 r3 _ _ => { gr := [r1, r3], clash := r1 == r3 }
  | .ld8R1R3Imm9 _ r1 r3 _ _ => { gr := [r1, r3], clash := r1 == r3 }
  | .ld1SR1R3 _ r1 _ _ => { gr := [r1] }
  | .ld1SR1R3R2 _ r1 r3 _ _ => { gr := [r1, r3], clash := r1 == r3 }
  | .ld1SR1R3Imm9 _ r1 r3 _ _ => { gr := [r1, r3], clash := r1 == r3 }
  | .ld2SR1R3 _ r1 _ _ => { gr := [r1] }
  | .ld2SR1R3R2 _ r1 r3 _ _ => { gr := [r1, r3], clash := r1 == r3 }
  | .ld2SR1R3Imm9 _ r1 r3 _ _ => { gr := [r1, r3], clash := r1 == r3 }
  | .ld4SR1R3 _ r1 _ _ => { gr := [r1] }
  | .ld4SR1R3R2 _ r1 r3 _ _ => { gr := [r1, r3], clash := r1 == r3 }
  | .ld4SR1R3Imm9 _ r1 r3 _ _ => { gr := [r1, r3], clash := r1 == r3 }
  | .ld8SR1R3 _ r1 _ _ => { gr := [r1] }
  | .ld8SR1R3R2 _ r1 r3 _ _ => { gr := [r1, r3], clash := r1 == r3 }
  | .ld8SR1R3Imm9 _ r1 r3 _ _ => { gr := [r1, r3], clash := r1 == r3 }
  | .ld1AR1R3 _ r1 _ _ => { gr := [r1] }
  | .ld1AR1R3R2 _ r1 r3 _ _ => { gr := [r1, r3], clash := r1 == r3 }
  | .ld1AR1R3Imm9 _ r1 r3 _ _ => { gr := [r1, r3], clash := r1 == r3 }
  | .ld2AR1R3 _ r1 _ _ => { gr := [r1] }
  | .ld2AR1R3R2 _ r1 r3 _ _ => { gr := [r1, r3], clash := r1 == r3 }
  | .ld2AR1R3Imm9 _ r1 r3 _ _ => { gr := [r1, r3], clash := r1 == r3 }
  | .ld4AR1R3 _ r1 _ _ => { gr := [r1] }
  | .ld4AR1R3R2 _ r1 r3 _ _ => { gr := [r1, r3], clash := r1 == r3 }
  | .ld4AR1R3Imm9 _ r1 r3 _ _ => { gr := [r1, r3], clash := r1 == r3 }
  | .ld8AR1R3 _ r1 _ _ => { gr := [r1] }
  | .ld8AR1R3R2 _ r1 r3 _ _ => { gr := [r1, r3], clash := r1 == r3 }
  | .ld8AR1R3Imm9 _ r1 r3 _ _ => { gr := [r1, r3], clash := r1 == r3 }
  | .ld1SaR1R3 _ r1 _ _ => { gr := [r1] }
  | .ld1SaR1R3R2 _ r1 r3 _ _ => { gr := [r1, r3], clash := r1 == r3 }
  | .ld1SaR1R3Imm9 _ r1 r3 _ _ => { gr := [r1, r3], clash := r1 == r3 }
  | .ld2SaR1R3 _ r1 _ _ => { gr := [r1] }
  | .ld2SaR1R3R2 _ r1 r3 _ _ => { gr := [r1, r3], clash := r1 == r3 }
  | .ld2SaR1R3Imm9 _ r1 r3 _ _ => { gr := [r1, r3], clash := r1 == r3 }
  | .ld4SaR1R3 _ r1 _ _ => { gr := [r1] }
  | .ld4SaR1R3R2 _ r1 r3 _ _ => { gr := [r1, r3], clash := r1 == r3 }
  | .ld4SaR1R3Imm9 _ r1 r3 _ _ => { gr := [r1, r3], clash := r1 == r3 }
  | .ld8SaR1R3 _ r1 _ _ => { gr := [r1] }
  | .ld8SaR1R3R2 _ r1 r3 _ _ => { gr := [r1, r3], clash := r1 == r3 }
  | .ld8SaR1R3Imm9 _ r1 r3 _ _ => { gr := [r1, r3], clash := r1 == r3 }
  | .ld1BiasR1R3 _ r1 _ _ => { gr := [r1] }
  | .ld1BiasR1R3R2 _ r1 r3 _ _ => { gr := [r1, r3], clash := r1 == r3 }
  | .ld1BiasR1R3Imm9 _ r1 r3 _ _ => { gr := [r1, r3], clash := r1 == r3 }
  | .ld2BiasR1R3 _ r1 _ _ => { gr := [r1] }
  | .ld2BiasR1R3R2 _ r1 r3 _ _ => { gr := [r1, r3], clash := r1 == r3 }
  | .ld2BiasR1R3Imm9 _ r1 r3 _ _ => { gr := [r1, r3], clash := r1 == r3 }
  | .ld4BiasR1R3 _ r1 _ _ => { gr := [r1] }
  | .ld4BiasR1R3R2 _ r1 r3 _ _ => { gr := [r1, r3], clash := r1 == r3 }
  | .ld4BiasR1R3Imm9 _ r1 r3 _ _ => { gr := [r1, r3], clash := r1 == r3 }
  | .ld8BiasR1R3 _ r1 _ _ => { gr := [r1] }
  | .ld8BiasR1R3R2 _ r1 r3 _ _ => { gr := [r1, r3], clash := r1 == r3 }
  | .ld8BiasR1R3Imm9 _ r1 r3 _ _ => { gr := [r1, r3], clash := r1 == r3 }
  | .ld1AcqR1R3 _ r1 _ _ => { gr := [r1] }
  | .ld1AcqR1R3R2 _ r1 r3 _ _ => { gr := [r1, r3], clash := r1 == r3 }
  | .ld1AcqR1R3Imm9 _ r1 r3 _ _ => { gr := [r1, r3], clash := r1 == r3 }
  | .ld2AcqR1R3 _ r1 _ _ => { gr := [r1] }
  | .ld2AcqR1R3R2 _ r1 r3 _ _ => { gr := [r1, r3], clash := r1 == r3 }
  | .ld2AcqR1R3Imm9 _ r1 r3 _ _ => { gr := [r1, r3], clash := r1 == r3 }
  | .ld4AcqR1R3 _ r1 _ _ => { gr := [r1] }
  | .ld4AcqR1R3R2 _ r1 r3 _ _ => { gr := [r1, r3], clash := r1 == r3 }
  | .ld4AcqR1R3Imm9 _ r1 r3 _ _ => { gr := [r1, r3], clash := r1 == r3 }
  | .ld8AcqR1R3 _ r1 _ _ => { gr := [r1] }
  | .ld8AcqR1R3R2 _ r1 r3 _ _ => { gr := [r1, r3], clash := r1 == r3 }
  | .ld8AcqR1R3Imm9 _ r1 r3 _ _ => { gr := [r1, r3], clash := r1 == r3 }
  | .ld1CClrR1R3 _ r1 _ _ => { gr := [r1] }
  | .ld1CClrR1R3R2 _ r1 r3 _ _ => { gr := [r1, r3], clash := r1 == r3 }
  | .ld1CClrR1R3Imm9 _ r1 r3 _ _ => { gr := [r1, r3], clash := r1 == r3 }
  | .ld2CClrR1R3 _ r1 _ _ => { gr := [r1] }
  | .ld2CClrR1R3R2 _ r1 r3 _ _ => { gr := [r1, r3], clash := r1 == r3 }
  | .ld2CClrR1R3Imm9 _ r1 r3 _ _ => { gr := [r1, r3], clash := r1 == r3 }
  | .ld4CClrR1R3 _ r1 _ _ => { gr := [r1] }
  | .ld4CClrR1R3R2 _ r1 r3 _ _ => { gr := [r1, r3], clash := r1 == r3 }
  | .ld4CClrR1R3Imm9 _ r1 r3 _ _ => { gr := [r1, r3], clash := r1 == r3 }
  | .ld8CClrR1R3 _ r1 _ _ => { gr := [r1] }
  | .ld8CClrR1R3R2 _ r1 r3 _ _ => { gr := [r1, r3], clash := r1 == r3 }
  | .ld8CClrR1R3Imm9 _ r1 r3 _ _ => { gr := [r1, r3], clash := r1 == r3 }
  | .ld1CNcR1R3 _ r1 _ _ => { gr := [r1] }
  | .ld1CNcR1R3R2 _ r1 r3 _ _ => { gr := [r1, r3], clash := r1 == r3 }
  | .ld1CNcR1R3Imm9 _ r1 r3 _ _ => { gr := [r1, r3], clash := r1 == r3 }
  | .ld2CNcR1R3 _ r1 _ _ => { gr := [r1] }
  | .ld2CNcR1R3R2 _ r1 r3 _ _ => { gr := [r1, r3], clash := r1 == r3 }
  | .ld2CNcR1R3Imm9 _ r1 r3 _ _ => { gr := [r1, r3], clash := r1 == r3 }
  | .ld4CNcR1R3 _ r1 _ _ => { gr := [r1] }
  | .ld4CNcR1R3R2 _ r1 r3 _ _ => { gr := [r1, r3], clash := r1 == r3 }
  | .ld4CNcR1R3Imm9 _ r1 r3 _ _ => { gr := [r1, r3], clash := r1 == r3 }
  | .ld8CNcR1R3 _ r1 _ _ => { gr := [r1] }
  | .ld8CNcR1R3R2 _ r1 r3 _ _ => { gr := [r1, r3], clash := r1 == r3 }
  | .ld8CNcR1R3Imm9 _ r1 r3 _ _ => { gr := [r1, r3], clash := r1 == r3 }
  | .ld1CClrAcqR1R3 _ r1 _ _ => { gr := [r1] }
  | .ld1CClrAcqR1R3R2 _ r1 r3 _ _ => { gr := [r1, r3], clash := r1 == r3 }
  | .ld1CClrAcqR1R3Imm9 _ r1 r3 _ _ => { gr := [r1, r3], clash := r1 == r3 }
  | .ld2CClrAcqR1R3 _ r1 _ _ => { gr := [r1] }
  | .ld2CClrAcqR1R3R2 _ r1 r3 _ _ => { gr := [r1, r3], clash := r1 == r3 }
  | .ld2CClrAcqR1R3Imm9 _ r1 r3 _ _ => { gr := [r1, r3], clash := r1 == r3 }
  | .ld4CClrAcqR1R3 _ r1 _ _ => { gr := [r1] }
  | .ld4CClrAcqR1R3R2 _ r1 r3 _ _ => { gr := [r1, r3], clash := r1 == r3 }
  | .ld4CClrAcqR1R3Imm9 _ r1 r3 _ _ => { gr := [r1, r3], clash := r1 == r3 }
  | .ld8CClrAcqR1R3 _ r1 _ _ => { gr := [r1] }
  | .ld8CClrAcqR1R3R2 _ r1 r3 _ _ => { gr := [r1, r3], clash := r1 == r3 }
  | .ld8CClrAcqR1R3Imm9 _ r1 r3 _ _ => { gr := [r1, r3], clash := r1 == r3 }
  | .ld8FillR1R3 _ r1 _ _ => { gr := [r1] }
  | .ld8FillR1R3R2 _ r1 r3 _ _ => { gr := [r1, r3], clash := r1 == r3 }
  | .ld8FillR1R3Imm9 _ r1 r3 _ _ => { gr := [r1, r3], clash := r1 == r3 }
  | .st1R3R2Imm9 _ r3 _ _ _ => { gr := [r3] }
  | .st2R3R2Imm9 _ r3 _ _ _ => { gr := [r3] }
  | .st4R3R2Imm9 _ r3 _ _ _ => { gr := [r3] }
  | .st8R3R2Imm9 _ r3 _ _ _ => { gr := [r3] }
  | .st1RelR3R2Imm9 _ r3 _ _ _ => { gr := [r3] }
  | .st2RelR3R2Imm9 _ r3 _ _ _ => { gr := [r3] }
  | .st4RelR3R2Imm9 _ r3 _ _ _ => { gr := [r3] }
  | .st8RelR3R2Imm9 _ r3 _ _ _ => { gr := [r3] }
  | .st8SpillR3R2Imm9 _ r3 _ _ _ => { gr := [r3] }
  | .ldfeF1R3 _ f1 _ _ => { fr := [f1] }
  | .ldfeF1R3R2 _ f1 r3 _ _ => { gr := [r3], fr := [f1] }
  | .ldfeF1R3Imm9 _ f1 r3 _ _ => { gr := [r3], fr := [f1] }
  | .ldf8F1R3 _ f1 _ _ => { fr := [f1] }
  | .ldf8F1R3R2 _ f1 r3 _ _ => { gr := [r3], fr := [f1] }
  | .ldf8F1R3Imm9 _ f1 r3 _ _ => { gr := [r3], fr := [f1] }
  | .ldfsF1R3 _ f1 _ _ => { fr := [f1] }
  | .ldfsF1R3R2 _ f1 r3 _ _ => { gr := [r3], fr := [f1] }
  | .ldfsF1R3Imm9 _ f1 r3 _ _ => { gr := [r3], fr := [f1] }
  | .ldfdF1R3 _ f1 _ _ => { fr := [f1] }
  | .ldfdF1R3R2 _ f1 r3 _ _ => { gr := [r3], fr := [f1] }
  | .ldfdF1R3Imm9 _ f1 r3 _ _ => { gr := [r3], fr := [f1] }
  | .ldfeSF1R3 _ f1 _ _ => { fr := [f1] }
  | .ldfeSF1R3R2 _ f1 r3 _ _ => { gr := [r3], fr := [f1] }
  | .ldfeSF1R3Imm9 _ f1 r3 _ _ => { gr := [r3], fr := [f1] }
  | .ldf8SF1R3 _ f1 _ _ => { fr := [f1] }
  | .ldf8SF1R3R2 _ f1 r3 _ _ => { gr := [r3], fr := [f1] }
  | .ldf8SF1R3Imm9 _ f1 r3 _ _ => { gr := [r3], fr := [f1] }
  | .ldfsSF1R3 _ f1 _ _ => { fr := [f1] }
  | .ldfsSF1R3R2 _ f1 r3 _ _ => { gr := [r3], fr := [f1] }
  | .ldfsSF1R3Imm9 _ f1 r3 _ _ => { gr := [r3], fr := [f1] }
  | .ldfdSF1R3 _ f1 _ _ => { fr := [f1] }
  | .ldfdSF1R3R2 _ f1 r3 _ _ => { gr := [r3], fr := [f1] }
  | .ldfdSF1R3Imm9 _ f1 r3 _ _ => { gr := [r3], fr := [f1] }
  | .ldfeAF1R3 _ f1 _ _ => { fr := [f1] }
  | .ldfeAF1R3R2 _ f1 r3 _ _ => { gr := [r3], fr := [f1] }
  | .ldfeAF1R3Imm9 _ f1 r3 _ _ => { gr := [r3], fr := [f1] }
  | .ldf8AF1R3 _ f1 _ _ => { fr := [f1] }
  | .ldf8AF1R3R2 _ f1 r3 _ _ => { gr := [r3], fr := [f1] }
  | .ldf8AF1R3Imm9 _ f1 r3 _ _ => { gr := [r3], fr := [f1] }
  | .ldfsAF1R3 _ f1 _ _ => { fr := [f1] }
  | .ldfsAF1R3R2 _ f1 r3 _ _ => { gr := [r3], fr := [f1] }
  | .ldfsAF1R3Imm9 _ f1 r3 _ _ => { gr := [r3], fr := [f1] }
  | .ldfdAF1R3 _ f1 _ _ => { fr := [f1] }
  | .ldfdAF1R3R2 _ f1 r3 _ _ => { gr := [r3], fr := [f1] }
  | .ldfdAF1R3Imm9 _ f1 r3 _ _ => { gr := [r3], fr := [f1] }
  | .ldfeSaF1R3 _ f1 _ _ => { fr := [f1] }
  | .ldfeSaF1R3R2 _ f1 r3 _ _ => { gr := [r3], fr := [f1] }
  | .ldfeSaF1R3Imm9 _ f1 r3 _ _ => { gr := [r3], fr := [f1] }
  | .ldf8SaF1R3 _ f1 _ _ => { fr := [f1] }
  | .ldf8SaF1R3R2 _ f1 r3 _ _ => { gr := [r3], fr := [f1] }
  | .ldf8SaF1R3Imm9 _ f1 r3 _ _ => { gr := [r3], fr := [f1] }
  | .ldfsSaF1R3 _ f1 _ _ => { fr := [f1] }
  | .ldfsSaF1R3R2 _ f1 r3 _ _ => { gr := [r3], fr := [f1] }
  | .ldfsSaF1R3Imm9 _ f1 r3 _ _ => { gr := [r3], fr := [f1] }
  | .ldfdSaF1R3 _ f1 _ _ => { fr := [f1] }
  | .ldfdSaF1R3R2 _ f1 r3 _ _ => { gr := [r3], fr := [f1] }
  | .ldfdSaF1R3Imm9 _ f1 r3 _ _ => { gr := [r3], fr := [f1] }
  | .ldfeCClrF1R3 _ f1 _ _ => { fr := [f1] }
  | .ldfeCClrF1R3R2 _ f1 r3 _ _ => { gr := [r3], fr := [f1] }
  | .ldfeCClrF1R3Imm9 _ f1 r3 _ _ => { gr := [r3], fr := [f1] }
  | .ldf8CClrF1R3 _ f1 _ _ => { fr := [f1] }
  | .ldf8CClrF1R3R2 _ f1 r3 _ _ => { gr := [r3], fr := [f1] }
  | .ldf8CClrF1R3Imm9 _ f1 r3 _ _ => { gr := [r3], fr := [f1] }
  | .ldfsCClrF1R3 _ f1 _ _ => { fr := [f1] }
  | .ldfsCClrF1R3R2 _ f1 r3 _ _ => { gr := [r3], fr := [f1] }
  | .ldfsCClrF1R3Imm9 _ f1 r3 _ _ => { gr := [r3], fr := [f1] }
  | .ldfdCClrF1R3 _ f1 _ _ => { fr := [f1] }
  | .ldfdCClrF1R3R2 _ f1 r3 _ _ => { gr := [r3], fr := [f1] }
  | .ldfdCClrF1R3Imm9 _ f1 r3 _ _ => { gr := [r3], fr := [f1] }
  | .ldfeCNcF1R3 _ f1 _ _ => { fr := [f1] }
  | .ldfeCNcF1R3R2 _ f1 r3 _ _ => { gr := [r3], fr := [f1] }
  | .ldfeCNcF1R3Imm9 _ f1 r3 _ _ => { gr := [r3], fr := [f1] }
  | .ldf8CNcF1R3 _ f1 _ _ => { fr := [f1] }
  | .ldf8CNcF1R3R2 _ f1 r3 _ _ => { gr := [r3], fr := [f1] }
  | .ldf8CNcF1R3Imm9 _ f1 r3 _ _ => { gr := [r3], fr := [f1] }
  | .ldfsCNcF1R3 _ f1 _ _ => { fr := [f1] }
  | .ldfsCNcF1R3R2 _ f1 r3 _ _ => { gr := [r3], fr := [f1] }
  | .ldfsCNcF1R3Imm9 _ f1 r3 _ _ => { gr := [r3], fr := [f1] }
  | .ldfdCNcF1R3 _ f1 _ _ => { fr := [f1] }
  | .ldfdCNcF1R3R2 _ f1 r3 _ _ => { gr := [r3], fr := [f1] }
  | .ldfdCNcF1R3Imm9 _ f1 r3 _ _ => { gr := [r3], fr := [f1] }
  | .ldfFillF1R3 _ f1 _ _ => { fr := [f1] }
  | .ldfFillF1R3R2 _ f1 r3 _ _ => { gr := [r3], fr := [f1] }
  | .ldfFillF1R3Imm9 _ f1 r3 _ _ => { gr := [r3], fr := [f1] }
  | .stfeR3F2Imm9 _ r3 _ _ _ => { gr := [r3] }
  | .stf8R3F2Imm9 _ r3 _ _ _ => { gr := [r3] }
  | .stfsR3F2Imm9 _ r3 _ _ _ => { gr := [r3] }
  | .stfdR3F2Imm9 _ r3 _ _ _ => { gr := [r3] }
  | .stfSpillR3F2Imm9 _ r3 _ _ _ => { gr := [r3] }
  | .ldfpsF1F2R3 _ f1 f2 _ _ => { fr := [f1, f2], clash := f1.toNat % 2 == f2.toNat % 2 }
  | .ldfpsF1F2R38 _ f1 f2 r3 _ => { gr := [r3], fr := [f1, f2], clash := f1.toNat % 2 == f2.toNat % 2 }
  | .ldfpsSF1F2R3 _ f1 f2 _ _ => { fr := [f1, f2], clash := f1.toNat % 2 == f2.toNat % 2 }
  | .ldfpsSF1F2R38 _ f1 f2 r3 _ => { gr := [r3], fr := [f1, f2], clash := f1.toNat % 2 == f2.toNat % 2 }
  | .ldfpsAF1F2R3 _ f1 f2 _ _ => { fr := [f1, f2], clash := f1.toNat % 2 == f2.toNat % 2 }
  | .ldfpsAF1F2R38 _ f1 f2 r3 _ => { gr := [r3], fr := [f1, f2], clash := f1.toNat % 2 == f2.toNat % 2 }
  | .ldfpsSaF1F2R3 _ f1 f2 _ _ => { fr := [f1, f2], clash := f1.toNat % 2 == f2.toNat % 2 }
  | .ldfpsSaF1F2R38 _ f1 f2 r3 _ => { gr := [r3], fr := [f1, f2], clash := f1.toNat % 2 == f2.toNat % 2 }
  | .ldfpsCClrF1F2R3 _ f1 f2 _ _ => { fr := [f1, f2], clash := f1.toNat % 2 == f2.toNat % 2 }
  | .ldfpsCClrF1F2R38 _ f1 f2 r3 _ => { gr := [r3], fr := [f1, f2], clash := f1.toNat % 2 == f2.toNat % 2 }
  | .ldfpsCNcF1F2R3 _ f1 f2 _ _ => { fr := [f1, f2], clash := f1.toNat % 2 == f2.toNat % 2 }
  | .ldfpsCNcF1F2R38 _ f1 f2 r3 _ => { gr := [r3], fr := [f1, f2], clash := f1.toNat % 2 == f2.toNat % 2 }
  | .ldfpdF1F2R3 _ f1 f2 _ _ => { fr := [f1, f2], clash := f1.toNat % 2 == f2.toNat % 2 }
  | .ldfpdF1F2R316 _ f1 f2 r3 _ => { gr := [r3], fr := [f1, f2], clash := f1.toNat % 2 == f2.toNat % 2 }
  | .ldfpdSF1F2R3 _ f1 f2 _ _ => { fr := [f1, f2], clash := f1.toNat % 2 == f2.toNat % 2 }
  | .ldfpdSF1F2R316 _ f1 f2 r3 _ => { gr := [r3], fr := [f1, f2], clash := f1.toNat % 2 == f2.toNat % 2 }
  | .ldfpdAF1F2R3 _ f1 f2 _ _ => { fr := [f1, f2], clash := f1.toNat % 2 == f2.toNat % 2 }
  | .ldfpdAF1F2R316 _ f1 f2 r3 _ => { gr := [r3], fr := [f1, f2], clash := f1.toNat % 2 == f2.toNat % 2 }
  | .ldfpdSaF1F2R3 _ f1 f2 _ _ => { fr := [f1, f2], clash := f1.toNat % 2 == f2.toNat % 2 }
  | .ldfpdSaF1F2R316 _ f1 f2 r3 _ => { gr := [r3], fr := [f1, f2], clash := f1.toNat % 2 == f2.toNat % 2 }
  | .ldfpdCClrF1F2R3 _ f1 f2 _ _ => { fr := [f1, f2], clash := f1.toNat % 2 == f2.toNat % 2 }
  | .ldfpdCClrF1F2R316 _ f1 f2 r3 _ => { gr := [r3], fr := [f1, f2], clash := f1.toNat % 2 == f2.toNat % 2 }
  | .ldfpdCNcF1F2R3 _ f1 f2 _ _ => { fr := [f1, f2], clash := f1.toNat % 2 == f2.toNat % 2 }
  | .ldfpdCNcF1F2R316 _ f1 f2 r3 _ => { gr := [r3], fr := [f1, f2], clash := f1.toNat % 2 == f2.toNat % 2 }
  | .ldfp8F1F2R3 _ f1 f2 _ _ => { fr := [f1, f2], clash := f1.toNat % 2 == f2.toNat % 2 }
  | .ldfp8F1F2R316 _ f1 f2 r3 _ => { gr := [r3], fr := [f1, f2], clash := f1.toNat % 2 == f2.toNat % 2 }
  | .ldfp8SF1F2R3 _ f1 f2 _ _ => { fr := [f1, f2], clash := f1.toNat % 2 == f2.toNat % 2 }
  | .ldfp8SF1F2R316 _ f1 f2 r3 _ => { gr := [r3], fr := [f1, f2], clash := f1.toNat % 2 == f2.toNat % 2 }
  | .ldfp8AF1F2R3 _ f1 f2 _ _ => { fr := [f1, f2], clash := f1.toNat % 2 == f2.toNat % 2 }
  | .ldfp8AF1F2R316 _ f1 f2 r3 _ => { gr := [r3], fr := [f1, f2], clash := f1.toNat % 2 == f2.toNat % 2 }
  | .ldfp8SaF1F2R3 _ f1 f2 _ _ => { fr := [f1, f2], clash := f1.toNat % 2 == f2.toNat % 2 }
  | .ldfp8SaF1F2R316 _ f1 f2 r3 _ => { gr := [r3], fr := [f1, f2], clash := f1.toNat % 2 == f2.toNat % 2 }
  | .ldfp8CClrF1F2R3 _ f1 f2 _ _ => { fr := [f1, f2], clash := f1.toNat % 2 == f2.toNat % 2 }
  | .ldfp8CClrF1F2R316 _ f1 f2 r3 _ => { gr := [r3], fr := [f1, f2], clash := f1.toNat % 2 == f2.toNat % 2 }
  | .ldfp8CNcF1F2R3 _ f1 f2 _ _ => { fr := [f1, f2], clash := f1.toNat % 2 == f2.toNat % 2 }
  | .ldfp8CNcF1F2R316 _ f1 f2 r3 _ => { gr := [r3], fr := [f1, f2], clash := f1.toNat % 2 == f2.toNat % 2 }
  | .lfetchR3R2 _ r3 _ _ => { gr := [r3] }
  | .lfetchR3Imm9 _ r3 _ _ => { gr := [r3] }
  | .lfetchExclR3R2 _ r3 _ _ => { gr := [r3] }
  | .lfetchExclR3Imm9 _ r3 _ _ => { gr := [r3] }
  | .lfetchFaultR3R2 _ r3 _ _ => { gr := [r3] }
  | .lfetchFaultR3Imm9 _ r3 _ _ => { gr := [r3] }
  | .lfetchFaultExclR3R2 _ r3 _ _ => { gr := [r3] }
  | .lfetchFaultExclR3Imm9 _ r3 _ _ => { gr := [r3] }
  | .cmpxchg1AcqR1R3R2ArCcv _ r1 _ _ _ => { gr := [r1] }
  | .cmpxchg1RelR1R3R2ArCcv _ r1 _ _ _ => { gr := [r1] }
  | .cmpxchg2AcqR1R3R2ArCcv _ r1 _ _ _ => { gr := [r1] }
  | .cmpxchg2RelR1R3R2ArCcv _ r1 _ _ _ => { gr := [r1] }
  | .cmpxchg4AcqR1R3R2ArCcv _ r1 _ _ _ => { gr := [r1] }
  | .cmpxchg4RelR1R3R2ArCcv _ r1 _ _ _ => { gr := [r1] }
  | .cmpxchg8AcqR1R3R2ArCcv _ r1 _ _ _ => { gr := [r1] }
  | .cmpxchg8RelR1R3R2ArCcv _ r1 _ _ _ => { gr := [r1] }
  | .xchg1R1R3R2 _ r1 _ _ _ => { gr := [r1] }
  | .xchg2R1R3R2 _ r1 _ _ _ => { gr := [r1] }
  | .xchg4R1R3R2 _ r1 _ _ _ => { gr := [r1] }
  | .xchg8R1R3R2 _ r1 _ _ _ => { gr := [r1] }
  | .fetchadd4AcqR1R3Inc3 _ r1 _ _ _ => { gr := [r1] }
  | .fetchadd4RelR1R3Inc3 _ r1 _ _ _ => { gr := [r1] }
  | .fetchadd8AcqR1R3Inc3 _ r1 _ _ _ => { gr := [r1] }
  | .fetchadd8RelR1R3Inc3 _ r1 _ _ _ => { gr := [r1] }
  | .setfSigF1R2 _ f1 _ => { fr := [f1] }
  | .setfExpF1R2 _ f1 _ => { fr := [f1] }
  | .setfSF1R2 _ f1 _ => { fr := [f1] }
  | .setfDF1R2 _ f1 _ => { fr := [f1] }
  | .getfSigR1F2 _ r1 _ => { gr := [r1] }
  | .getfExpR1F2 _ r1 _ => { gr := [r1] }
  | .getfSR1F2 _ r1 _ => { gr := [r1] }
  | .getfDR1F2 _ r1 _ => { gr := [r1] }
  | .movMR1Ar3 _ r1 _ => { gr := [r1] }
  | .movR1Cr3 _ r1 _ => { gr := [r1] }
  | .movR1Psr _ r1 => { gr := [r1] }
  | .movR1PsrUm _ r1 => { gr := [r1] }
  | .movR1PmcR3 _ r1 _ => { gr := [r1] }
  | .movR1PmdR3 _ r1 _ => { gr := [r1] }
  | .movR1RrR3 _ r1 _ => { gr := [r1] }
  | .movR1PkrR3 _ r1 _ => { gr := [r1] }
  | .movR1IbrR3 _ r1 _ => { gr := [r1] }
  | .movR1DbrR3 _ r1 _ => { gr := [r1] }
  | .movR1CpuidR3 _ r1 _ => { gr := [r1] }
  | .probeRR1R3R2 _ r1 _ _ => { gr := [r1] }
  | .probeRR1R3Imm2 _ r1 _ _ => { gr := [r1] }
  | .probeWR1R3R2 _ r1 _ _ => { gr := [r1] }
  | .probeWR1R3Imm2 _ r1 _ _ => { gr := [r1] }
  | .tpaR1R3 _ r1 _ => { gr := [r1] }
  | .takR1R3 _ r1 _ => { gr := [r1] }
  | .thashR1R3 _ r1 _ => { gr := [r1] }
  | .ttagR1R3 _ r1 _ => { gr := [r1] }
  | .fmaSfF1F3F4F2 _ _ f1 _ _ _ => { fr := [f1] }
  | .fmaSSfF1F3F4F2 _ _ f1 _ _ _ => { fr := [f1] }
  | .fmaDSfF1F3F4F2 _ _ f1 _ _ _ => { fr := [f1] }
  | .fpmaSfF1F3F4F2 _ _ f1 _ _ _ => { fr := [f1] }
  | .fmsSfF1F3F4F2 _ _ f1 _ _ _ => { fr := [f1] }
  | .fmsSSfF1F3F4F2 _ _ f1 _ _ _ => { fr := [f1] }
  | .fmsDSfF1F3F4F2 _ _ f1 _ _ _ => { fr := [f1] }
  | .fpmsSfF1F3F4F2 _ _ f1 _ _ _ => { fr := [f1] }
  | .fnmaSfF1F3F4F2 _ _ f1 _ _ _ => { fr := [f1] }
  | .fnmaSSfF1F3F4F2 _ _ f1 _ _ _ => { fr := [f1] }
  | .fnmaDSfF1F3F4F2 _ _ f1 _ _ _ => { fr := [f1] }
  | .fpnmaSfF1F3F4F2 _ _ f1 _ _ _ => { fr := [f1] }
  | .xmaLF1F3F4F2 _ f1 _ _ _ => { fr := [f1] }
  | .xmaHuF1F3F4F2 _ f1 _ _ _ => { fr := [f1] }
  | .xmaHF1F3F4F2 _ f1 _ _ _ => { fr := [f1] }
  | .fselectF1F3F4F2 _ f1 _ _ _ => { fr := [f1] }
  | .frcpaSfF1P2F2F3 _ f1 _ _ _ _ => { fr := [f1] }
  | .fprcpaSfF1P2F2F3 _ f1 _ _ _ _ => { fr := [f1] }
  | .frsqrtaSfF1P2F3 _ f1 _ _ _ => { fr := [f1] }
  | .fprsqrtaSfF1P2F3 _ f1 _ _ _ => { fr := [f1] }
  | .fminSfF1F2F3 _ f1 _ _ _ => { fr := [f1] }
  | .fmaxSfF1F2F3 _ f1 _ _ _ => { fr := [f1] }
  | .faminSfF1F2F3 _ f1 _ _ _ => { fr := [f1] }
  | .famaxSfF1F2F3 _ f1 _ _ _ => { fr := [f1] }
  | .fpminSfF1F2F3 _ f1 _ _ _ => { fr := [f1] }
  | .fpmaxSfF1F2F3 _ f1 _ _ _ => { fr := [f1] }
  | .fpaminSfF1F2F3 _ f1 _ _ _ => { fr := [f1] }
  | .fpamaxSfF1F2F3 _ f1 _ _ _ => { fr := [f1] }
  | .fpcmpFrelSfF1F2F3 _ f1 _ _ _ _ => { fr := [f1] }
  | .fmergeSF1F2F3 _ f1 _ _ => { fr := [f1] }
  | .fmergeNsF1F2F3 _ f1 _ _ => { fr := [f1] }
  | .fmergeSeF1F2F3 _ f1 _ _ => { fr := [f1] }
  | .fandF1F2F3 _ f1 _ _ => { fr := [f1] }
  | .fandcmF1F2F3 _ f1 _ _ => { fr := [f1] }
  | .forF1F2F3 _ f1 _ _ => { fr := [f1] }
  | .fxorF1F2F3 _ f1 _ _ => { fr := [f1] }
  | .fmixLF1F2F3 _ f1 _ _ => { fr := [f1] }
  | .fmixRF1F2F3 _ f1 _ _ => { fr := [f1] }
  | .fmixLrF1F2F3 _ f1 _ _ => { fr := [f1] }
  | .fsxtLF1F2F3 _ f1 _ _ => { fr := [f1] }
  | .fsxtRF1F2F3 _ f1 _ _ => { fr := [f1] }
  | .fpackF1F2F3 _ f1 _ _ => { fr := [f1] }
  | .fswapF1F2F3 _ f1 _ _ => { fr := [f1] }
  | .fswapNlF1F2F3 _ f1 _ _ => { fr := [f1] }
  | .fswapNrF1F2F3 _ f1 _ _ => { fr := [f1] }
  | .fpmergeSF1F2F3 _ f1 _ _ => { fr := [f1] }
  | .fpmergeNsF1F2F3 _ f1 _ _ => { fr := [f1] }
  | .fpmergeSeF1F2F3 _ f1 _ _ => { fr := [f1] }
  | .fcvtFxSfF1F2 _ f1 _ _ => { fr := [f1] }
  | .fcvtFxuSfF1F2 _ f1 _ _ => { fr := [f1] }
  | .fcvtFxTruncSfF1F2 _ f1 _ _ => { fr := [f1] }
  | .fcvtFxuTruncSfF1F2 _ f1 _ _ => { fr := [f1] }
  | .fpcvtFxSfF1F2 _ f1 _ _ => { fr := [f1] }
  | .fpcvtFxuSfF1F2 _ f1 _ _ => { fr := [f1] }
  | .fpcvtFxTruncSfF1F2 _ f1 _ _ => { fr := [f1] }
  | .fpcvtFxuTruncSfF1F2 _ f1 _ _ => { fr := [f1] }
  | .fcvtXfF1F2 _ f1 _ => { fr := [f1] }
  | _ => {}

/-- The qualifying predicate of the instructions that have no effect when it is 0 (R330 step 3): all predicated ones but the
branches, the `unc` compares, `frcpa` and its kin, and `alloc`. -/
def guardOf : Instr → Option PredIdx
  | .addR1R2R3 qp _ _ _ => some qp
  | .addR1R2R31 qp _ _ _ => some qp
  | .subR1R2R3 qp _ _ _ => some qp
  | .subR1R2R31 qp _ _ _ => some qp
  | .addp4R1R2R3 qp _ _ _ => some qp
  | .andR1R2R3 qp _ _ _ => some qp
  | .andcmR1R2R3 qp _ _ _ => some qp
  | .orR1R2R3 qp _ _ _ => some qp
  | .xorR1R2R3 qp _ _ _ => some qp
  | .shladdR1R2Count2R3 qp _ _ _ _ => some qp
  | .shladdp4R1R2Count2R3 qp _ _ _ _ => some qp
  | .subR1Imm8R3 qp _ _ _ => some qp
  | .andR1Imm8R3 qp _ _ _ => some qp
  | .andcmR1Imm8R3 qp _ _ _ => some qp
  | .orR1Imm8R3 qp _ _ _ => some qp
  | .xorR1Imm8R3 qp _ _ _ => some qp
  | .addsR1Imm14R3 qp _ _ _ => some qp
  | .addp4R1Imm14R3 qp _ _ _ => some qp
  | .addlR1Imm22R3 qp _ _ _ => some qp
  | .cmpLtP1P2R2R3 qp _ _ _ _ => some qp
  | .cmp4LtP1P2R2R3 qp _ _ _ _ => some qp
  | .cmpLtP1P2Imm8R3 qp _ _ _ _ => some qp
  | .cmp4LtP1P2Imm8R3 qp _ _ _ _ => some qp
  | .cmpLtuP1P2R2R3 qp _ _ _ _ => some qp
  | .cmp4LtuP1P2R2R3 qp _ _ _ _ => some qp
  | .cmpLtuP1P2Imm8R3 qp _ _ _ _ => some qp
  | .cmp4LtuP1P2Imm8R3 qp _ _ _ _ => some qp
  | .cmpEqP1P2R2R3 qp _ _ _ _ => some qp
  | .cmp4EqP1P2R2R3 qp _ _ _ _ => some qp
  | .cmpEqP1P2Imm8R3 qp _ _ _ _ => some qp
  | .cmp4EqP1P2Imm8R3 qp _ _ _ _ => some qp
  | .cmpEqAndP1P2R2R3 qp _ _ _ _ => some qp
  | .cmpEqAndP1P2Imm8R3 qp _ _ _ _ => some qp
  | .cmpNeAndP1P2R2R3 qp _ _ _ _ => some qp
  | .cmpNeAndP1P2Imm8R3 qp _ _ _ _ => some qp
  | .cmpGtAndP1P2R0R3 qp _ _ _ => some qp
  | .cmpLeAndP1P2R0R3 qp _ _ _ => some qp
  | .cmpGeAndP1P2R0R3 qp _ _ _ => some qp
  | .cmpLtAndP1P2R0R3 qp _ _ _ => some qp
  | .cmpEqOrP1P2R2R3 qp _ _ _ _ => some qp
  | .cmpEqOrP1P2Imm8R3 qp _ _ _ _ => some qp
  | .cmpNeOrP1P2R2R3 qp _ _ _ _ => some qp
  | .cmpNeOrP1P2Imm8R3 qp _ _ _ _ => some qp
  | .cmpGtOrP1P2R0R3 qp _ _ _ => some qp
  | .cmpLeOrP1P2R0R3 qp _ _ _ => some qp
  | .cmpGeOrP1P2R0R3 qp _ _ _ => some qp
  | .cmpLtOrP1P2R0R3 qp _ _ _ => some qp
  | .cmpEqOrAndcmP1P2R2R3 qp _ _ _ _ => some qp
  | .cmpEqOrAndcmP1P2Imm8R3 qp _ _ _ _ => some qp
  | .cmpNeOrAndcmP1P2R2R3 qp _ _ _ _ => some qp
  | .cmpNeOrAndcmP1P2Imm8R3 qp _ _ _ _ => some qp
  | .cmpGtOrAndcmP1P2R0R3 qp _ _ _ => some qp
  | .cmpLeOrAndcmP1P2R0R3 qp _ _ _ => some qp
  | .cmpGeOrAndcmP1P2R0R3 qp _ _ _ => some qp
  | .cmpLtOrAndcmP1P2R0R3 qp _ _ _ => some qp
  | .cmp4EqAndP1P2R2R3 qp _ _ _ _ => some qp
  | .cmp4EqAndP1P2Imm8R3 qp _ _ _ _ => some qp
  | .cmp4NeAndP1P2R2R3 qp _ _ _ _ => some qp
  | .cmp4NeAndP1P2Imm8R3 qp _ _ _ _ => some qp
  | .cmp4GtAndP1P2R0R3 qp _ _ _ => some qp
  | .cmp4LeAndP1P2R0R3 qp _ _ _ => some qp
  | .cmp4GeAndP1P2R0R3 qp _ _ _ => some qp
  | .cmp4LtAndP1P2R0R3 qp _ _ _ => some qp
  | .cmp4EqOrP1P2R2R3 qp _ _ _ _ => some qp
  | .cmp4EqOrP1P2Imm8R3 qp _ _ _ _ => some qp
  | .cmp4NeOrP1P2R2R3 qp _ _ _ _ => some qp
  | .cmp4NeOrP1P2Imm8R3 qp _ _ _ _ => some qp
  | .cmp4GtOrP1P2R0R3 qp _ _ _ => some qp
  | .cmp4LeOrP1P2R0R3 qp _ _ _ => some qp
  | .cmp4GeOrP1P2R0R3 qp _ _ _ => some qp
  | .cmp4LtOrP1P2R0R3 qp _ _ _ => some qp
  | .cmp4EqOrAndcmP1P2R2R3 qp _ _ _ _ => some qp
  | .cmp4EqOrAndcmP1P2Imm8R3 qp _ _ _ _ => some qp
  | .cmp4NeOrAndcmP1P2R2R3 qp _ _ _ _ => some qp
  | .cmp4NeOrAndcmP1P2Imm8R3 qp _ _ _ _ => some qp
  | .cmp4GtOrAndcmP1P2R0R3 qp _ _ _ => some qp
  | .cmp4LeOrAndcmP1P2R0R3 qp _ _ _ => some qp
  | .cmp4GeOrAndcmP1P2R0R3 qp _ _ _ => some qp
  | .cmp4LtOrAndcmP1P2R0R3 qp _ _ _ => some qp
  | .padd1R1R2R3 qp _ _ _ => some qp
  | .padd2R1R2R3 qp _ _ _ => some qp
  | .padd4R1R2R3 qp _ _ _ => some qp
  | .padd1SssR1R2R3 qp _ _ _ => some qp
  | .padd2SssR1R2R3 qp _ _ _ => some qp
  | .padd1UusR1R2R3 qp _ _ _ => some qp
  | .padd2UusR1R2R3 qp _ _ _ => some qp
  | .padd1UuuR1R2R3 qp _ _ _ => some qp
  | .padd2UuuR1R2R3 qp _ _ _ => some qp
  | .psub1R1R2R3 qp _ _ _ => some qp
  | .psub2R1R2R3 qp _ _ _ => some qp
  | .psub4R1R2R3 qp _ _ _ => some qp
  | .psub1SssR1R2R3 qp _ _ _ => some qp
  | .psub2SssR1R2R3 qp _ _ _ => some qp
  | .psub1UusR1R2R3 qp _ _ _ => some qp
  | .psub2UusR1R2R3 qp _ _ _ => some qp
  | .psub1UuuR1R2R3 qp _ _ _ => some qp
  | .psub2UuuR1R2R3 qp _ _ _ => some qp
  | .pavg1R1R2R3 qp _ _ _ => some qp
  | .pavg2R1R2R3 qp _ _ _ => some qp
  | .pavg1RazR1R2R3 qp _ _ _ => some qp
  | .pavg2RazR1R2R3 qp _ _ _ => some qp
  | .pavgsub1R1R2R3 qp _ _ _ => some qp
  | .pavgsub2R1R2R3 qp _ _ _ => some qp
  | .pcmp1EqR1R2R3 qp _ _ _ => some qp
  | .pcmp2EqR1R2R3 qp _ _ _ => some qp
  | .pcmp4EqR1R2R3 qp _ _ _ => some qp
  | .pcmp1GtR1R2R3 qp _ _ _ => some qp
  | .pcmp2GtR1R2R3 qp _ _ _ => some qp
  | .pcmp4GtR1R2R3 qp _ _ _ => some qp
  | .pshladd2R1R2Count2R3 qp _ _ _ _ => some qp
  | .pshradd2R1R2Count2R3 qp _ _ _ _ => some qp
  | .pmpyshr2R1R2R3Count2 qp _ _ _ _ => some qp
  | .pmpyshr2UR1R2R3Count2 qp _ _ _ _ => some qp
  | .pmpy2RR1R2R3 qp _ _ _ => some qp
  | .pmpy2LR1R2R3 qp _ _ _ => some qp
  | .mix1RR1R2R3 qp _ _ _ => some qp
  | .mix1LR1R2R3 qp _ _ _ => some qp
  | .mix2RR1R2R3 qp _ _ _ => some qp
  | .mix2LR1R2R3 qp _ _ _ => some qp
  | .mix4RR1R2R3 qp _ _ _ => some qp
  | .mix4LR1R2R3 qp _ _ _ => some qp
  | .pack2SssR1R2R3 qp _ _ _ => some qp
  | .pack2UssR1R2R3 qp _ _ _ => some qp
  | .pack4SssR1R2R3 qp _ _ _ => some qp
  | .unpack1LR1R2R3 qp _ _ _ => some qp
  | .unpack1HR1R2R3 qp _ _ _ => some qp
  | .unpack2LR1R2R3 qp _ _ _ => some qp
  | .unpack2HR1R2R3 qp _ _ _ => some qp
  | .unpack4LR1R2R3 qp _ _ _ => some qp
  | .unpack4HR1R2R3 qp _ _ _ => some qp
  | .pmin1UR1R2R3 qp _ _ _ => some qp
  | .pmax1UR1R2R3 qp _ _ _ => some qp
  | .pmin2R1R2R3 qp _ _ _ => some qp
  | .pmax2R1R2R3 qp _ _ _ => some qp
  | .psad1R1R2R3 qp _ _ _ => some qp
  | .mux1R1R2Mbtype4 qp _ _ mbtype4 => if (mux1Table.lookup mbtype4.toNat).isSome then some qp else none
  | .mux2R1R2Mhtype8 qp _ _ _ => some qp
  | .shrR1R3R2 qp _ _ _ => some qp
  | .shrUR1R3R2 qp _ _ _ => some qp
  | .pshr2R1R3R2 qp _ _ _ => some qp
  | .pshr2UR1R3R2 qp _ _ _ => some qp
  | .pshr4R1R3R2 qp _ _ _ => some qp
  | .pshr4UR1R3R2 qp _ _ _ => some qp
  | .pshr2R1R3Count5 qp _ _ _ => some qp
  | .pshr2UR1R3Count5 qp _ _ _ => some qp
  | .pshr4R1R3Count5 qp _ _ _ => some qp
  | .pshr4UR1R3Count5 qp _ _ _ => some qp
  | .shlR1R2R3 qp _ _ _ => some qp
  | .pshl2R1R2R3 qp _ _ _ => some qp
  | .pshl4R1R2R3 qp _ _ _ => some qp
  | .pshl2R1R2Count5 qp _ _ _ => some qp
  | .pshl4R1R2Count5 qp _ _ _ => some qp
  | .popcntR1R3 qp _ _ => some qp
  | .shrpR1R2R3Count6 qp _ _ _ _ => some qp
  | .extrUR1R3Pos6Len6 qp _ _ _ _ => some qp
  | .extrR1R3Pos6Len6 qp _ _ _ _ => some qp
  | .depZR1R2Pos6Len6 qp _ _ _ _ => some qp
  | .depZR1Imm8Pos6Len6 qp _ _ _ _ => some qp
  | .depR1Imm1R3Pos6Len6 qp _ _ _ _ _ => some qp
  | .depR1R2R3Pos6Len4 qp _ _ _ _ _ => some qp
  | .tbitZP1P2R3Pos6 qp _ _ _ _ => some qp
  | .tbitZAndP1P2R3Pos6 qp _ _ _ _ => some qp
  | .tbitNzAndP1P2R3Pos6 qp _ _ _ _ => some qp
  | .tbitZOrP1P2R3Pos6 qp _ _ _ _ => some qp
  | .tbitNzOrP1P2R3Pos6 qp _ _ _ _ => some qp
  | .tbitZOrAndcmP1P2R3Pos6 qp _ _ _ _ => some qp
  | .tbitNzOrAndcmP1P2R3Pos6 qp _ _ _ _ => some qp
  | .tnatZP1P2R3 qp _ _ _ => some qp
  | .tnatZAndP1P2R3 qp _ _ _ => some qp
  | .tnatNzAndP1P2R3 qp _ _ _ => some qp
  | .tnatZOrP1P2R3 qp _ _ _ => some qp
  | .tnatNzOrP1P2R3 qp _ _ _ => some qp
  | .tnatZOrAndcmP1P2R3 qp _ _ _ => some qp
  | .tnatNzOrAndcmP1P2R3 qp _ _ _ => some qp
  | .tbitNzP1P2R3Pos6 qp _ _ _ _ => some qp
  | .tnatNzP1P2R3 qp _ _ _ => some qp
  | .breakIImm21 qp _ => some qp
  | .nopIImm21 qp _ => some qp
  | .chkSIR2Target25 qp _ _ => some qp
  | .movB1R2 qp _ _ _ _ _ => some qp
  | .movRetB1R2 qp _ _ _ _ _ => some qp
  | .movR1B2 qp _ _ => some qp
  | .movPrR2Mask17 qp _ _ => some qp
  | .movPrRotImm44 qp _ => some qp
  | .movR1Ip qp _ => some qp
  | .movR1Pr qp _ => some qp
  | .movIAr3R2 qp _ _ => some qp
  | .movIAr3Imm8 qp _ _ => some qp
  | .movIR1Ar3 qp _ _ => some qp
  | .zxt1R1R3 qp _ _ => some qp
  | .zxt2R1R3 qp _ _ => some qp
  | .zxt4R1R3 qp _ _ => some qp
  | .sxt1R1R3 qp _ _ => some qp
  | .sxt2R1R3 qp _ _ => some qp
  | .sxt4R1R3 qp _ _ => some qp
  | .czx1LR1R3 qp _ _ => some qp
  | .czx2LR1R3 qp _ _ => some qp
  | .czx1RR1R3 qp _ _ => some qp
  | .czx2RR1R3 qp _ _ => some qp
  | .movlR1Imm64 qp _ _ => some qp
  | .breakXImm62 qp _ => some qp
  | .nopXImm62 qp _ => some qp
  | .ld1R1R3 qp _ _ _ => some qp
  | .ld1R1R3R2 qp _ _ _ _ => some qp
  | .ld1R1R3Imm9 qp _ _ _ _ => some qp
  | .ld2R1R3 qp _ _ _ => some qp
  | .ld2R1R3R2 qp _ _ _ _ => some qp
  | .ld2R1R3Imm9 qp _ _ _ _ => some qp
  | .ld4R1R3 qp _ _ _ => some qp
  | .ld4R1R3R2 qp _ _ _ _ => some qp
  | .ld4R1R3Imm9 qp _ _ _ _ => some qp
  | .ld8R1R3 qp _ _ _ => some qp
  | .ld8R1R3R2 qp _ _ _ _ => some qp
  | .ld8R1R3Imm9 qp _ _ _ _ => some qp
  | .ld1SR1R3 qp _ _ _ => some qp
  | .ld1SR1R3R2 qp _ _ _ _ => some qp
  | .ld1SR1R3Imm9 qp _ _ _ _ => some qp
  | .ld2SR1R3 qp _ _ _ => some qp
  | .ld2SR1R3R2 qp _ _ _ _ => some qp
  | .ld2SR1R3Imm9 qp _ _ _ _ => some qp
  | .ld4SR1R3 qp _ _ _ => some qp
  | .ld4SR1R3R2 qp _ _ _ _ => some qp
  | .ld4SR1R3Imm9 qp _ _ _ _ => some qp
  | .ld8SR1R3 qp _ _ _ => some qp
  | .ld8SR1R3R2 qp _ _ _ _ => some qp
  | .ld8SR1R3Imm9 qp _ _ _ _ => some qp
  | .ld1AR1R3 qp _ _ _ => some qp
  | .ld1AR1R3R2 qp _ _ _ _ => some qp
  | .ld1AR1R3Imm9 qp _ _ _ _ => some qp
  | .ld2AR1R3 qp _ _ _ => some qp
  | .ld2AR1R3R2 qp _ _ _ _ => some qp
  | .ld2AR1R3Imm9 qp _ _ _ _ => some qp
  | .ld4AR1R3 qp _ _ _ => some qp
  | .ld4AR1R3R2 qp _ _ _ _ => some qp
  | .ld4AR1R3Imm9 qp _ _ _ _ => some qp
  | .ld8AR1R3 qp _ _ _ => some qp
  | .ld8AR1R3R2 qp _ _ _ _ => some qp
  | .ld8AR1R3Imm9 qp _ _ _ _ => some qp
  | .ld1SaR1R3 qp _ _ _ => some qp
  | .ld1SaR1R3R2 qp _ _ _ _ => some qp
  | .ld1SaR1R3Imm9 qp _ _ _ _ => some qp
  | .ld2SaR1R3 qp _ _ _ => some qp
  | .ld2SaR1R3R2 qp _ _ _ _ => some qp
  | .ld2SaR1R3Imm9 qp _ _ _ _ => some qp
  | .ld4SaR1R3 qp _ _ _ => some qp
  | .ld4SaR1R3R2 qp _ _ _ _ => some qp
  | .ld4SaR1R3Imm9 qp _ _ _ _ => some qp
  | .ld8SaR1R3 qp _ _ _ => some qp
  | .ld8SaR1R3R2 qp _ _ _ _ => some qp
  | .ld8SaR1R3Imm9 qp _ _ _ _ => some qp
  | .ld1BiasR1R3 qp _ _ _ => some qp
  | .ld1BiasR1R3R2 qp _ _ _ _ => some qp
  | .ld1BiasR1R3Imm9 qp _ _ _ _ => some qp
  | .ld2BiasR1R3 qp _ _ _ => some qp
  | .ld2BiasR1R3R2 qp _ _ _ _ => some qp
  | .ld2BiasR1R3Imm9 qp _ _ _ _ => some qp
  | .ld4BiasR1R3 qp _ _ _ => some qp
  | .ld4BiasR1R3R2 qp _ _ _ _ => some qp
  | .ld4BiasR1R3Imm9 qp _ _ _ _ => some qp
  | .ld8BiasR1R3 qp _ _ _ => some qp
  | .ld8BiasR1R3R2 qp _ _ _ _ => some qp
  | .ld8BiasR1R3Imm9 qp _ _ _ _ => some qp
  | .ld1AcqR1R3 qp _ _ _ => some qp
  | .ld1AcqR1R3R2 qp _ _ _ _ => some qp
  | .ld1AcqR1R3Imm9 qp _ _ _ _ => some qp
  | .ld2AcqR1R3 qp _ _ _ => some qp
  | .ld2AcqR1R3R2 qp _ _ _ _ => some qp
  | .ld2AcqR1R3Imm9 qp _ _ _ _ => some qp
  | .ld4AcqR1R3 qp _ _ _ => some qp
  | .ld4AcqR1R3R2 qp _ _ _ _ => some qp
  | .ld4AcqR1R3Imm9 qp _ _ _ _ => some qp
  | .ld8AcqR1R3 qp _ _ _ => some qp
  | .ld8AcqR1R3R2 qp _ _ _ _ => some qp
  | .ld8AcqR1R3Imm9 qp _ _ _ _ => some qp
  | .ld1CClrR1R3 qp _ _ _ => some qp
  | .ld1CClrR1R3R2 qp _ _ _ _ => some qp
  | .ld1CClrR1R3Imm9 qp _ _ _ _ => some qp
  | .ld2CClrR1R3 qp _ _ _ => some qp
  | .ld2CClrR1R3R2 qp _ _ _ _ => some qp
  | .ld2CClrR1R3Imm9 qp _ _ _ _ => some qp
  | .ld4CClrR1R3 qp _ _ _ => some qp
  | .ld4CClrR1R3R2 qp _ _ _ _ => some qp
  | .ld4CClrR1R3Imm9 qp _ _ _ _ => some qp
  | .ld8CClrR1R3 qp _ _ _ => some qp
  | .ld8CClrR1R3R2 qp _ _ _ _ => some qp
  | .ld8CClrR1R3Imm9 qp _ _ _ _ => some qp
  | .ld1CNcR1R3 qp _ _ _ => some qp
  | .ld1CNcR1R3R2 qp _ _ _ _ => some qp
  | .ld1CNcR1R3Imm9 qp _ _ _ _ => some qp
  | .ld2CNcR1R3 qp _ _ _ => some qp
  | .ld2CNcR1R3R2 qp _ _ _ _ => some qp
  | .ld2CNcR1R3Imm9 qp _ _ _ _ => some qp
  | .ld4CNcR1R3 qp _ _ _ => some qp
  | .ld4CNcR1R3R2 qp _ _ _ _ => some qp
  | .ld4CNcR1R3Imm9 qp _ _ _ _ => some qp
  | .ld8CNcR1R3 qp _ _ _ => some qp
  | .ld8CNcR1R3R2 qp _ _ _ _ => some qp
  | .ld8CNcR1R3Imm9 qp _ _ _ _ => some qp
  | .ld1CClrAcqR1R3 qp _ _ _ => some qp
  | .ld1CClrAcqR1R3R2 qp _ _ _ _ => some qp
  | .ld1CClrAcqR1R3Imm9 qp _ _ _ _ => some qp
  | .ld2CClrAcqR1R3 qp _ _ _ => some qp
  | .ld2CClrAcqR1R3R2 qp _ _ _ _ => some qp
  | .ld2CClrAcqR1R3Imm9 qp _ _ _ _ => some qp
  | .ld4CClrAcqR1R3 qp _ _ _ => some qp
  | .ld4CClrAcqR1R3R2 qp _ _ _ _ => some qp
  | .ld4CClrAcqR1R3Imm9 qp _ _ _ _ => some qp
  | .ld8CClrAcqR1R3 qp _ _ _ => some qp
  | .ld8CClrAcqR1R3R2 qp _ _ _ _ => some qp
  | .ld8CClrAcqR1R3Imm9 qp _ _ _ _ => some qp
  | .ld8FillR1R3 qp _ _ _ => some qp
  | .ld8FillR1R3R2 qp _ _ _ _ => some qp
  | .ld8FillR1R3Imm9 qp _ _ _ _ => some qp
  | .st1R3R2 qp _ _ _ => some qp
  | .st1R3R2Imm9 qp _ _ _ _ => some qp
  | .st2R3R2 qp _ _ _ => some qp
  | .st2R3R2Imm9 qp _ _ _ _ => some qp
  | .st4R3R2 qp _ _ _ => some qp
  | .st4R3R2Imm9 qp _ _ _ _ => some qp
  | .st8R3R2 qp _ _ _ => some qp
  | .st8R3R2Imm9 qp _ _ _ _ => some qp
  | .st1RelR3R2 qp _ _ _ => some qp
  | .st1RelR3R2Imm9 qp _ _ _ _ => some qp
  | .st2RelR3R2 qp _ _ _ => some qp
  | .st2RelR3R2Imm9 qp _ _ _ _ => some qp
  | .st4RelR3R2 qp _ _ _ => some qp
  | .st4RelR3R2Imm9 qp _ _ _ _ => some qp
  | .st8RelR3R2 qp _ _ _ => some qp
  | .st8RelR3R2Imm9 qp _ _ _ _ => some qp
  | .st8SpillR3R2 qp _ _ _ => some qp
  | .st8SpillR3R2Imm9 qp _ _ _ _ => some qp
  | .ldfeF1R3 qp _ _ _ => some qp
  | .ldfeF1R3R2 qp _ _ _ _ => some qp
  | .ldfeF1R3Imm9 qp _ _ _ _ => some qp
  | .ldf8F1R3 qp _ _ _ => some qp
  | .ldf8F1R3R2 qp _ _ _ _ => some qp
  | .ldf8F1R3Imm9 qp _ _ _ _ => some qp
  | .ldfsF1R3 qp _ _ _ => some qp
  | .ldfsF1R3R2 qp _ _ _ _ => some qp
  | .ldfsF1R3Imm9 qp _ _ _ _ => some qp
  | .ldfdF1R3 qp _ _ _ => some qp
  | .ldfdF1R3R2 qp _ _ _ _ => some qp
  | .ldfdF1R3Imm9 qp _ _ _ _ => some qp
  | .ldfeSF1R3 qp _ _ _ => some qp
  | .ldfeSF1R3R2 qp _ _ _ _ => some qp
  | .ldfeSF1R3Imm9 qp _ _ _ _ => some qp
  | .ldf8SF1R3 qp _ _ _ => some qp
  | .ldf8SF1R3R2 qp _ _ _ _ => some qp
  | .ldf8SF1R3Imm9 qp _ _ _ _ => some qp
  | .ldfsSF1R3 qp _ _ _ => some qp
  | .ldfsSF1R3R2 qp _ _ _ _ => some qp
  | .ldfsSF1R3Imm9 qp _ _ _ _ => some qp
  | .ldfdSF1R3 qp _ _ _ => some qp
  | .ldfdSF1R3R2 qp _ _ _ _ => some qp
  | .ldfdSF1R3Imm9 qp _ _ _ _ => some qp
  | .ldfeAF1R3 qp _ _ _ => some qp
  | .ldfeAF1R3R2 qp _ _ _ _ => some qp
  | .ldfeAF1R3Imm9 qp _ _ _ _ => some qp
  | .ldf8AF1R3 qp _ _ _ => some qp
  | .ldf8AF1R3R2 qp _ _ _ _ => some qp
  | .ldf8AF1R3Imm9 qp _ _ _ _ => some qp
  | .ldfsAF1R3 qp _ _ _ => some qp
  | .ldfsAF1R3R2 qp _ _ _ _ => some qp
  | .ldfsAF1R3Imm9 qp _ _ _ _ => some qp
  | .ldfdAF1R3 qp _ _ _ => some qp
  | .ldfdAF1R3R2 qp _ _ _ _ => some qp
  | .ldfdAF1R3Imm9 qp _ _ _ _ => some qp
  | .ldfeSaF1R3 qp _ _ _ => some qp
  | .ldfeSaF1R3R2 qp _ _ _ _ => some qp
  | .ldfeSaF1R3Imm9 qp _ _ _ _ => some qp
  | .ldf8SaF1R3 qp _ _ _ => some qp
  | .ldf8SaF1R3R2 qp _ _ _ _ => some qp
  | .ldf8SaF1R3Imm9 qp _ _ _ _ => some qp
  | .ldfsSaF1R3 qp _ _ _ => some qp
  | .ldfsSaF1R3R2 qp _ _ _ _ => some qp
  | .ldfsSaF1R3Imm9 qp _ _ _ _ => some qp
  | .ldfdSaF1R3 qp _ _ _ => some qp
  | .ldfdSaF1R3R2 qp _ _ _ _ => some qp
  | .ldfdSaF1R3Imm9 qp _ _ _ _ => some qp
  | .ldfeCClrF1R3 qp _ _ _ => some qp
  | .ldfeCClrF1R3R2 qp _ _ _ _ => some qp
  | .ldfeCClrF1R3Imm9 qp _ _ _ _ => some qp
  | .ldf8CClrF1R3 qp _ _ _ => some qp
  | .ldf8CClrF1R3R2 qp _ _ _ _ => some qp
  | .ldf8CClrF1R3Imm9 qp _ _ _ _ => some qp
  | .ldfsCClrF1R3 qp _ _ _ => some qp
  | .ldfsCClrF1R3R2 qp _ _ _ _ => some qp
  | .ldfsCClrF1R3Imm9 qp _ _ _ _ => some qp
  | .ldfdCClrF1R3 qp _ _ _ => some qp
  | .ldfdCClrF1R3R2 qp _ _ _ _ => some qp
  | .ldfdCClrF1R3Imm9 qp _ _ _ _ => some qp
  | .ldfeCNcF1R3 qp _ _ _ => some qp
  | .ldfeCNcF1R3R2 qp _ _ _ _ => some qp
  | .ldfeCNcF1R3Imm9 qp _ _ _ _ => some qp
  | .ldf8CNcF1R3 qp _ _ _ => some qp
  | .ldf8CNcF1R3R2 qp _ _ _ _ => some qp
  | .ldf8CNcF1R3Imm9 qp _ _ _ _ => some qp
  | .ldfsCNcF1R3 qp _ _ _ => some qp
  | .ldfsCNcF1R3R2 qp _ _ _ _ => some qp
  | .ldfsCNcF1R3Imm9 qp _ _ _ _ => some qp
  | .ldfdCNcF1R3 qp _ _ _ => some qp
  | .ldfdCNcF1R3R2 qp _ _ _ _ => some qp
  | .ldfdCNcF1R3Imm9 qp _ _ _ _ => some qp
  | .ldfFillF1R3 qp _ _ _ => some qp
  | .ldfFillF1R3R2 qp _ _ _ _ => some qp
  | .ldfFillF1R3Imm9 qp _ _ _ _ => some qp
  | .stfeR3F2 qp _ _ _ => some qp
  | .stfeR3F2Imm9 qp _ _ _ _ => some qp
  | .stf8R3F2 qp _ _ _ => some qp
  | .stf8R3F2Imm9 qp _ _ _ _ => some qp
  | .stfsR3F2 qp _ _ _ => some qp
  | .stfsR3F2Imm9 qp _ _ _ _ => some qp
  | .stfdR3F2 qp _ _ _ => some qp
  | .stfdR3F2Imm9 qp _ _ _ _ => some qp
  | .stfSpillR3F2 qp _ _ _ => some qp
  | .stfSpillR3F2Imm9 qp _ _ _ _ => some qp
  | .ldfpsF1F2R3 qp _ _ _ _ => some qp
  | .ldfpsF1F2R38 qp _ _ _ _ => some qp
  | .ldfpsSF1F2R3 qp _ _ _ _ => some qp
  | .ldfpsSF1F2R38 qp _ _ _ _ => some qp
  | .ldfpsAF1F2R3 qp _ _ _ _ => some qp
  | .ldfpsAF1F2R38 qp _ _ _ _ => some qp
  | .ldfpsSaF1F2R3 qp _ _ _ _ => some qp
  | .ldfpsSaF1F2R38 qp _ _ _ _ => some qp
  | .ldfpsCClrF1F2R3 qp _ _ _ _ => some qp
  | .ldfpsCClrF1F2R38 qp _ _ _ _ => some qp
  | .ldfpsCNcF1F2R3 qp _ _ _ _ => some qp
  | .ldfpsCNcF1F2R38 qp _ _ _ _ => some qp
  | .ldfpdF1F2R3 qp _ _ _ _ => some qp
  | .ldfpdF1F2R316 qp _ _ _ _ => some qp
  | .ldfpdSF1F2R3 qp _ _ _ _ => some qp
  | .ldfpdSF1F2R316 qp _ _ _ _ => some qp
  | .ldfpdAF1F2R3 qp _ _ _ _ => some qp
  | .ldfpdAF1F2R316 qp _ _ _ _ => some qp
  | .ldfpdSaF1F2R3 qp _ _ _ _ => some qp
  | .ldfpdSaF1F2R316 qp _ _ _ _ => some qp
  | .ldfpdCClrF1F2R3 qp _ _ _ _ => some qp
  | .ldfpdCClrF1F2R316 qp _ _ _ _ => some qp
  | .ldfpdCNcF1F2R3 qp _ _ _ _ => some qp
  | .ldfpdCNcF1F2R316 qp _ _ _ _ => some qp
  | .ldfp8F1F2R3 qp _ _ _ _ => some qp
  | .ldfp8F1F2R316 qp _ _ _ _ => some qp
  | .ldfp8SF1F2R3 qp _ _ _ _ => some qp
  | .ldfp8SF1F2R316 qp _ _ _ _ => some qp
  | .ldfp8AF1F2R3 qp _ _ _ _ => some qp
  | .ldfp8AF1F2R316 qp _ _ _ _ => some qp
  | .ldfp8SaF1F2R3 qp _ _ _ _ => some qp
  | .ldfp8SaF1F2R316 qp _ _ _ _ => some qp
  | .ldfp8CClrF1F2R3 qp _ _ _ _ => some qp
  | .ldfp8CClrF1F2R316 qp _ _ _ _ => some qp
  | .ldfp8CNcF1F2R3 qp _ _ _ _ => some qp
  | .ldfp8CNcF1F2R316 qp _ _ _ _ => some qp
  | .lfetchR3 qp _ _ => some qp
  | .lfetchR3R2 qp _ _ _ => some qp
  | .lfetchR3Imm9 qp _ _ _ => some qp
  | .lfetchExclR3 qp _ _ => some qp
  | .lfetchExclR3R2 qp _ _ _ => some qp
  | .lfetchExclR3Imm9 qp _ _ _ => some qp
  | .lfetchFaultR3 qp _ _ => some qp
  | .lfetchFaultR3R2 qp _ _ _ => some qp
  | .lfetchFaultR3Imm9 qp _ _ _ => some qp
  | .lfetchFaultExclR3 qp _ _ => some qp
  | .lfetchFaultExclR3R2 qp _ _ _ => some qp
  | .lfetchFaultExclR3Imm9 qp _ _ _ => some qp
  | .cmpxchg1AcqR1R3R2ArCcv qp _ _ _ _ => some qp
  | .cmpxchg1RelR1R3R2ArCcv qp _ _ _ _ => some qp
  | .cmpxchg2AcqR1R3R2ArCcv qp _ _ _ _ => some qp
  | .cmpxchg2RelR1R3R2ArCcv qp _ _ _ _ => some qp
  | .cmpxchg4AcqR1R3R2ArCcv qp _ _ _ _ => some qp
  | .cmpxchg4RelR1R3R2ArCcv qp _ _ _ _ => some qp
  | .cmpxchg8AcqR1R3R2ArCcv qp _ _ _ _ => some qp
  | .cmpxchg8RelR1R3R2ArCcv qp _ _ _ _ => some qp
  | .xchg1R1R3R2 qp _ _ _ _ => some qp
  | .xchg2R1R3R2 qp _ _ _ _ => some qp
  | .xchg4R1R3R2 qp _ _ _ _ => some qp
  | .xchg8R1R3R2 qp _ _ _ _ => some qp
  | .fetchadd4AcqR1R3Inc3 qp _ _ _ _ => some qp
  | .fetchadd4RelR1R3Inc3 qp _ _ _ _ => some qp
  | .fetchadd8AcqR1R3Inc3 qp _ _ _ _ => some qp
  | .fetchadd8RelR1R3Inc3 qp _ _ _ _ => some qp
  | .setfSigF1R2 qp _ _ => some qp
  | .setfExpF1R2 qp _ _ => some qp
  | .setfSF1R2 qp _ _ => some qp
  | .setfDF1R2 qp _ _ => some qp
  | .getfSigR1F2 qp _ _ => some qp
  | .getfExpR1F2 qp _ _ => some qp
  | .getfSR1F2 qp _ _ => some qp
  | .getfDR1F2 qp _ _ => some qp
  | .chkSMR2Target25 qp _ _ => some qp
  | .chkSF2Target25 qp _ _ => some qp
  | .chkAClrR1Target25 qp _ _ => some qp
  | .chkAClrF1Target25 qp _ _ => some qp
  | .chkANcR1Target25 qp _ _ => some qp
  | .chkANcF1Target25 qp _ _ => some qp
  | .invala qp => some qp
  | .invalaER1 qp _ => some qp
  | .invalaEF1 qp _ => some qp
  | .flushrs qp => some qp
  | .loadrs qp => some qp
  | .fcR3 qp _ => some qp
  | .ptcER3 qp _ => some qp
  | .ptcLR3R2 qp _ _ => some qp
  | .ptcGR3R2 qp _ _ => some qp
  | .ptcGaR3R2 qp _ _ => some qp
  | .ptrDR3R2 qp _ _ => some qp
  | .ptrIR3R2 qp _ _ => some qp
  | .mf qp => some qp
  | .mfA qp => some qp
  | .fwb qp => some qp
  | .syncI qp => some qp
  | .srlzD qp => some qp
  | .srlzI qp => some qp
  | .movMAr3R2 qp _ _ => some qp
  | .movMAr3Imm8 qp _ _ => some qp
  | .movMR1Ar3 qp _ _ => some qp
  | .movCr3R2 qp _ _ => some qp
  | .movR1Cr3 qp _ _ => some qp
  | .movPsrLR2 qp _ => some qp
  | .movPsrUmR2 qp _ => some qp
  | .movR1Psr qp _ => some qp
  | .movR1PsrUm qp _ => some qp
  | .breakMImm21 qp _ => some qp
  | .nopMImm21 qp _ => some qp
  | .sumImm24 qp _ => some qp
  | .rumImm24 qp _ => some qp
  | .ssmImm24 qp _ => some qp
  | .rsmImm24 qp _ => some qp
  | .movPmcR3R2 qp _ _ => some qp
  | .movR1PmcR3 qp _ _ => some qp
  | .movPmdR3R2 qp _ _ => some qp
  | .movR1PmdR3 qp _ _ => some qp
  | .movRrR3R2 qp _ _ => some qp
  | .movR1RrR3 qp _ _ => some qp
  | .movPkrR3R2 qp _ _ => some qp
  | .movR1PkrR3 qp _ _ => some qp
  | .movIbrR3R2 qp _ _ => some qp
  | .movR1IbrR3 qp _ _ => some qp
  | .movDbrR3R2 qp _ _ => some qp
  | .movR1DbrR3 qp _ _ => some qp
  | .movR1CpuidR3 qp _ _ => some qp
  | .itcDR2 qp _ => some qp
  | .itcIR2 qp _ => some qp
  | .itrDDtrR3R2 qp _ _ => some qp
  | .itrIItrR3R2 qp _ _ => some qp
  | .probeRR1R3R2 qp _ _ _ => some qp
  | .probeRR1R3Imm2 qp _ _ _ => some qp
  | .probeWR1R3R2 qp _ _ _ => some qp
  | .probeWR1R3Imm2 qp _ _ _ => some qp
  | .probeRFaultR3Imm2 qp _ _ => some qp
  | .probeWFaultR3Imm2 qp _ _ => some qp
  | .probeRwFaultR3Imm2 qp _ _ => some qp
  | .tpaR1R3 qp _ _ => some qp
  | .takR1R3 qp _ _ => some qp
  | .thashR1R3 qp _ _ => some qp
  | .ttagR1R3 qp _ _ => some qp
  | .fmaSfF1F3F4F2 qp _ _ _ _ _ => some qp
  | .fmaSSfF1F3F4F2 qp _ _ _ _ _ => some qp
  | .fmaDSfF1F3F4F2 qp _ _ _ _ _ => some qp
  | .fpmaSfF1F3F4F2 qp _ _ _ _ _ => some qp
  | .fmsSfF1F3F4F2 qp _ _ _ _ _ => some qp
  | .fmsSSfF1F3F4F2 qp _ _ _ _ _ => some qp
  | .fmsDSfF1F3F4F2 qp _ _ _ _ _ => some qp
  | .fpmsSfF1F3F4F2 qp _ _ _ _ _ => some qp
  | .fnmaSfF1F3F4F2 qp _ _ _ _ _ => some qp
  | .fnmaSSfF1F3F4F2 qp _ _ _ _ _ => some qp
  | .fnmaDSfF1F3F4F2 qp _ _ _ _ _ => some qp
  | .fpnmaSfF1F3F4F2 qp _ _ _ _ _ => some qp
  | .xmaLF1F3F4F2 qp _ _ _ _ => some qp
  | .xmaHuF1F3F4F2 qp _ _ _ _ => some qp
  | .xmaHF1F3F4F2 qp _ _ _ _ => some qp
  | .fselectF1F3F4F2 qp _ _ _ _ => some qp
  | .fcmpEqSfP1P2F2F3 qp _ _ _ _ _ => some qp
  | .fcmpLtSfP1P2F2F3 qp _ _ _ _ _ => some qp
  | .fcmpLeSfP1P2F2F3 qp _ _ _ _ _ => some qp
  | .fcmpUnordSfP1P2F2F3 qp _ _ _ _ _ => some qp
  | .fclassMP1P2F2Fclass9 qp _ _ _ _ => some qp
  | .fminSfF1F2F3 qp _ _ _ _ => some qp
  | .fmaxSfF1F2F3 qp _ _ _ _ => some qp
  | .faminSfF1F2F3 qp _ _ _ _ => some qp
  | .famaxSfF1F2F3 qp _ _ _ _ => some qp
  | .fpminSfF1F2F3 qp _ _ _ _ => some qp
  | .fpmaxSfF1F2F3 qp _ _ _ _ => some qp
  | .fpaminSfF1F2F3 qp _ _ _ _ => some qp
  | .fpamaxSfF1F2F3 qp _ _ _ _ => some qp
  | .fpcmpFrelSfF1F2F3 qp _ _ _ _ _ => some qp
  | .fmergeSF1F2F3 qp _ _ _ => some qp
  | .fmergeNsF1F2F3 qp _ _ _ => some qp
  | .fmergeSeF1F2F3 qp _ _ _ => some qp
  | .fandF1F2F3 qp _ _ _ => some qp
  | .fandcmF1F2F3 qp _ _ _ => some qp
  | .forF1F2F3 qp _ _ _ => some qp
  | .fxorF1F2F3 qp _ _ _ => some qp
  | .fmixLF1F2F3 qp _ _ _ => some qp
  | .fmixRF1F2F3 qp _ _ _ => some qp
  | .fmixLrF1F2F3 qp _ _ _ => some qp
  | .fsxtLF1F2F3 qp _ _ _ => some qp
  | .fsxtRF1F2F3 qp _ _ _ => some qp
  | .fpackF1F2F3 qp _ _ _ => some qp
  | .fswapF1F2F3 qp _ _ _ => some qp
  | .fswapNlF1F2F3 qp _ _ _ => some qp
  | .fswapNrF1F2F3 qp _ _ _ => some qp
  | .fpmergeSF1F2F3 qp _ _ _ => some qp
  | .fpmergeNsF1F2F3 qp _ _ _ => some qp
  | .fpmergeSeF1F2F3 qp _ _ _ => some qp
  | .fcvtFxSfF1F2 qp _ _ _ => some qp
  | .fcvtFxuSfF1F2 qp _ _ _ => some qp
  | .fcvtFxTruncSfF1F2 qp _ _ _ => some qp
  | .fcvtFxuTruncSfF1F2 qp _ _ _ => some qp
  | .fpcvtFxSfF1F2 qp _ _ _ => some qp
  | .fpcvtFxuSfF1F2 qp _ _ _ => some qp
  | .fpcvtFxTruncSfF1F2 qp _ _ _ => some qp
  | .fpcvtFxuTruncSfF1F2 qp _ _ _ => some qp
  | .fcvtXfF1F2 qp _ _ => some qp
  | .fsetcSfAmask7Omask7 qp _ _ _ => some qp
  | .fclrfSf qp _ => some qp
  | .fchkfSfTarget25 qp _ _ => some qp
  | .breakFImm21 qp _ => some qp
  | .nopFImm21 qp _ => some qp
  | _ => none

/-- The instructions in slots 1 and 2 of an MLX bundle that are no branches (R330 step 6). -/
def isLong : Instr → Bool
  | .movlR1Imm64 _ _ _ => true
  | .breakXImm62 _ _ => true
  | .nopXImm62 _ _ => true
  | _ => false

/-- The floating-point registers an instruction reads or writes, with its predicate (R514); a compare naming one target twice
has its own fault first. -/
def fpUse : Instr → Option (PredIdx × List FrIdx)
  | .ldfeF1R3 qp f1 _ _ => some (qp, [f1])
  | .ldfeF1R3R2 qp f1 _ _ _ => some (qp, [f1])
  | .ldfeF1R3Imm9 qp f1 _ _ _ => some (qp, [f1])
  | .ldf8F1R3 qp f1 _ _ => some (qp, [f1])
  | .ldf8F1R3R2 qp f1 _ _ _ => some (qp, [f1])
  | .ldf8F1R3Imm9 qp f1 _ _ _ => some (qp, [f1])
  | .ldfsF1R3 qp f1 _ _ => some (qp, [f1])
  | .ldfsF1R3R2 qp f1 _ _ _ => some (qp, [f1])
  | .ldfsF1R3Imm9 qp f1 _ _ _ => some (qp, [f1])
  | .ldfdF1R3 qp f1 _ _ => some (qp, [f1])
  | .ldfdF1R3R2 qp f1 _ _ _ => some (qp, [f1])
  | .ldfdF1R3Imm9 qp f1 _ _ _ => some (qp, [f1])
  | .ldfeSF1R3 qp f1 _ _ => some (qp, [f1])
  | .ldfeSF1R3R2 qp f1 _ _ _ => some (qp, [f1])
  | .ldfeSF1R3Imm9 qp f1 _ _ _ => some (qp, [f1])
  | .ldf8SF1R3 qp f1 _ _ => some (qp, [f1])
  | .ldf8SF1R3R2 qp f1 _ _ _ => some (qp, [f1])
  | .ldf8SF1R3Imm9 qp f1 _ _ _ => some (qp, [f1])
  | .ldfsSF1R3 qp f1 _ _ => some (qp, [f1])
  | .ldfsSF1R3R2 qp f1 _ _ _ => some (qp, [f1])
  | .ldfsSF1R3Imm9 qp f1 _ _ _ => some (qp, [f1])
  | .ldfdSF1R3 qp f1 _ _ => some (qp, [f1])
  | .ldfdSF1R3R2 qp f1 _ _ _ => some (qp, [f1])
  | .ldfdSF1R3Imm9 qp f1 _ _ _ => some (qp, [f1])
  | .ldfeAF1R3 qp f1 _ _ => some (qp, [f1])
  | .ldfeAF1R3R2 qp f1 _ _ _ => some (qp, [f1])
  | .ldfeAF1R3Imm9 qp f1 _ _ _ => some (qp, [f1])
  | .ldf8AF1R3 qp f1 _ _ => some (qp, [f1])
  | .ldf8AF1R3R2 qp f1 _ _ _ => some (qp, [f1])
  | .ldf8AF1R3Imm9 qp f1 _ _ _ => some (qp, [f1])
  | .ldfsAF1R3 qp f1 _ _ => some (qp, [f1])
  | .ldfsAF1R3R2 qp f1 _ _ _ => some (qp, [f1])
  | .ldfsAF1R3Imm9 qp f1 _ _ _ => some (qp, [f1])
  | .ldfdAF1R3 qp f1 _ _ => some (qp, [f1])
  | .ldfdAF1R3R2 qp f1 _ _ _ => some (qp, [f1])
  | .ldfdAF1R3Imm9 qp f1 _ _ _ => some (qp, [f1])
  | .ldfeSaF1R3 qp f1 _ _ => some (qp, [f1])
  | .ldfeSaF1R3R2 qp f1 _ _ _ => some (qp, [f1])
  | .ldfeSaF1R3Imm9 qp f1 _ _ _ => some (qp, [f1])
  | .ldf8SaF1R3 qp f1 _ _ => some (qp, [f1])
  | .ldf8SaF1R3R2 qp f1 _ _ _ => some (qp, [f1])
  | .ldf8SaF1R3Imm9 qp f1 _ _ _ => some (qp, [f1])
  | .ldfsSaF1R3 qp f1 _ _ => some (qp, [f1])
  | .ldfsSaF1R3R2 qp f1 _ _ _ => some (qp, [f1])
  | .ldfsSaF1R3Imm9 qp f1 _ _ _ => some (qp, [f1])
  | .ldfdSaF1R3 qp f1 _ _ => some (qp, [f1])
  | .ldfdSaF1R3R2 qp f1 _ _ _ => some (qp, [f1])
  | .ldfdSaF1R3Imm9 qp f1 _ _ _ => some (qp, [f1])
  | .ldfeCClrF1R3 qp f1 _ _ => some (qp, [f1])
  | .ldfeCClrF1R3R2 qp f1 _ _ _ => some (qp, [f1])
  | .ldfeCClrF1R3Imm9 qp f1 _ _ _ => some (qp, [f1])
  | .ldf8CClrF1R3 qp f1 _ _ => some (qp, [f1])
  | .ldf8CClrF1R3R2 qp f1 _ _ _ => some (qp, [f1])
  | .ldf8CClrF1R3Imm9 qp f1 _ _ _ => some (qp, [f1])
  | .ldfsCClrF1R3 qp f1 _ _ => some (qp, [f1])
  | .ldfsCClrF1R3R2 qp f1 _ _ _ => some (qp, [f1])
  | .ldfsCClrF1R3Imm9 qp f1 _ _ _ => some (qp, [f1])
  | .ldfdCClrF1R3 qp f1 _ _ => some (qp, [f1])
  | .ldfdCClrF1R3R2 qp f1 _ _ _ => some (qp, [f1])
  | .ldfdCClrF1R3Imm9 qp f1 _ _ _ => some (qp, [f1])
  | .ldfeCNcF1R3 qp f1 _ _ => some (qp, [f1])
  | .ldfeCNcF1R3R2 qp f1 _ _ _ => some (qp, [f1])
  | .ldfeCNcF1R3Imm9 qp f1 _ _ _ => some (qp, [f1])
  | .ldf8CNcF1R3 qp f1 _ _ => some (qp, [f1])
  | .ldf8CNcF1R3R2 qp f1 _ _ _ => some (qp, [f1])
  | .ldf8CNcF1R3Imm9 qp f1 _ _ _ => some (qp, [f1])
  | .ldfsCNcF1R3 qp f1 _ _ => some (qp, [f1])
  | .ldfsCNcF1R3R2 qp f1 _ _ _ => some (qp, [f1])
  | .ldfsCNcF1R3Imm9 qp f1 _ _ _ => some (qp, [f1])
  | .ldfdCNcF1R3 qp f1 _ _ => some (qp, [f1])
  | .ldfdCNcF1R3R2 qp f1 _ _ _ => some (qp, [f1])
  | .ldfdCNcF1R3Imm9 qp f1 _ _ _ => some (qp, [f1])
  | .ldfFillF1R3 qp f1 _ _ => some (qp, [f1])
  | .ldfFillF1R3R2 qp f1 _ _ _ => some (qp, [f1])
  | .ldfFillF1R3Imm9 qp f1 _ _ _ => some (qp, [f1])
  | .stfeR3F2 qp _ f2 _ => some (qp, [f2])
  | .stfeR3F2Imm9 qp _ f2 _ _ => some (qp, [f2])
  | .stf8R3F2 qp _ f2 _ => some (qp, [f2])
  | .stf8R3F2Imm9 qp _ f2 _ _ => some (qp, [f2])
  | .stfsR3F2 qp _ f2 _ => some (qp, [f2])
  | .stfsR3F2Imm9 qp _ f2 _ _ => some (qp, [f2])
  | .stfdR3F2 qp _ f2 _ => some (qp, [f2])
  | .stfdR3F2Imm9 qp _ f2 _ _ => some (qp, [f2])
  | .stfSpillR3F2 qp _ f2 _ => some (qp, [f2])
  | .stfSpillR3F2Imm9 qp _ f2 _ _ => some (qp, [f2])
  | .ldfpsF1F2R3 qp f1 f2 _ _ => some (qp, [f1, f2])
  | .ldfpsF1F2R38 qp f1 f2 _ _ => some (qp, [f1, f2])
  | .ldfpsSF1F2R3 qp f1 f2 _ _ => some (qp, [f1, f2])
  | .ldfpsSF1F2R38 qp f1 f2 _ _ => some (qp, [f1, f2])
  | .ldfpsAF1F2R3 qp f1 f2 _ _ => some (qp, [f1, f2])
  | .ldfpsAF1F2R38 qp f1 f2 _ _ => some (qp, [f1, f2])
  | .ldfpsSaF1F2R3 qp f1 f2 _ _ => some (qp, [f1, f2])
  | .ldfpsSaF1F2R38 qp f1 f2 _ _ => some (qp, [f1, f2])
  | .ldfpsCClrF1F2R3 qp f1 f2 _ _ => some (qp, [f1, f2])
  | .ldfpsCClrF1F2R38 qp f1 f2 _ _ => some (qp, [f1, f2])
  | .ldfpsCNcF1F2R3 qp f1 f2 _ _ => some (qp, [f1, f2])
  | .ldfpsCNcF1F2R38 qp f1 f2 _ _ => some (qp, [f1, f2])
  | .ldfpdF1F2R3 qp f1 f2 _ _ => some (qp, [f1, f2])
  | .ldfpdF1F2R316 qp f1 f2 _ _ => some (qp, [f1, f2])
  | .ldfpdSF1F2R3 qp f1 f2 _ _ => some (qp, [f1, f2])
  | .ldfpdSF1F2R316 qp f1 f2 _ _ => some (qp, [f1, f2])
  | .ldfpdAF1F2R3 qp f1 f2 _ _ => some (qp, [f1, f2])
  | .ldfpdAF1F2R316 qp f1 f2 _ _ => some (qp, [f1, f2])
  | .ldfpdSaF1F2R3 qp f1 f2 _ _ => some (qp, [f1, f2])
  | .ldfpdSaF1F2R316 qp f1 f2 _ _ => some (qp, [f1, f2])
  | .ldfpdCClrF1F2R3 qp f1 f2 _ _ => some (qp, [f1, f2])
  | .ldfpdCClrF1F2R316 qp f1 f2 _ _ => some (qp, [f1, f2])
  | .ldfpdCNcF1F2R3 qp f1 f2 _ _ => some (qp, [f1, f2])
  | .ldfpdCNcF1F2R316 qp f1 f2 _ _ => some (qp, [f1, f2])
  | .ldfp8F1F2R3 qp f1 f2 _ _ => some (qp, [f1, f2])
  | .ldfp8F1F2R316 qp f1 f2 _ _ => some (qp, [f1, f2])
  | .ldfp8SF1F2R3 qp f1 f2 _ _ => some (qp, [f1, f2])
  | .ldfp8SF1F2R316 qp f1 f2 _ _ => some (qp, [f1, f2])
  | .ldfp8AF1F2R3 qp f1 f2 _ _ => some (qp, [f1, f2])
  | .ldfp8AF1F2R316 qp f1 f2 _ _ => some (qp, [f1, f2])
  | .ldfp8SaF1F2R3 qp f1 f2 _ _ => some (qp, [f1, f2])
  | .ldfp8SaF1F2R316 qp f1 f2 _ _ => some (qp, [f1, f2])
  | .ldfp8CClrF1F2R3 qp f1 f2 _ _ => some (qp, [f1, f2])
  | .ldfp8CClrF1F2R316 qp f1 f2 _ _ => some (qp, [f1, f2])
  | .ldfp8CNcF1F2R3 qp f1 f2 _ _ => some (qp, [f1, f2])
  | .ldfp8CNcF1F2R316 qp f1 f2 _ _ => some (qp, [f1, f2])
  | .setfSigF1R2 qp f1 _ => some (qp, [f1])
  | .setfExpF1R2 qp f1 _ => some (qp, [f1])
  | .setfSF1R2 qp f1 _ => some (qp, [f1])
  | .setfDF1R2 qp f1 _ => some (qp, [f1])
  | .getfSigR1F2 qp _ f2 => some (qp, [f2])
  | .getfExpR1F2 qp _ f2 => some (qp, [f2])
  | .getfSR1F2 qp _ f2 => some (qp, [f2])
  | .getfDR1F2 qp _ f2 => some (qp, [f2])
  | .chkSF2Target25 qp f2 _ => some (qp, [f2])
  | .chkAClrF1Target25 qp f1 _ => some (qp, [f1])
  | .chkANcF1Target25 qp f1 _ => some (qp, [f1])
  | .fmaSfF1F3F4F2 qp _ f1 f3 f4 f2 => some (qp, [f1, f3, f4, f2])
  | .fmaSSfF1F3F4F2 qp _ f1 f3 f4 f2 => some (qp, [f1, f3, f4, f2])
  | .fmaDSfF1F3F4F2 qp _ f1 f3 f4 f2 => some (qp, [f1, f3, f4, f2])
  | .fpmaSfF1F3F4F2 qp _ f1 f3 f4 f2 => some (qp, [f1, f3, f4, f2])
  | .fmsSfF1F3F4F2 qp _ f1 f3 f4 f2 => some (qp, [f1, f3, f4, f2])
  | .fmsSSfF1F3F4F2 qp _ f1 f3 f4 f2 => some (qp, [f1, f3, f4, f2])
  | .fmsDSfF1F3F4F2 qp _ f1 f3 f4 f2 => some (qp, [f1, f3, f4, f2])
  | .fpmsSfF1F3F4F2 qp _ f1 f3 f4 f2 => some (qp, [f1, f3, f4, f2])
  | .fnmaSfF1F3F4F2 qp _ f1 f3 f4 f2 => some (qp, [f1, f3, f4, f2])
  | .fnmaSSfF1F3F4F2 qp _ f1 f3 f4 f2 => some (qp, [f1, f3, f4, f2])
  | .fnmaDSfF1F3F4F2 qp _ f1 f3 f4 f2 => some (qp, [f1, f3, f4, f2])
  | .fpnmaSfF1F3F4F2 qp _ f1 f3 f4 f2 => some (qp, [f1, f3, f4, f2])
  | .xmaLF1F3F4F2 qp f1 f3 f4 f2 => some (qp, [f1, f3, f4, f2])
  | .xmaHuF1F3F4F2 qp f1 f3 f4 f2 => some (qp, [f1, f3, f4, f2])
  | .xmaHF1F3F4F2 qp f1 f3 f4 f2 => some (qp, [f1, f3, f4, f2])
  | .fselectF1F3F4F2 qp f1 f3 f4 f2 => some (qp, [f1, f3, f4, f2])
  | .fcmpEqSfP1P2F2F3 qp p1 p2 f2 f3 _ => if p1 = p2 then none else some (qp, [f2, f3])
  | .fcmpEqUncSfP1P2F2F3 qp p1 p2 f2 f3 _ => if p1 = p2 then none else some (qp, [f2, f3])
  | .fcmpLtSfP1P2F2F3 qp p1 p2 f2 f3 _ => if p1 = p2 then none else some (qp, [f2, f3])
  | .fcmpLtUncSfP1P2F2F3 qp p1 p2 f2 f3 _ => if p1 = p2 then none else some (qp, [f2, f3])
  | .fcmpLeSfP1P2F2F3 qp p1 p2 f2 f3 _ => if p1 = p2 then none else some (qp, [f2, f3])
  | .fcmpLeUncSfP1P2F2F3 qp p1 p2 f2 f3 _ => if p1 = p2 then none else some (qp, [f2, f3])
  | .fcmpUnordSfP1P2F2F3 qp p1 p2 f2 f3 _ => if p1 = p2 then none else some (qp, [f2, f3])
  | .fcmpUnordUncSfP1P2F2F3 qp p1 p2 f2 f3 _ => if p1 = p2 then none else some (qp, [f2, f3])
  | .fclassMP1P2F2Fclass9 qp p1 p2 f2 _ => if p1 = p2 then none else some (qp, [f2])
  | .fclassMUncP1P2F2Fclass9 qp p1 p2 f2 _ => if p1 = p2 then none else some (qp, [f2])
  | .frcpaSfF1P2F2F3 qp f1 _ f2 f3 _ => some (qp, [f1, f2, f3])
  | .fprcpaSfF1P2F2F3 qp f1 _ f2 f3 _ => some (qp, [f1, f2, f3])
  | .frsqrtaSfF1P2F3 qp f1 _ f3 _ => some (qp, [f1, f3])
  | .fprsqrtaSfF1P2F3 qp f1 _ f3 _ => some (qp, [f1, f3])
  | .fminSfF1F2F3 qp f1 f2 f3 _ => some (qp, [f1, f2, f3])
  | .fmaxSfF1F2F3 qp f1 f2 f3 _ => some (qp, [f1, f2, f3])
  | .faminSfF1F2F3 qp f1 f2 f3 _ => some (qp, [f1, f2, f3])
  | .famaxSfF1F2F3 qp f1 f2 f3 _ => some (qp, [f1, f2, f3])
  | .fpminSfF1F2F3 qp f1 f2 f3 _ => some (qp, [f1, f2, f3])
  | .fpmaxSfF1F2F3 qp f1 f2 f3 _ => some (qp, [f1, f2, f3])
  | .fpaminSfF1F2F3 qp f1 f2 f3 _ => some (qp, [f1, f2, f3])
  | .fpamaxSfF1F2F3 qp f1 f2 f3 _ => some (qp, [f1, f2, f3])
  | .fpcmpFrelSfF1F2F3 qp f1 f2 f3 _ _ => some (qp, [f1, f2, f3])
  | .fmergeSF1F2F3 qp f1 f2 f3 => some (qp, [f1, f2, f3])
  | .fmergeNsF1F2F3 qp f1 f2 f3 => some (qp, [f1, f2, f3])
  | .fmergeSeF1F2F3 qp f1 f2 f3 => some (qp, [f1, f2, f3])
  | .fandF1F2F3 qp f1 f2 f3 => some (qp, [f1, f2, f3])
  | .fandcmF1F2F3 qp f1 f2 f3 => some (qp, [f1, f2, f3])
  | .forF1F2F3 qp f1 f2 f3 => some (qp, [f1, f2, f3])
  | .fxorF1F2F3 qp f1 f2 f3 => some (qp, [f1, f2, f3])
  | .fmixLF1F2F3 qp f1 f2 f3 => some (qp, [f1, f2, f3])
  | .fmixRF1F2F3 qp f1 f2 f3 => some (qp, [f1, f2, f3])
  | .fmixLrF1F2F3 qp f1 f2 f3 => some (qp, [f1, f2, f3])
  | .fsxtLF1F2F3 qp f1 f2 f3 => some (qp, [f1, f2, f3])
  | .fsxtRF1F2F3 qp f1 f2 f3 => some (qp, [f1, f2, f3])
  | .fpackF1F2F3 qp f1 f2 f3 => some (qp, [f1, f2, f3])
  | .fswapF1F2F3 qp f1 f2 f3 => some (qp, [f1, f2, f3])
  | .fswapNlF1F2F3 qp f1 f2 f3 => some (qp, [f1, f2, f3])
  | .fswapNrF1F2F3 qp f1 f2 f3 => some (qp, [f1, f2, f3])
  | .fpmergeSF1F2F3 qp f1 f2 f3 => some (qp, [f1, f2, f3])
  | .fpmergeNsF1F2F3 qp f1 f2 f3 => some (qp, [f1, f2, f3])
  | .fpmergeSeF1F2F3 qp f1 f2 f3 => some (qp, [f1, f2, f3])
  | .fcvtFxSfF1F2 qp f1 f2 _ => some (qp, [f1, f2])
  | .fcvtFxuSfF1F2 qp f1 f2 _ => some (qp, [f1, f2])
  | .fcvtFxTruncSfF1F2 qp f1 f2 _ => some (qp, [f1, f2])
  | .fcvtFxuTruncSfF1F2 qp f1 f2 _ => some (qp, [f1, f2])
  | .fpcvtFxSfF1F2 qp f1 f2 _ => some (qp, [f1, f2])
  | .fpcvtFxuSfF1F2 qp f1 f2 _ => some (qp, [f1, f2])
  | .fpcvtFxTruncSfF1F2 qp f1 f2 _ => some (qp, [f1, f2])
  | .fpcvtFxuTruncSfF1F2 qp f1 f2 _ => some (qp, [f1, f2])
  | .fcvtXfF1F2 qp f1 f2 => some (qp, [f1, f2])
  | _ => none

/-- The privileged instructions (R591), with their predicate and what must hold for no check to come before that of the
privilege (R490). -/
def privOf : Instr → Option (PredIdx × (State → Prop))
  | .ptcER3 qp r3 => some (qp, fun s => s.grVisible r3 = true)
  | .ptcLR3R2 qp r3 r2 => some (qp, fun s => s.grVisible r3 = true ∧ s.grVisible r2 = true)
  | .ptcGR3R2 qp r3 r2 => some (qp, fun s => s.grVisible r3 = true ∧ s.grVisible r2 = true)
  | .ptcGaR3R2 qp r3 r2 => some (qp, fun s => s.grVisible r3 = true ∧ s.grVisible r2 = true)
  | .ptrDR3R2 qp r3 r2 => some (qp, fun s => s.grVisible r3 = true ∧ s.grVisible r2 = true)
  | .ptrIR3R2 qp r3 r2 => some (qp, fun s => s.grVisible r3 = true ∧ s.grVisible r2 = true)
  | .movCr3R2 qp cr3 r2 => some (qp, fun s => s.grVisible r2 = true ∧ ∃ r, s.crOk cr3 true = .ok r)
  | .movR1Cr3 qp r1 cr3 => some (qp, fun s => s.grTargetOk r1 = true ∧ ∃ r, s.crOk cr3 false = .ok r)
  | .movPsrLR2 qp r2 => some (qp, fun s => s.grVisible r2 = true)
  | .movR1Psr qp r1 => some (qp, fun s => s.grTargetOk r1 = true)
  | .ssmImm24 qp _ => some (qp, fun _ => True)
  | .rsmImm24 qp _ => some (qp, fun _ => True)
  | .movPmcR3R2 qp r3 r2 => some (qp, fun s => s.grVisible r3 = true ∧ s.grVisible r2 = true)
  | .movR1PmcR3 qp r1 r3 => some (qp, fun s => s.grTargetOk r1 = true ∧ s.grVisible r3 = true)
  | .movPmdR3R2 qp r3 r2 => some (qp, fun s => s.grVisible r3 = true ∧ s.grVisible r2 = true)
  | .movRrR3R2 qp r3 r2 => some (qp, fun s => s.grVisible r3 = true ∧ s.grVisible r2 = true)
  | .movR1RrR3 qp r1 r3 => some (qp, fun s => s.grTargetOk r1 = true ∧ s.grVisible r3 = true)
  | .movPkrR3R2 qp r3 r2 => some (qp, fun s => s.grVisible r3 = true ∧ s.grVisible r2 = true)
  | .movR1PkrR3 qp r1 r3 => some (qp, fun s => s.grTargetOk r1 = true ∧ s.grVisible r3 = true)
  | .movIbrR3R2 qp r3 r2 => some (qp, fun s => s.grVisible r3 = true ∧ s.grVisible r2 = true)
  | .movR1IbrR3 qp r1 r3 => some (qp, fun s => s.grTargetOk r1 = true ∧ s.grVisible r3 = true)
  | .movDbrR3R2 qp r3 r2 => some (qp, fun s => s.grVisible r3 = true ∧ s.grVisible r2 = true)
  | .movR1DbrR3 qp r1 r3 => some (qp, fun s => s.grTargetOk r1 = true ∧ s.grVisible r3 = true)
  | .itcDR2 qp r2 => some (qp, fun s => s.psrIc = false ∧ s.grVisible r2 = true)
  | .itcIR2 qp r2 => some (qp, fun s => s.psrIc = false ∧ s.grVisible r2 = true)
  | .itrDDtrR3R2 qp r3 r2 => some (qp, fun s => s.psrIc = false ∧ s.grVisible r3 = true ∧ s.grVisible r2 = true)
  | .itrIItrR3R2 qp r3 r2 => some (qp, fun s => s.psrIc = false ∧ s.grVisible r3 = true ∧ s.grVisible r2 = true)
  | .tpaR1R3 qp r1 r3 => some (qp, fun s => s.grTargetOk r1 = true ∧ s.grVisible r3 = true)
  | .takR1R3 qp r1 r3 => some (qp, fun s => s.grTargetOk r1 = true ∧ s.grVisible r3 = true)
  | .rfi => some (0, fun _ => True)
  | .bsw0 => some (0, fun _ => True)
  | .bsw1 => some (0, fun _ => True)
  | _ => none

end Sys2Proof.Forms
end

