-- ==== Sys2Proof/Forms/Move.lean ====
section
/-! DEFINITION. Forms/Move.lean: the moves to general registers from every other kind of register, the queries of the
translations, the moves to application and control registers, with what the spec says they leave, and the faults of the reads
(`spec/41_i_type.md` R357, R360, R363, R365, `spec/42_m_type_memory.md` R406, `spec/43_m_type_system.md` R460 to R488). -/

namespace Sys2Proof.Forms

open Sys2Proof.Machine

/-- The instruction completes; `u` is the state it leaves before control moves on. -/
def Yields (i : Instr) (s u : State) : Prop := exec i s = .next (retire s { s := u, long := isLong i })

/-- The instruction completes with a taken branch to `t`. -/
def YieldsTo (i : Instr) (s u : State) (t : Word) : Prop := exec i s = .next (retire s { s := u, target := some t })

/-! ### Moves to general registers -/

/-- An instruction that copies something into GR[r1]: `ready` says when it may, `val` and `nat` what the register gets. -/
structure MoveForm where
  qp    : PredIdx
  r1    : GrIdx
  ready : State → Prop := fun _ => True
  val   : State → Word
  nat   : State → Bool := fun _ => false

/-- The instruction completes with GR[r1] as the spec says and changes nothing else. -/
def MoveForm.Correct (i : Instr) (f : MoveForm) : Prop :=
  ∀ s : State, s.pred f.qp = true → s.grTargetOk f.r1 = true → f.ready s →
    ∃ u, Yields i s u ∧ s.WroteGr u f.r1 { val := f.val s, nat := f.nat s }

/-- A general register may be read for its value: inside the frame, NaT clear. -/
def usable (s : State) (r : GrIdx) : Prop := s.grVisible r = true ∧ (s.gr r).nat = false

/-- The stored value of a control register; `none` for those that are computed when read (R36 to R42). -/
def crField (c : CtrlRegs) : CrReg → Option Word
  | .dcr => some c.dcr
  | .itm => some c.itm
  | .iva => some c.iva
  | .pta => some c.pta
  | .ipsr => some c.ipsr
  | .isr => some c.isr
  | .iip => some c.iip
  | .ifa => some c.ifa
  | .itir => some c.itir
  | .iipa => some c.iipa
  | .ifs => some c.ifs
  | .iim => some c.iim
  | .iha => some c.iha
  | .lid => some c.lid
  | .tpr => some c.tpr
  | .itv => some c.itv
  | .pmv => some c.pmv
  | .cmcv => some c.cmcv
  | .lrr0 => some c.lrr0
  | .lrr1 => some c.lrr1
  | .ivr | .eoi | .irr _ => none

/-- What a read of a control register other than IVR gives: IRR0 to IRR3 show the pending vectors, EOI reads 0 (R42, R464). -/
def crValue (s : State) (r : CrReg) : Word :=
  match r with
  | .irr i => s.pendingVectors.extractLsb' (64 * i.val) 64
  | r => (crField s.cr r).getD 0

/-- The moves of formats I22, I25, I28, M19, M31, M33, M36 and X2. Of PSR the user mask is read as it was before the group or at a data
serialization in it, the rest as written (R467, R911 (a); log 45). -/
def moveForm : Instr → Option MoveForm
  | .movR1B2 qp r1 b2 => some { qp, r1, val := fun s => s.br b2 }
  | .movR1Ip qp r1 => some { qp, r1, val := fun s => BitVec.ofNat 64 (s.ip.toNat / 16 * 16) }
  | .movR1Pr qp r1 => some { qp, r1, val := fun s => s.old.pr ||| 1 }
  | .movlR1Imm64 qp r1 imm64 => some { qp, r1, val := fun _ => imm64 }
  | .movIR1Ar3 qp r1 ar3 =>
    some { qp, r1, ready := fun _ => 48 ≤ ar3.toNat, val := fun s => s.old.ar s.itc (arReg ar3) }
  | .movMR1Ar3 qp r1 ar3 =>
    some { qp, r1, val := fun s => s.old.ar s.itc (arReg ar3)
           ready := fun s => ar3.toNat < 64 ∧ arReg ar3 ≠ .reserved ∧
             (ar3 = 18 ∨ ar3 = 19 → s.old.rsc.extractLsb' 0 2 = 0) ∧ (ar3 = 44 → s.psrSi = true → s.cpl = 0) }
  | .movR1Cr3 qp r1 cr3 =>
    some { qp, r1, val := fun s => crValue s ((crReg cr3).getD .eoi)
           ready := fun s => s.cpl = 0 ∧ ∃ r, crReg cr3 = some r ∧ r ≠ .ivr ∧ (r.interruption = true → s.psrIc = false) }
  | .movR1Psr qp r1 =>
    some { qp, r1, ready := fun s => s.cpl = 0
           val := fun s => (s.psr &&& 0x00000018FFFFFFC0) ||| s.umGroup.setWidth 64 }
  | .movR1PsrUm qp r1 =>
    some { qp, r1, val := fun s => s.umGroup.setWidth 64 &&& (if s.psrSp then 0x3B else 0x3F) }
  | .getfSigR1F2 qp r1 f2 =>
    some { qp, r1, ready := fun s => s.frDisabled f2 = 0, val := fun s => (s.fr f2).sig,
           nat := fun s => s.fr f2 = FReg.natVal }
  | .getfExpR1F2 qp r1 f2 =>
    some { qp, r1, ready := fun s => s.frDisabled f2 = 0, nat := fun s => s.fr f2 = FReg.natVal,
           val := fun s => BitVec.ofNat 64 ((s.fr f2).exp.toNat + if (s.fr f2).sign then 2 ^ 17 else 0) }
  | .getfSR1F2 qp r1 f2 =>
    some { qp, r1, ready := fun s => s.frDisabled f2 = 0, nat := fun s => s.fr f2 = FReg.natVal,
           val := fun s => BitVec.ofNat 64 (FpFormat.single.toMem (s.fr f2)) }
  | .getfDR1F2 qp r1 f2 =>
    some { qp, r1, ready := fun s => s.frDisabled f2 = 0, nat := fun s => s.fr f2 = FReg.natVal,
           val := fun s => BitVec.ofNat 64 (FpFormat.double.toMem (s.fr f2)) }
  | _ => none

/-- The register index in an address register: bits 7:0 (R484). -/
def fileIndex (s : State) (r3 : GrIdx) : Nat := (s.gr r3).val.toNat % 256

/-- The register index of the region file: bits 63:61 (R484). -/
def regionIndex (s : State) (r3 : GrIdx) : Nat := (s.gr r3).val.toNat / 2 ^ 61

/-- What a read of PMC[n] gives: with the clocks of the monitors off (PMC4 bit 23) all but PMC4 read any value; PMC10 has its low 16 bits in
bits 47:32, 31:16 and 15:0 (R625, R666). -/
def pmcValue (s : State) (n : Nat) : Word :=
  let v := s.pmc.toList.getD n 0
  if s.pmc[4].getLsbD 23 = false ∧ n ≠ 4 then s.free (6100 + n)
  else if n = 10 then BitVec.ofNat 64 (v.toNat % 2 ^ 16 * (2 ^ 32 + 2 ^ 16 + 1)) else v

/-- The PMC with the `pm` bit of PMD[n], and that bit: PMC10 for PMD0 and PMD1, PMC11 for PMD2, PMD3 and PMD17, the counter's own, else PMC12
for the trace buffer (R620, R628). -/
def pmdPm (s : State) (n : Nat) : Bool :=
  if n ≤ 1 then s.pmc[10].getLsbD 4
  else if n ≤ 3 ∨ n = 17 then s.pmc[11].getLsbD 6
  else if n ≤ 7 then (s.pmc.toList.getD n 0).getLsbD 6
  else s.pmc[12].getLsbD 6

/-- What a read of PMD[n] gives: above level 0 with PSR.sp = 1 or its `pm` bit set 0 (R480, R626); with the clocks off any value; a counter its
48 bits as a signed number; the others are fixed while PMC0.fr is 1 (R626, R637). -/
def pmdValue (s : State) (n : Nat) : Word :=
  let v := s.pmd.toList.getD n 0
  let low : Int := v.toNat % 2 ^ 48
  if s.cpl ≠ 0 ∧ (s.psr.getLsbD 20 = true ∨ pmdPm s n = true) then 0
  else if s.pmc[4].getLsbD 23 = false then s.free (6200 + n)
  else if 4 ≤ n ∧ n ≤ 7 then BitVec.ofInt 64 (if low < 2 ^ 47 then low else low - 2 ^ 48)
  else if s.pmc[0].getLsbD 0 = true then v else s.free (6200 + n)

/-- The moves from the indirect files, format M43 (R480 to R484). -/
def fileForm : Instr → Option MoveForm
  | .movR1PmcR3 qp r1 r3 =>
    some { qp, r1, ready := fun s => s.cpl = 0 ∧ usable s r3 ∧ fileIndex s r3 < 16, val := fun s => pmcValue s (fileIndex s r3) }
  | .movR1PmdR3 qp r1 r3 =>
    some { qp, r1, ready := fun s => usable s r3 ∧ fileIndex s r3 < 18, val := fun s => pmdValue s (fileIndex s r3) }
  | .movR1RrR3 qp r1 r3 =>
    some { qp, r1, ready := fun s => s.cpl = 0 ∧ usable s r3, val := fun s => s.rr.toList.getD (regionIndex s r3) 0 }
  | .movR1PkrR3 qp r1 r3 =>
    some { qp, r1, ready := fun s => s.cpl = 0 ∧ usable s r3 ∧ fileIndex s r3 < 16,
           val := fun s => s.pkr.toList.getD (fileIndex s r3) 0 }
  | .movR1IbrR3 qp r1 r3 =>
    some { qp, r1, ready := fun s => s.cpl = 0 ∧ usable s r3 ∧ fileIndex s r3 < 8,
           val := fun s => s.ibr.toList.getD (fileIndex s r3) 0 }
  | .movR1DbrR3 qp r1 r3 =>
    some { qp, r1, ready := fun s => s.cpl = 0 ∧ usable s r3 ∧ fileIndex s r3 < 8,
           val := fun s => s.dbr.toList.getD (fileIndex s r3) 0 }
  | .movR1CpuidR3 qp r1 r3 =>
    some { qp, r1, ready := fun s => usable s r3 ∧ fileIndex s r3 < 5, val := fun s => Config.cpuid (fileIndex s r3) }
  | _ => none

/-- The fault forms of the reads of application, control and indirect registers: the predicate, the target, when, and ISR.code: a
number that the unit does not reach or that is reserved, BSPSTORE and RNAT outside lazy mode, ITC under PSR.si = 1 above level 0; no such
control register, or one of interruption with PSR.ic = 1; an index outside its file (R28, R462, R464, R484). -/
def readFaults : Instr → List (PredIdx × GrIdx × (State → Prop) × BitVec 16)
  | .movIR1Ar3 qp r1 ar3 => [(qp, r1, fun _ => ar3.toNat < 48, 0)]
  | .movMR1Ar3 qp r1 ar3 =>
    [(qp, r1, fun s => 64 ≤ ar3.toNat ∨ arReg ar3 = .reserved ∨ ((ar3 = 18 ∨ ar3 = 19) ∧ s.old.rsc.extractLsb' 0 2 ≠ 0), 0),
     (qp, r1, fun s => ar3 = 44 ∧ s.psrSi = true ∧ s.cpl ≠ 0, 0x20)]
  | .movR1Cr3 qp r1 cr3 =>
    [(qp, r1, fun s => crReg cr3 = none ∨ ∃ r, crReg cr3 = some r ∧ r.interruption = true ∧ s.psrIc = true, 0)]
  | .movR1PmcR3 qp r1 r3 => [(qp, r1, fun s => s.cpl = 0 ∧ usable s r3 ∧ 16 ≤ fileIndex s r3, 0x30)]
  | .movR1PmdR3 qp r1 r3 => [(qp, r1, fun s => usable s r3 ∧ 18 ≤ fileIndex s r3, 0x30)]
  | .movR1PkrR3 qp r1 r3 => [(qp, r1, fun s => s.cpl = 0 ∧ usable s r3 ∧ 16 ≤ fileIndex s r3, 0x30)]
  | .movR1IbrR3 qp r1 r3 => [(qp, r1, fun s => s.cpl = 0 ∧ usable s r3 ∧ 8 ≤ fileIndex s r3, 0x30)]
  | .movR1DbrR3 qp r1 r3 => [(qp, r1, fun s => s.cpl = 0 ∧ usable s r3 ∧ 8 ≤ fileIndex s r3, 0x30)]
  | .movR1CpuidR3 qp r1 r3 => [(qp, r1, fun s => usable s r3 ∧ 5 ≤ fileIndex s r3, 0x30)]
  | _ => []

/-- The only translation of a virtual address in the data TLB. -/
def dataEntry (s : State) (r3 : GrIdx) : Option TlbEntry :=
  match s.lookup false (s.gr r3).val with
  | [e] => some e
  | _ => none

/-- `probe`: the page permits the access at the less privileged of PSR.cpl and `pl` (R486). -/
def probeValue (s : State) (r3 : GrIdx) (pl : BitVec 2) (write : Bool) : Word :=
  match dataEntry s r3 with
  | some e => if rightsAllow e.ar e.pl (if s.cpl.toNat < pl.toNat then pl else s.cpl) (!write) write false then 1 else 0
  | none => 0

/-- The probes, translation queries and hashes, formats M38, M39 and M46 (R486 to R488). -/
def queryForm : Instr → Option MoveForm
  | .probeRR1R3R2 qp r1 r3 r2 =>
    some { qp, r1, ready := fun s => usable s r3 ∧ usable s r2 ∧ (dataEntry s r3).isSome,
           val := fun s => probeValue s r3 ((s.gr r2).val.setWidth 2) false }
  | .probeRR1R3Imm2 qp r1 r3 imm2 =>
    some { qp, r1, ready := fun s => usable s r3 ∧ (dataEntry s r3).isSome, val := fun s => probeValue s r3 imm2 false }
  | .probeWR1R3R2 qp r1 r3 r2 =>
    some { qp, r1, ready := fun s => usable s r3 ∧ usable s r2 ∧ (dataEntry s r3).isSome,
           val := fun s => probeValue s r3 ((s.gr r2).val.setWidth 2) true }
  | .probeWR1R3Imm2 qp r1 r3 imm2 =>
    some { qp, r1, ready := fun s => usable s r3 ∧ (dataEntry s r3).isSome, val := fun s => probeValue s r3 imm2 true }
  | .tpaR1R3 qp r1 r3 =>
    some { qp, r1, ready := fun s => s.cpl = 0 ∧ usable s r3 ∧ ∃ e, dataEntry s r3 = some e ∧ e.p = true ∧ e.ma ≠ .natPage,
           val := fun s => match dataEntry s r3 with
             | some e => BitVec.ofNat 64 (e.phys (s.gr r3).val)
             | none => 0 }
  | .takR1R3 qp r1 r3 =>
    some { qp, r1, ready := fun s => s.cpl = 0 ∧ usable s r3 ∧ (s.lookup false (s.gr r3).val).length ≤ 1,
           val := fun s => match dataEntry s r3 with
             | some e => if e.p then BitVec.ofNat 64 (e.key.toNat * 256) else 1
             | none => 1 }
  | .thashR1R3 qp r1 r3 =>
    some { qp, r1, ready := fun s => s.grVisible r3 = true, nat := fun s => (s.gr r3).nat,
           val := fun s => vhptEntryAt s (s.gr r3).val }
  | .ttagR1R3 qp r1 r3 =>
    some { qp, r1, ready := fun s => s.grVisible r3 = true, nat := fun s => (s.gr r3).nat,
           val := fun s => Config.vhptTag (s.gr r3).val ((s.rr.toList.getD (regionIndex s r3) 0).extractLsb' 8 24) }
  | _ => none

/-- What a query looks up: `code` its ISR.code, `misses` whether an address without a translation is a fault, `page` whether the page is
looked at too. -/
structure QueryAccess where
  qp     : PredIdx
  r1     : GrIdx
  r3     : GrIdx
  ready  : State → Prop
  code   : BitVec 16
  misses : Bool := true
  page   : Bool := false

/-- The lookups of formats M38, M39 and M46 (R486, R487). -/
def queryAccess : Instr → Option QueryAccess
  | .probeRR1R3R2 qp r1 r3 r2 => some { qp, r1, r3, ready := fun s => usable s r3 ∧ usable s r2, code := 2 }
  | .probeRR1R3Imm2 qp r1 r3 _ => some { qp, r1, r3, ready := fun s => usable s r3, code := 2 }
  | .probeWR1R3R2 qp r1 r3 r2 => some { qp, r1, r3, ready := fun s => usable s r3 ∧ usable s r2, code := 2 }
  | .probeWR1R3Imm2 qp r1 r3 _ => some { qp, r1, r3, ready := fun s => usable s r3, code := 2 }
  | .tpaR1R3 qp r1 r3 => some { qp, r1, r3, ready := fun s => s.cpl = 0 ∧ usable s r3, code := 0, page := true }
  | .takR1R3 qp r1 r3 => some { qp, r1, r3, ready := fun s => s.cpl = 0 ∧ usable s r3, code := 3, misses := false }
  | _ => none

/-- A query of an address without a translation takes the miss fault of a non-access (R486, R487, R568), `tpa` of a page that is not present or
a NaTPage that fault; more than one translation is a machine check (R159). -/
def QueryAccess.Faults (i : Instr) (f : QueryAccess) : Prop :=
  ∀ s : State, s.pred f.qp = true → s.grTargetOk f.r1 = true → f.ready s →
    let va := (s.gr f.r3).val
    let acc : Acc := { va, n := 1, cls := .reference, na := some f.code, cpl := s.cpl }
    let takes := fun x : TransFault => exec i s = .next (s.takeInterruption (s.transIntr acc x) s.ri)
    (2 ≤ (hitsOf s false va).length → exec i s = .fault .machineCheckMultipleHit) ∧
    (f.misses = true → hitsOf s false va = [] → ∃ x, missFaults s acc x ∧ takes x) ∧
    ∀ e, f.page = true → hitsOf s false va = [e] →
      (e.p = false → takes (.pageNotPresent e)) ∧ (e.p = true → e.ma = .natPage → takes .natPage)

/-- The bits `m` of PSR became those of `f`, in a write of kind `k`; nothing else changed but the notes of the group. A bit of the user mask
that the group has written before is not fixed (R911 (b), R915 (a)). -/
def psrBecomes (s u : State) (k : WriteKind) (m f : Nat → Bool) : Prop :=
  u = { s with psr := u.psr, grpWrites := u.grpWrites } ∧
    ∀ b, b < 64 → if m b then (1 ≤ b ∧ b ≤ 5 → s.wawFree (.um b) k = false) → u.psr.getLsbD b = f b
      else u.psr.getLsbD b = s.psr.getLsbD b

/-! ### Moves to application registers (R361, R362, R460, R461) -/

/-- A move to an application register: the unit it runs on, the register and its source. -/
structure ArForm where
  qp  : PredIdx
  i   : Bool
  ar3 : BitVec 7
  src : Option GrIdx
  imm : Word := 0
  deriving DecidableEq, Repr

/-- The value moved. -/
def ArForm.value (s : State) (f : ArForm) : Word :=
  match f.src with
  | some r2 => (s.gr r2).val
  | none => f.imm

/-- Formats I26, I27, M29 and M30. -/
def arForm : Instr → Option ArForm
  | .movIAr3R2 qp ar3 r2 => some { qp, i := true, ar3, src := some r2 }
  | .movIAr3Imm8 qp ar3 imm8 => some { qp, i := true, ar3, src := none, imm := imm8.signExtend 64 }
  | .movMAr3R2 qp ar3 r2 => some { qp, i := false, ar3, src := some r2 }
  | .movMAr3Imm8 qp ar3 imm8 => some { qp, i := false, ar3, src := none, imm := imm8.signExtend 64 }
  | _ => none

/-- The unit reaches the register and the register may be written: the M unit AR0 to AR63, the I unit AR48 to AR127; not BSP, no
reserved number; BSPSTORE and RNAT with RSC.mode 0 only (R28, R361, R460). -/
def ArForm.legal (s : State) (f : ArForm) : Prop :=
  (if f.i then 48 ≤ f.ar3.toNat else f.ar3.toNat < 64) ∧ arReg f.ar3 ≠ .reserved ∧ arReg f.ar3 ≠ .bsp ∧
    (f.ar3 = 18 ∨ f.ar3 = 19 → s.old.rsc.extractLsb' 0 2 = 0)

/-- Kernel registers and ITC are written at privilege level 0 only (R460, R592). -/
def ArForm.allowed (s : State) (f : ArForm) : Prop := (f.ar3.toNat < 8 ∨ f.ar3 = 44) → s.cpl = 0

/-- No reserved bit of RSC or FPSR is set (R460). -/
def ArForm.clean (s : State) (f : ArForm) : Prop :=
  (f.ar3 = 16 → f.value s &&& 0xFFFFFFFFC000FFE0 = 0) ∧ (f.ar3 = 40 → f.value s &&& 0xFC00000000000000 = 0)

/-- What the register holds after a write of `v`: RSC with `pl` not below PSR.cpl, RNAT without bit 63, PFS without its reserved
fields, EC its low 6 bits, an ignored register 0 (R361, R363, R460). -/
def arHolds (s : State) (ar3 : BitVec 7) (v w : Word) : Prop :=
  if ar3 = 16 then
    isBits w (fun k => if k = 2 ∨ k = 3 then
      (if (v.extractLsb' 2 2).toNat < s.cpl.toNat then s.cpl.getLsbD (k - 2) else v.getLsbD k) else v.getLsbD k)
  else if ar3 = 19 then w = v &&& 0x7FFFFFFFFFFFFFFF
  else if ar3 = 64 then w = v &&& 0xC3F0003FFFFFFFFF
  else if ar3 = 66 then w.toNat = v.toNat % 64
  else if arReg ar3 = .ignored then w = 0
  else w = v

/-- `u` differs from `s` in application registers and the notes of the group only. -/
def onlyAr (s u : State) : Prop :=
  u = { s with cur := u.cur, itc := u.itc, nclean := u.nclean, grpWrites := u.grpWrites } ∧
    u.cur.stat = s.cur.stat ∧ u.cur.bank0 = s.cur.bank0 ∧ u.cur.bank1 = s.cur.bank1 ∧ u.cur.stacked = s.cur.stacked ∧
    u.cur.fr = s.cur.fr ∧ u.cur.pr = s.cur.pr ∧ u.cur.br = s.cur.br

/-- A move to any register but BSPSTORE: it takes the value; every other application register, and everything else, stays. -/
def ArForm.Correct (i : Instr) (f : ArForm) : Prop :=
  ∀ s : State, s.pred f.qp = true → f.legal s → f.allowed s → (∀ r ∈ f.src, usable s r) → f.clean s → f.ar3 ≠ 18 →
    ∃ u, Yields i s u ∧ onlyAr s u ∧ u.nclean = s.nclean ∧
      (s.wawFree (.ar (arReg f.ar3).place) .alu = false → arHolds s f.ar3 (f.value s) (u.cur.ar u.itc (arReg f.ar3))) ∧
      ∀ r, r ≠ arReg f.ar3 → u.cur.ar u.itc r = s.cur.ar s.itc r

/-- A move to BSPSTORE: the address without its low 3 bits; BSP moves so that the dirty registers keep their number, none are
clean, RNAT is undefined (R460). -/
def ArForm.MovesBspstore (i : Instr) (f : ArForm) : Prop :=
  ∀ s : State, s.pred f.qp = true → f.legal s → (∀ r ∈ f.src, usable s r) → f.ar3 = 18 → s.ndirty ≤ 96 →
    ∃ u, Yields i s u ∧ onlyAr s u ∧ u.nclean = 0 ∧ u.ndirty = s.ndirty ∧
      (s.wawFree (.ar 18) .alu = false → u.cur.bspstore = f.value s &&& 0xFFFFFFFFFFFFFFF8) ∧
      ∀ r, r ≠ .bspstore → r ≠ .bsp → r ≠ .rnat → u.cur.ar u.itc r = s.cur.ar s.itc r

/-- The faults of a move to an application register, in the order of R490. -/
def ArForm.Faults (i : Instr) (f : ArForm) : Prop :=
  ∀ s : State, s.pred f.qp = true →
    (¬ f.legal s → Takes s (exec i s) .generalException 0) ∧
    (f.legal s → (∃ r, f.src = some r ∧ s.grVisible r = false) → Takes s (exec i s) .generalException 0) ∧
    (f.legal s → (∀ r ∈ f.src, s.grVisible r = true) → ¬ f.allowed s → Takes s (exec i s) .generalException 0x20) ∧
    (f.legal s → f.allowed s → (∃ r, f.src = some r ∧ s.grVisible r = true ∧ (s.gr r).nat = true) →
      Takes s (exec i s) .natConsumption 0x10) ∧
    (f.legal s → f.allowed s → (∀ r ∈ f.src, usable s r) → ¬ f.clean s → Takes s (exec i s) .generalException 0x30)

end Sys2Proof.Forms
end

