-- ==== Sys2Proof/Forms/Sys.lean ====
section
/-! DEFINITION. Forms/Sys.lean: checks, NaT consumption, stores that fault, fills, the loads of the register stack engine, and
the instructions that purge and insert translations, as tables for the statements (`spec/41_i_type.md` R366, `spec/42_m_type_memory.md` R386, R420, R421,
`spec/43_m_type_system.md` R443, R445, R447 to R449, R485, R490, `spec/60_exceptions.md` R566, R573). -/

namespace Sys2Proof.Forms

open Sys2Proof.Machine

/-! ### Checks (R366, R420, R421, R511, R566) -/

/-- The target of a check or an IP-relative branch: IP plus 16 times the displacement (R240). -/
def relTarget (s : State) (imm21 : BitVec 21) : Word := s.ip + BitVec.ofInt 64 (imm21.toInt * 16)

/-- The hardware itself branches to the recovery code (R566). -/
def resteered (s : State) : Prop := s.psrIc = true ∧ s.psrIt = true ∧ s.psrSs = false ∧ s.psrTb = false

/-- A check: one that passes changes what `pass` says; one that fails branches to the recovery code, changing what `miss` says, or
takes the Speculative Operation fault with CR[IIM] the displacement field (R566), where the monitors still see the event `ev` of the
failed check (R598). -/
def Checks (i : Instr) (s : State) (imm21 : BitVec 21) (ev : PmuEvent) (fails : Prop) (pass miss : State → Prop) : Prop :=
  (¬ fails → ∃ u, Yields i s u ∧ pass u) ∧
  (fails → resteered s → ∃ u, YieldsTo i s u (relTarget s imm21) ∧ miss u ∧ ev ∈ u.events) ∧
  (fails → ¬ resteered s →
    exec i s = .next (s.takeInterruption { vec := .speculation, iim := some (imm21.setWidth 64), events := [ev] } s.ri))

/-- The register of `chk.a` is checked in this group; nothing else but the events changes. -/
def onlyChecked (s u : State) (reg : AlatReg) : Prop :=
  u = { s with grpAlatChecks := reg :: s.grpAlatChecks, events := u.events }

/-- The entry of a register is removed. -/
def entryRemoved (s u : State) (reg : AlatReg) : Prop :=
  u = { s with alat := u.alat, grpAlatChecks := u.grpAlatChecks, grpAlatInval := reg :: s.grpAlatInval, events := u.events } ∧
    ∀ e, e ∈ u.alat ↔ e ∈ s.alat ∧ e.reg ≠ reg

/-! ### NaT operands (R573, R576) -/

/-- The register operands whose NaT bit an instruction consumes, outside loads, stores and semaphores: the predicate, the
register, ISR.code, and what must hold for no earlier check to fail (R490, R573, R576). -/
def natForm : Instr → List (PredIdx × GrIdx × BitVec 16 × (State → Prop))
  | .movB1R2 qp _ r2 _ _ _ => [(qp, r2, 0x10, fun _ => True)]
  | .movRetB1R2 qp _ r2 _ _ _ => [(qp, r2, 0x10, fun _ => True)]
  | .movPrR2Mask17 qp r2 _ => [(qp, r2, 0x10, fun _ => True)]
  | .movCr3R2 qp cr3 r2 => [(qp, r2, 0x10, fun s => s.cpl = 0 ∧ ∃ r, s.crOk cr3 true = .ok r)]
  | .movPsrLR2 qp r2 => [(qp, r2, 0x10, fun s => s.cpl = 0)]
  | .movPsrUmR2 qp r2 => [(qp, r2, 0x10, fun _ => True)]
  | .movPmcR3R2 qp r3 r2 =>
    [(qp, r3, 0x10, fun s => s.cpl = 0 ∧ s.grVisible r2 = true), (qp, r2, 0x10, fun s => s.cpl = 0 ∧ usable s r3)]
  | .movPmdR3R2 qp r3 r2 =>
    [(qp, r3, 0x10, fun s => s.cpl = 0 ∧ s.grVisible r2 = true), (qp, r2, 0x10, fun s => s.cpl = 0 ∧ usable s r3)]
  | .movRrR3R2 qp r3 r2 =>
    [(qp, r3, 0x10, fun s => s.cpl = 0 ∧ s.grVisible r2 = true), (qp, r2, 0x10, fun s => s.cpl = 0 ∧ usable s r3)]
  | .movPkrR3R2 qp r3 r2 =>
    [(qp, r3, 0x10, fun s => s.cpl = 0 ∧ s.grVisible r2 = true), (qp, r2, 0x10, fun s => s.cpl = 0 ∧ usable s r3)]
  | .movIbrR3R2 qp r3 r2 =>
    [(qp, r3, 0x10, fun s => s.cpl = 0 ∧ s.grVisible r2 = true), (qp, r2, 0x10, fun s => s.cpl = 0 ∧ usable s r3)]
  | .movDbrR3R2 qp r3 r2 =>
    [(qp, r3, 0x10, fun s => s.cpl = 0 ∧ s.grVisible r2 = true), (qp, r2, 0x10, fun s => s.cpl = 0 ∧ usable s r3)]
  | .movR1PmcR3 qp r1 r3 => [(qp, r3, 0x10, fun s => s.cpl = 0 ∧ s.grTargetOk r1 = true)]
  | .movR1PmdR3 qp r1 r3 => [(qp, r3, 0x10, fun s => s.grTargetOk r1 = true)]
  | .movR1RrR3 qp r1 r3 => [(qp, r3, 0x10, fun s => s.cpl = 0 ∧ s.grTargetOk r1 = true)]
  | .movR1PkrR3 qp r1 r3 => [(qp, r3, 0x10, fun s => s.cpl = 0 ∧ s.grTargetOk r1 = true)]
  | .movR1IbrR3 qp r1 r3 => [(qp, r3, 0x10, fun s => s.cpl = 0 ∧ s.grTargetOk r1 = true)]
  | .movR1DbrR3 qp r1 r3 => [(qp, r3, 0x10, fun s => s.cpl = 0 ∧ s.grTargetOk r1 = true)]
  | .movR1CpuidR3 qp r1 r3 => [(qp, r3, 0x10, fun s => s.grTargetOk r1 = true)]
  | .fcR3 qp r3 => [(qp, r3, 0x11, fun _ => True)]
  | .ptcER3 qp r3 => [(qp, r3, 0x10, fun s => s.cpl = 0)]
  | .ptcLR3R2 qp r3 r2 =>
    [(qp, r3, 0x10, fun s => s.cpl = 0 ∧ s.grVisible r2 = true), (qp, r2, 0x10, fun s => s.cpl = 0 ∧ usable s r3)]
  | .ptcGR3R2 qp r3 r2 =>
    [(qp, r3, 0x10, fun s => s.cpl = 0 ∧ s.grVisible r2 = true), (qp, r2, 0x10, fun s => s.cpl = 0 ∧ usable s r3)]
  | .ptcGaR3R2 qp r3 r2 =>
    [(qp, r3, 0x10, fun s => s.cpl = 0 ∧ s.grVisible r2 = true), (qp, r2, 0x10, fun s => s.cpl = 0 ∧ usable s r3)]
  | .ptrDR3R2 qp r3 r2 =>
    [(qp, r3, 0x10, fun s => s.cpl = 0 ∧ s.grVisible r2 = true), (qp, r2, 0x10, fun s => s.cpl = 0 ∧ usable s r3)]
  | .ptrIR3R2 qp r3 r2 =>
    [(qp, r3, 0x10, fun s => s.cpl = 0 ∧ s.grVisible r2 = true), (qp, r2, 0x10, fun s => s.cpl = 0 ∧ usable s r3)]
  | .itcDR2 qp r2 => [(qp, r2, 0x10, fun s => s.cpl = 0 ∧ s.psrIc = false)]
  | .itcIR2 qp r2 => [(qp, r2, 0x10, fun s => s.cpl = 0 ∧ s.psrIc = false)]
  | .itrDDtrR3R2 qp r3 r2 =>
    [(qp, r3, 0x10, fun s => s.cpl = 0 ∧ s.psrIc = false ∧ s.grVisible r2 = true),
     (qp, r2, 0x10, fun s => s.cpl = 0 ∧ s.psrIc = false ∧ usable s r3)]
  | .itrIItrR3R2 qp r3 r2 =>
    [(qp, r3, 0x10, fun s => s.cpl = 0 ∧ s.psrIc = false ∧ s.grVisible r2 = true),
     (qp, r2, 0x10, fun s => s.cpl = 0 ∧ s.psrIc = false ∧ usable s r3)]
  | .probeRR1R3R2 qp r1 r3 r2 => [(qp, r3, 0x12, fun s => s.grTargetOk r1 = true ∧ usable s r2),
      (qp, r2, 0x12, fun s => s.grTargetOk r1 = true ∧ s.grVisible r3 = true)]
  | .probeRR1R3Imm2 qp r1 r3 _ => [(qp, r3, 0x12, fun s => s.grTargetOk r1 = true)]
  | .probeWR1R3R2 qp r1 r3 r2 => [(qp, r3, 0x12, fun s => s.grTargetOk r1 = true ∧ usable s r2),
      (qp, r2, 0x12, fun s => s.grTargetOk r1 = true ∧ s.grVisible r3 = true)]
  | .probeWR1R3Imm2 qp r1 r3 _ => [(qp, r3, 0x12, fun s => s.grTargetOk r1 = true)]
  | .probeRFaultR3Imm2 qp r3 _ => [(qp, r3, 0x15, fun _ => True)]
  | .probeWFaultR3Imm2 qp r3 _ => [(qp, r3, 0x15, fun _ => True)]
  | .probeRwFaultR3Imm2 qp r3 _ => [(qp, r3, 0x15, fun _ => True)]
  | .tpaR1R3 qp r1 r3 => [(qp, r3, 0x10, fun s => s.cpl = 0 ∧ s.grTargetOk r1 = true)]
  | .takR1R3 qp r1 r3 => [(qp, r3, 0x13, fun s => s.cpl = 0 ∧ s.grTargetOk r1 = true)]
  | _ => []

/-! ### Stores, semaphores and fills -/

/-- The value the store would consume has its NaT bit set, or is NaTVal (R388, R395). -/
def StoreSrc.hasNat (s : State) : StoreSrc → Prop
  | .gr r2 => (s.gr r2).nat = true
  | .spill _ => False
  | .fr f2 fmt => s.fr f2 = FReg.natVal ∧ fmt ≠ .fill

/-- The source is readable or enabled. -/
def StoreSrc.present (s : State) : StoreSrc → Prop
  | .gr r2 | .spill r2 => s.grVisible r2 = true
  | .fr f2 _ => s.frDisabled f2 = 0

/-- A store with a NaT base or NaT data, or whose access fails, takes the interruption and stores nothing (R87, R426, R573). -/
def StoreForm.Faults (i : Instr) (f : StoreForm) : Prop :=
  ∀ s : State, s.pred f.qp = true → baseReady s f.r3 f.u none → f.src.present s →
    ((s.gr f.r3).nat = true ∨ f.src.hasNat s →
      exec i s = .next (s.takeInterruption { vec := .natConsumption, code := 0x10, w := true } s.ri)) ∧
    ((s.gr f.r3).nat = false → ¬ f.src.hasNat s → ∀ e, s.resolve (f.acc s) = .error e → e ≠ .multipleHit →
      exec i s = .next (s.takeInterruption (s.transIntr (f.acc s) e) s.ri))

/-- The same for a semaphore, which reads and writes (R403, R426, R573). -/
def SemForm.Faults (i : Instr) (f : SemForm) : Prop :=
  ∀ s : State, s.pred f.qp = true → s.grTargetOk f.r1 = true → s.grVisible f.r3 = true → s.grVisible f.r2 = true →
    ((s.gr f.r3).nat = true ∨ (s.gr f.r2).nat = true →
      exec i s = .next (s.takeInterruption { vec := .natConsumption, code := 0x10, r := true, w := true } s.ri)) ∧
    ((s.gr f.r3).nat = false → (s.gr f.r2).nat = false → ∀ e, s.resolve (f.acc s) = .error e → e ≠ .multipleHit →
      exec i s = .next (s.takeInterruption (s.transIntr (f.acc s) e) s.ri))

/-- `ld8.fill` as a load of 8 bytes; its NaT bit comes from AR[UNAT] (R386). -/
def fillForm : Instr → Option LoadForm
  | .ld8FillR1R3 qp r1 r3 _ => some { qp, dst := .gr r1, r3, u := .none, n := 8, k := .plain }
  | .ld8FillR1R3R2 qp r1 r3 r2 _ => some { qp, dst := .gr r1, r3, u := .reg r2, n := 8, k := .plain }
  | .ld8FillR1R3Imm9 qp r1 r3 imm9 _ =>
    some { qp, dst := .gr r1, r3, u := .imm (imm9.signExtend 64), n := 8, k := .plain }
  | _ => none

/-- The register gets the 8 bytes, and as its NaT bit the bit of AR[UNAT] that address bits 8:3 select (R386). -/
def LoadForm.Fills (i : Instr) (f : LoadForm) : Prop :=
  ∀ s : State, s.FrameOk → f.ready s → (s.gr f.r3).nat = false → ∀ pa ma, s.resolve (f.acc s) = .ok (pa, ma) →
    ∃ t, exec i s = .next (retire s { s := t }) ∧ baseDone s t f.r3 f.u ∧ f.Frame s t true (s.dtcUsed (f.acc s)) (s.l1dAfter (f.acc s)) ∧
      f.AlatPerformed s t ∧
      ∀ r1 ∈ f.dst.greg, t.cur.gr (s.grPhys r1) =
        { val := BitVec.ofNat 64 (Memory.load s.mem pa 8 s.umBe),
          nat := s.old.unat.getLsbD ((s.gr f.r3).val.toNat / 8 % 64) }

/-! ### Loads of the register stack engine (R443, R445) -/

/-- The state that a load of the RSE leaves: registers, their NaT collection and the place in the backing store may differ, and what a load
leaves in the TLBs and the events. -/
def rseLoaded (s t : State) : Prop :=
  t = { s with cur := t.cur, old := t.old, dtcache := t.dtcache, l1dtlb := t.l1dtlb, events := t.events } ∧
    t.cur = { s.cur with stacked := t.cur.stacked, rnat := t.cur.rnat, bspstore := t.cur.bspstore }

/-- The 8 bytes below BSPSTORE become the register below the dirty ones, which is dirty then, its NaT bit that of AR[RNAT] for its slot; no
other register changes. -/
def loadsRegister (s t : State) (pa : Nat) : Prop :=
  let a := s.cur.bspstore - 8
  let reg := 48 + (s.bof + 95 - s.ndirty) % 96
  rseLoaded s t ∧ t.cur.bspstore = a ∧ t.cur.rnat = s.cur.rnat ∧ t.ndirty = s.ndirty + 1 ∧
    t.cur.gr reg =
      { val := BitVec.ofNat 64 (Memory.load s.mem pa 8 (rscBe s.old.rsc)), nat := s.cur.rnat.getLsbD (rseSlot a) } ∧
    t.old.gr reg = t.cur.gr reg ∧ ∀ k, k ≠ reg → t.cur.gr k = s.cur.gr k

/-- The 8 bytes below BSPSTORE become AR[RNAT]; no register changes. -/
def loadsRnat (s t : State) (pa : Nat) : Prop :=
  rseLoaded s t ∧ t.cur.bspstore = s.cur.bspstore - 8 ∧ t.cur.stacked = s.cur.stacked ∧ t.old = s.old ∧
    t.cur.rnat = BitVec.ofNat 64 (Memory.load s.mem pa 8 (rscBe s.old.rsc))

/-- A mandatory fill of one register and a slot of `loadrs`: at a register slot the register is loaded, at the slot of an RNAT collection
AR[RNAT] is reloaded, by a fill before its register; a clean register is filled without an access (R443, R445). -/
def FillsOneRegister (s : State) : Prop :=
  let a := s.cur.bspstore - 8
  (∀ ir pa ma, s.access (s.rseAcc a false ir) = .ok (pa, ma) →
    (rseSlot a ≠ 63 → s.nclean = 0 → ∃ t, s.fillOne ir = .ok t ∧ loadsRegister s t pa) ∧
    (rseSlot a = 63 → ∃ t, s.fillOne ir = t.fillOne ir ∧ loadsRnat s t pa)) ∧
  (rseSlot a ≠ 63 → 0 < s.nclean →
    ∀ ir, s.fillOne ir = .ok { s with nclean := s.nclean - 1, cur := { s.cur with bspstore := a } }) ∧
  ∀ pa ma, s.access (s.rseAcc a false false) = .ok (pa, ma) →
    ∃ t, s.loadSlot = .ok t ∧ if rseSlot a = 63 then loadsRnat s t pa else loadsRegister s t pa

/-- The 8 bytes of `v` are stored at `pa` in the byte order of RSC.be: in memory, or for a write-coalescing page as the processor itself sees
them through its buffer (R121, R445). -/
def rseStored (s t : State) (pa : Nat) (ma : MemAttr) (v : Word) : Prop :=
  if ma = .wc then
    ∀ a, t.coherentByte a = if pa ≤ a ∧ a < pa + 8 then (storeBytes v.toNat 8 (rscBe s.old.rsc)).getD (a - pa) 0 else s.coherentByte a
  else Memory.load t.mem pa 8 (rscBe s.old.rsc) = v.toNat ∧ s.SameMemExcept t pa 8 ∧ t.wcb = s.wcb

/-- Between two states of a spill only the place in the backing store, the collection, the number of clean registers, what a store changes and
the events differ. -/
def rseSpilt (s t : State) : Prop :=
  t = { s with cur := t.cur, nclean := t.nclean, mem := t.mem, wcb := t.wcb, stale := t.stale, alat := t.alat, dtcache := t.dtcache,
               l1dtlb := t.l1dtlb, events := t.events } ∧
    t.cur = { s.cur with bspstore := s.cur.bspstore + 8, rnat := t.cur.rnat }

/-- A mandatory spill of one register. With BSPSTORE at the slot of an RNAT collection AR[RNAT] is stored there first, and kept. At any other
slot the oldest dirty register is stored, which stays as a clean one, its NaT bit in AR[RNAT]; a collection whose slot BSPSTORE then has
reached is stored too (R445). -/
def SpillsOneRegister (s : State) : Prop :=
  ∀ pa ma, s.access (s.rseAcc s.cur.bspstore true false) = .ok (pa, ma) →
    (rseSlot s.cur.bspstore = 63 → ∃ t, s.spillRnat = .ok t ∧ s.spillOne = t.spillOne ∧ rseStored s t pa ma s.cur.rnat ∧ rseSpilt s t ∧
      t.cur.rnat = s.cur.rnat ∧ t.ndirty = s.ndirty ∧ t.nclean = s.nclean) ∧
    (rseSlot s.cur.bspstore ≠ 63 → s.spillRnat = .ok s ∧ (0 < s.ndirty →
      let v := s.stackedAt (s.bof + 96 - s.ndirty)
      ∃ t, s.spillOne = t.spillRnat ∧ rseStored s t pa ma v.val ∧ rseSpilt s t ∧ t.ndirty + 1 = s.ndirty ∧ t.nclean = s.nclean + 1 ∧
        ∀ k, k < 64 → t.cur.rnat.getLsbD k = if k = rseSlot s.cur.bspstore then v.nat else s.cur.rnat.getLsbD k))

/-! ### Translation caches and registers (R448, R449, R485) -/

/-- A purge: its operands and what it clears. -/
structure PurgeForm where
  qp  : PredIdx
  r3  : GrIdx
  r2  : GrIdx
  itc : Bool
  dtc : Bool
  itr : Bool
  dtr : Bool
  rel : Bool := false
  deriving DecidableEq, Repr

/-- Format M45 (R449); `ptc.g` and `ptc.ga` release (R122). -/
def purgeForm : Instr → Option PurgeForm
  | .ptcLR3R2 qp r3 r2 => some { qp, r3, r2, itc := true, dtc := true, itr := false, dtr := false }
  | .ptcGR3R2 qp r3 r2 => some { qp, r3, r2, itc := true, dtc := true, itr := false, dtr := false, rel := true }
  | .ptcGaR3R2 qp r3 r2 => some { qp, r3, r2, itc := true, dtc := true, itr := false, dtr := false, rel := true }
  | .ptrDR3R2 qp r3 r2 => some { qp, r3, r2, itc := false, dtc := true, itr := false, dtr := true }
  | .ptrIR3R2 qp r3 r2 => some { qp, r3, r2, itc := true, dtc := false, itr := true, dtr := false }
  | _ => none

/-- An entry's page and the aligned block of 2^`ps` bytes at `va` lie in one region and share bytes: one contains the other
(R449). -/
def sharesBytes (e : TlbEntry) (rid : BitVec 24) (va : BitVec 61) (ps : Nat) : Prop :=
  e.rid = rid ∧ e.va.toNat / 2 ^ max e.ps.toNat ps = va.toNat / 2 ^ max e.ps.toNat ps

/-- The page sizes of R152. -/
def goodPageSize (n : Nat) : Prop := n ∈ [12, 13, 14, 16, 18, 20, 22, 24, 26, 28, 30, 32]

/-- `l` is `l0` without the entries that `hit` names, in the same order; `l0` itself where the purge leaves the structure alone. -/
def purgedList (on : Bool) (hit : TlbEntry → Prop) (l0 l : List TlbEntry) : Prop :=
  (on = false → l = l0) ∧ l.Sublist l0 ∧ ∀ e ∈ l0, e ∈ l ↔ (on = true → ¬ hit e)

/-- The same for translation registers, each of which keeps its translation or is empty. -/
def purgedRegs (on : Bool) (hit : TlbEntry → Prop) (v0 v : Vector (Option TlbEntry) 64) : Prop :=
  ∀ (k : Fin 64) e, v[k] = some e ↔ v0[k] = some e ∧ (on = true → ¬ hit e)

/-- The second level of the data TLB of `u` holds the page that a first-level segment is of (R155). -/
def backedIn (u : State) (g : TlbEntry) : Prop :=
  ∃ e ∈ u.translations false, e.rid = g.rid ∧ e.va.toNat / 2 ^ e.ps.toNat = g.va.toNat / 2 ^ e.ps.toNat

/-- A purge COMPLETES at privilege level 0 with operands that can be read and a page size of R152, whatever the state else is: it
removes exactly the entries that share bytes with its block from the structures it names, each side also from its first
level (R158), where on the data side the segments go too whose page the second level does not hold any more (R155), and a releasing one empties the write-coalescing buffer. Another page size is a Reserved Register/Field fault
(R449). -/
def PurgeForm.Correct (i : Instr) (f : PurgeForm) : Prop :=
  ∀ s : State, s.pred f.qp = true → s.cpl = 0 → usable s f.r3 → usable s f.r2 →
    let ps := (s.gr f.r2).val.toNat / 4 % 64
    let rid := (s.rr.toList.getD ((s.gr f.r3).val.toNat / 2 ^ 61) 0).extractLsb' 8 24
    let hit := fun e : TlbEntry => sharesBytes e rid ((s.gr f.r3).val.setWidth 61) ps
    let m := if f.rel then s.wcbFlush else s
    (goodPageSize ps → ∃ u, exec i s = .next (retire s { s := u }) ∧
      purgedList f.itc hit s.itcache u.itcache ∧ purgedList f.itc hit s.l1itlb u.l1itlb ∧
      purgedList f.dtc hit s.dtcache u.dtcache ∧ purgedList f.dtc (fun g => hit g ∨ ¬ backedIn u g) s.l1dtlb u.l1dtlb ∧ purgedRegs f.itr hit s.itr u.itr ∧ purgedRegs f.dtr hit s.dtr u.dtr ∧
      u = { m with itcache := u.itcache, dtcache := u.dtcache, l1itlb := u.l1itlb, l1dtlb := u.l1dtlb, itr := u.itr,
                   dtr := u.dtr }) ∧
    (¬ goodPageSize ps → Takes s (exec i s) .generalException 0x30)

/-- An insert into the instruction or data side: a cache entry, or register GR[r3]. -/
structure InsertForm where
  qp    : PredIdx
  instr : Bool
  r3    : Option GrIdx
  r2    : GrIdx
  deriving DecidableEq, Repr

/-- Formats M41 and M42 (R485). -/
def insertForm : Instr → Option InsertForm
  | .itcDR2 qp r2 => some { qp, instr := false, r3 := none, r2 }
  | .itcIR2 qp r2 => some { qp, instr := true, r3 := none, r2 }
  | .itrDDtrR3R2 qp r3 r2 => some { qp, instr := false, r3 := some r3, r2 }
  | .itrIItrR3R2 qp r3 r2 => some { qp, instr := true, r3 := some r3, r2 }
  | _ => none

/-- The attribute codes that an insert accepts (R152, R485). -/
def attrOf (n : Nat) : Option MemAttr :=
  if n = 0 then some .wb else if n = 4 then some .uc else if n = 5 then some .uce else if n = 6 then some .wc
  else if n = 7 then some .natPage else none

/-- The entry that GR[r2], CR[ITIR] and CR[IFA] describe (R485): the virtual and physical page without their low `ps` bits. -/
def describes (s : State) (v : Word) (e : TlbEntry) : Prop :=
  e.rid = (s.rr.toList.getD (s.cr.ifa.toNat / 2 ^ 61) 0).extractLsb' 8 24 ∧
  e.ps.toNat = s.cr.itir.toNat / 4 % 64 ∧ e.key.toNat = s.cr.itir.toNat / 2 ^ 8 % 2 ^ 24 ∧
  e.va.toNat = s.cr.ifa.toNat % 2 ^ 61 / 2 ^ e.ps.toNat * 2 ^ e.ps.toNat ∧
  e.pa.toNat = v.toNat % 2 ^ 50 / 2 ^ 12 * 2 ^ 12 / 2 ^ e.ps.toNat * 2 ^ e.ps.toNat ∧
  e.p = v.getLsbD 0 ∧ some e.ma = attrOf (v.toNat / 4 % 8) ∧ e.a = v.getLsbD 5 ∧ e.d = v.getLsbD 6 ∧
  e.pl.toNat = v.toNat / 2 ^ 7 % 4 ∧ e.ar.toNat = v.toNat / 2 ^ 9 % 8 ∧ e.ed = v.getLsbD 52

/-- The operands of an insert are ones the spec admits (R485). -/
def insertable (s : State) (v : Word) : Prop :=
  goodPageSize (s.cr.itir.toNat / 4 % 64) ∧ attrOf (v.toNat / 4 % 8) ≠ none ∧ v.getLsbD 1 = false ∧ v.getLsbD 50 = false ∧
    v.getLsbD 51 = false

/-- The block that an insert translates: the region of CR[IFA], and the page of CR[ITIR] at its offset. -/
def InsertForm.block (s : State) (g : TlbEntry) : Prop :=
  sharesBytes g ((s.rr.toList.getD (s.cr.ifa.toNat / 2 ^ 61) 0).extractLsb' 8 24) (s.cr.ifa.setWidth 61)
    (s.cr.itir.toNat / 4 % 64)

/-- The translation registers of the side of an insert. -/
def InsertForm.regs (f : InsertForm) (s : State) : Vector (Option TlbEntry) 64 := if f.instr then s.itr else s.dtr

/-- The translation cache of the side of an insert. -/
def InsertForm.cache (f : InsertForm) (s : State) : List TlbEntry := if f.instr then s.itcache else s.dtcache

/-- The least recently used entries give way: `l` is an initial part of the entries of `l0` outside the block, of at most `room`
entries, and all of them where there is room (R154, R156, R485). -/
def keptEntries (s : State) (l0 l : List TlbEntry) (room : Nat) : Prop :=
  ∃ k : List TlbEntry, k.Sublist l0 ∧ (∀ g ∈ l0, g ∈ k ↔ ¬ InsertForm.block s g) ∧ l <+: k ∧ l.length = min k.length room

/-- The translation that was in the register which an insert writes shares bytes with a first-level segment. -/
def InsertForm.replaces (f : InsertForm) (s : State) (g : TlbEntry) : Prop :=
  ∃ (k : Fin 64) (o : TlbEntry), (∃ r, f.r3 = some r ∧ k.val = (s.gr r).val.toNat % 256) ∧ (f.regs s)[k] = some o ∧
    sharesBytes g o.rid o.va o.ps.toNat

/-- An insert COMPLETES at privilege level 0 with PSR.ic = 0, operands that can be read and that R485 admits, a register number
below 64, and no translation register of its side in the way. A cache entry becomes the most recently used of its cache, a register
takes the translation; overlapping cache entries go, and the least recently used ones where there is no room (128 less the
registers in use). The first level of the side loses exactly the overlapping segments and, for instructions, those of the translation that was
in the register (log 37), for data, those whose page the second level does not hold any more (R155); the other side, and everything else,
stays. -/
def InsertForm.Completes (i : Instr) (f : InsertForm) : Prop :=
  ∀ s : State, s.pred f.qp = true → s.cpl = 0 → s.psrIc = false → usable s f.r2 → (∀ r ∈ f.r3, usable s r) →
    insertable s (s.gr f.r2).val → (∀ r ∈ f.r3, (s.gr r).val.toNat % 256 < 64) →
    (∀ (k : Fin 64) g, (f.regs s)[k] = some g → ¬ InsertForm.block s g) →
      ∃ u e, exec i s = .next (retire s { s := u }) ∧ describes s (s.gr f.r2).val e ∧
        (let used := ((f.regs u).toList.filterMap id).length
         (f.r3 = none → ∃ l, f.cache u = e :: l ∧ keptEntries s (f.cache s) l (127 - used) ∧ f.regs u = f.regs s) ∧
         (∀ r, f.r3 = some r → keptEntries s (f.cache s) (f.cache u) (128 - used) ∧
           ∀ k : Fin 64, (f.regs u)[k] = if k.val = (s.gr r).val.toNat % 256 then some e else (f.regs s)[k])) ∧
        (if f.instr then u = { s with itr := u.itr, itcache := u.itcache, l1itlb := u.l1itlb }
          else u = { s with dtr := u.dtr, dtcache := u.dtcache, l1dtlb := u.l1dtlb }) ∧
        purgedList f.instr (fun g => InsertForm.block s g ∨ f.replaces s g) s.l1itlb u.l1itlb ∧
        purgedList (!f.instr) (fun g => InsertForm.block s g ∨ ¬ backedIn u g) s.l1dtlb u.l1dtlb

/-- A translation register of the side in the way is a machine check, a reserved operand a Reserved Register/Field fault (R485). -/
def InsertForm.Faults (i : Instr) (f : InsertForm) : Prop :=
  ∀ s : State, s.pred f.qp = true → s.cpl = 0 → s.psrIc = false → usable s f.r2 → (∀ r ∈ f.r3, usable s r) →
    (insertable s (s.gr f.r2).val → (∀ r ∈ f.r3, (s.gr r).val.toNat % 256 < 64) →
      (∃ (k : Fin 64) (g : TlbEntry), (f.regs s)[k] = some g ∧ InsertForm.block s g) →
        exec i s = .fault .machineCheckOverlap) ∧
    (¬ insertable s (s.gr f.r2).val ∨ (∃ r, f.r3 = some r ∧ 64 ≤ (s.gr r).val.toNat % 256) →
      Takes s (exec i s) .generalException 0x30)

/-- With PSR.ic = 1 an insert is an Illegal Operation (R485). -/
def InsertForm.NeedsIc (i : Instr) (f : InsertForm) : Prop :=
  ∀ s : State, s.pred f.qp = true → s.psrIc = true → Takes s (exec i s) .generalException 0

end Sys2Proof.Forms
end

