-- ==== Sys2Proof/Forms/Br.lean ====
section
/-! DEFINITION. Forms/Br.lean: the branches, with the target the spec gives them and what they leave
(`spec/45_b_type.md` R521 to R524, R541 to R544, R553 to R558). -/

namespace Sys2Proof.Forms

open Sys2Proof.Machine

/-- The target of `brl`: IP plus 16 times the displacement (R240). -/
def longTarget (s : State) (imm60 : BitVec 60) : Word := s.ip + BitVec.ofNat 64 (imm60.toNat * 16)

/-- The target in a branch register: its low 4 bits cleared (R521). -/
def regTarget (s : State) (b : BrIdx) : Word := BitVec.ofNat 64 ((s.br b).toNat / 16 * 16)

/-! ### Conditional branches and calls (R522, R523, R553) -/

/-- A branch that its predicate takes: its predicate and target. -/
structure CondForm where
  qp     : PredIdx
  target : State → Word

/-- The conditional branches. -/
def condForm : Instr → Option CondForm
  | .brCondBwhPhDhTarget25 qp imm21 _ => some { qp, target := fun s => relTarget s imm21 }
  | .brCondBwhPhDhB2 qp b2 _ => some { qp, target := fun s => regTarget s b2 }
  | .brlCondBwhPhDhTarget64 qp imm60 _ => some { qp, target := fun s => longTarget s imm60 }
  | _ => none

/-- Taken exactly when the predicate, as compares of the same group leave it, is 1; no register changes (R521, R522). -/
def CondForm.Correct (i : Instr) (f : CondForm) : Prop :=
  ∀ s : State, (s.branchPred f.qp = true → ∃ u, YieldsTo i s u (f.target s) ∧ s.OnlyEvents u) ∧
    (s.branchPred f.qp = false → ∃ u, Yields i s u ∧ s.OnlyEvents u)

/-- A call: its link register too. -/
structure CallForm where
  qp     : PredIdx
  b1     : BrIdx
  target : State → Word

/-- The calls. -/
def callForm : Instr → Option CallForm
  | .brCallBwhPhDhB1Target25 qp b1 imm21 _ => some { qp, b1, target := fun s => relTarget s imm21 }
  | .brCallBwhPhDhB1B2 qp b1 b2 _ _ _ => some { qp, b1, target := fun s => regTarget s b2 }
  | .brlCallBwhPhDhB1Target64 qp b1 imm60 _ => some { qp, b1, target := fun s => longTarget s imm60 }
  | _ => none

/-- What a call leaves: BR[b1] the next bundle, PFS the caller's CFM, EC and privilege level, the callee's frame the caller's
outputs without rotation, BSP above the caller's locals (R523). -/
def called (s u : State) (b1 : BrIdx) : Prop :=
  (s.wawFree (.br b1.toNat) .alu = false → u.cur.br[b1.toNat]'(b1.isLt) = s.ip + 16) ∧
  (∀ c : BrIdx, c ≠ b1 → u.cur.br[c.toNat]'(c.isLt) = s.cur.br[c.toNat]'(c.isLt)) ∧
  (s.wawFree (.ar 64) .alu = false → u.cur.pfs.extractLsb' 0 38 = s.cfm ∧ u.cur.pfs.extractLsb' 52 6 = s.old.ec ∧
    u.cur.pfs.extractLsb' 62 2 = s.cpl ∧ u.cur.pfs.extractLsb' 38 14 = 0 ∧ u.cur.pfs.extractLsb' 58 4 = 0) ∧
  cfmSof u.cfm = cfmSof s.cfm - cfmSol s.cfm ∧ cfmSol u.cfm = 0 ∧ cfmSor u.cfm = 0 ∧ cfmRrbGr u.cfm = 0 ∧
  cfmRrbFr u.cfm = 0 ∧ cfmRrbPr u.cfm = 0 ∧ u.bof = (s.bof + cfmSol s.cfm) % 96 ∧
  u.cur.bsp = rseAdd s.cur.bsp (cfmSol s.cfm) ∧
  u.cur = { s.cur with bsp := u.cur.bsp, br := u.cur.br, pfs := u.cur.pfs } ∧
  u = { s with cur := u.cur, cfm := u.cfm, bof := u.bof, grpWrites := u.grpWrites, events := u.events }

/-- A call with predicate 1 does all of this and goes to its target; with predicate 0 it does nothing (R523). -/
def CallForm.Correct (i : Instr) (f : CallForm) : Prop :=
  ∀ s : State, (s.branchPred f.qp = true → ∃ u, YieldsTo i s u (f.target s) ∧ called s u f.b1) ∧
    (s.branchPred f.qp = false → ∃ u, Yields i s u ∧ s.OnlyEvents u)

/-! ### Loops (R541 to R544) -/

/-- One rotation of the register names: each base one less, below 0 the size of its rotating part less 1 (R544). -/
def rotatedOnce (c d : BitVec 38) : Prop :=
  let dec := fun v n : Nat => if v = 0 then n - 1 else v - 1
  cfmSof d = cfmSof c ∧ cfmSol d = cfmSol c ∧ cfmSor d = cfmSor c ∧
  cfmRrbGr d = (if cfmSor c = 0 then cfmRrbGr c else dec (cfmRrbGr c) (8 * cfmSor c)) ∧
  cfmRrbFr d = dec (cfmRrbFr c) 96 ∧ cfmRrbPr d = dec (cfmRrbPr c) 48

/-- What a loop branch leaves: LC and EC as given, or as they were; PR[63] (the rotation names it PR[16]); and a rotation or
none. -/
def looped (s u : State) (lc : Option Word) (ec : Option (BitVec 6)) (p : Bool) (rot : Bool) : Prop :=
  (∀ v, lc = some v → s.wawFree (.ar 65) .alu = false → u.cur.lc = v) ∧ (lc = none → u.cur.lc = s.cur.lc) ∧
  (∀ v, ec = some v → s.wawFree (.ar 66) .alu = false → u.cur.ec = v) ∧ (ec = none → u.cur.ec = s.cur.ec) ∧
  (noPrHazard s .norm → u.cur.pr.getLsbD (s.prPhys 63) = p) ∧
  (∀ k, k < 64 → k ≠ s.prPhys 63 → u.cur.pr.getLsbD k = s.cur.pr.getLsbD k) ∧
  (rot = true → rotatedOnce s.cfm u.cfm) ∧ (rot = false → u.cfm = s.cfm) ∧
  u.cur = { s.cur with lc := u.cur.lc, ec := u.cur.ec, pr := u.cur.pr } ∧
  u = { s with cur := u.cur, cfm := u.cfm, grpWrites := u.grpWrites, grpPrAlu := u.grpPrAlu, events := u.events }

/-- A modulo-scheduled loop branch: the loop condition of the counted forms is LC, of the while forms a predicate; the exit forms
branch when the loop ends. -/
structure LoopForm where
  cond  : Option PredIdx
  exit  : Bool
  imm21 : BitVec 21
  deriving DecidableEq, Repr

/-- `br.ctop`, `br.cexit`, `br.wtop`, `br.wexit`. -/
def loopForm : Instr → Option LoopForm
  | .brCtopBwhPhDhTarget25 imm21 _ => some { cond := none, exit := false, imm21 }
  | .brCexitBwhPhDhTarget25 imm21 _ => some { cond := none, exit := true, imm21 }
  | .brWtopBwhPhDhTarget25 qp imm21 _ => some { cond := some qp, exit := false, imm21 }
  | .brWexitBwhPhDhTarget25 qp imm21 _ => some { cond := some qp, exit := true, imm21 }
  | _ => none

/-- The loop goes on: branch back for the top forms, fall through for the exit forms. -/
def LoopForm.Goes (i : Instr) (f : LoopForm) (s : State) (on : Bool) (q : State → Prop) : Prop :=
  if on = f.exit then ∃ u, Yields i s u ∧ q u else ∃ u, YieldsTo i s u (relTarget s f.imm21) ∧ q u

/-- In slot 2: the kernel phase counts LC down and starts an iteration, the epilogue counts EC down; with both at their end PR[63]
is cleared and the names stay; with EC = 1 they rotate once more as the loop ends (R542, R543). In another slot it is an Illegal
Operation (R541). -/
def LoopForm.Correct (i : Instr) (f : LoopForm) : Prop :=
  ∀ s : State, let kernel := match f.cond with
      | none => decide (s.old.lc ≠ 0)
      | some qp => s.branchPred qp
    (s.ri ≠ 2 → Takes s (exec i s) .generalException 0) ∧
    (s.ri = 2 → kernel = true →
      f.Goes i s true fun u => looped s u (if f.cond = none then some (s.old.lc - 1) else none) none (f.cond = none) true) ∧
    (s.ri = 2 → kernel = false → s.old.ec ≠ 0 →
      f.Goes i s (decide (s.old.ec ≠ 1)) fun u => looped s u none (some (s.old.ec - 1)) false true) ∧
    (s.ri = 2 → kernel = false → s.old.ec = 0 → f.Goes i s false fun u => looped s u none none false false)

end Sys2Proof.Forms
end

