-- ==== Sys2Proof/Forms/Fp.lean ====
section
/-! DEFINITION. Forms/Fp.lean: the floating-point instructions, with what the spec says they leave
(`spec/44_f_type.md` R502 to R514, `spec/42_m_type_memory.md` R405). -/

namespace Sys2Proof.Forms

open Sys2Proof.Machine

/-! ### Moves, merges and bit operations -/

/-- An instruction that writes FR[f1] without arithmetic. -/
structure FpMoveForm where
  qp    : PredIdx
  f1    : FrIdx
  srcs  : List FrIdx := []
  ready : State → Prop := fun _ => True
  val   : State → FReg

/-- No register of the list is in a disabled half (R589). -/
def fpReady (s : State) (l : List FrIdx) : Prop := ∀ f ∈ l, s.frDisabled f = 0

/-- A source is NaTVal. -/
def someNatVal (s : State) (l : List FrIdx) : Prop := ∃ f ∈ l, s.fr f = FReg.natVal

/-- The instruction completes: FR[f1] is NaTVal when a source is, else as the spec says; nothing else but PSR.mfl or PSR.mfh
changes (R503, R504, R514). -/
def FpMoveForm.Correct (i : Instr) (f : FpMoveForm) : Prop :=
  ∀ s : State, s.pred f.qp = true → frTargetOk f.f1 = true → fpReady s (f.f1 :: f.srcs) → f.ready s →
    ∃ u v, Yields i s u ∧ s.WroteFr u f.f1 v s.cur.fpsr ∧
      (someNatVal s f.srcs → v = FReg.natVal) ∧ (¬ someNatVal s f.srcs → v = f.val s)

/-- A significand with sign 0 and exponent 0x1003E, from a number modulo 2^64 (R502). -/
def sigOf (n : Int) : FReg := { sign := false, exp := 0x1003E, sig := BitVec.ofInt 64 n }

/-- The same from the bits of the significand. -/
def sigBits (f : Nat → Bool) : FReg :=
  { sign := false, exp := 0x1003E, sig := BitVec.ofBoolListLE ((List.range 64).map f) }

/-- Formats F2, F3, F9 and `fcvt.xf` (R504, R506, R507, R512). -/
def fpMoveForm : Instr → Option FpMoveForm
  | .xmaLF1F3F4F2 qp f1 f3 f4 f2 =>
    some { qp, f1, srcs := [f3, f4, f2], val := fun s => sigOf (((s.fr f3).sig.toInt * (s.fr f4).sig.toInt + (s.fr f2).sig.toNat) % 2 ^ 64) }
  | .xmaHF1F3F4F2 qp f1 f3 f4 f2 =>
    some { qp, f1, srcs := [f3, f4, f2], val := fun s => sigOf (((s.fr f3).sig.toInt * (s.fr f4).sig.toInt + (s.fr f2).sig.toNat) / 2 ^ 64) }
  | .xmaHuF1F3F4F2 qp f1 f3 f4 f2 =>
    some { qp, f1, srcs := [f3, f4, f2], val := fun s => sigOf (((s.fr f3).sig.toNat * (s.fr f4).sig.toNat + (s.fr f2).sig.toNat) / 2 ^ 64 : Nat) }
  | .fselectF1F3F4F2 qp f1 f3 f4 f2 =>
    some { qp, f1, srcs := [f3, f4, f2], val := fun s => sigBits fun k => if (s.fr f2).sig.getLsbD k then (s.fr f3).sig.getLsbD k else (s.fr f4).sig.getLsbD k }
  | .fmergeSF1F2F3 qp f1 f2 f3 =>
    some { qp, f1, srcs := [f2, f3], val := fun s => { sign := (s.fr f2).sign, exp := (s.fr f3).exp, sig := (s.fr f3).sig } }
  | .fmergeNsF1F2F3 qp f1 f2 f3 =>
    some { qp, f1, srcs := [f2, f3], val := fun s => { sign := !(s.fr f2).sign, exp := (s.fr f3).exp, sig := (s.fr f3).sig } }
  | .fmergeSeF1F2F3 qp f1 f2 f3 =>
    some { qp, f1, srcs := [f2, f3], val := fun s => { sign := (s.fr f2).sign, exp := (s.fr f2).exp, sig := (s.fr f3).sig } }
  | .fandF1F2F3 qp f1 f2 f3 =>
    some { qp, f1, srcs := [f2, f3], val := fun s => sigBits fun k => (s.fr f2).sig.getLsbD k && (s.fr f3).sig.getLsbD k }
  | .fandcmF1F2F3 qp f1 f2 f3 =>
    some { qp, f1, srcs := [f2, f3], val := fun s => sigBits fun k => (s.fr f2).sig.getLsbD k && !(s.fr f3).sig.getLsbD k }
  | .forF1F2F3 qp f1 f2 f3 =>
    some { qp, f1, srcs := [f2, f3], val := fun s => sigBits fun k => (s.fr f2).sig.getLsbD k || (s.fr f3).sig.getLsbD k }
  | .fxorF1F2F3 qp f1 f2 f3 =>
    some { qp, f1, srcs := [f2, f3], val := fun s => sigBits fun k => (s.fr f2).sig.getLsbD k != (s.fr f3).sig.getLsbD k }
  | .fmixLF1F2F3 qp f1 f2 f3 =>
    some { qp, f1, srcs := [f2, f3], val := fun s => sigBits fun k => if k < 32 then (s.fr f3).sig.getLsbD (k + 32) else (s.fr f2).sig.getLsbD k }
  | .fmixRF1F2F3 qp f1 f2 f3 =>
    some { qp, f1, srcs := [f2, f3], val := fun s => sigBits fun k => if k < 32 then (s.fr f3).sig.getLsbD k else (s.fr f2).sig.getLsbD (k - 32) }
  | .fmixLrF1F2F3 qp f1 f2 f3 =>
    some { qp, f1, srcs := [f2, f3], val := fun s => sigBits fun k => if k < 32 then (s.fr f3).sig.getLsbD k else (s.fr f2).sig.getLsbD k }
  | .fsxtLF1F2F3 qp f1 f2 f3 =>
    some { qp, f1, srcs := [f2, f3], val := fun s => sigBits fun k => if k < 32 then (s.fr f3).sig.getLsbD (k + 32) else (s.fr f2).sig.getLsbD 63 }
  | .fsxtRF1F2F3 qp f1 f2 f3 =>
    some { qp, f1, srcs := [f2, f3], val := fun s => sigBits fun k => if k < 32 then (s.fr f3).sig.getLsbD k else (s.fr f2).sig.getLsbD 31 }
  | .fpackF1F2F3 qp f1 f2 f3 =>
    some { qp, f1, srcs := [f2, f3], val := fun s => sigOf (FpFormat.single.toMem (s.fr f2) * 2 ^ 32 + FpFormat.single.toMem (s.fr f3) : Nat) }
  | .fswapF1F2F3 qp f1 f2 f3 =>
    some { qp, f1, srcs := [f2, f3], val := fun s => sigBits fun k => if k < 32 then (s.fr f2).sig.getLsbD (k + 32) else (s.fr f3).sig.getLsbD (k - 32) }
  | .fswapNlF1F2F3 qp f1 f2 f3 =>
    some { qp, f1, srcs := [f2, f3], val := fun s => sigBits fun k => if k < 32 then (s.fr f2).sig.getLsbD (k + 32) else ((s.fr f3).sig.getLsbD (k - 32) != decide (k = 63)) }
  | .fswapNrF1F2F3 qp f1 f2 f3 =>
    some { qp, f1, srcs := [f2, f3], val := fun s => sigBits fun k => if k < 32 then ((s.fr f2).sig.getLsbD (k + 32) != decide (k = 31)) else (s.fr f3).sig.getLsbD (k - 32) }
  | .fpmergeSF1F2F3 qp f1 f2 f3 =>
    some { qp, f1, srcs := [f2, f3], val := fun s => sigBits fun k => if k = 31 ∨ k = 63 then (s.fr f2).sig.getLsbD k else (s.fr f3).sig.getLsbD k }
  | .fpmergeNsF1F2F3 qp f1 f2 f3 =>
    some { qp, f1, srcs := [f2, f3], val := fun s => sigBits fun k => if k = 31 ∨ k = 63 then !(s.fr f2).sig.getLsbD k else (s.fr f3).sig.getLsbD k }
  | .fpmergeSeF1F2F3 qp f1 f2 f3 =>
    some { qp, f1, srcs := [f2, f3], val := fun s => sigBits fun k => if k % 32 < 23 then (s.fr f3).sig.getLsbD k else (s.fr f2).sig.getLsbD k }
  | .fcvtXfF1F2 qp f1 f2 =>
    some { qp, f1, srcs := [f2], val := fun s => fcvtXf (s.fr f2) }
  | _ => none

/-- Format M18 (R405). -/
def setfForm : Instr → Option FpMoveForm
  | .setfSigF1R2 qp f1 r2 =>
    some { qp, f1, ready := fun s => s.grVisible r2 = true,
           val := fun s => if (s.gr r2).nat then FReg.natVal else sigOf ((s.gr r2).val.toNat : Nat) }
  | .setfExpF1R2 qp f1 r2 =>
    some { qp, f1, ready := fun s => s.grVisible r2 = true,
           val := fun s => if (s.gr r2).nat then FReg.natVal else { sign := (s.gr r2).val.getLsbD 17, exp := (s.gr r2).val.setWidth 17, sig := 0x8000000000000000 } }
  | .setfSF1R2 qp f1 r2 =>
    some { qp, f1, ready := fun s => s.grVisible r2 = true,
           val := fun s => if (s.gr r2).nat then FReg.natVal else FpFormat.single.toReg ((s.gr r2).val.toNat % 2 ^ 32) }
  | .setfDF1R2 qp f1 r2 =>
    some { qp, f1, ready := fun s => s.grVisible r2 = true,
           val := fun s => if (s.gr r2).nat then FReg.natVal else FpFormat.double.toReg (s.gr r2).val.toNat }
  | _ => none

/-! ### Arithmetic -/

/-- An arithmetic instruction: its status field and what it computes. -/
structure FpForm where
  qp   : PredIdx
  f1   : FrIdx
  srcs : List FrIdx
  sf   : BitVec 2
  res  : State → FpResult

/-- The traps V, D, Z, O, U, I that status field `sf` enables: `traps` bit 0 and `td` 0 (R31, R503). -/
def trapOn (s : State) (sf : BitVec 2) (k : Nat) : Bool :=
  !s.old.fpsr.getLsbD (6 + 13 * sf.toNat + 6) && !s.old.fpsr.getLsbD k

/-- An outcome raises no fault: V, D, Z are masked where they hold; no software assist is asked for (R561, U44). -/
def quiet (s : State) (sf : BitVec 2) (o : FpOut) (site : Nat) : Prop :=
  (o.v = true → trapOn s sf 0 = false) ∧ (o.d = true → trapOn s sf 1 = false) ∧ (o.z = true → trapOn s sf 2 = false) ∧
    (o.d = true ∨ o.tiny = true → s.freeBool site = false)

/-- The instruction raises no Floating-Point Exception fault. -/
def noFpFault (s : State) (sf : BitVec 2) (r : FpResult) : Prop := quiet s sf r.lo 7000 ∧ quiet s sf r.hi 7001

/-- A result raises flag `k` of v, d, z, o, u, i, in either half (R503). -/
def raised (r : FpResult) (k : Nat) : Bool :=
  match k with
  | 0 => r.lo.v || r.hi.v
  | 1 => r.lo.d || r.hi.d
  | 2 => r.lo.z || r.hi.z
  | 3 => r.lo.o || r.hi.o
  | 4 => r.lo.u || r.hi.u
  | 5 => r.lo.i || r.hi.i
  | _ => false

/-- Position `k` is not one of the six flags of status field `sf` of AR[FPSR] (R31). -/
def outsideFlags (sf : BitVec 2) (k : Nat) : Prop := k < 6 + 13 * sf.toNat + 7 ∨ 6 + 13 * sf.toNat + 13 ≤ k

/-- `w` is AR[FPSR] with the flags of a result added to status field `sf`, and no other bit changed (R503); where the group wrote the
field's flags otherwise before, they are not fixed (R911). -/
def withFlags (s : State) (sf : BitVec 2) (r : FpResult) (w : Word) : Prop :=
  (∀ k, k < 64 → outsideFlags sf k → w.getLsbD k = s.cur.fpsr.getLsbD k) ∧
  ((∀ k, raised r k = false) → w = s.cur.fpsr) ∧
  (s.wawFree (.part 40 (4 + sf.toNat)) .sticky = false → ∀ k, k < 6 →
    w.getLsbD (6 + 13 * sf.toNat + 7 + k) = (s.cur.fpsr.getLsbD (6 + 13 * sf.toNat + 7 + k) || raised r k))

/-- One of O, U, I holds with its trap enabled (R561). -/
def fpTraps (s : State) (sf : BitVec 2) (r : FpResult) : Prop :=
  (trapOn s sf 3 = true ∧ (r.lo.o = true ∨ r.hi.o = true)) ∨ (trapOn s sf 4 = true ∧ (r.lo.u = true ∨ r.hi.u = true)) ∨
    (trapOn s sf 5 = true ∧ (r.lo.i = true ∨ r.hi.i = true))

/-- With a NaTVal source the result is NaTVal and no flag changes; without a fault the target and the flags are written, with a
trap to follow exactly when one is enabled (R503, R514, R561). -/
def FpForm.Correct (i : Instr) (f : FpForm) : Prop :=
  ∀ s : State, s.pred f.qp = true → frTargetOk f.f1 = true → fpReady s (f.f1 :: f.srcs) →
    (someNatVal s f.srcs → ∃ u, Yields i s u ∧ s.WroteFr u f.f1 FReg.natVal s.cur.fpsr) ∧
    (¬ someNatVal s f.srcs → noFpFault s f.sf (f.res s) →
      ∃ u w tr, exec i s = .next (retire s { s := u, fpTrap := tr }) ∧ (tr.isSome = true ↔ fpTraps s f.sf (f.res s)) ∧
        withFlags s f.sf (f.res s) w ∧ s.WroteFr u f.f1 (f.res s).res w)

/-- With a fault nothing is written: ISR.code holds V, D, Z and SWA of the low half in bits 3:0, of the high half in bits 7:4
(R561). -/
def FpForm.Faults (i : Instr) (f : FpForm) : Prop :=
  ∀ s : State, s.pred f.qp = true → frTargetOk f.f1 = true → fpReady s (f.f1 :: f.srcs) → ¬ someNatVal s f.srcs →
    ¬ noFpFault s f.sf (f.res s) →
      ∃ c : BitVec 16, Takes s (exec i s) .fpFault c ∧
        (c.getLsbD 0 = ((f.res s).lo.v && trapOn s f.sf 0)) ∧ (c.getLsbD 1 = ((f.res s).lo.d && trapOn s f.sf 1)) ∧
        (c.getLsbD 2 = ((f.res s).lo.z && trapOn s f.sf 2)) ∧ (c.getLsbD 4 = ((f.res s).hi.v && trapOn s f.sf 0)) ∧
        (c.getLsbD 5 = ((f.res s).hi.d && trapOn s f.sf 1)) ∧ (c.getLsbD 6 = ((f.res s).hi.z && trapOn s f.sf 2)) ∧
        c.toNat < 256

/-- `fma`, `fms`, `fnma` with a precision completer (R505). -/
def fmaOf (k : FmaKind) (p : FpPrec) (qp : PredIdx) (sf : BitVec 2) (f1 f3 f4 f2 : FrIdx) : FpForm :=
  { qp, f1, srcs := [f3, f4, f2], sf,
    res := fun s => .scalar ((s.fpEnv sf p).fma k (s.fr f3) (s.fr f4) (s.fr f2) (decide (f2 = 0))) }

/-- The parallel forms: both halves in single precision (R505). -/
def fpmaOf (k : FmaKind) (qp : PredIdx) (sf : BitVec 2) (f1 f3 f4 f2 : FrIdx) : FpForm :=
  { qp, f1, srcs := [f3, f4, f2], sf,
    res := fun s =>
      let h := fun b =>
        (s.fpEnv sf .simd).fma k ((s.fr f3).half b) ((s.fr f4).half b) ((s.fr f2).half b) (decide (f2 = 0))
      .parallel (h true) (h false) }

/-- Format F1 (R505). -/
def fmaForm : Instr → Option FpForm
  | .fmaSfF1F3F4F2 qp sf f1 f3 f4 f2 => some (fmaOf .fma .none qp sf f1 f3 f4 f2)
  | .fmaSSfF1F3F4F2 qp sf f1 f3 f4 f2 => some (fmaOf .fma .single qp sf f1 f3 f4 f2)
  | .fmaDSfF1F3F4F2 qp sf f1 f3 f4 f2 => some (fmaOf .fma .double qp sf f1 f3 f4 f2)
  | .fpmaSfF1F3F4F2 qp sf f1 f3 f4 f2 => some (fpmaOf .fma qp sf f1 f3 f4 f2)
  | .fmsSfF1F3F4F2 qp sf f1 f3 f4 f2 => some (fmaOf .fms .none qp sf f1 f3 f4 f2)
  | .fmsSSfF1F3F4F2 qp sf f1 f3 f4 f2 => some (fmaOf .fms .single qp sf f1 f3 f4 f2)
  | .fmsDSfF1F3F4F2 qp sf f1 f3 f4 f2 => some (fmaOf .fms .double qp sf f1 f3 f4 f2)
  | .fpmsSfF1F3F4F2 qp sf f1 f3 f4 f2 => some (fpmaOf .fms qp sf f1 f3 f4 f2)
  | .fnmaSfF1F3F4F2 qp sf f1 f3 f4 f2 => some (fmaOf .fnma .none qp sf f1 f3 f4 f2)
  | .fnmaSSfF1F3F4F2 qp sf f1 f3 f4 f2 => some (fmaOf .fnma .single qp sf f1 f3 f4 f2)
  | .fnmaDSfF1F3F4F2 qp sf f1 f3 f4 f2 => some (fmaOf .fnma .double qp sf f1 f3 f4 f2)
  | .fpnmaSfF1F3F4F2 qp sf f1 f3 f4 f2 => some (fpmaOf .fnma qp sf f1 f3 f4 f2)
  | _ => none

/-- Minimum and maximum (R507). -/
def minMaxOf (m : MinMax) (qp : PredIdx) (sf : BitVec 2) (f1 f2 f3 : FrIdx) : FpForm :=
  { qp, f1, srcs := [f2, f3], sf, res := fun s => .scalar (fpMinMax m (s.fr f2) (s.fr f3)) }

/-- Minimum and maximum of both halves (R507). -/
def minMaxPairOf (m : MinMax) (qp : PredIdx) (sf : BitVec 2) (f1 f2 f3 : FrIdx) : FpForm :=
  { qp, f1, srcs := [f2, f3], sf,
    res := fun s =>
      let h := fun b => fpMinMax m ((s.fr f2).half b) ((s.fr f3).half b)
      .parallel (h true) (h false) }

/-- `fpcmp`: all ones in each half where the relation holds (R507). -/
def fpcmpOf (rel : FpRel) (qp : PredIdx) (sf : BitVec 2) (f1 f2 f3 : FrIdx) : FpForm :=
  { qp, f1, srcs := [f2, f3], sf,
    res := fun s =>
      let o := fun b => fpCompareOut rel ((s.fr f2).half b) ((s.fr f3).half b)
      let holds := fun b => rel.holds (fpOrder ((s.fr f2).half b) ((s.fr f3).half b))
      { lo := o false, hi := o true, res := sigBits fun k => if k < 32 then holds false else holds true } }

/-- Format F8 (R507). -/
def minMaxForm : Instr → Option FpForm
  | .fminSfF1F2F3 qp f1 f2 f3 sf => some (minMaxOf .min qp sf f1 f2 f3)
  | .fmaxSfF1F2F3 qp f1 f2 f3 sf => some (minMaxOf .max qp sf f1 f2 f3)
  | .faminSfF1F2F3 qp f1 f2 f3 sf => some (minMaxOf .amin qp sf f1 f2 f3)
  | .famaxSfF1F2F3 qp f1 f2 f3 sf => some (minMaxOf .amax qp sf f1 f2 f3)
  | .fpminSfF1F2F3 qp f1 f2 f3 sf => some (minMaxPairOf .min qp sf f1 f2 f3)
  | .fpmaxSfF1F2F3 qp f1 f2 f3 sf => some (minMaxPairOf .max qp sf f1 f2 f3)
  | .fpaminSfF1F2F3 qp f1 f2 f3 sf => some (minMaxPairOf .amin qp sf f1 f2 f3)
  | .fpamaxSfF1F2F3 qp f1 f2 f3 sf => some (minMaxPairOf .amax qp sf f1 f2 f3)
  | .fpcmpFrelSfF1F2F3 qp f1 f2 f3 frel sf => some (fpcmpOf frel qp sf f1 f2 f3)
  | _ => none

/-- `fcvt.fx`: to a 64-bit integer; `.trunc` rounds toward zero (R512). -/
def cvtOf (unsigned trunc : Bool) (qp : PredIdx) (sf : BitVec 2) (f1 f2 : FrIdx) : FpForm :=
  { qp, f1, srcs := [f2], sf,
    res := fun s => .scalar (fcvt64 (if trunc then 3 else s.old.fpsr.extractLsb' (6 + 13 * sf.toNat + 4) 2) unsigned
      (s.fr f2)) }

/-- `fpcvt.fx`: both halves to 32-bit integers (R512). -/
def cvtPairOf (unsigned trunc : Bool) (qp : PredIdx) (sf : BitVec 2) (f1 f2 : FrIdx) : FpForm :=
  { qp, f1, srcs := [f2], sf,
    res := fun s =>
      let h := fun b =>
        fcvt32 (if trunc then 3 else s.old.fpsr.extractLsb' (6 + 13 * sf.toNat + 4) 2) unsigned ((s.fr f2).half b)
      { lo := h false, hi := h true,
        res := sigBits fun k => if k < 32 then (h false).res.sig.getLsbD k else (h true).res.sig.getLsbD (k - 32) } }

/-- Format F10 (R512). -/
def cvtForm : Instr → Option FpForm
  | .fcvtFxSfF1F2 qp f1 f2 sf => some (cvtOf false false qp sf f1 f2)
  | .fcvtFxTruncSfF1F2 qp f1 f2 sf => some (cvtOf false true qp sf f1 f2)
  | .fcvtFxuSfF1F2 qp f1 f2 sf => some (cvtOf true false qp sf f1 f2)
  | .fcvtFxuTruncSfF1F2 qp f1 f2 sf => some (cvtOf true true qp sf f1 f2)
  | .fpcvtFxSfF1F2 qp f1 f2 sf => some (cvtPairOf false false qp sf f1 f2)
  | .fpcvtFxTruncSfF1F2 qp f1 f2 sf => some (cvtPairOf false true qp sf f1 f2)
  | .fpcvtFxuSfF1F2 qp f1 f2 sf => some (cvtPairOf true false qp sf f1 f2)
  | .fpcvtFxuTruncSfF1F2 qp f1 f2 sf => some (cvtPairOf true true qp sf f1 f2)
  | _ => none

/-! ### Rounding (R503) -/

/-- The difference of two exact values, in units of the smaller of their last places. -/
def roundError (a x : Exact) : Int := let k := min a.k x.k; a.scaled k - x.scaled k

/-- One unit in the last of the `p` places of the register value `a` (64 bits with `64 - p` zeros), in the same units. -/
def ulpOf (p : Nat) (a x : Exact) : Int := 2 ^ (a.k + (64 - p : Nat) - min a.k x.k).toNat

/-! ### Compares -/

/-- A floating-point compare. -/
structure FcmpForm where
  qp  : PredIdx
  ct  : CmpType
  sf  : BitVec 2
  p1  : PredIdx
  p2  : PredIdx
  f2  : FrIdx
  f3  : FrIdx
  rel : FpRel
  deriving DecidableEq, Repr

/-- The relation of two values; a NaN or an unsupported value is unordered (R507). -/
def FcmpForm.holds (s : State) (f : FcmpForm) : Bool := f.rel.holds (fpOrder (s.fr f.f2) (s.fr f.f3))

/-- The conditions of a compare: V for a signaling or unsupported operand and, for `lt` and `le`, a quiet NaN; D for an
unnormal one (R507). -/
def FcmpForm.out (s : State) (f : FcmpForm) : FpResult := .scalar (fpCompareOut f.rel (s.fr f.f2) (s.fr f.f3))

/-- `u` has the predicates `pr` and AR[FPSR] `w`; nothing else but the notes of the group and the events changed. -/
def wrotePrFp (s u : State) (pr : Nat → Bool) (w : Word) : Prop :=
  (∀ k, k < 64 → u.cur.pr.getLsbD k = pr k) ∧ u.cur = { s.cur with pr := u.cur.pr, fpsr := w } ∧
  u = { s with cur := u.cur, grpPrAlu := u.grpPrAlu, grpWrites := u.grpWrites, events := u.events }

/-- The predicates are written by the relation, both cleared for a NaTVal operand; a fault writes nothing (R507). -/
def FcmpForm.Correct (i : Instr) (f : FcmpForm) : Prop :=
  ∀ s : State, s.pred f.qp = true → f.p1 ≠ f.p2 → fpReady s [f.f2, f.f3] → noPrHazard s f.ct →
    (someNatVal s [f.f2, f.f3] →
      ∃ u, Yields i s u ∧ wrotePrFp s u (prAfter s f.p1 f.p2 (some false, some false)) s.cur.fpsr) ∧
    (¬ someNatVal s [f.f2, f.f3] → noFpFault s f.sf (f.out s) →
      ∃ u w, Yields i s u ∧ withFlags s f.sf (f.out s) w ∧
        wrotePrFp s u (prAfter s f.p1 f.p2 (some (f.holds s), some !(f.holds s))) w) ∧
    (¬ someNatVal s [f.f2, f.f3] → ¬ noFpFault s f.sf (f.out s) → ∃ c, Takes s (exec i s) .fpFault c)

/-- With predicate 0 `unc` clears both targets; one register as both is an Illegal Operation (R507, R241). -/
def FcmpForm.Guarded (i : Instr) (f : FcmpForm) : Prop :=
  ∀ s : State,
    (s.pred f.qp = false → f.ct = .unc → f.p1 ≠ f.p2 → noPrHazard s .unc →
      ∃ u, Yields i s u ∧ wrotePrFp s u (prAfter s f.p1 f.p2 (some false, some false)) s.cur.fpsr) ∧
    (f.p1 = f.p2 → (f.ct = .unc ∨ s.pred f.qp = true) → Takes s (exec i s) .generalException 0)

/-- Format F4 (R507). -/
def fcmpForm : Instr → Option FcmpForm
  | .fcmpEqSfP1P2F2F3 qp p1 p2 f2 f3 sf =>
    some { qp, ct := .norm, sf, p1, p2, f2, f3, rel := .eq }
  | .fcmpEqUncSfP1P2F2F3 qp p1 p2 f2 f3 sf =>
    some { qp, ct := .unc, sf, p1, p2, f2, f3, rel := .eq }
  | .fcmpLtSfP1P2F2F3 qp p1 p2 f2 f3 sf =>
    some { qp, ct := .norm, sf, p1, p2, f2, f3, rel := .lt }
  | .fcmpLtUncSfP1P2F2F3 qp p1 p2 f2 f3 sf =>
    some { qp, ct := .unc, sf, p1, p2, f2, f3, rel := .lt }
  | .fcmpLeSfP1P2F2F3 qp p1 p2 f2 f3 sf =>
    some { qp, ct := .norm, sf, p1, p2, f2, f3, rel := .le }
  | .fcmpLeUncSfP1P2F2F3 qp p1 p2 f2 f3 sf =>
    some { qp, ct := .unc, sf, p1, p2, f2, f3, rel := .le }
  | .fcmpUnordSfP1P2F2F3 qp p1 p2 f2 f3 sf =>
    some { qp, ct := .norm, sf, p1, p2, f2, f3, rel := .unord }
  | .fcmpUnordUncSfP1P2F2F3 qp p1 p2 f2 f3 sf =>
    some { qp, ct := .unc, sf, p1, p2, f2, f3, rel := .unord }
  | _ => none

/-! ### Approximations (R510) -/

/-- `frcpa`, `frsqrta` and their parallel forms: the result and whether it is an approximation. -/
structure ApproxForm where
  qp   : PredIdx
  f1   : FrIdx
  p2   : PredIdx
  srcs : List FrIdx
  sf   : BitVec 2
  res  : State → FpResult
  ok   : State → Bool

/-- FR[f1], PR[p2] and AR[FPSR] are written; nothing else but PSR.mfl or PSR.mfh, the notes of the group and the events
changed. -/
def wroteApprox (s u : State) (f1 : FrIdx) (v : FReg) (p2 : PredIdx) (ok : Bool) (w : Word) : Prop :=
  (s.wawFree (.fr (s.frPhys f1)) .alu = false → u.cur.frAt (s.frPhys f1) = v) ∧
  (∀ p, p ≠ s.frPhys f1 → u.cur.frAt p = s.cur.frAt p) ∧
  (∀ k, k < 64 → k ≠ s.prPhys p2 → u.cur.pr.getLsbD k = s.cur.pr.getLsbD k) ∧
  (noPrHazard s .norm → p2 ≠ 0 → u.cur.pr.getLsbD (s.prPhys p2) = ok) ∧
  u.cur = { s.cur with fr := u.cur.fr, fpsr := w, pr := u.cur.pr } ∧
  u = { s with cur := u.cur, psr := u.psr, grpWrites := u.grpWrites, grpPrAlu := u.grpPrAlu, events := u.events } ∧ s.MarksFr u [f1]

/-- The approximation or the exact special case, with PR[p2] 1 or 0; NaTVal clears PR[p2]; so does predicate 0, which leaves
FR[f1] (R503, R510). -/
def ApproxForm.Correct (i : Instr) (f : ApproxForm) : Prop :=
  ∀ s : State, frTargetOk f.f1 = true →
    (s.pred f.qp = false → ∃ u, Yields i s u ∧
      (∀ k, k < 64 → k ≠ s.prPhys f.p2 → u.cur.pr.getLsbD k = s.cur.pr.getLsbD k) ∧
      (noPrHazard s .norm → f.p2 ≠ 0 → u.cur.pr.getLsbD (s.prPhys f.p2) = false) ∧
      u.cur = { s.cur with pr := u.cur.pr } ∧ u = { s with cur := u.cur, grpPrAlu := u.grpPrAlu, events := u.events }) ∧
    (s.pred f.qp = true → fpReady s (f.f1 :: f.srcs) →
      (someNatVal s f.srcs → ∃ u, Yields i s u ∧ wroteApprox s u f.f1 FReg.natVal f.p2 false s.cur.fpsr) ∧
      (¬ someNatVal s f.srcs → noFpFault s f.sf (f.res s) →
        ∃ u w tr, exec i s = .next (retire s { s := u, fpTrap := tr }) ∧ withFlags s f.sf (f.res s) w ∧
          wroteApprox s u f.f1 (f.res s).res f.p2 (f.ok s) w) ∧
      (¬ someNatVal s f.srcs → ¬ noFpFault s f.sf (f.res s) → ∃ c, Takes s (exec i s) .fpFault c))

/-- The scalar result: the table's value, or the special case (R510). -/
def approxOf (q : Option FpOut) (ops : List FReg) (approx : FReg) : FpOut :=
  q.getD { res := approx, d := ops.any fun f => decide (f.fpClass = .unnormal) }

/-- Formats F6 and F7 (R510). -/
def approxForm : Instr → Option ApproxForm
  | .frcpaSfF1P2F2F3 qp f1 p2 f2 f3 sf =>
    let q := fun s : State =>
      (s.fpEnv sf .none).quotient (s.fr f2) (s.fr f3)
        (Config.recipOutOfRange (s.fr f2) (s.fr f3) || recipOverflows .register (s.fr f3))
    some { qp, f1, p2, srcs := [f2, f3], sf, ok := fun s => (q s).isNone,
           res := fun s => .scalar (approxOf (q s) [s.fr f2, s.fr f3] (recipBounded FpEnv.register (Config.recipApprox (s.fr f3)) (s.fr f3))) }
  | .frsqrtaSfF1P2F3 qp f1 p2 f3 sf =>
    let q := fun s : State => (s.fpEnv sf .none).root (s.fr f3) (Config.rsqrtOutOfRange (s.fr f3))
    some { qp, f1, p2, srcs := [f3], sf, ok := fun s => (q s).isNone,
           res := fun s => .scalar (approxOf (q s) [s.fr f3] (rsqrtBounded FpEnv.register (Config.rsqrtApprox (s.fr f3)) (s.fr f3))) }
  | .fprcpaSfF1P2F2F3 qp f1 p2 f2 f3 sf =>
    let q := fun (s : State) b =>
      (s.fpEnv sf .simd).quotient ((s.fr f2).half b) ((s.fr f3).half b)
        (Config.recipOutOfRangeSingle ((s.fr f2).bits32 b) ((s.fr f3).bits32 b) || recipOverflows .singles ((s.fr f3).half b))
    let o := fun (s : State) b =>
      approxOf (q s b) [(s.fr f2).half b, (s.fr f3).half b]
        (recipBounded FpEnv.singles (singleToReg (Config.recipApproxSingle ((s.fr f3).bits32 b))) ((s.fr f3).half b))
    some { qp, f1, p2, srcs := [f2, f3], sf, ok := fun s => (q s true).isNone && (q s false).isNone,
           res := fun s => .parallel (o s true) (o s false) }
  | .fprsqrtaSfF1P2F3 qp f1 p2 f3 sf =>
    let q := fun (s : State) b =>
      (s.fpEnv sf .simd).root ((s.fr f3).half b) (Config.rsqrtOutOfRangeSingle ((s.fr f3).bits32 b))
    let o := fun (s : State) b =>
      approxOf (q s b) [(s.fr f3).half b]
        (rsqrtBounded FpEnv.singles (singleToReg (Config.rsqrtApproxSingle ((s.fr f3).bits32 b))) ((s.fr f3).half b))
    some { qp, f1, p2, srcs := [f3], sf, ok := fun s => (q s true).isNone && (q s false).isNone,
           res := fun s => .parallel (o s true) (o s false) }
  | _ => none

/-- The general registers that a floating-point load, store or `setf` reads are inside the frame, which is checked first (R426). -/
def grSourcesVisible (i : Instr) (s : State) : Prop :=
  (∀ f : LoadForm, fpLoadForm i = some f ∨ fpPairForm i = some f → s.grVisible f.r3 = true ∧
    ∀ r2, f.u = .reg r2 → s.grVisible r2 = true) ∧
  (∀ f : StoreForm, fpStoreForm i = some f → s.grVisible f.r3 = true) ∧ ∀ f, setfForm i = some f → f.ready s

end Sys2Proof.Forms
end

