-- ==== Sys2Proof/Forms/FpValue.lean ====
section
/-! DEFINITION. Forms/FpValue.lean: floating-point registers as numbers, read off the encoding table of R502, and what comparing, choosing,
classifying and rounding to an integer mean for numbers (`spec/44_f_type.md` R502, R503, R507, R510, R512). -/

namespace Sys2Proof.Forms

open Sys2Proof.Machine

/-! ### The encodings (R502) -/

/-- A zero, unnormal or normal number: no NaTVal, exponent field not all ones. -/
def isFinite (f : FReg) : Prop := f.exp ≠ 0x1FFFF ∧ f ≠ FReg.natVal

/-- An infinity of a sign. -/
def isInf (f : FReg) (neg : Bool) : Prop := f.exp = 0x1FFFF ∧ f.sig = 0x8000000000000000 ∧ f.sign = neg

/-- A NaN, quiet or signaling: bit 62 of its significand tells them apart. -/
def isNaN (f : FReg) (quiet : Bool) : Prop :=
  f.exp = 0x1FFFF ∧ f.sig.getLsbD 63 = true ∧ f.sig ≠ 0x8000000000000000 ∧ f.sig.getLsbD 62 = quiet

/-- An unsupported encoding. -/
def isUnsupported (f : FReg) : Prop := f.exp = 0x1FFFF ∧ f.sig.getLsbD 63 = false

/-- An unnormal number, or one with exponent field 0, that is not zero. -/
def isUnnormal (f : FReg) : Prop := isFinite f ∧ f.sig ≠ 0 ∧ (f.exp = 0 ∨ f.sig.getLsbD 63 = false)

/-- A normal number. -/
def isNormal (f : FReg) : Prop := isFinite f ∧ f.exp ≠ 0 ∧ f.sig.getLsbD 63 = true

/-- The number a finite register value stands for. -/
def numberOf (f : FReg) : ℚ :=
  (if f.sign then -1 else 1) * f.sig.toNat * 2 ^ ((if f.exp = 0 then -16382 else (f.exp.toNat : ℤ) - 65535) - 63)

/-- No NaN, no unsupported value, no NaTVal: infinities and numbers. -/
def isOrdered (f : FReg) : Prop := isFinite f ∨ ∃ neg, isInf f neg

/-! ### Memory formats (R392, R395) -/

/-- The number of a memory format with an exponent field of `ew` bits, not all ones, and a fraction of `fw` bits: exponent field 0 has no
leading one. -/
def memNumber (ew fw v : Nat) : ℚ :=
  let e : Nat := v / 2 ^ fw % 2 ^ ew
  let bias : ℤ := 2 ^ (ew - 1) - 1
  (if v / 2 ^ (ew + fw) % 2 = 1 then -1 else 1) *
    (if e = 0 then ((v % 2 ^ fw : Nat) : ℚ) * 2 ^ (1 - bias - (fw : ℤ)) else ((2 ^ fw + v % 2 ^ fw : Nat) : ℚ) * 2 ^ ((e : ℤ) - bias - (fw : ℤ)))

/-- A load of single or double precision: the sign; the number, as a normal register value but for denormals and zero; with an exponent field
of ones the infinity, or a NaN whose quiet bit and fraction are those of the bytes (R392). -/
def FormatReads (f : FpFormat) (ew fw : Nat) : Prop :=
  ∀ v, v < 2 ^ (1 + ew + fw) →
    let r := f.toReg v
    let ones := v / 2 ^ fw % 2 ^ ew = 2 ^ ew - 1
    let neg := decide (v / 2 ^ (ew + fw) = 1)
    r.sign = neg ∧
    (¬ ones → isFinite r ∧ numberOf r = memNumber ew fw v ∧ (v / 2 ^ fw % 2 ^ ew ≠ 0 → isNormal r)) ∧
    (ones → v % 2 ^ fw = 0 → isInf r neg) ∧
    (ones → v % 2 ^ fw ≠ 0 → isNaN r (v.testBit (fw - 1)) ∧ r.sig.toNat = 2 ^ 63 + v % 2 ^ fw * 2 ^ (63 - fw))

/-- A load of extended precision: the significand as it is, the number it stands for; an exponent field of ones stays one (R392). -/
def ExtendedReads : Prop :=
  ∀ v, v < 2 ^ 80 →
    let r := FpFormat.extended.toReg v
    let e : Nat := v / 2 ^ 64 % 2 ^ 15
    r.sign = decide (v / 2 ^ 79 = 1) ∧ r.sig.toNat = v % 2 ^ 64 ∧
    (e ≠ 0x7FFF → isFinite r ∧ numberOf r =
      (if v / 2 ^ 79 = 1 then -1 else 1) * ((v % 2 ^ 64 : Nat) : ℚ) * 2 ^ ((if e = 0 then -16382 else (e : ℤ) - 16383) - 63)) ∧
    (e = 0x7FFF → r.exp = 0x1FFFF)

/-- A store of single or double precision: the sign, the exponent with the bias of the format, ones for the special exponent and 0 where the
significand has no leading one, the fraction cut off (R395; log 21). -/
def FormatWrites (f : FpFormat) (ew fw : Nat) : Prop :=
  ∀ r : FReg,
    let e : Nat := if r.exp = 0x1FFFF then 2 ^ ew - 1 else if r.exp = 0 ∨ r.sig.getLsbD 63 = false then 0
      else (r.exp.toNat + 2 ^ 17 + (2 ^ (ew - 1) - 1) - 65535) % 2 ^ ew
    f.toMem r = (if r.sign then 2 ^ (ew + fw) else 0) + e * 2 ^ fw + r.sig.toNat / 2 ^ (63 - fw) % 2 ^ fw

/-- A store of extended precision: the sign, the exponent with the bias of the format, the significand (R395; log 21). -/
def ExtendedWrites : Prop :=
  ∀ r : FReg,
    let e : Nat := if r.exp = 0x1FFFF then 0x7FFF else if r.exp = 0 then 0 else (r.exp.toNat + 2 ^ 17 + 16383 - 65535) % 2 ^ 15
    FpFormat.extended.toMem r = (if r.sign then 2 ^ 79 else 0) + e * 2 ^ 64 + r.sig.toNat

/-! ### Order (R507) -/

/-- `a < b`, infinities below and above all numbers. -/
def numLess (a b : FReg) : Prop :=
  (isInf a true ∧ ¬ isInf b true) ∨ (isInf b false ∧ ¬ isInf a false) ∨ (isFinite a ∧ isFinite b ∧ numberOf a < numberOf b)

/-- `a = b` as numbers or infinities. -/
def numEqual (a b : FReg) : Prop := (∃ neg, isInf a neg ∧ isInf b neg) ∨ (isFinite a ∧ isFinite b ∧ numberOf a = numberOf b)

/-- What a relation says of two values that are not NaTVal; one that is neither number nor infinity is unordered to the other. -/
def relOf (r : FpRel) (a b : FReg) : Prop :=
  let ord := isOrdered a ∧ isOrdered b
  match r with
  | .eq => ord ∧ numEqual a b
  | .lt => ord ∧ numLess a b
  | .le => ord ∧ (numLess a b ∨ numEqual a b)
  | .unord => ¬ ord
  | .neq => ¬ (ord ∧ numEqual a b)
  | .nlt => ¬ (ord ∧ numLess a b)
  | .nle => ¬ (ord ∧ (numLess a b ∨ numEqual a b))
  | .ord => ord

/-- The relations that signal on a quiet NaN. -/
def relSignals (r : FpRel) : Prop := r = .lt ∨ r = .le ∨ r = .nlt ∨ r = .nle

/-- A compare is right: its relation, and its conditions V and D (R507). -/
def CompareIsRight (r : FpRel) (a b : FReg) : Prop :=
  (r.holds (fpOrder a b) = true ↔ relOf r a b) ∧
  ((fpCompareOut r a b).v = true ↔ ∃ f ∈ [a, b], isNaN f false ∨ isUnsupported f ∨ (isNaN f true ∧ relSignals r)) ∧
  ((fpCompareOut r a b).d = true ↔ ∃ f ∈ [a, b], isUnnormal f)

/-- The order of magnitudes: infinities above all numbers. -/
def absLess (a b : FReg) : Prop :=
  ((∃ neg, isInf b neg) ∧ ¬ ∃ neg, isInf a neg) ∨ (isFinite a ∧ isFinite b ∧ |numberOf a| < |numberOf b|)

/-- The first operand is the strictly smaller or larger one that a minimum or maximum looks for. -/
def prefersFirst (m : MinMax) (a b : FReg) : Prop :=
  match m with
  | .min => numLess a b
  | .max => numLess b a
  | .amin => absLess a b
  | .amax => absLess b a

/-- A minimum or maximum is right: the first operand where it is the one looked for, else the second; with a NaN the second, and V;
with an unsupported operand the indefinite NaN, and V (R502, R507). -/
def MinMaxIsRight (m : MinMax) (a b : FReg) : Prop :=
  let o := fpMinMax m a b
  (isOrdered a → isOrdered b → o.v = false ∧ (prefersFirst m a b → o.res = a) ∧ (¬ prefersFirst m a b → o.res = b)) ∧
  (¬ isUnsupported a → ¬ isUnsupported b → (∃ f ∈ [a, b], ∃ q, isNaN f q) → o.v = true ∧ o.res = b) ∧
  (isUnsupported a ∨ isUnsupported b →
    o.v = true ∧ o.res = { sign := true, exp := 0x1FFFF, sig := 0xC000000000000000 }) ∧
  (o.d = true ↔ isUnnormal a ∨ isUnnormal b)

/-! ### Class tests (R507; the places of the mask bits are PRESUMED, log 24) -/

/-- The class of a value is selected by a mask. -/
def classSelected (m : BitVec 9) (f : FReg) : Prop :=
  (f = FReg.natVal ∧ m.getLsbD 8 = true) ∨ (isNaN f true ∧ m.getLsbD 7 = true) ∨ (isNaN f false ∧ m.getLsbD 6 = true) ∨
  ((if f.sign then m.getLsbD 1 else m.getLsbD 0) = true ∧
    ((isFinite f ∧ f.sig = 0 ∧ m.getLsbD 2 = true) ∨ (isUnnormal f ∧ m.getLsbD 3 = true) ∨
      (isNormal f ∧ m.getLsbD 4 = true) ∨ ((∃ neg, isInf f neg) ∧ m.getLsbD 5 = true)))

/-! ### Conversion to integer (R503, R512) -/

/-- `n` is `x` rounded to an integer: to nearest, on a tie to even; downward; upward; toward zero. -/
def roundsTo (rc : BitVec 2) (x : ℚ) (n : ℤ) : Prop :=
  if rc = 0 then 2 * |x - n| ≤ 1 ∧ (2 * |x - n| = 1 → n % 2 = 0)
  else if rc = 1 then n = ⌊x⌋
  else if rc = 2 then n = ⌈x⌉
  else n = if 0 ≤ x then ⌊x⌋ else ⌈x⌉

/-- A conversion is right for the range `lo` to `hi`: a number that rounds into it becomes that integer, in two's complement in the
significand, inexact where it was none; everything else gives the integer indefinite, with V. -/
def ConvertIsRight (rc : BitVec 2) (f : FReg) (lo hi : ℤ) (indefinite : Word) (o : FpOut) : Prop :=
  (∀ n, isFinite f → roundsTo rc (numberOf f) n → lo ≤ n → n ≤ hi →
    o.res = { sign := false, exp := 0x1003E, sig := BitVec.ofInt 64 n } ∧ o.v = false ∧ (o.i = true ↔ (n : ℚ) ≠ numberOf f)) ∧
  (¬ isFinite f ∨ (∃ n, roundsTo rc (numberOf f) n ∧ (n < lo ∨ hi < n)) →
    o.res = { sign := false, exp := 0x1003E, sig := indefinite } ∧ o.v = true)

/-! ### Quotients and roots of special operands (R510) -/

/-- A zero. -/
def isZero (f : FReg) : Prop := isFinite f ∧ f.sig = 0

/-- The indefinite NaN, with V (R502). -/
def isInvalid (o : FpOut) : Prop := o.v = true ∧ o.res = { sign := true, exp := 0x1FFFF, sig := 0xC000000000000000 }

/-- A result without V and Z. -/
def isExact (o : FpOut) (r : FReg) : Prop := o.res = r ∧ o.v = false ∧ o.z = false

/-- What operands that are unsupported or NaNs give, in their order: the indefinite, or the first NaN made quiet, V for a signaling one; D for
an unnormal one (R502, R503). -/
def OperandsDecide (l : List FReg) (o : FpOut) : Prop :=
  ((∃ f ∈ l, isUnsupported f) → isInvalid o) ∧
  ((∀ f ∈ l, ¬ isUnsupported f) → ∀ a f b, l = a ++ f :: b → (∃ q, isNaN f q) → (∀ g ∈ a, ¬ ∃ q, isNaN g q) →
    o.res = { f with sig := f.sig ||| 0x4000000000000000 } ∧ (o.v = true ↔ ∃ g ∈ l, isNaN g false)) ∧
  (o.d = true ↔ ∃ f ∈ l, isUnnormal f)

/-- The special cases of a reciprocal approximation for `a / b`: none for two numbers that are not 0 and not out of range; else what the
operands decide, and the quotient of infinities and zeros. -/
def QuotientIsRight (env : FpEnv) (a b : FReg) (far : Bool) : Prop :=
  let number := fun f : FReg => isFinite f ∧ f.sig ≠ 0
  let neg := a.sign != b.sign
  let infinite := fun f : FReg => ∃ n, isInf f n
  let inf : FReg := { sign := neg, exp := 0x1FFFF, sig := 0x8000000000000000 }
  (env.quotient a b far = none ↔ number a ∧ number b ∧ far = false) ∧
  ∀ o, env.quotient a b far = some o →
    OperandsDecide [a, b] o ∧
    (infinite a ∧ infinite b ∨ isZero a ∧ isZero b → isInvalid o) ∧
    (infinite a → isFinite b → isExact o inf) ∧
    ((isFinite a ∧ infinite b) ∨ (isZero a ∧ number b) → isExact o { sign := neg, exp := 0, sig := 0 }) ∧
    (number a → isZero b → o.res = inf ∧ o.z = true ∧ o.v = false)

/-- The special cases of a reciprocal square root approximation: none for a positive number in range; else what the operand decides, and the
root of zeros and of infinity; a negative value has none. -/
def RootIsRight (env : FpEnv) (b : FReg) (far : Bool) : Prop :=
  (env.root b far = none ↔ isFinite b ∧ b.sig ≠ 0 ∧ b.sign = false ∧ far = false) ∧
  ∀ o, env.root b far = some o →
    OperandsDecide [b] o ∧
    (isZero b → isExact o { sign := b.sign, exp := 0, sig := 0 }) ∧
    ((isFinite b ∧ b.sig ≠ 0 ∨ isInf b true) → b.sign = true → isInvalid o) ∧
    (isInf b false → isExact o { sign := false, exp := 0x1FFFF, sig := 0x8000000000000000 })

/-! ### Approximations (R510) -/

/-- The relative error of an approximation `r` of `1/b` is below 2^-8.886. -/
def approximatesReciprocal (r b : FReg) : Prop :=
  isFinite r ∧ |((numberOf r * numberOf b : ℚ) : ℝ) - 1| < (2 : ℝ) ^ (-(8886 : ℝ) / 1000)

/-- The relative error of an approximation `r` of `1/√b` is below 2^-8.831. -/
def approximatesRsqrt (r b : FReg) : Prop :=
  isFinite r ∧ |((numberOf r : ℚ) : ℝ) * Real.sqrt ((numberOf b : ℚ) : ℝ) - 1| < (2 : ℝ) ^ (-(8831 : ℝ) / 1000)

end Sys2Proof.Forms
end

