-- ==== Sys2Proof/Certificates/Slice0/Obligations.lean ====
section
/-! DEFINITION. Certificates/Slice0/Obligations.lean: the statements for the provers. -/

section

open Sys2Proof Sys2Proof.Machine Sys2Proof.Forms

/-! ### Encoding -/

/-- Decoding the encoding of a well-formed instruction gives the instruction back, for every instruction the spec gives a bit
pattern. -/
def Obligations.DecodeInvertsEncode : Prop :=
  ∀ (i : Instr) (e : Encoded), i.wf = true → encode i = some e → decodeSlot e.slot e.long e.word = some i

/-- A word with a major opcode of the A unit means the same instruction in an M slot and in an I slot (R233, R236). -/
def Obligations.ATypeWordsMeanTheSameInBothSlots : Prop :=
  ∀ (l w : BitVec 41), 8 ≤ (w.extractLsb' 37 4).toNat → (w.extractLsb' 37 4).toNat ≤ 14 →
    decodeSlot .M l w = decodeSlot .I l w

/-- Words written out from the encoding tables of R236 to R239 decode to their instructions. -/
def Obligations.SpecWordsDecode : Prop :=
  decodeSlot .M 0 0b1000_0_00_0_0000_00_0000011_0000010_0000001_000101#41 = some (.addR1R2R3 5 1 2 3) ∧
  decodeSlot .I 0 0b1001_0_00000000_0_0000011_0000010_0000001_000000#41 = some (.addlR1Imm22R3 0 1 2 3) ∧
  decodeSlot .M 0 0b0100_0_000011_00_0_0000011_0000000_0000001_000000#41 = some (.ld8R1R3 0 1 3 0) ∧
  decodeSlot .B 0 0b0100_0_0_00_00000000000000000010_0_000_000_000001#41 =
    some (.brCondBwhPhDhTarget25 1 2 { wh := 0, d := 0, p := 0 }) ∧
  decodeSlot .F 0 0b1000_0_00_0000100_0000011_0000010_0000110_000000#41 = some (.fmaSfF1F3F4F2 0 0 6 3 4 2)

/-! ### The machine -/

/-- With no interrupt and no fault of the fetch, a step executes the instruction of the slot PSR.ri of the bundle at IP, and then
ends the group at a stop and advances the monitors. Before it the fetch has filled the first-level instruction TLB, which the monitors
may see, and nothing else. What the write-coalescing buffer and the TLBs do on their own comes first (logs 13, 37, 44). -/
def Obligations.StepRunsTheDecodedInstruction : Prop :=
  ∀ (s : State) (b : BitVec 128) (t : Template) (i : Instr),
    let s' := s.wcbFreeEvict.tlbFree
    let v := s'.l1Fill
    s.psrIs = false → s.ri ≠ 3 → s'.externalInterrupt = false → s'.fetch = .ok b →
    template (b.extractLsb' 0 5) = some t → t.instr b s.ri = some i →
      step s = v.afterExec (t.slotType s.ri) (t.word b s.ri) (t.stop s.ri) (exec i v) ∧
        v = { s' with l1itlb := v.l1itlb, events := v.events }

/-- After a step with a stop the next group reads what this one wrote; without one it reads what was before (R330). That the user mask
of data references changes there too is DEDUCED (log 45). -/
def Obligations.GroupWritesBecomeVisibleAtStops : Prop :=
  ∀ (s u : State) (ty : SlotType) (w : BitVec 41) (stop : Bool), ∃ t,
    s.afterExec ty w stop (.next u) = .next t ∧ t.cur = u.cur ∧
      t.old = (if stop then u.cur else u.old) ∧ t.umGroup = (if stop then u.psr.extractLsb' 0 6 else u.umGroup) ∧
      (stop = true → t.groupStart = true ∧ t.grpWrites = [] ∧ t.grpPrAlu = 0)

/-- Every step keeps memory in its canonical form. -/
def Obligations.StepKeepsMemoryCanonical : Prop := ∀ s u : State, s.MemOk → step s = .next u → u.MemOk

/-- Every step keeps IP a multiple of 16, the ALAT within 32 entries, the write-coalescing buffer within two lines and each
first-level TLB within 32 segments. -/
def Obligations.StepKeepsIpAlignedAndBuffersBounded : Prop :=
  (∀ s u : State, s.IpAligned → step s = .next u → u.IpAligned) ∧
  ∀ s u : State, s.BuffersOk → step s = .next u → u.BuffersOk

/-- Every step keeps the register stack in its 96 registers: dirty, clean and current ones together. -/
def Obligations.StepKeepsRegisterStackBounded : Prop := ∀ s u : State, s.StackOk → step s = .next u → u.StackOk

/-- Every step keeps the translations of each TLB disjoint and their pages at 4 KB or more, and the first-level data TLB a subset of the
second level (R155). -/
def Obligations.StepKeepsTranslationsDisjoint : Prop := ∀ s u : State, s.TlbOk → step s = .next u → u.TlbOk

/-- The machine after reset meets every invariant (log 1, log 2), and has the values of R900 that the source or the architecture fixes:
GR[0], FR[0], FR[1], PR[0], the reset values of the monitors' registers, nothing pending from the monitors, late deferral. -/
def Obligations.ResetValuesAndInvariants : Prop :=
  (State.reset.MemOk ∧ State.reset.IpAligned ∧ State.reset.BuffersOk ∧ State.reset.StackOk ∧ State.reset.TlbOk ∧
    State.reset.WcbOk) ∧
  State.reset.gr 0 = { val := 0, nat := false } ∧ State.reset.fr 0 = { sign := false, exp := 0, sig := 0 } ∧
  State.reset.fr 1 = { sign := false, exp := 0xFFFF, sig := 0x8000000000000000 } ∧ State.reset.pred 0 = true ∧
  State.reset.cr.pmv.getLsbD 16 = true ∧ State.reset.pmc[4].getLsbD 23 = true ∧
  (∀ k : Fin 4, (State.reset.pmc[4 + k.val]'(by omega)).getLsbD 5 = false ∧ (State.reset.pmc[4 + k.val]'(by omega)).getLsbD 4 = false) ∧
  State.reset.pmc[13] = 0x2078fefefefe ∧ State.reset.pmc[14] = 0xdb6 ∧ State.reset.pmc[15] = 0xfffffff0 ∧
  State.reset.deferral = .lateOnly ∧ State.reset.pmuRequest = false

/-- Nothing but a machine check and IA-32 execution ever stops an instruction: every other one ends in a next state. `br.ia` takes the
Disabled Instruction Set Transition fault with PSR.di = 1, and else stops (D22). -/
def Obligations.OnlyMachineChecksAndIa32Stop : Prop :=
  (∀ (b : BrIdx) (h : BrHint) (s : State),
    (s.psrDi = true → Takes s (exec (.brIaBwhPhDhB2 b h) s) .generalException 0x40) ∧
    (s.psrDi = false → exec (.brIaBwhPhDhB2 b h) s = .refused .ia32Execution)) ∧
  ∀ (i : Instr) (s : State),
    Completes (exec i s) ∨ exec i s = .fault .machineCheckMultipleHit ∨
    ((∃ qp r3 r2, i = .itcDR2 qp r2 ∨ i = .itcIR2 qp r2 ∨ i = .itrDDtrR3R2 qp r3 r2 ∨ i = .itrIItrR3R2 qp r3 r2) ∧
      exec i s = .fault .machineCheckOverlap) ∨
    ((∃ b2 h, i = .brIaBwhPhDhB2 b2 h) ∧ exec i s = .refused .ia32Execution) ∨
    (i = .rfi ∧ s.cr.ipsr.getLsbD 34 = true ∧ exec i s = .refused .ia32Execution)

/-- A step at a privilege level other than 0 changes no system register, no translation register, no breakpoint, no kernel register
and no monitor configuration, but for what the entry of an interruption writes; the translation caches take in only what a page
walk finds, and the first-level TLBs only segments of translations that were there or that a walk has found. -/
def Obligations.UserCodeKeepsSystemState : Prop :=
  ∀ s u : State, s.cpl ≠ 0 → step s = .next u →
    u.rr = s.rr ∧ u.pkr = s.pkr ∧ u.ibr = s.ibr ∧ u.dbr = s.dbr ∧ u.itr = s.itr ∧ u.dtr = s.dtr ∧
    (∀ e ∈ u.itcache, e ∈ s.itcache ∨ ∃ va, s.wcbFreeEvict.WalkFound true va e) ∧
    (∀ e ∈ u.dtcache, e ∈ s.dtcache ∨ ∃ va, s.wcbFreeEvict.WalkFound false va e) ∧
    (s.cr.pta.getLsbD 0 = false → u.itcache = s.itcache ∧ u.dtcache.Perm s.dtcache) ∧
    (∀ e ∈ u.l1itlb, e ∈ s.l1itlb ∨ ∃ f va, e = f.segment va ∧ (f ∈ s.l1itlb ∨ f ∈ s.translations true ∨
      ∃ w, s.wcbFreeEvict.WalkFound true w f)) ∧
    (∀ e ∈ u.l1dtlb, e ∈ s.l1dtlb ∨ ∃ f va, e = f.segment va ∧ (f ∈ s.translations false ∨
      ∃ w, s.wcbFreeEvict.WalkFound false w f)) ∧
    u.cur.kr = s.cur.kr ∧ u.deferral = s.deferral ∧
    (∀ k : Fin 16, k ≠ 0 → u.pmc[k] = s.pmc[k]) ∧
    u.cr = { s.cr with ipsr := u.cr.ipsr, isr := u.cr.isr, iip := u.cr.iip, ifa := u.cr.ifa, itir := u.cr.itir,
                       iipa := u.cr.iipa, ifs := u.cr.ifs, iim := u.cr.iim, iha := u.cr.iha, irr := u.cr.irr }

/-- A target that may not be written makes any instruction an Illegal Operation, whether or not its predicate holds; all stays as it was, but
that an advanced load leaves no ALAT entry of its own register (R98). -/
def Obligations.BadTargetsAreIllegal : Prop :=
  ∀ (i : Instr) (s : State), ¬ (targetsOf i).Ok s →
    exec i s = .next ((faultState i s).takeInterruption { vec := .generalException } s.ri)

/-- With predicate 0 an instruction has no effect but the advance to the next slot; nops and branch predicts have none whatever their
predicate. -/
def Obligations.NopsAndSquashedInstructionsDoNothing : Prop :=
  (∀ (i : Instr) (qp : PredIdx) (s : State), guardOf i = some qp → s.pred qp = false → (targetsOf i).Ok s →
    ∃ u, Yields i s u ∧ s.OnlyEvents u) ∧
  ∀ (i : Instr) (s : State),
    ((∃ qp imm, i = .nopMImm21 qp imm ∨ i = .nopIImm21 qp imm ∨ i = .nopFImm21 qp imm ∨ i = .nopBImm21 qp imm) ∨
      (∃ qp imm, i = .nopXImm62 qp imm) ∨ (∃ a b c d, i = .brpIpwhIhTarget25Tag13 a b c d) ∨
      (∃ a b c d, i = .brpIndwhIhB2Tag13 a b c d)) →
    ∃ u, Yields i s u ∧ s.OnlyEvents u

/-- A privileged instruction at a privilege level other than 0 takes a Privileged Operation fault. -/
def Obligations.PrivilegedInstructionsTrap : Prop :=
  ∀ (i : Instr) (qp : PredIdx) (P : State → Prop) (s : State), privOf i = some (qp, P) → s.pred qp = true → P s →
    s.cpl ≠ 0 → Takes s (exec i s) .generalException 0x10

/-- An instruction that touches a floating-point register of a disabled half takes a Disabled Floating-Point Register fault, with
ISR.code bit 0 for f2 to f31 and bit 1 for f32 to f127; all stays as it was, but that an advanced load leaves no ALAT entry of its own register
(R98). That `chk.a` of a floating-point register, which R421 lets read the ALAT alone, is one of them is DEDUCED (log 46). -/
def Obligations.DisabledFpRegistersFault : Prop :=
  ∀ (i : Instr) (qp : PredIdx) (l : List FrIdx) (s : State), fpUse i = some (qp, l) → s.pred qp = true →
    (targetsOf i).Ok s → grSourcesVisible i s → ¬ fpReady s l →
      ∃ c : BitVec 16, exec i s = .next ((faultState i s).takeInterruption { vec := .disabledFp, code := c } s.ri) ∧
        (∀ k, 2 ≤ k → c.getLsbD k = false) ∧
        (c.getLsbD 0 = true ↔ s.psrDfl = true ∧ ∃ f ∈ l, 2 ≤ f.toNat ∧ f.toNat < 32) ∧
        (c.getLsbD 1 = true ↔ s.psrDfh = true ∧ ∃ f ∈ l, 32 ≤ f.toNat)

/-- Where control goes after a completed instruction without a trap: to the branch target, else to the next slot, or to the next
bundle after slot 2 and after an MLX instruction; PSR's one-shot bits `id`, `da`, `dd`, `ed`, `ia` are cleared (DEDUCED,
log 40); a taken branch ends the group. PSR.ss, tb and lp count as they were before the instruction (DEDUCED, log 41). -/
def Obligations.ControlMovesOn : Prop :=
  ∀ (s : State) (r : Res), r.fpTrap = none → (r.lpTrap = true → s.psrLp = false) →
    (r.target ≠ none → s.psrTb = false) → s.psrSs = false →
    (r.s.psrIt = true ∨ r.moved.ip.extractLsb' 50 13 = 0) →
    let u := retire s r
    u.cur = r.s.cur ∧ u.mem = r.s.mem ∧ u.cfm = r.s.cfm ∧ u.cr = r.s.cr ∧ u.lastBundle = r.s.ip ∧
    (∀ k, k < 64 → k ≠ 41 → k ≠ 42 →
      u.psr.getLsbD k = (r.s.psr.getLsbD k && !(k = 37 || k = 38 || k = 39 || k = 43 || k = 45))) ∧
    (∀ t, r.target = some t → u.ip = BitVec.ofNat 64 (t.toNat / 16 * 16) ∧ u.ri = 0 ∧ u.old = r.s.cur) ∧
    (r.target = none → r.long = true ∨ r.s.ri = 2 → u.ip = r.s.ip + 16 ∧ u.ri = 0 ∧ u.old = r.s.old) ∧
    (r.target = none → r.long = false → r.s.ri = 0 ∨ r.s.ri = 1 → u.ip = r.s.ip ∧ u.ri = r.s.ri + 1 ∧ u.old = r.s.old)

/-- Traps are taken after the instruction's results are written; the vector is that of the highest one, and ISR.code bits 1, 2, 3
report Lower-Privilege Transfer, Taken Branch and Single Step together. PSR.ss, tb and lp are those of before the instruction, the
unimplemented address is tested on the new IP (DEDUCED, log 41). -/
def Obligations.TrapsByPriority : Prop :=
  ∀ (s : State) (r : Res),
    let ui := !r.moved.psrIt && r.moved.ip.extractLsb' 50 13 != 0
    let lp := r.lpTrap && s.psrLp
    let tb := s.psrTb && r.target.isSome
    (ui || r.fpTrap.isSome || lp || tb || s.psrSs) = true → (∀ c ∈ r.fpTrap, c.extractLsb' 0 7 = 0) →
      ∃ i : Intr, retire s r = r.moved.takeInterruption i s.ri ∧
        i.vec = (if ui then .lowerPrivilege else if r.fpTrap.isSome then .fpTrap else if lp then .lowerPrivilege
          else if tb then .takenBranch else .singleStep) ∧
        i.code.getLsbD 0 = r.fpTrap.isSome ∧ i.code.getLsbD 1 = lp ∧ i.code.getLsbD 2 = tb ∧ i.code.getLsbD 3 = s.psrSs ∧
        i.code.getLsbD 4 = ui

/-- Taking an interruption: with PSR.ic = 1 the interruption registers are written, else only ISR with `ni` set; PSR keeps `up`,
`mfl`, `mfh`, `pk`, `dt`, `rt`, `mc`, `it`, takes `be` and `pp` from DCR and clears the rest; IP goes to the vector; no register,
no frame and no byte of memory changes. -/
def Obligations.InterruptionEntry : Prop :=
  ∀ (s : State) (i : Intr) (ei : BitVec 2),
    let u := s.takeInterruption i ei
    u.ip.toNat = s.cr.iva.toNat / 2 ^ 15 * 2 ^ 15 + i.vec.offset.toNat ∧
    (∀ k, k < 64 → u.psr.getLsbD k =
      if k = 2 ∨ k = 4 ∨ k = 5 ∨ k = 15 ∨ k = 17 ∨ k = 27 ∨ k = 35 ∨ k = 36 then s.psr.getLsbD k
      else if k = 1 then s.cr.dcr.getLsbD 1 else if k = 21 then s.cr.dcr.getLsbD 0 else false) ∧
    (s.psrIc = true → u.cr =
      { s.cr with ipsr := s.psr, iip := s.ip, iipa := s.lastBundle, isr := u.cr.isr, ifs := s.cr.ifs &&& 0x7FFFFFFFFFFFFFFF,
                  ifa := i.ifa.getD s.cr.ifa, itir := i.itir.getD s.cr.itir, iha := i.iha.getD s.cr.iha,
                  iim := i.iim.getD s.cr.iim }) ∧
    (s.psrIc = false → u.cr = { s.cr with isr := u.cr.isr }) ∧
    u.cr.isr.extractLsb' 0 16 = i.code ∧ u.cr.isr.getLsbD 32 = i.x ∧ u.cr.isr.getLsbD 33 = i.w ∧
    u.cr.isr.getLsbD 34 = i.r ∧ u.cr.isr.getLsbD 35 = i.na ∧ u.cr.isr.getLsbD 36 = i.sp ∧ u.cr.isr.getLsbD 37 = i.rs ∧
    u.cr.isr.getLsbD 38 = i.ir ∧ u.cr.isr.getLsbD 39 = !s.psrIc ∧ u.cr.isr.extractLsb' 41 2 = ei ∧
    u.cr.isr.getLsbD 43 = s.psrEd ∧ u.cr.isr.extractLsb' 16 16 = 0 ∧ u.cr.isr.getLsbD 40 = false ∧
    u.cr.isr.extractLsb' 44 20 = 0 ∧
    u.cur = s.cur ∧ u.old = s.cur ∧ u.cfm = s.cfm ∧ u.bof = s.bof ∧ u.nclean = s.nclean ∧ s.SameMem u ∧ u.alat = s.alat

/-- `rfi` at a level other than 0 traps; at level 0 it restores PSR from IPSR and IP from IIP without its low 4 bits; with IFS.v = 0 the frame stays, else it is
restored after the context, a frame out of bounds as `popFrame` says (log 16). A fill that faults is reported on the `rfi` itself, and with
PSR.ic = 0 before it a miss is a nested one (DEDUCED, log 41). With IPSR.is = 1 it would resume IA-32 execution,
and stops. -/
def Obligations.RfiRestoresTheContext : Prop :=
  (∀ s : State, s.cpl ≠ 0 → Takes s (exec .rfi s) .generalException 0x10) ∧
  (∀ s : State, s.cpl = 0 → s.cr.ipsr.getLsbD 34 = true → exec .rfi s = .refused .ia32Execution) ∧
  ∀ s : State, s.cpl = 0 → s.psrSs = false → s.cr.ipsr.getLsbD 34 = false →
    (s.cr.ipsr.getLsbD 36 = true ∨ s.cr.iip.extractLsb' 50 13 = 0) →
    (s.cr.ifs.getLsbD 63 = false → ∃ u, exec .rfi s = .next u ∧ u.psr = s.cr.ipsr ∧
      u.ip = BitVec.ofNat 64 (s.cr.iip.toNat / 16 * 16) ∧ u.cfm = s.cfm ∧ u.bof = s.bof ∧ u.cur = s.cur ∧ u.old = s.cur ∧
      u.cr = s.cr ∧ s.SameMem u) ∧
    let fills := (s.fillContext s.restoreContext).popFrame (s.cr.ifs.extractLsb' 0 38) (cfmSof (s.cr.ifs.extractLsb' 0 38))
    (∀ e, s.cr.ifs.getLsbD 63 = true → fills = .error (.intr e) → exec .rfi s = .next (s.takeInterruption e s.ri) ∧
      (s.psrIc = false → e.vec ≠ .altDataTlb ∧ e.vec ≠ .dataTlb ∧ e.vec ≠ .vhptTranslation)) ∧
    (∀ t, s.cr.ifs.getLsbD 63 = true → fills = .ok t →
      ∃ u, exec .rfi s = .next u ∧ u.psr = s.cr.ipsr ∧ u.ip = BitVec.ofNat 64 (s.cr.iip.toNat / 16 * 16) ∧
        u.cfm = t.cfm ∧ u.bof = t.bof ∧ u.cur = t.cur ∧ u.old = t.cur ∧ u.cr = s.cr ∧ s.SameMem u)

/-- A pending interrupt that PSR.i, TPR and the interrupts in service let through is taken before the next instruction of a new group,
through vector offset 0x3000; the step executes nothing. Pending are the vectors latched in IRR, and, with PSR.ic = 1 and PMV.m = 0, the
vector of PMV while a counter with `oi` = 1 is in the overflowed state. With nothing pending that is let through, or PSR.i = 0, or inside a
group, the step goes on to fetch. -/
def Obligations.ExternalInterruptsAreTaken : Prop :=
  ∀ s : State, s.psrIs = false → s.ri ≠ 3 →
    let class_ := fun v : Nat => if v = 2 then 17 else if v = 0 then 16 else v / 16
    let monitors := fun v : Nat => s.psrIc = true ∧ s.cr.pmv.getLsbD 16 = false ∧ v = s.cr.pmv.toNat % 256 ∧ (v = 0 ∨ v = 2 ∨ 16 ≤ v) ∧
      ∃ k : Fin 4, (s.pmc[4 + k.val]'(by omega)).getLsbD 5 = true ∧ (s.pmd[4 + k.val]'(by omega)).getLsbD 47 = true
    let unmasked := fun v : Nat => v = 2 ∨ (s.cr.tpr.getLsbD 16 = false ∧ (v = 0 ∨ s.cr.tpr.toNat / 16 % 16 < v / 16))
    let takes := fun v : Nat => (s.cr.irr.getLsbD v = true ∨ monitors v) ∧ unmasked v ∧
      ∀ w, w < 256 → s.cr.insvc.getLsbD w = true → class_ w < class_ v
    (s.groupStart = true → s.psrI = true → (∃ v, v < 256 ∧ takes v) →
      ∃ u, step s = .next u ∧ u.ip.toNat = s.cr.iva.toNat / 2 ^ 15 * 2 ^ 15 + 0x3000 ∧ u.cur = s.cur ∧ u.psrI = false ∧
        (s.psrIc = true → u.cr.iip = s.ip ∧ u.cr.ipsr = s.psr)) ∧
    (s.groupStart = false ∨ s.psrI = false ∨ (∀ v, v < 256 → ¬ takes v) → step s = s.wcbFreeEvict.tlbFree.fetchRun)

/-! ### General registers, predicates, branch registers -/

/-- Sums, differences, pointer sums, logical operations and shift-and-adds of formats A1 to A5: the value that R320 to R324 give,
where no other instruction of the group wrote the target (R911 (b), log 6); their only fault is the Illegal Operation of a target that may
not be named (R330) or of a source outside the frame (R22; its place among the checks is DEDUCED, log 46). -/
def Obligations.AluResults : Prop :=
  ∀ i f, aluForm i = some f → f.Correct i ∧
    ∀ s : State, s.pred f.qp = true → s.grTargetOk f.r1 = false ∨ s.grVisible f.a = false ∨ s.grVisible f.b = false →
      Takes s (exec i s) .generalException 0

/-- Parallel sums, differences, averages, compares and shift-and-adds of formats A9 and A10, element by element; parallel multiplies,
mixes, packs, unpacks, minima, maxima and absolute differences of formats I1 and I2. -/
def Obligations.ParallelResults : Prop :=
  (∀ i f, parallelForm i = some f → f.Correct i) ∧ ∀ i f, mixForm i = some f → f.Correct i

/-- `mux1`, `mux2`, `popcnt`, with a reserved `mux1` code an Illegal Operation; shifts of formats I5 to I8; fields, deposits,
extensions and zero searches of formats I10 to I15 and I29. A reserved `mux1` code is refused whatever the predicate (log 46). -/
def Obligations.PermuteShiftAndFieldResults : Prop :=
  ((∀ i f, permuteForm i = some f → f.Correct i) ∧
  ∀ qp r1 r2 c s, mux1Table.lookup c.toNat = none → Takes s (exec (.mux1R1R2Mbtype4 qp r1 r2 c) s) .generalException 0) ∧
  ((∀ i f, shiftForm i = some f → f.Correct i) ∧ ∀ i f, fieldForm i = some f → f.Correct i)

/-- A source register outside the current frame is an Illegal Operation, before any fault of a privilege or of another operand (DEDUCED,
log 46); a NaT bit in an operand that consumes it takes the Register NaT Consumption fault; the codes of `probe`, `tpa`, `tak`, `fc` and
of the purges and inserts are PRESUMED (log 36). -/
def Obligations.SourceOperandFaults : Prop :=
  (∀ (i : Instr) (f : GrForm) (s : State), grForm i = some f → s.pred f.qp = true → s.grTargetOk f.r1 = true →
    (s.grVisible f.a = false ∨ s.grVisible f.b = false) → Takes s (exec i s) .generalException 0) ∧
  (∀ (i : Instr) (qp : PredIdx) (r : GrIdx) (c : BitVec 16) (P : State → Prop) (s : State), (qp, r, c, P) ∈ natForm i →
    s.pred qp = true → P s → (s.grVisible r = false → Takes s (exec i s) .generalException 0) ∧
      (s.grVisible r = true → (s.gr r).nat = true → Takes s (exec i s) .natConsumption c))

/-- Compares and bit tests write both predicates as their type says; a compare with predicate 0, and one register as both
targets. -/
def Obligations.CompareResultsAndGuards : Prop :=
  (∀ i f, cmpForm i = some f → f.Correct i) ∧
  (∀ i f, cmpForm i = some f → f.Squashed i ∧ f.Illegal i)

/-- Moves to general registers from branch, predicate, application, control and floating-point registers, PSR, IP, the indirect
files, and the long immediate; the fault forms of the reads of application, control and indirect registers. The user mask reads as it was
before the group (logs 6, 45). A PMD whose read is forbidden reads 0 (DESIGN CHOICE, log 19); PMC10 gives its low 16 bits three times, PMD4 to
PMD7 are sign-extended from bit 47; with the clocks of the monitors off, and of the other PMDs while they are not frozen, a read is free
(log 30). -/
def Obligations.MovesToGeneralRegisters : Prop :=
  (∀ i f, moveForm i = some f → f.Correct i) ∧ (∀ i f, fileForm i = some f → f.Correct i) ∧
  ∀ i qp r1 (P : State → Prop) c (s : State), (qp, r1, P, c) ∈ readFaults i → s.pred qp = true → s.grTargetOk r1 = true → P s →
    Takes s (exec i s) .generalException c

/-- `probe`, `tpa`, `tak`, `thash`, `ttag`; `probe` and `tpa` fault where the address has no translation, `tpa` also on a page that is not
present or a NaTPage, all three are a machine check where it has more than one; and `probe.fault`, which completes where the access it names
would be allowed and else takes that access's interruption (log 35; the place of a VHPT entry in its table: log 14; misses: log 13). -/
def Obligations.TranslationQueries : Prop :=
  (∀ i f, queryForm i = some f → f.Correct i) ∧ (∀ i f, queryAccess i = some f → f.Faults i) ∧
  ∀ (i : Instr) (qp : PredIdx) (r3 : GrIdx) (pl : BitVec 2) (r w : Bool) (s : State),
    (i = .probeRFaultR3Imm2 qp r3 pl ∧ r = true ∧ w = false ∨ i = .probeWFaultR3Imm2 qp r3 pl ∧ r = false ∧ w = true ∨
      i = .probeRwFaultR3Imm2 qp r3 pl ∧ r = true ∧ w = true) →
    s.pred qp = true → usable s r3 →
    let acc : Acc := { va := (s.gr r3).val, n := 1, cls := .reference, r := r, w := w, na := some 5,
                       cpl := if s.cpl.toNat < pl.toNat then pl else s.cpl }
    (∀ p, s.translateVirtual acc = .ok p →
      (s.dataDebug acc = false → ∃ u, Yields i s u ∧ s.OnlyEvents u) ∧
      (s.dataDebug acc = true → exec i s = .next (s.takeInterruption (s.transIntr acc .debug) s.ri))) ∧
    (∀ f, s.translateVirtual acc = .error f → f ≠ .multipleHit →
      exec i s = .next (s.takeInterruption (s.transIntr acc f) s.ri))

/-- Moves to branch registers and to the predicates: `mov pr` writes the predicates its mask selects, `mov pr.rot` the rotating
ones from the sign-extended immediate. -/
def Obligations.MovesToBranchAndPredicateRegisters : Prop :=
  (∀ i qp b1 r2 t h w s, (i = .movB1R2 qp b1 r2 t h w ∨ i = .movRetB1R2 qp b1 r2 t h w) → s.pred qp = true → usable s r2 →
    ∃ u, Yields i s u ∧ s.WroteBr u b1 (s.gr r2).val) ∧
  (∀ qp r2 mask17 s, s.pred qp = true → usable s r2 → noPrHazard s .norm →
    ∃ u, Yields (.movPrR2Mask17 qp r2 mask17) s u ∧ s.WrotePr u (fun k =>
      if k ≠ 0 ∧ mask17.getLsbD (min k 16) = true then (s.gr r2).val.getLsbD k else s.cur.pr.getLsbD k)) ∧
  (∀ qp imm28 s, s.pred qp = true → noPrHazard s .norm →
    ∃ u, Yields (.movPrRotImm44 qp imm28) s u ∧ s.WrotePr u (fun k =>
      if 16 ≤ k then imm28.getLsbD (min (k - 16) 27) else s.cur.pr.getLsbD k))

/-- R563: a break whose predicate is 1 takes the Break Instruction fault, through vector offset 0x2C00, with CR[IIM] its zero-extended
immediate, 0 for `break.b`, and with CR[IIP] and IPSR.ri at the break itself; a faulting `break.b` is noted as a branch, whose source the
trace buffer can capture. With predicate 0 it does nothing. -/
def Obligations.BreaksTakeTheBreakFault : Prop :=
  let breaks := fun (i : Instr) (s : State) (iim : Word) (noted : List PmuEvent) =>
    ∃ u, exec i s = .next u ∧ u = s.takeInterruption { vec := .breakInstruction, iim := some iim, events := noted } s.ri ∧
      u.ip.toNat = s.cr.iva.toNat / 2 ^ 15 * 2 ^ 15 + 0x2C00 ∧
      (s.psrIc = true → u.cr.iim = iim ∧ u.cr.iip = s.ip ∧ u.cr.ipsr.extractLsb' 41 2 = s.ri)
  (∀ i qp imm s, (i = .breakMImm21 qp imm ∨ i = .breakIImm21 qp imm ∨ i = .breakFImm21 qp imm) →
    (s.pred qp = true → breaks i s (imm.setWidth 64) []) ∧ (s.pred qp = false → ∃ u, Yields i s u ∧ s.OnlyEvents u)) ∧
  (∀ qp imm s, (s.pred qp = true → breaks (.breakXImm62 qp imm) s (imm.setWidth 64) []) ∧
    (s.pred qp = false → ∃ u, Yields (.breakXImm62 qp imm) s u ∧ s.OnlyEvents u)) ∧
  ∀ qp imm s, (s.branchPred qp = true → breaks (.breakBImm21 qp imm) s 0 [.branchFault 0]) ∧
    (s.branchPred qp = false → ∃ u, Yields (.breakBImm21 qp imm) s u ∧ s.OnlyEvents u)

/-! ### Application, control, status and indirect registers -/

/-- Moves to application registers: what they write, and their faults; which bits are reserved or ignored is log 19, a write of
BSPSTORE log 18. -/
def Obligations.ApplicationRegisterWrites : Prop :=
  ∀ i f, arForm i = some f → f.Correct i ∧ f.MovesBspstore i ∧ f.Faults i

/-- Moves to control registers; a write of EOI ends the highest-priority interrupt in service; a read of IVR gives the
highest-priority pending interrupt that is let through, which goes into service, or 15. The bits refused as reserved are those
outside the printed layouts (log 19). -/
def Obligations.ControlRegisters : Prop :=
  (∀ qp cr3 r2 s r, s.pred qp = true → s.cpl = 0 → usable s r2 → crReg cr3 = some r →
    ((∃ k, r = .irr k) ∨ r = .ivr ∨ (r.interruption = true ∧ s.psrIc = true) →
      Takes s (exec (.movCr3R2 qp cr3 r2) s) .generalException 0) ∧
    (r.readOnly = false → (r.interruption = true → s.psrIc = false) →
      ((s.gr r2).val &&& ~~~ r.definedBits ≠ 0 → Takes s (exec (.movCr3R2 qp cr3 r2) s) .generalException 0x30) ∧
      ((s.gr r2).val &&& ~~~ r.definedBits = 0 →
        ∃ u, Yields (.movCr3R2 qp cr3 r2) s u ∧ u = { s with cr := u.cr } ∧
          (r ≠ .eoi → crField u.cr r = some (s.gr r2).val ∧ (∀ q, q ≠ r → crField u.cr q = crField s.cr q) ∧
            u.cr.irr = s.cr.irr ∧ u.cr.insvc = s.cr.insvc ∧ u.cr.gpta = s.cr.gpta) ∧
          (r = .eoi → (s.cr.insvc = 0 → u = s) ∧
            ∀ v, v < 256 → s.cr.insvc.getLsbD v = true →
              (∀ w, w < 256 → s.cr.insvc.getLsbD w = true → vectorRank w ≤ vectorRank v) →
              u.cr = { s.cr with insvc := u.cr.insvc } ∧
                ∀ w, w < 256 → u.cr.insvc.getLsbD w = (s.cr.insvc.getLsbD w && w != v))))) ∧
  (∀ qp cr3 r2 s, s.pred qp = true → crReg cr3 = none → Takes s (exec (.movCr3R2 qp cr3 r2) s) .generalException 0) ∧
  (∀ qp r1 s, s.pred qp = true → s.cpl = 0 → s.grTargetOk r1 = true →
    let let_ := fun v : Nat => s.pendingVectors.getLsbD v = true ∧ tprAllows s.cr.tpr v = true ∧ s.aboveService v = true
    ((∀ v, v < 256 → ¬ let_ v) →
      ∃ u, Yields (.movR1Cr3 qp r1 65) s u ∧ s.WroteGr u r1 { val := 15, nat := false }) ∧
    (∀ v, v < 256 → let_ v → (∀ w, w < 256 → let_ w → vectorRank w ≤ vectorRank v) →
      ∃ u, Yields (.movR1Cr3 qp r1 65) s u ∧
        ({ s with cr := u.cr } : State).WroteGr u r1 { val := BitVec.ofNat 64 v, nat := false } ∧
        u.cr = { s.cr with irr := u.cr.irr, insvc := u.cr.insvc } ∧
        ∀ w, w < 256 → u.cr.irr.getLsbD w = (s.cr.irr.getLsbD w && w != v) ∧
          u.cr.insvc.getLsbD w = (s.cr.insvc.getLsbD w || w == v)))

/-- `mov psr.l`, `mov psr.um`, `sum`, `rum`, `ssm`, `rsm`: the bits they write, and the reserved bits they refuse. PSR.up stays
under PSR.sp = 1. A bit of the user mask that another instruction of the group wrote too is not fixed (R911 (b)); that `sum` and `rum`
write every bit of it is log 6, that the other bits are written at once log 45. -/
def Obligations.StatusRegisterWrites : Prop :=
  let reserved := fun k : Nat => k = 0 ∨ (6 ≤ k ∧ k ≤ 12) ∨ k = 16 ∨ (28 ≤ k ∧ k ≤ 31)
  let user := fun (s : State) (k : Nat) => decide (1 ≤ k ∧ k ≤ 5 ∧ (k = 2 → s.psrSp = false))
  (∀ qp r2 s, s.pred qp = true → usable s r2 →
    (s.cpl = 0 → (∀ k, reserved k → (s.gr r2).val.getLsbD k = false) → ∃ u, Yields (.movPsrLR2 qp r2) s u ∧
      psrBecomes s u .system (fun k => k < 32) (fun k => (s.gr r2).val.getLsbD k)) ∧
    (s.cpl = 0 → (∃ k, reserved k ∧ (s.gr r2).val.getLsbD k = true) →
      Takes s (exec (.movPsrLR2 qp r2) s) .generalException 0x30) ∧
    ((s.gr r2).val.getLsbD 0 = false → ∃ u, Yields (.movPsrUmR2 qp r2) s u ∧
      psrBecomes s u .alu (user s) (fun k => (s.gr r2).val.getLsbD k)) ∧
    ((s.gr r2).val.getLsbD 0 = true → Takes s (exec (.movPsrUmR2 qp r2) s) .generalException 0x30)) ∧
  (∀ qp (imm24 : BitVec 24) s, s.pred qp = true →
    ((∀ k, (k = 0 ∨ 6 ≤ k) → imm24.getLsbD k = false) →
      (∃ u, Yields (.sumImm24 qp imm24) s u ∧
        psrBecomes s u .alu (user s) (fun k => s.psr.getLsbD k || imm24.getLsbD k)) ∧
      (∃ u, Yields (.rumImm24 qp imm24) s u ∧
        psrBecomes s u .alu (user s) (fun k => s.psr.getLsbD k && !imm24.getLsbD k))) ∧
    ((∃ k, (k = 0 ∨ 6 ≤ k) ∧ imm24.getLsbD k = true) →
      Takes s (exec (.sumImm24 qp imm24) s) .generalException 0x30 ∧
      Takes s (exec (.rumImm24 qp imm24) s) .generalException 0x30) ∧
    (s.cpl = 0 → (∀ k, k < 24 → reserved k → imm24.getLsbD k = false) →
      (∃ u, Yields (.ssmImm24 qp imm24) s u ∧
        psrBecomes s u .system (fun k => imm24.getLsbD k) (fun _ => true)) ∧
      (∃ u, Yields (.rsmImm24 qp imm24) s u ∧
        psrBecomes s u .system (fun k => imm24.getLsbD k) (fun _ => false))) ∧
    (s.cpl = 0 → (∃ k, reserved k ∧ imm24.getLsbD k = true) →
      Takes s (exec (.ssmImm24 qp imm24) s) .generalException 0x30 ∧
      Takes s (exec (.rsmImm24 qp imm24) s) .generalException 0x30))

/-- Moves to region, protection key, breakpoint and monitor registers: the register that bits of GR[r3] name takes GR[r2]; a
valid key leaves no other key register valid for it; an index or a value that is reserved is refused. Bits 7:4 of a key register and the
ignored bits of breakpoint registers are log 19. A write of a PMC with `plm` not 0, or of one without a `plm` field (PMC0 to PMC3, 8, 9, 13 to
15), leaves the PMDs as they were. -/
def Obligations.IndirectRegisterWrites : Prop :=
  ∀ qp r3 r2 (s : State), s.pred qp = true → s.cpl = 0 → usable s r3 → usable s r2 →
    let v := (s.gr r2).val
    let n := fileIndex s r3
    let okRr := v.getLsbD 1 = false ∧ v.toNat < 2 ^ 32 ∧ goodPageSize (v.toNat / 4 % 64)
    let okPkr := n < 16 ∧ v.toNat < 2 ^ 32 ∧ v.toNat / 16 % 16 = 0
    (okRr → ∃ u, Yields (.movRrR3R2 qp r3 r2) s u ∧ u = { s with rr := u.rr } ∧
      ∀ k : Fin 8, u.rr[k] = if k.val = regionIndex s r3 then v else s.rr[k]) ∧
    (¬ okRr → Takes s (exec (.movRrR3R2 qp r3 r2) s) .generalException 0x30) ∧
    (okPkr → ∃ u, Yields (.movPkrR3R2 qp r3 r2) s u ∧ u = { s with pkr := u.pkr } ∧
      ∀ k : Fin 16, if k.val = n then u.pkr[k] = v
        else ∀ j, j < 64 → u.pkr[k].getLsbD j = (s.pkr[k].getLsbD j && !(decide (j = 0) && v.getLsbD 0 &&
          decide (s.pkr[k].toNat / 2 ^ 8 % 2 ^ 24 = v.toNat / 2 ^ 8 % 2 ^ 24)))) ∧
    (¬ okPkr → Takes s (exec (.movPkrR3R2 qp r3 r2) s) .generalException 0x30) ∧
    (n < 8 → ∃ u, Yields (.movIbrR3R2 qp r3 r2) s u ∧ u = { s with ibr := u.ibr } ∧
      ∀ k : Fin 8, if k.val = n then isBits u.ibr[k] (fun j => v.getLsbD j && !decide (n % 2 = 1 ∧ 60 ≤ j ∧ j ≤ 62))
        else u.ibr[k] = s.ibr[k]) ∧
    (n < 8 → ∃ u, Yields (.movDbrR3R2 qp r3 r2) s u ∧ u = { s with dbr := u.dbr } ∧
      ∀ k : Fin 8, if k.val = n then isBits u.dbr[k] (fun j => v.getLsbD j && !decide (n % 2 = 1 ∧ 60 ≤ j ∧ j ≤ 61))
        else u.dbr[k] = s.dbr[k]) ∧
    (8 ≤ n → Takes s (exec (.movIbrR3R2 qp r3 r2) s) .generalException 0x30 ∧
      Takes s (exec (.movDbrR3R2 qp r3 r2) s) .generalException 0x30) ∧
    (n < 16 → ∃ u, Yields (.movPmcR3R2 qp r3 r2) s u ∧ u = { s with pmc := u.pmc, pmd := u.pmd, clkFr := u.clkFr } ∧
      (s.pmc[4].getLsbD 23 = true → (n = 4 → v.getLsbD 23 = true) → ∀ k : Fin 16, u.pmc[k] = if k.val = n then v &&& pmcMask n else s.pmc[k]) ∧
      (s.pmc[4].getLsbD 23 = false → n ≠ 4 → u.pmc = s.pmc) ∧
      (s.pmc[4].getLsbD 23 = true → v.extractLsb' 0 4 ≠ 0 ∨ n < 4 ∨ n = 8 ∨ n = 9 ∨ 13 ≤ n → (n = 4 → v.getLsbD 23 = true) → u.pmd = s.pmd)) ∧
    (n < 18 → ∃ u, Yields (.movPmdR3R2 qp r3 r2) s u ∧ u = { s with pmd := u.pmd } ∧
      ∀ k : Fin 18, u.pmd[k] =
        if k.val = n ∧ s.pmc[4].getLsbD 23 = true then (if 4 ≤ n ∧ n < 8 then BitVec.ofNat 64 (v.toNat % 2 ^ 48) else v)
        else s.pmd[k]) ∧
    (16 ≤ n → Takes s (exec (.movPmcR3R2 qp r3 r2) s) .generalException 0x30) ∧
    (18 ≤ n → Takes s (exec (.movPmdR3R2 qp r3 r2) s) .generalException 0x30)

/-! ### Memory -/

/-- Loads of every format whose access is allowed deliver the bytes at the physical address in the byte order of PSR.be; a fill takes its
NaT bit from AR[UNAT]. Of the ALAT: a plain, ordered, biased, speculative or fill load leaves it as it was, a `.clr` check load that misses
leaves no entry of its register, an advanced load and a `.nc` check load may change it (what they put in is the next statement). Beside
that, the data TLBs note that their translation was used (the order of use is log 33, the first-level data TLB log 37). -/
def Obligations.LoadsPerform : Prop :=
  (∀ i f, intLoadForm i = some f → f.Performs i) ∧ (∀ i f, fpLoadForm i = some f → f.Performs i) ∧
  (∀ i f, fpPairForm i = some f → f.Performs i) ∧ ∀ i f, fillForm i = some f → f.Fills i

/-- Speculative loads that defer write the token and complete; check loads that hit access nothing; advanced loads make their ALAT
entry, and the entries of other registers stay while the ALAT has room (which one goes where all 32 are valid is free, log 9). -/
def Obligations.SpeculativeAdvancedAndCheckLoads : Prop :=
  ((∀ i f, intLoadForm i = some f → f.Defers i) ∧ (∀ i f, fpLoadForm i = some f → f.Defers i) ∧
  ∀ i f, fpPairForm i = some f → f.Defers i) ∧
  ((∀ i f, intLoadForm i = some f → f.Hits i ∧ f.Files i) ∧ (∀ i f, fpLoadForm i = some f → f.Hits i ∧ f.Files i) ∧
  ∀ i f, fpPairForm i = some f → f.Hits i ∧ f.Files i)

/-- Loads, `lfetch.fault`, stores and semaphores with a NaT operand, or whose access fails, take the interruption of the failed check with
nothing written; a speculative load where it does not defer the fault (R567). Which check fails first and which interruption it is:
`AccessesAreTranslatedAndChecked`. -/
def Obligations.FailedAccessesFault : Prop :=
  (∀ i f, intLoadForm i = some f ∨ fpLoadForm i = some f ∨ fpPairForm i = some f ∨ fillForm i = some f → f.Faults i) ∧
  (∀ i f, intStoreForm i = some f ∨ fpStoreForm i = some f → f.Faults i) ∧ (∀ i f, semForm i = some f → f.Faults i) ∧
  ∀ i f, prefetchForm i = some f → f.Faults i

/-- Stores whose access is allowed put their bytes at the physical address, and only there; overlapped ALAT entries go. Semaphores read,
compute and store as one; line prefetches update their base, and a prefetch that its access lets through uses its translation as a load
does (R110). An integer access fills the first-level data TLB (R860; log 37), and the second level notes the use (log 33). That exactly the
ALAT entries go whose bytes overlap in 20 bits of the physical address, and all others stay, is the model's choice (DESIGN CHOICE, log 8): R92
leaves the granularity open and permits more to go. -/
def Obligations.StoresSemaphoresAndPrefetches : Prop :=
  ((∀ i f, intStoreForm i = some f → f.Performs i) ∧ ∀ i f, fpStoreForm i = some f → f.Performs i) ∧
  (∀ i f, semForm i = some f → f.Performs i) ∧ ∀ i f, prefetchForm i = some f → f.Completes i

/-- The translation and the checks of an access, in the order of R569. A virtual access finds the translations of its region and page;
a fetch takes its first-level entry where there is one. One translation: the first of its checks that fails is the fault; else the
physical address is the page's number with the low bits of the address. More than one is a machine check, none the miss fault of R568. Physical
mode takes bits 49:0, bit 63 for UC. Then come debug, alignment and attribute (alignment of ordered and of 10- and 16-byte accesses: logs
10, 11; walker and deferral of its misses: logs 13, 17; row 6 of the access rights: log 15; codes: log 36). The model's choices are also: a fetch
that hits a first-level segment and fails a check reports the 4 KB size of the segment in ITIR (DESIGN CHOICE, log 37), and a fetch in physical
mode takes bits 49:0 of IP whatever its bits 62:50 hold (log 49). -/
def Obligations.AccessesAreTranslatedAndChecked : Prop :=
  ∀ (s : State) (acc : Acc), acc.n ∈ [1, 2, 4, 8, 10, 16] →
    let checked := fun e : TlbEntry =>
      (∀ f, s.translate acc = .error f ↔ firstFails (tlbChecks s acc e) f) ∧
      (allPass (tlbChecks s acc e) → s.translate acc = .ok (physicalOf e acc.va, e.ma))
    let first := if acc.x then s.l1itlb.find? (translatesTo s acc.va) else none
    (isVirtual s acc → ∀ e, first = some e → checked e) ∧
    (isVirtual s acc → first = none →
      (∀ e, hitsOf s acc.x acc.va = [e] → checked e) ∧
      (2 ≤ (hitsOf s acc.x acc.va).length → s.translate acc = .error .multipleHit) ∧
      (hitsOf s acc.x acc.va = [] → ∃ f, s.translate acc = .error f ∧ missFaults s acc f)) ∧
    (¬ isVirtual s acc →
      let beyond := acc.va.toNat / 2 ^ 50 % 2 ^ 13 ≠ 0 ∧ acc.x = false
      let spUc := acc.sp = true ∧ acc.va.getLsbD 63 = true
      (beyond → s.translate acc = .error .unimplementedAddress) ∧
      (¬ beyond → spUc → s.translate acc = .error .uncacheableSpeculative) ∧
      (¬ beyond → ¬ spUc → s.translate acc = .ok (acc.va.toNat % 2 ^ 50, if acc.va.getLsbD 63 then .uc else .wb))) ∧
    (∀ f, s.translate acc = .error f → s.resolve acc = .error f) ∧
    (∀ pa ma, s.translate acc = .ok (pa, ma) →
      (∀ f, s.resolve acc = .error f ↔ firstFails (dataChecks s acc ma) f) ∧
      (allPass (dataChecks s acc ma) → s.resolve acc = .ok (pa, ma))) ∧
    ∀ f, Interrupts s acc f (s.transIntr acc f) ∧ (s.defers f = true ↔ deferred s f)

/-- Bytes stored and loaded in one byte order give the value back, in the other order the value with its bytes reversed; other
bytes stay, and the form of memory too. Loads of the floating-point formats give the number that the bytes stand for, in single, double
and extended precision and as an integer, or the infinity or NaN, and stores write sign, exponent and significand back (R392, R395; values that a
format does not represent: log 21). A value of a floating-point memory format survives a load and a store of that format; any register value
survives a spill and a fill. -/
def Obligations.StoredBytesLoadBack : Prop :=
  (∀ (m : List Host.Cell) (pa n v : Nat) (be : Bool), Memory.wf m = true →
    let m' := Memory.writeBytes m pa (storeBytes v n be)
    Memory.load m' pa n be = v % 256 ^ n ∧ Memory.wf m' = true ∧
    (∀ k, k < n → Memory.load m' pa n (!be) / 256 ^ k % 256 = v / 256 ^ (n - 1 - k) % 256) ∧
    ∀ a, a < pa ∨ pa + n ≤ a → Memory.read m' a = Memory.read m a) ∧
  (FormatReads .single 8 23 ∧ FormatReads .double 11 52 ∧ ExtendedReads ∧ FormatWrites .single 8 23 ∧ FormatWrites .double 11 52 ∧
    ExtendedWrites ∧ (∀ v, v < 2 ^ 64 → isFinite (FpFormat.integer.toReg v) ∧ numberOf (FpFormat.integer.toReg v) = v) ∧
    ∀ r : FReg, FpFormat.integer.toMem r = r.sig.toNat) ∧
  ((∀ v, v < 2 ^ 32 → FpFormat.single.toMem (FpFormat.single.toReg v) = v) ∧
  (∀ v, v < 2 ^ 64 → FpFormat.double.toMem (FpFormat.double.toReg v) = v) ∧
  (∀ v, v < 2 ^ 64 → FpFormat.integer.toMem (FpFormat.integer.toReg v) = v) ∧
  (∀ v, v < 2 ^ 80 → v.testBit 63 = true ∨ v / 2 ^ 64 % 2 ^ 15 = 0 ∨ v / 2 ^ 64 % 2 ^ 15 = 0x7FFF →
    FpFormat.extended.toMem (FpFormat.extended.toReg v) = v) ∧
  ∀ r : FReg, FpFormat.fill.toReg (FpFormat.fill.toMem r) = r)

/-- Log 44. A store to a write-coalescing page is seen through the buffer at once and in memory after a flush; nothing else changes. -/
def Obligations.WriteCoalescingIsCoherent : Prop :=
  ∀ (s : State) (pa : Nat) (bs : List Byte), s.MemOk → s.BuffersOk → s.WcbOk → pa % 128 + bs.length ≤ 128 →
    let t := s.wcStore pa bs
    (∀ a, t.coherentByte a = if pa ≤ a ∧ a < pa + bs.length then bs.getD (a - pa) 0 else s.coherentByte a) ∧
    t.MemOk ∧ t.BuffersOk ∧ t.WcbOk ∧ t.wcbFlush.wcb = [] ∧ t.wcbFreeEvict.WcbOk ∧
    (∀ a, Memory.read t.wcbFlush.mem a = t.coherentByte a) ∧ ∀ a, t.wcbFreeEvict.coherentByte a = t.coherentByte a

/-- `mf`, `fwb` empty the write-coalescing buffer into memory; `mf.a` does what `mf` does, or changes nothing (log 44); `srlz.d` and `srlz.i` make the user
mask that PSR now holds the one of data references; `sync.i`, `srlz.i` and `fc` change only what fetch still misses, and after `fc`, `sync.i`, `srlz.i` fetch sees the line of the flushed address as memory holds it (log 43). -/
def Obligations.FencesAndSerialization : Prop :=
  (∀ i qp s, (i = .mf qp ∨ i = .fwb qp) → s.pred qp = true → ∃ u, Yields i s u ∧ u.wcb = [] ∧
    u = { s with mem := u.mem, wcb := u.wcb, stale := u.stale } ∧
    (s.MemOk → s.WcbOk → ∀ a, Memory.read u.mem a = s.coherentByte a)) ∧
  (∀ qp s, s.pred qp = true → ∃ u, Yields (.mfA qp) s u ∧ (u = s ∨ Yields (.mf qp) s u)) ∧
  (∀ qp s, s.pred qp = true → Yields (.srlzD qp) s { s with umGroup := s.psr.extractLsb' 0 6 }) ∧
  (∀ qp s, s.pred qp = true → ∃ u, Yields (.syncI qp) s u ∧
    u = { s with stale := s.stale.map fun b => if b.stage = 1 then { b with stage := 2 } else b }) ∧
  (∀ qp s, s.pred qp = true → ∃ u, Yields (.srlzI qp) s u ∧
    u = { s with stale := s.stale.filter fun b => b.stage ≠ 2, umGroup := s.psr.extractLsb' 0 6, events := u.events }) ∧
  (∀ qp r3 s pa ma, s.pred qp = true → usable s r3 →
    s.access { va := (s.gr r3).val, n := 1, cls := .reference, r := true, na := some 1, cpl := s.cpl } = .ok (pa, ma) →
    ∃ u, Yields (.fcR3 qp r3) s u ∧ u = { s with mem := u.mem, wcb := u.wcb, stale := u.stale, bilDue := s.bilDue + 1 } ∧
      (s.MemOk → s.WcbOk → ∀ a, u.coherentByte a = s.coherentByte a) ∧
      (∀ b ∈ s.stale, b.addr / 128 = pa / 128 → b.stage = 0 → { b with stage := 1 } ∈ u.stale) ∧
      ∀ b ∈ u.stale, b.addr / 128 = pa / 128 → b.stage ≠ 0) ∧
  ∀ (s : State) a, (∀ b ∈ s.stale, b.stage ≤ 2) →
    ∀ b ∈ (((s.staleFc a).staleSync).serializeInstr).stale, b.addr / 128 ≠ a / 128

/-! ### Translations -/

/-- Every purge and insert completes under conditions on its operands and the state alone: `ptc.e`, `ptc.l`, `ptc.g`, `ptc.ga`,
`ptr.d`, `ptr.i` at privilege level 0 with readable operands and a page size of R152; `itc.d`, `itc.i`, `itr.d`, `itr.i` at level 0 with
PSR.ic = 0, readable and admitted operands and no translation register in the way. What they leave, and their faults. The model's choices:
a purge removes exactly the overlapping entries, and an insert ignores bits 63:53 of GR[r2] (DESIGN CHOICE, log 33); purges and inserts take
the overlapping segments of the first level with them (DESIGN CHOICE, log 37), on the data side also those that the second level does not hold any more (R155); an overlapped translation register is a machine check, at
which the model stops (log 47). -/
def Obligations.PurgesAndInserts : Prop :=
  (∀ qp r3 s, s.pred qp = true → s.cpl = 0 → usable s r3 →
    exec (.ptcER3 qp r3) s = .next (retire s { s := { s with itcache := [], dtcache := [], l1itlb := [], l1dtlb := [] } })) ∧
  (∀ (i : Instr) (qp : PredIdx) (r3 r2 : GrIdx), i = .ptcLR3R2 qp r3 r2 ∨ i = .ptcGR3R2 qp r3 r2 ∨ i = .ptcGaR3R2 qp r3 r2 ∨
    i = .ptrDR3R2 qp r3 r2 ∨ i = .ptrIR3R2 qp r3 r2 → ∃ f, purgeForm i = some f ∧ f.Correct i) ∧
  ∀ (i : Instr) (qp : PredIdx) (r3 r2 : GrIdx), i = .itcDR2 qp r2 ∨ i = .itcIR2 qp r2 ∨ i = .itrDDtrR3R2 qp r3 r2 ∨
    i = .itrIItrR3R2 qp r3 r2 → ∃ f, insertForm i = some f ∧ f.Completes i ∧ f.Faults i ∧ f.NeedsIc i

/-- Between two instructions the TLBs change nothing but themselves, and what the monitors see. With PTA.ve = 0 the page walker does
nothing, else it adds only translations that a walk finds, for an address that PTA.ve, RR.ve, PSR.ic and PSR.dt (for instructions PSR.it)
let it walk for, which they cover; the first-level data TLB takes in only segments of translations that were there or were found (logs 13,
37); the translations of each TLB stay disjoint. -/
def Obligations.WalksAddOnlyWhatTheyFind : Prop :=
  ∀ s : State, let u := s.tlbFree
    let found := fun (instr : Bool) (e : TlbEntry) => ∃ va, s.WalkFound instr va e ∧ s.cr.pta.getLsbD 0 = true ∧
      (s.regionReg va).getLsbD 0 = true ∧ s.psrIc = true ∧ s.psrDt = true ∧ (instr = true → s.psrIt = true) ∧
      e.covers (rrRid (s.regionReg va)) (va.setWidth 61) = true
    (s.cr.pta.getLsbD 0 = false → u = { s with l1dtlb := u.l1dtlb, events := u.events }) ∧
    (s.psrDt = false → s.psrRt = false → u = s) ∧
    u = { s with itcache := u.itcache, dtcache := u.dtcache, l1itlb := u.l1itlb, l1dtlb := u.l1dtlb, events := u.events } ∧
    u.l1itlb.Sublist s.l1itlb ∧
    (∀ e ∈ u.itcache, e ∈ s.itcache ∨ found true e) ∧ (∀ e ∈ u.dtcache, e ∈ s.dtcache ∨ found false e) ∧
    (∀ e ∈ u.l1dtlb, e ∈ s.l1dtlb ∨ ∃ f va, e = f.segment va ∧ (f ∈ s.translations false ∨ found false f)) ∧
    (s.TlbOk → u.TlbOk)

/-! ### Speculation checks and the ALAT -/

/-- `chk.s` fails on a NaT bit or NaTVal, `chk.a` on a missing entry (its `.clr` form leaves none of its register either way), `fchkf` on a flag that its trap or status field 0 does not
cover; `invala` removes every entry, `invala.e` that of its register. -/
def Obligations.ChecksAndInvalidation : Prop :=
  (∀ i qp r2 imm s, (i = .chkSIR2Target25 qp r2 imm ∨ i = .chkSMR2Target25 qp r2 imm) → s.pred qp = true →
    s.grVisible r2 = true → Checks i s imm (.chksFailed false) ((s.gr r2).nat = true) s.OnlyEvents s.OnlyEvents) ∧
  (∀ qp f2 imm s, s.pred qp = true → s.frDisabled f2 = 0 →
    Checks (.chkSF2Target25 qp f2 imm) s imm (.chksFailed true) (s.fr f2 = FReg.natVal) s.OnlyEvents s.OnlyEvents) ∧
  (∀ qp r1 imm s, s.pred qp = true → s.grVisible r1 = true → let reg := AlatReg.gr (s.grPhys r1)
    Checks (.chkANcR1Target25 qp r1 imm) s imm (.chkaLdc false true none) (s.alatHit reg = false) (onlyChecked s · reg)
      (onlyChecked s · reg) ∧
    Checks (.chkAClrR1Target25 qp r1 imm) s imm (.chkaLdc false true none) (s.alatHit reg = false) (entryRemoved s · reg)
      (entryRemoved s · reg)) ∧
  (∀ qp f1 imm s, s.pred qp = true → s.frDisabled f1 = 0 → let reg := AlatReg.fr (s.frPhys f1)
    Checks (.chkANcF1Target25 qp f1 imm) s imm (.chkaLdc true true none) (s.alatHit reg = false) (onlyChecked s · reg)
      (onlyChecked s · reg) ∧
    Checks (.chkAClrF1Target25 qp f1 imm) s imm (.chkaLdc true true none) (s.alatHit reg = false) (entryRemoved s · reg)
      (entryRemoved s · reg)) ∧
  (∀ qp sf imm s, s.pred qp = true → let flag := fun (b : BitVec 2) (k : Nat) => s.old.fpsr.getLsbD (6 + 13 * b.toNat + 7 + k)
    Checks (.fchkfSfTarget25 qp sf imm) s imm .fchkfFailed
      (∃ k, k < 6 ∧ flag sf k = true ∧ (s.old.fpsr.getLsbD k = false ∨ flag 0 k = false)) s.OnlyEvents s.OnlyEvents) ∧
  (∀ qp s, s.pred qp = true → Yields (.invala qp) s { s with alat := [], grpAlatInvalAll := true }) ∧
  (∀ qp r1 s, s.pred qp = true → s.grVisible r1 = true →
    ∃ u, Yields (.invalaER1 qp r1) s u ∧ entryRemoved s u (.gr (s.grPhys r1))) ∧
  (∀ qp f1 s, s.pred qp = true → ∃ u, Yields (.invalaEF1 qp f1) s u ∧ entryRemoved s u (.fr (s.frPhys f1)))

/-! ### The register stack -/

/-- `alloc`: the new frame, AR[PFS] in GR[r1], the registers of the frame kept; with no room the oldest registers are spilled
first. A target outside the new frame is refused before the change of `sor` (DESIGN CHOICE, log 46). -/
def Obligations.AllocResizesTheFrame : Prop :=
  ∀ r1 (sof sol : BitVec 7) (sor : BitVec 4) s,
    let legal := sof.toNat ≤ 96 ∧ sol.toNat ≤ sof.toNat ∧ 8 * sor.toNat ≤ sof.toNat
    let fixed := cfmRrbGr s.cfm ≠ 0 ∨ cfmRrbFr s.cfm ≠ 0 ∨ cfmRrbPr s.cfm ≠ 0
    let i := Instr.allocR1ArPfsILOR 0 r1 sof sol sor
    (∀ qp, qp ≠ 0 → Takes s (exec (.allocR1ArPfsILOR qp r1 sof sol sor) s) .generalException 0) ∧
    (¬ legal → Takes s (exec i s) .generalException 0) ∧
    (legal → r1.toNat = 0 ∨ 32 + sof.toNat ≤ r1.toNat → Takes s (exec i s) .generalException 0) ∧
    (legal → r1.toNat ≠ 0 → r1.toNat < 32 + sof.toNat → sor.toNat ≠ cfmSor s.cfm → fixed →
      Takes s (exec i s) .generalException 0x30) ∧
    (legal → (sor.toNat = cfmSor s.cfm ∨ ¬ fixed) → r1.toNat ≠ 0 → r1.toNat < 32 + sof.toNat → s.StackOk →
      8 * cfmSor s.cfm ≤ cfmSof s.cfm → cfmRrbGr s.cfm ≤ 8 * cfmSor s.cfm →
      ∀ t, s.spill (min (s.ndirty + sof.toNat - 96) 96) = .ok t → ∃ u, Yields i s u ∧
        cfmSof u.cfm = sof.toNat ∧ cfmSol u.cfm = sol.toNat ∧ cfmSor u.cfm = sor.toNat ∧
        cfmRrbGr u.cfm = cfmRrbGr s.cfm ∧ cfmRrbFr u.cfm = cfmRrbFr s.cfm ∧ cfmRrbPr u.cfm = cfmRrbPr s.cfm ∧
        (s.wawFree (.gr (u.grPhys r1)) .alu = false → u.cur.gr (u.grPhys r1) = { val := s.old.pfs, nat := false }) ∧
        (∀ r, s.grVisible r = true → s.grPhys r ≠ u.grPhys r1 → u.cur.gr (s.grPhys r) = s.cur.gr (s.grPhys r)) ∧
        u.bof = s.bof ∧ u.mem = t.mem ∧ u.wcb = t.wcb ∧ u.cur.bsp = s.cur.bsp ∧ u.cur.bspstore = t.cur.bspstore ∧
        t.cur.OnlyGr u.cur ∧ (s.ndirty + sof.toNat ≤ 96 → t = s) ∧ u.ndirty + u.nclean + sof.toNat ≤ 96)

/-- `flushrs` spills every dirty register, and an RNAT collection still below BSP, until BSPSTORE = BSP; `loadrs` makes the RSC.loadrs bytes below BSP dirty (rounded down to a
multiple of 8, log 18), and is illegal with a frame or outside lazy mode (R592); `cover` gives the whole frame to the dirty registers, with CR[IFS] its marker when PSR.ic = 0. One spill stores
the oldest dirty register at BSPSTORE, its NaT bit in AR[RNAT]; the register stays as a clean one. At the slot of an RNAT collection, before or
after it, the spill stores AR[RNAT], which it keeps. One fill, and one slot of `loadrs`, load
the register below the dirty ones, its NaT bit from AR[RNAT], which is reloaded at its slot. -/
def Obligations.FlushLoadCoverSpillAndFill : Prop :=
  ((∀ qp s t, s.pred qp = true → s.StackOk → s.spillAll = .ok t → ∃ u, Yields (.flushrs qp) s u ∧
    u = { t with events := u.events } ∧ u.cur.bspstore = u.cur.bsp ∧ u.ndirty = 0 ∧ u.cur.bsp = s.cur.bsp ∧
    u.nclean = s.nclean + s.ndirty) ∧
  (∀ qp s t, s.pred qp = true → let bytes := rscLoadrs s.old.rsc / 8 * 8
    let target := s.cur.bsp - BitVec.ofNat 64 bytes
    (cfmSof s.cfm ≠ 0 ∨ s.old.rsc.extractLsb' 0 2 ≠ 0 ∨ 96 < rseRegs target s.cur.bsp →
      Takes s (exec (.loadrs qp) s) .generalException 0) ∧
    (cfmSof s.cfm = 0 → s.old.rsc.extractLsb' 0 2 = 0 → rseRegs target s.cur.bsp ≤ 96 →
      ({ s with nclean := 0 } : State).loadSlots (bytes / 8 - (s.cur.bsp - s.cur.bspstore).toNat / 8) = .ok t →
      ∃ u, Yields (.loadrs qp) s u ∧ u.cur.bspstore = target ∧ u.nclean = 0 ∧ u.ndirty = rseRegs target s.cur.bsp ∧
        u = { t with cur := u.cur, events := u.events } ∧ u.cur = { t.cur with bspstore := target } ∧ u.cur.bsp = s.cur.bsp)) ∧
  (∀ s, ∃ u, Yields .cover s u ∧ u.cfm = 0 ∧ u.bof = (s.bof + cfmSof s.cfm) % 96 ∧
    u.cur = { s.cur with bsp := rseAdd s.cur.bsp (cfmSof s.cfm) } ∧
    (s.psrIc = true → u.cr = s.cr) ∧
    (s.psrIc = false → u.cr = { s.cr with ifs := BitVec.ofNat 64 (s.cfm.toNat + 2 ^ 63) }) ∧
    u = { s with cur := u.cur, cfm := u.cfm, bof := u.bof, cr := u.cr, events := u.events })) ∧
  (∀ s : State, s.StackOk → s.ndirty < 96 → FillsOneRegister s) ∧
  ∀ s : State, s.StackOk → s.MemOk → s.BuffersOk → s.WcbOk → s.TlbOk → SpillsOneRegister s

/-! ### Branches -/

/-- Conditional branches and calls go to their targets when predicated; a call saves the link, PFS and makes the callee's frame.
`br.cloop` counts LC down and branches until it is 0; the modulo-scheduled loop branches count LC and EC, set PR[63] and rotate
the names; outside slot 2 they are illegal. `epc` gives the privilege of a promote page, 0 with translation off, and is illegal above
PFS.ppl. -/
def Obligations.BranchesCallsLoopsAndEpc : Prop :=
  ((∀ i f, condForm i = some f → f.Correct i) ∧ ∀ i f, callForm i = some f → f.Correct i) ∧
  ((∀ imm h s, let i := Instr.brCloopBwhPhDhTarget25 imm h
    (s.ri ≠ 2 → Takes s (exec i s) .generalException 0) ∧
    (s.ri = 2 → s.old.lc = 0 → ∃ u, Yields i s u ∧ s.OnlyEvents u) ∧
    (s.ri = 2 → s.old.lc ≠ 0 → ∃ u, YieldsTo i s u (relTarget s imm) ∧
      (s.wawFree (.ar 65) .alu = false → u.cur.lc = s.old.lc - 1) ∧ u.cur = { s.cur with lc := u.cur.lc } ∧
      u = { s with cur := u.cur, grpWrites := u.grpWrites, events := u.events })) ∧
  ∀ i f, loopForm i = some f → f.Correct i) ∧
  ∀ s, let ppl := s.old.pfs.extractLsb' 62 2
    (ppl.toNat < s.cpl.toNat → Takes s (exec .epc s) .generalException 0) ∧
    (s.cpl.toNat ≤ ppl.toNat → ∃ u, Yields .epc s u ∧ u = { s with psr := u.psr, events := u.events } ∧
      (∀ k, k < 64 → k ≠ 32 → k ≠ 33 → u.psr.getLsbD k = s.psr.getLsbD k) ∧
      (s.psrIt = false → u.cpl = 0) ∧
      (∀ e, s.psrIt = true → s.found true s.ip = [e] →
        u.cpl = if e.ar = 7 ∧ e.pl.toNat < s.cpl.toNat then e.pl else s.cpl))

/-- `br.ret`: the caller's frame, EC, and a less privileged level come from AR[PFS] as the group has written it so far (DEDUCED, log 6);
a frame that must be filled from memory and cannot be takes the fault; a return to a lower privilege asks for the Lower-Privilege Transfer
trap. A frame that is restored has its marker, its base and BSP, and the registers the fills loaded; one out of bounds is log 16. A call
followed by the return to its frame leaves the frame, its registers and BSP as they were. -/
def Obligations.ReturnsRestoreTheCaller : Prop :=
  (∀ qp b2 h s, let i := Instr.brRetBwhPhDhB2 qp b2 h
    let pfm := s.cur.pfs.extractLsb' 0 38
    let ppl := s.cur.pfs.extractLsb' 62 2
    let demoted := decide (s.cpl.toNat < ppl.toNat)
    (s.branchPred qp = false → ∃ u, Yields i s u ∧ s.OnlyEvents u) ∧
    (s.branchPred qp = true → ∀ t, s.popFrame pfm (cfmSol pfm) = .ok t →
      ∃ u, exec i s = .next (retire s { s := u, target := some (regTarget s b2), lpTrap := demoted }) ∧
        u.cur = { t.cur with ec := u.cur.ec } ∧ (s.wawFree (.ar 66) .alu = false → u.cur.ec = s.cur.pfs.extractLsb' 52 6) ∧ u.cpl = (if demoted then ppl else s.cpl) ∧
        (∀ k, k < 64 → k ≠ 32 → k ≠ 33 → u.psr.getLsbD k = s.psr.getLsbD k) ∧
        u = { t with cur := u.cur, psr := u.psr, grpWrites := u.grpWrites, events := u.events } ∧ s.SameMem u) ∧
    (s.branchPred qp = true → ∀ e, s.popFrame pfm (cfmSol pfm) = .error (.intr e) →
      exec i s = .next (s.takeInterruption { e with events := .branchFault 2 :: e.events } s.ri))) ∧
  (∀ (s t : State) (c : BitVec 38) (n : Nat), cfmSof c ≤ 96 → cfmSol c ≤ cfmSof c → cfmSor c ≤ 12 → n ≤ cfmSof c →
    s.ndirty - n + cfmSof c ≤ 96 → s.fill true (n - s.ndirty) = .ok t →
      ∃ u, s.popFrame c n = .ok u ∧ u.cfm = c ∧ u.bof = (s.bof + 96 - n) % 96 ∧ u.cur.bsp = rseSub s.cur.bsp n ∧ u.mem = s.mem ∧
        ∀ k, k < min (cfmSof c) (n + cfmSof s.cfm) → u.stackedAt (u.bof + k) = t.stackedAt (u.bof + k)) ∧
  (∀ s : State, s.StackOk → let n := cfmSol s.cfm
    ∀ t : State, cfmSof t.cfm = cfmSof s.cfm - n → t.bof = (s.bof + n) % 96 → t.nclean = s.nclean →
      t.cur = { s.cur with bsp := rseAdd s.cur.bsp n, br := t.cur.br, pfs := t.cur.pfs } →
      ∃ u, t.popFrame s.cfm n = .ok u ∧ u.cfm = s.cfm ∧ u.bof = s.bof ∧ u.cur.bsp = s.cur.bsp ∧
        u.cur.stacked = s.cur.stacked ∧ u.ndirty = s.ndirty ∧ u.mem = t.mem)

/-- R555 and R557: `clrrrb` clears the rotation bases, `clrrrb.pr` that of the predicates alone; `bsw` at level 0 selects which bank is
visible as r16 to r31, both banks keep their registers and NaT bits, and it traps at any other level. None of them has a predicate. -/
def Obligations.RotationClearAndBankSwitch : Prop :=
  (∀ s, ∃ u, Yields .clrrrb s u ∧ u = { s with cfm := u.cfm } ∧ cfmSof u.cfm = cfmSof s.cfm ∧ cfmSol u.cfm = cfmSol s.cfm ∧
    cfmSor u.cfm = cfmSor s.cfm ∧ cfmRrbGr u.cfm = 0 ∧ cfmRrbFr u.cfm = 0 ∧ cfmRrbPr u.cfm = 0) ∧
  (∀ s, ∃ u, Yields .clrrrbPr s u ∧ u = { s with cfm := u.cfm } ∧ cfmRrbPr u.cfm = 0 ∧
    u.cfm.extractLsb' 0 32 = s.cfm.extractLsb' 0 32) ∧
  (∀ (s : State) (bank : Bool), s.cpl = 0 → ∃ u, Yields (if bank then .bsw1 else .bsw0) s u ∧ u = { s with psr := u.psr } ∧
    isBits u.psr (fun k => if k = 44 then bank else s.psr.getLsbD k) ∧
    ∀ k : Fin 16, u.gr (BitVec.ofNat 7 (16 + k.val)) = if bank then s.old.bank1[k] else s.old.bank0[k]) ∧
  ∀ s : State, s.cpl ≠ 0 → Takes s (exec .bsw0 s) .generalException 0x10 ∧ Takes s (exec .bsw1 s) .generalException 0x10

/-! ### Floating point -/

/-- Fixed-point multiply-adds, merges, logical and parallel moves, `fselect`, `fcvt.xf`, and moves from general registers; what
`fmix`, `fsxt`, `fswap` and `fpmerge` do with the halves is PRESUMED (log 20). -/
def Obligations.FpMoves : Prop :=
  (∀ i f, fpMoveForm i = some f → f.Correct i) ∧ ∀ i f, setfForm i = some f → f.Correct i

/-- Multiply-adds, minima, maxima, parallel compares and conversions to integer write the target and the flags of their status
field, or fault before writing (conventions the source leaves open: log 22, 23, 25, 28, 42). -/
def Obligations.FpArithmetic : Prop :=
  ∀ i f, fmaForm i = some f ∨ minMaxForm i = some f ∨ cvtForm i = some f → f.Correct i ∧ f.Faults i

/-- Floating-point compares, and class tests: NaTVal clears both targets unless the class mask asks for it. The bits of
the class mask are PRESUMED (log 24), one register as both targets is log 42. -/
def Obligations.FpCompares : Prop :=
  (∀ i f, fcmpForm i = some f → f.Correct i ∧ f.Guarded i) ∧
  ∀ i qp p1 p2 f2 m s ct, (i = .fclassMP1P2F2Fclass9 qp p1 p2 f2 m ∧ ct = .norm ∨
      i = .fclassMUncP1P2F2Fclass9 qp p1 p2 f2 m ∧ ct = CmpType.unc) →
    (s.pred qp = true → p1 ≠ p2 → s.frDisabled f2 = 0 → noPrHazard s .norm → ∃ u, Yields i s u ∧
      s.WrotePr u (prAfter s p1 p2 (if s.fr f2 = FReg.natVal ∧ m.getLsbD 8 = false then (some false, some false)
        else (some (fclassHolds m (s.fr f2)), some !(fclassHolds m (s.fr f2)))))) ∧
    (s.pred qp = false → ct = .unc → p1 ≠ p2 → noPrHazard s .norm → ∃ u, Yields i s u ∧
      s.WrotePr u (prAfter s p1 p2 (some false, some false))) ∧
    (p1 = p2 → s.pred qp = true ∨ ct = .unc → Takes s (exec i s) .generalException 0)

/-- Minima and maxima, compares, class tests and conversions to integer as what they say of numbers: the values of R502, infinities
beyond all of them, NaNs unordered; rounding to the nearest integer (even on a tie), down, up and to zero. The bits of the class mask are
PRESUMED (log 24). Of log 42 are: the indefinite 0x80000000 of the 32-bit conversions (PRESUMED), and, DEDUCED, the indefinite for an infinity
or an unsupported operand, an unsupported operand compared as unordered with V, and D beside a NaN. `fcvt.xf` gives the signed integer of the
significand, as a normal number or +0 (R512). -/
def Obligations.FpOrderClassAndConversionValues : Prop :=
  (∀ m a b, a ≠ FReg.natVal → b ≠ FReg.natVal → MinMaxIsRight m a b) ∧
  (∀ r a b, a ≠ FReg.natVal → b ≠ FReg.natVal → CompareIsRight r a b) ∧
  (∀ m f, fclassHolds m f = true ↔ classSelected m f) ∧
  (∀ f : FReg, isFinite (fcvtXf f) ∧ numberOf (fcvtXf f) = f.sig.toInt ∧ (f.sig ≠ 0 → isNormal (fcvtXf f)) ∧
    (f.sig = 0 → fcvtXf f = { sign := false, exp := 0, sig := 0 })) ∧
  ∀ rc f, ConvertIsRight rc f (-(2 ^ 63)) (2 ^ 63 - 1) 0x8000000000000000 (fcvt64 rc false f) ∧
    ConvertIsRight rc f 0 (2 ^ 64 - 1) 0x8000000000000000 (fcvt64 rc true f) ∧
    ConvertIsRight rc f (-(2 ^ 31)) (2 ^ 31 - 1) 0x80000000 (fcvt32 rc false f) ∧
    ConvertIsRight rc f 0 (2 ^ 32 - 1) 0x80000000 (fcvt32 rc true f)

/-- Reciprocal and reciprocal square root approximations, with their predicate; the tables and ranges are free (log 26, 27). The special results
are those of a division and of a square root: of zeros, infinities, NaNs, unsupported operands and negative numbers, with V, Z and D (R503,
R510; D beside a NaN: log 42). -/
def Obligations.FpApproximations : Prop :=
  (∀ i f, approxForm i = some f → f.Correct i) ∧
  (∀ (env : FpEnv) (a b : FReg) (far : Bool), a ≠ FReg.natVal → b ≠ FReg.natVal → QuotientIsRight env a b far) ∧
  ∀ (env : FpEnv) (b : FReg) (far : Bool), b ≠ FReg.natVal → RootIsRight env b far

/-- Where an approximation is delivered its relative error is below 2^-8.886 for a reciprocal, 2^-8.831 for a reciprocal square root,
whatever the tables hold; scalar and in a half of single precision. -/
def Obligations.ApproximationErrorsAreBounded : Prop :=
  (∀ (env : FpEnv) (a b raw : FReg) (far : Bool), env.quotient a b (far || recipOverflows FpEnv.register b) = none →
    approximatesReciprocal (recipBounded FpEnv.register raw b) b) ∧
  (∀ (env : FpEnv) (a raw : FReg) (w : BitVec 32) (far : Bool), let b := singleToReg w
    env.quotient a b (far || recipOverflows FpEnv.singles b) = none → approximatesReciprocal (recipBounded FpEnv.singles raw b) b) ∧
  (∀ (env : FpEnv) (b raw : FReg) (far : Bool), env.root b far = none → approximatesRsqrt (rsqrtBounded FpEnv.register raw b) b) ∧
  ∀ (env : FpEnv) (raw : FReg) (w : BitVec 32) (far : Bool), let b := singleToReg w
    env.root b far = none → approximatesRsqrt (rsqrtBounded FpEnv.singles raw b) b

/-- `fsetc` sets the controls of a status field from those of field 0 and its masks, and refuses reserved ones; `fclrf` clears the
flags of its field. Where another instruction of the group wrote the field too, what it holds is not fixed (R911 (b); log 6). -/
def Obligations.FpStatusFields : Prop :=
  (∀ qp (sf : BitVec 2) am om s, s.pred qp = true →
    let c := (s.old.fpsr.extractLsb' 6 7 &&& am) ||| om
    let base := 6 + 13 * sf.toNat
    (c.extractLsb' 2 2 = 1 ∨ (sf = 0 ∧ c.getLsbD 6 = true) →
      Takes s (exec (.fsetcSfAmask7Omask7 qp sf am om) s) .generalException 0x30) ∧
    (c.extractLsb' 2 2 ≠ 1 → (sf = 0 → c.getLsbD 6 = false) → ∃ u, Yields (.fsetcSfAmask7Omask7 qp sf am om) s u ∧
      u = { s with cur := { s.cur with fpsr := u.cur.fpsr }, grpWrites := u.grpWrites } ∧
      ∀ k, k < 64 → if base ≤ k ∧ k < base + 7 then s.wawFree (.part 40 sf.toNat) .alu = false → u.cur.fpsr.getLsbD k = c.getLsbD (k - base)
        else u.cur.fpsr.getLsbD k = s.cur.fpsr.getLsbD k)) ∧
  ∀ qp (sf : BitVec 2) s, s.pred qp = true → let base := 6 + 13 * sf.toNat
    ∃ u, Yields (.fclrfSf qp sf) s u ∧ u = { s with cur := { s.cur with fpsr := u.cur.fpsr }, grpWrites := u.grpWrites } ∧
      ∀ k, k < 64 → if base + 7 ≤ k ∧ k < base + 13 then
          s.wawFree (.part 40 (4 + sf.toNat)) .alu = false → u.cur.fpsr.getLsbD k = false
        else u.cur.fpsr.getLsbD k = s.cur.fpsr.getLsbD k

/-- A rounded result that neither overflows nor is tiny is a normal number of the precision, within one unit in its last place of
the exact value, on the side the rounding mode names, nearest (even on a tie) for mode 0; inexact exactly when it differs. -/
def Obligations.RoundingIsCorrect : Prop :=
  ∀ (env : FpEnv) (x : Exact), (env.prec = 24 ∨ env.prec = 53 ∨ env.prec = 64) → -65534 ≤ env.emin → env.emax ≤ 65535 →
    x.m ≠ 0 → let o := env.round x
    o.o = false → o.tiny = false →
      let err := roundError o.res.exact x
      let ulp := ulpOf env.prec o.res.exact x
      o.res.sign = x.neg ∧ o.res.fpClass = .normal ∧ o.res.sig.toNat % 2 ^ (64 - env.prec) = 0 ∧ (o.i = true ↔ err ≠ 0) ∧
      -ulp < err ∧ err < ulp ∧
      (env.rc = 0 → -ulp ≤ 2 * err ∧ 2 * err ≤ ulp ∧ (2 * err = ulp ∨ 2 * err = -ulp → o.res.sig.toNat / 2 ^ (64 - env.prec) % 2 = 0)) ∧
      (env.rc = 1 → err ≤ 0) ∧ (env.rc = 2 → 0 ≤ err) ∧ (env.rc = 3 → if x.neg then 0 ≤ err else err ≤ 0)

/-- A multiply-add of finite values rounds the exact product plus addend once; the sign of an exact zero; NaNs, unsupported
values and infinity times zero. The sign of a zero sum of terms of opposite sign, and the indefinite with V of infinity times zero, are
choices of the model, those of IEEE 754 (DESIGN CHOICE, log 50). -/
def Obligations.FmaRoundsTheExactResult : Prop :=
  ∀ (env : FpEnv) (kind : FmaKind) (f3 f4 f2 : FReg) (o : Bool),
    let r := env.fma kind f3 f4 f2 o
    let finite := fun f : FReg => f.fpClass = .zero ∨ f.fpClass = .unnormal ∨ f.fpClass = .normal
    let un := fun f : FReg => f.fpClass = .unsupported
    let pneg := (f3.sign != f4.sign) != (kind == .fnma)
    let aneg := f2.sign != (kind == .fms)
    (finite f3 → finite f4 → finite f2 → ∃ x : Exact,
      r = { env.roundZ x with d := decide (f3.fpClass = .unnormal ∨ f4.fpClass = .unnormal ∨ f2.fpClass = .unnormal) } ∧
      (let k := min (min (f3.exact.k + f4.exact.k) f2.exact.k) x.k
       let prod : Int := (f3.sig.toNat * f4.sig.toNat * 2 ^ (f3.exact.k + f4.exact.k - k).toNat : Nat)
       let add : Int := (f2.sig.toNat * 2 ^ (f2.exact.k - k).toNat : Nat)
       x.scaled k = (if pneg then -prod else prod) + (if o then 0 else if aneg then -add else add)) ∧
      (x.m = 0 → x.neg = if o then pneg else if pneg = aneg then pneg else decide (env.rc = 1))) ∧
    (un f3 ∨ un f4 ∨ un f2 → r.res = FReg.qnanIndefinite ∧ r.v = true) ∧
    (¬ un f3 → ¬ un f4 → ¬ un f2 →
      (f4.isNan = true → r.res = f4.quiet) ∧ (f4.isNan = false → f2.isNan = true → r.res = f2.quiet) ∧
      (f4.isNan = false → f2.isNan = false → f3.isNan = true → r.res = f3.quiet) ∧
      (f3.isNan = true ∨ f4.isNan = true ∨ f2.isNan = true →
        (r.v = true ↔ f3.fpClass = .snan ∨ f4.fpClass = .snan ∨ f2.fpClass = .snan))) ∧
    (f3.fpClass = .inf → f4.fpClass = .zero → finite f2 → r.res = FReg.qnanIndefinite ∧ r.v = true) ∧
    (f3.fpClass = .inf → finite f4 → f4.fpClass ≠ .zero → finite f2 → r.res = FReg.infinity pneg ∧ r.v = false)

/-! ### Performance monitors -/

/-- A clock of the counters: each one that PMC4, its own PMC and PSR enable adds its increment to 48 bits; a carry out of bit 46 sets its bit
of PMC0, which stays set, and with `oi` = 1 PMC0.fr, and no other one changes. While PMC0.fr is 1 no PMD changes. A counter of CPU_CYCLES
adds 1 for each clock that a step ends (log 29: how many is free). -/
def Obligations.CountersCountUntilFrozen : Prop :=
  let conf := fun (s : State) (i : Fin 4) => s.pmc[4 + i.val]'(by omega)
  let on := fun (s : State) (i : Fin 4) => s.pmc[4].getLsbD 23 = true ∧ (conf s i).getLsbD s.cpl.toNat = true ∧
    s.psr.getLsbD (if (conf s i).getLsbD 6 then 21 else 2) = true ∧ (conf s i).getLsbD 24 = false
  (∀ (s : State) (fr : Bool) (inc : Nat → Nat) (c : Counts), s.psrIs = false → let t := s.countClock fr inc c
    let carry := fun i : Fin 4 => on s i ∧ fr = false ∧ 2 ^ 47 ≤ (c.pmd[4 + i.val]'(by omega)).toNat % 2 ^ 47 + inc i
    (∀ i : Fin 4,
      (on s i → fr = false → (t.pmd[4 + i.val]'(by omega)).toNat = ((c.pmd[4 + i.val]'(by omega)).toNat + inc i) % 2 ^ 48) ∧
      (¬ on s i ∨ fr = true → t.pmd[4 + i.val]'(by omega) = c.pmd[4 + i.val]'(by omega)) ∧
      (t.ovf.getLsbD (4 + i.val) = true ↔ c.ovf.getLsbD (4 + i.val) = true ∨ carry i)) ∧
    (t.ovf.getLsbD 0 = true ↔ c.ovf.getLsbD 0 = true ∨ ∃ i, carry i ∧ (conf s i).getLsbD 5 = true) ∧
    (∀ k, k ≠ 0 → k < 4 ∨ 8 ≤ k → t.ovf.getLsbD k = c.ovf.getLsbD k) ∧
    ∀ k : Fin 18, k.val < 4 ∨ 8 ≤ k.val → t.pmd[k] = c.pmd[k]) ∧
  ∀ (s u : State) (ty : SlotType) (w : BitVec 41), let t := s.tick u ty w
    (∀ k, u.pmc[0].getLsbD k = true → t.pmc[0].getLsbD k = true) ∧
    (s.clkFr = true → u.clkFr = true → s.pmc[0].getLsbD 0 = true → u.pmc[0].getLsbD 0 = true → t.pmd = u.pmd ∧ t.pmc = u.pmc) ∧
    ∀ i : Fin 4, s.psrIs = false → (u.events.filter (· == .cplChange)).length ≤ 1 → s.clkFr = false → s.pmc[0].getLsbD 0 = false →
      (∀ j, (conf s j).getLsbD 5 = false) → on s i → (conf s i).toNat / 2 ^ 8 % 2 ^ 8 = 0x12 → (conf s i).toNat / 2 ^ 20 % 8 = 0 →
      (conf s i).toNat / 2 ^ 26 % 4 = 0 →
        (t.pmd[4 + i.val]'(by omega)).toNat =
          ((u.pmd[4 + i.val]'(by omega)).toNat + (s.tickView u ty w u.events).d) % 2 ^ 48

end
end

