-- ==== Sys2Proof/Laws/Elems.lean ====
section
/-! SUPPORT. Laws/Elems.lean: the elements of a word built from elements, for the parallel integer instructions. -/

namespace Sys2Proof.Machine

/-- Bit `i` of a word built from `n` elements: bit `i % w` of element `i / w`. -/
theorem ofElems_bit (w : Nat) (hw : 0 < w) (f : Nat → BitVec w) : ∀ (n i : Nat), w * n ≤ 64 → i < 64 →
    (ofElems w f n).getLsbD i = if i < w * n then (f (i / w)).getLsbD (i % w) else false := by
  intro n
  induction n with
  | zero => intro i _ _; simp [ofElems]
  | succ n ih =>
    intro i hn hi
    have e : w * (n + 1) = w * n + w := Nat.mul_succ w n
    rw [e] at hn
    simp only [ofElems, BitVec.getLsbD_or, BitVec.getLsbD_shiftLeft, BitVec.getLsbD_setWidth, ih i (by omega) hi]
    by_cases h1 : i < w * n
    · simp [h1, e, show i < w * n + w by omega]
    · by_cases h2 : i < w * n + w
      · have hd : i / w = n := by
          apply Nat.div_eq_of_lt_le
          · rw [Nat.mul_comm]; omega
          · rw [Nat.succ_mul, Nat.mul_comm n w]; omega
        have hm : i % w = i - w * n := by
          have := Nat.div_add_mod i w
          rw [hd] at this; omega
        simp [h1, h2, e, hd, hm, hi, show i - w * n < 64 by omega]
      · have : ¬ i - w * n < w := by omega
        simp [h1, h2, e, BitVec.getLsbD_of_ge _ _ (show w ≤ i - w * n by omega)]

/-- Element `k` of a word built from elements. -/
theorem elem_ofElems (w : Nat) (hw : 0 < w) (f : Nat → BitVec w) (n k : Nat) (hn : w * n ≤ 64) (hk : k < n) :
    elem w (ofElems w f n) k = f k := by
  apply BitVec.eq_of_getLsbD_eq
  intro i hi
  have hkn : w * k + w ≤ w * n := by
    have : w * (k + 1) ≤ w * n := Nat.mul_le_mul_left w hk
    rwa [Nat.mul_succ] at this
  have hlt : w * k + i < 64 := by omega
  simp only [elem, BitVec.getLsbD_extractLsb', hi, decide_true, Bool.true_and]
  rw [ofElems_bit w hw f n _ hn hlt, if_pos (by omega)]
  rw [show (w * k + i) / w = k by
        rw [Nat.mul_add_div hw]; simp [Nat.div_eq_of_lt hi],
      show (w * k + i) % w = i by rw [Nat.mul_add_mod]; exact Nat.mod_eq_of_lt hi]

/-- Element by element on two words. -/
theorem elem_map2 (w : Nat) (hw : 0 < w) (f : BitVec w → BitVec w → BitVec w) (x y : Word) (k : Nat) (hk : k < 64 / w) :
    elem w (map2 w f x y) k = f (elem w x k) (elem w y k) :=
  elem_ofElems w hw _ _ k (Nat.mul_div_le 64 w) hk

/-- Element by element on one word. -/
theorem elem_map1 (w : Nat) (hw : 0 < w) (f : BitVec w → BitVec w) (x : Word) (k : Nat) (hk : k < 64 / w) :
    elem w (map1 w f x) k = f (elem w x k) :=
  elem_ofElems w hw _ _ k (Nat.mul_div_le 64 w) hk

end Sys2Proof.Machine
end

