-- ==== Sys2Proof/Laws/Encoding.lean ====
section
/-! SUPPORT. Laws/Encoding.lean: cutting and joining the fields of a slot, for the agreement of the decoder and the encoder. -/

namespace Sys2Proof

/-! ### Fields of a join -/

/-- A field above the low part of a join is a field of the high part. -/
theorem extract_append_high (x : BitVec n) (y : BitVec m) (k w : Nat) (h : m ≤ k) :
    (x ++ y).extractLsb' k w = x.extractLsb' (k - m) w := by
  apply BitVec.eq_of_getLsbD_eq
  intro i hi
  simp only [BitVec.getLsbD_extractLsb', BitVec.getLsbD_append, hi, decide_true, Bool.true_and]
  rw [if_neg (by omega), show k + i - m = k - m + i by omega]

/-- A field inside the low part of a join is a field of the low part. -/
theorem extract_append_low (x : BitVec n) (y : BitVec m) (k w : Nat) (h : k + w ≤ m) :
    (x ++ y).extractLsb' k w = y.extractLsb' k w := by
  apply BitVec.eq_of_getLsbD_eq
  intro i hi
  simp only [BitVec.getLsbD_extractLsb', BitVec.getLsbD_append, hi, decide_true, Bool.true_and]
  rw [if_pos (by omega)]

/-- The field that is everything. -/
theorem extract_all (x : BitVec n) : x.extractLsb' 0 n = x := by
  apply BitVec.eq_of_getLsbD_eq
  intro i hi
  simp [hi]

/-- Two neighbouring fields joined are one field. -/
theorem extract_join (x : BitVec n) (k a b : Nat) :
    x.extractLsb' (k + a) b ++ x.extractLsb' k a = x.extractLsb' k (b + a) := by
  apply BitVec.eq_of_getLsbD_eq
  intro i hi
  simp only [BitVec.getLsbD_append, BitVec.getLsbD_extractLsb', hi, decide_true, Bool.true_and]
  split
  · simp [*]
  · rw [show k + a + (i - a) = k + i by omega]
    simp [show i - a < b by omega]

/-- A slot cut into the fields it was joined from (R234). -/
theorem Slot.ofWord_slotWord (op : BitVec 4) (s : BitVec 1) (mid : BitVec 9) (c b a : BitVec 7) (qp : BitVec 6) :
    Slot.ofWord (slotWord op s mid c b a qp) = { op, s, mid, c, b, a, qp } := by
  simp (disch := omega) only [Slot.ofWord, slotWord, extract_append_high, extract_append_low, extract_all, Nat.reduceSub]

/-- The fields of a slot joined again give the slot (R234). -/
theorem slotWord_ofWord (w : BitVec 41) :
    slotWord (Slot.ofWord w).op (Slot.ofWord w).s (Slot.ofWord w).mid (Slot.ofWord w).c (Slot.ofWord w).b
      (Slot.ofWord w).a (Slot.ofWord w).qp = w := by
  have h1 : w.extractLsb' 37 4 ++ w.extractLsb' 36 1 = w.extractLsb' 36 5 := extract_join w 36 1 4
  have h2 : w.extractLsb' 36 5 ++ w.extractLsb' 27 9 = w.extractLsb' 27 14 := extract_join w 27 9 5
  have h3 : w.extractLsb' 27 14 ++ w.extractLsb' 20 7 = w.extractLsb' 20 21 := extract_join w 20 7 14
  have h4 : w.extractLsb' 20 21 ++ w.extractLsb' 13 7 = w.extractLsb' 13 28 := extract_join w 13 7 21
  have h5 : w.extractLsb' 13 28 ++ w.extractLsb' 6 7 = w.extractLsb' 6 35 := extract_join w 6 7 28
  have h6 : w.extractLsb' 6 35 ++ w.extractLsb' 0 6 = w.extractLsb' 0 41 := extract_join w 0 6 35
  simp only [Slot.ofWord, slotWord, h1, h2, h3, h4, h5, h6, extract_all]

end Sys2Proof
end

