-- ==== Sys2Proof/Laws/Memory.lean ====
section
/-! SUPPORT. Laws/Memory.lean: the basic laws of the memory list (a read after a write, other places, the canonical form),
of runs of bytes, and of everything in the model that writes memory: stores, the write-coalescing buffer. -/

namespace Sys2Proof.Machine

/-! ### One byte -/

/-- A write stores the byte. -/
theorem Memory.read_write_same : ∀ (m : List Host.Cell) (a : Nat) (v : Byte),
    Memory.read (Memory.write m a v) a = v ∨ ¬ Memory.wf m = true := by
  suffices h : ∀ (m : List Host.Cell) (lo a : Nat) (v : Byte), Memory.wfAbove lo m = true →
      Memory.read (Memory.write m a v) a = v from fun m a v => by
    by_cases hw : Memory.wf m = true
    · exact .inl (h m 0 a v hw)
    · exact .inr hw
  have below : ∀ (m : List Host.Cell) (lo a : Nat), Memory.wfAbove lo m = true → a < lo →
      Memory.read m a = Config.unwrittenByte := by
    intro m
    induction m with
    | nil => intro _ _ _ _; rfl
    | cons c m ih =>
      intro lo a hw hlt
      obtain ⟨k, w⟩ := c
      simp only [Memory.wfAbove, Bool.and_eq_true, decide_eq_true_eq] at hw
      simp only [Memory.read]
      rw [if_neg (by omega)]
      exact ih (k + 1) a hw.2 (by omega)
  intro m
  induction m with
  | nil =>
    intro lo a v _
    simp only [Memory.write]
    split
    · simp_all [Memory.read]
    · simp [Memory.read]
  | cons c m ih =>
    intro lo a v hw
    obtain ⟨k, w⟩ := c
    simp only [Memory.wfAbove, Bool.and_eq_true, decide_eq_true_eq] at hw
    simp only [Memory.write]
    split
    · split
      · simp only [Memory.read]
        rw [if_neg (by omega), below m (k + 1) a hw.2 (by omega)]
        simp_all
      · simp [Memory.read]
    · split
      · split
        · rw [below m (k + 1) a hw.2 (by omega)]; simp_all
        · simp [Memory.read]
      · simp only [Memory.read]
        rw [if_neg (by omega)]
        exact ih (k + 1) a v hw.2

/-- In canonical memory a write stores the byte. -/
theorem Memory.read_write (m : List Host.Cell) (a : Nat) (v : Byte) (h : Memory.wf m = true) :
    Memory.read (Memory.write m a v) a = v :=
  (Memory.read_write_same m a v).resolve_right (fun n => n h)

/-- A write leaves every other place alone. -/
theorem Memory.read_write_ne : ∀ (m : List Host.Cell) (a b : Nat) (v : Byte), b ≠ a →
    Memory.read (Memory.write m a v) b = Memory.read m b := by
  intro m a b v hne
  induction m with
  | nil =>
    simp only [Memory.write]
    split
    · rfl
    · simp [Memory.read, Ne.symm hne]
  | cons c m ih =>
    obtain ⟨k, w⟩ := c
    simp only [Memory.write]
    split
    · split
      · rfl
      · simp [Memory.read, Ne.symm hne]
    · split
      · rename_i h
        split
        · simp [Memory.read, ← h, Ne.symm hne]
        · simp [Memory.read, ← h, Ne.symm hne]
      · simp only [Memory.read, ih]

/-- A looser lower bound still holds. -/
theorem Memory.wfAbove_mono (m : List Host.Cell) {lo lo' : Nat} (h : lo' ≤ lo) :
    Memory.wfAbove lo m = true → Memory.wfAbove lo' m = true := by
  cases m with
  | nil => simp [Memory.wfAbove]
  | cons c m =>
    simp only [Memory.wfAbove, Bool.and_eq_true, decide_eq_true_eq]
    rintro ⟨⟨h1, h2⟩, h3⟩
    exact ⟨⟨by omega, h2⟩, h3⟩

/-- A write keeps the canonical form. -/
theorem Memory.write_wfAbove : ∀ (m : List Host.Cell) (lo a : Nat) (v : Byte), Memory.wfAbove lo m = true → lo ≤ a →
    Memory.wfAbove lo (Memory.write m a v) = true := by
  intro m
  induction m with
  | nil =>
    intro lo a v _ ha
    simp only [Memory.write]
    split
    · rfl
    · simp [Memory.wfAbove, *]
  | cons c m ih =>
    intro lo a v hw ha
    obtain ⟨k, w⟩ := c
    have hw' := hw
    simp only [Memory.wfAbove, Bool.and_eq_true, decide_eq_true_eq] at hw
    simp only [Memory.write]
    split
    · split
      · exact hw'
      · simp only [Memory.wfAbove, Bool.and_eq_true, decide_eq_true_eq]
        exact ⟨⟨ha, by simp [*]⟩, ⟨by omega, hw.1.2⟩, hw.2⟩
    · split
      · subst_vars
        split
        · exact Memory.wfAbove_mono m (by omega) hw.2
        · simp only [Memory.wfAbove, Bool.and_eq_true, decide_eq_true_eq]
          exact ⟨⟨ha, by simp [*]⟩, hw.2⟩
      · simp only [Memory.wfAbove, Bool.and_eq_true, decide_eq_true_eq]
        exact ⟨hw.1, ih (k + 1) a v hw.2 (by omega)⟩

/-- A write keeps the canonical form. -/
theorem Memory.write_wf (m : List Host.Cell) (a : Nat) (v : Byte) (h : Memory.wf m = true) :
    Memory.wf (Memory.write m a v) = true := Memory.write_wfAbove m 0 a v h (Nat.zero_le a)

/-! ### Runs of bytes -/

/-- Writing a run of bytes keeps the canonical form. -/
theorem Memory.writeBytes_wf (bs : List Byte) : ∀ (m : List Host.Cell) (a : Nat), Memory.wf m = true →
    Memory.wf (Memory.writeBytes m a bs) = true := by
  induction bs with
  | nil => intro m a h; exact h
  | cons b bs ih => intro m a h; exact ih _ _ (Memory.write_wf m a b h)

/-- Writing a run of bytes leaves everything outside the run alone. -/
theorem Memory.read_writeBytes_ne (bs : List Byte) : ∀ (m : List Host.Cell) (a b : Nat), b < a ∨ a + bs.length ≤ b →
    Memory.read (Memory.writeBytes m a bs) b = Memory.read m b := by
  induction bs with
  | nil => intro m a b _; rfl
  | cons c bs ih =>
    intro m a b h
    simp only [List.length_cons] at h
    rw [Memory.writeBytes, ih _ _ _ (by omega), Memory.read_write_ne _ _ _ _ (by omega)]

/-- A run of bytes is stored. -/
theorem Memory.read_writeBytes (bs : List Byte) : ∀ (m : List Host.Cell) (a k : Nat) (hk : k < bs.length),
    Memory.wf m = true → Memory.read (Memory.writeBytes m a bs) (a + k) = bs[k] := by
  induction bs with
  | nil => intro m a k hk; simp at hk
  | cons c bs ih =>
    intro m a k hk hw
    rw [Memory.writeBytes]
    cases k with
    | zero =>
      rw [Memory.read_writeBytes_ne _ _ _ _ (by omega)]
      simpa using Memory.read_write m a c hw
    | succ k =>
      have := ih (Memory.write m a c) (a + 1) k (by simpa using hk) (Memory.write_wf m a c hw)
      rw [show a + (k + 1) = a + 1 + k by omega, this]
      rfl

/-! ### Everything that writes memory keeps its form -/

/-- A processor write keeps the canonical form. -/
theorem State.memWrite_wf (s : State) (a : Nat) (bs : List Byte) (h : Memory.wf s.mem = true) :
    Memory.wf (s.memWrite a bs).mem = true := Memory.writeBytes_wf bs s.mem a h

/-- Writing back an entry of the write-coalescing buffer keeps the canonical form. -/
theorem State.wcbWriteBack_wf (s : State) (e : WcbEntry) (h : Memory.wf s.mem = true) :
    Memory.wf (s.wcbWriteBack e).mem = true := by
  unfold State.wcbWriteBack
  generalize wcbRuns e.bytes = l
  induction l generalizing s with
  | nil => exact h
  | cons c l ih => exact ih _ (State.memWrite_wf s _ _ h)

/-- Writing back entries keeps the canonical form. -/
theorem State.foldl_wcbWriteBack_wf (l : List WcbEntry) : ∀ (s : State), Memory.wf s.mem = true →
    Memory.wf (l.foldl State.wcbWriteBack s).mem = true := by
  induction l with
  | nil => intro s h; exact h
  | cons e l ih => intro s h; exact ih _ (State.wcbWriteBack_wf s e h)

/-- A flush keeps the canonical form. -/
theorem State.wcbFlush_wf (s : State) (h : Memory.wf s.mem = true) : Memory.wf s.wcbFlush.mem = true :=
  State.foldl_wcbWriteBack_wf s.wcb s h

/-- Evicting full entries keeps the canonical form. -/
theorem State.wcbSettle_wf (s : State) (h : Memory.wf s.mem = true) : Memory.wf s.wcbSettle.mem = true :=
  State.foldl_wcbWriteBack_wf _ s h

/-- A WC store keeps the canonical form. -/
theorem State.wcStore_wf (s : State) (a : Nat) (bs : List Byte) (h : Memory.wf s.mem = true) :
    Memory.wf (s.wcStore a bs).mem = true := by
  unfold State.wcStore
  dsimp only
  split
  · exact State.wcbSettle_wf _ h
  · apply State.wcbSettle_wf
    split
    · exact State.wcbWriteBack_wf s _ h
    · exact h

/-- A free eviction keeps the canonical form. -/
theorem State.wcbFreeEvict_wf (s : State) (h : Memory.wf s.mem = true) : Memory.wf s.wcbFreeEvict.mem = true := by
  unfold State.wcbFreeEvict
  split
  · exact h
  · split
    · exact State.wcbWriteBack_wf s _ h
    · exact h
  · dsimp only
    split <;> split
    · exact State.wcbWriteBack_wf _ _ (State.wcbWriteBack_wf s _ h)
    · exact State.wcbWriteBack_wf _ _ h
    · exact State.wcbWriteBack_wf s _ h
    · exact h

/-- A store keeps the canonical form. -/
theorem State.storePhys_wf (s : State) (pa : Nat) (ma : MemAttr) (bs : List Byte) (h : Memory.wf s.mem = true) :
    Memory.wf (s.storePhys pa ma bs).mem = true := by
  unfold State.storePhys State.alatSnoop
  dsimp only
  split
  · exact State.wcStore_wf s pa bs h
  · exact State.memWrite_wf s pa bs h

/-- The canonical form holds right after reset. -/
theorem reset_mem_wf : Memory.wf State.reset.mem = true := rfl

end Sys2Proof.Machine
end

