-- ==== Sys2Proof/Laws/Regs.lean ====
section
/-! SUPPORT. Laws/Regs.lean: reading a register back after a write, register by register, and where names land in the
physical numbering. -/

namespace Sys2Proof.Machine

/-! ### Where names land -/

/-- A general register has a physical number below 144. -/
theorem State.grPhys_lt (s : State) (r : GrIdx) : s.grPhys r < 144 := by
  unfold State.grPhys
  dsimp only
  repeat' split
  all_goals omega

/-- Only GR[0] has the physical number 0. -/
theorem State.grPhys_ne_zero (s : State) (r : GrIdx) (h : r ≠ 0) : s.grPhys r ≠ 0 := by
  have h' : r.toNat ≠ 0 := fun e => h (BitVec.eq_of_toNat_eq (by simpa using e))
  unfold State.grPhys
  dsimp only
  repeat' split
  all_goals omega

/-- A floating-point register has a physical number below 128. -/
theorem State.frPhys_lt (s : State) (f : FrIdx) : s.frPhys f < 128 := by
  have := f.isLt
  unfold State.frPhys rotated
  dsimp only
  repeat' split
  all_goals omega

/-- Only FR[0] and FR[1] have the physical numbers 0 and 1. -/
theorem State.two_le_frPhys (s : State) (f : FrIdx) (h : frTargetOk f = true) : 2 ≤ s.frPhys f := by
  simp only [frTargetOk, Bool.and_eq_true, bne_iff_ne, ne_eq] at h
  have h0 : f.toNat ≠ 0 := fun e => h.1 (BitVec.eq_of_toNat_eq (by simpa using e))
  have h1 : f.toNat ≠ 1 := fun e => h.2 (BitVec.eq_of_toNat_eq (by simpa using e))
  unfold State.frPhys
  dsimp only
  split <;> omega

/-- A predicate register has a physical number below 64. -/
theorem State.prPhys_lt (s : State) (p : PredIdx) : s.prPhys p < 64 := by
  have := p.isLt
  unfold State.prPhys rotated
  dsimp only
  repeat' split
  all_goals omega

/-- Only PR[0] has the physical number 0. -/
theorem State.prPhys_ne_zero (s : State) (p : PredIdx) (h : p ≠ 0) : s.prPhys p ≠ 0 := by
  have h' : p.toNat ≠ 0 := fun e => h (BitVec.eq_of_toNat_eq (by simpa using e))
  unfold State.prPhys
  dsimp only
  split <;> omega

/-! ### General registers -/

/-- A written general register reads as written. -/
theorem Regs.gr_setGr_same (g : Regs) (p : Nat) (v : GReg) (h0 : p ≠ 0) (h : p < 144) : (g.setGr p v).gr p = v := by
  unfold Regs.setGr Regs.gr
  simp only [if_neg h0]
  by_cases h1 : p < 16
  · simp [h1]
  · by_cases h2 : p < 32
    · simp [h1, h2, show p - 16 < 16 by omega]
    · by_cases h3 : p < 48
      · simp [h1, h2, h3, show ¬ p - 16 < 16 by omega, show p - 32 < 16 by omega]
      · simp [h1, h2, h3, show ¬ p - 16 < 16 by omega, show ¬ p - 32 < 16 by omega, show p - 48 < 96 by omega]

/-- A write leaves every other general register alone. -/
theorem Regs.gr_setGr_ne (g : Regs) (p q : Nat) (v : GReg) (h : q ≠ p) : (g.setGr p v).gr q = g.gr q := by
  have hp : ¬ p = q := fun e => h e.symm
  unfold Regs.setGr Regs.gr
  by_cases h0 : p = 0
  · simp [h0]
  simp only [if_neg h0]
  by_cases h1 : p < 16
  · simp only [h1, if_true]
    by_cases q1 : q < 16
    · simp [q1, hp]
    · simp [q1]
  · by_cases h2 : p < 32
    · simp only [h1, h2, if_true, if_false]
      by_cases q1 : q < 16
      · simp [q1]
      · by_cases q2 : q - 16 < 16
        · simp [q1, q2, show ¬ p - 16 = q - 16 by omega]
        · simp [q1, q2]
    · by_cases h3 : p < 48
      · simp only [h1, h2, h3, if_true, if_false]
        by_cases q1 : q < 16
        · simp [q1]
        · by_cases q2 : q - 16 < 16
          · simp [q1, q2]
          · by_cases q3 : q - 32 < 16
            · simp [q1, q2, q3, show ¬ p - 32 = q - 32 by omega]
            · simp [q1, q2, q3]
      · simp only [h1, h2, h3, if_false]
        by_cases q1 : q < 16
        · simp [q1]
        · by_cases q2 : q - 16 < 16
          · simp [q1, q2]
          · by_cases q3 : q - 32 < 16
            · simp [q1, q2, q3]
            · by_cases q4 : q - 48 < 96
              · simp [q1, q2, q3, q4, show ¬ p - 48 = q - 48 by omega]
              · simp [q1, q2, q3, q4]

/-- A write of a general register changes no other kind of register. -/
theorem Regs.setGr_frame (g : Regs) (p : Nat) (v : GReg) :
    g.setGr p v = { g with stat := (g.setGr p v).stat, bank0 := (g.setGr p v).bank0, bank1 := (g.setGr p v).bank1,
                           stacked := (g.setGr p v).stacked } := by
  unfold Regs.setGr
  repeat' split
  all_goals rfl

/-- The general register an instruction writes reads as written, unless its group wrote it before. -/
theorem State.setGr_same (s : State) (r : GrIdx) (v : GReg) (k : WriteKind) (h : s.grTargetOk r = true)
    (hw : s.wawFree (.gr (s.grPhys r)) k = false) : (s.setGr r v k).cur.gr (s.grPhys r) = v := by
  have hr : r ≠ 0 := by
    intro e; simp [State.grTargetOk, e] at h
  simp only [State.setGr, hw]
  exact Regs.gr_setGr_same _ _ _ (s.grPhys_ne_zero r hr) (s.grPhys_lt r)

/-- An instruction's write leaves every other general register alone. -/
theorem State.setGr_other (s : State) (r : GrIdx) (v : GReg) (k : WriteKind) (q : Nat) (h : q ≠ s.grPhys r) :
    (s.setGr r v k).cur.gr q = s.cur.gr q := Regs.gr_setGr_ne _ _ _ _ h

/-! ### Floating-point registers -/

/-- The floating-point register an instruction writes reads as written, unless its group wrote it before. -/
theorem State.setFr_same (s : State) (f : FrIdx) (v : FReg) (k : WriteKind) (h : frTargetOk f = true)
    (hw : s.wawFree (.fr (s.frPhys f)) k = false) : (s.setFr f v k).cur.frAt (s.frPhys f) = v := by
  have h2 := s.two_le_frPhys f h
  have h3 := s.frPhys_lt f
  simp [State.setFr, State.putPsr, hw, Regs.frAt, show s.frPhys f ≠ 0 by omega, show s.frPhys f ≠ 1 by omega, h3]

/-- An instruction's write leaves every other floating-point register alone. -/
theorem State.setFr_other (s : State) (f : FrIdx) (v : FReg) (k : WriteKind) (q : Nat) (h : q ≠ s.frPhys f) :
    (s.setFr f v k).cur.frAt q = s.cur.frAt q := by
  have hp : ¬ s.frPhys f = q := fun e => h e.symm
  unfold State.setFr State.putPsr Regs.frAt
  dsimp only
  repeat' split
  all_goals first
    | rfl
    | simp [hp]

/-! ### PSR and the user mask -/

/-- A word with one bit replaced: that bit, and the others. -/
theorem putBit_bit (w : Word) (n : Nat) (v : Bool) (i : Nat) (h : n < 64) :
    (putBit w n v).getLsbD i = if i = n then v else w.getLsbD i := by
  by_cases hi : i < 64
  · by_cases he : i = n
    · subst he
      simp [putBit, putField, hi]
    · by_cases hl : i < n
      · simp [putBit, putField, hi, he, hl]
      · have : ¬ i - n = 0 := by omega
        simp [putBit, putField, hi, he, hl, this]
  · rw [BitVec.getLsbD_of_ge _ _ (by omega), BitVec.getLsbD_of_ge w _ (by omega), if_neg (by omega)]

/-- Bit `i` of the hazards of a user mask write: a bit of PSR[5:1] that the group has written in a way that does not join. -/
theorem State.umHazard_bit (s : State) (k : WriteKind) (i : Nat) :
    (s.umHazard k).getLsbD i = (decide (1 ≤ i ∧ i ≤ 5) && s.wawFree (.um i) k) := by
  simp only [State.umHazard, List.foldl_cons, List.foldl_nil, putBit_bit _ _ _ _ (show 1 < 64 by decide),
    putBit_bit _ _ _ _ (show 2 < 64 by decide), putBit_bit _ _ _ _ (show 3 < 64 by decide),
    putBit_bit _ _ _ _ (show 4 < 64 by decide), putBit_bit _ _ _ _ (show 5 < 64 by decide)]
  by_cases h : 1 ≤ i ∧ i ≤ 5
  · have : i = 1 ∨ i = 2 ∨ i = 3 ∨ i = 4 ∨ i = 5 := by omega
    rcases this with rfl | rfl | rfl | rfl | rfl <;> simp
  · rw [if_neg (by omega), if_neg (by omega), if_neg (by omega), if_neg (by omega), if_neg (by omega)]
    simp [h]

/-- A write of bits of PSR: each named bit takes the value given, or is free where the group wrote it before (R911 (b)); the others stay. -/
theorem State.putPsr_bit (s : State) (m v : Word) (k : WriteKind) (i : Nat) :
    (s.putPsr m v k).psr.getLsbD i =
      if m.getLsbD i then
        (if 1 ≤ i ∧ i ≤ 5 ∧ s.wawFree (.um i) k = true then (s.free 3500).getLsbD i else v.getLsbD i)
      else s.psr.getLsbD i := by
  have hv : (if s.umHazard k = 0 then v else (v &&& ~~~ s.umHazard k) ||| (s.free 3500 &&& s.umHazard k)) =
      (v &&& ~~~ s.umHazard k) ||| (s.free 3500 &&& s.umHazard k) := by
    split
    · next h =>
      rw [h, show ~~~(0 : Word) = BitVec.allOnes 64 from rfl, BitVec.and_allOnes, show s.free 3500 &&& 0 = 0 from BitVec.and_zero]
      exact (BitVec.or_zero).symm
    · rfl
  by_cases hi : i < 64
  · simp only [State.putPsr, hv, BitVec.getLsbD_or, BitVec.getLsbD_and, BitVec.getLsbD_not, hi, decide_true, Bool.true_and,
      State.umHazard_bit]
    by_cases hm : m.getLsbD i <;> by_cases h1 : 1 ≤ i <;> by_cases h5 : i ≤ 5 <;> by_cases hw : s.wawFree (.um i) k <;>
      simp [hm, h1, h5, hw]
  · rw [BitVec.getLsbD_of_ge _ _ (by omega), BitVec.getLsbD_of_ge _ _ (by omega), BitVec.getLsbD_of_ge s.psr _ (by omega)]
    simp

/-- A write noted of a register that does not overlap another one makes no hazard for it. -/
theorem State.wawFree_cons_other {s t : State} {q r : WrittenReg} {k l : WriteKind} (ht : t.grpWrites = (q, k) :: s.grpWrites)
    (ho : q.overlaps r = false) : t.wawFree r l = s.wawFree r l := by
  unfold State.wawFree
  rw [ht, List.any_cons, ho]
  simp

/-- A write of a floating-point register sets its bit of the user mask, or leaves it free where the group wrote it otherwise; no other
bit of PSR changes (R27, R911 (b)). -/
theorem State.setFr_psr_bit (s : State) (f : FrIdx) (v : FReg) (k : WriteKind) (i : Nat) :
    (s.setFr f v k).psr.getLsbD i =
      if i = modifiedBit f then (if s.wawFree (.um i) .sticky = true then (s.free 3500).getLsbD i else true)
      else s.psr.getLsbD i := by
  have hb : modifiedBit f = 4 ∨ modifiedBit f = 5 := by unfold modifiedBit; split <;> simp
  have hm : ∀ j, (1#64 <<< modifiedBit f).getLsbD j = decide (j = modifiedBit f) := by
    intro j
    rcases hb with h | h <;> rw [h] <;> by_cases hj : j < 64
    · exact (by decide : ∀ j : Fin 64, (1#64 <<< 4).getLsbD j.val = decide (j.val = 4)) ⟨j, hj⟩
    · rw [BitVec.getLsbD_of_ge _ _ (by omega)]; simp; omega
    · exact (by decide : ∀ j : Fin 64, (1#64 <<< 5).getLsbD j.val = decide (j.val = 5)) ⟨j, hj⟩
    · rw [BitVec.getLsbD_of_ge _ _ (by omega)]; simp; omega
  unfold State.setFr
  rw [State.putPsr_bit, hm]
  rw [State.wawFree_cons_other (s := s) (by rfl) (beq_eq_false_iff_ne.mpr (fun e => WrittenReg.noConfusion e))]
  by_cases h : i = modifiedBit f
  · have : 1 ≤ modifiedBit f ∧ modifiedBit f ≤ 5 := by omega
    simp [h, this, State.free]
  · simp [h]

/-! ### Branch registers -/

/-- The branch register an instruction writes reads as written, unless its group wrote it before. -/
theorem State.setBr_same (s : State) (b : BrIdx) (v : Word) (hw : s.wawFree (.br b.toNat) .alu = false) :
    (s.setBr b v).cur.br[b.toNat]'(b.isLt) = v := by
  simp [State.setBr, hw]

/-- An instruction's write leaves every other branch register alone. -/
theorem State.setBr_other (s : State) (b c : BrIdx) (v : Word) (h : c ≠ b) :
    (s.setBr b v).cur.br[c.toNat]'(c.isLt) = s.cur.br[c.toNat]'(c.isLt) := by
  have : ¬ b.toNat = c.toNat := fun e => h (BitVec.eq_of_toNat_eq e.symm)
  simp [State.setBr, this]

/-! ### Predicate registers -/

/-- A predicate write through a mask: the masked bits take the value, or a free one at a hazard; the others stay. -/
theorem State.setPrMask_bit (s : State) (h : Word) (c : PrClass) (m v : Word) (i : Nat) :
    (s.setPrMask h c m v).cur.pr.getLsbD i =
      if i ≠ 0 ∧ m.getLsbD i = true then (if h.getLsbD i then (s.free 1999).getLsbD i else v.getLsbD i)
      else s.cur.pr.getLsbD i := by
  have hv : (if h &&& (m &&& ~~~ 1) = 0 then v else (v &&& ~~~ h) ||| (s.free 1999 &&& h)) &&& (m &&& ~~~ 1) =
      ((v &&& ~~~ h) ||| (s.free 1999 &&& h)) &&& (m &&& ~~~ 1) := by
    split
    · rename_i h0
      apply BitVec.eq_of_getLsbD_eq
      intro k hk
      have h1 : (h &&& (m &&& ~~~ 1)).getLsbD k = false := by rw [h0]; simp
      generalize m &&& ~~~ 1 = m' at h1 ⊢
      rw [BitVec.getLsbD_and] at h1
      rw [BitVec.getLsbD_and, BitVec.getLsbD_and, BitVec.getLsbD_or, BitVec.getLsbD_and, BitVec.getLsbD_and, BitVec.getLsbD_not]
      cases hm : m'.getLsbD k
      · rw [Bool.and_false, Bool.and_false]
      · rw [hm, Bool.and_true] at h1
        rw [h1]
        simp [hk]
    · rfl
  by_cases hi : i < 64
  · simp only [State.setPrMask, State.withPr, hv, BitVec.getLsbD_or, BitVec.getLsbD_and, BitVec.getLsbD_not, hi, decide_true,
      Bool.true_and]
    by_cases h0 : i = 0 <;> by_cases hm : m.getLsbD i <;> by_cases hh : h.getLsbD i <;> simp [h0, hm, hh]
  · have hm : m.getLsbD i = false := BitVec.getLsbD_of_ge _ _ (by omega)
    have hc : s.cur.pr.getLsbD i = false := BitVec.getLsbD_of_ge _ _ (by omega)
    rw [BitVec.getLsbD_of_ge _ _ (by omega)]
    simp [hm, hc]

end Sys2Proof.Machine
end

