-- ==== Sys2Proof/Laws/State.lean ====
section
/-! SUPPORT. Laws/State.lean: what each update of the state leaves in each field it does not write; true by `rfl`. -/

namespace Sys2Proof.Machine.State

section Emit

variable (s : State) (e : PmuEvent)

@[simp] theorem emit_cur : (s.emit e).cur = s.cur := rfl
@[simp] theorem emit_old : (s.emit e).old = s.old := rfl
@[simp] theorem emit_cfm : (s.emit e).cfm = s.cfm := rfl
@[simp] theorem emit_bof : (s.emit e).bof = s.bof := rfl
@[simp] theorem emit_nclean : (s.emit e).nclean = s.nclean := rfl
@[simp] theorem emit_ip : (s.emit e).ip = s.ip := rfl
@[simp] theorem emit_psr : (s.emit e).psr = s.psr := rfl
@[simp] theorem emit_umGroup : (s.emit e).umGroup = s.umGroup := rfl
@[simp] theorem emit_cr : (s.emit e).cr = s.cr := rfl
@[simp] theorem emit_itc : (s.emit e).itc = s.itc := rfl
@[simp] theorem emit_lastBundle : (s.emit e).lastBundle = s.lastBundle := rfl
@[simp] theorem emit_rr : (s.emit e).rr = s.rr := rfl
@[simp] theorem emit_pkr : (s.emit e).pkr = s.pkr := rfl
@[simp] theorem emit_ibr : (s.emit e).ibr = s.ibr := rfl
@[simp] theorem emit_dbr : (s.emit e).dbr = s.dbr := rfl
@[simp] theorem emit_pmc : (s.emit e).pmc = s.pmc := rfl
@[simp] theorem emit_pmd : (s.emit e).pmd = s.pmd := rfl
@[simp] theorem emit_itr : (s.emit e).itr = s.itr := rfl
@[simp] theorem emit_dtr : (s.emit e).dtr = s.dtr := rfl
@[simp] theorem emit_itcache : (s.emit e).itcache = s.itcache := rfl
@[simp] theorem emit_dtcache : (s.emit e).dtcache = s.dtcache := rfl
@[simp] theorem emit_l1itlb : (s.emit e).l1itlb = s.l1itlb := rfl
@[simp] theorem emit_l1dtlb : (s.emit e).l1dtlb = s.l1dtlb := rfl
@[simp] theorem emit_mem : (s.emit e).mem = s.mem := rfl
@[simp] theorem emit_alat : (s.emit e).alat = s.alat := rfl
@[simp] theorem emit_wcb : (s.emit e).wcb = s.wcb := rfl
@[simp] theorem emit_stale : (s.emit e).stale = s.stale := rfl
@[simp] theorem emit_deferral : (s.emit e).deferral = s.deferral := rfl
@[simp] theorem emit_groupStart : (s.emit e).groupStart = s.groupStart := rfl
@[simp] theorem emit_grpWrites : (s.emit e).grpWrites = s.grpWrites := rfl
@[simp] theorem emit_grpPrAlu : (s.emit e).grpPrAlu = s.grpPrAlu := rfl
@[simp] theorem emit_grpPrAnd : (s.emit e).grpPrAnd = s.grpPrAnd := rfl
@[simp] theorem emit_grpPrOr : (s.emit e).grpPrOr = s.grpPrOr := rfl
@[simp] theorem emit_grpPrCmp : (s.emit e).grpPrCmp = s.grpPrCmp := rfl
@[simp] theorem emit_grpAlatSets : (s.emit e).grpAlatSets = s.grpAlatSets := rfl
@[simp] theorem emit_grpAlatChecks : (s.emit e).grpAlatChecks = s.grpAlatChecks := rfl
@[simp] theorem emit_grpAlatInval : (s.emit e).grpAlatInval = s.grpAlatInval := rfl
@[simp] theorem emit_grpAlatInvalAll : (s.emit e).grpAlatInvalAll = s.grpAlatInvalAll := rfl
@[simp] theorem emit_clkEvents : (s.emit e).clkEvents = s.clkEvents := rfl
@[simp] theorem emit_clkVals : (s.emit e).clkVals = s.clkVals := rfl
@[simp] theorem emit_clkFr : (s.emit e).clkFr = s.clkFr := rfl
@[simp] theorem emit_brBundle : (s.emit e).brBundle = s.brBundle := rfl
@[simp] theorem emit_btbPend : (s.emit e).btbPend = s.btbPend := rfl
@[simp] theorem emit_bilDue : (s.emit e).bilDue = s.bilDue := rfl
@[simp] theorem emit_earWait : (s.emit e).earWait = s.earWait := rfl
@[simp] theorem emit_freeCtr : (s.emit e).freeCtr = s.freeCtr := rfl

end Emit

section SetGr

variable (s : State) (r : GrIdx) (v : GReg) (k : WriteKind)

@[simp] theorem setGr_old : (s.setGr r v k).old = s.old := rfl
@[simp] theorem setGr_cfm : (s.setGr r v k).cfm = s.cfm := rfl
@[simp] theorem setGr_bof : (s.setGr r v k).bof = s.bof := rfl
@[simp] theorem setGr_nclean : (s.setGr r v k).nclean = s.nclean := rfl
@[simp] theorem setGr_ip : (s.setGr r v k).ip = s.ip := rfl
@[simp] theorem setGr_psr : (s.setGr r v k).psr = s.psr := rfl
@[simp] theorem setGr_umGroup : (s.setGr r v k).umGroup = s.umGroup := rfl
@[simp] theorem setGr_cr : (s.setGr r v k).cr = s.cr := rfl
@[simp] theorem setGr_itc : (s.setGr r v k).itc = s.itc := rfl
@[simp] theorem setGr_lastBundle : (s.setGr r v k).lastBundle = s.lastBundle := rfl
@[simp] theorem setGr_rr : (s.setGr r v k).rr = s.rr := rfl
@[simp] theorem setGr_pkr : (s.setGr r v k).pkr = s.pkr := rfl
@[simp] theorem setGr_ibr : (s.setGr r v k).ibr = s.ibr := rfl
@[simp] theorem setGr_dbr : (s.setGr r v k).dbr = s.dbr := rfl
@[simp] theorem setGr_pmc : (s.setGr r v k).pmc = s.pmc := rfl
@[simp] theorem setGr_pmd : (s.setGr r v k).pmd = s.pmd := rfl
@[simp] theorem setGr_itr : (s.setGr r v k).itr = s.itr := rfl
@[simp] theorem setGr_dtr : (s.setGr r v k).dtr = s.dtr := rfl
@[simp] theorem setGr_itcache : (s.setGr r v k).itcache = s.itcache := rfl
@[simp] theorem setGr_dtcache : (s.setGr r v k).dtcache = s.dtcache := rfl
@[simp] theorem setGr_l1itlb : (s.setGr r v k).l1itlb = s.l1itlb := rfl
@[simp] theorem setGr_l1dtlb : (s.setGr r v k).l1dtlb = s.l1dtlb := rfl
@[simp] theorem setGr_mem : (s.setGr r v k).mem = s.mem := rfl
@[simp] theorem setGr_alat : (s.setGr r v k).alat = s.alat := rfl
@[simp] theorem setGr_wcb : (s.setGr r v k).wcb = s.wcb := rfl
@[simp] theorem setGr_stale : (s.setGr r v k).stale = s.stale := rfl
@[simp] theorem setGr_deferral : (s.setGr r v k).deferral = s.deferral := rfl
@[simp] theorem setGr_groupStart : (s.setGr r v k).groupStart = s.groupStart := rfl
@[simp] theorem setGr_grpPrAlu : (s.setGr r v k).grpPrAlu = s.grpPrAlu := rfl
@[simp] theorem setGr_grpPrAnd : (s.setGr r v k).grpPrAnd = s.grpPrAnd := rfl
@[simp] theorem setGr_grpPrOr : (s.setGr r v k).grpPrOr = s.grpPrOr := rfl
@[simp] theorem setGr_grpPrCmp : (s.setGr r v k).grpPrCmp = s.grpPrCmp := rfl
@[simp] theorem setGr_grpAlatSets : (s.setGr r v k).grpAlatSets = s.grpAlatSets := rfl
@[simp] theorem setGr_grpAlatChecks : (s.setGr r v k).grpAlatChecks = s.grpAlatChecks := rfl
@[simp] theorem setGr_grpAlatInval : (s.setGr r v k).grpAlatInval = s.grpAlatInval := rfl
@[simp] theorem setGr_grpAlatInvalAll : (s.setGr r v k).grpAlatInvalAll = s.grpAlatInvalAll := rfl
@[simp] theorem setGr_events : (s.setGr r v k).events = s.events := rfl
@[simp] theorem setGr_clkEvents : (s.setGr r v k).clkEvents = s.clkEvents := rfl
@[simp] theorem setGr_clkVals : (s.setGr r v k).clkVals = s.clkVals := rfl
@[simp] theorem setGr_clkFr : (s.setGr r v k).clkFr = s.clkFr := rfl
@[simp] theorem setGr_brBundle : (s.setGr r v k).brBundle = s.brBundle := rfl
@[simp] theorem setGr_btbPend : (s.setGr r v k).btbPend = s.btbPend := rfl
@[simp] theorem setGr_bilDue : (s.setGr r v k).bilDue = s.bilDue := rfl
@[simp] theorem setGr_earWait : (s.setGr r v k).earWait = s.earWait := rfl
@[simp] theorem setGr_freeCtr : (s.setGr r v k).freeCtr = s.freeCtr := rfl

end SetGr

section SetFr

variable (s : State) (f : FrIdx) (v : FReg) (k : WriteKind)

@[simp] theorem setFr_old : (s.setFr f v k).old = s.old := rfl
@[simp] theorem setFr_cfm : (s.setFr f v k).cfm = s.cfm := rfl
@[simp] theorem setFr_bof : (s.setFr f v k).bof = s.bof := rfl
@[simp] theorem setFr_nclean : (s.setFr f v k).nclean = s.nclean := rfl
@[simp] theorem setFr_ip : (s.setFr f v k).ip = s.ip := rfl
@[simp] theorem setFr_umGroup : (s.setFr f v k).umGroup = s.umGroup := rfl
@[simp] theorem setFr_cr : (s.setFr f v k).cr = s.cr := rfl
@[simp] theorem setFr_itc : (s.setFr f v k).itc = s.itc := rfl
@[simp] theorem setFr_lastBundle : (s.setFr f v k).lastBundle = s.lastBundle := rfl
@[simp] theorem setFr_rr : (s.setFr f v k).rr = s.rr := rfl
@[simp] theorem setFr_pkr : (s.setFr f v k).pkr = s.pkr := rfl
@[simp] theorem setFr_ibr : (s.setFr f v k).ibr = s.ibr := rfl
@[simp] theorem setFr_dbr : (s.setFr f v k).dbr = s.dbr := rfl
@[simp] theorem setFr_pmc : (s.setFr f v k).pmc = s.pmc := rfl
@[simp] theorem setFr_pmd : (s.setFr f v k).pmd = s.pmd := rfl
@[simp] theorem setFr_itr : (s.setFr f v k).itr = s.itr := rfl
@[simp] theorem setFr_dtr : (s.setFr f v k).dtr = s.dtr := rfl
@[simp] theorem setFr_itcache : (s.setFr f v k).itcache = s.itcache := rfl
@[simp] theorem setFr_dtcache : (s.setFr f v k).dtcache = s.dtcache := rfl
@[simp] theorem setFr_l1itlb : (s.setFr f v k).l1itlb = s.l1itlb := rfl
@[simp] theorem setFr_l1dtlb : (s.setFr f v k).l1dtlb = s.l1dtlb := rfl
@[simp] theorem setFr_mem : (s.setFr f v k).mem = s.mem := rfl
@[simp] theorem setFr_alat : (s.setFr f v k).alat = s.alat := rfl
@[simp] theorem setFr_wcb : (s.setFr f v k).wcb = s.wcb := rfl
@[simp] theorem setFr_stale : (s.setFr f v k).stale = s.stale := rfl
@[simp] theorem setFr_deferral : (s.setFr f v k).deferral = s.deferral := rfl
@[simp] theorem setFr_groupStart : (s.setFr f v k).groupStart = s.groupStart := rfl
@[simp] theorem setFr_grpPrAlu : (s.setFr f v k).grpPrAlu = s.grpPrAlu := rfl
@[simp] theorem setFr_grpPrAnd : (s.setFr f v k).grpPrAnd = s.grpPrAnd := rfl
@[simp] theorem setFr_grpPrOr : (s.setFr f v k).grpPrOr = s.grpPrOr := rfl
@[simp] theorem setFr_grpPrCmp : (s.setFr f v k).grpPrCmp = s.grpPrCmp := rfl
@[simp] theorem setFr_grpAlatSets : (s.setFr f v k).grpAlatSets = s.grpAlatSets := rfl
@[simp] theorem setFr_grpAlatChecks : (s.setFr f v k).grpAlatChecks = s.grpAlatChecks := rfl
@[simp] theorem setFr_grpAlatInval : (s.setFr f v k).grpAlatInval = s.grpAlatInval := rfl
@[simp] theorem setFr_grpAlatInvalAll : (s.setFr f v k).grpAlatInvalAll = s.grpAlatInvalAll := rfl
@[simp] theorem setFr_events : (s.setFr f v k).events = s.events := rfl
@[simp] theorem setFr_clkEvents : (s.setFr f v k).clkEvents = s.clkEvents := rfl
@[simp] theorem setFr_clkVals : (s.setFr f v k).clkVals = s.clkVals := rfl
@[simp] theorem setFr_clkFr : (s.setFr f v k).clkFr = s.clkFr := rfl
@[simp] theorem setFr_brBundle : (s.setFr f v k).brBundle = s.brBundle := rfl
@[simp] theorem setFr_btbPend : (s.setFr f v k).btbPend = s.btbPend := rfl
@[simp] theorem setFr_bilDue : (s.setFr f v k).bilDue = s.bilDue := rfl
@[simp] theorem setFr_earWait : (s.setFr f v k).earWait = s.earWait := rfl
@[simp] theorem setFr_freeCtr : (s.setFr f v k).freeCtr = s.freeCtr := rfl

end SetFr

section SetBr

variable (s : State) (b : BrIdx) (v : Word)

@[simp] theorem setBr_old : (s.setBr b v).old = s.old := rfl
@[simp] theorem setBr_cfm : (s.setBr b v).cfm = s.cfm := rfl
@[simp] theorem setBr_bof : (s.setBr b v).bof = s.bof := rfl
@[simp] theorem setBr_nclean : (s.setBr b v).nclean = s.nclean := rfl
@[simp] theorem setBr_ip : (s.setBr b v).ip = s.ip := rfl
@[simp] theorem setBr_psr : (s.setBr b v).psr = s.psr := rfl
@[simp] theorem setBr_umGroup : (s.setBr b v).umGroup = s.umGroup := rfl
@[simp] theorem setBr_cr : (s.setBr b v).cr = s.cr := rfl
@[simp] theorem setBr_itc : (s.setBr b v).itc = s.itc := rfl
@[simp] theorem setBr_lastBundle : (s.setBr b v).lastBundle = s.lastBundle := rfl
@[simp] theorem setBr_rr : (s.setBr b v).rr = s.rr := rfl
@[simp] theorem setBr_pkr : (s.setBr b v).pkr = s.pkr := rfl
@[simp] theorem setBr_ibr : (s.setBr b v).ibr = s.ibr := rfl
@[simp] theorem setBr_dbr : (s.setBr b v).dbr = s.dbr := rfl
@[simp] theorem setBr_pmc : (s.setBr b v).pmc = s.pmc := rfl
@[simp] theorem setBr_pmd : (s.setBr b v).pmd = s.pmd := rfl
@[simp] theorem setBr_itr : (s.setBr b v).itr = s.itr := rfl
@[simp] theorem setBr_dtr : (s.setBr b v).dtr = s.dtr := rfl
@[simp] theorem setBr_itcache : (s.setBr b v).itcache = s.itcache := rfl
@[simp] theorem setBr_dtcache : (s.setBr b v).dtcache = s.dtcache := rfl
@[simp] theorem setBr_l1itlb : (s.setBr b v).l1itlb = s.l1itlb := rfl
@[simp] theorem setBr_l1dtlb : (s.setBr b v).l1dtlb = s.l1dtlb := rfl
@[simp] theorem setBr_mem : (s.setBr b v).mem = s.mem := rfl
@[simp] theorem setBr_alat : (s.setBr b v).alat = s.alat := rfl
@[simp] theorem setBr_wcb : (s.setBr b v).wcb = s.wcb := rfl
@[simp] theorem setBr_stale : (s.setBr b v).stale = s.stale := rfl
@[simp] theorem setBr_deferral : (s.setBr b v).deferral = s.deferral := rfl
@[simp] theorem setBr_groupStart : (s.setBr b v).groupStart = s.groupStart := rfl
@[simp] theorem setBr_grpPrAlu : (s.setBr b v).grpPrAlu = s.grpPrAlu := rfl
@[simp] theorem setBr_grpPrAnd : (s.setBr b v).grpPrAnd = s.grpPrAnd := rfl
@[simp] theorem setBr_grpPrOr : (s.setBr b v).grpPrOr = s.grpPrOr := rfl
@[simp] theorem setBr_grpPrCmp : (s.setBr b v).grpPrCmp = s.grpPrCmp := rfl
@[simp] theorem setBr_grpAlatSets : (s.setBr b v).grpAlatSets = s.grpAlatSets := rfl
@[simp] theorem setBr_grpAlatChecks : (s.setBr b v).grpAlatChecks = s.grpAlatChecks := rfl
@[simp] theorem setBr_grpAlatInval : (s.setBr b v).grpAlatInval = s.grpAlatInval := rfl
@[simp] theorem setBr_grpAlatInvalAll : (s.setBr b v).grpAlatInvalAll = s.grpAlatInvalAll := rfl
@[simp] theorem setBr_events : (s.setBr b v).events = s.events := rfl
@[simp] theorem setBr_clkEvents : (s.setBr b v).clkEvents = s.clkEvents := rfl
@[simp] theorem setBr_clkVals : (s.setBr b v).clkVals = s.clkVals := rfl
@[simp] theorem setBr_clkFr : (s.setBr b v).clkFr = s.clkFr := rfl
@[simp] theorem setBr_brBundle : (s.setBr b v).brBundle = s.brBundle := rfl
@[simp] theorem setBr_btbPend : (s.setBr b v).btbPend = s.btbPend := rfl
@[simp] theorem setBr_bilDue : (s.setBr b v).bilDue = s.bilDue := rfl
@[simp] theorem setBr_earWait : (s.setBr b v).earWait = s.earWait := rfl
@[simp] theorem setBr_freeCtr : (s.setBr b v).freeCtr = s.freeCtr := rfl

end SetBr

section WithPr

variable (s : State) (p : Word)

@[simp] theorem withPr_old : (s.withPr p).old = s.old := rfl
@[simp] theorem withPr_cfm : (s.withPr p).cfm = s.cfm := rfl
@[simp] theorem withPr_bof : (s.withPr p).bof = s.bof := rfl
@[simp] theorem withPr_nclean : (s.withPr p).nclean = s.nclean := rfl
@[simp] theorem withPr_ip : (s.withPr p).ip = s.ip := rfl
@[simp] theorem withPr_psr : (s.withPr p).psr = s.psr := rfl
@[simp] theorem withPr_umGroup : (s.withPr p).umGroup = s.umGroup := rfl
@[simp] theorem withPr_cr : (s.withPr p).cr = s.cr := rfl
@[simp] theorem withPr_itc : (s.withPr p).itc = s.itc := rfl
@[simp] theorem withPr_lastBundle : (s.withPr p).lastBundle = s.lastBundle := rfl
@[simp] theorem withPr_rr : (s.withPr p).rr = s.rr := rfl
@[simp] theorem withPr_pkr : (s.withPr p).pkr = s.pkr := rfl
@[simp] theorem withPr_ibr : (s.withPr p).ibr = s.ibr := rfl
@[simp] theorem withPr_dbr : (s.withPr p).dbr = s.dbr := rfl
@[simp] theorem withPr_pmc : (s.withPr p).pmc = s.pmc := rfl
@[simp] theorem withPr_pmd : (s.withPr p).pmd = s.pmd := rfl
@[simp] theorem withPr_itr : (s.withPr p).itr = s.itr := rfl
@[simp] theorem withPr_dtr : (s.withPr p).dtr = s.dtr := rfl
@[simp] theorem withPr_itcache : (s.withPr p).itcache = s.itcache := rfl
@[simp] theorem withPr_dtcache : (s.withPr p).dtcache = s.dtcache := rfl
@[simp] theorem withPr_l1itlb : (s.withPr p).l1itlb = s.l1itlb := rfl
@[simp] theorem withPr_l1dtlb : (s.withPr p).l1dtlb = s.l1dtlb := rfl
@[simp] theorem withPr_mem : (s.withPr p).mem = s.mem := rfl
@[simp] theorem withPr_alat : (s.withPr p).alat = s.alat := rfl
@[simp] theorem withPr_wcb : (s.withPr p).wcb = s.wcb := rfl
@[simp] theorem withPr_stale : (s.withPr p).stale = s.stale := rfl
@[simp] theorem withPr_deferral : (s.withPr p).deferral = s.deferral := rfl
@[simp] theorem withPr_groupStart : (s.withPr p).groupStart = s.groupStart := rfl
@[simp] theorem withPr_grpWrites : (s.withPr p).grpWrites = s.grpWrites := rfl
@[simp] theorem withPr_grpPrAlu : (s.withPr p).grpPrAlu = s.grpPrAlu := rfl
@[simp] theorem withPr_grpPrAnd : (s.withPr p).grpPrAnd = s.grpPrAnd := rfl
@[simp] theorem withPr_grpPrOr : (s.withPr p).grpPrOr = s.grpPrOr := rfl
@[simp] theorem withPr_grpPrCmp : (s.withPr p).grpPrCmp = s.grpPrCmp := rfl
@[simp] theorem withPr_grpAlatSets : (s.withPr p).grpAlatSets = s.grpAlatSets := rfl
@[simp] theorem withPr_grpAlatChecks : (s.withPr p).grpAlatChecks = s.grpAlatChecks := rfl
@[simp] theorem withPr_grpAlatInval : (s.withPr p).grpAlatInval = s.grpAlatInval := rfl
@[simp] theorem withPr_grpAlatInvalAll : (s.withPr p).grpAlatInvalAll = s.grpAlatInvalAll := rfl
@[simp] theorem withPr_events : (s.withPr p).events = s.events := rfl
@[simp] theorem withPr_clkEvents : (s.withPr p).clkEvents = s.clkEvents := rfl
@[simp] theorem withPr_clkVals : (s.withPr p).clkVals = s.clkVals := rfl
@[simp] theorem withPr_clkFr : (s.withPr p).clkFr = s.clkFr := rfl
@[simp] theorem withPr_brBundle : (s.withPr p).brBundle = s.brBundle := rfl
@[simp] theorem withPr_btbPend : (s.withPr p).btbPend = s.btbPend := rfl
@[simp] theorem withPr_bilDue : (s.withPr p).bilDue = s.bilDue := rfl
@[simp] theorem withPr_earWait : (s.withPr p).earWait = s.earWait := rfl
@[simp] theorem withPr_freeCtr : (s.withPr p).freeCtr = s.freeCtr := rfl

end WithPr

section SerializeInstr

variable (s : State)

@[simp] theorem serializeInstr_cur : (s.serializeInstr).cur = s.cur := rfl
@[simp] theorem serializeInstr_old : (s.serializeInstr).old = s.old := rfl
@[simp] theorem serializeInstr_cfm : (s.serializeInstr).cfm = s.cfm := rfl
@[simp] theorem serializeInstr_bof : (s.serializeInstr).bof = s.bof := rfl
@[simp] theorem serializeInstr_nclean : (s.serializeInstr).nclean = s.nclean := rfl
@[simp] theorem serializeInstr_ip : (s.serializeInstr).ip = s.ip := rfl
@[simp] theorem serializeInstr_psr : (s.serializeInstr).psr = s.psr := rfl
@[simp] theorem serializeInstr_umGroup : (s.serializeInstr).umGroup = s.umGroup := rfl
@[simp] theorem serializeInstr_cr : (s.serializeInstr).cr = s.cr := rfl
@[simp] theorem serializeInstr_itc : (s.serializeInstr).itc = s.itc := rfl
@[simp] theorem serializeInstr_lastBundle : (s.serializeInstr).lastBundle = s.lastBundle := rfl
@[simp] theorem serializeInstr_rr : (s.serializeInstr).rr = s.rr := rfl
@[simp] theorem serializeInstr_pkr : (s.serializeInstr).pkr = s.pkr := rfl
@[simp] theorem serializeInstr_ibr : (s.serializeInstr).ibr = s.ibr := rfl
@[simp] theorem serializeInstr_dbr : (s.serializeInstr).dbr = s.dbr := rfl
@[simp] theorem serializeInstr_pmc : (s.serializeInstr).pmc = s.pmc := rfl
@[simp] theorem serializeInstr_pmd : (s.serializeInstr).pmd = s.pmd := rfl
@[simp] theorem serializeInstr_itr : (s.serializeInstr).itr = s.itr := rfl
@[simp] theorem serializeInstr_dtr : (s.serializeInstr).dtr = s.dtr := rfl
@[simp] theorem serializeInstr_itcache : (s.serializeInstr).itcache = s.itcache := rfl
@[simp] theorem serializeInstr_dtcache : (s.serializeInstr).dtcache = s.dtcache := rfl
@[simp] theorem serializeInstr_l1itlb : (s.serializeInstr).l1itlb = s.l1itlb := rfl
@[simp] theorem serializeInstr_l1dtlb : (s.serializeInstr).l1dtlb = s.l1dtlb := rfl
@[simp] theorem serializeInstr_mem : (s.serializeInstr).mem = s.mem := rfl
@[simp] theorem serializeInstr_alat : (s.serializeInstr).alat = s.alat := rfl
@[simp] theorem serializeInstr_wcb : (s.serializeInstr).wcb = s.wcb := rfl
@[simp] theorem serializeInstr_deferral : (s.serializeInstr).deferral = s.deferral := rfl
@[simp] theorem serializeInstr_groupStart : (s.serializeInstr).groupStart = s.groupStart := rfl
@[simp] theorem serializeInstr_grpWrites : (s.serializeInstr).grpWrites = s.grpWrites := rfl
@[simp] theorem serializeInstr_grpPrAlu : (s.serializeInstr).grpPrAlu = s.grpPrAlu := rfl
@[simp] theorem serializeInstr_grpPrAnd : (s.serializeInstr).grpPrAnd = s.grpPrAnd := rfl
@[simp] theorem serializeInstr_grpPrOr : (s.serializeInstr).grpPrOr = s.grpPrOr := rfl
@[simp] theorem serializeInstr_grpPrCmp : (s.serializeInstr).grpPrCmp = s.grpPrCmp := rfl
@[simp] theorem serializeInstr_grpAlatSets : (s.serializeInstr).grpAlatSets = s.grpAlatSets := rfl
@[simp] theorem serializeInstr_grpAlatChecks : (s.serializeInstr).grpAlatChecks = s.grpAlatChecks := rfl
@[simp] theorem serializeInstr_grpAlatInval : (s.serializeInstr).grpAlatInval = s.grpAlatInval := rfl
@[simp] theorem serializeInstr_grpAlatInvalAll : (s.serializeInstr).grpAlatInvalAll = s.grpAlatInvalAll := rfl
@[simp] theorem serializeInstr_events : (s.serializeInstr).events = s.events := rfl
@[simp] theorem serializeInstr_clkEvents : (s.serializeInstr).clkEvents = s.clkEvents := rfl
@[simp] theorem serializeInstr_clkVals : (s.serializeInstr).clkVals = s.clkVals := rfl
@[simp] theorem serializeInstr_clkFr : (s.serializeInstr).clkFr = s.clkFr := rfl
@[simp] theorem serializeInstr_brBundle : (s.serializeInstr).brBundle = s.brBundle := rfl
@[simp] theorem serializeInstr_btbPend : (s.serializeInstr).btbPend = s.btbPend := rfl
@[simp] theorem serializeInstr_bilDue : (s.serializeInstr).bilDue = s.bilDue := rfl
@[simp] theorem serializeInstr_earWait : (s.serializeInstr).earWait = s.earWait := rfl
@[simp] theorem serializeInstr_freeCtr : (s.serializeInstr).freeCtr = s.freeCtr := rfl

end SerializeInstr

section EndGroup

variable (s : State)

@[simp] theorem endGroup_cur : (s.endGroup).cur = s.cur := rfl
@[simp] theorem endGroup_cfm : (s.endGroup).cfm = s.cfm := rfl
@[simp] theorem endGroup_bof : (s.endGroup).bof = s.bof := rfl
@[simp] theorem endGroup_nclean : (s.endGroup).nclean = s.nclean := rfl
@[simp] theorem endGroup_ip : (s.endGroup).ip = s.ip := rfl
@[simp] theorem endGroup_psr : (s.endGroup).psr = s.psr := rfl
@[simp] theorem endGroup_cr : (s.endGroup).cr = s.cr := rfl
@[simp] theorem endGroup_itc : (s.endGroup).itc = s.itc := rfl
@[simp] theorem endGroup_lastBundle : (s.endGroup).lastBundle = s.lastBundle := rfl
@[simp] theorem endGroup_rr : (s.endGroup).rr = s.rr := rfl
@[simp] theorem endGroup_pkr : (s.endGroup).pkr = s.pkr := rfl
@[simp] theorem endGroup_ibr : (s.endGroup).ibr = s.ibr := rfl
@[simp] theorem endGroup_dbr : (s.endGroup).dbr = s.dbr := rfl
@[simp] theorem endGroup_pmc : (s.endGroup).pmc = s.pmc := rfl
@[simp] theorem endGroup_pmd : (s.endGroup).pmd = s.pmd := rfl
@[simp] theorem endGroup_itr : (s.endGroup).itr = s.itr := rfl
@[simp] theorem endGroup_dtr : (s.endGroup).dtr = s.dtr := rfl
@[simp] theorem endGroup_itcache : (s.endGroup).itcache = s.itcache := rfl
@[simp] theorem endGroup_dtcache : (s.endGroup).dtcache = s.dtcache := rfl
@[simp] theorem endGroup_l1itlb : (s.endGroup).l1itlb = s.l1itlb := rfl
@[simp] theorem endGroup_l1dtlb : (s.endGroup).l1dtlb = s.l1dtlb := rfl
@[simp] theorem endGroup_mem : (s.endGroup).mem = s.mem := rfl
@[simp] theorem endGroup_alat : (s.endGroup).alat = s.alat := rfl
@[simp] theorem endGroup_wcb : (s.endGroup).wcb = s.wcb := rfl
@[simp] theorem endGroup_stale : (s.endGroup).stale = s.stale := rfl
@[simp] theorem endGroup_deferral : (s.endGroup).deferral = s.deferral := rfl
@[simp] theorem endGroup_events : (s.endGroup).events = s.events := rfl
@[simp] theorem endGroup_clkEvents : (s.endGroup).clkEvents = s.clkEvents := rfl
@[simp] theorem endGroup_clkVals : (s.endGroup).clkVals = s.clkVals := rfl
@[simp] theorem endGroup_clkFr : (s.endGroup).clkFr = s.clkFr := rfl
@[simp] theorem endGroup_brBundle : (s.endGroup).brBundle = s.brBundle := rfl
@[simp] theorem endGroup_btbPend : (s.endGroup).btbPend = s.btbPend := rfl
@[simp] theorem endGroup_bilDue : (s.endGroup).bilDue = s.bilDue := rfl
@[simp] theorem endGroup_earWait : (s.endGroup).earWait = s.earWait := rfl
@[simp] theorem endGroup_freeCtr : (s.endGroup).freeCtr = s.freeCtr := rfl

end EndGroup

section Advance

variable (s : State) (l : Bool)

@[simp] theorem advance_cur : (s.advance l).cur = s.cur := rfl
@[simp] theorem advance_old : (s.advance l).old = s.old := rfl
@[simp] theorem advance_cfm : (s.advance l).cfm = s.cfm := rfl
@[simp] theorem advance_bof : (s.advance l).bof = s.bof := rfl
@[simp] theorem advance_nclean : (s.advance l).nclean = s.nclean := rfl
@[simp] theorem advance_umGroup : (s.advance l).umGroup = s.umGroup := rfl
@[simp] theorem advance_cr : (s.advance l).cr = s.cr := rfl
@[simp] theorem advance_itc : (s.advance l).itc = s.itc := rfl
@[simp] theorem advance_rr : (s.advance l).rr = s.rr := rfl
@[simp] theorem advance_pkr : (s.advance l).pkr = s.pkr := rfl
@[simp] theorem advance_ibr : (s.advance l).ibr = s.ibr := rfl
@[simp] theorem advance_dbr : (s.advance l).dbr = s.dbr := rfl
@[simp] theorem advance_pmc : (s.advance l).pmc = s.pmc := rfl
@[simp] theorem advance_pmd : (s.advance l).pmd = s.pmd := rfl
@[simp] theorem advance_itr : (s.advance l).itr = s.itr := rfl
@[simp] theorem advance_dtr : (s.advance l).dtr = s.dtr := rfl
@[simp] theorem advance_itcache : (s.advance l).itcache = s.itcache := rfl
@[simp] theorem advance_dtcache : (s.advance l).dtcache = s.dtcache := rfl
@[simp] theorem advance_l1itlb : (s.advance l).l1itlb = s.l1itlb := rfl
@[simp] theorem advance_l1dtlb : (s.advance l).l1dtlb = s.l1dtlb := rfl
@[simp] theorem advance_mem : (s.advance l).mem = s.mem := rfl
@[simp] theorem advance_alat : (s.advance l).alat = s.alat := rfl
@[simp] theorem advance_wcb : (s.advance l).wcb = s.wcb := rfl
@[simp] theorem advance_stale : (s.advance l).stale = s.stale := rfl
@[simp] theorem advance_deferral : (s.advance l).deferral = s.deferral := rfl
@[simp] theorem advance_grpWrites : (s.advance l).grpWrites = s.grpWrites := rfl
@[simp] theorem advance_grpPrAlu : (s.advance l).grpPrAlu = s.grpPrAlu := rfl
@[simp] theorem advance_grpPrAnd : (s.advance l).grpPrAnd = s.grpPrAnd := rfl
@[simp] theorem advance_grpPrOr : (s.advance l).grpPrOr = s.grpPrOr := rfl
@[simp] theorem advance_grpPrCmp : (s.advance l).grpPrCmp = s.grpPrCmp := rfl
@[simp] theorem advance_grpAlatSets : (s.advance l).grpAlatSets = s.grpAlatSets := rfl
@[simp] theorem advance_grpAlatChecks : (s.advance l).grpAlatChecks = s.grpAlatChecks := rfl
@[simp] theorem advance_grpAlatInval : (s.advance l).grpAlatInval = s.grpAlatInval := rfl
@[simp] theorem advance_grpAlatInvalAll : (s.advance l).grpAlatInvalAll = s.grpAlatInvalAll := rfl
@[simp] theorem advance_events : (s.advance l).events = s.events := rfl
@[simp] theorem advance_clkEvents : (s.advance l).clkEvents = s.clkEvents := rfl
@[simp] theorem advance_clkVals : (s.advance l).clkVals = s.clkVals := rfl
@[simp] theorem advance_clkFr : (s.advance l).clkFr = s.clkFr := rfl
@[simp] theorem advance_brBundle : (s.advance l).brBundle = s.brBundle := rfl
@[simp] theorem advance_btbPend : (s.advance l).btbPend = s.btbPend := rfl
@[simp] theorem advance_bilDue : (s.advance l).bilDue = s.bilDue := rfl
@[simp] theorem advance_earWait : (s.advance l).earWait = s.earWait := rfl

end Advance

section MemWrite

variable (s : State) (a : Nat) (bs : List Byte)

@[simp] theorem memWrite_cur : (s.memWrite a bs).cur = s.cur := rfl
@[simp] theorem memWrite_old : (s.memWrite a bs).old = s.old := rfl
@[simp] theorem memWrite_cfm : (s.memWrite a bs).cfm = s.cfm := rfl
@[simp] theorem memWrite_bof : (s.memWrite a bs).bof = s.bof := rfl
@[simp] theorem memWrite_nclean : (s.memWrite a bs).nclean = s.nclean := rfl
@[simp] theorem memWrite_ip : (s.memWrite a bs).ip = s.ip := rfl
@[simp] theorem memWrite_psr : (s.memWrite a bs).psr = s.psr := rfl
@[simp] theorem memWrite_umGroup : (s.memWrite a bs).umGroup = s.umGroup := rfl
@[simp] theorem memWrite_cr : (s.memWrite a bs).cr = s.cr := rfl
@[simp] theorem memWrite_itc : (s.memWrite a bs).itc = s.itc := rfl
@[simp] theorem memWrite_lastBundle : (s.memWrite a bs).lastBundle = s.lastBundle := rfl
@[simp] theorem memWrite_rr : (s.memWrite a bs).rr = s.rr := rfl
@[simp] theorem memWrite_pkr : (s.memWrite a bs).pkr = s.pkr := rfl
@[simp] theorem memWrite_ibr : (s.memWrite a bs).ibr = s.ibr := rfl
@[simp] theorem memWrite_dbr : (s.memWrite a bs).dbr = s.dbr := rfl
@[simp] theorem memWrite_pmc : (s.memWrite a bs).pmc = s.pmc := rfl
@[simp] theorem memWrite_pmd : (s.memWrite a bs).pmd = s.pmd := rfl
@[simp] theorem memWrite_itr : (s.memWrite a bs).itr = s.itr := rfl
@[simp] theorem memWrite_dtr : (s.memWrite a bs).dtr = s.dtr := rfl
@[simp] theorem memWrite_itcache : (s.memWrite a bs).itcache = s.itcache := rfl
@[simp] theorem memWrite_dtcache : (s.memWrite a bs).dtcache = s.dtcache := rfl
@[simp] theorem memWrite_l1itlb : (s.memWrite a bs).l1itlb = s.l1itlb := rfl
@[simp] theorem memWrite_l1dtlb : (s.memWrite a bs).l1dtlb = s.l1dtlb := rfl
@[simp] theorem memWrite_alat : (s.memWrite a bs).alat = s.alat := rfl
@[simp] theorem memWrite_wcb : (s.memWrite a bs).wcb = s.wcb := rfl
@[simp] theorem memWrite_deferral : (s.memWrite a bs).deferral = s.deferral := rfl
@[simp] theorem memWrite_groupStart : (s.memWrite a bs).groupStart = s.groupStart := rfl
@[simp] theorem memWrite_grpWrites : (s.memWrite a bs).grpWrites = s.grpWrites := rfl
@[simp] theorem memWrite_grpPrAlu : (s.memWrite a bs).grpPrAlu = s.grpPrAlu := rfl
@[simp] theorem memWrite_grpPrAnd : (s.memWrite a bs).grpPrAnd = s.grpPrAnd := rfl
@[simp] theorem memWrite_grpPrOr : (s.memWrite a bs).grpPrOr = s.grpPrOr := rfl
@[simp] theorem memWrite_grpPrCmp : (s.memWrite a bs).grpPrCmp = s.grpPrCmp := rfl
@[simp] theorem memWrite_grpAlatSets : (s.memWrite a bs).grpAlatSets = s.grpAlatSets := rfl
@[simp] theorem memWrite_grpAlatChecks : (s.memWrite a bs).grpAlatChecks = s.grpAlatChecks := rfl
@[simp] theorem memWrite_grpAlatInval : (s.memWrite a bs).grpAlatInval = s.grpAlatInval := rfl
@[simp] theorem memWrite_grpAlatInvalAll : (s.memWrite a bs).grpAlatInvalAll = s.grpAlatInvalAll := rfl
@[simp] theorem memWrite_events : (s.memWrite a bs).events = s.events := rfl
@[simp] theorem memWrite_clkEvents : (s.memWrite a bs).clkEvents = s.clkEvents := rfl
@[simp] theorem memWrite_clkVals : (s.memWrite a bs).clkVals = s.clkVals := rfl
@[simp] theorem memWrite_clkFr : (s.memWrite a bs).clkFr = s.clkFr := rfl
@[simp] theorem memWrite_brBundle : (s.memWrite a bs).brBundle = s.brBundle := rfl
@[simp] theorem memWrite_btbPend : (s.memWrite a bs).btbPend = s.btbPend := rfl
@[simp] theorem memWrite_bilDue : (s.memWrite a bs).bilDue = s.bilDue := rfl
@[simp] theorem memWrite_earWait : (s.memWrite a bs).earWait = s.earWait := rfl
@[simp] theorem memWrite_freeCtr : (s.memWrite a bs).freeCtr = s.freeCtr := rfl

end MemWrite

section AlatRemove

variable (s : State) (r : AlatReg)

@[simp] theorem alatRemove_cur : (s.alatRemove r).cur = s.cur := rfl
@[simp] theorem alatRemove_old : (s.alatRemove r).old = s.old := rfl
@[simp] theorem alatRemove_cfm : (s.alatRemove r).cfm = s.cfm := rfl
@[simp] theorem alatRemove_bof : (s.alatRemove r).bof = s.bof := rfl
@[simp] theorem alatRemove_nclean : (s.alatRemove r).nclean = s.nclean := rfl
@[simp] theorem alatRemove_ip : (s.alatRemove r).ip = s.ip := rfl
@[simp] theorem alatRemove_psr : (s.alatRemove r).psr = s.psr := rfl
@[simp] theorem alatRemove_umGroup : (s.alatRemove r).umGroup = s.umGroup := rfl
@[simp] theorem alatRemove_cr : (s.alatRemove r).cr = s.cr := rfl
@[simp] theorem alatRemove_itc : (s.alatRemove r).itc = s.itc := rfl
@[simp] theorem alatRemove_lastBundle : (s.alatRemove r).lastBundle = s.lastBundle := rfl
@[simp] theorem alatRemove_rr : (s.alatRemove r).rr = s.rr := rfl
@[simp] theorem alatRemove_pkr : (s.alatRemove r).pkr = s.pkr := rfl
@[simp] theorem alatRemove_ibr : (s.alatRemove r).ibr = s.ibr := rfl
@[simp] theorem alatRemove_dbr : (s.alatRemove r).dbr = s.dbr := rfl
@[simp] theorem alatRemove_pmc : (s.alatRemove r).pmc = s.pmc := rfl
@[simp] theorem alatRemove_pmd : (s.alatRemove r).pmd = s.pmd := rfl
@[simp] theorem alatRemove_itr : (s.alatRemove r).itr = s.itr := rfl
@[simp] theorem alatRemove_dtr : (s.alatRemove r).dtr = s.dtr := rfl
@[simp] theorem alatRemove_itcache : (s.alatRemove r).itcache = s.itcache := rfl
@[simp] theorem alatRemove_dtcache : (s.alatRemove r).dtcache = s.dtcache := rfl
@[simp] theorem alatRemove_l1itlb : (s.alatRemove r).l1itlb = s.l1itlb := rfl
@[simp] theorem alatRemove_l1dtlb : (s.alatRemove r).l1dtlb = s.l1dtlb := rfl
@[simp] theorem alatRemove_mem : (s.alatRemove r).mem = s.mem := rfl
@[simp] theorem alatRemove_wcb : (s.alatRemove r).wcb = s.wcb := rfl
@[simp] theorem alatRemove_stale : (s.alatRemove r).stale = s.stale := rfl
@[simp] theorem alatRemove_deferral : (s.alatRemove r).deferral = s.deferral := rfl
@[simp] theorem alatRemove_groupStart : (s.alatRemove r).groupStart = s.groupStart := rfl
@[simp] theorem alatRemove_grpWrites : (s.alatRemove r).grpWrites = s.grpWrites := rfl
@[simp] theorem alatRemove_grpPrAlu : (s.alatRemove r).grpPrAlu = s.grpPrAlu := rfl
@[simp] theorem alatRemove_grpPrAnd : (s.alatRemove r).grpPrAnd = s.grpPrAnd := rfl
@[simp] theorem alatRemove_grpPrOr : (s.alatRemove r).grpPrOr = s.grpPrOr := rfl
@[simp] theorem alatRemove_grpPrCmp : (s.alatRemove r).grpPrCmp = s.grpPrCmp := rfl
@[simp] theorem alatRemove_grpAlatSets : (s.alatRemove r).grpAlatSets = s.grpAlatSets := rfl
@[simp] theorem alatRemove_grpAlatChecks : (s.alatRemove r).grpAlatChecks = s.grpAlatChecks := rfl
@[simp] theorem alatRemove_grpAlatInval : (s.alatRemove r).grpAlatInval = s.grpAlatInval := rfl
@[simp] theorem alatRemove_grpAlatInvalAll : (s.alatRemove r).grpAlatInvalAll = s.grpAlatInvalAll := rfl
@[simp] theorem alatRemove_events : (s.alatRemove r).events = s.events := rfl
@[simp] theorem alatRemove_clkEvents : (s.alatRemove r).clkEvents = s.clkEvents := rfl
@[simp] theorem alatRemove_clkVals : (s.alatRemove r).clkVals = s.clkVals := rfl
@[simp] theorem alatRemove_clkFr : (s.alatRemove r).clkFr = s.clkFr := rfl
@[simp] theorem alatRemove_brBundle : (s.alatRemove r).brBundle = s.brBundle := rfl
@[simp] theorem alatRemove_btbPend : (s.alatRemove r).btbPend = s.btbPend := rfl
@[simp] theorem alatRemove_bilDue : (s.alatRemove r).bilDue = s.bilDue := rfl
@[simp] theorem alatRemove_earWait : (s.alatRemove r).earWait = s.earWait := rfl
@[simp] theorem alatRemove_freeCtr : (s.alatRemove r).freeCtr = s.freeCtr := rfl

end AlatRemove

section AlatInvalidate

variable (s : State) (r : AlatReg)

@[simp] theorem alatInvalidate_cur : (s.alatInvalidate r).cur = s.cur := rfl
@[simp] theorem alatInvalidate_old : (s.alatInvalidate r).old = s.old := rfl
@[simp] theorem alatInvalidate_cfm : (s.alatInvalidate r).cfm = s.cfm := rfl
@[simp] theorem alatInvalidate_bof : (s.alatInvalidate r).bof = s.bof := rfl
@[simp] theorem alatInvalidate_nclean : (s.alatInvalidate r).nclean = s.nclean := rfl
@[simp] theorem alatInvalidate_ip : (s.alatInvalidate r).ip = s.ip := rfl
@[simp] theorem alatInvalidate_psr : (s.alatInvalidate r).psr = s.psr := rfl
@[simp] theorem alatInvalidate_umGroup : (s.alatInvalidate r).umGroup = s.umGroup := rfl
@[simp] theorem alatInvalidate_cr : (s.alatInvalidate r).cr = s.cr := rfl
@[simp] theorem alatInvalidate_itc : (s.alatInvalidate r).itc = s.itc := rfl
@[simp] theorem alatInvalidate_lastBundle : (s.alatInvalidate r).lastBundle = s.lastBundle := rfl
@[simp] theorem alatInvalidate_rr : (s.alatInvalidate r).rr = s.rr := rfl
@[simp] theorem alatInvalidate_pkr : (s.alatInvalidate r).pkr = s.pkr := rfl
@[simp] theorem alatInvalidate_ibr : (s.alatInvalidate r).ibr = s.ibr := rfl
@[simp] theorem alatInvalidate_dbr : (s.alatInvalidate r).dbr = s.dbr := rfl
@[simp] theorem alatInvalidate_pmc : (s.alatInvalidate r).pmc = s.pmc := rfl
@[simp] theorem alatInvalidate_pmd : (s.alatInvalidate r).pmd = s.pmd := rfl
@[simp] theorem alatInvalidate_itr : (s.alatInvalidate r).itr = s.itr := rfl
@[simp] theorem alatInvalidate_dtr : (s.alatInvalidate r).dtr = s.dtr := rfl
@[simp] theorem alatInvalidate_itcache : (s.alatInvalidate r).itcache = s.itcache := rfl
@[simp] theorem alatInvalidate_dtcache : (s.alatInvalidate r).dtcache = s.dtcache := rfl
@[simp] theorem alatInvalidate_l1itlb : (s.alatInvalidate r).l1itlb = s.l1itlb := rfl
@[simp] theorem alatInvalidate_l1dtlb : (s.alatInvalidate r).l1dtlb = s.l1dtlb := rfl
@[simp] theorem alatInvalidate_mem : (s.alatInvalidate r).mem = s.mem := rfl
@[simp] theorem alatInvalidate_wcb : (s.alatInvalidate r).wcb = s.wcb := rfl
@[simp] theorem alatInvalidate_stale : (s.alatInvalidate r).stale = s.stale := rfl
@[simp] theorem alatInvalidate_deferral : (s.alatInvalidate r).deferral = s.deferral := rfl
@[simp] theorem alatInvalidate_groupStart : (s.alatInvalidate r).groupStart = s.groupStart := rfl
@[simp] theorem alatInvalidate_grpWrites : (s.alatInvalidate r).grpWrites = s.grpWrites := rfl
@[simp] theorem alatInvalidate_grpPrAlu : (s.alatInvalidate r).grpPrAlu = s.grpPrAlu := rfl
@[simp] theorem alatInvalidate_grpPrAnd : (s.alatInvalidate r).grpPrAnd = s.grpPrAnd := rfl
@[simp] theorem alatInvalidate_grpPrOr : (s.alatInvalidate r).grpPrOr = s.grpPrOr := rfl
@[simp] theorem alatInvalidate_grpPrCmp : (s.alatInvalidate r).grpPrCmp = s.grpPrCmp := rfl
@[simp] theorem alatInvalidate_grpAlatSets : (s.alatInvalidate r).grpAlatSets = s.grpAlatSets := rfl
@[simp] theorem alatInvalidate_grpAlatChecks : (s.alatInvalidate r).grpAlatChecks = s.grpAlatChecks := rfl
@[simp] theorem alatInvalidate_grpAlatInvalAll : (s.alatInvalidate r).grpAlatInvalAll = s.grpAlatInvalAll := rfl
@[simp] theorem alatInvalidate_events : (s.alatInvalidate r).events = s.events := rfl
@[simp] theorem alatInvalidate_clkEvents : (s.alatInvalidate r).clkEvents = s.clkEvents := rfl
@[simp] theorem alatInvalidate_clkVals : (s.alatInvalidate r).clkVals = s.clkVals := rfl
@[simp] theorem alatInvalidate_clkFr : (s.alatInvalidate r).clkFr = s.clkFr := rfl
@[simp] theorem alatInvalidate_brBundle : (s.alatInvalidate r).brBundle = s.brBundle := rfl
@[simp] theorem alatInvalidate_btbPend : (s.alatInvalidate r).btbPend = s.btbPend := rfl
@[simp] theorem alatInvalidate_bilDue : (s.alatInvalidate r).bilDue = s.bilDue := rfl
@[simp] theorem alatInvalidate_earWait : (s.alatInvalidate r).earWait = s.earWait := rfl
@[simp] theorem alatInvalidate_freeCtr : (s.alatInvalidate r).freeCtr = s.freeCtr := rfl

end AlatInvalidate

section AlatInvalidateAll

variable (s : State)

@[simp] theorem alatInvalidateAll_cur : (s.alatInvalidateAll).cur = s.cur := rfl
@[simp] theorem alatInvalidateAll_old : (s.alatInvalidateAll).old = s.old := rfl
@[simp] theorem alatInvalidateAll_cfm : (s.alatInvalidateAll).cfm = s.cfm := rfl
@[simp] theorem alatInvalidateAll_bof : (s.alatInvalidateAll).bof = s.bof := rfl
@[simp] theorem alatInvalidateAll_nclean : (s.alatInvalidateAll).nclean = s.nclean := rfl
@[simp] theorem alatInvalidateAll_ip : (s.alatInvalidateAll).ip = s.ip := rfl
@[simp] theorem alatInvalidateAll_psr : (s.alatInvalidateAll).psr = s.psr := rfl
@[simp] theorem alatInvalidateAll_umGroup : (s.alatInvalidateAll).umGroup = s.umGroup := rfl
@[simp] theorem alatInvalidateAll_cr : (s.alatInvalidateAll).cr = s.cr := rfl
@[simp] theorem alatInvalidateAll_itc : (s.alatInvalidateAll).itc = s.itc := rfl
@[simp] theorem alatInvalidateAll_lastBundle : (s.alatInvalidateAll).lastBundle = s.lastBundle := rfl
@[simp] theorem alatInvalidateAll_rr : (s.alatInvalidateAll).rr = s.rr := rfl
@[simp] theorem alatInvalidateAll_pkr : (s.alatInvalidateAll).pkr = s.pkr := rfl
@[simp] theorem alatInvalidateAll_ibr : (s.alatInvalidateAll).ibr = s.ibr := rfl
@[simp] theorem alatInvalidateAll_dbr : (s.alatInvalidateAll).dbr = s.dbr := rfl
@[simp] theorem alatInvalidateAll_pmc : (s.alatInvalidateAll).pmc = s.pmc := rfl
@[simp] theorem alatInvalidateAll_pmd : (s.alatInvalidateAll).pmd = s.pmd := rfl
@[simp] theorem alatInvalidateAll_itr : (s.alatInvalidateAll).itr = s.itr := rfl
@[simp] theorem alatInvalidateAll_dtr : (s.alatInvalidateAll).dtr = s.dtr := rfl
@[simp] theorem alatInvalidateAll_itcache : (s.alatInvalidateAll).itcache = s.itcache := rfl
@[simp] theorem alatInvalidateAll_dtcache : (s.alatInvalidateAll).dtcache = s.dtcache := rfl
@[simp] theorem alatInvalidateAll_l1itlb : (s.alatInvalidateAll).l1itlb = s.l1itlb := rfl
@[simp] theorem alatInvalidateAll_l1dtlb : (s.alatInvalidateAll).l1dtlb = s.l1dtlb := rfl
@[simp] theorem alatInvalidateAll_mem : (s.alatInvalidateAll).mem = s.mem := rfl
@[simp] theorem alatInvalidateAll_wcb : (s.alatInvalidateAll).wcb = s.wcb := rfl
@[simp] theorem alatInvalidateAll_stale : (s.alatInvalidateAll).stale = s.stale := rfl
@[simp] theorem alatInvalidateAll_deferral : (s.alatInvalidateAll).deferral = s.deferral := rfl
@[simp] theorem alatInvalidateAll_groupStart : (s.alatInvalidateAll).groupStart = s.groupStart := rfl
@[simp] theorem alatInvalidateAll_grpWrites : (s.alatInvalidateAll).grpWrites = s.grpWrites := rfl
@[simp] theorem alatInvalidateAll_grpPrAlu : (s.alatInvalidateAll).grpPrAlu = s.grpPrAlu := rfl
@[simp] theorem alatInvalidateAll_grpPrAnd : (s.alatInvalidateAll).grpPrAnd = s.grpPrAnd := rfl
@[simp] theorem alatInvalidateAll_grpPrOr : (s.alatInvalidateAll).grpPrOr = s.grpPrOr := rfl
@[simp] theorem alatInvalidateAll_grpPrCmp : (s.alatInvalidateAll).grpPrCmp = s.grpPrCmp := rfl
@[simp] theorem alatInvalidateAll_grpAlatSets : (s.alatInvalidateAll).grpAlatSets = s.grpAlatSets := rfl
@[simp] theorem alatInvalidateAll_grpAlatChecks : (s.alatInvalidateAll).grpAlatChecks = s.grpAlatChecks := rfl
@[simp] theorem alatInvalidateAll_grpAlatInval : (s.alatInvalidateAll).grpAlatInval = s.grpAlatInval := rfl
@[simp] theorem alatInvalidateAll_events : (s.alatInvalidateAll).events = s.events := rfl
@[simp] theorem alatInvalidateAll_clkEvents : (s.alatInvalidateAll).clkEvents = s.clkEvents := rfl
@[simp] theorem alatInvalidateAll_clkVals : (s.alatInvalidateAll).clkVals = s.clkVals := rfl
@[simp] theorem alatInvalidateAll_clkFr : (s.alatInvalidateAll).clkFr = s.clkFr := rfl
@[simp] theorem alatInvalidateAll_brBundle : (s.alatInvalidateAll).brBundle = s.brBundle := rfl
@[simp] theorem alatInvalidateAll_btbPend : (s.alatInvalidateAll).btbPend = s.btbPend := rfl
@[simp] theorem alatInvalidateAll_bilDue : (s.alatInvalidateAll).bilDue = s.bilDue := rfl
@[simp] theorem alatInvalidateAll_earWait : (s.alatInvalidateAll).earWait = s.earWait := rfl
@[simp] theorem alatInvalidateAll_freeCtr : (s.alatInvalidateAll).freeCtr = s.freeCtr := rfl

end AlatInvalidateAll

section AlatSnoop

variable (s : State) (a n : Nat)

@[simp] theorem alatSnoop_cur : (s.alatSnoop a n).cur = s.cur := rfl
@[simp] theorem alatSnoop_old : (s.alatSnoop a n).old = s.old := rfl
@[simp] theorem alatSnoop_cfm : (s.alatSnoop a n).cfm = s.cfm := rfl
@[simp] theorem alatSnoop_bof : (s.alatSnoop a n).bof = s.bof := rfl
@[simp] theorem alatSnoop_nclean : (s.alatSnoop a n).nclean = s.nclean := rfl
@[simp] theorem alatSnoop_ip : (s.alatSnoop a n).ip = s.ip := rfl
@[simp] theorem alatSnoop_psr : (s.alatSnoop a n).psr = s.psr := rfl
@[simp] theorem alatSnoop_umGroup : (s.alatSnoop a n).umGroup = s.umGroup := rfl
@[simp] theorem alatSnoop_cr : (s.alatSnoop a n).cr = s.cr := rfl
@[simp] theorem alatSnoop_itc : (s.alatSnoop a n).itc = s.itc := rfl
@[simp] theorem alatSnoop_lastBundle : (s.alatSnoop a n).lastBundle = s.lastBundle := rfl
@[simp] theorem alatSnoop_rr : (s.alatSnoop a n).rr = s.rr := rfl
@[simp] theorem alatSnoop_pkr : (s.alatSnoop a n).pkr = s.pkr := rfl
@[simp] theorem alatSnoop_ibr : (s.alatSnoop a n).ibr = s.ibr := rfl
@[simp] theorem alatSnoop_dbr : (s.alatSnoop a n).dbr = s.dbr := rfl
@[simp] theorem alatSnoop_pmc : (s.alatSnoop a n).pmc = s.pmc := rfl
@[simp] theorem alatSnoop_pmd : (s.alatSnoop a n).pmd = s.pmd := rfl
@[simp] theorem alatSnoop_itr : (s.alatSnoop a n).itr = s.itr := rfl
@[simp] theorem alatSnoop_dtr : (s.alatSnoop a n).dtr = s.dtr := rfl
@[simp] theorem alatSnoop_itcache : (s.alatSnoop a n).itcache = s.itcache := rfl
@[simp] theorem alatSnoop_dtcache : (s.alatSnoop a n).dtcache = s.dtcache := rfl
@[simp] theorem alatSnoop_l1itlb : (s.alatSnoop a n).l1itlb = s.l1itlb := rfl
@[simp] theorem alatSnoop_l1dtlb : (s.alatSnoop a n).l1dtlb = s.l1dtlb := rfl
@[simp] theorem alatSnoop_mem : (s.alatSnoop a n).mem = s.mem := rfl
@[simp] theorem alatSnoop_wcb : (s.alatSnoop a n).wcb = s.wcb := rfl
@[simp] theorem alatSnoop_stale : (s.alatSnoop a n).stale = s.stale := rfl
@[simp] theorem alatSnoop_deferral : (s.alatSnoop a n).deferral = s.deferral := rfl
@[simp] theorem alatSnoop_groupStart : (s.alatSnoop a n).groupStart = s.groupStart := rfl
@[simp] theorem alatSnoop_grpWrites : (s.alatSnoop a n).grpWrites = s.grpWrites := rfl
@[simp] theorem alatSnoop_grpPrAlu : (s.alatSnoop a n).grpPrAlu = s.grpPrAlu := rfl
@[simp] theorem alatSnoop_grpPrAnd : (s.alatSnoop a n).grpPrAnd = s.grpPrAnd := rfl
@[simp] theorem alatSnoop_grpPrOr : (s.alatSnoop a n).grpPrOr = s.grpPrOr := rfl
@[simp] theorem alatSnoop_grpPrCmp : (s.alatSnoop a n).grpPrCmp = s.grpPrCmp := rfl
@[simp] theorem alatSnoop_grpAlatSets : (s.alatSnoop a n).grpAlatSets = s.grpAlatSets := rfl
@[simp] theorem alatSnoop_grpAlatChecks : (s.alatSnoop a n).grpAlatChecks = s.grpAlatChecks := rfl
@[simp] theorem alatSnoop_grpAlatInval : (s.alatSnoop a n).grpAlatInval = s.grpAlatInval := rfl
@[simp] theorem alatSnoop_grpAlatInvalAll : (s.alatSnoop a n).grpAlatInvalAll = s.grpAlatInvalAll := rfl
@[simp] theorem alatSnoop_events : (s.alatSnoop a n).events = s.events := rfl
@[simp] theorem alatSnoop_clkEvents : (s.alatSnoop a n).clkEvents = s.clkEvents := rfl
@[simp] theorem alatSnoop_clkVals : (s.alatSnoop a n).clkVals = s.clkVals := rfl
@[simp] theorem alatSnoop_clkFr : (s.alatSnoop a n).clkFr = s.clkFr := rfl
@[simp] theorem alatSnoop_brBundle : (s.alatSnoop a n).brBundle = s.brBundle := rfl
@[simp] theorem alatSnoop_btbPend : (s.alatSnoop a n).btbPend = s.btbPend := rfl
@[simp] theorem alatSnoop_bilDue : (s.alatSnoop a n).bilDue = s.bilDue := rfl
@[simp] theorem alatSnoop_earWait : (s.alatSnoop a n).earWait = s.earWait := rfl
@[simp] theorem alatSnoop_freeCtr : (s.alatSnoop a n).freeCtr = s.freeCtr := rfl

end AlatSnoop

section AlatChecked

variable (s : State) (r : AlatReg) (f : Bool) (va : Word)

@[simp] theorem alatChecked_cur : (s.alatChecked r f va).cur = s.cur := rfl
@[simp] theorem alatChecked_old : (s.alatChecked r f va).old = s.old := rfl
@[simp] theorem alatChecked_cfm : (s.alatChecked r f va).cfm = s.cfm := rfl
@[simp] theorem alatChecked_bof : (s.alatChecked r f va).bof = s.bof := rfl
@[simp] theorem alatChecked_nclean : (s.alatChecked r f va).nclean = s.nclean := rfl
@[simp] theorem alatChecked_ip : (s.alatChecked r f va).ip = s.ip := rfl
@[simp] theorem alatChecked_psr : (s.alatChecked r f va).psr = s.psr := rfl
@[simp] theorem alatChecked_umGroup : (s.alatChecked r f va).umGroup = s.umGroup := rfl
@[simp] theorem alatChecked_cr : (s.alatChecked r f va).cr = s.cr := rfl
@[simp] theorem alatChecked_itc : (s.alatChecked r f va).itc = s.itc := rfl
@[simp] theorem alatChecked_lastBundle : (s.alatChecked r f va).lastBundle = s.lastBundle := rfl
@[simp] theorem alatChecked_rr : (s.alatChecked r f va).rr = s.rr := rfl
@[simp] theorem alatChecked_pkr : (s.alatChecked r f va).pkr = s.pkr := rfl
@[simp] theorem alatChecked_ibr : (s.alatChecked r f va).ibr = s.ibr := rfl
@[simp] theorem alatChecked_dbr : (s.alatChecked r f va).dbr = s.dbr := rfl
@[simp] theorem alatChecked_pmc : (s.alatChecked r f va).pmc = s.pmc := rfl
@[simp] theorem alatChecked_pmd : (s.alatChecked r f va).pmd = s.pmd := rfl
@[simp] theorem alatChecked_itr : (s.alatChecked r f va).itr = s.itr := rfl
@[simp] theorem alatChecked_dtr : (s.alatChecked r f va).dtr = s.dtr := rfl
@[simp] theorem alatChecked_itcache : (s.alatChecked r f va).itcache = s.itcache := rfl
@[simp] theorem alatChecked_dtcache : (s.alatChecked r f va).dtcache = s.dtcache := rfl
@[simp] theorem alatChecked_l1itlb : (s.alatChecked r f va).l1itlb = s.l1itlb := rfl
@[simp] theorem alatChecked_l1dtlb : (s.alatChecked r f va).l1dtlb = s.l1dtlb := rfl
@[simp] theorem alatChecked_mem : (s.alatChecked r f va).mem = s.mem := rfl
@[simp] theorem alatChecked_alat : (s.alatChecked r f va).alat = s.alat := rfl
@[simp] theorem alatChecked_wcb : (s.alatChecked r f va).wcb = s.wcb := rfl
@[simp] theorem alatChecked_stale : (s.alatChecked r f va).stale = s.stale := rfl
@[simp] theorem alatChecked_deferral : (s.alatChecked r f va).deferral = s.deferral := rfl
@[simp] theorem alatChecked_groupStart : (s.alatChecked r f va).groupStart = s.groupStart := rfl
@[simp] theorem alatChecked_grpWrites : (s.alatChecked r f va).grpWrites = s.grpWrites := rfl
@[simp] theorem alatChecked_grpPrAlu : (s.alatChecked r f va).grpPrAlu = s.grpPrAlu := rfl
@[simp] theorem alatChecked_grpPrAnd : (s.alatChecked r f va).grpPrAnd = s.grpPrAnd := rfl
@[simp] theorem alatChecked_grpPrOr : (s.alatChecked r f va).grpPrOr = s.grpPrOr := rfl
@[simp] theorem alatChecked_grpPrCmp : (s.alatChecked r f va).grpPrCmp = s.grpPrCmp := rfl
@[simp] theorem alatChecked_grpAlatSets : (s.alatChecked r f va).grpAlatSets = s.grpAlatSets := rfl
@[simp] theorem alatChecked_grpAlatInval : (s.alatChecked r f va).grpAlatInval = s.grpAlatInval := rfl
@[simp] theorem alatChecked_grpAlatInvalAll : (s.alatChecked r f va).grpAlatInvalAll = s.grpAlatInvalAll := rfl
@[simp] theorem alatChecked_clkEvents : (s.alatChecked r f va).clkEvents = s.clkEvents := rfl
@[simp] theorem alatChecked_clkVals : (s.alatChecked r f va).clkVals = s.clkVals := rfl
@[simp] theorem alatChecked_clkFr : (s.alatChecked r f va).clkFr = s.clkFr := rfl
@[simp] theorem alatChecked_brBundle : (s.alatChecked r f va).brBundle = s.brBundle := rfl
@[simp] theorem alatChecked_btbPend : (s.alatChecked r f va).btbPend = s.btbPend := rfl
@[simp] theorem alatChecked_bilDue : (s.alatChecked r f va).bilDue = s.bilDue := rfl
@[simp] theorem alatChecked_earWait : (s.alatChecked r f va).earWait = s.earWait := rfl
@[simp] theorem alatChecked_freeCtr : (s.alatChecked r f va).freeCtr = s.freeCtr := rfl

end AlatChecked

section SetUnatBit

variable (s : State) (i : Nat) (v : Bool)

@[simp] theorem setUnatBit_old : (s.setUnatBit i v).old = s.old := rfl
@[simp] theorem setUnatBit_cfm : (s.setUnatBit i v).cfm = s.cfm := rfl
@[simp] theorem setUnatBit_bof : (s.setUnatBit i v).bof = s.bof := rfl
@[simp] theorem setUnatBit_nclean : (s.setUnatBit i v).nclean = s.nclean := rfl
@[simp] theorem setUnatBit_ip : (s.setUnatBit i v).ip = s.ip := rfl
@[simp] theorem setUnatBit_psr : (s.setUnatBit i v).psr = s.psr := rfl
@[simp] theorem setUnatBit_umGroup : (s.setUnatBit i v).umGroup = s.umGroup := rfl
@[simp] theorem setUnatBit_cr : (s.setUnatBit i v).cr = s.cr := rfl
@[simp] theorem setUnatBit_itc : (s.setUnatBit i v).itc = s.itc := rfl
@[simp] theorem setUnatBit_lastBundle : (s.setUnatBit i v).lastBundle = s.lastBundle := rfl
@[simp] theorem setUnatBit_rr : (s.setUnatBit i v).rr = s.rr := rfl
@[simp] theorem setUnatBit_pkr : (s.setUnatBit i v).pkr = s.pkr := rfl
@[simp] theorem setUnatBit_ibr : (s.setUnatBit i v).ibr = s.ibr := rfl
@[simp] theorem setUnatBit_dbr : (s.setUnatBit i v).dbr = s.dbr := rfl
@[simp] theorem setUnatBit_pmc : (s.setUnatBit i v).pmc = s.pmc := rfl
@[simp] theorem setUnatBit_pmd : (s.setUnatBit i v).pmd = s.pmd := rfl
@[simp] theorem setUnatBit_itr : (s.setUnatBit i v).itr = s.itr := rfl
@[simp] theorem setUnatBit_dtr : (s.setUnatBit i v).dtr = s.dtr := rfl
@[simp] theorem setUnatBit_itcache : (s.setUnatBit i v).itcache = s.itcache := rfl
@[simp] theorem setUnatBit_dtcache : (s.setUnatBit i v).dtcache = s.dtcache := rfl
@[simp] theorem setUnatBit_l1itlb : (s.setUnatBit i v).l1itlb = s.l1itlb := rfl
@[simp] theorem setUnatBit_l1dtlb : (s.setUnatBit i v).l1dtlb = s.l1dtlb := rfl
@[simp] theorem setUnatBit_mem : (s.setUnatBit i v).mem = s.mem := rfl
@[simp] theorem setUnatBit_alat : (s.setUnatBit i v).alat = s.alat := rfl
@[simp] theorem setUnatBit_wcb : (s.setUnatBit i v).wcb = s.wcb := rfl
@[simp] theorem setUnatBit_stale : (s.setUnatBit i v).stale = s.stale := rfl
@[simp] theorem setUnatBit_deferral : (s.setUnatBit i v).deferral = s.deferral := rfl
@[simp] theorem setUnatBit_groupStart : (s.setUnatBit i v).groupStart = s.groupStart := rfl
@[simp] theorem setUnatBit_grpPrAlu : (s.setUnatBit i v).grpPrAlu = s.grpPrAlu := rfl
@[simp] theorem setUnatBit_grpPrAnd : (s.setUnatBit i v).grpPrAnd = s.grpPrAnd := rfl
@[simp] theorem setUnatBit_grpPrOr : (s.setUnatBit i v).grpPrOr = s.grpPrOr := rfl
@[simp] theorem setUnatBit_grpPrCmp : (s.setUnatBit i v).grpPrCmp = s.grpPrCmp := rfl
@[simp] theorem setUnatBit_grpAlatSets : (s.setUnatBit i v).grpAlatSets = s.grpAlatSets := rfl
@[simp] theorem setUnatBit_grpAlatChecks : (s.setUnatBit i v).grpAlatChecks = s.grpAlatChecks := rfl
@[simp] theorem setUnatBit_grpAlatInval : (s.setUnatBit i v).grpAlatInval = s.grpAlatInval := rfl
@[simp] theorem setUnatBit_grpAlatInvalAll : (s.setUnatBit i v).grpAlatInvalAll = s.grpAlatInvalAll := rfl
@[simp] theorem setUnatBit_events : (s.setUnatBit i v).events = s.events := rfl
@[simp] theorem setUnatBit_clkEvents : (s.setUnatBit i v).clkEvents = s.clkEvents := rfl
@[simp] theorem setUnatBit_clkVals : (s.setUnatBit i v).clkVals = s.clkVals := rfl
@[simp] theorem setUnatBit_clkFr : (s.setUnatBit i v).clkFr = s.clkFr := rfl
@[simp] theorem setUnatBit_brBundle : (s.setUnatBit i v).brBundle = s.brBundle := rfl
@[simp] theorem setUnatBit_btbPend : (s.setUnatBit i v).btbPend = s.btbPend := rfl
@[simp] theorem setUnatBit_bilDue : (s.setUnatBit i v).bilDue = s.bilDue := rfl
@[simp] theorem setUnatBit_earWait : (s.setUnatBit i v).earWait = s.earWait := rfl
@[simp] theorem setUnatBit_freeCtr : (s.setUnatBit i v).freeCtr = s.freeCtr := rfl

end SetUnatBit

section MoveBspstore

variable (s : State) (a : Word)

@[simp] theorem moveBspstore_old : (s.moveBspstore a).old = s.old := rfl
@[simp] theorem moveBspstore_cfm : (s.moveBspstore a).cfm = s.cfm := rfl
@[simp] theorem moveBspstore_bof : (s.moveBspstore a).bof = s.bof := rfl
@[simp] theorem moveBspstore_nclean : (s.moveBspstore a).nclean = s.nclean := rfl
@[simp] theorem moveBspstore_ip : (s.moveBspstore a).ip = s.ip := rfl
@[simp] theorem moveBspstore_psr : (s.moveBspstore a).psr = s.psr := rfl
@[simp] theorem moveBspstore_umGroup : (s.moveBspstore a).umGroup = s.umGroup := rfl
@[simp] theorem moveBspstore_cr : (s.moveBspstore a).cr = s.cr := rfl
@[simp] theorem moveBspstore_itc : (s.moveBspstore a).itc = s.itc := rfl
@[simp] theorem moveBspstore_lastBundle : (s.moveBspstore a).lastBundle = s.lastBundle := rfl
@[simp] theorem moveBspstore_rr : (s.moveBspstore a).rr = s.rr := rfl
@[simp] theorem moveBspstore_pkr : (s.moveBspstore a).pkr = s.pkr := rfl
@[simp] theorem moveBspstore_ibr : (s.moveBspstore a).ibr = s.ibr := rfl
@[simp] theorem moveBspstore_dbr : (s.moveBspstore a).dbr = s.dbr := rfl
@[simp] theorem moveBspstore_pmc : (s.moveBspstore a).pmc = s.pmc := rfl
@[simp] theorem moveBspstore_pmd : (s.moveBspstore a).pmd = s.pmd := rfl
@[simp] theorem moveBspstore_itr : (s.moveBspstore a).itr = s.itr := rfl
@[simp] theorem moveBspstore_dtr : (s.moveBspstore a).dtr = s.dtr := rfl
@[simp] theorem moveBspstore_itcache : (s.moveBspstore a).itcache = s.itcache := rfl
@[simp] theorem moveBspstore_dtcache : (s.moveBspstore a).dtcache = s.dtcache := rfl
@[simp] theorem moveBspstore_l1itlb : (s.moveBspstore a).l1itlb = s.l1itlb := rfl
@[simp] theorem moveBspstore_l1dtlb : (s.moveBspstore a).l1dtlb = s.l1dtlb := rfl
@[simp] theorem moveBspstore_mem : (s.moveBspstore a).mem = s.mem := rfl
@[simp] theorem moveBspstore_alat : (s.moveBspstore a).alat = s.alat := rfl
@[simp] theorem moveBspstore_wcb : (s.moveBspstore a).wcb = s.wcb := rfl
@[simp] theorem moveBspstore_stale : (s.moveBspstore a).stale = s.stale := rfl
@[simp] theorem moveBspstore_deferral : (s.moveBspstore a).deferral = s.deferral := rfl
@[simp] theorem moveBspstore_groupStart : (s.moveBspstore a).groupStart = s.groupStart := rfl
@[simp] theorem moveBspstore_grpWrites : (s.moveBspstore a).grpWrites = s.grpWrites := rfl
@[simp] theorem moveBspstore_grpPrAlu : (s.moveBspstore a).grpPrAlu = s.grpPrAlu := rfl
@[simp] theorem moveBspstore_grpPrAnd : (s.moveBspstore a).grpPrAnd = s.grpPrAnd := rfl
@[simp] theorem moveBspstore_grpPrOr : (s.moveBspstore a).grpPrOr = s.grpPrOr := rfl
@[simp] theorem moveBspstore_grpPrCmp : (s.moveBspstore a).grpPrCmp = s.grpPrCmp := rfl
@[simp] theorem moveBspstore_grpAlatSets : (s.moveBspstore a).grpAlatSets = s.grpAlatSets := rfl
@[simp] theorem moveBspstore_grpAlatChecks : (s.moveBspstore a).grpAlatChecks = s.grpAlatChecks := rfl
@[simp] theorem moveBspstore_grpAlatInval : (s.moveBspstore a).grpAlatInval = s.grpAlatInval := rfl
@[simp] theorem moveBspstore_grpAlatInvalAll : (s.moveBspstore a).grpAlatInvalAll = s.grpAlatInvalAll := rfl
@[simp] theorem moveBspstore_events : (s.moveBspstore a).events = s.events := rfl
@[simp] theorem moveBspstore_clkEvents : (s.moveBspstore a).clkEvents = s.clkEvents := rfl
@[simp] theorem moveBspstore_clkVals : (s.moveBspstore a).clkVals = s.clkVals := rfl
@[simp] theorem moveBspstore_clkFr : (s.moveBspstore a).clkFr = s.clkFr := rfl
@[simp] theorem moveBspstore_brBundle : (s.moveBspstore a).brBundle = s.brBundle := rfl
@[simp] theorem moveBspstore_btbPend : (s.moveBspstore a).btbPend = s.btbPend := rfl
@[simp] theorem moveBspstore_bilDue : (s.moveBspstore a).bilDue = s.bilDue := rfl
@[simp] theorem moveBspstore_earWait : (s.moveBspstore a).earWait = s.earWait := rfl
@[simp] theorem moveBspstore_freeCtr : (s.moveBspstore a).freeCtr = s.freeCtr := rfl

end MoveBspstore

section WithRnat

variable (s : State) (v : Word)

@[simp] theorem withRnat_old : (s.withRnat v).old = s.old := rfl
@[simp] theorem withRnat_cfm : (s.withRnat v).cfm = s.cfm := rfl
@[simp] theorem withRnat_bof : (s.withRnat v).bof = s.bof := rfl
@[simp] theorem withRnat_nclean : (s.withRnat v).nclean = s.nclean := rfl
@[simp] theorem withRnat_ip : (s.withRnat v).ip = s.ip := rfl
@[simp] theorem withRnat_psr : (s.withRnat v).psr = s.psr := rfl
@[simp] theorem withRnat_umGroup : (s.withRnat v).umGroup = s.umGroup := rfl
@[simp] theorem withRnat_cr : (s.withRnat v).cr = s.cr := rfl
@[simp] theorem withRnat_itc : (s.withRnat v).itc = s.itc := rfl
@[simp] theorem withRnat_lastBundle : (s.withRnat v).lastBundle = s.lastBundle := rfl
@[simp] theorem withRnat_rr : (s.withRnat v).rr = s.rr := rfl
@[simp] theorem withRnat_pkr : (s.withRnat v).pkr = s.pkr := rfl
@[simp] theorem withRnat_ibr : (s.withRnat v).ibr = s.ibr := rfl
@[simp] theorem withRnat_dbr : (s.withRnat v).dbr = s.dbr := rfl
@[simp] theorem withRnat_pmc : (s.withRnat v).pmc = s.pmc := rfl
@[simp] theorem withRnat_pmd : (s.withRnat v).pmd = s.pmd := rfl
@[simp] theorem withRnat_itr : (s.withRnat v).itr = s.itr := rfl
@[simp] theorem withRnat_dtr : (s.withRnat v).dtr = s.dtr := rfl
@[simp] theorem withRnat_itcache : (s.withRnat v).itcache = s.itcache := rfl
@[simp] theorem withRnat_dtcache : (s.withRnat v).dtcache = s.dtcache := rfl
@[simp] theorem withRnat_l1itlb : (s.withRnat v).l1itlb = s.l1itlb := rfl
@[simp] theorem withRnat_l1dtlb : (s.withRnat v).l1dtlb = s.l1dtlb := rfl
@[simp] theorem withRnat_mem : (s.withRnat v).mem = s.mem := rfl
@[simp] theorem withRnat_alat : (s.withRnat v).alat = s.alat := rfl
@[simp] theorem withRnat_wcb : (s.withRnat v).wcb = s.wcb := rfl
@[simp] theorem withRnat_stale : (s.withRnat v).stale = s.stale := rfl
@[simp] theorem withRnat_deferral : (s.withRnat v).deferral = s.deferral := rfl
@[simp] theorem withRnat_groupStart : (s.withRnat v).groupStart = s.groupStart := rfl
@[simp] theorem withRnat_grpWrites : (s.withRnat v).grpWrites = s.grpWrites := rfl
@[simp] theorem withRnat_grpPrAlu : (s.withRnat v).grpPrAlu = s.grpPrAlu := rfl
@[simp] theorem withRnat_grpPrAnd : (s.withRnat v).grpPrAnd = s.grpPrAnd := rfl
@[simp] theorem withRnat_grpPrOr : (s.withRnat v).grpPrOr = s.grpPrOr := rfl
@[simp] theorem withRnat_grpPrCmp : (s.withRnat v).grpPrCmp = s.grpPrCmp := rfl
@[simp] theorem withRnat_grpAlatSets : (s.withRnat v).grpAlatSets = s.grpAlatSets := rfl
@[simp] theorem withRnat_grpAlatChecks : (s.withRnat v).grpAlatChecks = s.grpAlatChecks := rfl
@[simp] theorem withRnat_grpAlatInval : (s.withRnat v).grpAlatInval = s.grpAlatInval := rfl
@[simp] theorem withRnat_grpAlatInvalAll : (s.withRnat v).grpAlatInvalAll = s.grpAlatInvalAll := rfl
@[simp] theorem withRnat_events : (s.withRnat v).events = s.events := rfl
@[simp] theorem withRnat_clkEvents : (s.withRnat v).clkEvents = s.clkEvents := rfl
@[simp] theorem withRnat_clkVals : (s.withRnat v).clkVals = s.clkVals := rfl
@[simp] theorem withRnat_clkFr : (s.withRnat v).clkFr = s.clkFr := rfl
@[simp] theorem withRnat_brBundle : (s.withRnat v).brBundle = s.brBundle := rfl
@[simp] theorem withRnat_btbPend : (s.withRnat v).btbPend = s.btbPend := rfl
@[simp] theorem withRnat_bilDue : (s.withRnat v).bilDue = s.bilDue := rfl
@[simp] theorem withRnat_earWait : (s.withRnat v).earWait = s.earWait := rfl
@[simp] theorem withRnat_freeCtr : (s.withRnat v).freeCtr = s.freeCtr := rfl

end WithRnat

section WithBsp

variable (s : State) (a : Word)

@[simp] theorem withBsp_old : (s.withBsp a).old = s.old := rfl
@[simp] theorem withBsp_cfm : (s.withBsp a).cfm = s.cfm := rfl
@[simp] theorem withBsp_bof : (s.withBsp a).bof = s.bof := rfl
@[simp] theorem withBsp_nclean : (s.withBsp a).nclean = s.nclean := rfl
@[simp] theorem withBsp_ip : (s.withBsp a).ip = s.ip := rfl
@[simp] theorem withBsp_psr : (s.withBsp a).psr = s.psr := rfl
@[simp] theorem withBsp_umGroup : (s.withBsp a).umGroup = s.umGroup := rfl
@[simp] theorem withBsp_cr : (s.withBsp a).cr = s.cr := rfl
@[simp] theorem withBsp_itc : (s.withBsp a).itc = s.itc := rfl
@[simp] theorem withBsp_lastBundle : (s.withBsp a).lastBundle = s.lastBundle := rfl
@[simp] theorem withBsp_rr : (s.withBsp a).rr = s.rr := rfl
@[simp] theorem withBsp_pkr : (s.withBsp a).pkr = s.pkr := rfl
@[simp] theorem withBsp_ibr : (s.withBsp a).ibr = s.ibr := rfl
@[simp] theorem withBsp_dbr : (s.withBsp a).dbr = s.dbr := rfl
@[simp] theorem withBsp_pmc : (s.withBsp a).pmc = s.pmc := rfl
@[simp] theorem withBsp_pmd : (s.withBsp a).pmd = s.pmd := rfl
@[simp] theorem withBsp_itr : (s.withBsp a).itr = s.itr := rfl
@[simp] theorem withBsp_dtr : (s.withBsp a).dtr = s.dtr := rfl
@[simp] theorem withBsp_itcache : (s.withBsp a).itcache = s.itcache := rfl
@[simp] theorem withBsp_dtcache : (s.withBsp a).dtcache = s.dtcache := rfl
@[simp] theorem withBsp_l1itlb : (s.withBsp a).l1itlb = s.l1itlb := rfl
@[simp] theorem withBsp_l1dtlb : (s.withBsp a).l1dtlb = s.l1dtlb := rfl
@[simp] theorem withBsp_mem : (s.withBsp a).mem = s.mem := rfl
@[simp] theorem withBsp_alat : (s.withBsp a).alat = s.alat := rfl
@[simp] theorem withBsp_wcb : (s.withBsp a).wcb = s.wcb := rfl
@[simp] theorem withBsp_stale : (s.withBsp a).stale = s.stale := rfl
@[simp] theorem withBsp_deferral : (s.withBsp a).deferral = s.deferral := rfl
@[simp] theorem withBsp_groupStart : (s.withBsp a).groupStart = s.groupStart := rfl
@[simp] theorem withBsp_grpWrites : (s.withBsp a).grpWrites = s.grpWrites := rfl
@[simp] theorem withBsp_grpPrAlu : (s.withBsp a).grpPrAlu = s.grpPrAlu := rfl
@[simp] theorem withBsp_grpPrAnd : (s.withBsp a).grpPrAnd = s.grpPrAnd := rfl
@[simp] theorem withBsp_grpPrOr : (s.withBsp a).grpPrOr = s.grpPrOr := rfl
@[simp] theorem withBsp_grpPrCmp : (s.withBsp a).grpPrCmp = s.grpPrCmp := rfl
@[simp] theorem withBsp_grpAlatSets : (s.withBsp a).grpAlatSets = s.grpAlatSets := rfl
@[simp] theorem withBsp_grpAlatChecks : (s.withBsp a).grpAlatChecks = s.grpAlatChecks := rfl
@[simp] theorem withBsp_grpAlatInval : (s.withBsp a).grpAlatInval = s.grpAlatInval := rfl
@[simp] theorem withBsp_grpAlatInvalAll : (s.withBsp a).grpAlatInvalAll = s.grpAlatInvalAll := rfl
@[simp] theorem withBsp_events : (s.withBsp a).events = s.events := rfl
@[simp] theorem withBsp_clkEvents : (s.withBsp a).clkEvents = s.clkEvents := rfl
@[simp] theorem withBsp_clkVals : (s.withBsp a).clkVals = s.clkVals := rfl
@[simp] theorem withBsp_clkFr : (s.withBsp a).clkFr = s.clkFr := rfl
@[simp] theorem withBsp_brBundle : (s.withBsp a).brBundle = s.brBundle := rfl
@[simp] theorem withBsp_btbPend : (s.withBsp a).btbPend = s.btbPend := rfl
@[simp] theorem withBsp_bilDue : (s.withBsp a).bilDue = s.bilDue := rfl
@[simp] theorem withBsp_earWait : (s.withBsp a).earWait = s.earWait := rfl
@[simp] theorem withBsp_freeCtr : (s.withBsp a).freeCtr = s.freeCtr := rfl

end WithBsp

section SetStacked

variable (s : State) (i : Nat) (v : GReg)

@[simp] theorem setStacked_cfm : (s.setStacked i v).cfm = s.cfm := rfl
@[simp] theorem setStacked_bof : (s.setStacked i v).bof = s.bof := rfl
@[simp] theorem setStacked_nclean : (s.setStacked i v).nclean = s.nclean := rfl
@[simp] theorem setStacked_ip : (s.setStacked i v).ip = s.ip := rfl
@[simp] theorem setStacked_psr : (s.setStacked i v).psr = s.psr := rfl
@[simp] theorem setStacked_umGroup : (s.setStacked i v).umGroup = s.umGroup := rfl
@[simp] theorem setStacked_cr : (s.setStacked i v).cr = s.cr := rfl
@[simp] theorem setStacked_itc : (s.setStacked i v).itc = s.itc := rfl
@[simp] theorem setStacked_lastBundle : (s.setStacked i v).lastBundle = s.lastBundle := rfl
@[simp] theorem setStacked_rr : (s.setStacked i v).rr = s.rr := rfl
@[simp] theorem setStacked_pkr : (s.setStacked i v).pkr = s.pkr := rfl
@[simp] theorem setStacked_ibr : (s.setStacked i v).ibr = s.ibr := rfl
@[simp] theorem setStacked_dbr : (s.setStacked i v).dbr = s.dbr := rfl
@[simp] theorem setStacked_pmc : (s.setStacked i v).pmc = s.pmc := rfl
@[simp] theorem setStacked_pmd : (s.setStacked i v).pmd = s.pmd := rfl
@[simp] theorem setStacked_itr : (s.setStacked i v).itr = s.itr := rfl
@[simp] theorem setStacked_dtr : (s.setStacked i v).dtr = s.dtr := rfl
@[simp] theorem setStacked_itcache : (s.setStacked i v).itcache = s.itcache := rfl
@[simp] theorem setStacked_dtcache : (s.setStacked i v).dtcache = s.dtcache := rfl
@[simp] theorem setStacked_l1itlb : (s.setStacked i v).l1itlb = s.l1itlb := rfl
@[simp] theorem setStacked_l1dtlb : (s.setStacked i v).l1dtlb = s.l1dtlb := rfl
@[simp] theorem setStacked_mem : (s.setStacked i v).mem = s.mem := rfl
@[simp] theorem setStacked_alat : (s.setStacked i v).alat = s.alat := rfl
@[simp] theorem setStacked_wcb : (s.setStacked i v).wcb = s.wcb := rfl
@[simp] theorem setStacked_stale : (s.setStacked i v).stale = s.stale := rfl
@[simp] theorem setStacked_deferral : (s.setStacked i v).deferral = s.deferral := rfl
@[simp] theorem setStacked_groupStart : (s.setStacked i v).groupStart = s.groupStart := rfl
@[simp] theorem setStacked_grpWrites : (s.setStacked i v).grpWrites = s.grpWrites := rfl
@[simp] theorem setStacked_grpPrAlu : (s.setStacked i v).grpPrAlu = s.grpPrAlu := rfl
@[simp] theorem setStacked_grpPrAnd : (s.setStacked i v).grpPrAnd = s.grpPrAnd := rfl
@[simp] theorem setStacked_grpPrOr : (s.setStacked i v).grpPrOr = s.grpPrOr := rfl
@[simp] theorem setStacked_grpPrCmp : (s.setStacked i v).grpPrCmp = s.grpPrCmp := rfl
@[simp] theorem setStacked_grpAlatSets : (s.setStacked i v).grpAlatSets = s.grpAlatSets := rfl
@[simp] theorem setStacked_grpAlatChecks : (s.setStacked i v).grpAlatChecks = s.grpAlatChecks := rfl
@[simp] theorem setStacked_grpAlatInval : (s.setStacked i v).grpAlatInval = s.grpAlatInval := rfl
@[simp] theorem setStacked_grpAlatInvalAll : (s.setStacked i v).grpAlatInvalAll = s.grpAlatInvalAll := rfl
@[simp] theorem setStacked_events : (s.setStacked i v).events = s.events := rfl
@[simp] theorem setStacked_clkEvents : (s.setStacked i v).clkEvents = s.clkEvents := rfl
@[simp] theorem setStacked_clkVals : (s.setStacked i v).clkVals = s.clkVals := rfl
@[simp] theorem setStacked_clkFr : (s.setStacked i v).clkFr = s.clkFr := rfl
@[simp] theorem setStacked_brBundle : (s.setStacked i v).brBundle = s.brBundle := rfl
@[simp] theorem setStacked_btbPend : (s.setStacked i v).btbPend = s.btbPend := rfl
@[simp] theorem setStacked_bilDue : (s.setStacked i v).bilDue = s.bilDue := rfl
@[simp] theorem setStacked_earWait : (s.setStacked i v).earWait = s.earWait := rfl
@[simp] theorem setStacked_freeCtr : (s.setStacked i v).freeCtr = s.freeCtr := rfl

end SetStacked

section SetFpsrPart

variable (s : State) {w : Nat} (r : WrittenReg) (k : WriteKind) (b : Nat) (v : BitVec w)

@[simp] theorem setFpsrPart_old : (s.setFpsrPart r k b v).old = s.old := rfl
@[simp] theorem setFpsrPart_cfm : (s.setFpsrPart r k b v).cfm = s.cfm := rfl
@[simp] theorem setFpsrPart_bof : (s.setFpsrPart r k b v).bof = s.bof := rfl
@[simp] theorem setFpsrPart_nclean : (s.setFpsrPart r k b v).nclean = s.nclean := rfl
@[simp] theorem setFpsrPart_ip : (s.setFpsrPart r k b v).ip = s.ip := rfl
@[simp] theorem setFpsrPart_psr : (s.setFpsrPart r k b v).psr = s.psr := rfl
@[simp] theorem setFpsrPart_umGroup : (s.setFpsrPart r k b v).umGroup = s.umGroup := rfl
@[simp] theorem setFpsrPart_cr : (s.setFpsrPart r k b v).cr = s.cr := rfl
@[simp] theorem setFpsrPart_itc : (s.setFpsrPart r k b v).itc = s.itc := rfl
@[simp] theorem setFpsrPart_lastBundle : (s.setFpsrPart r k b v).lastBundle = s.lastBundle := rfl
@[simp] theorem setFpsrPart_rr : (s.setFpsrPart r k b v).rr = s.rr := rfl
@[simp] theorem setFpsrPart_pkr : (s.setFpsrPart r k b v).pkr = s.pkr := rfl
@[simp] theorem setFpsrPart_ibr : (s.setFpsrPart r k b v).ibr = s.ibr := rfl
@[simp] theorem setFpsrPart_dbr : (s.setFpsrPart r k b v).dbr = s.dbr := rfl
@[simp] theorem setFpsrPart_pmc : (s.setFpsrPart r k b v).pmc = s.pmc := rfl
@[simp] theorem setFpsrPart_pmd : (s.setFpsrPart r k b v).pmd = s.pmd := rfl
@[simp] theorem setFpsrPart_itr : (s.setFpsrPart r k b v).itr = s.itr := rfl
@[simp] theorem setFpsrPart_dtr : (s.setFpsrPart r k b v).dtr = s.dtr := rfl
@[simp] theorem setFpsrPart_itcache : (s.setFpsrPart r k b v).itcache = s.itcache := rfl
@[simp] theorem setFpsrPart_dtcache : (s.setFpsrPart r k b v).dtcache = s.dtcache := rfl
@[simp] theorem setFpsrPart_l1itlb : (s.setFpsrPart r k b v).l1itlb = s.l1itlb := rfl
@[simp] theorem setFpsrPart_l1dtlb : (s.setFpsrPart r k b v).l1dtlb = s.l1dtlb := rfl
@[simp] theorem setFpsrPart_mem : (s.setFpsrPart r k b v).mem = s.mem := rfl
@[simp] theorem setFpsrPart_alat : (s.setFpsrPart r k b v).alat = s.alat := rfl
@[simp] theorem setFpsrPart_wcb : (s.setFpsrPart r k b v).wcb = s.wcb := rfl
@[simp] theorem setFpsrPart_stale : (s.setFpsrPart r k b v).stale = s.stale := rfl
@[simp] theorem setFpsrPart_deferral : (s.setFpsrPart r k b v).deferral = s.deferral := rfl
@[simp] theorem setFpsrPart_groupStart : (s.setFpsrPart r k b v).groupStart = s.groupStart := rfl
@[simp] theorem setFpsrPart_grpPrAlu : (s.setFpsrPart r k b v).grpPrAlu = s.grpPrAlu := rfl
@[simp] theorem setFpsrPart_grpPrAnd : (s.setFpsrPart r k b v).grpPrAnd = s.grpPrAnd := rfl
@[simp] theorem setFpsrPart_grpPrOr : (s.setFpsrPart r k b v).grpPrOr = s.grpPrOr := rfl
@[simp] theorem setFpsrPart_grpPrCmp : (s.setFpsrPart r k b v).grpPrCmp = s.grpPrCmp := rfl
@[simp] theorem setFpsrPart_grpAlatSets : (s.setFpsrPart r k b v).grpAlatSets = s.grpAlatSets := rfl
@[simp] theorem setFpsrPart_grpAlatChecks : (s.setFpsrPart r k b v).grpAlatChecks = s.grpAlatChecks := rfl
@[simp] theorem setFpsrPart_grpAlatInval : (s.setFpsrPart r k b v).grpAlatInval = s.grpAlatInval := rfl
@[simp] theorem setFpsrPart_grpAlatInvalAll : (s.setFpsrPart r k b v).grpAlatInvalAll = s.grpAlatInvalAll := rfl
@[simp] theorem setFpsrPart_events : (s.setFpsrPart r k b v).events = s.events := rfl
@[simp] theorem setFpsrPart_clkEvents : (s.setFpsrPart r k b v).clkEvents = s.clkEvents := rfl
@[simp] theorem setFpsrPart_clkVals : (s.setFpsrPart r k b v).clkVals = s.clkVals := rfl
@[simp] theorem setFpsrPart_clkFr : (s.setFpsrPart r k b v).clkFr = s.clkFr := rfl
@[simp] theorem setFpsrPart_brBundle : (s.setFpsrPart r k b v).brBundle = s.brBundle := rfl
@[simp] theorem setFpsrPart_btbPend : (s.setFpsrPart r k b v).btbPend = s.btbPend := rfl
@[simp] theorem setFpsrPart_bilDue : (s.setFpsrPart r k b v).bilDue = s.bilDue := rfl
@[simp] theorem setFpsrPart_earWait : (s.setFpsrPart r k b v).earWait = s.earWait := rfl
@[simp] theorem setFpsrPart_freeCtr : (s.setFpsrPart r k b v).freeCtr = s.freeCtr := rfl

end SetFpsrPart

section PutPsr

variable (s : State) (m v : Word) (k : WriteKind)

@[simp] theorem putPsr_cur : (s.putPsr m v k).cur = s.cur := rfl
@[simp] theorem putPsr_old : (s.putPsr m v k).old = s.old := rfl
@[simp] theorem putPsr_cfm : (s.putPsr m v k).cfm = s.cfm := rfl
@[simp] theorem putPsr_bof : (s.putPsr m v k).bof = s.bof := rfl
@[simp] theorem putPsr_nclean : (s.putPsr m v k).nclean = s.nclean := rfl
@[simp] theorem putPsr_ip : (s.putPsr m v k).ip = s.ip := rfl
@[simp] theorem putPsr_umGroup : (s.putPsr m v k).umGroup = s.umGroup := rfl
@[simp] theorem putPsr_cr : (s.putPsr m v k).cr = s.cr := rfl
@[simp] theorem putPsr_itc : (s.putPsr m v k).itc = s.itc := rfl
@[simp] theorem putPsr_lastBundle : (s.putPsr m v k).lastBundle = s.lastBundle := rfl
@[simp] theorem putPsr_rr : (s.putPsr m v k).rr = s.rr := rfl
@[simp] theorem putPsr_pkr : (s.putPsr m v k).pkr = s.pkr := rfl
@[simp] theorem putPsr_ibr : (s.putPsr m v k).ibr = s.ibr := rfl
@[simp] theorem putPsr_dbr : (s.putPsr m v k).dbr = s.dbr := rfl
@[simp] theorem putPsr_pmc : (s.putPsr m v k).pmc = s.pmc := rfl
@[simp] theorem putPsr_pmd : (s.putPsr m v k).pmd = s.pmd := rfl
@[simp] theorem putPsr_itr : (s.putPsr m v k).itr = s.itr := rfl
@[simp] theorem putPsr_dtr : (s.putPsr m v k).dtr = s.dtr := rfl
@[simp] theorem putPsr_itcache : (s.putPsr m v k).itcache = s.itcache := rfl
@[simp] theorem putPsr_dtcache : (s.putPsr m v k).dtcache = s.dtcache := rfl
@[simp] theorem putPsr_l1itlb : (s.putPsr m v k).l1itlb = s.l1itlb := rfl
@[simp] theorem putPsr_l1dtlb : (s.putPsr m v k).l1dtlb = s.l1dtlb := rfl
@[simp] theorem putPsr_mem : (s.putPsr m v k).mem = s.mem := rfl
@[simp] theorem putPsr_alat : (s.putPsr m v k).alat = s.alat := rfl
@[simp] theorem putPsr_wcb : (s.putPsr m v k).wcb = s.wcb := rfl
@[simp] theorem putPsr_stale : (s.putPsr m v k).stale = s.stale := rfl
@[simp] theorem putPsr_deferral : (s.putPsr m v k).deferral = s.deferral := rfl
@[simp] theorem putPsr_groupStart : (s.putPsr m v k).groupStart = s.groupStart := rfl
@[simp] theorem putPsr_grpPrAlu : (s.putPsr m v k).grpPrAlu = s.grpPrAlu := rfl
@[simp] theorem putPsr_grpPrAnd : (s.putPsr m v k).grpPrAnd = s.grpPrAnd := rfl
@[simp] theorem putPsr_grpPrOr : (s.putPsr m v k).grpPrOr = s.grpPrOr := rfl
@[simp] theorem putPsr_grpPrCmp : (s.putPsr m v k).grpPrCmp = s.grpPrCmp := rfl
@[simp] theorem putPsr_grpAlatSets : (s.putPsr m v k).grpAlatSets = s.grpAlatSets := rfl
@[simp] theorem putPsr_grpAlatChecks : (s.putPsr m v k).grpAlatChecks = s.grpAlatChecks := rfl
@[simp] theorem putPsr_grpAlatInval : (s.putPsr m v k).grpAlatInval = s.grpAlatInval := rfl
@[simp] theorem putPsr_grpAlatInvalAll : (s.putPsr m v k).grpAlatInvalAll = s.grpAlatInvalAll := rfl
@[simp] theorem putPsr_events : (s.putPsr m v k).events = s.events := rfl
@[simp] theorem putPsr_clkEvents : (s.putPsr m v k).clkEvents = s.clkEvents := rfl
@[simp] theorem putPsr_clkVals : (s.putPsr m v k).clkVals = s.clkVals := rfl
@[simp] theorem putPsr_clkFr : (s.putPsr m v k).clkFr = s.clkFr := rfl
@[simp] theorem putPsr_brBundle : (s.putPsr m v k).brBundle = s.brBundle := rfl
@[simp] theorem putPsr_btbPend : (s.putPsr m v k).btbPend = s.btbPend := rfl
@[simp] theorem putPsr_bilDue : (s.putPsr m v k).bilDue = s.bilDue := rfl
@[simp] theorem putPsr_earWait : (s.putPsr m v k).earWait = s.earWait := rfl
@[simp] theorem putPsr_freeCtr : (s.putPsr m v k).freeCtr = s.freeCtr := rfl

end PutPsr

section Rotate

variable (s : State)

@[simp] theorem rotate_cur : (s.rotate).cur = s.cur := rfl
@[simp] theorem rotate_old : (s.rotate).old = s.old := rfl
@[simp] theorem rotate_bof : (s.rotate).bof = s.bof := rfl
@[simp] theorem rotate_nclean : (s.rotate).nclean = s.nclean := rfl
@[simp] theorem rotate_ip : (s.rotate).ip = s.ip := rfl
@[simp] theorem rotate_psr : (s.rotate).psr = s.psr := rfl
@[simp] theorem rotate_umGroup : (s.rotate).umGroup = s.umGroup := rfl
@[simp] theorem rotate_cr : (s.rotate).cr = s.cr := rfl
@[simp] theorem rotate_itc : (s.rotate).itc = s.itc := rfl
@[simp] theorem rotate_lastBundle : (s.rotate).lastBundle = s.lastBundle := rfl
@[simp] theorem rotate_rr : (s.rotate).rr = s.rr := rfl
@[simp] theorem rotate_pkr : (s.rotate).pkr = s.pkr := rfl
@[simp] theorem rotate_ibr : (s.rotate).ibr = s.ibr := rfl
@[simp] theorem rotate_dbr : (s.rotate).dbr = s.dbr := rfl
@[simp] theorem rotate_pmc : (s.rotate).pmc = s.pmc := rfl
@[simp] theorem rotate_pmd : (s.rotate).pmd = s.pmd := rfl
@[simp] theorem rotate_itr : (s.rotate).itr = s.itr := rfl
@[simp] theorem rotate_dtr : (s.rotate).dtr = s.dtr := rfl
@[simp] theorem rotate_itcache : (s.rotate).itcache = s.itcache := rfl
@[simp] theorem rotate_dtcache : (s.rotate).dtcache = s.dtcache := rfl
@[simp] theorem rotate_l1itlb : (s.rotate).l1itlb = s.l1itlb := rfl
@[simp] theorem rotate_l1dtlb : (s.rotate).l1dtlb = s.l1dtlb := rfl
@[simp] theorem rotate_mem : (s.rotate).mem = s.mem := rfl
@[simp] theorem rotate_alat : (s.rotate).alat = s.alat := rfl
@[simp] theorem rotate_wcb : (s.rotate).wcb = s.wcb := rfl
@[simp] theorem rotate_stale : (s.rotate).stale = s.stale := rfl
@[simp] theorem rotate_deferral : (s.rotate).deferral = s.deferral := rfl
@[simp] theorem rotate_groupStart : (s.rotate).groupStart = s.groupStart := rfl
@[simp] theorem rotate_grpWrites : (s.rotate).grpWrites = s.grpWrites := rfl
@[simp] theorem rotate_grpPrAlu : (s.rotate).grpPrAlu = s.grpPrAlu := rfl
@[simp] theorem rotate_grpPrAnd : (s.rotate).grpPrAnd = s.grpPrAnd := rfl
@[simp] theorem rotate_grpPrOr : (s.rotate).grpPrOr = s.grpPrOr := rfl
@[simp] theorem rotate_grpPrCmp : (s.rotate).grpPrCmp = s.grpPrCmp := rfl
@[simp] theorem rotate_grpAlatSets : (s.rotate).grpAlatSets = s.grpAlatSets := rfl
@[simp] theorem rotate_grpAlatChecks : (s.rotate).grpAlatChecks = s.grpAlatChecks := rfl
@[simp] theorem rotate_grpAlatInval : (s.rotate).grpAlatInval = s.grpAlatInval := rfl
@[simp] theorem rotate_grpAlatInvalAll : (s.rotate).grpAlatInvalAll = s.grpAlatInvalAll := rfl
@[simp] theorem rotate_events : (s.rotate).events = s.events := rfl
@[simp] theorem rotate_clkEvents : (s.rotate).clkEvents = s.clkEvents := rfl
@[simp] theorem rotate_clkVals : (s.rotate).clkVals = s.clkVals := rfl
@[simp] theorem rotate_clkFr : (s.rotate).clkFr = s.clkFr := rfl
@[simp] theorem rotate_brBundle : (s.rotate).brBundle = s.brBundle := rfl
@[simp] theorem rotate_btbPend : (s.rotate).btbPend = s.btbPend := rfl
@[simp] theorem rotate_bilDue : (s.rotate).bilDue = s.bilDue := rfl
@[simp] theorem rotate_earWait : (s.rotate).earWait = s.earWait := rfl
@[simp] theorem rotate_freeCtr : (s.rotate).freeCtr = s.freeCtr := rfl

end Rotate

section Predicates

variable (s : State)

@[simp] theorem notePr_cur (c : PrClass) (m : Word) : (s.notePr c m).cur = s.cur := by
  cases c <;> rfl
@[simp] theorem notePr_old (c : PrClass) (m : Word) : (s.notePr c m).old = s.old := by
  cases c <;> rfl
@[simp] theorem notePr_cfm (c : PrClass) (m : Word) : (s.notePr c m).cfm = s.cfm := by
  cases c <;> rfl
@[simp] theorem notePr_bof (c : PrClass) (m : Word) : (s.notePr c m).bof = s.bof := by
  cases c <;> rfl
@[simp] theorem notePr_nclean (c : PrClass) (m : Word) : (s.notePr c m).nclean = s.nclean := by
  cases c <;> rfl
@[simp] theorem notePr_ip (c : PrClass) (m : Word) : (s.notePr c m).ip = s.ip := by
  cases c <;> rfl
@[simp] theorem notePr_psr (c : PrClass) (m : Word) : (s.notePr c m).psr = s.psr := by
  cases c <;> rfl
@[simp] theorem notePr_umGroup (c : PrClass) (m : Word) : (s.notePr c m).umGroup = s.umGroup := by
  cases c <;> rfl
@[simp] theorem notePr_cr (c : PrClass) (m : Word) : (s.notePr c m).cr = s.cr := by
  cases c <;> rfl
@[simp] theorem notePr_itc (c : PrClass) (m : Word) : (s.notePr c m).itc = s.itc := by
  cases c <;> rfl
@[simp] theorem notePr_lastBundle (c : PrClass) (m : Word) : (s.notePr c m).lastBundle = s.lastBundle := by
  cases c <;> rfl
@[simp] theorem notePr_rr (c : PrClass) (m : Word) : (s.notePr c m).rr = s.rr := by
  cases c <;> rfl
@[simp] theorem notePr_pkr (c : PrClass) (m : Word) : (s.notePr c m).pkr = s.pkr := by
  cases c <;> rfl
@[simp] theorem notePr_ibr (c : PrClass) (m : Word) : (s.notePr c m).ibr = s.ibr := by
  cases c <;> rfl
@[simp] theorem notePr_dbr (c : PrClass) (m : Word) : (s.notePr c m).dbr = s.dbr := by
  cases c <;> rfl
@[simp] theorem notePr_pmc (c : PrClass) (m : Word) : (s.notePr c m).pmc = s.pmc := by
  cases c <;> rfl
@[simp] theorem notePr_pmd (c : PrClass) (m : Word) : (s.notePr c m).pmd = s.pmd := by
  cases c <;> rfl
@[simp] theorem notePr_itr (c : PrClass) (m : Word) : (s.notePr c m).itr = s.itr := by
  cases c <;> rfl
@[simp] theorem notePr_dtr (c : PrClass) (m : Word) : (s.notePr c m).dtr = s.dtr := by
  cases c <;> rfl
@[simp] theorem notePr_itcache (c : PrClass) (m : Word) : (s.notePr c m).itcache = s.itcache := by
  cases c <;> rfl
@[simp] theorem notePr_dtcache (c : PrClass) (m : Word) : (s.notePr c m).dtcache = s.dtcache := by
  cases c <;> rfl
@[simp] theorem notePr_l1itlb (c : PrClass) (m : Word) : (s.notePr c m).l1itlb = s.l1itlb := by
  cases c <;> rfl
@[simp] theorem notePr_l1dtlb (c : PrClass) (m : Word) : (s.notePr c m).l1dtlb = s.l1dtlb := by
  cases c <;> rfl
@[simp] theorem notePr_mem (c : PrClass) (m : Word) : (s.notePr c m).mem = s.mem := by
  cases c <;> rfl
@[simp] theorem notePr_alat (c : PrClass) (m : Word) : (s.notePr c m).alat = s.alat := by
  cases c <;> rfl
@[simp] theorem notePr_wcb (c : PrClass) (m : Word) : (s.notePr c m).wcb = s.wcb := by
  cases c <;> rfl
@[simp] theorem notePr_stale (c : PrClass) (m : Word) : (s.notePr c m).stale = s.stale := by
  cases c <;> rfl
@[simp] theorem notePr_deferral (c : PrClass) (m : Word) : (s.notePr c m).deferral = s.deferral := by
  cases c <;> rfl
@[simp] theorem notePr_groupStart (c : PrClass) (m : Word) : (s.notePr c m).groupStart = s.groupStart := by
  cases c <;> rfl
@[simp] theorem notePr_grpWrites (c : PrClass) (m : Word) : (s.notePr c m).grpWrites = s.grpWrites := by
  cases c <;> rfl
@[simp] theorem notePr_grpAlatSets (c : PrClass) (m : Word) : (s.notePr c m).grpAlatSets = s.grpAlatSets := by
  cases c <;> rfl
@[simp] theorem notePr_grpAlatChecks (c : PrClass) (m : Word) : (s.notePr c m).grpAlatChecks = s.grpAlatChecks := by
  cases c <;> rfl
@[simp] theorem notePr_grpAlatInval (c : PrClass) (m : Word) : (s.notePr c m).grpAlatInval = s.grpAlatInval := by
  cases c <;> rfl
@[simp] theorem notePr_grpAlatInvalAll (c : PrClass) (m : Word) : (s.notePr c m).grpAlatInvalAll = s.grpAlatInvalAll := by
  cases c <;> rfl
@[simp] theorem notePr_events (c : PrClass) (m : Word) : (s.notePr c m).events = s.events := by
  cases c <;> rfl
@[simp] theorem notePr_clkEvents (c : PrClass) (m : Word) : (s.notePr c m).clkEvents = s.clkEvents := by
  cases c <;> rfl
@[simp] theorem notePr_clkVals (c : PrClass) (m : Word) : (s.notePr c m).clkVals = s.clkVals := by
  cases c <;> rfl
@[simp] theorem notePr_clkFr (c : PrClass) (m : Word) : (s.notePr c m).clkFr = s.clkFr := by
  cases c <;> rfl
@[simp] theorem notePr_brBundle (c : PrClass) (m : Word) : (s.notePr c m).brBundle = s.brBundle := by
  cases c <;> rfl
@[simp] theorem notePr_btbPend (c : PrClass) (m : Word) : (s.notePr c m).btbPend = s.btbPend := by
  cases c <;> rfl
@[simp] theorem notePr_bilDue (c : PrClass) (m : Word) : (s.notePr c m).bilDue = s.bilDue := by
  cases c <;> rfl
@[simp] theorem notePr_earWait (c : PrClass) (m : Word) : (s.notePr c m).earWait = s.earWait := by
  cases c <;> rfl
@[simp] theorem notePr_freeCtr (c : PrClass) (m : Word) : (s.notePr c m).freeCtr = s.freeCtr := by
  cases c <;> rfl
@[simp] theorem setPrMask_old (h : Word) (c : PrClass) (m v : Word) :
    (s.setPrMask h c m v).old = s.old := by simp [setPrMask]
@[simp] theorem setPrMask_cfm (h : Word) (c : PrClass) (m v : Word) :
    (s.setPrMask h c m v).cfm = s.cfm := by simp [setPrMask]
@[simp] theorem setPrMask_bof (h : Word) (c : PrClass) (m v : Word) :
    (s.setPrMask h c m v).bof = s.bof := by simp [setPrMask]
@[simp] theorem setPrMask_nclean (h : Word) (c : PrClass) (m v : Word) :
    (s.setPrMask h c m v).nclean = s.nclean := by simp [setPrMask]
@[simp] theorem setPrMask_ip (h : Word) (c : PrClass) (m v : Word) :
    (s.setPrMask h c m v).ip = s.ip := by simp [setPrMask]
@[simp] theorem setPrMask_psr (h : Word) (c : PrClass) (m v : Word) :
    (s.setPrMask h c m v).psr = s.psr := by simp [setPrMask]
@[simp] theorem setPrMask_umGroup (h : Word) (c : PrClass) (m v : Word) :
    (s.setPrMask h c m v).umGroup = s.umGroup := by simp [setPrMask]
@[simp] theorem setPrMask_cr (h : Word) (c : PrClass) (m v : Word) :
    (s.setPrMask h c m v).cr = s.cr := by simp [setPrMask]
@[simp] theorem setPrMask_itc (h : Word) (c : PrClass) (m v : Word) :
    (s.setPrMask h c m v).itc = s.itc := by simp [setPrMask]
@[simp] theorem setPrMask_lastBundle (h : Word) (c : PrClass) (m v : Word) :
    (s.setPrMask h c m v).lastBundle = s.lastBundle := by simp [setPrMask]
@[simp] theorem setPrMask_rr (h : Word) (c : PrClass) (m v : Word) :
    (s.setPrMask h c m v).rr = s.rr := by simp [setPrMask]
@[simp] theorem setPrMask_pkr (h : Word) (c : PrClass) (m v : Word) :
    (s.setPrMask h c m v).pkr = s.pkr := by simp [setPrMask]
@[simp] theorem setPrMask_ibr (h : Word) (c : PrClass) (m v : Word) :
    (s.setPrMask h c m v).ibr = s.ibr := by simp [setPrMask]
@[simp] theorem setPrMask_dbr (h : Word) (c : PrClass) (m v : Word) :
    (s.setPrMask h c m v).dbr = s.dbr := by simp [setPrMask]
@[simp] theorem setPrMask_pmc (h : Word) (c : PrClass) (m v : Word) :
    (s.setPrMask h c m v).pmc = s.pmc := by simp [setPrMask]
@[simp] theorem setPrMask_pmd (h : Word) (c : PrClass) (m v : Word) :
    (s.setPrMask h c m v).pmd = s.pmd := by simp [setPrMask]
@[simp] theorem setPrMask_itr (h : Word) (c : PrClass) (m v : Word) :
    (s.setPrMask h c m v).itr = s.itr := by simp [setPrMask]
@[simp] theorem setPrMask_dtr (h : Word) (c : PrClass) (m v : Word) :
    (s.setPrMask h c m v).dtr = s.dtr := by simp [setPrMask]
@[simp] theorem setPrMask_itcache (h : Word) (c : PrClass) (m v : Word) :
    (s.setPrMask h c m v).itcache = s.itcache := by simp [setPrMask]
@[simp] theorem setPrMask_dtcache (h : Word) (c : PrClass) (m v : Word) :
    (s.setPrMask h c m v).dtcache = s.dtcache := by simp [setPrMask]
@[simp] theorem setPrMask_l1itlb (h : Word) (c : PrClass) (m v : Word) :
    (s.setPrMask h c m v).l1itlb = s.l1itlb := by simp [setPrMask]
@[simp] theorem setPrMask_l1dtlb (h : Word) (c : PrClass) (m v : Word) :
    (s.setPrMask h c m v).l1dtlb = s.l1dtlb := by simp [setPrMask]
@[simp] theorem setPrMask_mem (h : Word) (c : PrClass) (m v : Word) :
    (s.setPrMask h c m v).mem = s.mem := by simp [setPrMask]
@[simp] theorem setPrMask_alat (h : Word) (c : PrClass) (m v : Word) :
    (s.setPrMask h c m v).alat = s.alat := by simp [setPrMask]
@[simp] theorem setPrMask_wcb (h : Word) (c : PrClass) (m v : Word) :
    (s.setPrMask h c m v).wcb = s.wcb := by simp [setPrMask]
@[simp] theorem setPrMask_stale (h : Word) (c : PrClass) (m v : Word) :
    (s.setPrMask h c m v).stale = s.stale := by simp [setPrMask]
@[simp] theorem setPrMask_deferral (h : Word) (c : PrClass) (m v : Word) :
    (s.setPrMask h c m v).deferral = s.deferral := by simp [setPrMask]
@[simp] theorem setPrMask_groupStart (h : Word) (c : PrClass) (m v : Word) :
    (s.setPrMask h c m v).groupStart = s.groupStart := by simp [setPrMask]
@[simp] theorem setPrMask_grpWrites (h : Word) (c : PrClass) (m v : Word) :
    (s.setPrMask h c m v).grpWrites = s.grpWrites := by simp [setPrMask]
@[simp] theorem setPrMask_grpAlatSets (h : Word) (c : PrClass) (m v : Word) :
    (s.setPrMask h c m v).grpAlatSets = s.grpAlatSets := by simp [setPrMask]
@[simp] theorem setPrMask_grpAlatChecks (h : Word) (c : PrClass) (m v : Word) :
    (s.setPrMask h c m v).grpAlatChecks = s.grpAlatChecks := by simp [setPrMask]
@[simp] theorem setPrMask_grpAlatInval (h : Word) (c : PrClass) (m v : Word) :
    (s.setPrMask h c m v).grpAlatInval = s.grpAlatInval := by simp [setPrMask]
@[simp] theorem setPrMask_grpAlatInvalAll (h : Word) (c : PrClass) (m v : Word) :
    (s.setPrMask h c m v).grpAlatInvalAll = s.grpAlatInvalAll := by simp [setPrMask]
@[simp] theorem setPrMask_events (h : Word) (c : PrClass) (m v : Word) :
    (s.setPrMask h c m v).events = s.events := by simp [setPrMask]
@[simp] theorem setPrMask_clkEvents (h : Word) (c : PrClass) (m v : Word) :
    (s.setPrMask h c m v).clkEvents = s.clkEvents := by simp [setPrMask]
@[simp] theorem setPrMask_clkVals (h : Word) (c : PrClass) (m v : Word) :
    (s.setPrMask h c m v).clkVals = s.clkVals := by simp [setPrMask]
@[simp] theorem setPrMask_clkFr (h : Word) (c : PrClass) (m v : Word) :
    (s.setPrMask h c m v).clkFr = s.clkFr := by simp [setPrMask]
@[simp] theorem setPrMask_brBundle (h : Word) (c : PrClass) (m v : Word) :
    (s.setPrMask h c m v).brBundle = s.brBundle := by simp [setPrMask]
@[simp] theorem setPrMask_btbPend (h : Word) (c : PrClass) (m v : Word) :
    (s.setPrMask h c m v).btbPend = s.btbPend := by simp [setPrMask]
@[simp] theorem setPrMask_bilDue (h : Word) (c : PrClass) (m v : Word) :
    (s.setPrMask h c m v).bilDue = s.bilDue := by simp [setPrMask]
@[simp] theorem setPrMask_earWait (h : Word) (c : PrClass) (m v : Word) :
    (s.setPrMask h c m v).earWait = s.earWait := by simp [setPrMask]
@[simp] theorem setPrMask_freeCtr (h : Word) (c : PrClass) (m v : Word) :
    (s.setPrMask h c m v).freeCtr = s.freeCtr := by simp [setPrMask]
@[simp] theorem setPr_old (p : PredIdx) (v : Bool) (c : PrClass) :
    (s.setPr p v c).old = s.old := by simp [setPr]
@[simp] theorem setPr_cfm (p : PredIdx) (v : Bool) (c : PrClass) :
    (s.setPr p v c).cfm = s.cfm := by simp [setPr]
@[simp] theorem setPr_bof (p : PredIdx) (v : Bool) (c : PrClass) :
    (s.setPr p v c).bof = s.bof := by simp [setPr]
@[simp] theorem setPr_nclean (p : PredIdx) (v : Bool) (c : PrClass) :
    (s.setPr p v c).nclean = s.nclean := by simp [setPr]
@[simp] theorem setPr_ip (p : PredIdx) (v : Bool) (c : PrClass) :
    (s.setPr p v c).ip = s.ip := by simp [setPr]
@[simp] theorem setPr_psr (p : PredIdx) (v : Bool) (c : PrClass) :
    (s.setPr p v c).psr = s.psr := by simp [setPr]
@[simp] theorem setPr_umGroup (p : PredIdx) (v : Bool) (c : PrClass) :
    (s.setPr p v c).umGroup = s.umGroup := by simp [setPr]
@[simp] theorem setPr_cr (p : PredIdx) (v : Bool) (c : PrClass) :
    (s.setPr p v c).cr = s.cr := by simp [setPr]
@[simp] theorem setPr_itc (p : PredIdx) (v : Bool) (c : PrClass) :
    (s.setPr p v c).itc = s.itc := by simp [setPr]
@[simp] theorem setPr_lastBundle (p : PredIdx) (v : Bool) (c : PrClass) :
    (s.setPr p v c).lastBundle = s.lastBundle := by simp [setPr]
@[simp] theorem setPr_rr (p : PredIdx) (v : Bool) (c : PrClass) :
    (s.setPr p v c).rr = s.rr := by simp [setPr]
@[simp] theorem setPr_pkr (p : PredIdx) (v : Bool) (c : PrClass) :
    (s.setPr p v c).pkr = s.pkr := by simp [setPr]
@[simp] theorem setPr_ibr (p : PredIdx) (v : Bool) (c : PrClass) :
    (s.setPr p v c).ibr = s.ibr := by simp [setPr]
@[simp] theorem setPr_dbr (p : PredIdx) (v : Bool) (c : PrClass) :
    (s.setPr p v c).dbr = s.dbr := by simp [setPr]
@[simp] theorem setPr_pmc (p : PredIdx) (v : Bool) (c : PrClass) :
    (s.setPr p v c).pmc = s.pmc := by simp [setPr]
@[simp] theorem setPr_pmd (p : PredIdx) (v : Bool) (c : PrClass) :
    (s.setPr p v c).pmd = s.pmd := by simp [setPr]
@[simp] theorem setPr_itr (p : PredIdx) (v : Bool) (c : PrClass) :
    (s.setPr p v c).itr = s.itr := by simp [setPr]
@[simp] theorem setPr_dtr (p : PredIdx) (v : Bool) (c : PrClass) :
    (s.setPr p v c).dtr = s.dtr := by simp [setPr]
@[simp] theorem setPr_itcache (p : PredIdx) (v : Bool) (c : PrClass) :
    (s.setPr p v c).itcache = s.itcache := by simp [setPr]
@[simp] theorem setPr_dtcache (p : PredIdx) (v : Bool) (c : PrClass) :
    (s.setPr p v c).dtcache = s.dtcache := by simp [setPr]
@[simp] theorem setPr_l1itlb (p : PredIdx) (v : Bool) (c : PrClass) :
    (s.setPr p v c).l1itlb = s.l1itlb := by simp [setPr]
@[simp] theorem setPr_l1dtlb (p : PredIdx) (v : Bool) (c : PrClass) :
    (s.setPr p v c).l1dtlb = s.l1dtlb := by simp [setPr]
@[simp] theorem setPr_mem (p : PredIdx) (v : Bool) (c : PrClass) :
    (s.setPr p v c).mem = s.mem := by simp [setPr]
@[simp] theorem setPr_alat (p : PredIdx) (v : Bool) (c : PrClass) :
    (s.setPr p v c).alat = s.alat := by simp [setPr]
@[simp] theorem setPr_wcb (p : PredIdx) (v : Bool) (c : PrClass) :
    (s.setPr p v c).wcb = s.wcb := by simp [setPr]
@[simp] theorem setPr_stale (p : PredIdx) (v : Bool) (c : PrClass) :
    (s.setPr p v c).stale = s.stale := by simp [setPr]
@[simp] theorem setPr_deferral (p : PredIdx) (v : Bool) (c : PrClass) :
    (s.setPr p v c).deferral = s.deferral := by simp [setPr]
@[simp] theorem setPr_groupStart (p : PredIdx) (v : Bool) (c : PrClass) :
    (s.setPr p v c).groupStart = s.groupStart := by simp [setPr]
@[simp] theorem setPr_grpWrites (p : PredIdx) (v : Bool) (c : PrClass) :
    (s.setPr p v c).grpWrites = s.grpWrites := by simp [setPr]
@[simp] theorem setPr_grpAlatSets (p : PredIdx) (v : Bool) (c : PrClass) :
    (s.setPr p v c).grpAlatSets = s.grpAlatSets := by simp [setPr]
@[simp] theorem setPr_grpAlatChecks (p : PredIdx) (v : Bool) (c : PrClass) :
    (s.setPr p v c).grpAlatChecks = s.grpAlatChecks := by simp [setPr]
@[simp] theorem setPr_grpAlatInval (p : PredIdx) (v : Bool) (c : PrClass) :
    (s.setPr p v c).grpAlatInval = s.grpAlatInval := by simp [setPr]
@[simp] theorem setPr_grpAlatInvalAll (p : PredIdx) (v : Bool) (c : PrClass) :
    (s.setPr p v c).grpAlatInvalAll = s.grpAlatInvalAll := by simp [setPr]
@[simp] theorem setPr_events (p : PredIdx) (v : Bool) (c : PrClass) :
    (s.setPr p v c).events = s.events := by simp [setPr]
@[simp] theorem setPr_clkEvents (p : PredIdx) (v : Bool) (c : PrClass) :
    (s.setPr p v c).clkEvents = s.clkEvents := by simp [setPr]
@[simp] theorem setPr_clkVals (p : PredIdx) (v : Bool) (c : PrClass) :
    (s.setPr p v c).clkVals = s.clkVals := by simp [setPr]
@[simp] theorem setPr_clkFr (p : PredIdx) (v : Bool) (c : PrClass) :
    (s.setPr p v c).clkFr = s.clkFr := by simp [setPr]
@[simp] theorem setPr_brBundle (p : PredIdx) (v : Bool) (c : PrClass) :
    (s.setPr p v c).brBundle = s.brBundle := by simp [setPr]
@[simp] theorem setPr_btbPend (p : PredIdx) (v : Bool) (c : PrClass) :
    (s.setPr p v c).btbPend = s.btbPend := by simp [setPr]
@[simp] theorem setPr_bilDue (p : PredIdx) (v : Bool) (c : PrClass) :
    (s.setPr p v c).bilDue = s.bilDue := by simp [setPr]
@[simp] theorem setPr_earWait (p : PredIdx) (v : Bool) (c : PrClass) :
    (s.setPr p v c).earWait = s.earWait := by simp [setPr]
@[simp] theorem setPr_freeCtr (p : PredIdx) (v : Bool) (c : PrClass) :
    (s.setPr p v c).freeCtr = s.freeCtr := by simp [setPr]
@[simp] theorem setPr2_old (p : PredIdx) (v : Bool) (c : PrClass) (q : PredIdx) (w : Bool) (d : PrClass) :
    (s.setPr2 p v c q w d).old = s.old := by simp [setPr2]
@[simp] theorem setPr2_cfm (p : PredIdx) (v : Bool) (c : PrClass) (q : PredIdx) (w : Bool) (d : PrClass) :
    (s.setPr2 p v c q w d).cfm = s.cfm := by simp [setPr2]
@[simp] theorem setPr2_bof (p : PredIdx) (v : Bool) (c : PrClass) (q : PredIdx) (w : Bool) (d : PrClass) :
    (s.setPr2 p v c q w d).bof = s.bof := by simp [setPr2]
@[simp] theorem setPr2_nclean (p : PredIdx) (v : Bool) (c : PrClass) (q : PredIdx) (w : Bool) (d : PrClass) :
    (s.setPr2 p v c q w d).nclean = s.nclean := by simp [setPr2]
@[simp] theorem setPr2_ip (p : PredIdx) (v : Bool) (c : PrClass) (q : PredIdx) (w : Bool) (d : PrClass) :
    (s.setPr2 p v c q w d).ip = s.ip := by simp [setPr2]
@[simp] theorem setPr2_psr (p : PredIdx) (v : Bool) (c : PrClass) (q : PredIdx) (w : Bool) (d : PrClass) :
    (s.setPr2 p v c q w d).psr = s.psr := by simp [setPr2]
@[simp] theorem setPr2_umGroup (p : PredIdx) (v : Bool) (c : PrClass) (q : PredIdx) (w : Bool) (d : PrClass) :
    (s.setPr2 p v c q w d).umGroup = s.umGroup := by simp [setPr2]
@[simp] theorem setPr2_cr (p : PredIdx) (v : Bool) (c : PrClass) (q : PredIdx) (w : Bool) (d : PrClass) :
    (s.setPr2 p v c q w d).cr = s.cr := by simp [setPr2]
@[simp] theorem setPr2_itc (p : PredIdx) (v : Bool) (c : PrClass) (q : PredIdx) (w : Bool) (d : PrClass) :
    (s.setPr2 p v c q w d).itc = s.itc := by simp [setPr2]
@[simp] theorem setPr2_lastBundle (p : PredIdx) (v : Bool) (c : PrClass) (q : PredIdx) (w : Bool) (d : PrClass) :
    (s.setPr2 p v c q w d).lastBundle = s.lastBundle := by simp [setPr2]
@[simp] theorem setPr2_rr (p : PredIdx) (v : Bool) (c : PrClass) (q : PredIdx) (w : Bool) (d : PrClass) :
    (s.setPr2 p v c q w d).rr = s.rr := by simp [setPr2]
@[simp] theorem setPr2_pkr (p : PredIdx) (v : Bool) (c : PrClass) (q : PredIdx) (w : Bool) (d : PrClass) :
    (s.setPr2 p v c q w d).pkr = s.pkr := by simp [setPr2]
@[simp] theorem setPr2_ibr (p : PredIdx) (v : Bool) (c : PrClass) (q : PredIdx) (w : Bool) (d : PrClass) :
    (s.setPr2 p v c q w d).ibr = s.ibr := by simp [setPr2]
@[simp] theorem setPr2_dbr (p : PredIdx) (v : Bool) (c : PrClass) (q : PredIdx) (w : Bool) (d : PrClass) :
    (s.setPr2 p v c q w d).dbr = s.dbr := by simp [setPr2]
@[simp] theorem setPr2_pmc (p : PredIdx) (v : Bool) (c : PrClass) (q : PredIdx) (w : Bool) (d : PrClass) :
    (s.setPr2 p v c q w d).pmc = s.pmc := by simp [setPr2]
@[simp] theorem setPr2_pmd (p : PredIdx) (v : Bool) (c : PrClass) (q : PredIdx) (w : Bool) (d : PrClass) :
    (s.setPr2 p v c q w d).pmd = s.pmd := by simp [setPr2]
@[simp] theorem setPr2_itr (p : PredIdx) (v : Bool) (c : PrClass) (q : PredIdx) (w : Bool) (d : PrClass) :
    (s.setPr2 p v c q w d).itr = s.itr := by simp [setPr2]
@[simp] theorem setPr2_dtr (p : PredIdx) (v : Bool) (c : PrClass) (q : PredIdx) (w : Bool) (d : PrClass) :
    (s.setPr2 p v c q w d).dtr = s.dtr := by simp [setPr2]
@[simp] theorem setPr2_itcache (p : PredIdx) (v : Bool) (c : PrClass) (q : PredIdx) (w : Bool) (d : PrClass) :
    (s.setPr2 p v c q w d).itcache = s.itcache := by simp [setPr2]
@[simp] theorem setPr2_dtcache (p : PredIdx) (v : Bool) (c : PrClass) (q : PredIdx) (w : Bool) (d : PrClass) :
    (s.setPr2 p v c q w d).dtcache = s.dtcache := by simp [setPr2]
@[simp] theorem setPr2_l1itlb (p : PredIdx) (v : Bool) (c : PrClass) (q : PredIdx) (w : Bool) (d : PrClass) :
    (s.setPr2 p v c q w d).l1itlb = s.l1itlb := by simp [setPr2]
@[simp] theorem setPr2_l1dtlb (p : PredIdx) (v : Bool) (c : PrClass) (q : PredIdx) (w : Bool) (d : PrClass) :
    (s.setPr2 p v c q w d).l1dtlb = s.l1dtlb := by simp [setPr2]
@[simp] theorem setPr2_mem (p : PredIdx) (v : Bool) (c : PrClass) (q : PredIdx) (w : Bool) (d : PrClass) :
    (s.setPr2 p v c q w d).mem = s.mem := by simp [setPr2]
@[simp] theorem setPr2_alat (p : PredIdx) (v : Bool) (c : PrClass) (q : PredIdx) (w : Bool) (d : PrClass) :
    (s.setPr2 p v c q w d).alat = s.alat := by simp [setPr2]
@[simp] theorem setPr2_wcb (p : PredIdx) (v : Bool) (c : PrClass) (q : PredIdx) (w : Bool) (d : PrClass) :
    (s.setPr2 p v c q w d).wcb = s.wcb := by simp [setPr2]
@[simp] theorem setPr2_stale (p : PredIdx) (v : Bool) (c : PrClass) (q : PredIdx) (w : Bool) (d : PrClass) :
    (s.setPr2 p v c q w d).stale = s.stale := by simp [setPr2]
@[simp] theorem setPr2_deferral (p : PredIdx) (v : Bool) (c : PrClass) (q : PredIdx) (w : Bool) (d : PrClass) :
    (s.setPr2 p v c q w d).deferral = s.deferral := by simp [setPr2]
@[simp] theorem setPr2_groupStart (p : PredIdx) (v : Bool) (c : PrClass) (q : PredIdx) (w : Bool) (d : PrClass) :
    (s.setPr2 p v c q w d).groupStart = s.groupStart := by simp [setPr2]
@[simp] theorem setPr2_grpWrites (p : PredIdx) (v : Bool) (c : PrClass) (q : PredIdx) (w : Bool) (d : PrClass) :
    (s.setPr2 p v c q w d).grpWrites = s.grpWrites := by simp [setPr2]
@[simp] theorem setPr2_grpAlatSets (p : PredIdx) (v : Bool) (c : PrClass) (q : PredIdx) (w : Bool) (d : PrClass) :
    (s.setPr2 p v c q w d).grpAlatSets = s.grpAlatSets := by simp [setPr2]
@[simp] theorem setPr2_grpAlatChecks (p : PredIdx) (v : Bool) (c : PrClass) (q : PredIdx) (w : Bool) (d : PrClass) :
    (s.setPr2 p v c q w d).grpAlatChecks = s.grpAlatChecks := by simp [setPr2]
@[simp] theorem setPr2_grpAlatInval (p : PredIdx) (v : Bool) (c : PrClass) (q : PredIdx) (w : Bool) (d : PrClass) :
    (s.setPr2 p v c q w d).grpAlatInval = s.grpAlatInval := by simp [setPr2]
@[simp] theorem setPr2_grpAlatInvalAll (p : PredIdx) (v : Bool) (c : PrClass) (q : PredIdx) (w : Bool) (d : PrClass) :
    (s.setPr2 p v c q w d).grpAlatInvalAll = s.grpAlatInvalAll := by simp [setPr2]
@[simp] theorem setPr2_events (p : PredIdx) (v : Bool) (c : PrClass) (q : PredIdx) (w : Bool) (d : PrClass) :
    (s.setPr2 p v c q w d).events = s.events := by simp [setPr2]
@[simp] theorem setPr2_clkEvents (p : PredIdx) (v : Bool) (c : PrClass) (q : PredIdx) (w : Bool) (d : PrClass) :
    (s.setPr2 p v c q w d).clkEvents = s.clkEvents := by simp [setPr2]
@[simp] theorem setPr2_clkVals (p : PredIdx) (v : Bool) (c : PrClass) (q : PredIdx) (w : Bool) (d : PrClass) :
    (s.setPr2 p v c q w d).clkVals = s.clkVals := by simp [setPr2]
@[simp] theorem setPr2_clkFr (p : PredIdx) (v : Bool) (c : PrClass) (q : PredIdx) (w : Bool) (d : PrClass) :
    (s.setPr2 p v c q w d).clkFr = s.clkFr := by simp [setPr2]
@[simp] theorem setPr2_brBundle (p : PredIdx) (v : Bool) (c : PrClass) (q : PredIdx) (w : Bool) (d : PrClass) :
    (s.setPr2 p v c q w d).brBundle = s.brBundle := by simp [setPr2]
@[simp] theorem setPr2_btbPend (p : PredIdx) (v : Bool) (c : PrClass) (q : PredIdx) (w : Bool) (d : PrClass) :
    (s.setPr2 p v c q w d).btbPend = s.btbPend := by simp [setPr2]
@[simp] theorem setPr2_bilDue (p : PredIdx) (v : Bool) (c : PrClass) (q : PredIdx) (w : Bool) (d : PrClass) :
    (s.setPr2 p v c q w d).bilDue = s.bilDue := by simp [setPr2]
@[simp] theorem setPr2_earWait (p : PredIdx) (v : Bool) (c : PrClass) (q : PredIdx) (w : Bool) (d : PrClass) :
    (s.setPr2 p v c q w d).earWait = s.earWait := by simp [setPr2]
@[simp] theorem setPr2_freeCtr (p : PredIdx) (v : Bool) (c : PrClass) (q : PredIdx) (w : Bool) (d : PrClass) :
    (s.setPr2 p v c q w d).freeCtr = s.freeCtr := by simp [setPr2]

end Predicates

section Flags

variable (s : State) (f : BitVec 2) (b : BitVec 6)

@[simp] theorem raiseFlags_old : (s.raiseFlags f b).old = s.old := by
  unfold raiseFlags; split <;> rfl
@[simp] theorem raiseFlags_cfm : (s.raiseFlags f b).cfm = s.cfm := by
  unfold raiseFlags; split <;> rfl
@[simp] theorem raiseFlags_bof : (s.raiseFlags f b).bof = s.bof := by
  unfold raiseFlags; split <;> rfl
@[simp] theorem raiseFlags_nclean : (s.raiseFlags f b).nclean = s.nclean := by
  unfold raiseFlags; split <;> rfl
@[simp] theorem raiseFlags_ip : (s.raiseFlags f b).ip = s.ip := by
  unfold raiseFlags; split <;> rfl
@[simp] theorem raiseFlags_psr : (s.raiseFlags f b).psr = s.psr := by
  unfold raiseFlags; split <;> rfl
@[simp] theorem raiseFlags_umGroup : (s.raiseFlags f b).umGroup = s.umGroup := by
  unfold raiseFlags; split <;> rfl
@[simp] theorem raiseFlags_cr : (s.raiseFlags f b).cr = s.cr := by
  unfold raiseFlags; split <;> rfl
@[simp] theorem raiseFlags_itc : (s.raiseFlags f b).itc = s.itc := by
  unfold raiseFlags; split <;> rfl
@[simp] theorem raiseFlags_lastBundle : (s.raiseFlags f b).lastBundle = s.lastBundle := by
  unfold raiseFlags; split <;> rfl
@[simp] theorem raiseFlags_rr : (s.raiseFlags f b).rr = s.rr := by
  unfold raiseFlags; split <;> rfl
@[simp] theorem raiseFlags_pkr : (s.raiseFlags f b).pkr = s.pkr := by
  unfold raiseFlags; split <;> rfl
@[simp] theorem raiseFlags_ibr : (s.raiseFlags f b).ibr = s.ibr := by
  unfold raiseFlags; split <;> rfl
@[simp] theorem raiseFlags_dbr : (s.raiseFlags f b).dbr = s.dbr := by
  unfold raiseFlags; split <;> rfl
@[simp] theorem raiseFlags_pmc : (s.raiseFlags f b).pmc = s.pmc := by
  unfold raiseFlags; split <;> rfl
@[simp] theorem raiseFlags_pmd : (s.raiseFlags f b).pmd = s.pmd := by
  unfold raiseFlags; split <;> rfl
@[simp] theorem raiseFlags_itr : (s.raiseFlags f b).itr = s.itr := by
  unfold raiseFlags; split <;> rfl
@[simp] theorem raiseFlags_dtr : (s.raiseFlags f b).dtr = s.dtr := by
  unfold raiseFlags; split <;> rfl
@[simp] theorem raiseFlags_itcache : (s.raiseFlags f b).itcache = s.itcache := by
  unfold raiseFlags; split <;> rfl
@[simp] theorem raiseFlags_dtcache : (s.raiseFlags f b).dtcache = s.dtcache := by
  unfold raiseFlags; split <;> rfl
@[simp] theorem raiseFlags_l1itlb : (s.raiseFlags f b).l1itlb = s.l1itlb := by
  unfold raiseFlags; split <;> rfl
@[simp] theorem raiseFlags_l1dtlb : (s.raiseFlags f b).l1dtlb = s.l1dtlb := by
  unfold raiseFlags; split <;> rfl
@[simp] theorem raiseFlags_mem : (s.raiseFlags f b).mem = s.mem := by
  unfold raiseFlags; split <;> rfl
@[simp] theorem raiseFlags_alat : (s.raiseFlags f b).alat = s.alat := by
  unfold raiseFlags; split <;> rfl
@[simp] theorem raiseFlags_wcb : (s.raiseFlags f b).wcb = s.wcb := by
  unfold raiseFlags; split <;> rfl
@[simp] theorem raiseFlags_stale : (s.raiseFlags f b).stale = s.stale := by
  unfold raiseFlags; split <;> rfl
@[simp] theorem raiseFlags_deferral : (s.raiseFlags f b).deferral = s.deferral := by
  unfold raiseFlags; split <;> rfl
@[simp] theorem raiseFlags_groupStart : (s.raiseFlags f b).groupStart = s.groupStart := by
  unfold raiseFlags; split <;> rfl
@[simp] theorem raiseFlags_grpPrAlu : (s.raiseFlags f b).grpPrAlu = s.grpPrAlu := by
  unfold raiseFlags; split <;> rfl
@[simp] theorem raiseFlags_grpPrAnd : (s.raiseFlags f b).grpPrAnd = s.grpPrAnd := by
  unfold raiseFlags; split <;> rfl
@[simp] theorem raiseFlags_grpPrOr : (s.raiseFlags f b).grpPrOr = s.grpPrOr := by
  unfold raiseFlags; split <;> rfl
@[simp] theorem raiseFlags_grpPrCmp : (s.raiseFlags f b).grpPrCmp = s.grpPrCmp := by
  unfold raiseFlags; split <;> rfl
@[simp] theorem raiseFlags_grpAlatSets : (s.raiseFlags f b).grpAlatSets = s.grpAlatSets := by
  unfold raiseFlags; split <;> rfl
@[simp] theorem raiseFlags_grpAlatChecks : (s.raiseFlags f b).grpAlatChecks = s.grpAlatChecks := by
  unfold raiseFlags; split <;> rfl
@[simp] theorem raiseFlags_grpAlatInval : (s.raiseFlags f b).grpAlatInval = s.grpAlatInval := by
  unfold raiseFlags; split <;> rfl
@[simp] theorem raiseFlags_grpAlatInvalAll : (s.raiseFlags f b).grpAlatInvalAll = s.grpAlatInvalAll := by
  unfold raiseFlags; split <;> rfl
@[simp] theorem raiseFlags_events : (s.raiseFlags f b).events = s.events := by
  unfold raiseFlags; split <;> rfl
@[simp] theorem raiseFlags_clkEvents : (s.raiseFlags f b).clkEvents = s.clkEvents := by
  unfold raiseFlags; split <;> rfl
@[simp] theorem raiseFlags_clkVals : (s.raiseFlags f b).clkVals = s.clkVals := by
  unfold raiseFlags; split <;> rfl
@[simp] theorem raiseFlags_clkFr : (s.raiseFlags f b).clkFr = s.clkFr := by
  unfold raiseFlags; split <;> rfl
@[simp] theorem raiseFlags_brBundle : (s.raiseFlags f b).brBundle = s.brBundle := by
  unfold raiseFlags; split <;> rfl
@[simp] theorem raiseFlags_btbPend : (s.raiseFlags f b).btbPend = s.btbPend := by
  unfold raiseFlags; split <;> rfl
@[simp] theorem raiseFlags_bilDue : (s.raiseFlags f b).bilDue = s.bilDue := by
  unfold raiseFlags; split <;> rfl
@[simp] theorem raiseFlags_earWait : (s.raiseFlags f b).earWait = s.earWait := by
  unfold raiseFlags; split <;> rfl
@[simp] theorem raiseFlags_freeCtr : (s.raiseFlags f b).freeCtr = s.freeCtr := by
  unfold raiseFlags; split <;> rfl

end Flags

end Sys2Proof.Machine.State
end

