-- ==== Sys2Proof/Laws/Frame.lean ====
section
/-! SUPPORT. Laws/Frame.lean: what the execution frame can do: complete, squash, take an interruption or stop, and what each
of these keeps. -/

namespace Sys2Proof.Machine

/-! ### Taking an interruption -/

section Interruption

variable (s : State) (i : Intr) (ei : BitVec 2)

/-- What taking an interruption leaves in IP (R584). -/
theorem State.takeInterruption_ip :
    (s.takeInterruption i ei).ip = (s.cr.iva.extractLsb' 15 49) ++ i.vec.offset := rfl

/-- What taking an interruption leaves in PSR (R584). -/
theorem State.takeInterruption_psr : (s.takeInterruption i ei).psr = psrAfterIntr s.psr s.cr.dcr := rfl

/-- What taking an interruption leaves in the control registers (R584, R585). -/
theorem State.takeInterruption_cr :
    (s.takeInterruption i ei).cr =
      if s.psrIc then s.collect i ei else { s.cr with isr := isrValue i ei true s.psrEd } := rfl

/-- Taking an interruption ends the group: its writes are visible (R330). -/
theorem State.takeInterruption_old : (s.takeInterruption i ei).old = s.cur := rfl

/-! What taking an interruption keeps. -/

@[simp] theorem State.takeInterruption_cur : (s.takeInterruption i ei).cur = s.cur := rfl
@[simp] theorem State.takeInterruption_cfm : (s.takeInterruption i ei).cfm = s.cfm := rfl
@[simp] theorem State.takeInterruption_bof : (s.takeInterruption i ei).bof = s.bof := rfl
@[simp] theorem State.takeInterruption_nclean : (s.takeInterruption i ei).nclean = s.nclean := rfl
@[simp] theorem State.takeInterruption_itc : (s.takeInterruption i ei).itc = s.itc := rfl
@[simp] theorem State.takeInterruption_rr : (s.takeInterruption i ei).rr = s.rr := rfl
@[simp] theorem State.takeInterruption_pkr : (s.takeInterruption i ei).pkr = s.pkr := rfl
@[simp] theorem State.takeInterruption_ibr : (s.takeInterruption i ei).ibr = s.ibr := rfl
@[simp] theorem State.takeInterruption_dbr : (s.takeInterruption i ei).dbr = s.dbr := rfl
@[simp] theorem State.takeInterruption_pmc : (s.takeInterruption i ei).pmc = s.pmc := rfl
@[simp] theorem State.takeInterruption_pmd : (s.takeInterruption i ei).pmd = s.pmd := rfl
@[simp] theorem State.takeInterruption_itr : (s.takeInterruption i ei).itr = s.itr := rfl
@[simp] theorem State.takeInterruption_dtr : (s.takeInterruption i ei).dtr = s.dtr := rfl
@[simp] theorem State.takeInterruption_itcache : (s.takeInterruption i ei).itcache = s.itcache := rfl
@[simp] theorem State.takeInterruption_dtcache : (s.takeInterruption i ei).dtcache = s.dtcache := rfl
@[simp] theorem State.takeInterruption_l1itlb : (s.takeInterruption i ei).l1itlb = s.l1itlb := rfl
@[simp] theorem State.takeInterruption_l1dtlb : (s.takeInterruption i ei).l1dtlb = s.l1dtlb := rfl
@[simp] theorem State.takeInterruption_mem : (s.takeInterruption i ei).mem = s.mem := rfl
@[simp] theorem State.takeInterruption_alat : (s.takeInterruption i ei).alat = s.alat := rfl
@[simp] theorem State.takeInterruption_wcb : (s.takeInterruption i ei).wcb = s.wcb := rfl
@[simp] theorem State.takeInterruption_deferral : (s.takeInterruption i ei).deferral = s.deferral := rfl
@[simp] theorem State.takeInterruption_clkEvents : (s.takeInterruption i ei).clkEvents = s.clkEvents := rfl
@[simp] theorem State.takeInterruption_clkVals : (s.takeInterruption i ei).clkVals = s.clkVals := rfl
@[simp] theorem State.takeInterruption_clkFr : (s.takeInterruption i ei).clkFr = s.clkFr := rfl
@[simp] theorem State.takeInterruption_brBundle : (s.takeInterruption i ei).brBundle = s.brBundle := rfl
@[simp] theorem State.takeInterruption_btbPend : (s.takeInterruption i ei).btbPend = s.btbPend := rfl
@[simp] theorem State.takeInterruption_bilDue : (s.takeInterruption i ei).bilDue = s.bilDue := rfl
@[simp] theorem State.takeInterruption_earWait : (s.takeInterruption i ei).earWait = s.earWait := rfl

end Interruption

/-! ### Completing -/

/-- What `retire` does when no trap follows: the next slot, or the branch target (R330, R521, R587). -/
theorem retire_of_no_trap (s0 : State) (r : Res)
    (h : trapIntr (!r.moved.psrIt && unimplementedPhys r.moved.ip) r.fpTrap (r.lpTrap && s0.psrLp)
      (s0.psrTb && r.target.isSome) s0.psrSs = none) : retire s0 r = r.moved := by
  unfold retire
  simp only [h]

/-- No trap is due exactly when none of the conditions holds (R587). -/
theorem trapIntr_none (ui : Bool) (fp : Option (BitVec 16)) (lp tb ss : Bool) :
    trapIntr ui fp lp tb ss = none ↔ ui = false ∧ fp = none ∧ lp = false ∧ tb = false ∧ ss = false := by
  unfold trapIntr
  cases ui <;> cases fp <;> cases lp <;> cases tb <;> cases ss <;> simp

/-- Completing keeps a part of the state that neither an interruption nor the move to the next instruction changes. -/
theorem retire_part {α : Type} (f : State → α) (hi : ∀ s i ei, f (State.takeInterruption s i ei) = f s)
    (ha : ∀ s l, f ((State.emit s .retired).advance l) = f s) (hj : ∀ s t, f ((State.emit s .retired).jump t) = f s)
    (s0 : State) (r : Res) : f (retire s0 r) = f r.s := by
  have hm : f r.moved = f r.s := by
    unfold Res.moved
    split
    · exact ha _ _
    · exact hj _ _
  unfold retire
  dsimp only
  split
  · exact hm
  · rw [hi, hm]

section Completing

variable (s0 : State) (r : Res)

/-! What completing keeps of what the instruction left. -/

@[simp] theorem retire_cur : (retire s0 r).cur = r.s.cur :=
  retire_part State.cur (fun _ _ _ => rfl) (fun _ _ => rfl) (fun _ _ => rfl) s0 r
@[simp] theorem retire_cfm : (retire s0 r).cfm = r.s.cfm :=
  retire_part State.cfm (fun _ _ _ => rfl) (fun _ _ => rfl) (fun _ _ => rfl) s0 r
@[simp] theorem retire_bof : (retire s0 r).bof = r.s.bof :=
  retire_part State.bof (fun _ _ _ => rfl) (fun _ _ => rfl) (fun _ _ => rfl) s0 r
@[simp] theorem retire_nclean : (retire s0 r).nclean = r.s.nclean :=
  retire_part State.nclean (fun _ _ _ => rfl) (fun _ _ => rfl) (fun _ _ => rfl) s0 r
@[simp] theorem retire_itc : (retire s0 r).itc = r.s.itc :=
  retire_part State.itc (fun _ _ _ => rfl) (fun _ _ => rfl) (fun _ _ => rfl) s0 r
@[simp] theorem retire_rr : (retire s0 r).rr = r.s.rr :=
  retire_part State.rr (fun _ _ _ => rfl) (fun _ _ => rfl) (fun _ _ => rfl) s0 r
@[simp] theorem retire_pkr : (retire s0 r).pkr = r.s.pkr :=
  retire_part State.pkr (fun _ _ _ => rfl) (fun _ _ => rfl) (fun _ _ => rfl) s0 r
@[simp] theorem retire_ibr : (retire s0 r).ibr = r.s.ibr :=
  retire_part State.ibr (fun _ _ _ => rfl) (fun _ _ => rfl) (fun _ _ => rfl) s0 r
@[simp] theorem retire_dbr : (retire s0 r).dbr = r.s.dbr :=
  retire_part State.dbr (fun _ _ _ => rfl) (fun _ _ => rfl) (fun _ _ => rfl) s0 r
@[simp] theorem retire_pmc : (retire s0 r).pmc = r.s.pmc :=
  retire_part State.pmc (fun _ _ _ => rfl) (fun _ _ => rfl) (fun _ _ => rfl) s0 r
@[simp] theorem retire_pmd : (retire s0 r).pmd = r.s.pmd :=
  retire_part State.pmd (fun _ _ _ => rfl) (fun _ _ => rfl) (fun _ _ => rfl) s0 r
@[simp] theorem retire_itr : (retire s0 r).itr = r.s.itr :=
  retire_part State.itr (fun _ _ _ => rfl) (fun _ _ => rfl) (fun _ _ => rfl) s0 r
@[simp] theorem retire_dtr : (retire s0 r).dtr = r.s.dtr :=
  retire_part State.dtr (fun _ _ _ => rfl) (fun _ _ => rfl) (fun _ _ => rfl) s0 r
@[simp] theorem retire_itcache : (retire s0 r).itcache = r.s.itcache :=
  retire_part State.itcache (fun _ _ _ => rfl) (fun _ _ => rfl) (fun _ _ => rfl) s0 r
@[simp] theorem retire_dtcache : (retire s0 r).dtcache = r.s.dtcache :=
  retire_part State.dtcache (fun _ _ _ => rfl) (fun _ _ => rfl) (fun _ _ => rfl) s0 r
@[simp] theorem retire_l1itlb : (retire s0 r).l1itlb = r.s.l1itlb :=
  retire_part State.l1itlb (fun _ _ _ => rfl) (fun _ _ => rfl) (fun _ _ => rfl) s0 r
@[simp] theorem retire_l1dtlb : (retire s0 r).l1dtlb = r.s.l1dtlb :=
  retire_part State.l1dtlb (fun _ _ _ => rfl) (fun _ _ => rfl) (fun _ _ => rfl) s0 r
@[simp] theorem retire_mem : (retire s0 r).mem = r.s.mem :=
  retire_part State.mem (fun _ _ _ => rfl) (fun _ _ => rfl) (fun _ _ => rfl) s0 r
@[simp] theorem retire_alat : (retire s0 r).alat = r.s.alat :=
  retire_part State.alat (fun _ _ _ => rfl) (fun _ _ => rfl) (fun _ _ => rfl) s0 r
@[simp] theorem retire_wcb : (retire s0 r).wcb = r.s.wcb :=
  retire_part State.wcb (fun _ _ _ => rfl) (fun _ _ => rfl) (fun _ _ => rfl) s0 r
@[simp] theorem retire_deferral : (retire s0 r).deferral = r.s.deferral :=
  retire_part State.deferral (fun _ _ _ => rfl) (fun _ _ => rfl) (fun _ _ => rfl) s0 r
@[simp] theorem retire_clkEvents : (retire s0 r).clkEvents = r.s.clkEvents :=
  retire_part State.clkEvents (fun _ _ _ => rfl) (fun _ _ => rfl) (fun _ _ => rfl) s0 r
@[simp] theorem retire_clkVals : (retire s0 r).clkVals = r.s.clkVals :=
  retire_part State.clkVals (fun _ _ _ => rfl) (fun _ _ => rfl) (fun _ _ => rfl) s0 r
@[simp] theorem retire_clkFr : (retire s0 r).clkFr = r.s.clkFr :=
  retire_part State.clkFr (fun _ _ _ => rfl) (fun _ _ => rfl) (fun _ _ => rfl) s0 r
@[simp] theorem retire_brBundle : (retire s0 r).brBundle = r.s.brBundle :=
  retire_part State.brBundle (fun _ _ _ => rfl) (fun _ _ => rfl) (fun _ _ => rfl) s0 r
@[simp] theorem retire_btbPend : (retire s0 r).btbPend = r.s.btbPend :=
  retire_part State.btbPend (fun _ _ _ => rfl) (fun _ _ => rfl) (fun _ _ => rfl) s0 r
@[simp] theorem retire_bilDue : (retire s0 r).bilDue = r.s.bilDue :=
  retire_part State.bilDue (fun _ _ _ => rfl) (fun _ _ => rfl) (fun _ _ => rfl) s0 r
@[simp] theorem retire_earWait : (retire s0 r).earWait = r.s.earWait :=
  retire_part State.earWait (fun _ _ _ => rfl) (fun _ _ => rfl) (fun _ _ => rfl) s0 r

end Completing

/-! ### The outcomes of an instruction -/

/-- Everything `finish` can answer with a next state: a completion, or an interruption taken on the state before. -/
theorem finish_next {s0 u : State} {r : Except Exc Res} (h : finish s0 r = .next u) :
    (∃ r', r = .ok r' ∧ u = retire s0 r') ∨ (∃ i, r = .error (.intr i) ∧ u = s0.takeInterruption i s0.ri) := by
  unfold finish at h
  split at h
  · exact .inl ⟨_, rfl, by injection h with h; exact h.symm⟩
  · exact .inr ⟨_, rfl, by injection h with h; exact h.symm⟩
  · cases h
  · cases h

/-- A completing instruction. -/
@[simp] theorem finish_ok (s0 : State) (r : Res) : finish s0 (.ok r) = .next (retire s0 r) := rfl

/-- A faulting instruction. -/
@[simp] theorem finish_intr (s0 : State) (i : Intr) :
    finish s0 (.error (.intr i)) = .next (s0.takeInterruption i s0.ri) := rfl

/-- A predicated instruction whose targets are allowed and whose predicate is 1. -/
theorem run_true {s : State} {qp : PredIdx} {t : Except Exc Unit} {b : Except Exc Res} (ht : t = .ok ())
    (hq : s.pred qp = true) : run s qp t b = finish s b := by
  subst ht; simp [run, hq, Except.bind]

/-- A predicated instruction whose predicate is 0 changes no register (R330). -/
theorem run_false {s : State} {qp : PredIdx} {t : Except Exc Unit} {b : Except Exc Res} (ht : t = .ok ())
    (hq : s.pred qp = false) : run s qp t b = .next (retire s { s := s.emit .squashed }) := by
  subst ht; simp [run, hq, Except.bind]

/-- A long instruction whose targets are allowed and whose predicate is 1. -/
theorem runLong_true {s : State} {qp : PredIdx} {t : Except Exc Unit} {b : Except Exc Res} (ht : t = .ok ())
    (hq : s.pred qp = true) : runLong s qp t b = finish s (b.map Res.asLong) := by
  subst ht; simp [runLong, hq, Except.bind]

/-- Everything a predicated instruction can answer with a next state. -/
theorem run_next {s u : State} {qp : PredIdx} {t : Except Exc Unit} {b : Except Exc Res} (h : run s qp t b = .next u) :
    (∃ i, (t = .error (.intr i) ∨ (t = .ok () ∧ s.pred qp = true ∧ b = .error (.intr i))) ∧
      u = s.takeInterruption i s.ri) ∨
    (t = .ok () ∧ s.pred qp = false ∧ u = retire s { s := s.emit .squashed }) ∨
    (∃ r, t = .ok () ∧ s.pred qp = true ∧ b = .ok r ∧ u = retire s r) := by
  unfold run at h
  cases t with
  | error e =>
    rcases finish_next h with ⟨r', hr, _⟩ | ⟨i, hi, hu⟩
    · simp [Except.bind] at hr
    · simp only [Except.bind] at hi
      injection hi with hi
      exact .inl ⟨i, .inl (by rw [hi]), hu⟩
  | ok x =>
    by_cases hq : s.pred qp = true
    · simp only [Except.bind, hq, if_true] at h
      rcases finish_next h with ⟨r', hr, hu⟩ | ⟨i, hi, hu⟩
      · exact .inr (.inr ⟨r', rfl, hq, hr, hu⟩)
      · exact .inl ⟨i, .inr ⟨rfl, hq, hi⟩, hu⟩
    · have hq' : s.pred qp = false := by simpa using hq
      simp only [Except.bind, hq', Bool.false_eq_true, if_false, finish_ok] at h
      injection h with h
      exact .inr (.inl ⟨rfl, hq', h.symm⟩)

/-- Everything a compare can answer with a next state (R325). -/
theorem compare_next {s u : State} {c : PrClass} {qp p1 p2 : PredIdx} {ct : CmpType} {b : Except Exc (State × Bool × Bool)}
    (h : compare s c qp ct p1 p2 b = .next u) :
    (∃ i, u = s.takeInterruption i s.ri) ∨
    (s.pred qp = false ∧ u = retire s { s := (s.cmpSquash c ct p1 p2).emit .squashed }) ∨
    (∃ t, s.pred qp = true ∧ b = .ok t ∧ u = retire s { s := t.1.cmpWrite c ct p1 p2 t.2.1 t.2.2 }) := by
  unfold compare at h
  rcases finish_next h with ⟨r', hr, hu⟩ | ⟨i, _, hu⟩
  · cases hc : require (cmpTargetsOk ct (s.pred qp) p1 p2) illegalOp with
    | error e => simp [hc, Except.bind] at hr
    | ok x =>
      simp only [hc, Except.bind] at hr
      by_cases hq : s.pred qp = true
      · simp only [hq, if_true] at hr
        cases hb : b with
        | error e => simp [hb, Except.map] at hr
        | ok t =>
          simp only [hb, Except.map] at hr
          injection hr with hr
          exact .inr (.inr ⟨t, hq, rfl, by rw [hu, ← hr]⟩)
      · have hq' : s.pred qp = false := by simpa using hq
        simp only [hq', Bool.false_eq_true, if_false] at hr
        injection hr with hr
        exact .inr (.inl ⟨hq', by rw [hu, ← hr]⟩)
  · exact .inl ⟨i, hu⟩

/-- A property of states that emitting events, taking interruptions and completing keep holds after an instruction when its
body keeps it. The property may speak of the fields that `retire` and `takeInterruption` leave alone. -/
theorem finish_keeps (P : State → Prop) (hi : ∀ s i, P s → P (s.takeInterruption i s.ri))
    (hr : ∀ s0 r, P r.s → P (retire s0 r)) {s u : State} {r : Except Exc Res} (hs : P s)
    (hb : ∀ r', r = .ok r' → P r'.s) (h : finish s r = .next u) : P u := by
  rcases finish_next h with ⟨r', e, rfl⟩ | ⟨i, _, rfl⟩
  · exact hr _ _ (hb r' e)
  · exact hi _ _ hs

/-- An instruction whose body keeps the canonical form of memory keeps it. -/
theorem finish_mem_wf {s u : State} {r : Except Exc Res} (hs : Memory.wf s.mem = true)
    (hb : ∀ r', r = .ok r' → Memory.wf r'.s.mem = true) (h : finish s r = .next u) : Memory.wf u.mem = true :=
  finish_keeps (fun t => Memory.wf t.mem = true) (fun _ _ h => by simpa using h) (fun _ _ h => by simpa using h) hs hb h

/-! ### What the TLBs do on their own -/

/-- What a walk that is made can leave: nothing new, or the entry it finds in one translation cache, noted for the monitors (R160,
R568). -/
theorem State.walked_cases (s : State) (instr : Bool) (va : Word) :
    s.walked instr va = s ∨
    ∃ e, s.walkFinds va = some e ∧ hitsReg (if instr then s.itr else s.dtr) e = false ∧
      s.walked instr va = (s.insertTc instr e).emit (.tlbMiss instr va .vhpt false) := by
  unfold State.walked
  cases s.walkFinds va with
  | none => exact .inl rfl
  | some e =>
    by_cases hr : hitsReg (if instr then s.itr else s.dtr) e = true
    · exact .inl (if_pos hr)
    · exact .inr ⟨e, rfl, by simpa using hr, if_neg hr⟩

/-- The monitors see a walk at most as one more event (R750). -/
theorem State.walkNote_events (s : State) (va : Word) : ∃ evs, s.walkNote va = { s with events := evs } := by
  unfold State.walkNote
  split
  · exact ⟨_, rfl⟩
  · exact ⟨s.events, rfl⟩

/-- What a walk can do: it is seen by the monitors at most, or it also puts the entry it finds into one translation cache; then the
first-level data TLB may take the translation in (R160, R568, R860). -/
theorem State.walkInsert_cases (s : State) (site : Nat) :
    ∃ t : State, (s.walkInsert site = t ∨ ∃ va, s.walkInsert site = { t with l1dtlb := t.l1dUsed va }) ∧
      ((∃ evs, t = { s with events := evs }) ∨
        ∃ instr va e evs, s.walks instr va = true ∧ s.walkFinds va = some e ∧
          hitsReg (if instr then s.itr else s.dtr) e = false ∧ t = { s.insertTc instr e with events := evs }) := by
  unfold State.walkInsert
  dsimp only
  split
  · next h =>
    refine ⟨(s.walkNote (s.free (site + 1))).walked (s.freeBool site) (s.free (site + 1)), ?_, ?_⟩
    · split
      · exact .inr ⟨_, rfl⟩
      · exact .inl rfl
    · obtain ⟨evs, hn⟩ := s.walkNote_events (s.free (site + 1))
      rw [hn]
      rcases State.walked_cases { s with events := evs } (s.freeBool site) (s.free (site + 1)) with hw | ⟨e, hf, hr, hw⟩
      · exact .inl ⟨evs, hw⟩
      · refine .inr ⟨_, _, e, .tlbMiss (s.freeBool site) (s.free (site + 1)) .vhpt false :: evs, h, hf, hr, hw.trans ?_⟩
        unfold State.insertTc
        cases s.freeBool site <;> rfl
  · exact ⟨s, .inl rfl, .inl ⟨s.events, rfl⟩⟩

/-- `t` differs from `s` in the translation caches, the first-level TLBs and the monitors' events at most. -/
def State.TlbsOnly (s t : State) : Prop :=
  t = { s with itcache := t.itcache, dtcache := t.dtcache, l1itlb := t.l1itlb, l1dtlb := t.l1dtlb, events := t.events }

theorem State.TlbsOnly.refl (s : State) : s.TlbsOnly s := rfl

theorem State.TlbsOnly.trans {s t u : State} (h : s.TlbsOnly t) (g : t.TlbsOnly u) : s.TlbsOnly u := by
  unfold State.TlbsOnly at *
  rw [h] at g
  exact g

/-- A part of the state that has nothing to do with the TLBs and the monitors' events. -/
theorem State.TlbsOnly.part {α : Type} {s t : State} (h : s.TlbsOnly t) (f : State → α)
    (hf : ∀ (s : State) a b c d e,
      f { s with itcache := a, dtcache := b, l1itlb := c, l1dtlb := d, events := e } = f s) : f t = f s := by
  rw [h]
  exact hf _ _ _ _ _ _

/-- A walk changes the TLBs only. -/
theorem State.walkInsert_tlbsOnly (s : State) (site : Nat) : s.TlbsOnly (s.walkInsert site) := by
  obtain ⟨t, hu, ht⟩ := s.walkInsert_cases site
  have h : s.TlbsOnly t := by
    rcases ht with ⟨evs, rfl⟩ | ⟨b, va, e, evs, -, -, -, rfl⟩
    · rfl
    · cases b <;> rfl
  rcases hu with hu | ⟨va, hu⟩
  · rw [hu]; exact h
  · rw [hu]; exact h.trans rfl

/-- What every walk keeps, the walks before an instruction keep. -/
theorem State.walkFree_keeps (P : State → Prop) (h : ∀ s site, P s → P (s.walkInsert site)) (s : State) (hs : P s) :
    P s.walkFree := by
  have many : ∀ n s, P s → P (State.walkMany n s) := fun n => by
    induction n with
    | zero => exact fun _ h => h
    | succ n ih => exact fun s hs => ih _ (h s _ hs)
  unfold State.walkFree
  split
  · exact many _ _ hs
  · exact hs

/-- What every transfer into the first-level data TLB keeps, the transfers before an instruction keep. -/
theorem State.l1dFree_keeps (P : State → Prop) (h : ∀ s va, P s → P (s.l1dTransfer va)) (s : State) (hs : P s) :
    P s.l1dFree := by
  have many : ∀ n s, P s → P (State.l1dMany n s) := fun n => by
    induction n with
    | zero => exact fun _ h => h
    | succ n ih => exact fun s hs => ih _ (h s _ hs)
  unfold State.l1dFree
  split
  · exact many _ _ hs
  · exact hs

/-- What walks and transfers keep, the TLBs keep before an instruction. -/
theorem State.tlbFree_keeps (P : State → Prop) (hw : ∀ s site, P s → P (s.walkInsert site))
    (hm : ∀ s va, P s → P (s.l1dTransfer va)) (s : State) (hs : P s) : P s.tlbFree :=
  State.l1dFree_keeps P hm _ (State.walkFree_keeps P hw s hs)

/-- A transfer changes the first-level data TLB and the monitors' events at most. -/
theorem State.l1dTransfer_tlbsOnly (s : State) (va : Word) : s.TlbsOnly (s.l1dTransfer va) := by
  unfold State.l1dTransfer
  split
  · rfl
  · exact .refl s

/-- What the TLBs do before an instruction changes them only. -/
theorem State.tlbFree_tlbsOnly (s : State) : s.TlbsOnly s.tlbFree :=
  State.tlbFree_keeps s.TlbsOnly (fun t n h => h.trans (t.walkInsert_tlbsOnly n))
    (fun t va h => h.trans (t.l1dTransfer_tlbsOnly va)) s (.refl s)

section Walks

variable (s : State) (site : Nat)

/-! What a walk, and the TLBs before an instruction, keep. -/

@[simp] theorem State.walkInsert_cur : (s.walkInsert site).cur = s.cur :=
  (s.walkInsert_tlbsOnly site).part State.cur (fun _ _ _ _ _ _ => rfl)
@[simp] theorem State.walkInsert_old : (s.walkInsert site).old = s.old :=
  (s.walkInsert_tlbsOnly site).part State.old (fun _ _ _ _ _ _ => rfl)
@[simp] theorem State.walkInsert_cfm : (s.walkInsert site).cfm = s.cfm :=
  (s.walkInsert_tlbsOnly site).part State.cfm (fun _ _ _ _ _ _ => rfl)
@[simp] theorem State.walkInsert_psr : (s.walkInsert site).psr = s.psr :=
  (s.walkInsert_tlbsOnly site).part State.psr (fun _ _ _ _ _ _ => rfl)
@[simp] theorem State.walkInsert_ip : (s.walkInsert site).ip = s.ip :=
  (s.walkInsert_tlbsOnly site).part State.ip (fun _ _ _ _ _ _ => rfl)
@[simp] theorem State.walkInsert_cr : (s.walkInsert site).cr = s.cr :=
  (s.walkInsert_tlbsOnly site).part State.cr (fun _ _ _ _ _ _ => rfl)
@[simp] theorem State.walkInsert_mem : (s.walkInsert site).mem = s.mem :=
  (s.walkInsert_tlbsOnly site).part State.mem (fun _ _ _ _ _ _ => rfl)
@[simp] theorem State.walkInsert_rr : (s.walkInsert site).rr = s.rr :=
  (s.walkInsert_tlbsOnly site).part State.rr (fun _ _ _ _ _ _ => rfl)
@[simp] theorem State.walkInsert_itr : (s.walkInsert site).itr = s.itr :=
  (s.walkInsert_tlbsOnly site).part State.itr (fun _ _ _ _ _ _ => rfl)
@[simp] theorem State.walkInsert_dtr : (s.walkInsert site).dtr = s.dtr :=
  (s.walkInsert_tlbsOnly site).part State.dtr (fun _ _ _ _ _ _ => rfl)
@[simp] theorem State.walkInsert_wcb : (s.walkInsert site).wcb = s.wcb :=
  (s.walkInsert_tlbsOnly site).part State.wcb (fun _ _ _ _ _ _ => rfl)
@[simp] theorem State.walkInsert_pmc : (s.walkInsert site).pmc = s.pmc :=
  (s.walkInsert_tlbsOnly site).part State.pmc (fun _ _ _ _ _ _ => rfl)
@[simp] theorem State.walkInsert_pmd : (s.walkInsert site).pmd = s.pmd :=
  (s.walkInsert_tlbsOnly site).part State.pmd (fun _ _ _ _ _ _ => rfl)

@[simp] theorem State.tlbFree_cur : s.tlbFree.cur = s.cur := s.tlbFree_tlbsOnly.part State.cur (fun _ _ _ _ _ _ => rfl)
@[simp] theorem State.tlbFree_old : s.tlbFree.old = s.old := s.tlbFree_tlbsOnly.part State.old (fun _ _ _ _ _ _ => rfl)
@[simp] theorem State.tlbFree_cfm : s.tlbFree.cfm = s.cfm := s.tlbFree_tlbsOnly.part State.cfm (fun _ _ _ _ _ _ => rfl)
@[simp] theorem State.tlbFree_psr : s.tlbFree.psr = s.psr := s.tlbFree_tlbsOnly.part State.psr (fun _ _ _ _ _ _ => rfl)
@[simp] theorem State.tlbFree_ip : s.tlbFree.ip = s.ip := s.tlbFree_tlbsOnly.part State.ip (fun _ _ _ _ _ _ => rfl)
@[simp] theorem State.tlbFree_cr : s.tlbFree.cr = s.cr := s.tlbFree_tlbsOnly.part State.cr (fun _ _ _ _ _ _ => rfl)
@[simp] theorem State.tlbFree_mem : s.tlbFree.mem = s.mem := s.tlbFree_tlbsOnly.part State.mem (fun _ _ _ _ _ _ => rfl)
@[simp] theorem State.tlbFree_rr : s.tlbFree.rr = s.rr := s.tlbFree_tlbsOnly.part State.rr (fun _ _ _ _ _ _ => rfl)
@[simp] theorem State.tlbFree_itr : s.tlbFree.itr = s.itr := s.tlbFree_tlbsOnly.part State.itr (fun _ _ _ _ _ _ => rfl)
@[simp] theorem State.tlbFree_dtr : s.tlbFree.dtr = s.dtr := s.tlbFree_tlbsOnly.part State.dtr (fun _ _ _ _ _ _ => rfl)
@[simp] theorem State.tlbFree_wcb : s.tlbFree.wcb = s.wcb := s.tlbFree_tlbsOnly.part State.wcb (fun _ _ _ _ _ _ => rfl)
@[simp] theorem State.tlbFree_pmc : s.tlbFree.pmc = s.pmc := s.tlbFree_tlbsOnly.part State.pmc (fun _ _ _ _ _ _ => rfl)
@[simp] theorem State.tlbFree_pmd : s.tlbFree.pmd = s.pmd := s.tlbFree_tlbsOnly.part State.pmd (fun _ _ _ _ _ _ => rfl)

end Walks

end Sys2Proof.Machine
end

