-- ==== Sys2Proof/Laws/PerInstr.lean ====
section
/-! SUPPORT. Laws/PerInstr.lean: the statements made once for every constructor of `Instr`. -/

namespace Sys2Proof.Laws

/-- Only an instruction of an MLX bundle's long slot uses the bits of the L slot (R235, R238). -/
def Encoding.Statement (i : Instr) : Prop :=
  (match encode i with
    | none => true
    | some e => e.slot == .X || e.long == 0) = true

theorem Encoding.addR1R2R3 (qp : PredIdx) (r1 : GrIdx) (r2 : GrIdx) (r3 : GrIdx) :
    Encoding.Statement (.addR1R2R3 qp r1 r2 r3) := rfl
theorem Encoding.addR1R2R31 (qp : PredIdx) (r1 : GrIdx) (r2 : GrIdx) (r3 : GrIdx) :
    Encoding.Statement (.addR1R2R31 qp r1 r2 r3) := rfl
theorem Encoding.subR1R2R3 (qp : PredIdx) (r1 : GrIdx) (r2 : GrIdx) (r3 : GrIdx) :
    Encoding.Statement (.subR1R2R3 qp r1 r2 r3) := rfl
theorem Encoding.subR1R2R31 (qp : PredIdx) (r1 : GrIdx) (r2 : GrIdx) (r3 : GrIdx) :
    Encoding.Statement (.subR1R2R31 qp r1 r2 r3) := rfl
theorem Encoding.addp4R1R2R3 (qp : PredIdx) (r1 : GrIdx) (r2 : GrIdx) (r3 : GrIdx) :
    Encoding.Statement (.addp4R1R2R3 qp r1 r2 r3) := rfl
theorem Encoding.andR1R2R3 (qp : PredIdx) (r1 : GrIdx) (r2 : GrIdx) (r3 : GrIdx) :
    Encoding.Statement (.andR1R2R3 qp r1 r2 r3) := rfl
theorem Encoding.andcmR1R2R3 (qp : PredIdx) (r1 : GrIdx) (r2 : GrIdx) (r3 : GrIdx) :
    Encoding.Statement (.andcmR1R2R3 qp r1 r2 r3) := rfl
theorem Encoding.orR1R2R3 (qp : PredIdx) (r1 : GrIdx) (r2 : GrIdx) (r3 : GrIdx) :
    Encoding.Statement (.orR1R2R3 qp r1 r2 r3) := rfl
theorem Encoding.xorR1R2R3 (qp : PredIdx) (r1 : GrIdx) (r2 : GrIdx) (r3 : GrIdx) :
    Encoding.Statement (.xorR1R2R3 qp r1 r2 r3) := rfl
theorem Encoding.shladdR1R2Count2R3 (qp : PredIdx) (r1 : GrIdx) (r2 : GrIdx) (ct2d : BitVec 2) (r3 : GrIdx) :
    Encoding.Statement (.shladdR1R2Count2R3 qp r1 r2 ct2d r3) := rfl
theorem Encoding.shladdp4R1R2Count2R3 (qp : PredIdx) (r1 : GrIdx) (r2 : GrIdx) (ct2d : BitVec 2) (r3 : GrIdx) :
    Encoding.Statement (.shladdp4R1R2Count2R3 qp r1 r2 ct2d r3) := rfl
theorem Encoding.subR1Imm8R3 (qp : PredIdx) (r1 : GrIdx) (imm8 : BitVec 8) (r3 : GrIdx) :
    Encoding.Statement (.subR1Imm8R3 qp r1 imm8 r3) := rfl
theorem Encoding.andR1Imm8R3 (qp : PredIdx) (r1 : GrIdx) (imm8 : BitVec 8) (r3 : GrIdx) :
    Encoding.Statement (.andR1Imm8R3 qp r1 imm8 r3) := rfl
theorem Encoding.andcmR1Imm8R3 (qp : PredIdx) (r1 : GrIdx) (imm8 : BitVec 8) (r3 : GrIdx) :
    Encoding.Statement (.andcmR1Imm8R3 qp r1 imm8 r3) := rfl
theorem Encoding.orR1Imm8R3 (qp : PredIdx) (r1 : GrIdx) (imm8 : BitVec 8) (r3 : GrIdx) :
    Encoding.Statement (.orR1Imm8R3 qp r1 imm8 r3) := rfl
theorem Encoding.xorR1Imm8R3 (qp : PredIdx) (r1 : GrIdx) (imm8 : BitVec 8) (r3 : GrIdx) :
    Encoding.Statement (.xorR1Imm8R3 qp r1 imm8 r3) := rfl
theorem Encoding.addsR1Imm14R3 (qp : PredIdx) (r1 : GrIdx) (imm14 : BitVec 14) (r3 : GrIdx) :
    Encoding.Statement (.addsR1Imm14R3 qp r1 imm14 r3) := rfl
theorem Encoding.addp4R1Imm14R3 (qp : PredIdx) (r1 : GrIdx) (imm14 : BitVec 14) (r3 : GrIdx) :
    Encoding.Statement (.addp4R1Imm14R3 qp r1 imm14 r3) := rfl
theorem Encoding.addlR1Imm22R3 (qp : PredIdx) (r1 : GrIdx) (imm22 : BitVec 22) (r3 : BitVec 2) :
    Encoding.Statement (.addlR1Imm22R3 qp r1 imm22 r3) := rfl
theorem Encoding.cmpLtP1P2R2R3 (qp : PredIdx) (p1 : PredIdx) (p2 : PredIdx) (r2 : GrIdx) (r3 : GrIdx) :
    Encoding.Statement (.cmpLtP1P2R2R3 qp p1 p2 r2 r3) := rfl
theorem Encoding.cmpLtUncP1P2R2R3 (qp : PredIdx) (p1 : PredIdx) (p2 : PredIdx) (r2 : GrIdx) (r3 : GrIdx) :
    Encoding.Statement (.cmpLtUncP1P2R2R3 qp p1 p2 r2 r3) := rfl
theorem Encoding.cmp4LtP1P2R2R3 (qp : PredIdx) (p1 : PredIdx) (p2 : PredIdx) (r2 : GrIdx) (r3 : GrIdx) :
    Encoding.Statement (.cmp4LtP1P2R2R3 qp p1 p2 r2 r3) := rfl
theorem Encoding.cmp4LtUncP1P2R2R3 (qp : PredIdx) (p1 : PredIdx) (p2 : PredIdx) (r2 : GrIdx) (r3 : GrIdx) :
    Encoding.Statement (.cmp4LtUncP1P2R2R3 qp p1 p2 r2 r3) := rfl
theorem Encoding.cmpLtP1P2Imm8R3 (qp : PredIdx) (p1 : PredIdx) (p2 : PredIdx) (imm8 : BitVec 8) (r3 : GrIdx) :
    Encoding.Statement (.cmpLtP1P2Imm8R3 qp p1 p2 imm8 r3) := rfl
theorem Encoding.cmpLtUncP1P2Imm8R3 (qp : PredIdx) (p1 : PredIdx) (p2 : PredIdx) (imm8 : BitVec 8) (r3 : GrIdx) :
    Encoding.Statement (.cmpLtUncP1P2Imm8R3 qp p1 p2 imm8 r3) := rfl
theorem Encoding.cmp4LtP1P2Imm8R3 (qp : PredIdx) (p1 : PredIdx) (p2 : PredIdx) (imm8 : BitVec 8) (r3 : GrIdx) :
    Encoding.Statement (.cmp4LtP1P2Imm8R3 qp p1 p2 imm8 r3) := rfl
theorem Encoding.cmp4LtUncP1P2Imm8R3 (qp : PredIdx) (p1 : PredIdx) (p2 : PredIdx) (imm8 : BitVec 8) (r3 : GrIdx) :
    Encoding.Statement (.cmp4LtUncP1P2Imm8R3 qp p1 p2 imm8 r3) := rfl
theorem Encoding.cmpLtuP1P2R2R3 (qp : PredIdx) (p1 : PredIdx) (p2 : PredIdx) (r2 : GrIdx) (r3 : GrIdx) :
    Encoding.Statement (.cmpLtuP1P2R2R3 qp p1 p2 r2 r3) := rfl
theorem Encoding.cmpLtuUncP1P2R2R3 (qp : PredIdx) (p1 : PredIdx) (p2 : PredIdx) (r2 : GrIdx) (r3 : GrIdx) :
    Encoding.Statement (.cmpLtuUncP1P2R2R3 qp p1 p2 r2 r3) := rfl
theorem Encoding.cmp4LtuP1P2R2R3 (qp : PredIdx) (p1 : PredIdx) (p2 : PredIdx) (r2 : GrIdx) (r3 : GrIdx) :
    Encoding.Statement (.cmp4LtuP1P2R2R3 qp p1 p2 r2 r3) := rfl
theorem Encoding.cmp4LtuUncP1P2R2R3 (qp : PredIdx) (p1 : PredIdx) (p2 : PredIdx) (r2 : GrIdx) (r3 : GrIdx) :
    Encoding.Statement (.cmp4LtuUncP1P2R2R3 qp p1 p2 r2 r3) := rfl
theorem Encoding.cmpLtuP1P2Imm8R3 (qp : PredIdx) (p1 : PredIdx) (p2 : PredIdx) (imm8 : BitVec 8) (r3 : GrIdx) :
    Encoding.Statement (.cmpLtuP1P2Imm8R3 qp p1 p2 imm8 r3) := rfl
theorem Encoding.cmpLtuUncP1P2Imm8R3 (qp : PredIdx) (p1 : PredIdx) (p2 : PredIdx) (imm8 : BitVec 8) (r3 : GrIdx) :
    Encoding.Statement (.cmpLtuUncP1P2Imm8R3 qp p1 p2 imm8 r3) := rfl
theorem Encoding.cmp4LtuP1P2Imm8R3 (qp : PredIdx) (p1 : PredIdx) (p2 : PredIdx) (imm8 : BitVec 8) (r3 : GrIdx) :
    Encoding.Statement (.cmp4LtuP1P2Imm8R3 qp p1 p2 imm8 r3) := rfl
theorem Encoding.cmp4LtuUncP1P2Imm8R3 (qp : PredIdx) (p1 : PredIdx) (p2 : PredIdx) (imm8 : BitVec 8) (r3 : GrIdx) :
    Encoding.Statement (.cmp4LtuUncP1P2Imm8R3 qp p1 p2 imm8 r3) := rfl
theorem Encoding.cmpEqP1P2R2R3 (qp : PredIdx) (p1 : PredIdx) (p2 : PredIdx) (r2 : GrIdx) (r3 : GrIdx) :
    Encoding.Statement (.cmpEqP1P2R2R3 qp p1 p2 r2 r3) := rfl
theorem Encoding.cmpEqUncP1P2R2R3 (qp : PredIdx) (p1 : PredIdx) (p2 : PredIdx) (r2 : GrIdx) (r3 : GrIdx) :
    Encoding.Statement (.cmpEqUncP1P2R2R3 qp p1 p2 r2 r3) := rfl
theorem Encoding.cmp4EqP1P2R2R3 (qp : PredIdx) (p1 : PredIdx) (p2 : PredIdx) (r2 : GrIdx) (r3 : GrIdx) :
    Encoding.Statement (.cmp4EqP1P2R2R3 qp p1 p2 r2 r3) := rfl
theorem Encoding.cmp4EqUncP1P2R2R3 (qp : PredIdx) (p1 : PredIdx) (p2 : PredIdx) (r2 : GrIdx) (r3 : GrIdx) :
    Encoding.Statement (.cmp4EqUncP1P2R2R3 qp p1 p2 r2 r3) := rfl
theorem Encoding.cmpEqP1P2Imm8R3 (qp : PredIdx) (p1 : PredIdx) (p2 : PredIdx) (imm8 : BitVec 8) (r3 : GrIdx) :
    Encoding.Statement (.cmpEqP1P2Imm8R3 qp p1 p2 imm8 r3) := rfl
theorem Encoding.cmpEqUncP1P2Imm8R3 (qp : PredIdx) (p1 : PredIdx) (p2 : PredIdx) (imm8 : BitVec 8) (r3 : GrIdx) :
    Encoding.Statement (.cmpEqUncP1P2Imm8R3 qp p1 p2 imm8 r3) := rfl
theorem Encoding.cmp4EqP1P2Imm8R3 (qp : PredIdx) (p1 : PredIdx) (p2 : PredIdx) (imm8 : BitVec 8) (r3 : GrIdx) :
    Encoding.Statement (.cmp4EqP1P2Imm8R3 qp p1 p2 imm8 r3) := rfl
theorem Encoding.cmp4EqUncP1P2Imm8R3 (qp : PredIdx) (p1 : PredIdx) (p2 : PredIdx) (imm8 : BitVec 8) (r3 : GrIdx) :
    Encoding.Statement (.cmp4EqUncP1P2Imm8R3 qp p1 p2 imm8 r3) := rfl
theorem Encoding.cmpEqAndP1P2R2R3 (qp : PredIdx) (p1 : PredIdx) (p2 : PredIdx) (r2 : GrIdx) (r3 : GrIdx) :
    Encoding.Statement (.cmpEqAndP1P2R2R3 qp p1 p2 r2 r3) := rfl
theorem Encoding.cmpEqAndP1P2Imm8R3 (qp : PredIdx) (p1 : PredIdx) (p2 : PredIdx) (imm8 : BitVec 8) (r3 : GrIdx) :
    Encoding.Statement (.cmpEqAndP1P2Imm8R3 qp p1 p2 imm8 r3) := rfl
theorem Encoding.cmpNeAndP1P2R2R3 (qp : PredIdx) (p1 : PredIdx) (p2 : PredIdx) (r2 : GrIdx) (r3 : GrIdx) :
    Encoding.Statement (.cmpNeAndP1P2R2R3 qp p1 p2 r2 r3) := rfl
theorem Encoding.cmpNeAndP1P2Imm8R3 (qp : PredIdx) (p1 : PredIdx) (p2 : PredIdx) (imm8 : BitVec 8) (r3 : GrIdx) :
    Encoding.Statement (.cmpNeAndP1P2Imm8R3 qp p1 p2 imm8 r3) := rfl
theorem Encoding.cmpGtAndP1P2R0R3 (qp : PredIdx) (p1 : PredIdx) (p2 : PredIdx) (r3 : GrIdx) :
    Encoding.Statement (.cmpGtAndP1P2R0R3 qp p1 p2 r3) := rfl
theorem Encoding.cmpLeAndP1P2R0R3 (qp : PredIdx) (p1 : PredIdx) (p2 : PredIdx) (r3 : GrIdx) :
    Encoding.Statement (.cmpLeAndP1P2R0R3 qp p1 p2 r3) := rfl
theorem Encoding.cmpGeAndP1P2R0R3 (qp : PredIdx) (p1 : PredIdx) (p2 : PredIdx) (r3 : GrIdx) :
    Encoding.Statement (.cmpGeAndP1P2R0R3 qp p1 p2 r3) := rfl
theorem Encoding.cmpLtAndP1P2R0R3 (qp : PredIdx) (p1 : PredIdx) (p2 : PredIdx) (r3 : GrIdx) :
    Encoding.Statement (.cmpLtAndP1P2R0R3 qp p1 p2 r3) := rfl
theorem Encoding.cmpEqOrP1P2R2R3 (qp : PredIdx) (p1 : PredIdx) (p2 : PredIdx) (r2 : GrIdx) (r3 : GrIdx) :
    Encoding.Statement (.cmpEqOrP1P2R2R3 qp p1 p2 r2 r3) := rfl
theorem Encoding.cmpEqOrP1P2Imm8R3 (qp : PredIdx) (p1 : PredIdx) (p2 : PredIdx) (imm8 : BitVec 8) (r3 : GrIdx) :
    Encoding.Statement (.cmpEqOrP1P2Imm8R3 qp p1 p2 imm8 r3) := rfl
theorem Encoding.cmpNeOrP1P2R2R3 (qp : PredIdx) (p1 : PredIdx) (p2 : PredIdx) (r2 : GrIdx) (r3 : GrIdx) :
    Encoding.Statement (.cmpNeOrP1P2R2R3 qp p1 p2 r2 r3) := rfl
theorem Encoding.cmpNeOrP1P2Imm8R3 (qp : PredIdx) (p1 : PredIdx) (p2 : PredIdx) (imm8 : BitVec 8) (r3 : GrIdx) :
    Encoding.Statement (.cmpNeOrP1P2Imm8R3 qp p1 p2 imm8 r3) := rfl
theorem Encoding.cmpGtOrP1P2R0R3 (qp : PredIdx) (p1 : PredIdx) (p2 : PredIdx) (r3 : GrIdx) :
    Encoding.Statement (.cmpGtOrP1P2R0R3 qp p1 p2 r3) := rfl
theorem Encoding.cmpLeOrP1P2R0R3 (qp : PredIdx) (p1 : PredIdx) (p2 : PredIdx) (r3 : GrIdx) :
    Encoding.Statement (.cmpLeOrP1P2R0R3 qp p1 p2 r3) := rfl
theorem Encoding.cmpGeOrP1P2R0R3 (qp : PredIdx) (p1 : PredIdx) (p2 : PredIdx) (r3 : GrIdx) :
    Encoding.Statement (.cmpGeOrP1P2R0R3 qp p1 p2 r3) := rfl
theorem Encoding.cmpLtOrP1P2R0R3 (qp : PredIdx) (p1 : PredIdx) (p2 : PredIdx) (r3 : GrIdx) :
    Encoding.Statement (.cmpLtOrP1P2R0R3 qp p1 p2 r3) := rfl
theorem Encoding.cmpEqOrAndcmP1P2R2R3 (qp : PredIdx) (p1 : PredIdx) (p2 : PredIdx) (r2 : GrIdx) (r3 : GrIdx) :
    Encoding.Statement (.cmpEqOrAndcmP1P2R2R3 qp p1 p2 r2 r3) := rfl
theorem Encoding.cmpEqOrAndcmP1P2Imm8R3 (qp : PredIdx) (p1 : PredIdx) (p2 : PredIdx) (imm8 : BitVec 8) (r3 : GrIdx) :
    Encoding.Statement (.cmpEqOrAndcmP1P2Imm8R3 qp p1 p2 imm8 r3) := rfl
theorem Encoding.cmpNeOrAndcmP1P2R2R3 (qp : PredIdx) (p1 : PredIdx) (p2 : PredIdx) (r2 : GrIdx) (r3 : GrIdx) :
    Encoding.Statement (.cmpNeOrAndcmP1P2R2R3 qp p1 p2 r2 r3) := rfl
theorem Encoding.cmpNeOrAndcmP1P2Imm8R3 (qp : PredIdx) (p1 : PredIdx) (p2 : PredIdx) (imm8 : BitVec 8) (r3 : GrIdx) :
    Encoding.Statement (.cmpNeOrAndcmP1P2Imm8R3 qp p1 p2 imm8 r3) := rfl
theorem Encoding.cmpGtOrAndcmP1P2R0R3 (qp : PredIdx) (p1 : PredIdx) (p2 : PredIdx) (r3 : GrIdx) :
    Encoding.Statement (.cmpGtOrAndcmP1P2R0R3 qp p1 p2 r3) := rfl
theorem Encoding.cmpLeOrAndcmP1P2R0R3 (qp : PredIdx) (p1 : PredIdx) (p2 : PredIdx) (r3 : GrIdx) :
    Encoding.Statement (.cmpLeOrAndcmP1P2R0R3 qp p1 p2 r3) := rfl
theorem Encoding.cmpGeOrAndcmP1P2R0R3 (qp : PredIdx) (p1 : PredIdx) (p2 : PredIdx) (r3 : GrIdx) :
    Encoding.Statement (.cmpGeOrAndcmP1P2R0R3 qp p1 p2 r3) := rfl
theorem Encoding.cmpLtOrAndcmP1P2R0R3 (qp : PredIdx) (p1 : PredIdx) (p2 : PredIdx) (r3 : GrIdx) :
    Encoding.Statement (.cmpLtOrAndcmP1P2R0R3 qp p1 p2 r3) := rfl
theorem Encoding.cmp4EqAndP1P2R2R3 (qp : PredIdx) (p1 : PredIdx) (p2 : PredIdx) (r2 : GrIdx) (r3 : GrIdx) :
    Encoding.Statement (.cmp4EqAndP1P2R2R3 qp p1 p2 r2 r3) := rfl
theorem Encoding.cmp4EqAndP1P2Imm8R3 (qp : PredIdx) (p1 : PredIdx) (p2 : PredIdx) (imm8 : BitVec 8) (r3 : GrIdx) :
    Encoding.Statement (.cmp4EqAndP1P2Imm8R3 qp p1 p2 imm8 r3) := rfl
theorem Encoding.cmp4NeAndP1P2R2R3 (qp : PredIdx) (p1 : PredIdx) (p2 : PredIdx) (r2 : GrIdx) (r3 : GrIdx) :
    Encoding.Statement (.cmp4NeAndP1P2R2R3 qp p1 p2 r2 r3) := rfl
theorem Encoding.cmp4NeAndP1P2Imm8R3 (qp : PredIdx) (p1 : PredIdx) (p2 : PredIdx) (imm8 : BitVec 8) (r3 : GrIdx) :
    Encoding.Statement (.cmp4NeAndP1P2Imm8R3 qp p1 p2 imm8 r3) := rfl
theorem Encoding.cmp4GtAndP1P2R0R3 (qp : PredIdx) (p1 : PredIdx) (p2 : PredIdx) (r3 : GrIdx) :
    Encoding.Statement (.cmp4GtAndP1P2R0R3 qp p1 p2 r3) := rfl
theorem Encoding.cmp4LeAndP1P2R0R3 (qp : PredIdx) (p1 : PredIdx) (p2 : PredIdx) (r3 : GrIdx) :
    Encoding.Statement (.cmp4LeAndP1P2R0R3 qp p1 p2 r3) := rfl
theorem Encoding.cmp4GeAndP1P2R0R3 (qp : PredIdx) (p1 : PredIdx) (p2 : PredIdx) (r3 : GrIdx) :
    Encoding.Statement (.cmp4GeAndP1P2R0R3 qp p1 p2 r3) := rfl
theorem Encoding.cmp4LtAndP1P2R0R3 (qp : PredIdx) (p1 : PredIdx) (p2 : PredIdx) (r3 : GrIdx) :
    Encoding.Statement (.cmp4LtAndP1P2R0R3 qp p1 p2 r3) := rfl
theorem Encoding.cmp4EqOrP1P2R2R3 (qp : PredIdx) (p1 : PredIdx) (p2 : PredIdx) (r2 : GrIdx) (r3 : GrIdx) :
    Encoding.Statement (.cmp4EqOrP1P2R2R3 qp p1 p2 r2 r3) := rfl
theorem Encoding.cmp4EqOrP1P2Imm8R3 (qp : PredIdx) (p1 : PredIdx) (p2 : PredIdx) (imm8 : BitVec 8) (r3 : GrIdx) :
    Encoding.Statement (.cmp4EqOrP1P2Imm8R3 qp p1 p2 imm8 r3) := rfl
theorem Encoding.cmp4NeOrP1P2R2R3 (qp : PredIdx) (p1 : PredIdx) (p2 : PredIdx) (r2 : GrIdx) (r3 : GrIdx) :
    Encoding.Statement (.cmp4NeOrP1P2R2R3 qp p1 p2 r2 r3) := rfl
theorem Encoding.cmp4NeOrP1P2Imm8R3 (qp : PredIdx) (p1 : PredIdx) (p2 : PredIdx) (imm8 : BitVec 8) (r3 : GrIdx) :
    Encoding.Statement (.cmp4NeOrP1P2Imm8R3 qp p1 p2 imm8 r3) := rfl
theorem Encoding.cmp4GtOrP1P2R0R3 (qp : PredIdx) (p1 : PredIdx) (p2 : PredIdx) (r3 : GrIdx) :
    Encoding.Statement (.cmp4GtOrP1P2R0R3 qp p1 p2 r3) := rfl
theorem Encoding.cmp4LeOrP1P2R0R3 (qp : PredIdx) (p1 : PredIdx) (p2 : PredIdx) (r3 : GrIdx) :
    Encoding.Statement (.cmp4LeOrP1P2R0R3 qp p1 p2 r3) := rfl
theorem Encoding.cmp4GeOrP1P2R0R3 (qp : PredIdx) (p1 : PredIdx) (p2 : PredIdx) (r3 : GrIdx) :
    Encoding.Statement (.cmp4GeOrP1P2R0R3 qp p1 p2 r3) := rfl
theorem Encoding.cmp4LtOrP1P2R0R3 (qp : PredIdx) (p1 : PredIdx) (p2 : PredIdx) (r3 : GrIdx) :
    Encoding.Statement (.cmp4LtOrP1P2R0R3 qp p1 p2 r3) := rfl
theorem Encoding.cmp4EqOrAndcmP1P2R2R3 (qp : PredIdx) (p1 : PredIdx) (p2 : PredIdx) (r2 : GrIdx) (r3 : GrIdx) :
    Encoding.Statement (.cmp4EqOrAndcmP1P2R2R3 qp p1 p2 r2 r3) := rfl
theorem Encoding.cmp4EqOrAndcmP1P2Imm8R3 (qp : PredIdx) (p1 : PredIdx) (p2 : PredIdx) (imm8 : BitVec 8) (r3 : GrIdx) :
    Encoding.Statement (.cmp4EqOrAndcmP1P2Imm8R3 qp p1 p2 imm8 r3) := rfl
theorem Encoding.cmp4NeOrAndcmP1P2R2R3 (qp : PredIdx) (p1 : PredIdx) (p2 : PredIdx) (r2 : GrIdx) (r3 : GrIdx) :
    Encoding.Statement (.cmp4NeOrAndcmP1P2R2R3 qp p1 p2 r2 r3) := rfl
theorem Encoding.cmp4NeOrAndcmP1P2Imm8R3 (qp : PredIdx) (p1 : PredIdx) (p2 : PredIdx) (imm8 : BitVec 8) (r3 : GrIdx) :
    Encoding.Statement (.cmp4NeOrAndcmP1P2Imm8R3 qp p1 p2 imm8 r3) := rfl
theorem Encoding.cmp4GtOrAndcmP1P2R0R3 (qp : PredIdx) (p1 : PredIdx) (p2 : PredIdx) (r3 : GrIdx) :
    Encoding.Statement (.cmp4GtOrAndcmP1P2R0R3 qp p1 p2 r3) := rfl
theorem Encoding.cmp4LeOrAndcmP1P2R0R3 (qp : PredIdx) (p1 : PredIdx) (p2 : PredIdx) (r3 : GrIdx) :
    Encoding.Statement (.cmp4LeOrAndcmP1P2R0R3 qp p1 p2 r3) := rfl
theorem Encoding.cmp4GeOrAndcmP1P2R0R3 (qp : PredIdx) (p1 : PredIdx) (p2 : PredIdx) (r3 : GrIdx) :
    Encoding.Statement (.cmp4GeOrAndcmP1P2R0R3 qp p1 p2 r3) := rfl
theorem Encoding.cmp4LtOrAndcmP1P2R0R3 (qp : PredIdx) (p1 : PredIdx) (p2 : PredIdx) (r3 : GrIdx) :
    Encoding.Statement (.cmp4LtOrAndcmP1P2R0R3 qp p1 p2 r3) := rfl
theorem Encoding.padd1R1R2R3 (qp : PredIdx) (r1 : GrIdx) (r2 : GrIdx) (r3 : GrIdx) :
    Encoding.Statement (.padd1R1R2R3 qp r1 r2 r3) := rfl
theorem Encoding.padd2R1R2R3 (qp : PredIdx) (r1 : GrIdx) (r2 : GrIdx) (r3 : GrIdx) :
    Encoding.Statement (.padd2R1R2R3 qp r1 r2 r3) := rfl
theorem Encoding.padd4R1R2R3 (qp : PredIdx) (r1 : GrIdx) (r2 : GrIdx) (r3 : GrIdx) :
    Encoding.Statement (.padd4R1R2R3 qp r1 r2 r3) := rfl
theorem Encoding.padd1SssR1R2R3 (qp : PredIdx) (r1 : GrIdx) (r2 : GrIdx) (r3 : GrIdx) :
    Encoding.Statement (.padd1SssR1R2R3 qp r1 r2 r3) := rfl
theorem Encoding.padd2SssR1R2R3 (qp : PredIdx) (r1 : GrIdx) (r2 : GrIdx) (r3 : GrIdx) :
    Encoding.Statement (.padd2SssR1R2R3 qp r1 r2 r3) := rfl
theorem Encoding.padd1UusR1R2R3 (qp : PredIdx) (r1 : GrIdx) (r2 : GrIdx) (r3 : GrIdx) :
    Encoding.Statement (.padd1UusR1R2R3 qp r1 r2 r3) := rfl
theorem Encoding.padd2UusR1R2R3 (qp : PredIdx) (r1 : GrIdx) (r2 : GrIdx) (r3 : GrIdx) :
    Encoding.Statement (.padd2UusR1R2R3 qp r1 r2 r3) := rfl
theorem Encoding.padd1UuuR1R2R3 (qp : PredIdx) (r1 : GrIdx) (r2 : GrIdx) (r3 : GrIdx) :
    Encoding.Statement (.padd1UuuR1R2R3 qp r1 r2 r3) := rfl
theorem Encoding.padd2UuuR1R2R3 (qp : PredIdx) (r1 : GrIdx) (r2 : GrIdx) (r3 : GrIdx) :
    Encoding.Statement (.padd2UuuR1R2R3 qp r1 r2 r3) := rfl
theorem Encoding.psub1R1R2R3 (qp : PredIdx) (r1 : GrIdx) (r2 : GrIdx) (r3 : GrIdx) :
    Encoding.Statement (.psub1R1R2R3 qp r1 r2 r3) := rfl
theorem Encoding.psub2R1R2R3 (qp : PredIdx) (r1 : GrIdx) (r2 : GrIdx) (r3 : GrIdx) :
    Encoding.Statement (.psub2R1R2R3 qp r1 r2 r3) := rfl
theorem Encoding.psub4R1R2R3 (qp : PredIdx) (r1 : GrIdx) (r2 : GrIdx) (r3 : GrIdx) :
    Encoding.Statement (.psub4R1R2R3 qp r1 r2 r3) := rfl
theorem Encoding.psub1SssR1R2R3 (qp : PredIdx) (r1 : GrIdx) (r2 : GrIdx) (r3 : GrIdx) :
    Encoding.Statement (.psub1SssR1R2R3 qp r1 r2 r3) := rfl
theorem Encoding.psub2SssR1R2R3 (qp : PredIdx) (r1 : GrIdx) (r2 : GrIdx) (r3 : GrIdx) :
    Encoding.Statement (.psub2SssR1R2R3 qp r1 r2 r3) := rfl
theorem Encoding.psub1UusR1R2R3 (qp : PredIdx) (r1 : GrIdx) (r2 : GrIdx) (r3 : GrIdx) :
    Encoding.Statement (.psub1UusR1R2R3 qp r1 r2 r3) := rfl
theorem Encoding.psub2UusR1R2R3 (qp : PredIdx) (r1 : GrIdx) (r2 : GrIdx) (r3 : GrIdx) :
    Encoding.Statement (.psub2UusR1R2R3 qp r1 r2 r3) := rfl
theorem Encoding.psub1UuuR1R2R3 (qp : PredIdx) (r1 : GrIdx) (r2 : GrIdx) (r3 : GrIdx) :
    Encoding.Statement (.psub1UuuR1R2R3 qp r1 r2 r3) := rfl
theorem Encoding.psub2UuuR1R2R3 (qp : PredIdx) (r1 : GrIdx) (r2 : GrIdx) (r3 : GrIdx) :
    Encoding.Statement (.psub2UuuR1R2R3 qp r1 r2 r3) := rfl
theorem Encoding.pavg1R1R2R3 (qp : PredIdx) (r1 : GrIdx) (r2 : GrIdx) (r3 : GrIdx) :
    Encoding.Statement (.pavg1R1R2R3 qp r1 r2 r3) := rfl
theorem Encoding.pavg2R1R2R3 (qp : PredIdx) (r1 : GrIdx) (r2 : GrIdx) (r3 : GrIdx) :
    Encoding.Statement (.pavg2R1R2R3 qp r1 r2 r3) := rfl
theorem Encoding.pavg1RazR1R2R3 (qp : PredIdx) (r1 : GrIdx) (r2 : GrIdx) (r3 : GrIdx) :
    Encoding.Statement (.pavg1RazR1R2R3 qp r1 r2 r3) := rfl
theorem Encoding.pavg2RazR1R2R3 (qp : PredIdx) (r1 : GrIdx) (r2 : GrIdx) (r3 : GrIdx) :
    Encoding.Statement (.pavg2RazR1R2R3 qp r1 r2 r3) := rfl
theorem Encoding.pavgsub1R1R2R3 (qp : PredIdx) (r1 : GrIdx) (r2 : GrIdx) (r3 : GrIdx) :
    Encoding.Statement (.pavgsub1R1R2R3 qp r1 r2 r3) := rfl
theorem Encoding.pavgsub2R1R2R3 (qp : PredIdx) (r1 : GrIdx) (r2 : GrIdx) (r3 : GrIdx) :
    Encoding.Statement (.pavgsub2R1R2R3 qp r1 r2 r3) := rfl
theorem Encoding.pcmp1EqR1R2R3 (qp : PredIdx) (r1 : GrIdx) (r2 : GrIdx) (r3 : GrIdx) :
    Encoding.Statement (.pcmp1EqR1R2R3 qp r1 r2 r3) := rfl
theorem Encoding.pcmp2EqR1R2R3 (qp : PredIdx) (r1 : GrIdx) (r2 : GrIdx) (r3 : GrIdx) :
    Encoding.Statement (.pcmp2EqR1R2R3 qp r1 r2 r3) := rfl
theorem Encoding.pcmp4EqR1R2R3 (qp : PredIdx) (r1 : GrIdx) (r2 : GrIdx) (r3 : GrIdx) :
    Encoding.Statement (.pcmp4EqR1R2R3 qp r1 r2 r3) := rfl
theorem Encoding.pcmp1GtR1R2R3 (qp : PredIdx) (r1 : GrIdx) (r2 : GrIdx) (r3 : GrIdx) :
    Encoding.Statement (.pcmp1GtR1R2R3 qp r1 r2 r3) := rfl
theorem Encoding.pcmp2GtR1R2R3 (qp : PredIdx) (r1 : GrIdx) (r2 : GrIdx) (r3 : GrIdx) :
    Encoding.Statement (.pcmp2GtR1R2R3 qp r1 r2 r3) := rfl
theorem Encoding.pcmp4GtR1R2R3 (qp : PredIdx) (r1 : GrIdx) (r2 : GrIdx) (r3 : GrIdx) :
    Encoding.Statement (.pcmp4GtR1R2R3 qp r1 r2 r3) := rfl
theorem Encoding.pshladd2R1R2Count2R3 (qp : PredIdx) (r1 : GrIdx) (r2 : GrIdx) (count2 : BitVec 2) (r3 : GrIdx) :
    Encoding.Statement (.pshladd2R1R2Count2R3 qp r1 r2 count2 r3) := rfl
theorem Encoding.pshradd2R1R2Count2R3 (qp : PredIdx) (r1 : GrIdx) (r2 : GrIdx) (count2 : BitVec 2) (r3 : GrIdx) :
    Encoding.Statement (.pshradd2R1R2Count2R3 qp r1 r2 count2 r3) := rfl
theorem Encoding.pmpyshr2R1R2R3Count2 (qp : PredIdx) (r1 : GrIdx) (r2 : GrIdx) (r3 : GrIdx) (count2 : PmpyCount) :
    Encoding.Statement (.pmpyshr2R1R2R3Count2 qp r1 r2 r3 count2) := rfl
theorem Encoding.pmpyshr2UR1R2R3Count2 (qp : PredIdx) (r1 : GrIdx) (r2 : GrIdx) (r3 : GrIdx) (count2 : PmpyCount) :
    Encoding.Statement (.pmpyshr2UR1R2R3Count2 qp r1 r2 r3 count2) := rfl
theorem Encoding.pmpy2RR1R2R3 (qp : PredIdx) (r1 : GrIdx) (r2 : GrIdx) (r3 : GrIdx) :
    Encoding.Statement (.pmpy2RR1R2R3 qp r1 r2 r3) := rfl
theorem Encoding.pmpy2LR1R2R3 (qp : PredIdx) (r1 : GrIdx) (r2 : GrIdx) (r3 : GrIdx) :
    Encoding.Statement (.pmpy2LR1R2R3 qp r1 r2 r3) := rfl
theorem Encoding.mix1RR1R2R3 (qp : PredIdx) (r1 : GrIdx) (r2 : GrIdx) (r3 : GrIdx) :
    Encoding.Statement (.mix1RR1R2R3 qp r1 r2 r3) := rfl
theorem Encoding.mix1LR1R2R3 (qp : PredIdx) (r1 : GrIdx) (r2 : GrIdx) (r3 : GrIdx) :
    Encoding.Statement (.mix1LR1R2R3 qp r1 r2 r3) := rfl
theorem Encoding.mix2RR1R2R3 (qp : PredIdx) (r1 : GrIdx) (r2 : GrIdx) (r3 : GrIdx) :
    Encoding.Statement (.mix2RR1R2R3 qp r1 r2 r3) := rfl
theorem Encoding.mix2LR1R2R3 (qp : PredIdx) (r1 : GrIdx) (r2 : GrIdx) (r3 : GrIdx) :
    Encoding.Statement (.mix2LR1R2R3 qp r1 r2 r3) := rfl
theorem Encoding.mix4RR1R2R3 (qp : PredIdx) (r1 : GrIdx) (r2 : GrIdx) (r3 : GrIdx) :
    Encoding.Statement (.mix4RR1R2R3 qp r1 r2 r3) := rfl
theorem Encoding.mix4LR1R2R3 (qp : PredIdx) (r1 : GrIdx) (r2 : GrIdx) (r3 : GrIdx) :
    Encoding.Statement (.mix4LR1R2R3 qp r1 r2 r3) := rfl
theorem Encoding.pack2SssR1R2R3 (qp : PredIdx) (r1 : GrIdx) (r2 : GrIdx) (r3 : GrIdx) :
    Encoding.Statement (.pack2SssR1R2R3 qp r1 r2 r3) := rfl
theorem Encoding.pack2UssR1R2R3 (qp : PredIdx) (r1 : GrIdx) (r2 : GrIdx) (r3 : GrIdx) :
    Encoding.Statement (.pack2UssR1R2R3 qp r1 r2 r3) := rfl
theorem Encoding.pack4SssR1R2R3 (qp : PredIdx) (r1 : GrIdx) (r2 : GrIdx) (r3 : GrIdx) :
    Encoding.Statement (.pack4SssR1R2R3 qp r1 r2 r3) := rfl
theorem Encoding.unpack1LR1R2R3 (qp : PredIdx) (r1 : GrIdx) (r2 : GrIdx) (r3 : GrIdx) :
    Encoding.Statement (.unpack1LR1R2R3 qp r1 r2 r3) := rfl
theorem Encoding.unpack1HR1R2R3 (qp : PredIdx) (r1 : GrIdx) (r2 : GrIdx) (r3 : GrIdx) :
    Encoding.Statement (.unpack1HR1R2R3 qp r1 r2 r3) := rfl
theorem Encoding.unpack2LR1R2R3 (qp : PredIdx) (r1 : GrIdx) (r2 : GrIdx) (r3 : GrIdx) :
    Encoding.Statement (.unpack2LR1R2R3 qp r1 r2 r3) := rfl
theorem Encoding.unpack2HR1R2R3 (qp : PredIdx) (r1 : GrIdx) (r2 : GrIdx) (r3 : GrIdx) :
    Encoding.Statement (.unpack2HR1R2R3 qp r1 r2 r3) := rfl
theorem Encoding.unpack4LR1R2R3 (qp : PredIdx) (r1 : GrIdx) (r2 : GrIdx) (r3 : GrIdx) :
    Encoding.Statement (.unpack4LR1R2R3 qp r1 r2 r3) := rfl
theorem Encoding.unpack4HR1R2R3 (qp : PredIdx) (r1 : GrIdx) (r2 : GrIdx) (r3 : GrIdx) :
    Encoding.Statement (.unpack4HR1R2R3 qp r1 r2 r3) := rfl
theorem Encoding.pmin1UR1R2R3 (qp : PredIdx) (r1 : GrIdx) (r2 : GrIdx) (r3 : GrIdx) :
    Encoding.Statement (.pmin1UR1R2R3 qp r1 r2 r3) := rfl
theorem Encoding.pmax1UR1R2R3 (qp : PredIdx) (r1 : GrIdx) (r2 : GrIdx) (r3 : GrIdx) :
    Encoding.Statement (.pmax1UR1R2R3 qp r1 r2 r3) := rfl
theorem Encoding.pmin2R1R2R3 (qp : PredIdx) (r1 : GrIdx) (r2 : GrIdx) (r3 : GrIdx) :
    Encoding.Statement (.pmin2R1R2R3 qp r1 r2 r3) := rfl
theorem Encoding.pmax2R1R2R3 (qp : PredIdx) (r1 : GrIdx) (r2 : GrIdx) (r3 : GrIdx) :
    Encoding.Statement (.pmax2R1R2R3 qp r1 r2 r3) := rfl
theorem Encoding.psad1R1R2R3 (qp : PredIdx) (r1 : GrIdx) (r2 : GrIdx) (r3 : GrIdx) :
    Encoding.Statement (.psad1R1R2R3 qp r1 r2 r3) := rfl
theorem Encoding.mux1R1R2Mbtype4 (qp : PredIdx) (r1 : GrIdx) (r2 : GrIdx) (mbtype4 : BitVec 4) :
    Encoding.Statement (.mux1R1R2Mbtype4 qp r1 r2 mbtype4) := rfl
theorem Encoding.mux2R1R2Mhtype8 (qp : PredIdx) (r1 : GrIdx) (r2 : GrIdx) (mhtype8 : BitVec 8) :
    Encoding.Statement (.mux2R1R2Mhtype8 qp r1 r2 mhtype8) := rfl
theorem Encoding.shrR1R3R2 (qp : PredIdx) (r1 : GrIdx) (r3 : GrIdx) (r2 : GrIdx) :
    Encoding.Statement (.shrR1R3R2 qp r1 r3 r2) := rfl
theorem Encoding.shrUR1R3R2 (qp : PredIdx) (r1 : GrIdx) (r3 : GrIdx) (r2 : GrIdx) :
    Encoding.Statement (.shrUR1R3R2 qp r1 r3 r2) := rfl
theorem Encoding.pshr2R1R3R2 (qp : PredIdx) (r1 : GrIdx) (r3 : GrIdx) (r2 : GrIdx) :
    Encoding.Statement (.pshr2R1R3R2 qp r1 r3 r2) := rfl
theorem Encoding.pshr2UR1R3R2 (qp : PredIdx) (r1 : GrIdx) (r3 : GrIdx) (r2 : GrIdx) :
    Encoding.Statement (.pshr2UR1R3R2 qp r1 r3 r2) := rfl
theorem Encoding.pshr4R1R3R2 (qp : PredIdx) (r1 : GrIdx) (r3 : GrIdx) (r2 : GrIdx) :
    Encoding.Statement (.pshr4R1R3R2 qp r1 r3 r2) := rfl
theorem Encoding.pshr4UR1R3R2 (qp : PredIdx) (r1 : GrIdx) (r3 : GrIdx) (r2 : GrIdx) :
    Encoding.Statement (.pshr4UR1R3R2 qp r1 r3 r2) := rfl
theorem Encoding.pshr2R1R3Count5 (qp : PredIdx) (r1 : GrIdx) (r3 : GrIdx) (count5 : BitVec 5) :
    Encoding.Statement (.pshr2R1R3Count5 qp r1 r3 count5) := rfl
theorem Encoding.pshr2UR1R3Count5 (qp : PredIdx) (r1 : GrIdx) (r3 : GrIdx) (count5 : BitVec 5) :
    Encoding.Statement (.pshr2UR1R3Count5 qp r1 r3 count5) := rfl
theorem Encoding.pshr4R1R3Count5 (qp : PredIdx) (r1 : GrIdx) (r3 : GrIdx) (count5 : BitVec 5) :
    Encoding.Statement (.pshr4R1R3Count5 qp r1 r3 count5) := rfl
theorem Encoding.pshr4UR1R3Count5 (qp : PredIdx) (r1 : GrIdx) (r3 : GrIdx) (count5 : BitVec 5) :
    Encoding.Statement (.pshr4UR1R3Count5 qp r1 r3 count5) := rfl
theorem Encoding.shlR1R2R3 (qp : PredIdx) (r1 : GrIdx) (r2 : GrIdx) (r3 : GrIdx) :
    Encoding.Statement (.shlR1R2R3 qp r1 r2 r3) := rfl
theorem Encoding.pshl2R1R2R3 (qp : PredIdx) (r1 : GrIdx) (r2 : GrIdx) (r3 : GrIdx) :
    Encoding.Statement (.pshl2R1R2R3 qp r1 r2 r3) := rfl
theorem Encoding.pshl4R1R2R3 (qp : PredIdx) (r1 : GrIdx) (r2 : GrIdx) (r3 : GrIdx) :
    Encoding.Statement (.pshl4R1R2R3 qp r1 r2 r3) := rfl
theorem Encoding.pshl2R1R2Count5 (qp : PredIdx) (r1 : GrIdx) (r2 : GrIdx) (count5 : BitVec 5) :
    Encoding.Statement (.pshl2R1R2Count5 qp r1 r2 count5) := rfl
theorem Encoding.pshl4R1R2Count5 (qp : PredIdx) (r1 : GrIdx) (r2 : GrIdx) (count5 : BitVec 5) :
    Encoding.Statement (.pshl4R1R2Count5 qp r1 r2 count5) := rfl
theorem Encoding.popcntR1R3 (qp : PredIdx) (r1 : GrIdx) (r3 : GrIdx) :
    Encoding.Statement (.popcntR1R3 qp r1 r3) := rfl
theorem Encoding.shrpR1R2R3Count6 (qp : PredIdx) (r1 : GrIdx) (r2 : GrIdx) (r3 : GrIdx) (count6 : BitVec 6) :
    Encoding.Statement (.shrpR1R2R3Count6 qp r1 r2 r3 count6) := rfl
theorem Encoding.extrUR1R3Pos6Len6 (qp : PredIdx) (r1 : GrIdx) (r3 : GrIdx) (pos6 : BitVec 6) (len6d : BitVec 6) :
    Encoding.Statement (.extrUR1R3Pos6Len6 qp r1 r3 pos6 len6d) := rfl
theorem Encoding.extrR1R3Pos6Len6 (qp : PredIdx) (r1 : GrIdx) (r3 : GrIdx) (pos6 : BitVec 6) (len6d : BitVec 6) :
    Encoding.Statement (.extrR1R3Pos6Len6 qp r1 r3 pos6 len6d) := rfl
theorem Encoding.depZR1R2Pos6Len6 (qp : PredIdx) (r1 : GrIdx) (r2 : GrIdx) (pos6 : BitVec 6) (len6d : BitVec 6) :
    Encoding.Statement (.depZR1R2Pos6Len6 qp r1 r2 pos6 len6d) := rfl
theorem Encoding.depZR1Imm8Pos6Len6 (qp : PredIdx) (r1 : GrIdx) (imm8 : BitVec 8) (pos6 : BitVec 6) (len6d : BitVec 6) :
    Encoding.Statement (.depZR1Imm8Pos6Len6 qp r1 imm8 pos6 len6d) := rfl
theorem Encoding.depR1Imm1R3Pos6Len6 (qp : PredIdx) (r1 : GrIdx) (imm1 : BitVec 1) (r3 : GrIdx) (pos6 : BitVec 6) (len6d : BitVec 6) :
    Encoding.Statement (.depR1Imm1R3Pos6Len6 qp r1 imm1 r3 pos6 len6d) := rfl
theorem Encoding.depR1R2R3Pos6Len4 (qp : PredIdx) (r1 : GrIdx) (r2 : GrIdx) (r3 : GrIdx) (pos6 : BitVec 6) (len4d : BitVec 4) :
    Encoding.Statement (.depR1R2R3Pos6Len4 qp r1 r2 r3 pos6 len4d) := rfl
theorem Encoding.tbitZP1P2R3Pos6 (qp : PredIdx) (p1 : PredIdx) (p2 : PredIdx) (r3 : GrIdx) (pos6 : BitVec 6) :
    Encoding.Statement (.tbitZP1P2R3Pos6 qp p1 p2 r3 pos6) := rfl
theorem Encoding.tbitZUncP1P2R3Pos6 (qp : PredIdx) (p1 : PredIdx) (p2 : PredIdx) (r3 : GrIdx) (pos6 : BitVec 6) :
    Encoding.Statement (.tbitZUncP1P2R3Pos6 qp p1 p2 r3 pos6) := rfl
theorem Encoding.tbitZAndP1P2R3Pos6 (qp : PredIdx) (p1 : PredIdx) (p2 : PredIdx) (r3 : GrIdx) (pos6 : BitVec 6) :
    Encoding.Statement (.tbitZAndP1P2R3Pos6 qp p1 p2 r3 pos6) := rfl
theorem Encoding.tbitNzAndP1P2R3Pos6 (qp : PredIdx) (p1 : PredIdx) (p2 : PredIdx) (r3 : GrIdx) (pos6 : BitVec 6) :
    Encoding.Statement (.tbitNzAndP1P2R3Pos6 qp p1 p2 r3 pos6) := rfl
theorem Encoding.tbitZOrP1P2R3Pos6 (qp : PredIdx) (p1 : PredIdx) (p2 : PredIdx) (r3 : GrIdx) (pos6 : BitVec 6) :
    Encoding.Statement (.tbitZOrP1P2R3Pos6 qp p1 p2 r3 pos6) := rfl
theorem Encoding.tbitNzOrP1P2R3Pos6 (qp : PredIdx) (p1 : PredIdx) (p2 : PredIdx) (r3 : GrIdx) (pos6 : BitVec 6) :
    Encoding.Statement (.tbitNzOrP1P2R3Pos6 qp p1 p2 r3 pos6) := rfl
theorem Encoding.tbitZOrAndcmP1P2R3Pos6 (qp : PredIdx) (p1 : PredIdx) (p2 : PredIdx) (r3 : GrIdx) (pos6 : BitVec 6) :
    Encoding.Statement (.tbitZOrAndcmP1P2R3Pos6 qp p1 p2 r3 pos6) := rfl
theorem Encoding.tbitNzOrAndcmP1P2R3Pos6 (qp : PredIdx) (p1 : PredIdx) (p2 : PredIdx) (r3 : GrIdx) (pos6 : BitVec 6) :
    Encoding.Statement (.tbitNzOrAndcmP1P2R3Pos6 qp p1 p2 r3 pos6) := rfl
theorem Encoding.tnatZP1P2R3 (qp : PredIdx) (p1 : PredIdx) (p2 : PredIdx) (r3 : GrIdx) :
    Encoding.Statement (.tnatZP1P2R3 qp p1 p2 r3) := rfl
theorem Encoding.tnatZUncP1P2R3 (qp : PredIdx) (p1 : PredIdx) (p2 : PredIdx) (r3 : GrIdx) :
    Encoding.Statement (.tnatZUncP1P2R3 qp p1 p2 r3) := rfl
theorem Encoding.tnatZAndP1P2R3 (qp : PredIdx) (p1 : PredIdx) (p2 : PredIdx) (r3 : GrIdx) :
    Encoding.Statement (.tnatZAndP1P2R3 qp p1 p2 r3) := rfl
theorem Encoding.tnatNzAndP1P2R3 (qp : PredIdx) (p1 : PredIdx) (p2 : PredIdx) (r3 : GrIdx) :
    Encoding.Statement (.tnatNzAndP1P2R3 qp p1 p2 r3) := rfl
theorem Encoding.tnatZOrP1P2R3 (qp : PredIdx) (p1 : PredIdx) (p2 : PredIdx) (r3 : GrIdx) :
    Encoding.Statement (.tnatZOrP1P2R3 qp p1 p2 r3) := rfl
theorem Encoding.tnatNzOrP1P2R3 (qp : PredIdx) (p1 : PredIdx) (p2 : PredIdx) (r3 : GrIdx) :
    Encoding.Statement (.tnatNzOrP1P2R3 qp p1 p2 r3) := rfl
theorem Encoding.tnatZOrAndcmP1P2R3 (qp : PredIdx) (p1 : PredIdx) (p2 : PredIdx) (r3 : GrIdx) :
    Encoding.Statement (.tnatZOrAndcmP1P2R3 qp p1 p2 r3) := rfl
theorem Encoding.tnatNzOrAndcmP1P2R3 (qp : PredIdx) (p1 : PredIdx) (p2 : PredIdx) (r3 : GrIdx) :
    Encoding.Statement (.tnatNzOrAndcmP1P2R3 qp p1 p2 r3) := rfl
theorem Encoding.tbitNzP1P2R3Pos6 (qp : PredIdx) (p1 : PredIdx) (p2 : PredIdx) (r3 : GrIdx) (pos6 : BitVec 6) :
    Encoding.Statement (.tbitNzP1P2R3Pos6 qp p1 p2 r3 pos6) := rfl
theorem Encoding.tbitNzUncP1P2R3Pos6 (qp : PredIdx) (p1 : PredIdx) (p2 : PredIdx) (r3 : GrIdx) (pos6 : BitVec 6) :
    Encoding.Statement (.tbitNzUncP1P2R3Pos6 qp p1 p2 r3 pos6) := rfl
theorem Encoding.tnatNzP1P2R3 (qp : PredIdx) (p1 : PredIdx) (p2 : PredIdx) (r3 : GrIdx) :
    Encoding.Statement (.tnatNzP1P2R3 qp p1 p2 r3) := rfl
theorem Encoding.tnatNzUncP1P2R3 (qp : PredIdx) (p1 : PredIdx) (p2 : PredIdx) (r3 : GrIdx) :
    Encoding.Statement (.tnatNzUncP1P2R3 qp p1 p2 r3) := rfl
theorem Encoding.breakIImm21 (qp : PredIdx) (imm21 : BitVec 21) :
    Encoding.Statement (.breakIImm21 qp imm21) := rfl
theorem Encoding.nopIImm21 (qp : PredIdx) (imm21 : BitVec 21) :
    Encoding.Statement (.nopIImm21 qp imm21) := rfl
theorem Encoding.chkSIR2Target25 (qp : PredIdx) (r2 : GrIdx) (imm21 : BitVec 21) :
    Encoding.Statement (.chkSIR2Target25 qp r2 imm21) := rfl
theorem Encoding.movB1R2 (qp : PredIdx) (b1 : BrIdx) (r2 : GrIdx) (timm9 : BitVec 9) (ih : BitVec 1) (wh : BitVec 2) :
    Encoding.Statement (.movB1R2 qp b1 r2 timm9 ih wh) := rfl
theorem Encoding.movRetB1R2 (qp : PredIdx) (b1 : BrIdx) (r2 : GrIdx) (timm9 : BitVec 9) (ih : BitVec 1) (wh : BitVec 2) :
    Encoding.Statement (.movRetB1R2 qp b1 r2 timm9 ih wh) := rfl
theorem Encoding.movR1B2 (qp : PredIdx) (r1 : GrIdx) (b2 : BrIdx) :
    Encoding.Statement (.movR1B2 qp r1 b2) := rfl
theorem Encoding.movPrR2Mask17 (qp : PredIdx) (r2 : GrIdx) (mask17 : BitVec 17) :
    Encoding.Statement (.movPrR2Mask17 qp r2 mask17) := rfl
theorem Encoding.movPrRotImm44 (qp : PredIdx) (imm28 : BitVec 28) :
    Encoding.Statement (.movPrRotImm44 qp imm28) := rfl
theorem Encoding.movR1Ip (qp : PredIdx) (r1 : GrIdx) :
    Encoding.Statement (.movR1Ip qp r1) := rfl
theorem Encoding.movR1Pr (qp : PredIdx) (r1 : GrIdx) :
    Encoding.Statement (.movR1Pr qp r1) := rfl
theorem Encoding.movIAr3R2 (qp : PredIdx) (ar3 : BitVec 7) (r2 : GrIdx) :
    Encoding.Statement (.movIAr3R2 qp ar3 r2) := rfl
theorem Encoding.movIAr3Imm8 (qp : PredIdx) (ar3 : BitVec 7) (imm8 : BitVec 8) :
    Encoding.Statement (.movIAr3Imm8 qp ar3 imm8) := rfl
theorem Encoding.movIR1Ar3 (qp : PredIdx) (r1 : GrIdx) (ar3 : BitVec 7) :
    Encoding.Statement (.movIR1Ar3 qp r1 ar3) := rfl
theorem Encoding.zxt1R1R3 (qp : PredIdx) (r1 : GrIdx) (r3 : GrIdx) :
    Encoding.Statement (.zxt1R1R3 qp r1 r3) := rfl
theorem Encoding.zxt2R1R3 (qp : PredIdx) (r1 : GrIdx) (r3 : GrIdx) :
    Encoding.Statement (.zxt2R1R3 qp r1 r3) := rfl
theorem Encoding.zxt4R1R3 (qp : PredIdx) (r1 : GrIdx) (r3 : GrIdx) :
    Encoding.Statement (.zxt4R1R3 qp r1 r3) := rfl
theorem Encoding.sxt1R1R3 (qp : PredIdx) (r1 : GrIdx) (r3 : GrIdx) :
    Encoding.Statement (.sxt1R1R3 qp r1 r3) := rfl
theorem Encoding.sxt2R1R3 (qp : PredIdx) (r1 : GrIdx) (r3 : GrIdx) :
    Encoding.Statement (.sxt2R1R3 qp r1 r3) := rfl
theorem Encoding.sxt4R1R3 (qp : PredIdx) (r1 : GrIdx) (r3 : GrIdx) :
    Encoding.Statement (.sxt4R1R3 qp r1 r3) := rfl
theorem Encoding.czx1LR1R3 (qp : PredIdx) (r1 : GrIdx) (r3 : GrIdx) :
    Encoding.Statement (.czx1LR1R3 qp r1 r3) := rfl
theorem Encoding.czx2LR1R3 (qp : PredIdx) (r1 : GrIdx) (r3 : GrIdx) :
    Encoding.Statement (.czx2LR1R3 qp r1 r3) := rfl
theorem Encoding.czx1RR1R3 (qp : PredIdx) (r1 : GrIdx) (r3 : GrIdx) :
    Encoding.Statement (.czx1RR1R3 qp r1 r3) := rfl
theorem Encoding.czx2RR1R3 (qp : PredIdx) (r1 : GrIdx) (r3 : GrIdx) :
    Encoding.Statement (.czx2RR1R3 qp r1 r3) := rfl
theorem Encoding.movlR1Imm64 (qp : PredIdx) (r1 : GrIdx) (imm64 : BitVec 64) :
    Encoding.Statement (.movlR1Imm64 qp r1 imm64) := rfl
theorem Encoding.breakXImm62 (qp : PredIdx) (imm62 : BitVec 62) :
    Encoding.Statement (.breakXImm62 qp imm62) := rfl
theorem Encoding.nopXImm62 (qp : PredIdx) (imm62 : BitVec 62) :
    Encoding.Statement (.nopXImm62 qp imm62) := rfl
theorem Encoding.ld1R1R3 (qp : PredIdx) (r1 : GrIdx) (r3 : GrIdx) (hint : BitVec 2) :
    Encoding.Statement (.ld1R1R3 qp r1 r3 hint) := rfl
theorem Encoding.ld1R1R3R2 (qp : PredIdx) (r1 : GrIdx) (r3 : GrIdx) (r2 : GrIdx) (hint : BitVec 2) :
    Encoding.Statement (.ld1R1R3R2 qp r1 r3 r2 hint) := rfl
theorem Encoding.ld1R1R3Imm9 (qp : PredIdx) (r1 : GrIdx) (r3 : GrIdx) (imm9 : BitVec 9) (hint : BitVec 2) :
    Encoding.Statement (.ld1R1R3Imm9 qp r1 r3 imm9 hint) := rfl
theorem Encoding.ld2R1R3 (qp : PredIdx) (r1 : GrIdx) (r3 : GrIdx) (hint : BitVec 2) :
    Encoding.Statement (.ld2R1R3 qp r1 r3 hint) := rfl
theorem Encoding.ld2R1R3R2 (qp : PredIdx) (r1 : GrIdx) (r3 : GrIdx) (r2 : GrIdx) (hint : BitVec 2) :
    Encoding.Statement (.ld2R1R3R2 qp r1 r3 r2 hint) := rfl
theorem Encoding.ld2R1R3Imm9 (qp : PredIdx) (r1 : GrIdx) (r3 : GrIdx) (imm9 : BitVec 9) (hint : BitVec 2) :
    Encoding.Statement (.ld2R1R3Imm9 qp r1 r3 imm9 hint) := rfl
theorem Encoding.ld4R1R3 (qp : PredIdx) (r1 : GrIdx) (r3 : GrIdx) (hint : BitVec 2) :
    Encoding.Statement (.ld4R1R3 qp r1 r3 hint) := rfl
theorem Encoding.ld4R1R3R2 (qp : PredIdx) (r1 : GrIdx) (r3 : GrIdx) (r2 : GrIdx) (hint : BitVec 2) :
    Encoding.Statement (.ld4R1R3R2 qp r1 r3 r2 hint) := rfl
theorem Encoding.ld4R1R3Imm9 (qp : PredIdx) (r1 : GrIdx) (r3 : GrIdx) (imm9 : BitVec 9) (hint : BitVec 2) :
    Encoding.Statement (.ld4R1R3Imm9 qp r1 r3 imm9 hint) := rfl
theorem Encoding.ld8R1R3 (qp : PredIdx) (r1 : GrIdx) (r3 : GrIdx) (hint : BitVec 2) :
    Encoding.Statement (.ld8R1R3 qp r1 r3 hint) := rfl
theorem Encoding.ld8R1R3R2 (qp : PredIdx) (r1 : GrIdx) (r3 : GrIdx) (r2 : GrIdx) (hint : BitVec 2) :
    Encoding.Statement (.ld8R1R3R2 qp r1 r3 r2 hint) := rfl
theorem Encoding.ld8R1R3Imm9 (qp : PredIdx) (r1 : GrIdx) (r3 : GrIdx) (imm9 : BitVec 9) (hint : BitVec 2) :
    Encoding.Statement (.ld8R1R3Imm9 qp r1 r3 imm9 hint) := rfl
theorem Encoding.ld1SR1R3 (qp : PredIdx) (r1 : GrIdx) (r3 : GrIdx) (hint : BitVec 2) :
    Encoding.Statement (.ld1SR1R3 qp r1 r3 hint) := rfl
theorem Encoding.ld1SR1R3R2 (qp : PredIdx) (r1 : GrIdx) (r3 : GrIdx) (r2 : GrIdx) (hint : BitVec 2) :
    Encoding.Statement (.ld1SR1R3R2 qp r1 r3 r2 hint) := rfl
theorem Encoding.ld1SR1R3Imm9 (qp : PredIdx) (r1 : GrIdx) (r3 : GrIdx) (imm9 : BitVec 9) (hint : BitVec 2) :
    Encoding.Statement (.ld1SR1R3Imm9 qp r1 r3 imm9 hint) := rfl
theorem Encoding.ld2SR1R3 (qp : PredIdx) (r1 : GrIdx) (r3 : GrIdx) (hint : BitVec 2) :
    Encoding.Statement (.ld2SR1R3 qp r1 r3 hint) := rfl
theorem Encoding.ld2SR1R3R2 (qp : PredIdx) (r1 : GrIdx) (r3 : GrIdx) (r2 : GrIdx) (hint : BitVec 2) :
    Encoding.Statement (.ld2SR1R3R2 qp r1 r3 r2 hint) := rfl
theorem Encoding.ld2SR1R3Imm9 (qp : PredIdx) (r1 : GrIdx) (r3 : GrIdx) (imm9 : BitVec 9) (hint : BitVec 2) :
    Encoding.Statement (.ld2SR1R3Imm9 qp r1 r3 imm9 hint) := rfl
theorem Encoding.ld4SR1R3 (qp : PredIdx) (r1 : GrIdx) (r3 : GrIdx) (hint : BitVec 2) :
    Encoding.Statement (.ld4SR1R3 qp r1 r3 hint) := rfl
theorem Encoding.ld4SR1R3R2 (qp : PredIdx) (r1 : GrIdx) (r3 : GrIdx) (r2 : GrIdx) (hint : BitVec 2) :
    Encoding.Statement (.ld4SR1R3R2 qp r1 r3 r2 hint) := rfl
theorem Encoding.ld4SR1R3Imm9 (qp : PredIdx) (r1 : GrIdx) (r3 : GrIdx) (imm9 : BitVec 9) (hint : BitVec 2) :
    Encoding.Statement (.ld4SR1R3Imm9 qp r1 r3 imm9 hint) := rfl
theorem Encoding.ld8SR1R3 (qp : PredIdx) (r1 : GrIdx) (r3 : GrIdx) (hint : BitVec 2) :
    Encoding.Statement (.ld8SR1R3 qp r1 r3 hint) := rfl
theorem Encoding.ld8SR1R3R2 (qp : PredIdx) (r1 : GrIdx) (r3 : GrIdx) (r2 : GrIdx) (hint : BitVec 2) :
    Encoding.Statement (.ld8SR1R3R2 qp r1 r3 r2 hint) := rfl
theorem Encoding.ld8SR1R3Imm9 (qp : PredIdx) (r1 : GrIdx) (r3 : GrIdx) (imm9 : BitVec 9) (hint : BitVec 2) :
    Encoding.Statement (.ld8SR1R3Imm9 qp r1 r3 imm9 hint) := rfl
theorem Encoding.ld1AR1R3 (qp : PredIdx) (r1 : GrIdx) (r3 : GrIdx) (hint : BitVec 2) :
    Encoding.Statement (.ld1AR1R3 qp r1 r3 hint) := rfl
theorem Encoding.ld1AR1R3R2 (qp : PredIdx) (r1 : GrIdx) (r3 : GrIdx) (r2 : GrIdx) (hint : BitVec 2) :
    Encoding.Statement (.ld1AR1R3R2 qp r1 r3 r2 hint) := rfl
theorem Encoding.ld1AR1R3Imm9 (qp : PredIdx) (r1 : GrIdx) (r3 : GrIdx) (imm9 : BitVec 9) (hint : BitVec 2) :
    Encoding.Statement (.ld1AR1R3Imm9 qp r1 r3 imm9 hint) := rfl
theorem Encoding.ld2AR1R3 (qp : PredIdx) (r1 : GrIdx) (r3 : GrIdx) (hint : BitVec 2) :
    Encoding.Statement (.ld2AR1R3 qp r1 r3 hint) := rfl
theorem Encoding.ld2AR1R3R2 (qp : PredIdx) (r1 : GrIdx) (r3 : GrIdx) (r2 : GrIdx) (hint : BitVec 2) :
    Encoding.Statement (.ld2AR1R3R2 qp r1 r3 r2 hint) := rfl
theorem Encoding.ld2AR1R3Imm9 (qp : PredIdx) (r1 : GrIdx) (r3 : GrIdx) (imm9 : BitVec 9) (hint : BitVec 2) :
    Encoding.Statement (.ld2AR1R3Imm9 qp r1 r3 imm9 hint) := rfl
theorem Encoding.ld4AR1R3 (qp : PredIdx) (r1 : GrIdx) (r3 : GrIdx) (hint : BitVec 2) :
    Encoding.Statement (.ld4AR1R3 qp r1 r3 hint) := rfl
theorem Encoding.ld4AR1R3R2 (qp : PredIdx) (r1 : GrIdx) (r3 : GrIdx) (r2 : GrIdx) (hint : BitVec 2) :
    Encoding.Statement (.ld4AR1R3R2 qp r1 r3 r2 hint) := rfl
theorem Encoding.ld4AR1R3Imm9 (qp : PredIdx) (r1 : GrIdx) (r3 : GrIdx) (imm9 : BitVec 9) (hint : BitVec 2) :
    Encoding.Statement (.ld4AR1R3Imm9 qp r1 r3 imm9 hint) := rfl
theorem Encoding.ld8AR1R3 (qp : PredIdx) (r1 : GrIdx) (r3 : GrIdx) (hint : BitVec 2) :
    Encoding.Statement (.ld8AR1R3 qp r1 r3 hint) := rfl
theorem Encoding.ld8AR1R3R2 (qp : PredIdx) (r1 : GrIdx) (r3 : GrIdx) (r2 : GrIdx) (hint : BitVec 2) :
    Encoding.Statement (.ld8AR1R3R2 qp r1 r3 r2 hint) := rfl
theorem Encoding.ld8AR1R3Imm9 (qp : PredIdx) (r1 : GrIdx) (r3 : GrIdx) (imm9 : BitVec 9) (hint : BitVec 2) :
    Encoding.Statement (.ld8AR1R3Imm9 qp r1 r3 imm9 hint) := rfl
theorem Encoding.ld1SaR1R3 (qp : PredIdx) (r1 : GrIdx) (r3 : GrIdx) (hint : BitVec 2) :
    Encoding.Statement (.ld1SaR1R3 qp r1 r3 hint) := rfl
theorem Encoding.ld1SaR1R3R2 (qp : PredIdx) (r1 : GrIdx) (r3 : GrIdx) (r2 : GrIdx) (hint : BitVec 2) :
    Encoding.Statement (.ld1SaR1R3R2 qp r1 r3 r2 hint) := rfl
theorem Encoding.ld1SaR1R3Imm9 (qp : PredIdx) (r1 : GrIdx) (r3 : GrIdx) (imm9 : BitVec 9) (hint : BitVec 2) :
    Encoding.Statement (.ld1SaR1R3Imm9 qp r1 r3 imm9 hint) := rfl
theorem Encoding.ld2SaR1R3 (qp : PredIdx) (r1 : GrIdx) (r3 : GrIdx) (hint : BitVec 2) :
    Encoding.Statement (.ld2SaR1R3 qp r1 r3 hint) := rfl
theorem Encoding.ld2SaR1R3R2 (qp : PredIdx) (r1 : GrIdx) (r3 : GrIdx) (r2 : GrIdx) (hint : BitVec 2) :
    Encoding.Statement (.ld2SaR1R3R2 qp r1 r3 r2 hint) := rfl
theorem Encoding.ld2SaR1R3Imm9 (qp : PredIdx) (r1 : GrIdx) (r3 : GrIdx) (imm9 : BitVec 9) (hint : BitVec 2) :
    Encoding.Statement (.ld2SaR1R3Imm9 qp r1 r3 imm9 hint) := rfl
theorem Encoding.ld4SaR1R3 (qp : PredIdx) (r1 : GrIdx) (r3 : GrIdx) (hint : BitVec 2) :
    Encoding.Statement (.ld4SaR1R3 qp r1 r3 hint) := rfl
theorem Encoding.ld4SaR1R3R2 (qp : PredIdx) (r1 : GrIdx) (r3 : GrIdx) (r2 : GrIdx) (hint : BitVec 2) :
    Encoding.Statement (.ld4SaR1R3R2 qp r1 r3 r2 hint) := rfl
theorem Encoding.ld4SaR1R3Imm9 (qp : PredIdx) (r1 : GrIdx) (r3 : GrIdx) (imm9 : BitVec 9) (hint : BitVec 2) :
    Encoding.Statement (.ld4SaR1R3Imm9 qp r1 r3 imm9 hint) := rfl
theorem Encoding.ld8SaR1R3 (qp : PredIdx) (r1 : GrIdx) (r3 : GrIdx) (hint : BitVec 2) :
    Encoding.Statement (.ld8SaR1R3 qp r1 r3 hint) := rfl
theorem Encoding.ld8SaR1R3R2 (qp : PredIdx) (r1 : GrIdx) (r3 : GrIdx) (r2 : GrIdx) (hint : BitVec 2) :
    Encoding.Statement (.ld8SaR1R3R2 qp r1 r3 r2 hint) := rfl
theorem Encoding.ld8SaR1R3Imm9 (qp : PredIdx) (r1 : GrIdx) (r3 : GrIdx) (imm9 : BitVec 9) (hint : BitVec 2) :
    Encoding.Statement (.ld8SaR1R3Imm9 qp r1 r3 imm9 hint) := rfl
theorem Encoding.ld1BiasR1R3 (qp : PredIdx) (r1 : GrIdx) (r3 : GrIdx) (hint : BitVec 2) :
    Encoding.Statement (.ld1BiasR1R3 qp r1 r3 hint) := rfl
theorem Encoding.ld1BiasR1R3R2 (qp : PredIdx) (r1 : GrIdx) (r3 : GrIdx) (r2 : GrIdx) (hint : BitVec 2) :
    Encoding.Statement (.ld1BiasR1R3R2 qp r1 r3 r2 hint) := rfl
theorem Encoding.ld1BiasR1R3Imm9 (qp : PredIdx) (r1 : GrIdx) (r3 : GrIdx) (imm9 : BitVec 9) (hint : BitVec 2) :
    Encoding.Statement (.ld1BiasR1R3Imm9 qp r1 r3 imm9 hint) := rfl
theorem Encoding.ld2BiasR1R3 (qp : PredIdx) (r1 : GrIdx) (r3 : GrIdx) (hint : BitVec 2) :
    Encoding.Statement (.ld2BiasR1R3 qp r1 r3 hint) := rfl
theorem Encoding.ld2BiasR1R3R2 (qp : PredIdx) (r1 : GrIdx) (r3 : GrIdx) (r2 : GrIdx) (hint : BitVec 2) :
    Encoding.Statement (.ld2BiasR1R3R2 qp r1 r3 r2 hint) := rfl
theorem Encoding.ld2BiasR1R3Imm9 (qp : PredIdx) (r1 : GrIdx) (r3 : GrIdx) (imm9 : BitVec 9) (hint : BitVec 2) :
    Encoding.Statement (.ld2BiasR1R3Imm9 qp r1 r3 imm9 hint) := rfl
theorem Encoding.ld4BiasR1R3 (qp : PredIdx) (r1 : GrIdx) (r3 : GrIdx) (hint : BitVec 2) :
    Encoding.Statement (.ld4BiasR1R3 qp r1 r3 hint) := rfl
theorem Encoding.ld4BiasR1R3R2 (qp : PredIdx) (r1 : GrIdx) (r3 : GrIdx) (r2 : GrIdx) (hint : BitVec 2) :
    Encoding.Statement (.ld4BiasR1R3R2 qp r1 r3 r2 hint) := rfl
theorem Encoding.ld4BiasR1R3Imm9 (qp : PredIdx) (r1 : GrIdx) (r3 : GrIdx) (imm9 : BitVec 9) (hint : BitVec 2) :
    Encoding.Statement (.ld4BiasR1R3Imm9 qp r1 r3 imm9 hint) := rfl
theorem Encoding.ld8BiasR1R3 (qp : PredIdx) (r1 : GrIdx) (r3 : GrIdx) (hint : BitVec 2) :
    Encoding.Statement (.ld8BiasR1R3 qp r1 r3 hint) := rfl
theorem Encoding.ld8BiasR1R3R2 (qp : PredIdx) (r1 : GrIdx) (r3 : GrIdx) (r2 : GrIdx) (hint : BitVec 2) :
    Encoding.Statement (.ld8BiasR1R3R2 qp r1 r3 r2 hint) := rfl
theorem Encoding.ld8BiasR1R3Imm9 (qp : PredIdx) (r1 : GrIdx) (r3 : GrIdx) (imm9 : BitVec 9) (hint : BitVec 2) :
    Encoding.Statement (.ld8BiasR1R3Imm9 qp r1 r3 imm9 hint) := rfl
theorem Encoding.ld1AcqR1R3 (qp : PredIdx) (r1 : GrIdx) (r3 : GrIdx) (hint : BitVec 2) :
    Encoding.Statement (.ld1AcqR1R3 qp r1 r3 hint) := rfl
theorem Encoding.ld1AcqR1R3R2 (qp : PredIdx) (r1 : GrIdx) (r3 : GrIdx) (r2 : GrIdx) (hint : BitVec 2) :
    Encoding.Statement (.ld1AcqR1R3R2 qp r1 r3 r2 hint) := rfl
theorem Encoding.ld1AcqR1R3Imm9 (qp : PredIdx) (r1 : GrIdx) (r3 : GrIdx) (imm9 : BitVec 9) (hint : BitVec 2) :
    Encoding.Statement (.ld1AcqR1R3Imm9 qp r1 r3 imm9 hint) := rfl
theorem Encoding.ld2AcqR1R3 (qp : PredIdx) (r1 : GrIdx) (r3 : GrIdx) (hint : BitVec 2) :
    Encoding.Statement (.ld2AcqR1R3 qp r1 r3 hint) := rfl
theorem Encoding.ld2AcqR1R3R2 (qp : PredIdx) (r1 : GrIdx) (r3 : GrIdx) (r2 : GrIdx) (hint : BitVec 2) :
    Encoding.Statement (.ld2AcqR1R3R2 qp r1 r3 r2 hint) := rfl
theorem Encoding.ld2AcqR1R3Imm9 (qp : PredIdx) (r1 : GrIdx) (r3 : GrIdx) (imm9 : BitVec 9) (hint : BitVec 2) :
    Encoding.Statement (.ld2AcqR1R3Imm9 qp r1 r3 imm9 hint) := rfl
theorem Encoding.ld4AcqR1R3 (qp : PredIdx) (r1 : GrIdx) (r3 : GrIdx) (hint : BitVec 2) :
    Encoding.Statement (.ld4AcqR1R3 qp r1 r3 hint) := rfl
theorem Encoding.ld4AcqR1R3R2 (qp : PredIdx) (r1 : GrIdx) (r3 : GrIdx) (r2 : GrIdx) (hint : BitVec 2) :
    Encoding.Statement (.ld4AcqR1R3R2 qp r1 r3 r2 hint) := rfl
theorem Encoding.ld4AcqR1R3Imm9 (qp : PredIdx) (r1 : GrIdx) (r3 : GrIdx) (imm9 : BitVec 9) (hint : BitVec 2) :
    Encoding.Statement (.ld4AcqR1R3Imm9 qp r1 r3 imm9 hint) := rfl
theorem Encoding.ld8AcqR1R3 (qp : PredIdx) (r1 : GrIdx) (r3 : GrIdx) (hint : BitVec 2) :
    Encoding.Statement (.ld8AcqR1R3 qp r1 r3 hint) := rfl
theorem Encoding.ld8AcqR1R3R2 (qp : PredIdx) (r1 : GrIdx) (r3 : GrIdx) (r2 : GrIdx) (hint : BitVec 2) :
    Encoding.Statement (.ld8AcqR1R3R2 qp r1 r3 r2 hint) := rfl
theorem Encoding.ld8AcqR1R3Imm9 (qp : PredIdx) (r1 : GrIdx) (r3 : GrIdx) (imm9 : BitVec 9) (hint : BitVec 2) :
    Encoding.Statement (.ld8AcqR1R3Imm9 qp r1 r3 imm9 hint) := rfl
theorem Encoding.ld1CClrR1R3 (qp : PredIdx) (r1 : GrIdx) (r3 : GrIdx) (hint : BitVec 2) :
    Encoding.Statement (.ld1CClrR1R3 qp r1 r3 hint) := rfl
theorem Encoding.ld1CClrR1R3R2 (qp : PredIdx) (r1 : GrIdx) (r3 : GrIdx) (r2 : GrIdx) (hint : BitVec 2) :
    Encoding.Statement (.ld1CClrR1R3R2 qp r1 r3 r2 hint) := rfl
theorem Encoding.ld1CClrR1R3Imm9 (qp : PredIdx) (r1 : GrIdx) (r3 : GrIdx) (imm9 : BitVec 9) (hint : BitVec 2) :
    Encoding.Statement (.ld1CClrR1R3Imm9 qp r1 r3 imm9 hint) := rfl
theorem Encoding.ld2CClrR1R3 (qp : PredIdx) (r1 : GrIdx) (r3 : GrIdx) (hint : BitVec 2) :
    Encoding.Statement (.ld2CClrR1R3 qp r1 r3 hint) := rfl
theorem Encoding.ld2CClrR1R3R2 (qp : PredIdx) (r1 : GrIdx) (r3 : GrIdx) (r2 : GrIdx) (hint : BitVec 2) :
    Encoding.Statement (.ld2CClrR1R3R2 qp r1 r3 r2 hint) := rfl
theorem Encoding.ld2CClrR1R3Imm9 (qp : PredIdx) (r1 : GrIdx) (r3 : GrIdx) (imm9 : BitVec 9) (hint : BitVec 2) :
    Encoding.Statement (.ld2CClrR1R3Imm9 qp r1 r3 imm9 hint) := rfl
theorem Encoding.ld4CClrR1R3 (qp : PredIdx) (r1 : GrIdx) (r3 : GrIdx) (hint : BitVec 2) :
    Encoding.Statement (.ld4CClrR1R3 qp r1 r3 hint) := rfl
theorem Encoding.ld4CClrR1R3R2 (qp : PredIdx) (r1 : GrIdx) (r3 : GrIdx) (r2 : GrIdx) (hint : BitVec 2) :
    Encoding.Statement (.ld4CClrR1R3R2 qp r1 r3 r2 hint) := rfl
theorem Encoding.ld4CClrR1R3Imm9 (qp : PredIdx) (r1 : GrIdx) (r3 : GrIdx) (imm9 : BitVec 9) (hint : BitVec 2) :
    Encoding.Statement (.ld4CClrR1R3Imm9 qp r1 r3 imm9 hint) := rfl
theorem Encoding.ld8CClrR1R3 (qp : PredIdx) (r1 : GrIdx) (r3 : GrIdx) (hint : BitVec 2) :
    Encoding.Statement (.ld8CClrR1R3 qp r1 r3 hint) := rfl
theorem Encoding.ld8CClrR1R3R2 (qp : PredIdx) (r1 : GrIdx) (r3 : GrIdx) (r2 : GrIdx) (hint : BitVec 2) :
    Encoding.Statement (.ld8CClrR1R3R2 qp r1 r3 r2 hint) := rfl
theorem Encoding.ld8CClrR1R3Imm9 (qp : PredIdx) (r1 : GrIdx) (r3 : GrIdx) (imm9 : BitVec 9) (hint : BitVec 2) :
    Encoding.Statement (.ld8CClrR1R3Imm9 qp r1 r3 imm9 hint) := rfl
theorem Encoding.ld1CNcR1R3 (qp : PredIdx) (r1 : GrIdx) (r3 : GrIdx) (hint : BitVec 2) :
    Encoding.Statement (.ld1CNcR1R3 qp r1 r3 hint) := rfl
theorem Encoding.ld1CNcR1R3R2 (qp : PredIdx) (r1 : GrIdx) (r3 : GrIdx) (r2 : GrIdx) (hint : BitVec 2) :
    Encoding.Statement (.ld1CNcR1R3R2 qp r1 r3 r2 hint) := rfl
theorem Encoding.ld1CNcR1R3Imm9 (qp : PredIdx) (r1 : GrIdx) (r3 : GrIdx) (imm9 : BitVec 9) (hint : BitVec 2) :
    Encoding.Statement (.ld1CNcR1R3Imm9 qp r1 r3 imm9 hint) := rfl
theorem Encoding.ld2CNcR1R3 (qp : PredIdx) (r1 : GrIdx) (r3 : GrIdx) (hint : BitVec 2) :
    Encoding.Statement (.ld2CNcR1R3 qp r1 r3 hint) := rfl
theorem Encoding.ld2CNcR1R3R2 (qp : PredIdx) (r1 : GrIdx) (r3 : GrIdx) (r2 : GrIdx) (hint : BitVec 2) :
    Encoding.Statement (.ld2CNcR1R3R2 qp r1 r3 r2 hint) := rfl
theorem Encoding.ld2CNcR1R3Imm9 (qp : PredIdx) (r1 : GrIdx) (r3 : GrIdx) (imm9 : BitVec 9) (hint : BitVec 2) :
    Encoding.Statement (.ld2CNcR1R3Imm9 qp r1 r3 imm9 hint) := rfl
theorem Encoding.ld4CNcR1R3 (qp : PredIdx) (r1 : GrIdx) (r3 : GrIdx) (hint : BitVec 2) :
    Encoding.Statement (.ld4CNcR1R3 qp r1 r3 hint) := rfl
theorem Encoding.ld4CNcR1R3R2 (qp : PredIdx) (r1 : GrIdx) (r3 : GrIdx) (r2 : GrIdx) (hint : BitVec 2) :
    Encoding.Statement (.ld4CNcR1R3R2 qp r1 r3 r2 hint) := rfl
theorem Encoding.ld4CNcR1R3Imm9 (qp : PredIdx) (r1 : GrIdx) (r3 : GrIdx) (imm9 : BitVec 9) (hint : BitVec 2) :
    Encoding.Statement (.ld4CNcR1R3Imm9 qp r1 r3 imm9 hint) := rfl
theorem Encoding.ld8CNcR1R3 (qp : PredIdx) (r1 : GrIdx) (r3 : GrIdx) (hint : BitVec 2) :
    Encoding.Statement (.ld8CNcR1R3 qp r1 r3 hint) := rfl
theorem Encoding.ld8CNcR1R3R2 (qp : PredIdx) (r1 : GrIdx) (r3 : GrIdx) (r2 : GrIdx) (hint : BitVec 2) :
    Encoding.Statement (.ld8CNcR1R3R2 qp r1 r3 r2 hint) := rfl
theorem Encoding.ld8CNcR1R3Imm9 (qp : PredIdx) (r1 : GrIdx) (r3 : GrIdx) (imm9 : BitVec 9) (hint : BitVec 2) :
    Encoding.Statement (.ld8CNcR1R3Imm9 qp r1 r3 imm9 hint) := rfl
theorem Encoding.ld1CClrAcqR1R3 (qp : PredIdx) (r1 : GrIdx) (r3 : GrIdx) (hint : BitVec 2) :
    Encoding.Statement (.ld1CClrAcqR1R3 qp r1 r3 hint) := rfl
theorem Encoding.ld1CClrAcqR1R3R2 (qp : PredIdx) (r1 : GrIdx) (r3 : GrIdx) (r2 : GrIdx) (hint : BitVec 2) :
    Encoding.Statement (.ld1CClrAcqR1R3R2 qp r1 r3 r2 hint) := rfl
theorem Encoding.ld1CClrAcqR1R3Imm9 (qp : PredIdx) (r1 : GrIdx) (r3 : GrIdx) (imm9 : BitVec 9) (hint : BitVec 2) :
    Encoding.Statement (.ld1CClrAcqR1R3Imm9 qp r1 r3 imm9 hint) := rfl
theorem Encoding.ld2CClrAcqR1R3 (qp : PredIdx) (r1 : GrIdx) (r3 : GrIdx) (hint : BitVec 2) :
    Encoding.Statement (.ld2CClrAcqR1R3 qp r1 r3 hint) := rfl
theorem Encoding.ld2CClrAcqR1R3R2 (qp : PredIdx) (r1 : GrIdx) (r3 : GrIdx) (r2 : GrIdx) (hint : BitVec 2) :
    Encoding.Statement (.ld2CClrAcqR1R3R2 qp r1 r3 r2 hint) := rfl
theorem Encoding.ld2CClrAcqR1R3Imm9 (qp : PredIdx) (r1 : GrIdx) (r3 : GrIdx) (imm9 : BitVec 9) (hint : BitVec 2) :
    Encoding.Statement (.ld2CClrAcqR1R3Imm9 qp r1 r3 imm9 hint) := rfl
theorem Encoding.ld4CClrAcqR1R3 (qp : PredIdx) (r1 : GrIdx) (r3 : GrIdx) (hint : BitVec 2) :
    Encoding.Statement (.ld4CClrAcqR1R3 qp r1 r3 hint) := rfl
theorem Encoding.ld4CClrAcqR1R3R2 (qp : PredIdx) (r1 : GrIdx) (r3 : GrIdx) (r2 : GrIdx) (hint : BitVec 2) :
    Encoding.Statement (.ld4CClrAcqR1R3R2 qp r1 r3 r2 hint) := rfl
theorem Encoding.ld4CClrAcqR1R3Imm9 (qp : PredIdx) (r1 : GrIdx) (r3 : GrIdx) (imm9 : BitVec 9) (hint : BitVec 2) :
    Encoding.Statement (.ld4CClrAcqR1R3Imm9 qp r1 r3 imm9 hint) := rfl
theorem Encoding.ld8CClrAcqR1R3 (qp : PredIdx) (r1 : GrIdx) (r3 : GrIdx) (hint : BitVec 2) :
    Encoding.Statement (.ld8CClrAcqR1R3 qp r1 r3 hint) := rfl
theorem Encoding.ld8CClrAcqR1R3R2 (qp : PredIdx) (r1 : GrIdx) (r3 : GrIdx) (r2 : GrIdx) (hint : BitVec 2) :
    Encoding.Statement (.ld8CClrAcqR1R3R2 qp r1 r3 r2 hint) := rfl
theorem Encoding.ld8CClrAcqR1R3Imm9 (qp : PredIdx) (r1 : GrIdx) (r3 : GrIdx) (imm9 : BitVec 9) (hint : BitVec 2) :
    Encoding.Statement (.ld8CClrAcqR1R3Imm9 qp r1 r3 imm9 hint) := rfl
theorem Encoding.ld8FillR1R3 (qp : PredIdx) (r1 : GrIdx) (r3 : GrIdx) (hint : BitVec 2) :
    Encoding.Statement (.ld8FillR1R3 qp r1 r3 hint) := rfl
theorem Encoding.ld8FillR1R3R2 (qp : PredIdx) (r1 : GrIdx) (r3 : GrIdx) (r2 : GrIdx) (hint : BitVec 2) :
    Encoding.Statement (.ld8FillR1R3R2 qp r1 r3 r2 hint) := rfl
theorem Encoding.ld8FillR1R3Imm9 (qp : PredIdx) (r1 : GrIdx) (r3 : GrIdx) (imm9 : BitVec 9) (hint : BitVec 2) :
    Encoding.Statement (.ld8FillR1R3Imm9 qp r1 r3 imm9 hint) := rfl
theorem Encoding.st1R3R2 (qp : PredIdx) (r3 : GrIdx) (r2 : GrIdx) (hint : BitVec 2) :
    Encoding.Statement (.st1R3R2 qp r3 r2 hint) := rfl
theorem Encoding.st1R3R2Imm9 (qp : PredIdx) (r3 : GrIdx) (r2 : GrIdx) (imm9 : BitVec 9) (hint : BitVec 2) :
    Encoding.Statement (.st1R3R2Imm9 qp r3 r2 imm9 hint) := rfl
theorem Encoding.st2R3R2 (qp : PredIdx) (r3 : GrIdx) (r2 : GrIdx) (hint : BitVec 2) :
    Encoding.Statement (.st2R3R2 qp r3 r2 hint) := rfl
theorem Encoding.st2R3R2Imm9 (qp : PredIdx) (r3 : GrIdx) (r2 : GrIdx) (imm9 : BitVec 9) (hint : BitVec 2) :
    Encoding.Statement (.st2R3R2Imm9 qp r3 r2 imm9 hint) := rfl
theorem Encoding.st4R3R2 (qp : PredIdx) (r3 : GrIdx) (r2 : GrIdx) (hint : BitVec 2) :
    Encoding.Statement (.st4R3R2 qp r3 r2 hint) := rfl
theorem Encoding.st4R3R2Imm9 (qp : PredIdx) (r3 : GrIdx) (r2 : GrIdx) (imm9 : BitVec 9) (hint : BitVec 2) :
    Encoding.Statement (.st4R3R2Imm9 qp r3 r2 imm9 hint) := rfl
theorem Encoding.st8R3R2 (qp : PredIdx) (r3 : GrIdx) (r2 : GrIdx) (hint : BitVec 2) :
    Encoding.Statement (.st8R3R2 qp r3 r2 hint) := rfl
theorem Encoding.st8R3R2Imm9 (qp : PredIdx) (r3 : GrIdx) (r2 : GrIdx) (imm9 : BitVec 9) (hint : BitVec 2) :
    Encoding.Statement (.st8R3R2Imm9 qp r3 r2 imm9 hint) := rfl
theorem Encoding.st1RelR3R2 (qp : PredIdx) (r3 : GrIdx) (r2 : GrIdx) (hint : BitVec 2) :
    Encoding.Statement (.st1RelR3R2 qp r3 r2 hint) := rfl
theorem Encoding.st1RelR3R2Imm9 (qp : PredIdx) (r3 : GrIdx) (r2 : GrIdx) (imm9 : BitVec 9) (hint : BitVec 2) :
    Encoding.Statement (.st1RelR3R2Imm9 qp r3 r2 imm9 hint) := rfl
theorem Encoding.st2RelR3R2 (qp : PredIdx) (r3 : GrIdx) (r2 : GrIdx) (hint : BitVec 2) :
    Encoding.Statement (.st2RelR3R2 qp r3 r2 hint) := rfl
theorem Encoding.st2RelR3R2Imm9 (qp : PredIdx) (r3 : GrIdx) (r2 : GrIdx) (imm9 : BitVec 9) (hint : BitVec 2) :
    Encoding.Statement (.st2RelR3R2Imm9 qp r3 r2 imm9 hint) := rfl
theorem Encoding.st4RelR3R2 (qp : PredIdx) (r3 : GrIdx) (r2 : GrIdx) (hint : BitVec 2) :
    Encoding.Statement (.st4RelR3R2 qp r3 r2 hint) := rfl
theorem Encoding.st4RelR3R2Imm9 (qp : PredIdx) (r3 : GrIdx) (r2 : GrIdx) (imm9 : BitVec 9) (hint : BitVec 2) :
    Encoding.Statement (.st4RelR3R2Imm9 qp r3 r2 imm9 hint) := rfl
theorem Encoding.st8RelR3R2 (qp : PredIdx) (r3 : GrIdx) (r2 : GrIdx) (hint : BitVec 2) :
    Encoding.Statement (.st8RelR3R2 qp r3 r2 hint) := rfl
theorem Encoding.st8RelR3R2Imm9 (qp : PredIdx) (r3 : GrIdx) (r2 : GrIdx) (imm9 : BitVec 9) (hint : BitVec 2) :
    Encoding.Statement (.st8RelR3R2Imm9 qp r3 r2 imm9 hint) := rfl
theorem Encoding.st8SpillR3R2 (qp : PredIdx) (r3 : GrIdx) (r2 : GrIdx) (hint : BitVec 2) :
    Encoding.Statement (.st8SpillR3R2 qp r3 r2 hint) := rfl
theorem Encoding.st8SpillR3R2Imm9 (qp : PredIdx) (r3 : GrIdx) (r2 : GrIdx) (imm9 : BitVec 9) (hint : BitVec 2) :
    Encoding.Statement (.st8SpillR3R2Imm9 qp r3 r2 imm9 hint) := rfl
theorem Encoding.ldfeF1R3 (qp : PredIdx) (f1 : FrIdx) (r3 : GrIdx) (hint : BitVec 2) :
    Encoding.Statement (.ldfeF1R3 qp f1 r3 hint) := rfl
theorem Encoding.ldfeF1R3R2 (qp : PredIdx) (f1 : FrIdx) (r3 : GrIdx) (r2 : GrIdx) (hint : BitVec 2) :
    Encoding.Statement (.ldfeF1R3R2 qp f1 r3 r2 hint) := rfl
theorem Encoding.ldfeF1R3Imm9 (qp : PredIdx) (f1 : FrIdx) (r3 : GrIdx) (imm9 : BitVec 9) (hint : BitVec 2) :
    Encoding.Statement (.ldfeF1R3Imm9 qp f1 r3 imm9 hint) := rfl
theorem Encoding.ldf8F1R3 (qp : PredIdx) (f1 : FrIdx) (r3 : GrIdx) (hint : BitVec 2) :
    Encoding.Statement (.ldf8F1R3 qp f1 r3 hint) := rfl
theorem Encoding.ldf8F1R3R2 (qp : PredIdx) (f1 : FrIdx) (r3 : GrIdx) (r2 : GrIdx) (hint : BitVec 2) :
    Encoding.Statement (.ldf8F1R3R2 qp f1 r3 r2 hint) := rfl
theorem Encoding.ldf8F1R3Imm9 (qp : PredIdx) (f1 : FrIdx) (r3 : GrIdx) (imm9 : BitVec 9) (hint : BitVec 2) :
    Encoding.Statement (.ldf8F1R3Imm9 qp f1 r3 imm9 hint) := rfl
theorem Encoding.ldfsF1R3 (qp : PredIdx) (f1 : FrIdx) (r3 : GrIdx) (hint : BitVec 2) :
    Encoding.Statement (.ldfsF1R3 qp f1 r3 hint) := rfl
theorem Encoding.ldfsF1R3R2 (qp : PredIdx) (f1 : FrIdx) (r3 : GrIdx) (r2 : GrIdx) (hint : BitVec 2) :
    Encoding.Statement (.ldfsF1R3R2 qp f1 r3 r2 hint) := rfl
theorem Encoding.ldfsF1R3Imm9 (qp : PredIdx) (f1 : FrIdx) (r3 : GrIdx) (imm9 : BitVec 9) (hint : BitVec 2) :
    Encoding.Statement (.ldfsF1R3Imm9 qp f1 r3 imm9 hint) := rfl
theorem Encoding.ldfdF1R3 (qp : PredIdx) (f1 : FrIdx) (r3 : GrIdx) (hint : BitVec 2) :
    Encoding.Statement (.ldfdF1R3 qp f1 r3 hint) := rfl
theorem Encoding.ldfdF1R3R2 (qp : PredIdx) (f1 : FrIdx) (r3 : GrIdx) (r2 : GrIdx) (hint : BitVec 2) :
    Encoding.Statement (.ldfdF1R3R2 qp f1 r3 r2 hint) := rfl
theorem Encoding.ldfdF1R3Imm9 (qp : PredIdx) (f1 : FrIdx) (r3 : GrIdx) (imm9 : BitVec 9) (hint : BitVec 2) :
    Encoding.Statement (.ldfdF1R3Imm9 qp f1 r3 imm9 hint) := rfl
theorem Encoding.ldfeSF1R3 (qp : PredIdx) (f1 : FrIdx) (r3 : GrIdx) (hint : BitVec 2) :
    Encoding.Statement (.ldfeSF1R3 qp f1 r3 hint) := rfl
theorem Encoding.ldfeSF1R3R2 (qp : PredIdx) (f1 : FrIdx) (r3 : GrIdx) (r2 : GrIdx) (hint : BitVec 2) :
    Encoding.Statement (.ldfeSF1R3R2 qp f1 r3 r2 hint) := rfl
theorem Encoding.ldfeSF1R3Imm9 (qp : PredIdx) (f1 : FrIdx) (r3 : GrIdx) (imm9 : BitVec 9) (hint : BitVec 2) :
    Encoding.Statement (.ldfeSF1R3Imm9 qp f1 r3 imm9 hint) := rfl
theorem Encoding.ldf8SF1R3 (qp : PredIdx) (f1 : FrIdx) (r3 : GrIdx) (hint : BitVec 2) :
    Encoding.Statement (.ldf8SF1R3 qp f1 r3 hint) := rfl
theorem Encoding.ldf8SF1R3R2 (qp : PredIdx) (f1 : FrIdx) (r3 : GrIdx) (r2 : GrIdx) (hint : BitVec 2) :
    Encoding.Statement (.ldf8SF1R3R2 qp f1 r3 r2 hint) := rfl
theorem Encoding.ldf8SF1R3Imm9 (qp : PredIdx) (f1 : FrIdx) (r3 : GrIdx) (imm9 : BitVec 9) (hint : BitVec 2) :
    Encoding.Statement (.ldf8SF1R3Imm9 qp f1 r3 imm9 hint) := rfl
theorem Encoding.ldfsSF1R3 (qp : PredIdx) (f1 : FrIdx) (r3 : GrIdx) (hint : BitVec 2) :
    Encoding.Statement (.ldfsSF1R3 qp f1 r3 hint) := rfl
theorem Encoding.ldfsSF1R3R2 (qp : PredIdx) (f1 : FrIdx) (r3 : GrIdx) (r2 : GrIdx) (hint : BitVec 2) :
    Encoding.Statement (.ldfsSF1R3R2 qp f1 r3 r2 hint) := rfl
theorem Encoding.ldfsSF1R3Imm9 (qp : PredIdx) (f1 : FrIdx) (r3 : GrIdx) (imm9 : BitVec 9) (hint : BitVec 2) :
    Encoding.Statement (.ldfsSF1R3Imm9 qp f1 r3 imm9 hint) := rfl
theorem Encoding.ldfdSF1R3 (qp : PredIdx) (f1 : FrIdx) (r3 : GrIdx) (hint : BitVec 2) :
    Encoding.Statement (.ldfdSF1R3 qp f1 r3 hint) := rfl
theorem Encoding.ldfdSF1R3R2 (qp : PredIdx) (f1 : FrIdx) (r3 : GrIdx) (r2 : GrIdx) (hint : BitVec 2) :
    Encoding.Statement (.ldfdSF1R3R2 qp f1 r3 r2 hint) := rfl
theorem Encoding.ldfdSF1R3Imm9 (qp : PredIdx) (f1 : FrIdx) (r3 : GrIdx) (imm9 : BitVec 9) (hint : BitVec 2) :
    Encoding.Statement (.ldfdSF1R3Imm9 qp f1 r3 imm9 hint) := rfl
theorem Encoding.ldfeAF1R3 (qp : PredIdx) (f1 : FrIdx) (r3 : GrIdx) (hint : BitVec 2) :
    Encoding.Statement (.ldfeAF1R3 qp f1 r3 hint) := rfl
theorem Encoding.ldfeAF1R3R2 (qp : PredIdx) (f1 : FrIdx) (r3 : GrIdx) (r2 : GrIdx) (hint : BitVec 2) :
    Encoding.Statement (.ldfeAF1R3R2 qp f1 r3 r2 hint) := rfl
theorem Encoding.ldfeAF1R3Imm9 (qp : PredIdx) (f1 : FrIdx) (r3 : GrIdx) (imm9 : BitVec 9) (hint : BitVec 2) :
    Encoding.Statement (.ldfeAF1R3Imm9 qp f1 r3 imm9 hint) := rfl
theorem Encoding.ldf8AF1R3 (qp : PredIdx) (f1 : FrIdx) (r3 : GrIdx) (hint : BitVec 2) :
    Encoding.Statement (.ldf8AF1R3 qp f1 r3 hint) := rfl
theorem Encoding.ldf8AF1R3R2 (qp : PredIdx) (f1 : FrIdx) (r3 : GrIdx) (r2 : GrIdx) (hint : BitVec 2) :
    Encoding.Statement (.ldf8AF1R3R2 qp f1 r3 r2 hint) := rfl
theorem Encoding.ldf8AF1R3Imm9 (qp : PredIdx) (f1 : FrIdx) (r3 : GrIdx) (imm9 : BitVec 9) (hint : BitVec 2) :
    Encoding.Statement (.ldf8AF1R3Imm9 qp f1 r3 imm9 hint) := rfl
theorem Encoding.ldfsAF1R3 (qp : PredIdx) (f1 : FrIdx) (r3 : GrIdx) (hint : BitVec 2) :
    Encoding.Statement (.ldfsAF1R3 qp f1 r3 hint) := rfl
theorem Encoding.ldfsAF1R3R2 (qp : PredIdx) (f1 : FrIdx) (r3 : GrIdx) (r2 : GrIdx) (hint : BitVec 2) :
    Encoding.Statement (.ldfsAF1R3R2 qp f1 r3 r2 hint) := rfl
theorem Encoding.ldfsAF1R3Imm9 (qp : PredIdx) (f1 : FrIdx) (r3 : GrIdx) (imm9 : BitVec 9) (hint : BitVec 2) :
    Encoding.Statement (.ldfsAF1R3Imm9 qp f1 r3 imm9 hint) := rfl
theorem Encoding.ldfdAF1R3 (qp : PredIdx) (f1 : FrIdx) (r3 : GrIdx) (hint : BitVec 2) :
    Encoding.Statement (.ldfdAF1R3 qp f1 r3 hint) := rfl
theorem Encoding.ldfdAF1R3R2 (qp : PredIdx) (f1 : FrIdx) (r3 : GrIdx) (r2 : GrIdx) (hint : BitVec 2) :
    Encoding.Statement (.ldfdAF1R3R2 qp f1 r3 r2 hint) := rfl
theorem Encoding.ldfdAF1R3Imm9 (qp : PredIdx) (f1 : FrIdx) (r3 : GrIdx) (imm9 : BitVec 9) (hint : BitVec 2) :
    Encoding.Statement (.ldfdAF1R3Imm9 qp f1 r3 imm9 hint) := rfl
theorem Encoding.ldfeSaF1R3 (qp : PredIdx) (f1 : FrIdx) (r3 : GrIdx) (hint : BitVec 2) :
    Encoding.Statement (.ldfeSaF1R3 qp f1 r3 hint) := rfl
theorem Encoding.ldfeSaF1R3R2 (qp : PredIdx) (f1 : FrIdx) (r3 : GrIdx) (r2 : GrIdx) (hint : BitVec 2) :
    Encoding.Statement (.ldfeSaF1R3R2 qp f1 r3 r2 hint) := rfl
theorem Encoding.ldfeSaF1R3Imm9 (qp : PredIdx) (f1 : FrIdx) (r3 : GrIdx) (imm9 : BitVec 9) (hint : BitVec 2) :
    Encoding.Statement (.ldfeSaF1R3Imm9 qp f1 r3 imm9 hint) := rfl
theorem Encoding.ldf8SaF1R3 (qp : PredIdx) (f1 : FrIdx) (r3 : GrIdx) (hint : BitVec 2) :
    Encoding.Statement (.ldf8SaF1R3 qp f1 r3 hint) := rfl
theorem Encoding.ldf8SaF1R3R2 (qp : PredIdx) (f1 : FrIdx) (r3 : GrIdx) (r2 : GrIdx) (hint : BitVec 2) :
    Encoding.Statement (.ldf8SaF1R3R2 qp f1 r3 r2 hint) := rfl
theorem Encoding.ldf8SaF1R3Imm9 (qp : PredIdx) (f1 : FrIdx) (r3 : GrIdx) (imm9 : BitVec 9) (hint : BitVec 2) :
    Encoding.Statement (.ldf8SaF1R3Imm9 qp f1 r3 imm9 hint) := rfl
theorem Encoding.ldfsSaF1R3 (qp : PredIdx) (f1 : FrIdx) (r3 : GrIdx) (hint : BitVec 2) :
    Encoding.Statement (.ldfsSaF1R3 qp f1 r3 hint) := rfl
theorem Encoding.ldfsSaF1R3R2 (qp : PredIdx) (f1 : FrIdx) (r3 : GrIdx) (r2 : GrIdx) (hint : BitVec 2) :
    Encoding.Statement (.ldfsSaF1R3R2 qp f1 r3 r2 hint) := rfl
theorem Encoding.ldfsSaF1R3Imm9 (qp : PredIdx) (f1 : FrIdx) (r3 : GrIdx) (imm9 : BitVec 9) (hint : BitVec 2) :
    Encoding.Statement (.ldfsSaF1R3Imm9 qp f1 r3 imm9 hint) := rfl
theorem Encoding.ldfdSaF1R3 (qp : PredIdx) (f1 : FrIdx) (r3 : GrIdx) (hint : BitVec 2) :
    Encoding.Statement (.ldfdSaF1R3 qp f1 r3 hint) := rfl
theorem Encoding.ldfdSaF1R3R2 (qp : PredIdx) (f1 : FrIdx) (r3 : GrIdx) (r2 : GrIdx) (hint : BitVec 2) :
    Encoding.Statement (.ldfdSaF1R3R2 qp f1 r3 r2 hint) := rfl
theorem Encoding.ldfdSaF1R3Imm9 (qp : PredIdx) (f1 : FrIdx) (r3 : GrIdx) (imm9 : BitVec 9) (hint : BitVec 2) :
    Encoding.Statement (.ldfdSaF1R3Imm9 qp f1 r3 imm9 hint) := rfl
theorem Encoding.ldfeCClrF1R3 (qp : PredIdx) (f1 : FrIdx) (r3 : GrIdx) (hint : BitVec 2) :
    Encoding.Statement (.ldfeCClrF1R3 qp f1 r3 hint) := rfl
theorem Encoding.ldfeCClrF1R3R2 (qp : PredIdx) (f1 : FrIdx) (r3 : GrIdx) (r2 : GrIdx) (hint : BitVec 2) :
    Encoding.Statement (.ldfeCClrF1R3R2 qp f1 r3 r2 hint) := rfl
theorem Encoding.ldfeCClrF1R3Imm9 (qp : PredIdx) (f1 : FrIdx) (r3 : GrIdx) (imm9 : BitVec 9) (hint : BitVec 2) :
    Encoding.Statement (.ldfeCClrF1R3Imm9 qp f1 r3 imm9 hint) := rfl
theorem Encoding.ldf8CClrF1R3 (qp : PredIdx) (f1 : FrIdx) (r3 : GrIdx) (hint : BitVec 2) :
    Encoding.Statement (.ldf8CClrF1R3 qp f1 r3 hint) := rfl
theorem Encoding.ldf8CClrF1R3R2 (qp : PredIdx) (f1 : FrIdx) (r3 : GrIdx) (r2 : GrIdx) (hint : BitVec 2) :
    Encoding.Statement (.ldf8CClrF1R3R2 qp f1 r3 r2 hint) := rfl
theorem Encoding.ldf8CClrF1R3Imm9 (qp : PredIdx) (f1 : FrIdx) (r3 : GrIdx) (imm9 : BitVec 9) (hint : BitVec 2) :
    Encoding.Statement (.ldf8CClrF1R3Imm9 qp f1 r3 imm9 hint) := rfl
theorem Encoding.ldfsCClrF1R3 (qp : PredIdx) (f1 : FrIdx) (r3 : GrIdx) (hint : BitVec 2) :
    Encoding.Statement (.ldfsCClrF1R3 qp f1 r3 hint) := rfl
theorem Encoding.ldfsCClrF1R3R2 (qp : PredIdx) (f1 : FrIdx) (r3 : GrIdx) (r2 : GrIdx) (hint : BitVec 2) :
    Encoding.Statement (.ldfsCClrF1R3R2 qp f1 r3 r2 hint) := rfl
theorem Encoding.ldfsCClrF1R3Imm9 (qp : PredIdx) (f1 : FrIdx) (r3 : GrIdx) (imm9 : BitVec 9) (hint : BitVec 2) :
    Encoding.Statement (.ldfsCClrF1R3Imm9 qp f1 r3 imm9 hint) := rfl
theorem Encoding.ldfdCClrF1R3 (qp : PredIdx) (f1 : FrIdx) (r3 : GrIdx) (hint : BitVec 2) :
    Encoding.Statement (.ldfdCClrF1R3 qp f1 r3 hint) := rfl
theorem Encoding.ldfdCClrF1R3R2 (qp : PredIdx) (f1 : FrIdx) (r3 : GrIdx) (r2 : GrIdx) (hint : BitVec 2) :
    Encoding.Statement (.ldfdCClrF1R3R2 qp f1 r3 r2 hint) := rfl
theorem Encoding.ldfdCClrF1R3Imm9 (qp : PredIdx) (f1 : FrIdx) (r3 : GrIdx) (imm9 : BitVec 9) (hint : BitVec 2) :
    Encoding.Statement (.ldfdCClrF1R3Imm9 qp f1 r3 imm9 hint) := rfl
theorem Encoding.ldfeCNcF1R3 (qp : PredIdx) (f1 : FrIdx) (r3 : GrIdx) (hint : BitVec 2) :
    Encoding.Statement (.ldfeCNcF1R3 qp f1 r3 hint) := rfl
theorem Encoding.ldfeCNcF1R3R2 (qp : PredIdx) (f1 : FrIdx) (r3 : GrIdx) (r2 : GrIdx) (hint : BitVec 2) :
    Encoding.Statement (.ldfeCNcF1R3R2 qp f1 r3 r2 hint) := rfl
theorem Encoding.ldfeCNcF1R3Imm9 (qp : PredIdx) (f1 : FrIdx) (r3 : GrIdx) (imm9 : BitVec 9) (hint : BitVec 2) :
    Encoding.Statement (.ldfeCNcF1R3Imm9 qp f1 r3 imm9 hint) := rfl
theorem Encoding.ldf8CNcF1R3 (qp : PredIdx) (f1 : FrIdx) (r3 : GrIdx) (hint : BitVec 2) :
    Encoding.Statement (.ldf8CNcF1R3 qp f1 r3 hint) := rfl
theorem Encoding.ldf8CNcF1R3R2 (qp : PredIdx) (f1 : FrIdx) (r3 : GrIdx) (r2 : GrIdx) (hint : BitVec 2) :
    Encoding.Statement (.ldf8CNcF1R3R2 qp f1 r3 r2 hint) := rfl
theorem Encoding.ldf8CNcF1R3Imm9 (qp : PredIdx) (f1 : FrIdx) (r3 : GrIdx) (imm9 : BitVec 9) (hint : BitVec 2) :
    Encoding.Statement (.ldf8CNcF1R3Imm9 qp f1 r3 imm9 hint) := rfl
theorem Encoding.ldfsCNcF1R3 (qp : PredIdx) (f1 : FrIdx) (r3 : GrIdx) (hint : BitVec 2) :
    Encoding.Statement (.ldfsCNcF1R3 qp f1 r3 hint) := rfl
theorem Encoding.ldfsCNcF1R3R2 (qp : PredIdx) (f1 : FrIdx) (r3 : GrIdx) (r2 : GrIdx) (hint : BitVec 2) :
    Encoding.Statement (.ldfsCNcF1R3R2 qp f1 r3 r2 hint) := rfl
theorem Encoding.ldfsCNcF1R3Imm9 (qp : PredIdx) (f1 : FrIdx) (r3 : GrIdx) (imm9 : BitVec 9) (hint : BitVec 2) :
    Encoding.Statement (.ldfsCNcF1R3Imm9 qp f1 r3 imm9 hint) := rfl
theorem Encoding.ldfdCNcF1R3 (qp : PredIdx) (f1 : FrIdx) (r3 : GrIdx) (hint : BitVec 2) :
    Encoding.Statement (.ldfdCNcF1R3 qp f1 r3 hint) := rfl
theorem Encoding.ldfdCNcF1R3R2 (qp : PredIdx) (f1 : FrIdx) (r3 : GrIdx) (r2 : GrIdx) (hint : BitVec 2) :
    Encoding.Statement (.ldfdCNcF1R3R2 qp f1 r3 r2 hint) := rfl
theorem Encoding.ldfdCNcF1R3Imm9 (qp : PredIdx) (f1 : FrIdx) (r3 : GrIdx) (imm9 : BitVec 9) (hint : BitVec 2) :
    Encoding.Statement (.ldfdCNcF1R3Imm9 qp f1 r3 imm9 hint) := rfl
theorem Encoding.ldfFillF1R3 (qp : PredIdx) (f1 : FrIdx) (r3 : GrIdx) (hint : BitVec 2) :
    Encoding.Statement (.ldfFillF1R3 qp f1 r3 hint) := rfl
theorem Encoding.ldfFillF1R3R2 (qp : PredIdx) (f1 : FrIdx) (r3 : GrIdx) (r2 : GrIdx) (hint : BitVec 2) :
    Encoding.Statement (.ldfFillF1R3R2 qp f1 r3 r2 hint) := rfl
theorem Encoding.ldfFillF1R3Imm9 (qp : PredIdx) (f1 : FrIdx) (r3 : GrIdx) (imm9 : BitVec 9) (hint : BitVec 2) :
    Encoding.Statement (.ldfFillF1R3Imm9 qp f1 r3 imm9 hint) := rfl
theorem Encoding.stfeR3F2 (qp : PredIdx) (r3 : GrIdx) (f2 : FrIdx) (hint : BitVec 2) :
    Encoding.Statement (.stfeR3F2 qp r3 f2 hint) := rfl
theorem Encoding.stfeR3F2Imm9 (qp : PredIdx) (r3 : GrIdx) (f2 : FrIdx) (imm9 : BitVec 9) (hint : BitVec 2) :
    Encoding.Statement (.stfeR3F2Imm9 qp r3 f2 imm9 hint) := rfl
theorem Encoding.stf8R3F2 (qp : PredIdx) (r3 : GrIdx) (f2 : FrIdx) (hint : BitVec 2) :
    Encoding.Statement (.stf8R3F2 qp r3 f2 hint) := rfl
theorem Encoding.stf8R3F2Imm9 (qp : PredIdx) (r3 : GrIdx) (f2 : FrIdx) (imm9 : BitVec 9) (hint : BitVec 2) :
    Encoding.Statement (.stf8R3F2Imm9 qp r3 f2 imm9 hint) := rfl
theorem Encoding.stfsR3F2 (qp : PredIdx) (r3 : GrIdx) (f2 : FrIdx) (hint : BitVec 2) :
    Encoding.Statement (.stfsR3F2 qp r3 f2 hint) := rfl
theorem Encoding.stfsR3F2Imm9 (qp : PredIdx) (r3 : GrIdx) (f2 : FrIdx) (imm9 : BitVec 9) (hint : BitVec 2) :
    Encoding.Statement (.stfsR3F2Imm9 qp r3 f2 imm9 hint) := rfl
theorem Encoding.stfdR3F2 (qp : PredIdx) (r3 : GrIdx) (f2 : FrIdx) (hint : BitVec 2) :
    Encoding.Statement (.stfdR3F2 qp r3 f2 hint) := rfl
theorem Encoding.stfdR3F2Imm9 (qp : PredIdx) (r3 : GrIdx) (f2 : FrIdx) (imm9 : BitVec 9) (hint : BitVec 2) :
    Encoding.Statement (.stfdR3F2Imm9 qp r3 f2 imm9 hint) := rfl
theorem Encoding.stfSpillR3F2 (qp : PredIdx) (r3 : GrIdx) (f2 : FrIdx) (hint : BitVec 2) :
    Encoding.Statement (.stfSpillR3F2 qp r3 f2 hint) := rfl
theorem Encoding.stfSpillR3F2Imm9 (qp : PredIdx) (r3 : GrIdx) (f2 : FrIdx) (imm9 : BitVec 9) (hint : BitVec 2) :
    Encoding.Statement (.stfSpillR3F2Imm9 qp r3 f2 imm9 hint) := rfl
theorem Encoding.ldfpsF1F2R3 (qp : PredIdx) (f1 : FrIdx) (f2 : FrIdx) (r3 : GrIdx) (hint : BitVec 2) :
    Encoding.Statement (.ldfpsF1F2R3 qp f1 f2 r3 hint) := rfl
theorem Encoding.ldfpsF1F2R38 (qp : PredIdx) (f1 : FrIdx) (f2 : FrIdx) (r3 : GrIdx) (hint : BitVec 2) :
    Encoding.Statement (.ldfpsF1F2R38 qp f1 f2 r3 hint) := rfl
theorem Encoding.ldfpsSF1F2R3 (qp : PredIdx) (f1 : FrIdx) (f2 : FrIdx) (r3 : GrIdx) (hint : BitVec 2) :
    Encoding.Statement (.ldfpsSF1F2R3 qp f1 f2 r3 hint) := rfl
theorem Encoding.ldfpsSF1F2R38 (qp : PredIdx) (f1 : FrIdx) (f2 : FrIdx) (r3 : GrIdx) (hint : BitVec 2) :
    Encoding.Statement (.ldfpsSF1F2R38 qp f1 f2 r3 hint) := rfl
theorem Encoding.ldfpsAF1F2R3 (qp : PredIdx) (f1 : FrIdx) (f2 : FrIdx) (r3 : GrIdx) (hint : BitVec 2) :
    Encoding.Statement (.ldfpsAF1F2R3 qp f1 f2 r3 hint) := rfl
theorem Encoding.ldfpsAF1F2R38 (qp : PredIdx) (f1 : FrIdx) (f2 : FrIdx) (r3 : GrIdx) (hint : BitVec 2) :
    Encoding.Statement (.ldfpsAF1F2R38 qp f1 f2 r3 hint) := rfl
theorem Encoding.ldfpsSaF1F2R3 (qp : PredIdx) (f1 : FrIdx) (f2 : FrIdx) (r3 : GrIdx) (hint : BitVec 2) :
    Encoding.Statement (.ldfpsSaF1F2R3 qp f1 f2 r3 hint) := rfl
theorem Encoding.ldfpsSaF1F2R38 (qp : PredIdx) (f1 : FrIdx) (f2 : FrIdx) (r3 : GrIdx) (hint : BitVec 2) :
    Encoding.Statement (.ldfpsSaF1F2R38 qp f1 f2 r3 hint) := rfl
theorem Encoding.ldfpsCClrF1F2R3 (qp : PredIdx) (f1 : FrIdx) (f2 : FrIdx) (r3 : GrIdx) (hint : BitVec 2) :
    Encoding.Statement (.ldfpsCClrF1F2R3 qp f1 f2 r3 hint) := rfl
theorem Encoding.ldfpsCClrF1F2R38 (qp : PredIdx) (f1 : FrIdx) (f2 : FrIdx) (r3 : GrIdx) (hint : BitVec 2) :
    Encoding.Statement (.ldfpsCClrF1F2R38 qp f1 f2 r3 hint) := rfl
theorem Encoding.ldfpsCNcF1F2R3 (qp : PredIdx) (f1 : FrIdx) (f2 : FrIdx) (r3 : GrIdx) (hint : BitVec 2) :
    Encoding.Statement (.ldfpsCNcF1F2R3 qp f1 f2 r3 hint) := rfl
theorem Encoding.ldfpsCNcF1F2R38 (qp : PredIdx) (f1 : FrIdx) (f2 : FrIdx) (r3 : GrIdx) (hint : BitVec 2) :
    Encoding.Statement (.ldfpsCNcF1F2R38 qp f1 f2 r3 hint) := rfl
theorem Encoding.ldfpdF1F2R3 (qp : PredIdx) (f1 : FrIdx) (f2 : FrIdx) (r3 : GrIdx) (hint : BitVec 2) :
    Encoding.Statement (.ldfpdF1F2R3 qp f1 f2 r3 hint) := rfl
theorem Encoding.ldfpdF1F2R316 (qp : PredIdx) (f1 : FrIdx) (f2 : FrIdx) (r3 : GrIdx) (hint : BitVec 2) :
    Encoding.Statement (.ldfpdF1F2R316 qp f1 f2 r3 hint) := rfl
theorem Encoding.ldfpdSF1F2R3 (qp : PredIdx) (f1 : FrIdx) (f2 : FrIdx) (r3 : GrIdx) (hint : BitVec 2) :
    Encoding.Statement (.ldfpdSF1F2R3 qp f1 f2 r3 hint) := rfl
theorem Encoding.ldfpdSF1F2R316 (qp : PredIdx) (f1 : FrIdx) (f2 : FrIdx) (r3 : GrIdx) (hint : BitVec 2) :
    Encoding.Statement (.ldfpdSF1F2R316 qp f1 f2 r3 hint) := rfl
theorem Encoding.ldfpdAF1F2R3 (qp : PredIdx) (f1 : FrIdx) (f2 : FrIdx) (r3 : GrIdx) (hint : BitVec 2) :
    Encoding.Statement (.ldfpdAF1F2R3 qp f1 f2 r3 hint) := rfl
theorem Encoding.ldfpdAF1F2R316 (qp : PredIdx) (f1 : FrIdx) (f2 : FrIdx) (r3 : GrIdx) (hint : BitVec 2) :
    Encoding.Statement (.ldfpdAF1F2R316 qp f1 f2 r3 hint) := rfl
theorem Encoding.ldfpdSaF1F2R3 (qp : PredIdx) (f1 : FrIdx) (f2 : FrIdx) (r3 : GrIdx) (hint : BitVec 2) :
    Encoding.Statement (.ldfpdSaF1F2R3 qp f1 f2 r3 hint) := rfl
theorem Encoding.ldfpdSaF1F2R316 (qp : PredIdx) (f1 : FrIdx) (f2 : FrIdx) (r3 : GrIdx) (hint : BitVec 2) :
    Encoding.Statement (.ldfpdSaF1F2R316 qp f1 f2 r3 hint) := rfl
theorem Encoding.ldfpdCClrF1F2R3 (qp : PredIdx) (f1 : FrIdx) (f2 : FrIdx) (r3 : GrIdx) (hint : BitVec 2) :
    Encoding.Statement (.ldfpdCClrF1F2R3 qp f1 f2 r3 hint) := rfl
theorem Encoding.ldfpdCClrF1F2R316 (qp : PredIdx) (f1 : FrIdx) (f2 : FrIdx) (r3 : GrIdx) (hint : BitVec 2) :
    Encoding.Statement (.ldfpdCClrF1F2R316 qp f1 f2 r3 hint) := rfl
theorem Encoding.ldfpdCNcF1F2R3 (qp : PredIdx) (f1 : FrIdx) (f2 : FrIdx) (r3 : GrIdx) (hint : BitVec 2) :
    Encoding.Statement (.ldfpdCNcF1F2R3 qp f1 f2 r3 hint) := rfl
theorem Encoding.ldfpdCNcF1F2R316 (qp : PredIdx) (f1 : FrIdx) (f2 : FrIdx) (r3 : GrIdx) (hint : BitVec 2) :
    Encoding.Statement (.ldfpdCNcF1F2R316 qp f1 f2 r3 hint) := rfl
theorem Encoding.ldfp8F1F2R3 (qp : PredIdx) (f1 : FrIdx) (f2 : FrIdx) (r3 : GrIdx) (hint : BitVec 2) :
    Encoding.Statement (.ldfp8F1F2R3 qp f1 f2 r3 hint) := rfl
theorem Encoding.ldfp8F1F2R316 (qp : PredIdx) (f1 : FrIdx) (f2 : FrIdx) (r3 : GrIdx) (hint : BitVec 2) :
    Encoding.Statement (.ldfp8F1F2R316 qp f1 f2 r3 hint) := rfl
theorem Encoding.ldfp8SF1F2R3 (qp : PredIdx) (f1 : FrIdx) (f2 : FrIdx) (r3 : GrIdx) (hint : BitVec 2) :
    Encoding.Statement (.ldfp8SF1F2R3 qp f1 f2 r3 hint) := rfl
theorem Encoding.ldfp8SF1F2R316 (qp : PredIdx) (f1 : FrIdx) (f2 : FrIdx) (r3 : GrIdx) (hint : BitVec 2) :
    Encoding.Statement (.ldfp8SF1F2R316 qp f1 f2 r3 hint) := rfl
theorem Encoding.ldfp8AF1F2R3 (qp : PredIdx) (f1 : FrIdx) (f2 : FrIdx) (r3 : GrIdx) (hint : BitVec 2) :
    Encoding.Statement (.ldfp8AF1F2R3 qp f1 f2 r3 hint) := rfl
theorem Encoding.ldfp8AF1F2R316 (qp : PredIdx) (f1 : FrIdx) (f2 : FrIdx) (r3 : GrIdx) (hint : BitVec 2) :
    Encoding.Statement (.ldfp8AF1F2R316 qp f1 f2 r3 hint) := rfl
theorem Encoding.ldfp8SaF1F2R3 (qp : PredIdx) (f1 : FrIdx) (f2 : FrIdx) (r3 : GrIdx) (hint : BitVec 2) :
    Encoding.Statement (.ldfp8SaF1F2R3 qp f1 f2 r3 hint) := rfl
theorem Encoding.ldfp8SaF1F2R316 (qp : PredIdx) (f1 : FrIdx) (f2 : FrIdx) (r3 : GrIdx) (hint : BitVec 2) :
    Encoding.Statement (.ldfp8SaF1F2R316 qp f1 f2 r3 hint) := rfl
theorem Encoding.ldfp8CClrF1F2R3 (qp : PredIdx) (f1 : FrIdx) (f2 : FrIdx) (r3 : GrIdx) (hint : BitVec 2) :
    Encoding.Statement (.ldfp8CClrF1F2R3 qp f1 f2 r3 hint) := rfl
theorem Encoding.ldfp8CClrF1F2R316 (qp : PredIdx) (f1 : FrIdx) (f2 : FrIdx) (r3 : GrIdx) (hint : BitVec 2) :
    Encoding.Statement (.ldfp8CClrF1F2R316 qp f1 f2 r3 hint) := rfl
theorem Encoding.ldfp8CNcF1F2R3 (qp : PredIdx) (f1 : FrIdx) (f2 : FrIdx) (r3 : GrIdx) (hint : BitVec 2) :
    Encoding.Statement (.ldfp8CNcF1F2R3 qp f1 f2 r3 hint) := rfl
theorem Encoding.ldfp8CNcF1F2R316 (qp : PredIdx) (f1 : FrIdx) (f2 : FrIdx) (r3 : GrIdx) (hint : BitVec 2) :
    Encoding.Statement (.ldfp8CNcF1F2R316 qp f1 f2 r3 hint) := rfl
theorem Encoding.lfetchR3 (qp : PredIdx) (r3 : GrIdx) (hint : BitVec 2) :
    Encoding.Statement (.lfetchR3 qp r3 hint) := rfl
theorem Encoding.lfetchR3R2 (qp : PredIdx) (r3 : GrIdx) (r2 : GrIdx) (hint : BitVec 2) :
    Encoding.Statement (.lfetchR3R2 qp r3 r2 hint) := rfl
theorem Encoding.lfetchR3Imm9 (qp : PredIdx) (r3 : GrIdx) (imm9 : BitVec 9) (hint : BitVec 2) :
    Encoding.Statement (.lfetchR3Imm9 qp r3 imm9 hint) := rfl
theorem Encoding.lfetchExclR3 (qp : PredIdx) (r3 : GrIdx) (hint : BitVec 2) :
    Encoding.Statement (.lfetchExclR3 qp r3 hint) := rfl
theorem Encoding.lfetchExclR3R2 (qp : PredIdx) (r3 : GrIdx) (r2 : GrIdx) (hint : BitVec 2) :
    Encoding.Statement (.lfetchExclR3R2 qp r3 r2 hint) := rfl
theorem Encoding.lfetchExclR3Imm9 (qp : PredIdx) (r3 : GrIdx) (imm9 : BitVec 9) (hint : BitVec 2) :
    Encoding.Statement (.lfetchExclR3Imm9 qp r3 imm9 hint) := rfl
theorem Encoding.lfetchFaultR3 (qp : PredIdx) (r3 : GrIdx) (hint : BitVec 2) :
    Encoding.Statement (.lfetchFaultR3 qp r3 hint) := rfl
theorem Encoding.lfetchFaultR3R2 (qp : PredIdx) (r3 : GrIdx) (r2 : GrIdx) (hint : BitVec 2) :
    Encoding.Statement (.lfetchFaultR3R2 qp r3 r2 hint) := rfl
theorem Encoding.lfetchFaultR3Imm9 (qp : PredIdx) (r3 : GrIdx) (imm9 : BitVec 9) (hint : BitVec 2) :
    Encoding.Statement (.lfetchFaultR3Imm9 qp r3 imm9 hint) := rfl
theorem Encoding.lfetchFaultExclR3 (qp : PredIdx) (r3 : GrIdx) (hint : BitVec 2) :
    Encoding.Statement (.lfetchFaultExclR3 qp r3 hint) := rfl
theorem Encoding.lfetchFaultExclR3R2 (qp : PredIdx) (r3 : GrIdx) (r2 : GrIdx) (hint : BitVec 2) :
    Encoding.Statement (.lfetchFaultExclR3R2 qp r3 r2 hint) := rfl
theorem Encoding.lfetchFaultExclR3Imm9 (qp : PredIdx) (r3 : GrIdx) (imm9 : BitVec 9) (hint : BitVec 2) :
    Encoding.Statement (.lfetchFaultExclR3Imm9 qp r3 imm9 hint) := rfl
theorem Encoding.cmpxchg1AcqR1R3R2ArCcv (qp : PredIdx) (r1 : GrIdx) (r3 : GrIdx) (r2 : GrIdx) (hint : BitVec 2) :
    Encoding.Statement (.cmpxchg1AcqR1R3R2ArCcv qp r1 r3 r2 hint) := rfl
theorem Encoding.cmpxchg1RelR1R3R2ArCcv (qp : PredIdx) (r1 : GrIdx) (r3 : GrIdx) (r2 : GrIdx) (hint : BitVec 2) :
    Encoding.Statement (.cmpxchg1RelR1R3R2ArCcv qp r1 r3 r2 hint) := rfl
theorem Encoding.cmpxchg2AcqR1R3R2ArCcv (qp : PredIdx) (r1 : GrIdx) (r3 : GrIdx) (r2 : GrIdx) (hint : BitVec 2) :
    Encoding.Statement (.cmpxchg2AcqR1R3R2ArCcv qp r1 r3 r2 hint) := rfl
theorem Encoding.cmpxchg2RelR1R3R2ArCcv (qp : PredIdx) (r1 : GrIdx) (r3 : GrIdx) (r2 : GrIdx) (hint : BitVec 2) :
    Encoding.Statement (.cmpxchg2RelR1R3R2ArCcv qp r1 r3 r2 hint) := rfl
theorem Encoding.cmpxchg4AcqR1R3R2ArCcv (qp : PredIdx) (r1 : GrIdx) (r3 : GrIdx) (r2 : GrIdx) (hint : BitVec 2) :
    Encoding.Statement (.cmpxchg4AcqR1R3R2ArCcv qp r1 r3 r2 hint) := rfl
theorem Encoding.cmpxchg4RelR1R3R2ArCcv (qp : PredIdx) (r1 : GrIdx) (r3 : GrIdx) (r2 : GrIdx) (hint : BitVec 2) :
    Encoding.Statement (.cmpxchg4RelR1R3R2ArCcv qp r1 r3 r2 hint) := rfl
theorem Encoding.cmpxchg8AcqR1R3R2ArCcv (qp : PredIdx) (r1 : GrIdx) (r3 : GrIdx) (r2 : GrIdx) (hint : BitVec 2) :
    Encoding.Statement (.cmpxchg8AcqR1R3R2ArCcv qp r1 r3 r2 hint) := rfl
theorem Encoding.cmpxchg8RelR1R3R2ArCcv (qp : PredIdx) (r1 : GrIdx) (r3 : GrIdx) (r2 : GrIdx) (hint : BitVec 2) :
    Encoding.Statement (.cmpxchg8RelR1R3R2ArCcv qp r1 r3 r2 hint) := rfl
theorem Encoding.xchg1R1R3R2 (qp : PredIdx) (r1 : GrIdx) (r3 : GrIdx) (r2 : GrIdx) (hint : BitVec 2) :
    Encoding.Statement (.xchg1R1R3R2 qp r1 r3 r2 hint) := rfl
theorem Encoding.xchg2R1R3R2 (qp : PredIdx) (r1 : GrIdx) (r3 : GrIdx) (r2 : GrIdx) (hint : BitVec 2) :
    Encoding.Statement (.xchg2R1R3R2 qp r1 r3 r2 hint) := rfl
theorem Encoding.xchg4R1R3R2 (qp : PredIdx) (r1 : GrIdx) (r3 : GrIdx) (r2 : GrIdx) (hint : BitVec 2) :
    Encoding.Statement (.xchg4R1R3R2 qp r1 r3 r2 hint) := rfl
theorem Encoding.xchg8R1R3R2 (qp : PredIdx) (r1 : GrIdx) (r3 : GrIdx) (r2 : GrIdx) (hint : BitVec 2) :
    Encoding.Statement (.xchg8R1R3R2 qp r1 r3 r2 hint) := rfl
theorem Encoding.fetchadd4AcqR1R3Inc3 (qp : PredIdx) (r1 : GrIdx) (r3 : GrIdx) (inc3 : FetchInc) (hint : BitVec 2) :
    Encoding.Statement (.fetchadd4AcqR1R3Inc3 qp r1 r3 inc3 hint) := rfl
theorem Encoding.fetchadd4RelR1R3Inc3 (qp : PredIdx) (r1 : GrIdx) (r3 : GrIdx) (inc3 : FetchInc) (hint : BitVec 2) :
    Encoding.Statement (.fetchadd4RelR1R3Inc3 qp r1 r3 inc3 hint) := rfl
theorem Encoding.fetchadd8AcqR1R3Inc3 (qp : PredIdx) (r1 : GrIdx) (r3 : GrIdx) (inc3 : FetchInc) (hint : BitVec 2) :
    Encoding.Statement (.fetchadd8AcqR1R3Inc3 qp r1 r3 inc3 hint) := rfl
theorem Encoding.fetchadd8RelR1R3Inc3 (qp : PredIdx) (r1 : GrIdx) (r3 : GrIdx) (inc3 : FetchInc) (hint : BitVec 2) :
    Encoding.Statement (.fetchadd8RelR1R3Inc3 qp r1 r3 inc3 hint) := rfl
theorem Encoding.setfSigF1R2 (qp : PredIdx) (f1 : FrIdx) (r2 : GrIdx) :
    Encoding.Statement (.setfSigF1R2 qp f1 r2) := rfl
theorem Encoding.setfExpF1R2 (qp : PredIdx) (f1 : FrIdx) (r2 : GrIdx) :
    Encoding.Statement (.setfExpF1R2 qp f1 r2) := rfl
theorem Encoding.setfSF1R2 (qp : PredIdx) (f1 : FrIdx) (r2 : GrIdx) :
    Encoding.Statement (.setfSF1R2 qp f1 r2) := rfl
theorem Encoding.setfDF1R2 (qp : PredIdx) (f1 : FrIdx) (r2 : GrIdx) :
    Encoding.Statement (.setfDF1R2 qp f1 r2) := rfl
theorem Encoding.getfSigR1F2 (qp : PredIdx) (r1 : GrIdx) (f2 : FrIdx) :
    Encoding.Statement (.getfSigR1F2 qp r1 f2) := rfl
theorem Encoding.getfExpR1F2 (qp : PredIdx) (r1 : GrIdx) (f2 : FrIdx) :
    Encoding.Statement (.getfExpR1F2 qp r1 f2) := rfl
theorem Encoding.getfSR1F2 (qp : PredIdx) (r1 : GrIdx) (f2 : FrIdx) :
    Encoding.Statement (.getfSR1F2 qp r1 f2) := rfl
theorem Encoding.getfDR1F2 (qp : PredIdx) (r1 : GrIdx) (f2 : FrIdx) :
    Encoding.Statement (.getfDR1F2 qp r1 f2) := rfl
theorem Encoding.chkSMR2Target25 (qp : PredIdx) (r2 : GrIdx) (imm21 : BitVec 21) :
    Encoding.Statement (.chkSMR2Target25 qp r2 imm21) := rfl
theorem Encoding.chkSF2Target25 (qp : PredIdx) (f2 : FrIdx) (imm21 : BitVec 21) :
    Encoding.Statement (.chkSF2Target25 qp f2 imm21) := rfl
theorem Encoding.chkAClrR1Target25 (qp : PredIdx) (r1 : GrIdx) (imm21 : BitVec 21) :
    Encoding.Statement (.chkAClrR1Target25 qp r1 imm21) := rfl
theorem Encoding.chkAClrF1Target25 (qp : PredIdx) (f1 : FrIdx) (imm21 : BitVec 21) :
    Encoding.Statement (.chkAClrF1Target25 qp f1 imm21) := rfl
theorem Encoding.chkANcR1Target25 (qp : PredIdx) (r1 : GrIdx) (imm21 : BitVec 21) :
    Encoding.Statement (.chkANcR1Target25 qp r1 imm21) := rfl
theorem Encoding.chkANcF1Target25 (qp : PredIdx) (f1 : FrIdx) (imm21 : BitVec 21) :
    Encoding.Statement (.chkANcF1Target25 qp f1 imm21) := rfl
theorem Encoding.invala (qp : PredIdx) :
    Encoding.Statement (.invala qp) := rfl
theorem Encoding.invalaER1 (qp : PredIdx) (r1 : GrIdx) :
    Encoding.Statement (.invalaER1 qp r1) := rfl
theorem Encoding.invalaEF1 (qp : PredIdx) (f1 : FrIdx) :
    Encoding.Statement (.invalaEF1 qp f1) := rfl
theorem Encoding.allocR1ArPfsILOR (qp : PredIdx) (r1 : GrIdx) (sof : BitVec 7) (sol : BitVec 7) (sor : BitVec 4) :
    Encoding.Statement (.allocR1ArPfsILOR qp r1 sof sol sor) := rfl
theorem Encoding.flushrs (qp : PredIdx) :
    Encoding.Statement (.flushrs qp) := rfl
theorem Encoding.loadrs (qp : PredIdx) :
    Encoding.Statement (.loadrs qp) := rfl
theorem Encoding.fcR3 (qp : PredIdx) (r3 : GrIdx) :
    Encoding.Statement (.fcR3 qp r3) := rfl
theorem Encoding.ptcER3 (qp : PredIdx) (r3 : GrIdx) :
    Encoding.Statement (.ptcER3 qp r3) := rfl
theorem Encoding.ptcLR3R2 (qp : PredIdx) (r3 : GrIdx) (r2 : GrIdx) :
    Encoding.Statement (.ptcLR3R2 qp r3 r2) := rfl
theorem Encoding.ptcGR3R2 (qp : PredIdx) (r3 : GrIdx) (r2 : GrIdx) :
    Encoding.Statement (.ptcGR3R2 qp r3 r2) := rfl
theorem Encoding.ptcGaR3R2 (qp : PredIdx) (r3 : GrIdx) (r2 : GrIdx) :
    Encoding.Statement (.ptcGaR3R2 qp r3 r2) := rfl
theorem Encoding.ptrDR3R2 (qp : PredIdx) (r3 : GrIdx) (r2 : GrIdx) :
    Encoding.Statement (.ptrDR3R2 qp r3 r2) := rfl
theorem Encoding.ptrIR3R2 (qp : PredIdx) (r3 : GrIdx) (r2 : GrIdx) :
    Encoding.Statement (.ptrIR3R2 qp r3 r2) := rfl
theorem Encoding.mf (qp : PredIdx) :
    Encoding.Statement (.mf qp) := rfl
theorem Encoding.mfA (qp : PredIdx) :
    Encoding.Statement (.mfA qp) := rfl
theorem Encoding.fwb (qp : PredIdx) :
    Encoding.Statement (.fwb qp) := rfl
theorem Encoding.syncI (qp : PredIdx) :
    Encoding.Statement (.syncI qp) := rfl
theorem Encoding.srlzD (qp : PredIdx) :
    Encoding.Statement (.srlzD qp) := rfl
theorem Encoding.srlzI (qp : PredIdx) :
    Encoding.Statement (.srlzI qp) := rfl
theorem Encoding.movMAr3R2 (qp : PredIdx) (ar3 : BitVec 7) (r2 : GrIdx) :
    Encoding.Statement (.movMAr3R2 qp ar3 r2) := rfl
theorem Encoding.movMAr3Imm8 (qp : PredIdx) (ar3 : BitVec 7) (imm8 : BitVec 8) :
    Encoding.Statement (.movMAr3Imm8 qp ar3 imm8) := rfl
theorem Encoding.movMR1Ar3 (qp : PredIdx) (r1 : GrIdx) (ar3 : BitVec 7) :
    Encoding.Statement (.movMR1Ar3 qp r1 ar3) := rfl
theorem Encoding.movCr3R2 (qp : PredIdx) (cr3 : BitVec 7) (r2 : GrIdx) :
    Encoding.Statement (.movCr3R2 qp cr3 r2) := rfl
theorem Encoding.movR1Cr3 (qp : PredIdx) (r1 : GrIdx) (cr3 : BitVec 7) :
    Encoding.Statement (.movR1Cr3 qp r1 cr3) := rfl
theorem Encoding.movPsrLR2 (qp : PredIdx) (r2 : GrIdx) :
    Encoding.Statement (.movPsrLR2 qp r2) := rfl
theorem Encoding.movPsrUmR2 (qp : PredIdx) (r2 : GrIdx) :
    Encoding.Statement (.movPsrUmR2 qp r2) := rfl
theorem Encoding.movR1Psr (qp : PredIdx) (r1 : GrIdx) :
    Encoding.Statement (.movR1Psr qp r1) := rfl
theorem Encoding.movR1PsrUm (qp : PredIdx) (r1 : GrIdx) :
    Encoding.Statement (.movR1PsrUm qp r1) := rfl
theorem Encoding.breakMImm21 (qp : PredIdx) (imm21 : BitVec 21) :
    Encoding.Statement (.breakMImm21 qp imm21) := rfl
theorem Encoding.nopMImm21 (qp : PredIdx) (imm21 : BitVec 21) :
    Encoding.Statement (.nopMImm21 qp imm21) := rfl
theorem Encoding.sumImm24 (qp : PredIdx) (imm24 : BitVec 24) :
    Encoding.Statement (.sumImm24 qp imm24) := rfl
theorem Encoding.rumImm24 (qp : PredIdx) (imm24 : BitVec 24) :
    Encoding.Statement (.rumImm24 qp imm24) := rfl
theorem Encoding.ssmImm24 (qp : PredIdx) (imm24 : BitVec 24) :
    Encoding.Statement (.ssmImm24 qp imm24) := rfl
theorem Encoding.rsmImm24 (qp : PredIdx) (imm24 : BitVec 24) :
    Encoding.Statement (.rsmImm24 qp imm24) := rfl
theorem Encoding.movPmcR3R2 (qp : PredIdx) (r3 : GrIdx) (r2 : GrIdx) :
    Encoding.Statement (.movPmcR3R2 qp r3 r2) := rfl
theorem Encoding.movR1PmcR3 (qp : PredIdx) (r1 : GrIdx) (r3 : GrIdx) :
    Encoding.Statement (.movR1PmcR3 qp r1 r3) := rfl
theorem Encoding.movPmdR3R2 (qp : PredIdx) (r3 : GrIdx) (r2 : GrIdx) :
    Encoding.Statement (.movPmdR3R2 qp r3 r2) := rfl
theorem Encoding.movR1PmdR3 (qp : PredIdx) (r1 : GrIdx) (r3 : GrIdx) :
    Encoding.Statement (.movR1PmdR3 qp r1 r3) := rfl
theorem Encoding.movRrR3R2 (qp : PredIdx) (r3 : GrIdx) (r2 : GrIdx) :
    Encoding.Statement (.movRrR3R2 qp r3 r2) := rfl
theorem Encoding.movR1RrR3 (qp : PredIdx) (r1 : GrIdx) (r3 : GrIdx) :
    Encoding.Statement (.movR1RrR3 qp r1 r3) := rfl
theorem Encoding.movPkrR3R2 (qp : PredIdx) (r3 : GrIdx) (r2 : GrIdx) :
    Encoding.Statement (.movPkrR3R2 qp r3 r2) := rfl
theorem Encoding.movR1PkrR3 (qp : PredIdx) (r1 : GrIdx) (r3 : GrIdx) :
    Encoding.Statement (.movR1PkrR3 qp r1 r3) := rfl
theorem Encoding.movIbrR3R2 (qp : PredIdx) (r3 : GrIdx) (r2 : GrIdx) :
    Encoding.Statement (.movIbrR3R2 qp r3 r2) := rfl
theorem Encoding.movR1IbrR3 (qp : PredIdx) (r1 : GrIdx) (r3 : GrIdx) :
    Encoding.Statement (.movR1IbrR3 qp r1 r3) := rfl
theorem Encoding.movDbrR3R2 (qp : PredIdx) (r3 : GrIdx) (r2 : GrIdx) :
    Encoding.Statement (.movDbrR3R2 qp r3 r2) := rfl
theorem Encoding.movR1DbrR3 (qp : PredIdx) (r1 : GrIdx) (r3 : GrIdx) :
    Encoding.Statement (.movR1DbrR3 qp r1 r3) := rfl
theorem Encoding.movR1CpuidR3 (qp : PredIdx) (r1 : GrIdx) (r3 : GrIdx) :
    Encoding.Statement (.movR1CpuidR3 qp r1 r3) := rfl
theorem Encoding.itcDR2 (qp : PredIdx) (r2 : GrIdx) :
    Encoding.Statement (.itcDR2 qp r2) := rfl
theorem Encoding.itcIR2 (qp : PredIdx) (r2 : GrIdx) :
    Encoding.Statement (.itcIR2 qp r2) := rfl
theorem Encoding.itrDDtrR3R2 (qp : PredIdx) (r3 : GrIdx) (r2 : GrIdx) :
    Encoding.Statement (.itrDDtrR3R2 qp r3 r2) := rfl
theorem Encoding.itrIItrR3R2 (qp : PredIdx) (r3 : GrIdx) (r2 : GrIdx) :
    Encoding.Statement (.itrIItrR3R2 qp r3 r2) := rfl
theorem Encoding.probeRR1R3R2 (qp : PredIdx) (r1 : GrIdx) (r3 : GrIdx) (r2 : GrIdx) :
    Encoding.Statement (.probeRR1R3R2 qp r1 r3 r2) := rfl
theorem Encoding.probeRR1R3Imm2 (qp : PredIdx) (r1 : GrIdx) (r3 : GrIdx) (imm2 : BitVec 2) :
    Encoding.Statement (.probeRR1R3Imm2 qp r1 r3 imm2) := rfl
theorem Encoding.probeWR1R3R2 (qp : PredIdx) (r1 : GrIdx) (r3 : GrIdx) (r2 : GrIdx) :
    Encoding.Statement (.probeWR1R3R2 qp r1 r3 r2) := rfl
theorem Encoding.probeWR1R3Imm2 (qp : PredIdx) (r1 : GrIdx) (r3 : GrIdx) (imm2 : BitVec 2) :
    Encoding.Statement (.probeWR1R3Imm2 qp r1 r3 imm2) := rfl
theorem Encoding.probeRFaultR3Imm2 (qp : PredIdx) (r3 : GrIdx) (imm2 : BitVec 2) :
    Encoding.Statement (.probeRFaultR3Imm2 qp r3 imm2) := rfl
theorem Encoding.probeWFaultR3Imm2 (qp : PredIdx) (r3 : GrIdx) (imm2 : BitVec 2) :
    Encoding.Statement (.probeWFaultR3Imm2 qp r3 imm2) := rfl
theorem Encoding.probeRwFaultR3Imm2 (qp : PredIdx) (r3 : GrIdx) (imm2 : BitVec 2) :
    Encoding.Statement (.probeRwFaultR3Imm2 qp r3 imm2) := rfl
theorem Encoding.tpaR1R3 (qp : PredIdx) (r1 : GrIdx) (r3 : GrIdx) :
    Encoding.Statement (.tpaR1R3 qp r1 r3) := rfl
theorem Encoding.takR1R3 (qp : PredIdx) (r1 : GrIdx) (r3 : GrIdx) :
    Encoding.Statement (.takR1R3 qp r1 r3) := rfl
theorem Encoding.thashR1R3 (qp : PredIdx) (r1 : GrIdx) (r3 : GrIdx) :
    Encoding.Statement (.thashR1R3 qp r1 r3) := rfl
theorem Encoding.ttagR1R3 (qp : PredIdx) (r1 : GrIdx) (r3 : GrIdx) :
    Encoding.Statement (.ttagR1R3 qp r1 r3) := rfl
theorem Encoding.fmaSfF1F3F4F2 (qp : PredIdx) (sf : BitVec 2) (f1 : FrIdx) (f3 : FrIdx) (f4 : FrIdx) (f2 : FrIdx) :
    Encoding.Statement (.fmaSfF1F3F4F2 qp sf f1 f3 f4 f2) := rfl
theorem Encoding.fmaSSfF1F3F4F2 (qp : PredIdx) (sf : BitVec 2) (f1 : FrIdx) (f3 : FrIdx) (f4 : FrIdx) (f2 : FrIdx) :
    Encoding.Statement (.fmaSSfF1F3F4F2 qp sf f1 f3 f4 f2) := rfl
theorem Encoding.fmaDSfF1F3F4F2 (qp : PredIdx) (sf : BitVec 2) (f1 : FrIdx) (f3 : FrIdx) (f4 : FrIdx) (f2 : FrIdx) :
    Encoding.Statement (.fmaDSfF1F3F4F2 qp sf f1 f3 f4 f2) := rfl
theorem Encoding.fpmaSfF1F3F4F2 (qp : PredIdx) (sf : BitVec 2) (f1 : FrIdx) (f3 : FrIdx) (f4 : FrIdx) (f2 : FrIdx) :
    Encoding.Statement (.fpmaSfF1F3F4F2 qp sf f1 f3 f4 f2) := rfl
theorem Encoding.fmsSfF1F3F4F2 (qp : PredIdx) (sf : BitVec 2) (f1 : FrIdx) (f3 : FrIdx) (f4 : FrIdx) (f2 : FrIdx) :
    Encoding.Statement (.fmsSfF1F3F4F2 qp sf f1 f3 f4 f2) := rfl
theorem Encoding.fmsSSfF1F3F4F2 (qp : PredIdx) (sf : BitVec 2) (f1 : FrIdx) (f3 : FrIdx) (f4 : FrIdx) (f2 : FrIdx) :
    Encoding.Statement (.fmsSSfF1F3F4F2 qp sf f1 f3 f4 f2) := rfl
theorem Encoding.fmsDSfF1F3F4F2 (qp : PredIdx) (sf : BitVec 2) (f1 : FrIdx) (f3 : FrIdx) (f4 : FrIdx) (f2 : FrIdx) :
    Encoding.Statement (.fmsDSfF1F3F4F2 qp sf f1 f3 f4 f2) := rfl
theorem Encoding.fpmsSfF1F3F4F2 (qp : PredIdx) (sf : BitVec 2) (f1 : FrIdx) (f3 : FrIdx) (f4 : FrIdx) (f2 : FrIdx) :
    Encoding.Statement (.fpmsSfF1F3F4F2 qp sf f1 f3 f4 f2) := rfl
theorem Encoding.fnmaSfF1F3F4F2 (qp : PredIdx) (sf : BitVec 2) (f1 : FrIdx) (f3 : FrIdx) (f4 : FrIdx) (f2 : FrIdx) :
    Encoding.Statement (.fnmaSfF1F3F4F2 qp sf f1 f3 f4 f2) := rfl
theorem Encoding.fnmaSSfF1F3F4F2 (qp : PredIdx) (sf : BitVec 2) (f1 : FrIdx) (f3 : FrIdx) (f4 : FrIdx) (f2 : FrIdx) :
    Encoding.Statement (.fnmaSSfF1F3F4F2 qp sf f1 f3 f4 f2) := rfl
theorem Encoding.fnmaDSfF1F3F4F2 (qp : PredIdx) (sf : BitVec 2) (f1 : FrIdx) (f3 : FrIdx) (f4 : FrIdx) (f2 : FrIdx) :
    Encoding.Statement (.fnmaDSfF1F3F4F2 qp sf f1 f3 f4 f2) := rfl
theorem Encoding.fpnmaSfF1F3F4F2 (qp : PredIdx) (sf : BitVec 2) (f1 : FrIdx) (f3 : FrIdx) (f4 : FrIdx) (f2 : FrIdx) :
    Encoding.Statement (.fpnmaSfF1F3F4F2 qp sf f1 f3 f4 f2) := rfl
theorem Encoding.xmaLF1F3F4F2 (qp : PredIdx) (f1 : FrIdx) (f3 : FrIdx) (f4 : FrIdx) (f2 : FrIdx) :
    Encoding.Statement (.xmaLF1F3F4F2 qp f1 f3 f4 f2) := rfl
theorem Encoding.xmaHuF1F3F4F2 (qp : PredIdx) (f1 : FrIdx) (f3 : FrIdx) (f4 : FrIdx) (f2 : FrIdx) :
    Encoding.Statement (.xmaHuF1F3F4F2 qp f1 f3 f4 f2) := rfl
theorem Encoding.xmaHF1F3F4F2 (qp : PredIdx) (f1 : FrIdx) (f3 : FrIdx) (f4 : FrIdx) (f2 : FrIdx) :
    Encoding.Statement (.xmaHF1F3F4F2 qp f1 f3 f4 f2) := rfl
theorem Encoding.fselectF1F3F4F2 (qp : PredIdx) (f1 : FrIdx) (f3 : FrIdx) (f4 : FrIdx) (f2 : FrIdx) :
    Encoding.Statement (.fselectF1F3F4F2 qp f1 f3 f4 f2) := rfl
theorem Encoding.fcmpEqSfP1P2F2F3 (qp : PredIdx) (p1 : PredIdx) (p2 : PredIdx) (f2 : FrIdx) (f3 : FrIdx) (sf : BitVec 2) :
    Encoding.Statement (.fcmpEqSfP1P2F2F3 qp p1 p2 f2 f3 sf) := rfl
theorem Encoding.fcmpEqUncSfP1P2F2F3 (qp : PredIdx) (p1 : PredIdx) (p2 : PredIdx) (f2 : FrIdx) (f3 : FrIdx) (sf : BitVec 2) :
    Encoding.Statement (.fcmpEqUncSfP1P2F2F3 qp p1 p2 f2 f3 sf) := rfl
theorem Encoding.fcmpLtSfP1P2F2F3 (qp : PredIdx) (p1 : PredIdx) (p2 : PredIdx) (f2 : FrIdx) (f3 : FrIdx) (sf : BitVec 2) :
    Encoding.Statement (.fcmpLtSfP1P2F2F3 qp p1 p2 f2 f3 sf) := rfl
theorem Encoding.fcmpLtUncSfP1P2F2F3 (qp : PredIdx) (p1 : PredIdx) (p2 : PredIdx) (f2 : FrIdx) (f3 : FrIdx) (sf : BitVec 2) :
    Encoding.Statement (.fcmpLtUncSfP1P2F2F3 qp p1 p2 f2 f3 sf) := rfl
theorem Encoding.fcmpLeSfP1P2F2F3 (qp : PredIdx) (p1 : PredIdx) (p2 : PredIdx) (f2 : FrIdx) (f3 : FrIdx) (sf : BitVec 2) :
    Encoding.Statement (.fcmpLeSfP1P2F2F3 qp p1 p2 f2 f3 sf) := rfl
theorem Encoding.fcmpLeUncSfP1P2F2F3 (qp : PredIdx) (p1 : PredIdx) (p2 : PredIdx) (f2 : FrIdx) (f3 : FrIdx) (sf : BitVec 2) :
    Encoding.Statement (.fcmpLeUncSfP1P2F2F3 qp p1 p2 f2 f3 sf) := rfl
theorem Encoding.fcmpUnordSfP1P2F2F3 (qp : PredIdx) (p1 : PredIdx) (p2 : PredIdx) (f2 : FrIdx) (f3 : FrIdx) (sf : BitVec 2) :
    Encoding.Statement (.fcmpUnordSfP1P2F2F3 qp p1 p2 f2 f3 sf) := rfl
theorem Encoding.fcmpUnordUncSfP1P2F2F3 (qp : PredIdx) (p1 : PredIdx) (p2 : PredIdx) (f2 : FrIdx) (f3 : FrIdx) (sf : BitVec 2) :
    Encoding.Statement (.fcmpUnordUncSfP1P2F2F3 qp p1 p2 f2 f3 sf) := rfl
theorem Encoding.fclassMP1P2F2Fclass9 (qp : PredIdx) (p1 : PredIdx) (p2 : PredIdx) (f2 : FrIdx) (fclass9 : BitVec 9) :
    Encoding.Statement (.fclassMP1P2F2Fclass9 qp p1 p2 f2 fclass9) := rfl
theorem Encoding.fclassMUncP1P2F2Fclass9 (qp : PredIdx) (p1 : PredIdx) (p2 : PredIdx) (f2 : FrIdx) (fclass9 : BitVec 9) :
    Encoding.Statement (.fclassMUncP1P2F2Fclass9 qp p1 p2 f2 fclass9) := rfl
theorem Encoding.frcpaSfF1P2F2F3 (qp : PredIdx) (f1 : FrIdx) (p2 : PredIdx) (f2 : FrIdx) (f3 : FrIdx) (sf : BitVec 2) :
    Encoding.Statement (.frcpaSfF1P2F2F3 qp f1 p2 f2 f3 sf) := rfl
theorem Encoding.fprcpaSfF1P2F2F3 (qp : PredIdx) (f1 : FrIdx) (p2 : PredIdx) (f2 : FrIdx) (f3 : FrIdx) (sf : BitVec 2) :
    Encoding.Statement (.fprcpaSfF1P2F2F3 qp f1 p2 f2 f3 sf) := rfl
theorem Encoding.frsqrtaSfF1P2F3 (qp : PredIdx) (f1 : FrIdx) (p2 : PredIdx) (f3 : FrIdx) (sf : BitVec 2) :
    Encoding.Statement (.frsqrtaSfF1P2F3 qp f1 p2 f3 sf) := rfl
theorem Encoding.fprsqrtaSfF1P2F3 (qp : PredIdx) (f1 : FrIdx) (p2 : PredIdx) (f3 : FrIdx) (sf : BitVec 2) :
    Encoding.Statement (.fprsqrtaSfF1P2F3 qp f1 p2 f3 sf) := rfl
theorem Encoding.fminSfF1F2F3 (qp : PredIdx) (f1 : FrIdx) (f2 : FrIdx) (f3 : FrIdx) (sf : BitVec 2) :
    Encoding.Statement (.fminSfF1F2F3 qp f1 f2 f3 sf) := rfl
theorem Encoding.fmaxSfF1F2F3 (qp : PredIdx) (f1 : FrIdx) (f2 : FrIdx) (f3 : FrIdx) (sf : BitVec 2) :
    Encoding.Statement (.fmaxSfF1F2F3 qp f1 f2 f3 sf) := rfl
theorem Encoding.faminSfF1F2F3 (qp : PredIdx) (f1 : FrIdx) (f2 : FrIdx) (f3 : FrIdx) (sf : BitVec 2) :
    Encoding.Statement (.faminSfF1F2F3 qp f1 f2 f3 sf) := rfl
theorem Encoding.famaxSfF1F2F3 (qp : PredIdx) (f1 : FrIdx) (f2 : FrIdx) (f3 : FrIdx) (sf : BitVec 2) :
    Encoding.Statement (.famaxSfF1F2F3 qp f1 f2 f3 sf) := rfl
theorem Encoding.fpminSfF1F2F3 (qp : PredIdx) (f1 : FrIdx) (f2 : FrIdx) (f3 : FrIdx) (sf : BitVec 2) :
    Encoding.Statement (.fpminSfF1F2F3 qp f1 f2 f3 sf) := rfl
theorem Encoding.fpmaxSfF1F2F3 (qp : PredIdx) (f1 : FrIdx) (f2 : FrIdx) (f3 : FrIdx) (sf : BitVec 2) :
    Encoding.Statement (.fpmaxSfF1F2F3 qp f1 f2 f3 sf) := rfl
theorem Encoding.fpaminSfF1F2F3 (qp : PredIdx) (f1 : FrIdx) (f2 : FrIdx) (f3 : FrIdx) (sf : BitVec 2) :
    Encoding.Statement (.fpaminSfF1F2F3 qp f1 f2 f3 sf) := rfl
theorem Encoding.fpamaxSfF1F2F3 (qp : PredIdx) (f1 : FrIdx) (f2 : FrIdx) (f3 : FrIdx) (sf : BitVec 2) :
    Encoding.Statement (.fpamaxSfF1F2F3 qp f1 f2 f3 sf) := rfl
theorem Encoding.fpcmpFrelSfF1F2F3 (qp : PredIdx) (f1 : FrIdx) (f2 : FrIdx) (f3 : FrIdx) (frel : FpRel) (sf : BitVec 2) :
    Encoding.Statement (.fpcmpFrelSfF1F2F3 qp f1 f2 f3 frel sf) := rfl
theorem Encoding.fmergeSF1F2F3 (qp : PredIdx) (f1 : FrIdx) (f2 : FrIdx) (f3 : FrIdx) :
    Encoding.Statement (.fmergeSF1F2F3 qp f1 f2 f3) := rfl
theorem Encoding.fmergeNsF1F2F3 (qp : PredIdx) (f1 : FrIdx) (f2 : FrIdx) (f3 : FrIdx) :
    Encoding.Statement (.fmergeNsF1F2F3 qp f1 f2 f3) := rfl
theorem Encoding.fmergeSeF1F2F3 (qp : PredIdx) (f1 : FrIdx) (f2 : FrIdx) (f3 : FrIdx) :
    Encoding.Statement (.fmergeSeF1F2F3 qp f1 f2 f3) := rfl
theorem Encoding.fandF1F2F3 (qp : PredIdx) (f1 : FrIdx) (f2 : FrIdx) (f3 : FrIdx) :
    Encoding.Statement (.fandF1F2F3 qp f1 f2 f3) := rfl
theorem Encoding.fandcmF1F2F3 (qp : PredIdx) (f1 : FrIdx) (f2 : FrIdx) (f3 : FrIdx) :
    Encoding.Statement (.fandcmF1F2F3 qp f1 f2 f3) := rfl
theorem Encoding.forF1F2F3 (qp : PredIdx) (f1 : FrIdx) (f2 : FrIdx) (f3 : FrIdx) :
    Encoding.Statement (.forF1F2F3 qp f1 f2 f3) := rfl
theorem Encoding.fxorF1F2F3 (qp : PredIdx) (f1 : FrIdx) (f2 : FrIdx) (f3 : FrIdx) :
    Encoding.Statement (.fxorF1F2F3 qp f1 f2 f3) := rfl
theorem Encoding.fmixLF1F2F3 (qp : PredIdx) (f1 : FrIdx) (f2 : FrIdx) (f3 : FrIdx) :
    Encoding.Statement (.fmixLF1F2F3 qp f1 f2 f3) := rfl
theorem Encoding.fmixRF1F2F3 (qp : PredIdx) (f1 : FrIdx) (f2 : FrIdx) (f3 : FrIdx) :
    Encoding.Statement (.fmixRF1F2F3 qp f1 f2 f3) := rfl
theorem Encoding.fmixLrF1F2F3 (qp : PredIdx) (f1 : FrIdx) (f2 : FrIdx) (f3 : FrIdx) :
    Encoding.Statement (.fmixLrF1F2F3 qp f1 f2 f3) := rfl
theorem Encoding.fsxtLF1F2F3 (qp : PredIdx) (f1 : FrIdx) (f2 : FrIdx) (f3 : FrIdx) :
    Encoding.Statement (.fsxtLF1F2F3 qp f1 f2 f3) := rfl
theorem Encoding.fsxtRF1F2F3 (qp : PredIdx) (f1 : FrIdx) (f2 : FrIdx) (f3 : FrIdx) :
    Encoding.Statement (.fsxtRF1F2F3 qp f1 f2 f3) := rfl
theorem Encoding.fpackF1F2F3 (qp : PredIdx) (f1 : FrIdx) (f2 : FrIdx) (f3 : FrIdx) :
    Encoding.Statement (.fpackF1F2F3 qp f1 f2 f3) := rfl
theorem Encoding.fswapF1F2F3 (qp : PredIdx) (f1 : FrIdx) (f2 : FrIdx) (f3 : FrIdx) :
    Encoding.Statement (.fswapF1F2F3 qp f1 f2 f3) := rfl
theorem Encoding.fswapNlF1F2F3 (qp : PredIdx) (f1 : FrIdx) (f2 : FrIdx) (f3 : FrIdx) :
    Encoding.Statement (.fswapNlF1F2F3 qp f1 f2 f3) := rfl
theorem Encoding.fswapNrF1F2F3 (qp : PredIdx) (f1 : FrIdx) (f2 : FrIdx) (f3 : FrIdx) :
    Encoding.Statement (.fswapNrF1F2F3 qp f1 f2 f3) := rfl
theorem Encoding.fpmergeSF1F2F3 (qp : PredIdx) (f1 : FrIdx) (f2 : FrIdx) (f3 : FrIdx) :
    Encoding.Statement (.fpmergeSF1F2F3 qp f1 f2 f3) := rfl
theorem Encoding.fpmergeNsF1F2F3 (qp : PredIdx) (f1 : FrIdx) (f2 : FrIdx) (f3 : FrIdx) :
    Encoding.Statement (.fpmergeNsF1F2F3 qp f1 f2 f3) := rfl
theorem Encoding.fpmergeSeF1F2F3 (qp : PredIdx) (f1 : FrIdx) (f2 : FrIdx) (f3 : FrIdx) :
    Encoding.Statement (.fpmergeSeF1F2F3 qp f1 f2 f3) := rfl
theorem Encoding.fcvtFxSfF1F2 (qp : PredIdx) (f1 : FrIdx) (f2 : FrIdx) (sf : BitVec 2) :
    Encoding.Statement (.fcvtFxSfF1F2 qp f1 f2 sf) := rfl
theorem Encoding.fcvtFxuSfF1F2 (qp : PredIdx) (f1 : FrIdx) (f2 : FrIdx) (sf : BitVec 2) :
    Encoding.Statement (.fcvtFxuSfF1F2 qp f1 f2 sf) := rfl
theorem Encoding.fcvtFxTruncSfF1F2 (qp : PredIdx) (f1 : FrIdx) (f2 : FrIdx) (sf : BitVec 2) :
    Encoding.Statement (.fcvtFxTruncSfF1F2 qp f1 f2 sf) := rfl
theorem Encoding.fcvtFxuTruncSfF1F2 (qp : PredIdx) (f1 : FrIdx) (f2 : FrIdx) (sf : BitVec 2) :
    Encoding.Statement (.fcvtFxuTruncSfF1F2 qp f1 f2 sf) := rfl
theorem Encoding.fpcvtFxSfF1F2 (qp : PredIdx) (f1 : FrIdx) (f2 : FrIdx) (sf : BitVec 2) :
    Encoding.Statement (.fpcvtFxSfF1F2 qp f1 f2 sf) := rfl
theorem Encoding.fpcvtFxuSfF1F2 (qp : PredIdx) (f1 : FrIdx) (f2 : FrIdx) (sf : BitVec 2) :
    Encoding.Statement (.fpcvtFxuSfF1F2 qp f1 f2 sf) := rfl
theorem Encoding.fpcvtFxTruncSfF1F2 (qp : PredIdx) (f1 : FrIdx) (f2 : FrIdx) (sf : BitVec 2) :
    Encoding.Statement (.fpcvtFxTruncSfF1F2 qp f1 f2 sf) := rfl
theorem Encoding.fpcvtFxuTruncSfF1F2 (qp : PredIdx) (f1 : FrIdx) (f2 : FrIdx) (sf : BitVec 2) :
    Encoding.Statement (.fpcvtFxuTruncSfF1F2 qp f1 f2 sf) := rfl
theorem Encoding.fcvtXfF1F2 (qp : PredIdx) (f1 : FrIdx) (f2 : FrIdx) :
    Encoding.Statement (.fcvtXfF1F2 qp f1 f2) := rfl
theorem Encoding.fsetcSfAmask7Omask7 (qp : PredIdx) (sf : BitVec 2) (amask7 : BitVec 7) (omask7 : BitVec 7) :
    Encoding.Statement (.fsetcSfAmask7Omask7 qp sf amask7 omask7) := rfl
theorem Encoding.fclrfSf (qp : PredIdx) (sf : BitVec 2) :
    Encoding.Statement (.fclrfSf qp sf) := rfl
theorem Encoding.fchkfSfTarget25 (qp : PredIdx) (sf : BitVec 2) (imm21 : BitVec 21) :
    Encoding.Statement (.fchkfSfTarget25 qp sf imm21) := rfl
theorem Encoding.breakFImm21 (qp : PredIdx) (imm21 : BitVec 21) :
    Encoding.Statement (.breakFImm21 qp imm21) := rfl
theorem Encoding.nopFImm21 (qp : PredIdx) (imm21 : BitVec 21) :
    Encoding.Statement (.nopFImm21 qp imm21) := rfl
theorem Encoding.brCondBwhPhDhTarget25 (qp : PredIdx) (imm21 : BitVec 21) (h : BrHint) :
    Encoding.Statement (.brCondBwhPhDhTarget25 qp imm21 h) := rfl
theorem Encoding.brWexitBwhPhDhTarget25 (qp : PredIdx) (imm21 : BitVec 21) (h : BrHint) :
    Encoding.Statement (.brWexitBwhPhDhTarget25 qp imm21 h) := rfl
theorem Encoding.brWtopBwhPhDhTarget25 (qp : PredIdx) (imm21 : BitVec 21) (h : BrHint) :
    Encoding.Statement (.brWtopBwhPhDhTarget25 qp imm21 h) := rfl
theorem Encoding.brCloopBwhPhDhTarget25 (imm21 : BitVec 21) (h : BrHint) :
    Encoding.Statement (.brCloopBwhPhDhTarget25 imm21 h) := rfl
theorem Encoding.brCexitBwhPhDhTarget25 (imm21 : BitVec 21) (h : BrHint) :
    Encoding.Statement (.brCexitBwhPhDhTarget25 imm21 h) := rfl
theorem Encoding.brCtopBwhPhDhTarget25 (imm21 : BitVec 21) (h : BrHint) :
    Encoding.Statement (.brCtopBwhPhDhTarget25 imm21 h) := rfl
theorem Encoding.brCallBwhPhDhB1Target25 (qp : PredIdx) (b1 : BrIdx) (imm21 : BitVec 21) (h : BrHint) :
    Encoding.Statement (.brCallBwhPhDhB1Target25 qp b1 imm21 h) := rfl
theorem Encoding.brCondBwhPhDhB2 (qp : PredIdx) (b2 : BrIdx) (h : BrHint) :
    Encoding.Statement (.brCondBwhPhDhB2 qp b2 h) := rfl
theorem Encoding.brIaBwhPhDhB2 (b2 : BrIdx) (h : BrHint) :
    Encoding.Statement (.brIaBwhPhDhB2 b2 h) := rfl
theorem Encoding.brRetBwhPhDhB2 (qp : PredIdx) (b2 : BrIdx) (h : BrHint) :
    Encoding.Statement (.brRetBwhPhDhB2 qp b2 h) := rfl
theorem Encoding.brCallBwhPhDhB1B2 (qp : PredIdx) (b1 : BrIdx) (b2 : BrIdx) (wh3 : BitVec 3) (d : BitVec 1) (p : BitVec 1) :
    Encoding.Statement (.brCallBwhPhDhB1B2 qp b1 b2 wh3 d p) := rfl
theorem Encoding.brpIpwhIhTarget25Tag13 (imm21 : BitVec 21) (tag13 : BitVec 13) (ipwh : BitVec 2) (ih : BitVec 1) :
    Encoding.Statement (.brpIpwhIhTarget25Tag13 imm21 tag13 ipwh ih) := rfl
theorem Encoding.brpIndwhIhB2Tag13 (b2 : BrIdx) (tag13 : BitVec 13) (indwh : BitVec 2) (ih : BitVec 1) :
    Encoding.Statement (.brpIndwhIhB2Tag13 b2 tag13 indwh ih) := rfl
theorem Encoding.cover :
    Encoding.Statement .cover := rfl
theorem Encoding.clrrrb :
    Encoding.Statement .clrrrb := rfl
theorem Encoding.clrrrbPr :
    Encoding.Statement .clrrrbPr := rfl
theorem Encoding.rfi :
    Encoding.Statement .rfi := rfl
theorem Encoding.bsw0 :
    Encoding.Statement .bsw0 := rfl
theorem Encoding.bsw1 :
    Encoding.Statement .bsw1 := rfl
theorem Encoding.epc :
    Encoding.Statement .epc := rfl
theorem Encoding.breakBImm21 (qp : PredIdx) (imm21 : BitVec 21) :
    Encoding.Statement (.breakBImm21 qp imm21) := rfl
theorem Encoding.nopBImm21 (qp : PredIdx) (imm21 : BitVec 21) :
    Encoding.Statement (.nopBImm21 qp imm21) := rfl
theorem Encoding.brlCondBwhPhDhTarget64 (qp : PredIdx) (imm60 : BitVec 60) (h : BrHint) :
    Encoding.Statement (.brlCondBwhPhDhTarget64 qp imm60 h) := rfl
theorem Encoding.brlCallBwhPhDhB1Target64 (qp : PredIdx) (b1 : BrIdx) (imm60 : BitVec 60) (h : BrHint) :
    Encoding.Statement (.brlCallBwhPhDhB1Target64 qp b1 imm60 h) := rfl

end Sys2Proof.Laws
end

