-- ==== Sys2Proof/Laws/Tlb.lean ====
section
/-! SUPPORT. What the translation caches' operations can do, said once: a purge, the order of use, the first-level fill. -/

namespace Sys2Proof.Machine

/-- A purge keeps exactly the entries that do not overlap the range (R158). -/
theorem mem_purgeCache (l : List TlbEntry) (rid : BitVec 24) (off : BitVec 61) (ps : BitVec 6) (e : TlbEntry) :
    e ∈ purgeCache l rid off ps ↔ e ∈ l ∧ e.overlaps rid off ps = false := by
  simp [purgeCache]

/-- A purge never adds an entry. -/
theorem purgeCache_length_le (l : List TlbEntry) (rid : BitVec 24) (off : BitVec 61) (ps : BitVec 6) :
    (purgeCache l rid off ps).length ≤ l.length := List.length_filter_le _ _

/-- A use of the data translation cache only reorders it (R156). -/
theorem dtcUsed_perm (s : State) (acc : Acc) : (s.dtcUsed acc).Perm s.dtcache := by
  unfold State.dtcUsed
  split
  · exact List.filter_append_perm _ _
  · exact .refl _

/-- A completed fetch changes the first-level instruction TLB, which stays within its 32 entries, and the monitors' events at most
(R151, R669). -/
theorem l1Fill_cases (s : State) :
    ∃ l evs, s.l1Fill = { s with l1itlb := l, events := evs } ∧ (l = s.l1itlb ∨ l.length ≤ l1Size) := by
  unfold State.l1Fill
  split
  · dsimp only
    split <;> split
    · exact ⟨_, _, rfl, .inr (List.length_take_le _ _)⟩
    · exact ⟨_, _, rfl, .inr (List.length_take_le _ _)⟩
    · exact ⟨_, _, rfl, .inl rfl⟩
    · exact ⟨_, _, rfl, .inl rfl⟩
  · exact ⟨_, _, rfl, .inl rfl⟩

/-- A use of the first-level data TLB leaves it within its 32 entries (R155). -/
theorem l1dUsed_length_le (s : State) (va : Word) (h : s.l1dtlb.length ≤ l1Size) : (s.l1dUsed va).length ≤ l1Size := by
  have hk : l1Size = 32 := rfl
  unfold State.l1dUsed
  split
  · split
    · simp only [List.length_cons]; omega
    · simp only [List.length_cons, List.length_take]; omega
  · exact h

/-- A load leaves the first-level data TLB within its 32 entries. -/
theorem l1dAfter_length_le (s : State) (acc : Acc) (h : s.l1dtlb.length ≤ l1Size) : (s.l1dAfter acc).length ≤ l1Size := by
  unfold State.l1dAfter
  split
  · exact l1dUsed_length_le s _ h
  · exact h

/-- Every entry of the first-level data TLB after its use was there, or is the segment of the one translation of the address. -/
theorem mem_l1dUsed {s : State} {va : Word} {f : TlbEntry} (h : f ∈ s.l1dUsed va) :
    f ∈ s.l1dtlb ∨ ∃ e, s.lookup false va = [e] ∧ f = e.segment va := by
  unfold State.l1dUsed at h
  split at h
  · next e _ he =>
    rcases List.mem_cons.1 h with rfl | h
    · exact .inr ⟨e, he, rfl⟩
    · split at h
      · exact .inl h
      · exact .inl (List.mem_of_mem_eraseIdx (List.mem_of_mem_take h))
  · exact .inl h

/-- The subset rule touches the first-level data TLB alone. -/
theorem l1dBacked_eq (s : State) : s.l1dBacked = { s with l1dtlb := s.l1dBacked.l1dtlb } := rfl

/-- The subset rule keeps exactly the segments that a translation of the second level holds (R155). -/
theorem mem_l1dBacked (s : State) (g : TlbEntry) :
    g ∈ s.l1dBacked.l1dtlb ↔ g ∈ s.l1dtlb ∧ ∃ e ∈ s.translations false, e.covers g.rid g.va = true := by
  simp [State.l1dBacked, List.any_eq_true]

/-- What the fills of a return see differs from the restored state in PSR.ic alone (R584). -/
theorem fillContext_eq (s t : State) : s.fillContext t = { t with psr := (s.fillContext t).psr } := rfl

/-- The two queues of the bus together hold no more than one processor's 19 transactions (R215). -/
theorem liveInOrder_add_liveOutOfOrder_le (s : State) (k : Nat) : s.liveInOrder k + s.liveOutOfOrder k ≤ 19 := by
  have h1 : s.liveInOrder k < 8 + 1 := Nat.mod_lt _ (by decide)
  have h2 : s.liveOutOfOrder k < min 18 (19 - s.liveInOrder k) + 1 := Nat.mod_lt _ (Nat.succ_pos _)
  omega

end Sys2Proof.Machine
end

