-- ==== Sys2Proof/Tests/Slice0.lean ====
section
/-! SUPPORT. Tests/Slice0.lean: ill-formed terms, words written out from the spec's encodings, single steps with the results
that `spec/95_test_vectors.md` gives (its vector is named in each comment), and for every statement a state that meets its
hypotheses. -/

namespace Sys2Proof.Tests

set_option Elab.async false

open Sys2Proof Sys2Proof.Machine Sys2Proof.Forms

/-! ### Ill-formed terms -/

theorem test_wf_pshladd2 : (Instr.pshladd2R1R2Count2R3 0 1 2 0 3).wf = false := rfl
theorem test_wf_pshradd2 : (Instr.pshradd2R1R2Count2R3 0 1 2 0 3).wf = false := rfl
theorem test_wf_mov_br : (Instr.movB1R2 0 1 2 0 0 3).wf = false := rfl
theorem test_wf_mov_ret_br : (Instr.movRetB1R2 0 1 2 0 0 3).wf = false := rfl
theorem test_wf_load_hint : (Instr.ld8R1R3 0 1 3 2).wf = false := rfl
theorem test_wf_fp_load_hint : (Instr.ldfdF1R3 0 6 3 2).wf = false := rfl
theorem test_wf_semaphore_hint : (Instr.xchg8R1R3R2 0 1 3 2 2).wf = false := rfl
theorem test_wf_store_hint : (Instr.st8R3R2 0 3 2 1).wf = false := rfl
theorem test_wf_alloc_predicate : (Instr.allocR1ArPfsILOR 1 2 8 8 1).wf = false := rfl
theorem test_wf_indirect_call_hint : (Instr.brCallBwhPhDhB1B2 0 1 2 0 0 0).wf = false := rfl
theorem test_wf_admits : (Instr.ld8R1R3 0 1 3 3).wf = true ∧ (Instr.lfetchR3 0 3 2).wf = true ∧
    (Instr.st8R3R2 0 3 2 3).wf = true ∧ (Instr.brCallBwhPhDhB1B2 0 1 2 1 0 0).wf = true := ⟨rfl, rfl, rfl, rfl⟩

/-! ### Words of the programs P1 to P5 and of the vectors V-B-1 to V-B-27 -/

theorem test_word_nop_m : decodeSlot .M 0 0x00008000000 = some (.nopMImm21 0 0) := by decide +kernel
theorem test_word_nop_i : decodeSlot .I 0 0x00008000000 = some (.nopIImm21 0 0) := by decide +kernel
theorem test_word_mov_ar_imm : decodeSlot .I 0 0x00054106000 = some (.movIAr3Imm8 0 65 3) := by decide +kernel
theorem test_word_adds : decodeSlot .I 0 0x10800E103C0 = some (.addsR1Imm14R3 0 15 8 14) := by decide +kernel
theorem test_word_ld8_post : decodeSlot .M 0 0x0A0C0E10400 = some (.ld8R1R3Imm9 0 16 14 8 0) := by decide +kernel
theorem test_word_ld8_s : decodeSlot .M 0 0x081C0E00400 = some (.ld8SR1R3 0 16 14 0) := by decide +kernel
theorem test_word_st8 : decodeSlot .M 0 0x08CC0E1E000 = some (.st8R3R2 0 14 15 0) := by decide +kernel
theorem test_word_cloop : decodeSlot .B 0 0x091FFFFE140 = some (.brCloopBwhPhDhTarget25 0x1FFFFF { wh := 0, d := 0, p := 0 }) := by
  decide +kernel
theorem test_word_alloc : decodeSlot .M 0 0x02C0030A880 = some (.allocR1ArPfsILOR 0 34 5 3 0) := by decide +kernel
theorem test_word_call : decodeSlot .B 0 0x0A000020040 = some (.brCallBwhPhDhB1Target25 0 1 0x10 { wh := 0, d := 0, p := 0 }) := by
  decide +kernel
theorem test_word_ret : decodeSlot .B 0 0x00108000100 = some (.brRetBwhPhDhB2 0 0 { wh := 0, d := 0, p := 0 }) := by decide +kernel
theorem test_word_cmp : decodeSlot .I 0 0x18039222180 = some (.cmpLtP1P2R2R3 0 6 7 17 18) := by decide +kernel
theorem test_word_tnat : decodeSlot .I 0 0x0A041002240 = some (.tnatZP1P2R3 0 9 8 16) := by decide +kernel
theorem test_word_chk_s : decodeSlot .I 0 0x002000200C0 = some (.chkSIR2Target25 0 16 3) := by decide +kernel
theorem test_word_ldfd : decodeSlot .M 0 0x0C0C0E00180 = some (.ldfdF1R3 0 6 14 0) := by decide +kernel
theorem test_word_stfd : decodeSlot .M 0 0x0CCC1112000 = some (.stfdR3F2 0 17 9 0) := by decide +kernel
theorem test_word_setf : decodeSlot .M 0 0x0C708022280 = some (.setfSigF1R2 0 10 17) := by decide +kernel
theorem test_word_getf : decodeSlot .M 0 0x087C80124C0 = some (.getfDR1F2 0 19 9) := by decide +kernel
theorem test_word_fma : decodeSlot .F 0 0x12038610240 = some (.fmaDSfF1F3F4F2 0 0 9 6 7 8) := by decide +kernel
theorem test_word_xma : decodeSlot .F 0 0x1D050A002C0 = some (.xmaLF1F3F4F2 0 11 10 10 0) := by decide +kernel
theorem test_word_movl : decodeSlot .X 0x048D159E26A 0x0CDEF2E0380 = some (.movlR1Imm64 0 14 0x123456789ABCDEF0) := by decide +kernel
/-- A pattern the spec does not give (D22). -/
theorem test_word_reserved : decodeSlot .B 0 0x1E000000000 = none := by decide +kernel

/-! ### Single steps -/

/-- GR[2], GR[3] and the rest as at reset. -/
def two (a b : Word) : State :=
  let r := { Regs.reset with stat := (Regs.reset.stat.set 2 { val := a, nat := false }).set 3 { val := b, nat := false } }
  { State.reset with cur := r, old := r }

/-- GR[2] is a NaT. -/
def natTwo (a b : Word) : State :=
  let r := { Regs.reset with stat := (Regs.reset.stat.set 2 { val := a, nat := true }).set 3 { val := b, nat := false } }
  { State.reset with cur := r, old := r }

/-- GR[3] is a NaT. -/
def natThree (b : Word) : State :=
  let r := { Regs.reset with stat := Regs.reset.stat.set 3 { val := b, nat := true } }
  { State.reset with cur := r, old := r }

/-- With predicate bits. -/
def withPr (s : State) (p : Word) : State := { s with cur := { s.cur with pr := p }, old := { s.old with pr := p } }

/-- The next state satisfies a test. -/
def ends (o : Host.Outcome State Fault Refusal) (p : State → Bool) : Bool :=
  match o with
  | .next u => p u
  | _ => false

/-- GR[1] becomes `v`, no NaT. -/
def gives (v : Word) (o : Host.Outcome State Fault Refusal) : Bool := ends o fun u => u.cur.stat[1] == { val := v, nat := false }

/-- PR[6] and PR[7]. -/
def preds (a b : Bool) (o : Host.Outcome State Fault Refusal) : Bool :=
  ends o fun u => u.cur.pr.getLsbD 6 == a && u.cur.pr.getLsbD 7 == b && u.cur.pr.getLsbD 0

/-- The interruption taken: vector offset and ISR. -/
def takes (off : Nat) (isr : Word) (o : Host.Outcome State Fault Refusal) : Bool :=
  ends o fun u => u.ip.toNat == off && u.cr.isr == isr

/-- V-A-1, V-A-2, V-A-7. -/
theorem test_add : (gives 0 (execAddR1R2R3 0 1 2 3 (two 0xFFFFFFFFFFFFFFFF 1)) &&
    gives 12 (execAddR1R2R31 0 1 2 3 (two 5 6)) &&
    ends (execAddR1R2R3 0 1 2 3 (natTwo 1 2)) fun u => u.cur.stat[1] == { val := 3, nat := true }) = true := by decide +kernel
/-- V-A-3, V-A-4, V-A-10. -/
theorem test_sub : (gives 0xFFFFFFFFFFFFFFFE (execSubR1R2R3 0 1 2 3 (two 3 5)) &&
    gives 0xFFFFFFFFFFFFFFFF (execSubR1R2R31 0 1 2 3 (two 5 5)) &&
    gives 0xFFFFFFFFFFFFFFFE (execSubR1Imm8R3 0 1 (-1) 3 (two 0 1))) = true := by decide +kernel
/-- V-A-5, V-A-9. -/
theorem test_pointer_sums : (gives 0x60000000C0000000 (execAddp4R1R2R3 0 1 2 3 (two 0xFFFFFFFF 0xC0000001)) &&
    gives 0x4000000000000000 (execShladdp4R1R2Count2R3 0 1 2 0 3 (two 0x40000000 0x80000000))) = true := by decide +kernel
/-- V-A-6, V-A-11. -/
theorem test_logical : (let s := two 0xFF00FF00FF00FF00 0x0FF00FF00FF00FF0
    gives 0x0F000F000F000F00 (execAndR1R2R3 0 1 2 3 s) && gives 0x00F000F000F000F000 (execAndcmR1R2R3 0 1 2 3 s) &&
    gives 0xFFF0FFF0FFF0FFF0 (execOrR1R2R3 0 1 2 3 s) && gives 0xF0F0F0F0F0F0F0F0 (execXorR1R2R3 0 1 2 3 s) &&
    gives 0x1230 (execAndR1Imm8R3 0 1 (-16) 3 (two 0 0x1234))) = true := by decide +kernel
/-- V-A-8. -/
theorem test_shladd : gives 0x12 (execShladdR1R2Count2R3 0 1 2 3 3 (two 0x1000000000000001 2)) = true := by decide +kernel
/-- V-A-12 to V-A-15. -/
theorem test_add_immediate : (gives 0 (execAddsR1Imm14R3 0 1 (-8192) 3 (two 0 0x2000)) &&
    gives 0x1FFFFF (execAddlR1Imm22R3 0 1 2097151 0 State.reset) &&
    gives 0xFFFFFFFFFFE00000 (execAddlR1Imm22R3 0 1 (-2097152) 0 State.reset) &&
    ends (execAddsR1Imm14R3 0 1 0 3 (natThree 7)) fun u => u.cur.stat[1] == { val := 7, nat := true }) = true := by decide +kernel
/-- V-A-16 to V-A-20, V-A-27. -/
theorem test_compare_norm : (let s := two 0xFFFFFFFFFFFFFFFF 1
    preds true false (execCmpLtP1P2R2R3 0 6 7 2 3 s) && preds false true (execCmpLtuP1P2R2R3 0 6 7 2 3 s) &&
    preds false false (execCmpEqUncP1P2R2R3 5 6 7 2 3 (withPr s 0xC1)) &&
    preds true true (execCmpEqP1P2R2R3 5 6 7 2 3 (withPr s 0xC1)) &&
    preds false false (execCmpEqP1P2R2R3 0 6 7 2 3 (withPr (natTwo 4 4) 0xC1)) &&
    preds true false (execCmp4LtP1P2R2R3 0 6 7 2 3 (two 0xFFFFFFFF 0)) &&
    preds false true (execCmpLtP1P2R2R3 0 6 7 2 3 (two 0xFFFFFFFF 0))) = true := by decide +kernel
/-- V-A-21 to V-A-26. -/
theorem test_compare_parallel_types : (preds false false (execCmpEqAndP1P2R2R3 0 6 7 2 3 (withPr (two 1 2) 0xC1)) &&
    preds true false (execCmpEqAndP1P2R2R3 0 6 7 2 3 (withPr (two 2 2) 0x41)) &&
    preds true true (execCmpEqOrP1P2R2R3 0 6 7 2 3 (two 2 2)) &&
    preds true false (execCmpEqOrAndcmP1P2R2R3 0 6 7 2 3 (withPr (two 2 2) 0x81)) &&
    preds false false (execCmpEqOrP1P2R2R3 0 6 7 2 3 (natTwo 2 2)) &&
    preds false false (execCmpEqP1P2R2R3 0 0 7 2 3 (withPr (two 2 2) 0x81))) = true := by decide +kernel
/-- V-A-28 to V-A-30. -/
theorem test_compare_immediate_and_zero : (preds true false (execCmpLtP1P2Imm8R3 0 6 7 (-1) 3 State.reset) &&
    preds false true (execCmpLtuP1P2Imm8R3 0 6 7 (-1) 3 State.reset) &&
    preds true true (execCmpGtAndP1P2R0R3 0 6 7 3 (withPr (two 0 0xFFFFFFFFFFFFFFFF) 0xC1))) = true := by decide +kernel
/-- V-A-31 to V-A-35. -/
theorem test_parallel_sums : (let s := two 0x7F80FF0110F00501 0x0180010110F0F0FF
    gives 0x8000000220E0F500 (execPadd1R1R2R3 0 1 2 3 s) && gives 0x7F80000220E0F500 (execPadd1SssR1R2R3 0 1 2 3 s) &&
    gives 0x8000FF0220E00000 (execPadd1UusR1R2R3 0 1 2 3 s) && gives 0x80FFFF0220FFF5FF (execPadd1UuuR1R2R3 0 1 2 3 s) &&
    gives 0x7E00FE0000000000 (execPsub1UuuR1R2R3 0 1 2 3 s)) = true := by decide +kernel
/-- V-A-36 to V-A-43. -/
theorem test_parallel_averages_and_compares : (let s := two 0x7F80FF0110F00501 0x0180010110F0F0FF
    let a := two 0x0000000000000201 0x00000000FF000102
    let b := two 0x4000C0007FFF0001 0x0001FFFF00010002
    gives 0x7F000101 (execPavg1R1R2R3 0 1 2 3 a) && gives 0x80000202 (execPavg1RazR1R2R3 0 1 2 3 a) &&
    gives 0x3F007F0000008B81 (execPavgsub1R1R2R3 0 1 2 3 s) && gives 0x00FF00FFFFFF0000 (execPcmp1EqR1R2R3 0 1 2 3 s) &&
    gives 0xFF0000000000FFFF (execPcmp1GtR1R2R3 0 1 2 3 s) && gives 0xFFFFFFFF00000000 (execPcmp4GtR1R2R3 0 1 2 3 s) &&
    gives 0x7FFF80007FFF0004 (execPshladd2R1R2Count2R3 0 1 2 1 3 b) &&
    gives 0x2001DFFF40000002 (execPshradd2R1R2Count2R3 0 1 2 1 3 b)) = true := by decide +kernel
/-- V-I-1 to V-I-4. -/
theorem test_parallel_multiplies : (let s := two 0x8000FFFF00037FFF 0x80000002FFFF7FFF
    gives 0xFFFFFFFE3FFF0001 (execPmpy2RR1R2R3 0 1 2 3 s) && gives 0x40000000FFFFFFFD (execPmpy2LR1R2R3 0 1 2 3 s) &&
    gives 0x4000FFFFFFFF3FFF (execPmpyshr2R1R2R3Count2 0 1 2 3 .c16 s) &&
    gives 0x4000000100023FFF (execPmpyshr2UR1R2R3Count2 0 1 2 3 .c16 s)) = true := by decide +kernel
/-- V-I-5 to V-I-12. -/
theorem test_mixes : (let s := two 0x0706050403020100 0x1716151413121110
    gives 0x0616041402120010 (execMix1RR1R2R3 0 1 2 3 s) && gives 0x0717051503130111 (execMix1LR1R2R3 0 1 2 3 s) &&
    gives 0x0504151401001110 (execMix2RR1R2R3 0 1 2 3 s) && gives 0x0706171603021312 (execMix2LR1R2R3 0 1 2 3 s) &&
    gives 0x0302010013121110 (execMix4RR1R2R3 0 1 2 3 s) && gives 0x0706050417161514 (execMix4LR1R2R3 0 1 2 3 s) &&
    gives 0x0313021201110010 (execUnpack1LR1R2R3 0 1 2 3 s) &&
    gives 0x0717061605150414 (execUnpack1HR1R2R3 0 1 2 3 s)) = true := by decide +kernel
/-- V-I-13 to V-I-17. -/
theorem test_packs_and_extremes : (let s := two 0x7FFF8000012CFF38 0x00FF0080FF7F0000
    let t := two 0x01FF80107F00FE05 0x02FE7F1080FF0105
    gives 0x7F7F80007F807F80 (execPack2SssR1R2R3 0 1 2 3 s) && gives 0xFF800000FF00FF00 (execPack2UssR1R2R3 0 1 2 3 s) &&
    gives 0x01FE7F107F000105 (execPmin1UR1R2R3 0 1 2 3 t) && gives 0x02FF801080FFFE05 (execPmax1UR1R2R3 0 1 2 3 t) &&
    gives 0x01FF801080FFFE05 (execPmin2R1R2R3 0 1 2 3 t) && gives 0x02FE7F107F000105 (execPmax2R1R2R3 0 1 2 3 t) &&
    gives 0x200 (execPsad1R1R2R3 0 1 2 3 t)) = true := by decide +kernel
/-- V-I-18 to V-I-20. -/
theorem test_mux : (let s := two 0x0706050403020100 0
    gives 0x0703050106020400 (execMux1R1R2Mbtype4 0 1 2 8 s) && gives 0x0703060205010400 (execMux1R1R2Mbtype4 0 1 2 9 s) &&
    gives 0x0705030106040200 (execMux1R1R2Mbtype4 0 1 2 10 s) && gives 0x0001020304050607 (execMux1R1R2Mbtype4 0 1 2 11 s) &&
    gives 0x0100030205040706 (execMux2R1R2Mhtype8 0 1 2 0x1B s) &&
    gives 0x0100010001000100 (execMux2R1R2Mhtype8 0 1 2 0 s)) = true := by decide +kernel
/-- V-I-22 to V-I-32. -/
theorem test_shifts : (let s := two 1 0x8000000000000001
    let t := two 0x0000010000000000 0x8000000000000001
    let p := two 0x8000400000017FFF 0x8000400000017FFF
    gives 0xC000000000000000 (execShrR1R3R2 0 1 3 2 s) && gives 0x4000000000000000 (execShrUR1R3R2 0 1 3 2 s) &&
    gives 0xFFFFFFFFFFFFFFFF (execShrR1R3R2 0 1 3 2 t) && gives 0 (execShrUR1R3R2 0 1 3 2 t) &&
    gives 0x8000000000000000 (execShlR1R2R3 0 1 2 3 (two 0x8000000000000001 63)) &&
    gives 0 (execShlR1R2R3 0 1 2 3 (two 0x8000000000000001 64)) &&
    gives 0xC000200000003FFF (execPshr2R1R3Count5 0 1 3 1 p) && gives 0x0001000000000000 (execPshr2UR1R3Count5 0 1 3 15 p) &&
    gives 0xFFFF000000000000 (execPshr2R1R3Count5 0 1 3 16 p) && gives 0x000080000002FFFE (execPshl2R1R2Count5 0 1 2 1 p)) =
      true := by decide +kernel
/-- V-I-36 to V-I-39. -/
theorem test_popcnt_shrp : (gives 32 (execPopcntR1R3 0 1 3 (two 0 0x0123456789ABCDEF)) &&
    gives 0xFFEDCBA987654321 (execShrpR1R2R3Count6 0 1 2 3 4 (two 0x0123456789ABCDEF 0xFEDCBA9876543210)) &&
    gives 0x02468ACF13579BDF (execShrpR1R2R3Count6 0 1 2 3 63 (two 0x0123456789ABCDEF 0xFEDCBA9876543210))) = true := by
  decide +kernel
/-- V-I-40 to V-I-52. -/
theorem test_fields : (let s := two 0xFEDCBA9876543210 0xFEDCBA9876543210
    let d := two 0x00000000ABCD1234 0xFFFFFFFFFFFFFFFF
    gives 0x21 (execExtrR1R3Pos6Len6 0 1 3 4 7 s) && gives 0xFFFFFFFFFFFFFFFF (execExtrR1R3Pos6Len6 0 1 3 60 15 s) &&
    gives 0xF (execExtrUR1R3Pos6Len6 0 1 3 60 15 s) && gives 0x1000 (execDepZR1R2Pos6Len6 0 1 2 8 7 s) &&
    gives 0xFF0 (execDepZR1Imm8Pos6Len6 0 1 (-1) 4 7 s) && gives 0xFFFFFFFFFF1234FF (execDepR1R2R3Pos6Len4 0 1 2 3 8 15 d) &&
    gives 0x34FFFFFFFFFFFFFF (execDepR1R2R3Pos6Len4 0 1 2 3 56 15 d) &&
    gives 0xFFFFFFFFFFFFF00F (execDepR1Imm1R3Pos6Len6 0 1 0 3 4 7 d) &&
    gives 0xF000000000000000 (execDepR1Imm1R3Pos6Len6 0 1 1 3 60 3 (two 0 0))) = true := by decide +kernel
/-- V-I-53 to V-I-57. -/
theorem test_bit_tests : (let s := two 0 0x8000000000000000
    preds false true (execTbitZP1P2R3Pos6 0 6 7 3 63 s) && preds false true (execTbitNzP1P2R3Pos6 0 6 7 3 0 s) &&
    preds false false (execTbitZP1P2R3Pos6 0 6 7 3 0 (withPr (natThree 0) 0xC1)) &&
    preds true false (execTnatNzP1P2R3 0 6 7 3 (natThree 5)) &&
    preds false true (execTnatZP1P2R3 0 6 7 3 (natThree 5))) = true := by decide +kernel
/-- V-I-58 to V-I-61. -/
theorem test_extensions : (let s := two 0 0x00000000807F80FF
    let z := two 0 0x1122003344550066
    gives 0xFFFFFFFFFFFFFFFF (execSxt1R1R3 0 1 3 s) && gives 0xFFFFFFFFFFFF80FF (execSxt2R1R3 0 1 3 s) &&
    gives 0xFFFFFFFF807F80FF (execSxt4R1R3 0 1 3 s) && gives 0x80FF (execZxt2R1R3 0 1 3 s) &&
    gives 2 (execCzx1LR1R3 0 1 3 z) && gives 1 (execCzx1RR1R3 0 1 3 z) && gives 4 (execCzx2LR1R3 0 1 3 z) &&
    gives 8 (execCzx1LR1R3 0 1 3 (two 0 0x1122334455667788))) = true := by decide +kernel

/-- Bytes 00 11 22 … FF at 0x1000. -/
def bytes16 : List Host.Cell := Memory.writeBytes [] 0x1000 ((List.range 16).map fun k => BitVec.ofNat 8 (0x11 * k))

/-- GR[2], GR[3], those bytes, and PSR bits. -/
def memo (a b : Word) (psr : Word := 0) : State := { two a b with mem := bytes16, psr := 0x0000100000000000 ||| psr, umGroup := psr.setWidth 6 }

/-- The `n` bytes at `pa` hold `v`, little-endian. -/
def holds (pa n v : Nat) (o : Host.Outcome State Fault Refusal) : Bool :=
  ends o fun u => Memory.load u.mem pa n false == v

/-- V-M-1 to V-M-3. -/
theorem test_loads : (gives 0x7766554433221100 (execLd8R1R3 0 1 3 0 (memo 0 0x1000)) &&
    gives 0x0011223344556677 (execLd8R1R3 0 1 3 0 (memo 0 0x1000 2)) && gives 0x1100 (execLd2R1R3 0 1 3 0 (memo 0 0x1000)) &&
    gives 0x66554433 (execLd4R1R3 0 1 3 0 (memo 0 0x1003))) = true := by decide +kernel
/-- V-M-4, V-M-5, V-E-3: ISR.r with PSR.ic = 1 as without, `ni` apart. -/
theorem test_unaligned_loads : (takes 0x5A00 0x8400000000 (execLd4R1R3 0 1 3 0 (memo 0 0x1005)) &&
    takes 0x5A00 0x8400000000 (execLd4R1R3 0 1 3 0 (memo 0 0x1003 8)) &&
    ends (execLd4R1R3 0 1 3 0 (memo 0 0x1005 0x2000)) fun u => u.cr.ifa == 0x1005 && u.cr.isr == 0x400000000) = true := by
  decide +kernel
/-- V-M-6. -/
theorem test_unaligned_fp_load : (ends (execLdfdF1R3 0 6 3 0 (memo 0 0x1004)) (fun u => u.ip == 0 && u.ri == 1) &&
    takes 0x5A00 0x8400000000 (execLdfdF1R3 0 6 3 0 (memo 0 0x100C))) = true := by decide +kernel
/-- V-M-7, V-M-8. -/
theorem test_base_updates : (let updated := fun (v : Word) (u : State) => u.cur.stat[1].val == 0xFFEEDDCCBBAA9988 && u.cur.stat[3].val == v
    ends (execLd8R1R3R2 0 1 3 2 0 (memo (-8) 0x1008)) (updated 0x1000) &&
    ends (execLd8R1R3Imm9 0 1 3 (-256) 0 (memo 0 0x1008)) (updated 0xF08)) = true := by decide +kernel
/-- V-M-9 to V-M-11, V-E-4. -/
theorem test_nat_addresses : (takes 0x5600 0x8400000010 (execLd8R1R3 0 1 3 0 (natThree 0x1000)) &&
    ends (execLd8SR1R3Imm9 0 1 3 8 0 (natThree 0x3000)) (fun u => u.cur.stat[1] == { val := 0, nat := true } &&
      u.cur.stat[3] == { val := 0x3008, nat := true })) = true := by decide +kernel
/-- V-M-12, V-M-13. -/
theorem test_stores : (holds 0x1006 4 0x99881234 (execSt2R3R2 0 3 2 0 (memo 0xABCD1234 0x1006)) &&
    takes 0x5600 0x8200000010 (execSt8R3R2 0 3 2 0 (natTwo 5 0x1000))) = true := by decide +kernel
/-- V-M-14 to V-M-16. -/
theorem test_spill_and_fill : (ends (execSt8SpillR3R2 0 3 2 0 (natTwo 9 0x1238)) (fun u =>
      u.cur.unat == 0x80 && Memory.load u.mem 0x1238 8 false == 9) &&
    ends (execLd8FillR1R3 0 1 3 0 { two 0 0x1438 with old := { (two 0 0x1438).old with unat := 0x80 } }) (fun u =>
      u.cur.stat[1] == { val := 0, nat := true })) = true := by decide +kernel
/-- V-M-17, V-M-18, V-M-19: an overlapping store removes the entry, another does not. -/
theorem test_alat : (ends (execLd8AR1R3 0 4 3 0 (memo 0 0x1000)) (fun u =>
      u.alat == [{ reg := .gr 4, pa20 := 0x1000, size := 8 }] &&
      ends (execSt4R3R2 0 3 2 0 { memo 0 0x2004 with alat := u.alat }) (fun t => t.alat == u.alat) &&
      ends (execSt4R3R2 0 3 2 0 { memo 0 0x1004 with alat := u.alat }) (fun t => t.alat == []) &&
      ends (execSt1R3R2 0 3 2 0 { memo 0 0x501003 with alat := u.alat }) (fun t => t.alat == []) &&
      ends (execLd8CClrR1R3 0 4 3 0 { memo 0 0x1000 with alat := u.alat }) (fun t => t.alat == [] && t.cur.stat[4].val == 0) &&
      ends (execChkAClrR1Target25 0 4 2 (memo 0 0)) (fun t => t.ip == 0x5700 || t.ip == 0x20))) = true := by decide +kernel
/-- V-M-21 to V-M-23. -/
theorem test_cmpxchg : (let ccv := fun (s : State) (c : Word) => { s with old := { s.old with ccv := c } }
    ends (execCmpxchg4AcqR1R3R2ArCcv 0 1 3 2 0 (ccv (memo 0xAABBCCDD99887766 0x1000) 0xFFFFFFFF33221100)) (fun u =>
      u.cur.stat[1].val == 0x33221100 && Memory.load u.mem 0x1000 8 false == 0x7766554499887766) &&
    ends (execCmpxchg8RelR1R3R2ArCcv 0 1 3 2 0 (ccv (memo 1 0x1000) 0)) (fun u =>
      u.cur.stat[1].val == 0x7766554433221100 && u.mem == bytes16) &&
    ends (execCmpxchg2AcqR1R3R2ArCcv 0 1 3 2 0 (memo 1 0x1001)) (fun u => u.ip == 0x5A00)) = true := by decide +kernel
/-- V-M-24 to V-M-26. -/
theorem test_xchg_fetchadd : (ends (execXchg1R1R3R2 0 1 3 2 0 (memo 0x1234 0x100F)) (fun u =>
      u.cur.stat[1].val == 0xFF && Memory.read u.mem 0x100F == 0x34) &&
    ends (execFetchadd4AcqR1R3Inc3 0 1 3 .m1 0 (memo 0 0x2000)) (fun u =>
      u.cur.stat[1].val == 0 && Memory.load u.mem 0x2000 8 false == 0xFFFFFFFF) &&
    holds 0x1008 8 0xFFEEDDCCBBAA9998 (execFetchadd8RelR1R3Inc3 0 1 3 .p16 0 (memo 0 0x1008))) = true := by decide +kernel

/-- A register value as the vectors write it. -/
def fr (s : Bool) (e : BitVec 17) (m : Word) : FReg := { sign := s, exp := e, sig := m }

/-- V-M-27 to V-M-39. -/
theorem test_memory_formats_in : (FpFormat.single.toReg 0x3FC00000 == fr false 0x0FFFF 0xC000000000000000 &&
    FpFormat.single.toReg 0xC0000000 == fr true 0x10000 0x8000000000000000 &&
    FpFormat.single.toReg 1 == fr false 0x0FF81 0x0000010000000000 &&
    FpFormat.single.toReg 0x7F800000 == fr false 0x1FFFF 0x8000000000000000 &&
    FpFormat.single.toReg 0x7FC00000 == fr false 0x1FFFF 0xC000000000000000 &&
    FpFormat.single.toReg 0x80000000 == fr true 0 0 && FpFormat.double.toReg 1 == fr false 0x0FC01 0x800 &&
    FpFormat.double.toReg 0x0010000000000000 == fr false 0x0FC01 0x8000000000000000 &&
    FpFormat.double.toReg 0xFFEFFFFFFFFFFFFF == fr true 0x103FE 0xFFFFFFFFFFFFF800 &&
    FpFormat.integer.toReg 0xFFFFFFFFFFFFFFFF == fr false 0x1003E 0xFFFFFFFFFFFFFFFF &&
    FpFormat.extended.toReg 0xBFFF8000000000000000 == fr true 0x0FFFF 0x8000000000000000) = true := by decide +kernel

/-- GR[2], GR[3] and FR[6] to FR[9]; the memory of `memo`. -/
def fps (f6 f7 f8 f9 : FReg) (a b : Word := 0) : State :=
  let s := memo a b
  let r := { s.cur with fr := (((s.cur.fr.set 6 f6).set 7 f7).set 8 f8).set 9 f9 }
  { s with cur := r, old := r }

/-- V-M-40 to V-M-45. -/
theorem test_fp_stores : (let x := fr false 0x0FFFF 0xC000000000000000
    let y := fr true 0x10003 0xA000000000000000
    holds 0x1000 4 0x3FC00000 (execStfsR3F2 0 3 6 0 (fps x x x x 0 0x1000)) &&
    holds 0x1000 8 0x3FF8000000000000 (execStfdR3F2 0 3 6 0 (fps x x x x 0 0x1000)) &&
    holds 0x1000 8 0x7FF0000000000000 (execStfdR3F2 0 3 6 0 (fps (fr false 0x1FFFF 0x8000000000000000) x x x 0 0x1000)) &&
    ends (execStfdR3F2 0 3 6 0 (fps FReg.natVal x x x 0 0x1000)) (fun u => u.ip == 0x5600) &&
    holds 0x1000 16 0x30003A000000000000000 (execStfSpillR3F2 0 3 6 0 (fps y x x x 0 0x1000))) = true := by decide +kernel
/-- V-M-46 to V-M-49. -/
theorem test_setf : (let becomes := fun (f : FReg) (o : Host.Outcome State Fault Refusal) => ends o fun u => u.cur.fr[6] == f
    becomes (fr false 0x1003E 7) (execSetfSigF1R2 0 6 2 (two 7 0)) &&
    becomes (fr true 0x0FFFF 0x8000000000000000) (execSetfExpF1R2 0 6 2 (two 0x2FFFF 0)) &&
    becomes (fr false 0x0FFFF 0xC000000000000000) (execSetfSF1R2 0 6 2 (two 0x3FF800003FC00000 0)) &&
    becomes (fr false 0x0FFFF 0xC00001FE00000000) (execSetfDF1R2 0 6 2 (two 0x3FF800003FC00000 0)) &&
    becomes FReg.natVal (execSetfSigF1R2 0 6 2 (natTwo 7 0))) = true := by decide +kernel
/-- V-M-50, V-M-51. -/
theorem test_getf : (let s := fps (fr true 0x10000 0xC000000000000000) FReg.zero FReg.zero FReg.zero
    gives 0xC000000000000000 (execGetfSigR1F2 0 1 6 s) && gives 0x30000 (execGetfExpR1F2 0 1 6 s) &&
    gives 0xC0400000 (execGetfSR1F2 0 1 6 s) && gives 0xC008000000000000 (execGetfDR1F2 0 1 6 s) &&
    ends (execGetfSigR1F2 0 1 6 (fps FReg.natVal FReg.zero FReg.zero FReg.zero)) (fun u => u.cur.stat[1].nat)) = true := by
  decide +kernel
/-- V-S-1 to V-S-10. -/
theorem test_rse_addresses : (rseAdd 0x9000 3 == 0x9018 && rseAdd 0x91E8 3 == 0x9208 && rseAdd 0x91F0 1 == 0x9200 &&
    rseAdd 0x91F0 2 == 0x9208 && rseAdd 0x9000 63 == 0x9200 && rseAdd 0x9000 96 == 0x9308 && rseAdd 0x91F0 0 == 0x91F0 &&
    rseSub 0x9208 3 == 0x91E8 && rseSub 0x9018 3 == 0x9000 && rseSub 0x9200 1 == 0x91F0) = true := by decide +kernel

/-- Reset with a frame marker. -/
def framed (cfm : BitVec 38) (f : Regs → Regs := id) (psr : Word := 0) : State :=
  { State.reset with cfm := cfm, cur := f Regs.reset, old := f Regs.reset, psr := 0x0000100000000000 ||| psr }

/-- V-S-11 to V-S-16. -/
theorem test_alloc : (ends (execAllocR1ArPfsILOR 0 34 5 3 0 (framed 0 fun r => { r with pfs := 7 })) (fun u =>
      u.cfm == 0x185 && u.cur.stacked[2] == { val := 7, nat := false }) &&
    ends (execAllocR1ArPfsILOR 0 2 8 8 1 (framed 0)) (fun u => u.cfm == 0x4408) &&
    takes 0x5400 0x8000000000 (execAllocR1ArPfsILOR 0 2 98 90 0 (framed 0)) &&
    takes 0x5400 0x8000000000 (execAllocR1ArPfsILOR 0 2 4 4 1 (framed 0)) &&
    takes 0x5400 0x8000000030 (execAllocR1ArPfsILOR 0 2 16 16 2 (framed (mkCfm 8 8 1 3 0 0))) &&
    takes 0x5400 0x8000000000 (execAllocR1ArPfsILOR 0 40 4 4 0 (framed 0))) = true := by decide +kernel
/-- V-S-17 to V-S-25. -/
theorem test_masks : (let psrIs := fun (v : Word) (o : Host.Outcome State Fault Refusal) => ends o fun u => u.psr.setWidth 32 == v.setWidth 32
    psrIs 4 (execSumImm24 0 4 (framed 0)) && psrIs 0x100000 (execSumImm24 0 4 (framed 0 id 0x100000)) &&
    psrIs 0 (execRumImm24 0 0x3E (framed 0 id 0x3E)) && takes 0x5400 0x8000000030 (execSumImm24 0 0x40 (framed 0)) &&
    psrIs 0x6000 (execSsmImm24 0 0x6000 (framed 0)) && psrIs 0 (execRsmImm24 0 0x4000 (framed 0 id 0x4000)) &&
    takes 0x5400 0x8000000010 (execSsmImm24 0 0x6000 (framed 0 id 0x300000000)) &&
    psrIs 0x3E (execMovPsrUmR2 0 2 (two 0x3E 0)) && takes 0x5400 0x8000000030 (execMovPsrUmR2 0 2 (two 1 0))) = true := by
  decide +kernel
/-- V-S-26, V-S-27. -/
theorem test_psr_reads : (gives 0 (execMovR1PsrUm 0 1 { framed 0 id 0x100004 with umGroup := 4 }) &&
    gives 0x1008026000 (execMovR1Psr 0 1 (framed 0 id 0x1008026000))) = true := by decide +kernel
/-- Two user mask writes of a group leave the mask open, and a read in their group finds the old one (R467, R911 (a), (b)). -/
theorem test_user_mask_hazards : (let s := framed 0
    ends (execSumImm24 0 2 s) (fun u => u.umHazard .alu == 0x3E && u.umHazard .sticky == 0x3E && gives 0 (execMovR1PsrUm 0 1 u) &&
      ends (execSrlzD 0 u) (gives 2 ∘ execMovR1PsrUm 0 1)) &&
    ends (execSsmImm24 0 0x6000 s) (fun u => u.umHazard .alu == 0) &&
    ends (execSetfSigF1R2 0 6 2 s) (fun u => u.umHazard .alu == 0x10 && u.umHazard .sticky == 0)) = true := by decide +kernel
/-- V-S-28 to V-S-30. -/
theorem test_monitor_registers : (ends (execMovPmdR3R2 0 3 2 (two 0xFFFF000000000005 4)) (fun u =>
      gives 5 (execMovR1PmdR3 0 1 3 u)) &&
    ends (execMovPmdR3R2 0 3 2 (two 0x0000800000000000 4)) (fun u => gives 0xFFFF800000000000 (execMovR1PmdR3 0 1 3 u)) &&
    takes 0x5400 0x8000000030 (execMovR1CpuidR3 0 1 3 (two 0 5))) = true := by decide +kernel

/-- FR[6] becomes the value, FPSR's flags of field 0 the six given. -/
def becomes (f : FReg) (flags : BitVec 6) (o : Host.Outcome State Fault Refusal) : Bool :=
  ends o fun u => u.cur.fr[6] == f && u.cur.fpsr.extractLsb' 13 6 == flags

/-- The value 1.0. -/
def one : FReg := FReg.one

/-- With the rounding mode of field 0. -/
def rounding (s : State) (rc : BitVec 2) : State :=
  let r := { s.cur with fpsr := putField s.cur.fpsr 10 rc }
  { s with cur := r, old := r }

/-- V-F-1 to V-F-3. -/
theorem test_fma_rounding : (let s := fps one (fr false 0x0FFCA 0x8000000000000000) one one
    becomes one 0x20 (execFmaDSfF1F3F4F2 0 0 6 1 1 7 s) &&
    becomes (fr false 0x0FFFF 0x8000000000000800) 0x20 (execFmaDSfF1F3F4F2 0 0 6 1 1 7 (rounding s 2)) &&
    becomes (fr false 0x0FFFF 0x8000000000000400) 0 (execFmaSfF1F3F4F2 0 0 6 1 1 7 s)) = true := by decide +kernel
/-- V-F-4 to V-F-7. -/
theorem test_fma_fused : (let third := fr false 0x0FFFD 0xAAAAAAAAAAAAA800
    let three := fr false 0x10000 0xC000000000000000
    becomes one 0x20 (execFmaDSfF1F3F4F2 0 0 6 7 8 0 (fps one third three one)) &&
    becomes (fr true 0x0FFC9 0x8000000000000000) 0 (execFmaDSfF1F3F4F2 0 0 6 7 8 9 (fps one third three (fr true 0x0FFFF 0x8000000000000000))) &&
    becomes (fr false 0x0FFFB 0xCCCCCD0000000000) 0x20 (execFmaSSfF1F3F4F2 0 0 6 7 1 0 (fps one (fr false 0x0FFFB 0xCCCCCCCCCCCCD000) one one)) &&
    becomes FReg.natVal 0 (execFmaSfF1F3F4F2 0 0 6 7 8 9 (fps one one FReg.natVal one))) = true := by decide +kernel
/-- V-F-8, V-F-9. -/
theorem test_xma : (let m := fr false 0x1003E 0xFFFFFFFFFFFFFFFF
    let s := fps one m m (fr false 0x1003E 1)
    becomes (fr false 0x1003E 0xFFFFFFFFFFFFFFFE) 0 (execXmaHuF1F3F4F2 0 6 7 8 9 s) &&
    becomes (fr false 0x1003E 2) 0 (execXmaLF1F3F4F2 0 6 7 8 9 s) &&
    becomes (fr false 0x1003E 0) 0 (execXmaHF1F3F4F2 0 6 7 8 9 s)) = true := by decide +kernel
/-- V-F-10 to V-F-12. -/
theorem test_fmerge : (becomes (fr true 0x10000 0xC000000000000000) 0 (execFmergeNsF1F2F3 0 6 7 7 (fps one (fr false 0x10000 0xC000000000000000) one one)) &&
    becomes one 0 (execFmergeSF1F2F3 0 6 0 7 (fps one (fr true 0x0FFFF 0x8000000000000000) one one)) &&
    becomes (fr true 0x10005 0xF000000000000000) 0 (execFmergeSeF1F2F3 0 6 7 8
      (fps one (fr true 0x10005 0x8000000000000000) (fr false 0x0FFFF 0xF000000000000000) one))) = true := by decide +kernel
/-- V-F-13 to V-F-16. -/
theorem test_conversions : (let s := fps one (fr false 0x10000 0xA000000000000000) one one
    becomes (fr false 0x1003E 2) 0x20 (execFcvtFxSfF1F2 0 6 7 0 s) &&
    becomes (fr false 0x1003E 2) 0x20 (execFcvtFxTruncSfF1F2 0 6 7 0 s) &&
    becomes (fr false 0x1003E (-2)) 0x20 (execFcvtFxSfF1F2 0 6 7 0 (fps one (fr true 0x10000 0xA000000000000000) one one)) &&
    becomes (fr false 0x1003E 0x8000000000000000) 1 (execFcvtFxSfF1F2 0 6 7 0 (fps one (fr false 0x1003E 0x8000000000000000) one one)) &&
    becomes (fr true 0x0FFFF 0x8000000000000000) 0 (execFcvtXfF1F2 0 6 7 (fps one (fr false 0x1003E 0xFFFFFFFFFFFFFFFF) one one)) &&
    becomes (fr false 0x10001 0xA000000000000000) 0 (execFcvtXfF1F2 0 6 7 (fps one (fr false 0x1003E 5) one one))) = true := by
  decide +kernel
/-- V-F-17, V-F-18. -/
theorem test_fcmp : (let s := fps one one (fr false 0x1FFFF 0xC000000000000000) one
    preds false true (execFcmpLtSfP1P2F2F3 0 6 7 7 8 0 s) &&
    ends (execFcmpLtSfP1P2F2F3 0 6 7 7 8 0 s) (fun u => u.cur.fpsr.getLsbD 13) &&
    preds false false (execFcmpEqSfP1P2F2F3 0 6 7 7 8 0 (withPr (fps one FReg.natVal one one) 0xC1))) = true := by decide +kernel
/-- V-F-19. -/
theorem test_frcpa_zero : (ends (execFrcpaSfF1P2F2F3 0 6 6 7 8 0 (fps one one FReg.zero one)) fun u =>
    u.cur.fr[6] == fr false 0x1FFFF 0x8000000000000000 && !u.cur.pr.getLsbD 6 && u.cur.fpsr.extractLsb' 13 6 == 4) = true := by
  decide +kernel

/-- No hints. -/
def h0 : BrHint := { wh := 0, d := 0, p := 0 }

/-- Slot 2 of the bundle at 0x4000, with LC, EC and a frame. -/
def loop (lc : Word) (ec : BitVec 6) (cfm : BitVec 38 := 0) (p : Word := 1) : State :=
  { framed cfm (fun r => { r with lc := lc, ec := ec, pr := p }) 0x40000000000 with ip := 0x4000 }

/-- Where control went, LC, EC and CFM. -/
def went (ip lc : Word) (ec : BitVec 6) (cfm : BitVec 38) (o : Host.Outcome State Fault Refusal) : Bool :=
  ends o fun u => u.ip == ip && u.cur.lc == lc && u.cur.ec == ec && u.cfm == cfm

/-- V-B-1 to V-B-5. -/
theorem test_branches : (went 0x4040 0 0 0 (execBrCondBwhPhDhTarget25 6 4 h0 (loop 0 0 0 0x41)) &&
    went 0x4010 0 0 0 (execBrCondBwhPhDhTarget25 6 4 h0 (loop 0 0)) &&
    went 0x3FE0 0 0 0 (execBrCondBwhPhDhTarget25 0 (-2) h0 (loop 0 0)) &&
    ends (execBrCondBwhPhDhB2 0 6 h0 (framed 0 fun r => { r with br := r.br.set 6 0x700B })) (fun u => u.ip == 0x7000)) =
      true := by decide +kernel
/-- V-B-6 to V-B-12. -/
theorem test_counted_loops : (went 0x4010 0 0 0 (execBrCloopBwhPhDhTarget25 4 h0 (loop 0 0)) &&
    went 0x4040 0 0 0 (execBrCloopBwhPhDhTarget25 4 h0 (loop 1 0)) &&
    went 0x4010 0 0 0 (execBrCtopBwhPhDhTarget25 4 h0 (loop 0 0)) &&
    went 0x4010 0 0 (mkCfm 0 0 0 0 95 47) (execBrCtopBwhPhDhTarget25 4 h0 (loop 0 1)) &&
    went 0x4040 0 1 (mkCfm 16 16 2 15 95 47) (execBrCtopBwhPhDhTarget25 4 h0 (loop 0 2 (mkCfm 16 16 2 0 0 0))) &&
    went 0x4040 4 0 (mkCfm 0 0 0 0 95 47) (execBrCtopBwhPhDhTarget25 4 h0 (loop 5 0)) &&
    went 0x4040 0 0 (mkCfm 0 0 0 0 95 47) (execBrCexitBwhPhDhTarget25 4 h0 (loop 0 1))) = true := by decide +kernel
/-- V-B-13 to V-B-15. -/
theorem test_while_loops : (went 0x4040 0 3 (mkCfm 0 0 0 0 95 47) (execBrWtopBwhPhDhTarget25 16 4 h0 (loop 0 3 0 0x10001)) &&
    went 0x4010 0 0 (mkCfm 0 0 0 0 95 47) (execBrWtopBwhPhDhTarget25 16 4 h0 (loop 0 1)) &&
    went 0x4010 0 0 0 (execBrWtopBwhPhDhTarget25 16 4 h0 (loop 0 0))) = true := by decide +kernel
/-- V-B-18. -/
theorem test_call : (ends (execBrCallBwhPhDhB1Target25 0 1 0x10 h0 { framed 0x185 (fun r => { r with ec := 5, bsp := 0x91E8, bspstore := 0x91E8 }) with ip := 0x4010 })
    fun u => u.cur.br[1] == 0x4020 && u.cur.pfs == 0x0050000000000185 && u.cur.bsp == 0x9208 && u.cfm == 2 && u.ip == 0x4110) =
      true := by decide +kernel
/-- V-B-19 to V-B-22. -/
theorem test_returns : (let s := fun (pfs psr : Word) => framed 2 (fun r => { r with
      ec := 0, bsp := 0x9208, bspstore := 0x9000, pfs := pfs, br := r.br.set 0 0x4020 }) psr
    ends (execBrRetBwhPhDhB2 0 0 h0 (s 0x0050000000000185 0)) (fun u =>
      u.cur.bsp == 0x91E8 && u.cfm == 0x185 && u.cur.ec == 5 && u.cpl == 0 && u.ip == 0x4020) &&
    ends (execBrRetBwhPhDhB2 0 0 h0 (s 0xC050000000000185 0)) (fun u => u.cpl == 3) &&
    ends (execBrRetBwhPhDhB2 0 0 h0 (s 0x0050000000000185 0x300000000)) (fun u => u.cpl == 3) &&
    ends (execBrRetBwhPhDhB2 0 0 h0 (s 0x484 0)) (fun u => u.cfm == 0 && u.ip == 0x4020)) = true := by decide +kernel
/-- V-B-23 to V-B-25. -/
theorem test_cover_clrrrb : (let s := fun psr => framed 0x185 (fun r => { r with bsp := 0x91E8, bspstore := 0x91E8 }) psr
    ends (execCover (s 0)) (fun u => u.cur.bsp == 0x9218 && u.cfm == 0 && u.cr.ifs == 0x8000000000000185) &&
    ends (execCover (s 0x2000)) (fun u => u.cur.bsp == 0x9218 && u.cfm == 0 && u.cr.ifs == 0) &&
    ends (execClrrrb (framed 0x2CB8104408)) (fun u => u.cfm == 0x4408) &&
    ends (execClrrrbPr (framed 0x2CB8104408)) (fun u => u.cfm == 0x00B8104408)) = true := by decide +kernel
/-- V-B-28 to V-B-30. -/
theorem test_long_branch_and_moves : (ends (execBrlCondBwhPhDhTarget64 0 0xFFFFFFFFFFFFFFF h0 (loop 0 0)) (fun u => u.ip == 0x3FF0) &&
    ends (execMovB1R2 0 6 2 0 0 0 (two 0x7008 0)) (fun u => u.cur.br[6] == 0x7008) &&
    takes 0x5600 0x8000000010 (execMovB1R2 0 6 2 0 0 0 (natTwo 0x7008 0))) = true := by decide +kernel

/-- The state of V-E-1 and V-E-2 with its PSR. -/
def handled (psr : Word) : State :=
  { State.reset with ip := 0x6030, lastBundle := 0x6030, psr := psr, cr := { CtrlRegs.reset with iva := 0x100000 } }

/-- V-E-1. -/
theorem test_break : (ends (execBreakIImm21 0 0x1234 (handled 0x0000121008026000)) fun u =>
    u.cr.ipsr == 0x0000121008026000 && u.cr.iip == 0x6030 && u.cr.iipa == 0x6030 && u.cr.iim == 0x1234 &&
    u.cr.isr == 0x0000020000000000 && u.psr == 0x0000001008020000 && u.ip == 0x102C00) = true := by decide +kernel
/-- V-E-2. -/
theorem test_privilege_fault : (ends (execSsmImm24 0 0x6000 (handled 0x0000141308026000)) fun u =>
    u.cr.ipsr == 0x0000141308026000 && u.cr.iip == 0x6030 && u.cr.isr == 0x0000040000000010 &&
    u.psr == 0x0000001008020000 && u.ip == 0x105400) = true := by decide +kernel
/-- V-E-5. -/
theorem test_nested_tlb_miss : (ends (execLd8R1R3 0 1 3 0 (memo 0 0x1000 0x20000)) fun u =>
    u.ip == 0x1400 && u.cr == { CtrlRegs.reset with isr := 0x0000008400000000 }) = true := by decide +kernel
/-- V-E-6, V-E-7. -/
theorem test_failing_check : (ends (execChkSIR2Target25 0 2 3 { natTwo 0 0 with psr := 0x0000101000002000, ip := 0x6030 }) (fun u =>
      u.ip == 0x6060 && u.cr == CtrlRegs.reset) &&
    ends (execChkSIR2Target25 0 2 3 { natTwo 0 0 with psr := 0x0000100000002000, ip := 0x6030 }) (fun u =>
      u.ip == 0x5700 && u.cr.iim == 3 && u.cr.iip == 0x6030)) = true := by decide +kernel
/-- V-E-8: the performance monitor's interrupt is taken with PSR.i = 1 and TPR.mic = 12, and not with TPR.mic = 13 (V-E-9). -/
theorem test_monitor_interrupt : (let s := fun (tpr : Word) => { State.reset with
      psr := 0x0000100000006000, pmc := State.reset.pmc.set 4 0x800020, pmd := State.reset.pmd.set 4 0x800000000000, cr := { CtrlRegs.reset with pmv := 0xD2, tpr := tpr } }
    (s 0xC0).externalInterrupt && !(s 0xD0).externalInterrupt && gives 0xD2 (execMovR1Cr3 0 1 65 (s 0xC0))) = true := by
  decide +kernel
/-- V-E-10. -/
theorem test_rfi : (ends (execRfi { handled 0 with cr := { CtrlRegs.reset with ipsr := 0x0000121008026000, iip := 0x6030 } }) fun u =>
    u.psr == 0x0000121008026000 && u.ip == 0x6030 && u.ri == 1 && u.cfm == 0) = true := by decide +kernel
/-- V-P-8 to V-P-11. -/
theorem test_monitor_enables : (let s := fun (psr : Word) => { State.reset with psr := psr, pmc := State.reset.pmc.set 0 0 }
    (s 0x300000004).monitorEnable false 0x8 6 false && !(s 4).monitorEnable false 0x8 6 false &&
    !(s 0x300200000).monitorEnable false 0x8 6 false && (s 0x200000).monitorEnable false 0x41 6 false) = true := by decide +kernel
/-- V-P-1, V-P-2, V-P-4. -/
theorem test_counter_overflow : (let s := fun (c : Word) => ({ pmd := State.reset.pmd.set 4 c, ovf := 0 } : Counts)
    let t := (s 0x00007FFFFFFFFFFF).add 4 0x800000 1
    t.pmd[4] == 0x0000800000000000 && t.ovf == 0x10 && ((s 0x00007FFFFFFFFFFF).add 4 0x800020 1).ovf == 0x11 &&
    ((s 0x0000FFFFFFFFFFFF).add 4 0x800000 1).pmd[4] == 0) = true := by decide +kernel

/-! ### Hypotheses of the statements: states that meet them -/

/-- An outcome is a next state. -/
def goes (o : Host.Outcome State Fault Refusal) : Bool := ends o fun _ => true

theorem goes_next {o : Host.Outcome State Fault Refusal} (h : goes o = true) : ∃ u, o = .next u := by
  cases o with
  | next u => exact ⟨u, rfl⟩
  | fault f => simp [goes, ends] at h
  | refused r => simp [goes, ends] at h

/-- The machine about to execute `add r5 = r2, r3` in slot 0. -/
noncomputable def placed : State := (two 5 6).withFetchWord 41 0x10000304140

/-- A page of 4 GB at 0 for data, with everything allowed; PSR.dt = 1, privilege level 0. -/
def page : TlbEntry :=
  { rid := 0, va := 0, ps := 32, pa := 0, p := true, ma := .wb, a := true, d := true, pl := 3, ar := 3, key := 0, ed := false }

/-- GR[2], GR[3] and the page. -/
def mapped (a b : Word) : State :=
  { two a b with dtr := State.reset.dtr.set 0 (some page), psr := 0x0000100000020000 }

theorem witness_DecodeInvertsEncode : (Instr.addR1R2R3 63 127 127 127).wf = true ∧
    ∃ e, encode (.addR1R2R3 63 127 127 127) = some e := ⟨rfl, _, rfl⟩

theorem witness_ATypeWordsMeanTheSameInBothSlots : (let m := fun w : BitVec 41 => (w.extractLsb' 37 4).toNat
    8 ≤ m 0x10000000000 ∧ m 0x10000000000 ≤ 14 ∧ m 0x1C000000000 = 14) := by decide +kernel

theorem witness_StepRunsTheDecodedInstruction : (let s := placed.wcbFreeEvict.tlbFree
    let t : Template := { t0 := .M, t1 := .I, t2 := .I }
    (placed.psrIs = false ∧ placed.ri ≠ 3 ∧ s.externalInterrupt = false ∧ s.fetch = .ok 0x200006082800) ∧
    template ((0x200006082800 : BitVec 128).extractLsb' 0 5) = some t ∧
    t.instr 0x200006082800 placed.ri = some (.addR1R2R3 0 5 2 3)) := by
  constructor <;> decide +kernel

theorem witness_StepKeepsMemoryCanonical : placed.MemOk ∧ ∃ u, step placed = .next u :=
  ⟨by unfold State.MemOk; decide +kernel, goes_next (by decide +kernel)⟩

theorem witness_StepKeepsIpAlignedAndBuffersBounded : placed.IpAligned ∧ placed.BuffersOk ∧ ∃ u, step placed = .next u :=
  ⟨by unfold State.IpAligned; decide +kernel, by unfold State.BuffersOk; decide +kernel, goes_next (by decide +kernel)⟩

theorem witness_StepKeepsRegisterStackBounded : placed.StackOk ∧ ∃ u, step placed = .next u :=
  ⟨by unfold State.StackOk State.FrameOk; decide +kernel, goes_next (by decide +kernel)⟩

theorem witness_StepKeepsTranslationsDisjoint : placed.TlbOk ∧ ∃ u, step placed = .next u :=
  ⟨⟨fun b => by cases b <;> decide +kernel, fun b => by cases b <;> decide +kernel, by decide +kernel⟩,
    goes_next (by decide +kernel)⟩

theorem witness_UserCodeKeepsSystemState : (let s := { placed with psr := 0x0000100300000000 }
    s.cpl ≠ 0 ∧ ∃ u, step s = .next u) := ⟨by decide +kernel, goes_next (by decide +kernel)⟩

theorem witness_BadTargetsAreIllegal : ¬ (targetsOf (.addR1R2R3 0 0 2 3)).Ok State.reset ∧
    ¬ (targetsOf (.addR1R2R3 0 32 2 3)).Ok State.reset ∧ ¬ (targetsOf (.setfSigF1R2 0 1 2)).Ok State.reset ∧
    ¬ (targetsOf (.ld8AR1R3 0 0 3 0)).Ok State.reset := by
  unfold Targets.Ok; decide +kernel

theorem witness_NopsAndSquashedInstructionsDoNothing : guardOf (.addR1R2R3 63 1 2 3) = some 63 ∧ State.reset.pred 63 = false ∧
    (targetsOf (.addR1R2R3 63 1 2 3)).Ok State.reset := by
  unfold Targets.Ok; exact ⟨rfl, by decide +kernel⟩

theorem witness_PrivilegedInstructionsTrap : (let s := framed 0 id 0x100000000
    s.cpl ≠ 0 ∧ (∃ P, privOf (.ssmImm24 0 0) = some (0, P) ∧ s.pred 0 = true ∧ P s) ∧
    ∃ P, privOf (.movPmcR3R2 0 3 2) = some (0, P) ∧ s.pred 0 = true ∧ P s) := by
  refine ⟨by decide +kernel, ⟨_, rfl, ?_, trivial⟩, _, rfl, ?_, ?_⟩
  case refine_3 => show _ = _ ∧ _ = _; decide +kernel
  all_goals decide +kernel

theorem witness_DisabledFpRegistersFault : (let i := fun f => Instr.fmergeSF1F2F3 0 f 2 2
    let s := fun psr => framed 0 id psr
    ∀ f psr, (f = 31 ∧ psr = 0x40000 ∨ f = 32 ∧ psr = 0x80000) → fpUse (i f) = some (0, [f, 2, 2]) ∧ grSourcesVisible (i f) (s psr) ∧
      (s psr).pred 0 = true ∧ (targetsOf (i f)).Ok (s psr) ∧ ¬ fpReady (s psr) [f, 2, 2]) := by
  unfold Targets.Ok fpReady grSourcesVisible
  intro i s f psr h
  refine ⟨rfl, by simp [i, fpLoadForm, fpPairForm, fpStoreForm, setfForm], ?_⟩
  rcases h with ⟨rfl, rfl⟩ | ⟨rfl, rfl⟩ <;> decide +kernel

/-- A load and a `setf` with their general registers in the frame, and FR[2] to FR[31] disabled. -/
theorem witness_DisabledFpRegistersFault_sources : (let s := framed 0 id 0x40000
    (grSourcesVisible (.ldfdF1R3R2 0 6 3 2 0) s ∧ grSourcesVisible (.setfSigF1R2 0 6 2) s) ∧
      fpUse (.setfSigF1R2 0 6 2) = some (0, [6]) ∧ ¬ fpReady s [6]) := by
  unfold grSourcesVisible fpReady
  refine ⟨?_, rfl, by decide +kernel⟩
  simp only [fpLoadForm, fpPairForm, fpStoreForm, setfForm, reduceCtorEq, or_false, Option.some.injEq, forall_eq',
    IsEmpty.forall_iff, implies_true, and_true, true_and, BaseUpdate.reg.injEq]
  decide +kernel

theorem witness_ControlMovesOn : (let s := framed 0
    let ok := fun r : Res => r.fpTrap = none ∧ r.lpTrap = false ∧ s.psrTb = false ∧ s.psrSs = false ∧
      r.moved.ip.extractLsb' 50 13 = 0
    ok { s := s, target := some 0x40 } ∧ ok { s := s, long := true } ∧
    (ok { s := framed 0 id 0x40000000000 } ∧ (framed 0 id 0x40000000000).ri = 2) ∧
    (ok { s := s } ∧ s.ri = 0) ∧ ok { s := framed 0 id 0x20000000000 } ∧ (framed 0 id 0x20000000000).ri = 1) := by
  decide +kernel

theorem witness_TrapsByPriority : (let due := fun (s : State) (r : Res) =>
      ((!r.moved.psrIt && r.moved.ip.extractLsb' 50 13 != 0) || r.fpTrap.isSome || (r.lpTrap && s.psrLp) ||
        (s.psrTb && r.target.isSome) || s.psrSs)
    due (framed 0) { s := framed 0, target := some 0x4000000000000 } = true ∧
    due (framed 0) { s := framed 0, fpTrap := some 0x80 } = true ∧ (0x80 : BitVec 16).extractLsb' 0 7 = 0 ∧
    due (framed 0 id 0x2000000) { s := framed 0, lpTrap := true } = true ∧
    due (framed 0 id 0x4000000) { s := framed 0, target := some 0 } = true ∧
    due (framed 0 id 0x10000000000) { s := framed 0 } = true) := by decide +kernel

theorem witness_InterruptionEntry : (framed 0 id 0x2000).psrIc = true ∧ (framed 0).psrIc = false := by decide +kernel

theorem witness_RfiRestoresTheContext : (let s := fun (ifs ipsr : Word) =>
      { State.reset with cr := { CtrlRegs.reset with ifs := ifs, ipsr := ipsr } }
    (framed 0 id 0x300000000).cpl ≠ 0 ∧ (s 0 0).cpl = 0 ∧ (s 0 0).psrSs = false ∧ (s 0 0).cr.ipsr.getLsbD 34 = false ∧ (s 0 0x400000000).cr.ipsr.getLsbD 34 = true ∧
    (s 0 0).cr.iip.extractLsb' 50 13 = 0 ∧ (s 0 0).cr.ifs.getLsbD 63 = false ∧ (s 0x8000000000000000 0).cr.ifs.getLsbD 63 = true ∧
    (match (s 0x8000000000000000 0).restoreContext.popFrame 0 0 with | .ok _ => true | .error _ => false) = true) := by
  decide +kernel

/-- A restored frame of 5 registers whose fills have no translation, under the PSR.ic = 0 of before (R568, R584). -/
theorem witness_RfiRestoresTheContext_fault : (let s := { framed 0 (fun r => { r with bsp := 0x9030, bspstore := 0x9030 }) with
      cr := { CtrlRegs.reset with ifs := 0x8000000000000005, ipsr := 0x8002000 } }
    s.cpl = 0 ∧ s.psrSs = false ∧ s.cr.ipsr.getLsbD 34 = false ∧ s.cr.iip.extractLsb' 50 13 = 0 ∧ s.cr.ifs.getLsbD 63 = true ∧
    s.psrIc = false ∧
    (match (s.fillContext s.restoreContext).popFrame (s.cr.ifs.extractLsb' 0 38) (cfmSof (s.cr.ifs.extractLsb' 0 38)) with
      | .error (.intr e) => e.vec == .dataNestedTlb | _ => false) = true) := by
  decide +kernel

theorem witness_ExternalInterruptsAreTaken : (let s := { framed 0 id 0x4000 with
      cr := { CtrlRegs.reset with tpr := 0, irr := 0x10000, insvc := 0 } }
    let m := { framed 0 id 0x6000 with pmc := State.reset.pmc.set 4 0x800020, pmd := State.reset.pmd.set 4 0x800000000000,
                                       cr := { CtrlRegs.reset with pmv := 0x10, tpr := 0, insvc := 0 } }
    (s.psrIs = false ∧ s.ri ≠ 3 ∧ s.groupStart = true ∧ s.psrI = true ∧ s.cr.irr.getLsbD 16 = true ∧
      s.cr.tpr.getLsbD 16 = false ∧ s.cr.tpr.toNat / 16 % 16 < 16 / 16 ∧ s.cr.insvc = 0) ∧
    (m.psrIs = false ∧ m.ri ≠ 3 ∧ m.groupStart = true ∧ m.psrI = true ∧ m.psrIc = true ∧ m.cr.pmv.getLsbD 16 = false ∧
      m.cr.pmv.toNat % 256 = 16 ∧ m.pmc[4].getLsbD 5 = true ∧ m.pmd[4].getLsbD 47 = true) ∧
    (framed 0).psrIs = false ∧ (framed 0).ri ≠ 3 ∧ (framed 0).psrI = false) := by decide +kernel

theorem witness_AluResults : (let s := two 0x8000000000000001 3
    ∃ f, aluForm (.addR1R2R3 0 1 2 3) = some f ∧ s.pred f.qp = true ∧ s.grTargetOk f.r1 = true ∧ s.grVisible f.a = true ∧ s.grVisible f.b = true) :=
  ⟨_, rfl, by decide +kernel⟩

theorem witness_ParallelResults : (let s := two 0x8000000000000001 3
    ∃ f, parallelForm (.padd1R1R2R3 0 1 2 3) = some f ∧ s.pred f.qp = true ∧ s.grTargetOk f.r1 = true ∧ s.grVisible f.a = true ∧ s.grVisible f.b = true) :=
  ⟨_, rfl, by decide +kernel⟩

theorem witness_ParallelResults_mixes : (let s := two 0x8000000000000001 3
    ∃ f, mixForm (.mix1LR1R2R3 0 1 2 3) = some f ∧ s.pred f.qp = true ∧ s.grTargetOk f.r1 = true ∧ s.grVisible f.a = true ∧ s.grVisible f.b = true) :=
  ⟨_, rfl, by decide +kernel⟩

theorem witness_PermuteShiftAndFieldResults : (let s := two 0x8000000000000001 3
    ∃ f, fieldForm (.extrR1R3Pos6Len6 0 1 3 60 15) = some f ∧ s.pred f.qp = true ∧ s.grTargetOk f.r1 = true ∧ s.grVisible f.a = true ∧ s.grVisible f.b = true) :=
  ⟨_, rfl, by decide +kernel⟩

theorem witness_PermuteShiftAndFieldResults_forms : (permuteForm (.mux2R1R2Mhtype8 0 1 2 0x1B)).isSome ∧
    (shiftForm (.shrR1R3R2 0 1 3 2)).isSome ∧ mux1Table.lookup 1 = none := ⟨rfl, rfl, rfl⟩

theorem witness_NopsAndSquashedInstructionsDoNothing_nops : ∃ qp imm, Instr.nopXImm62 63 9 = .nopXImm62 qp imm := ⟨63, 9, rfl⟩

theorem witness_AluResults_illegal : ∃ f, aluForm (.addR1R2R3 0 1 32 3) = some f ∧ State.reset.pred f.qp = true ∧
    State.reset.grVisible f.a = false := ⟨_, rfl, by decide +kernel⟩

theorem witness_SourceOperandFaults : (let moves := fun r => natForm (.movB1R2 0 6 r 0 0 0)
    (∃ f, grForm (.addR1R2R3 0 1 2 32) = some f ∧ State.reset.pred f.qp = true ∧ State.reset.grTargetOk f.r1 = true ∧
      State.reset.grVisible f.b = false) ∧
    ((0, 2, 0x10, fun _ => True) ∈ moves 2 ∧ (natTwo 0 0).grVisible 2 = true ∧ ((natTwo 0 0).gr 2).nat = true) ∧
    (0, 32, 0x10, fun _ => True) ∈ moves 32 ∧ State.reset.grVisible 32 = false) :=
  ⟨⟨_, rfl, by decide +kernel⟩, ⟨List.mem_singleton.2 rfl, by decide +kernel⟩, List.mem_singleton.2 rfl, by decide +kernel⟩

theorem witness_CompareResultsAndGuards : (let s := withPr (two 5 5) 0xC1
    (∃ f, cmpForm (.cmpEqP1P2R2R3 0 6 7 2 3) = some f ∧ (s.pred f.qp = true ∧ s.grVisible f.a = true ∧ s.grVisible f.b = true ∧
      f.p1 ≠ f.p2) ∧ f.rel (s.gr f.a) (s.gr f.b) ∧ noPrHazard s f.ct) ∧
    (∃ f, cmpForm (.cmpEqUncP1P2R2R3 63 6 7 2 3) = some f ∧ s.pred f.qp = false ∧ f.ct = .unc ∧ f.p1 ≠ f.p2) ∧
    (∃ f, cmpForm (.cmpEqAndP1P2R2R3 63 6 7 2 3) = some f ∧ s.pred f.qp = false ∧ f.ct ≠ .unc) ∧
    (∃ f, cmpForm (.cmpEqUncP1P2R2R3 63 6 6 2 3) = some f ∧ f.p1 = f.p2 ∧ f.ct = .unc) ∧
    ∃ f, cmpForm (.cmpEqAndP1P2R2R3 0 6 6 2 3) = some f ∧ f.p1 = f.p2 ∧ f.ct = .pand ∧ s.pred f.qp = true) := by
  refine ⟨⟨_, rfl, by decide +kernel, ?_, ?_⟩, ⟨_, rfl, by decide +kernel⟩, ⟨_, rfl, by decide +kernel⟩, ⟨_, rfl, rfl, rfl⟩,
    _, rfl, by decide +kernel⟩
  · show ((withPr (two 5 5) 0xC1).gr 2).val = ((withPr (two 5 5) 0xC1).gr 3).val; decide +kernel
  · unfold noPrHazard; decide +kernel

/-- One register as both targets of a compare of a parallel type is an Illegal Operation (R241). -/
theorem test_parallel_compare_targets : takes 0x5400 0x8000000000 (execCmpEqAndP1P2R2R3 0 6 6 2 3 (framed 0)) = true := by
  decide +kernel

theorem witness_MovesToGeneralRegisters : (let s := two 0 0
    let ok := fun (f : MoveForm) => (s.pred f.qp = true ∧ s.grTargetOk f.r1 = true) ∧ f.ready s
    (∃ f, moveForm (.movIR1Ar3 0 1 48) = some f ∧ ok f) ∧ (∃ f, moveForm (.movMR1Ar3 0 1 44) = some f ∧ ok f) ∧
    (∃ f, moveForm (.movR1Cr3 0 1 16) = some f ∧ ok f) ∧
    ∃ f, fileForm (.movR1PmdR3 0 1 3) = some f ∧ (s.pred f.qp = true ∧ s.grTargetOk f.r1 = true) ∧ f.ready s) := by
  refine ⟨⟨_, rfl, by decide +kernel, ?_⟩, ⟨_, rfl, by decide +kernel, ?_⟩, ⟨_, rfl, by decide +kernel, ?_⟩,
    _, rfl, by decide +kernel, ?_⟩
  · show 48 ≤ (48 : BitVec 7).toNat; decide
  · show _ ∧ _ ∧ _ ∧ _; exact ⟨by decide, by decide, by decide, fun _ _ => by decide +kernel⟩
  · show _ ∧ _; exact ⟨by decide +kernel, .ipsr, rfl, by decide, fun _ => by decide +kernel⟩
  · show usable _ _ ∧ _; unfold usable; decide +kernel

theorem witness_MovesToGeneralRegisters_faults :
    (let f := fun (i : Instr) (s : State) (c : BitVec 16) =>
      ∃ P, (0, 1, P, c) ∈ readFaults i ∧ s.pred 0 = true ∧ s.grTargetOk 1 = true ∧ P s
    f (.movIR1Ar3 0 1 47) (two 0 0) 0 ∧ f (.movMR1Ar3 0 1 64) (two 0 0) 0 ∧
    f (.movMR1Ar3 0 1 19) (framed 0 fun r => { r with rsc := 3 }) 0 ∧ f (.movMR1Ar3 0 1 44) (framed 0 id 0x300800000) 0x20 ∧
    f (.movR1Cr3 0 1 127) (two 0 0) 0 ∧ f (.movR1Cr3 0 1 16) (framed 0 id 0x2000) 0 ∧ f (.movR1PmcR3 0 1 3) (two 0 16) 0x30 ∧
    f (.movR1PmdR3 0 1 3) (two 0 18) 0x30 ∧ f (.movR1PkrR3 0 1 3) (two 0 16) 0x30 ∧ f (.movR1IbrR3 0 1 3) (two 0 8) 0x30 ∧
    f (.movR1DbrR3 0 1 3) (two 0 8) 0x30 ∧ f (.movR1CpuidR3 0 1 3) (two 0 5) 0x30) := by
  refine ⟨⟨_, .head _, by decide +kernel, by decide +kernel, ?_⟩, ⟨_, .head _, by decide +kernel, by decide +kernel, ?_⟩,
    ⟨_, .head _, by decide +kernel, by decide +kernel, ?_⟩, ⟨_, .tail _ (.head _), by decide +kernel, by decide +kernel, ?_⟩,
    ⟨_, .head _, by decide +kernel, by decide +kernel, .inl rfl⟩, ⟨_, .head _, by decide +kernel, by decide +kernel, .inr ⟨.ipsr, rfl, ?_⟩⟩,
    ⟨_, .head _, by decide +kernel, by decide +kernel, ?_⟩, ⟨_, .head _, by decide +kernel, by decide +kernel, ?_⟩,
    ⟨_, .head _, by decide +kernel, by decide +kernel, ?_⟩, ⟨_, .head _, by decide +kernel, by decide +kernel, ?_⟩,
    ⟨_, .head _, by decide +kernel, by decide +kernel, ?_⟩, ⟨_, .head _, by decide +kernel, by decide +kernel, ?_⟩⟩
  all_goals try dsimp only [usable]
  all_goals decide +kernel

theorem witness_TranslationQueries : (let s := mapped 0 0x1000
    (∃ f, queryForm (.tpaR1R3 0 1 3) = some f ∧ (s.pred f.qp = true ∧ s.grTargetOk f.r1 = true) ∧ f.ready s) ∧
    (∃ f, queryForm (.probeRR1R3Imm2 0 1 3 3) = some f ∧ f.ready s) ∧
    let acc : Acc := { va := (s.gr 3).val, n := 1, cls := .reference, r := true, w := false, na := some 5, cpl := 3 }
    usable s 3 ∧ s.cpl.toNat < (3 : BitVec 2).toNat ∧ s.dataDebug acc = false ∧
      (match s.translateVirtual acc with | .ok _ => true | .error _ => false) = true ∧
      (match (two 0 0x1000).translateVirtual acc with | .ok _ => false | .error e => e != .multipleHit) = true) := by
  unfold usable
  refine ⟨⟨_, rfl, by decide +kernel, ?_⟩, ⟨_, rfl, ?_⟩, by decide +kernel⟩
  · show _ ∧ usable _ _ ∧ _; unfold usable
    exact ⟨by decide +kernel, by decide +kernel, page, by decide +kernel, rfl, by decide⟩
  · show usable _ _ ∧ _; unfold usable; decide +kernel

/-- No translation, two, one of a page that is not present, one of a NaTPage. -/
theorem witness_TranslationQueries_faults : (let s := fun l => { two 0 0x1000 with dtcache := l, psr := 0x0000100000020000 }
    let away := { page with p := false }
    let nat := { page with ma := .natPage }
    (∀ i ∈ [Instr.probeRR1R3Imm2 0 1 3 3, .probeWR1R3R2 0 1 3 2, .tpaR1R3 0 1 3, .takR1R3 0 1 3], ∃ f, queryAccess i = some f ∧
      ∀ l, (s l).pred f.qp = true ∧ (s l).grTargetOk f.r1 = true ∧ f.ready (s l) ∧ ((s l).gr f.r3).val = 0x1000) ∧
    hitsOf (s []) false 0x1000 = [] ∧ 2 ≤ (hitsOf (s [page, page]) false 0x1000).length ∧
    (hitsOf (s [away]) false 0x1000 = [away] ∧ away.p = false) ∧ hitsOf (s [nat]) false 0x1000 = [nat] ∧ nat.p = true ∧
    nat.ma = .natPage) := by
  intro s away nat
  refine ⟨?_, by decide +kernel⟩
  have c : ∀ l, (s l).cpl = 0 := fun l => (show (s []).cpl = 0 by decide +kernel)
  simp only [List.mem_cons, List.not_mem_nil, or_false]
  rintro i (rfl | rfl | rfl | rfl) <;> refine ⟨_, rfl, fun l => ⟨rfl, rfl, ?_, rfl⟩⟩
  · exact ⟨rfl, rfl⟩
  · exact ⟨⟨rfl, rfl⟩, rfl, rfl⟩
  · exact ⟨c l, rfl, rfl⟩
  · exact ⟨c l, rfl, rfl⟩

theorem witness_MovesToBranchAndPredicateRegisters : (two 7 0).pred 0 = true ∧ usable (two 7 0) 2 ∧ noPrHazard (two 7 0) .norm := by
  unfold usable noPrHazard; decide +kernel

theorem witness_BreaksTakeTheBreakFault : State.reset.pred 0 = true ∧ State.reset.branchPred 0 = true ∧
    State.reset.branchPred 63 = false ∧ State.reset.pred 63 = false ∧ (framed 0 id 0x2000).psrIc = true := by decide +kernel

theorem witness_OnlyMachineChecksAndIa32Stop : (framed 0 id 0x400000).psrDi = true ∧ State.reset.psrDi = false := by decide +kernel

theorem witness_ApplicationRegisterWrites : (let f : ArForm := { qp := 0, i := false, ar3 := 0, src := some 2 }
    let bst : ArForm := { qp := 0, i := false, ar3 := 18, src := some 2 }
    let out : ArForm := { qp := 0, i := false, ar3 := 0, src := some 32 }
    arForm (.movMAr3R2 0 0 2) = some f ∧ f.legal (two 1 0) ∧ f.allowed (two 1 0) ∧ usable (two 1 0) 2 ∧ f.clean (two 1 0) ∧ f.ar3 ≠ 18 ∧
    bst.legal (two 0x1000 0) ∧ (two 0x1000 0).ndirty ≤ 96 ∧ out.legal (two 1 0) ∧ (two 1 0).grVisible 32 = false ∧
    ¬ ({ f with ar3 := 64 } : ArForm).legal (two 1 0) ∧ ¬ f.allowed (framed 0 id 0x300000000) ∧ ((natTwo 1 0).gr 2).nat = true ∧
    ¬ ({ f with ar3 := 40 } : ArForm).clean (two 0x8000000000000000 0)) := by
  unfold ArForm.legal ArForm.allowed usable ArForm.clean
  refine ⟨rfl, ?_⟩
  decide +kernel

theorem witness_ControlRegisters : (let s := two 0x10 0
    let q := { s with cr := { CtrlRegs.reset with tpr := 0, irr := 0x10000, insvc := 0 } }
    let e := { s with cr := { CtrlRegs.reset with insvc := 1 <<< 255 } }
    let full := fun v : Nat => q.pendingVectors.getLsbD v = true ∧ tprAllows q.cr.tpr v = true ∧ q.aboveService v = true
    s.pred 0 = true ∧ s.cpl = 0 ∧ usable s 2 ∧ s.grTargetOk 1 = true ∧ crReg 65 = some .ivr ∧ crReg 71 = some (.irr 3) ∧
    crReg 16 = some .ipsr ∧ CrReg.interruption .ipsr = true ∧ (framed 0 id 0x2000).psrIc = true ∧ s.psrIc = false ∧
    crReg 66 = some .tpr ∧ CrReg.readOnly .tpr = false ∧ (s.gr 2).val &&& ~~~ CrReg.definedBits .tpr = 0 ∧
    ((two 0x100 0).gr 2).val &&& ~~~ CrReg.definedBits .tpr ≠ 0 ∧ crReg 127 = none ∧
    s.cr.insvc = 0 ∧ e.cr.insvc.getLsbD 255 = true ∧ (∀ w, w < 256 → e.cr.insvc.getLsbD w = true → vectorRank w ≤ vectorRank 255) ∧
    s.pendingVectors = 0 ∧ full 16 ∧ (∀ w, w < 256 → q.pendingVectors.getLsbD w = true → vectorRank w ≤ vectorRank 16)) := by
  unfold usable; decide +kernel

theorem witness_StatusRegisterWrites : (let reserved := fun k : Nat => k = 0 ∨ (6 ≤ k ∧ k ≤ 12) ∨ k = 16 ∨ (28 ≤ k ∧ k ≤ 31)
    let s := two 0x0FFEE03E 0
    s.pred 0 = true ∧ usable s 2 ∧ s.cpl = 0 ∧ (∀ k, k < 64 → reserved k → (s.gr 2).val.getLsbD k = false) ∧
    reserved 28 ∧ ((two 0x10000000 0).gr 2).val.getLsbD 28 = true ∧ ((two 1 0).gr 2).val.getLsbD 0 = true ∧
    (s.gr 2).val.getLsbD 0 = false ∧ (∀ k, k < 24 → (k = 0 ∨ 6 ≤ k) → (0x3E : BitVec 24).getLsbD k = false) ∧
    (0x40 : BitVec 24).getLsbD 6 = true ∧ (∀ k, k < 24 → reserved k → (0xFEE03E : BitVec 24).getLsbD k = false) ∧
    (0x10000 : BitVec 24).getLsbD 16 = true) := by unfold usable; decide +kernel

theorem witness_IndirectRegisterWrites : (let ix := fun v n => fileIndex (two v n) 3
    (two 0x30 17).pred 0 = true ∧ (two 0x30 17).cpl = 0 ∧ usable (two 0x30 17) 3 ∧ usable (two 0x30 17) 2 ∧
    (((two 0x30 0).gr 2).val.getLsbD 1 = false ∧ ((two 0x30 0).gr 2).val.toNat < 2 ^ 32 ∧ goodPageSize (((two 0x30 0).gr 2).val.toNat / 4 % 64)) ∧
    ((two 2 0).gr 2).val.getLsbD 1 = true ∧ (ix 1 15 = 15 ∧ (two 1 15).gr 2 = { val := 1, nat := false }) ∧
    ((two 0x10 0).gr 2).val.toNat / 16 % 16 ≠ 0 ∧ ix 0 7 = 7 ∧ ix 0 8 = 8 ∧ ix 0 16 = 16 ∧ ix 0 17 = 17 ∧ ix 0 18 = 18 ∧
    (two 0 4).pmc[4].getLsbD 23 = true) := by unfold usable goodPageSize; decide +kernel

/-- An access is allowed. -/
def allowed (r : Except TransFault (Nat × MemAttr)) : Bool := match r with | .ok _ => true | .error _ => false

theorem allowed_ok {r : Except TransFault (Nat × MemAttr)} (h : allowed r = true) : ∃ pa ma, r = .ok (pa, ma) := by
  cases r with
  | ok p => exact ⟨p.1, p.2, rfl⟩
  | error e => simp [allowed] at h

/-- Where an access goes, when it is allowed. -/
def place (r : Except Exc (Nat × MemAttr)) : Option (Nat × MemAttr) := match r with | .ok p => some p | .error _ => none

theorem place_ok {r : Except Exc (Nat × MemAttr)} {p : Nat × MemAttr} (h : place r = some p) : r = .ok p := by
  cases r with
  | ok q => simpa [place] using h
  | error e => simp [place] at h

/-- An access that the alternate TLB miss stops. -/
def missed (r : Except TransFault (Nat × MemAttr)) : Bool := match r with | .error .altTlb => true | _ => false

theorem missed_eq {r : Except TransFault (Nat × MemAttr)} (h : missed r = true) : r = .error .altTlb := by
  unfold missed at h
  split at h
  · rfl
  · exact nomatch h

/-- An access that is misaligned. -/
def misaligned (r : Except TransFault (Nat × MemAttr)) : Bool := match r with | .error .unaligned => true | _ => false

theorem misaligned_eq {r : Except TransFault (Nat × MemAttr)} (h : misaligned r = true) : r = .error .unaligned := by
  unfold misaligned at h
  split at h
  · rfl
  · exact nomatch h

theorem witness_LoadsPerform : (let s := memo 0 0x1000
    let f : LoadForm := { qp := 0, dst := .gr 1, r3 := 3, u := .none, n := 8, k := .plain }
    let g : LoadForm := { qp := 0, dst := .pair 6 7 .double, r3 := 3, u := .imm 16, n := 16, k := .plain }
    let h : LoadForm := { qp := 0, dst := .fr 6 .extended, r3 := 3, u := .imm (-256), n := 10, k := .spec }
    let goes := fun f : LoadForm => ∃ pa ma, s.resolve (f.acc s) = .ok (pa, ma)
    (intLoadForm (.ld8R1R3 0 1 3 0) = some f ∧ fillForm (.ld8FillR1R3 0 1 3 0) = some f ∧ goes f) ∧
    (fpPairForm (.ldfpdF1F2R316 0 6 7 3 0) = some g ∧ goes g) ∧ (fpLoadForm (.ldfeSF1R3Imm9 0 6 3 0x100 0) = some h ∧ goes h) ∧
    s.FrameOk ∧ f.ready s ∧ g.ready s ∧ h.ready s ∧ (s.gr 3).nat = false ∧ s.psrEd = false) := by
  unfold State.FrameOk LoadForm.ready LoadDst.ready baseReady
  refine ⟨⟨rfl, rfl, allowed_ok ?_⟩, ⟨rfl, allowed_ok ?_⟩, ⟨rfl, allowed_ok ?_⟩, ?_⟩ <;> decide +kernel

theorem witness_SpeculativeAdvancedAndCheckLoads : (let s := memo 0 0x1000
    let n := natThree 0x1000
    let hit := { s with alat := [{ reg := .gr 1, pa20 := 0x1000, size := 8 }] }
    let sp : LoadForm := { qp := 0, dst := .gr 1, r3 := 3, u := .none, n := 8, k := .spec }
    let ad : LoadForm := { qp := 0, dst := .gr 1, r3 := 3, u := .none, n := 8, k := .adv }
    let ck : LoadForm := { qp := 0, dst := .gr 1, r3 := 3, u := .none, n := 8, k := .chkClr }
    let ed := memo 0 0x1000 0x80000000000
    (intLoadForm (.ld8SR1R3 0 1 3 0) = some sp ∧ intLoadForm (.ld8CClrR1R3 0 1 3 0) = some ck ∧ intLoadForm (.ld8AR1R3 0 1 3 0) = some ad) ∧
    (sp.ready n ∧ sp.k.speculative = true ∧ (n.gr 3).nat = true ∧ sp.ready ed ∧ ed.psrEd = true ∧
      ck.ready hit ∧ ck.k.check = true ∧ hit.alatHit (ck.dst.alat hit) = true ∧
      ad.ready s ∧ ad.makesEntry = true ∧ (s.gr 3).nat = false ∧ s.psrEd = false ∧
      s.grpAlatInvalAll = false ∧ ad.dst.alat s ∉ s.grpAlatInval ∧ ad.dst.alat s ∉ s.grpAlatChecks) ∧
    (∃ pa ma, s.resolve (ad.acc s) = .ok (pa, ma)) ∧ ∃ pa ma, ed.resolve (sp.acc ed) = .ok (pa, ma)) := by
  unfold LoadForm.ready LoadDst.ready baseReady
  refine ⟨⟨rfl, rfl, rfl⟩, ?_, allowed_ok ?_, allowed_ok ?_⟩ <;> decide +kernel

/-- A speculative load with PSR.ed = 1 writes the token though its access would be allowed (R567). -/
theorem test_psr_ed_defers : ends (execLd8SR1R3 0 1 3 0 (memo 0 0x1000 0x80000000000)) (fun u =>
    u.cur.stat[1] == { val := 0, nat := true } && !u.psrEd) = true := by decide +kernel

theorem witness_FailedAccessesFault : (let s := memo 0 0x1005
    let f : LoadForm := { qp := 0, dst := .gr 1, r3 := 3, u := .none, n := 4, k := .plain }
    let g : StoreForm := { qp := 0, src := .gr 2, r3 := 3, u := .none, n := 4, rel := false }
    (intLoadForm (.ld4R1R3 0 1 3 0) = some f ∧ intStoreForm (.st4R3R2 0 3 2 0) = some g ∧
      ∃ h, semForm (.xchg4R1R3R2 0 1 3 2 0) = some h ∧ (s.pred h.qp = true ∧ s.grTargetOk h.r1 = true ∧ s.grVisible h.r3 = true ∧
        s.grVisible h.r2 = true) ∧ s.resolve (h.acc s) = .error .unaligned) ∧
    s.resolve (f.acc s) = .error .unaligned ∧ s.resolve (g.acc s) = .error .unaligned ∧
    f.ready s ∧ f.ready (natThree 0) ∧ ((natThree 0).gr 3).nat = true ∧ baseReady s g.r3 g.u none ∧
    g.src.present s ∧ g.src.hasNat (natTwo 0 0) ∧ ¬ g.src.hasNat s) := by
  unfold LoadForm.ready LoadDst.ready baseReady StoreSrc.present StoreSrc.hasNat
  refine ⟨⟨rfl, rfl, _, rfl, ?_, misaligned_eq ?_⟩, misaligned_eq ?_, misaligned_eq ?_, ?_⟩ <;> decide +kernel

/-- A speculative load whose miss is not deferred, and a faulting prefetch. -/
theorem witness_FailedAccessesFault_speculative : (let s := { two 0 0x1000 with psr := 0x0000100000022000 }
    let f : LoadForm := { qp := 0, dst := .gr 1, r3 := 3, u := .none, n := 8, k := .spec }
    let g : PrefetchForm := { qp := 0, r3 := 3, u := .none, fault := true }
    (intLoadForm (.ld8SR1R3 0 1 3 0) = some f ∧ prefetchForm (.lfetchFaultR3 0 3 0) = some g) ∧
    (s.resolve (f.acc s) = .error .altTlb ∧ s.resolve (g.acc s) = .error .altTlb) ∧ f.ready s ∧ f.k.speculative = true ∧
    s.defers .altTlb = false ∧ baseReady s 3 g.u none ∧ (s.gr 3).nat = false ∧ ((natThree 0).gr 3).nat = true) := by
  unfold LoadForm.ready LoadDst.ready baseReady
  refine ⟨⟨rfl, rfl⟩, ⟨missed_eq ?_, missed_eq ?_⟩, ?_⟩ <;> decide +kernel

theorem witness_StoresSemaphoresAndPrefetches : (let s := memo 1 0x1000
    let g : StoreForm := { qp := 0, src := .gr 2, r3 := 3, u := .imm 255, n := 8, rel := true }
    let h : StoreForm := { qp := 0, src := .fr 6 .fill, r3 := 3, u := .none, n := 16, rel := false }
    (intStoreForm (.st8RelR3R2Imm9 0 3 2 255 0) = some g ∧ fpStoreForm (.stfSpillR3F2 0 3 6 0) = some h) ∧
    (s.access (g.acc s) = .ok (0x1000, .wb) ∧ s.access (h.acc s) = .ok (0x1000, .wb)) ∧ s.pred 0 = true ∧
    baseReady s 3 g.u none ∧ baseReady s 3 h.u none ∧ g.src.ready s ∧ h.src.ready s ∧ (s.gr 3).nat = false) := by
  unfold baseReady StoreSrc.ready
  refine ⟨⟨rfl, rfl⟩, ⟨place_ok ?_, place_ok ?_⟩, ?_⟩ <;> decide +kernel

theorem witness_StoresSemaphoresAndPrefetches_semaphores : (let s := memo 1 0x1000
    (∃ f, semForm (.fetchadd8RelR1R3Inc3 0 1 3 .m16 0) = some f ∧ (s.pred f.qp = true ∧ s.grTargetOk f.r1 = true ∧
      s.grVisible f.r3 = true ∧ s.grVisible f.r2 = true ∧ (s.gr f.r3).nat = false ∧ (s.gr f.r2).nat = false) ∧
      s.access (f.acc s) = .ok (0x1000, .wb)) ∧
    (∃ f, prefetchForm (.lfetchFaultR3Imm9 0 3 255 0) = some f ∧ baseReady s f.r3 f.u none ∧ f.fault = true) ∧
    s.access { va := (s.gr 3).val, n := 1, cls := .reference, r := true, na := some 4, cpl := s.cpl } = .ok (0x1000, .wb)) := by
  unfold baseReady
  refine ⟨⟨_, rfl, ?_, place_ok ?_⟩, ⟨_, rfl, ?_⟩, place_ok ?_⟩ <;> decide +kernel

/-- One translation of an address with every check passed, two, and none; a fetch from the first level; physical mode, beyond the physical
addresses and not; an access whose data checks pass and one whose do not. -/
theorem witness_AccessesAreTranslatedAndChecked : (let s := mapped 0 0x1000
    let acc : Acc := { va := 0x1004, n := 8, cls := .int, r := true, cpl := 0 }
    let two_ := { s with dtcache := [page] }
    let empty := { s with dtr := State.reset.dtr }
    let fetching := { framed 0 id 0x1000000000 with l1itlb := [{ page with ps := 12 }], itcache := [] }
    let fetch : Acc := { va := 0, n := 16, cls := .reference, x := true, cpl := 0 }
    (acc.n ∈ [1, 2, 4, 8, 10, 16] ∧ isVirtual s acc ∧ hitsOf s acc.x acc.va = [page] ∧ allPass (tlbChecks s acc page)) ∧
    (hitsOf two_ acc.x acc.va).length = 2 ∧ hitsOf empty acc.x acc.va = [] ∧
    (fetch.n ∈ [1, 2, 4, 8, 10, 16] ∧ isVirtual fetching fetch ∧
      fetching.l1itlb.find? (translatesTo fetching fetch.va) = some { page with ps := 12 }) ∧
    (¬ isVirtual (framed 0) acc ∧ acc.va.toNat / 2 ^ 50 % 2 ^ 13 = 0 ∧ (0x4000000000000 : Nat) / 2 ^ 50 % 2 ^ 13 ≠ 0) ∧
    unalignedAccess s acc .wb ∧ allPass (dataChecks s { acc with va := 0x1000 } .wb)) := by
  unfold isVirtual
  refine ⟨⟨by decide, by decide +kernel, by decide +kernel, ?_⟩, by decide +kernel, by decide +kernel, by decide +kernel, by decide +kernel, ?_, ?_⟩
  · unfold allPass tlbChecks rightsDeny isUncacheable
    have hp : (mapped 0 0x1000).psr.getLsbD 15 = false := by decide +kernel
    simp only [List.mem_cons, List.not_mem_nil, or_false, forall_eq_or_imp, forall_eq, hp, Bool.false_eq_true, false_and, not_false_eq_true,
      true_and]
    decide
  · have h : (mapped 0 0x1000).umGroup.getLsbD 3 = false := by decide +kernel
    unfold unalignedAccess
    rw [if_neg (by rw [h]; decide)]
    show leavesWindow _ _
    unfold leavesWindow
    decide +kernel
  · have h : (mapped 0 0x1000).umGroup.getLsbD 3 = false := by decide +kernel
    have hd : (mapped 0 0x1000).psr.getLsbD 24 = false := by decide +kernel
    unfold allPass dataChecks unalignedAccess
    rw [if_neg (by rw [h]; decide)]
    simp only [List.mem_cons, List.not_mem_nil, or_false, forall_eq_or_imp, forall_eq, hd, isUncacheable, leavesWindow, Bool.false_eq_true,
      false_and, not_false_eq_true, true_and]
    decide

theorem witness_StoredBytesLoadBack : Memory.wf bytes16 = true ∧ (0xFFFFFFFF < 2 ^ 32) ∧
    (0x3FFF8000000000000000 : Nat).testBit 63 = true ∧
    (let e := fun v : Nat => v / 2 ^ 23 % 2 ^ 8
     e 0x7F800000 = 2 ^ 8 - 1 ∧ 0x7F800000 % 2 ^ 23 = 0 ∧ e 0xFF800001 = 2 ^ 8 - 1 ∧ 0xFF800001 % 2 ^ 23 ≠ 0 ∧ e 0x3F800000 ≠ 2 ^ 8 - 1 ∧
       e 1 = 0) := by decide +kernel

/-- 1.5, the smallest denormal, an infinity and a NaN of single precision (R392). -/
theorem test_single_to_reg : FpFormat.single.toReg 0x3FC00000 = fr false 0xFFFF 0xC000000000000000 ∧
    FpFormat.single.toReg 1 = fr false 0xFF81 0x10000000000 ∧ FpFormat.single.toReg 0xFF800000 = FReg.infinity true ∧
    FpFormat.single.toReg 0x7F800001 = fr false 0x1FFFF 0x8000010000000000 := by decide +kernel

theorem witness_WriteCoalescingIsCoherent : (let s := { State.reset with wcb := [{ line := 1, bytes := [(127, 5)] }] }
    s.MemOk ∧ s.BuffersOk ∧ s.WcbOk ∧ 127 % 128 + [(1 : Byte)].length ≤ 128) := by
  unfold State.MemOk State.BuffersOk State.WcbOk; decide +kernel

theorem witness_FencesAndSerialization : (let s := memo 0 0x1000
    (s.pred 0 = true ∧ s.MemOk ∧ s.WcbOk ∧ usable s 3 ∧
      ∀ b ∈ ([{ addr := 0x1000, old := [0], stage := 2 }] : List StaleStore), b.stage ≤ 2) ∧
    s.access { va := (s.gr 3).val, n := 1, cls := .reference, r := true, na := some 1, cpl := s.cpl } = .ok (0x1000, .wb)) := by
  unfold State.MemOk State.WcbOk usable
  refine ⟨?_, place_ok ?_⟩ <;> decide +kernel

/-- `srlz.d` shows a load of its group the byte order that `sum` set in PSR.be (R454). -/
theorem test_srlz_d : ends (execSrlzD 0 { memo 0 0x1000 with psr := 0x0000100000000002 }) (fun u =>
    gives 0x0011223344556677 (execLd8R1R3 0 1 3 0 u)) = true := by decide +kernel

theorem witness_PurgesAndInserts : (let s := two 0x30 0
    let t := { two 0x661 0 with cr := { CtrlRegs.reset with itir := 0x38 } }
    let small : TlbEntry := { page with ps := 14 }
    let other : TlbEntry := { page with ps := 14, va := 0x4000 }
    (∃ f, purgeForm (.ptcLR3R2 0 3 2) = some f ∧ s.pred f.qp = true) ∧
    (∃ f, insertForm (.itrDDtrR3R2 0 3 2) = some f ∧ f.r3 = some 3 ∧ (∀ k : Fin 64, (f.regs t)[k] = none) ∧
      (let held := { t with dtr := t.dtr.set 0 (some other) }
       ∀ (k : Fin 64) g, (f.regs held)[k] = some g → ¬ InsertForm.block t g) ∧
      ∃ k : Fin 64, (f.regs { t with dtr := t.dtr.set 5 (some small) })[k] = some small ∧ InsertForm.block t small) ∧
    s.cpl = 0 ∧ usable s 3 ∧ usable s 2 ∧ goodPageSize ((s.gr 2).val.toNat / 4 % 64) ∧
    ¬ goodPageSize (((two 0 0).gr 2).val.toNat / 4 % 64) ∧ t.psrIc = false ∧ usable t 2 ∧ insertable t (t.gr 2).val ∧
    (t.gr 3).val.toNat % 256 < 64 ∧ sharesBytes page 0 0 14 ∧ ¬ sharesBytes other 0 0 14 ∧
    ¬ insertable s (t.gr 2).val ∧ ((two 0 64).gr 3).val.toNat % 256 = 64 ∧ (framed 0 id 0x2000).psrIc = true) := by
  unfold usable goodPageSize insertable InsertForm.block sharesBytes goodPageSize
  refine ⟨⟨_, rfl, by decide +kernel⟩, ⟨_, rfl, rfl, by decide +kernel, ?_, 5, by decide +kernel⟩, by decide +kernel⟩
  intro held k g h
  revert k g; decide +kernel

/-- Every purge and insert of one shape completes on a small state. -/
theorem test_purges_and_inserts : (let s := two 0x30 0
    let t := { two 0x661 0 with cr := { CtrlRegs.reset with itir := 0x38 } }
    [execPtcER3 0 3 s, execPtcLR3R2 0 3 2 s, execPtcGR3R2 0 3 2 s, execPtcGaR3R2 0 3 2 s, execPtrDR3R2 0 3 2 s,
      execPtrIR3R2 0 3 2 s, execItcDR2 0 2 t, execItcIR2 0 2 t, execItrDDtrR3R2 0 3 2 t, execItrIItrR3R2 0 3 2 t].all
      fun o => ends o fun u => u.ri == 1 && u.ip == 0) = true := by decide +kernel

/-- A load through the data TLB brings its segment into the first level; `ptc.e` clears both (R155, R448). -/
theorem test_first_level_dtlb : (let s := { mapped 0 0x12345 with umGroup := 0 }
    ends (execLd1R1R3 0 1 3 0 s) (fun u => u.l1dtlb.map (fun e => (e.va, e.ps)) == [((0x12000 : BitVec 61), (12 : BitVec 6))] &&
      ends (execPtcER3 0 2 u) (fun v => v.l1dtlb == [] && v.dtr == u.dtr))) = true := by decide +kernel

/-- A purge of another part of its page takes a segment too, whose translation is gone (R155, R449). -/
theorem test_first_level_dtlb_is_subset : (let s := { mapped 0x30 0x12345 with umGroup := 0 }
    ends (execLd1R1R3 0 1 3 0 s) (fun u => ends (execPtrDR3R2 0 0 2 u) (fun v => v.l1dtlb == [] && v.dtr[0] == none))) = true := by
  decide +kernel

/-- So does an integer store, whose segment is no EAR event (R673, R860), and a prefetch (R110); `fc` has a BIL due (R870). -/
theorem test_first_level_dtlb_of_others : (let s := { mapped 7 0x12345 with umGroup := 0 }
    let filled := fun u : State => u.l1dtlb.map (fun e => e.va) == [(0x12000 : BitVec 61)]
    ends (execSt1R3R2 0 3 2 0 s) (fun u => filled u && !u.events.contains (.tlbMiss false 0x12345 .l2 true)) &&
    ends (execLfetchR3 0 3 0 s) (fun u => filled u && u.events.contains (.tlbMiss false 0x12345 .l2 true)) &&
    ends (execLfetchFaultR3 0 3 0 s) filled && ends (execFcR3 0 3 s) (fun u => u.bilDue == 1 && u.l1dtlb == [])) = true := by
  decide +kernel

theorem witness_WalksAddOnlyWhatTheyFind : (let s := { State.reset with
      psr := 0x22000, rr := State.reset.rr.set 0 1, cr := { CtrlRegs.reset with pta := 1 } }
    (State.reset.cr.pta.getLsbD 0 = false ∧ s.cr.pta.getLsbD 0 = true ∧ s.walkerOn false 0 = true ∧ s.walks false 0 = true) ∧
    State.reset.TlbOk) :=
  ⟨by decide +kernel, fun b => by cases b <;> decide +kernel, fun b => by cases b <;> decide +kernel, by decide +kernel⟩

theorem witness_ChecksAndInvalidation : (let s := natTwo 0 0
    let r := { s with psr := 0x0000101000002000 }
    let hit := { s with alat := [{ reg := .gr 3, pa20 := 0x1000, size := 8 }] }
    s.pred 0 = true ∧ s.grVisible 2 = true ∧ (s.gr 2).nat = true ∧ (s.gr 3).nat = false ∧ resteered r ∧ ¬ resteered s ∧
    s.frDisabled 6 = 0 ∧ (fps FReg.natVal FReg.zero FReg.zero FReg.zero).fr 6 = FReg.natVal ∧
    hit.alatHit (.gr (hit.grPhys 2)) = false ∧ hit.alatHit (.gr (hit.grPhys 3)) = true) := by
  unfold resteered; decide +kernel

/-- A `chk.a` that takes the Speculative Operation fault still reports its event to the monitors (R598). -/
theorem test_faulting_check_counts : ends (execChkANcR1Target25 0 1 2 (framed 0)) (fun u =>
    u.ip == 0x5700 && u.events == [.chkaLdc false true none]) = true := by decide +kernel

/-- A fetch hits the first-level instruction TLB after the entry of the second level is gone (R151). -/
theorem test_first_level_itlb : (let s := { framed 0 id 0x1000000000 with itcache := [{ page with ar := 7 }], ip := 0x12340 }
    let u := s.l1Fill
    let v := { u with itcache := [] }
    u.l1itlb.map (fun e => (e.va, e.ps)) == [((0x12000 : BitVec 61), (12 : BitVec 6))] && (match v.fetch with | .ok _ => true | .error _ => false) &&
      (match ({ s with itcache := [] } : State).fetch with | .ok _ => false | .error _ => true)) = true := by decide +kernel

theorem witness_AllocResizesTheFrame : (let s := State.reset
    let fixed := fun s : State => cfmRrbGr s.cfm ≠ 0 ∨ cfmRrbFr s.cfm ≠ 0 ∨ cfmRrbPr s.cfm ≠ 0
    let legal := fun (sof sol : BitVec 7) (sor : BitVec 4) => sof.toNat ≤ 96 ∧ sol.toNat ≤ sof.toNat ∧ 8 * sor.toNat ≤ sof.toNat
    let inside := fun (r : GrIdx) (sof : BitVec 7) => r.toNat ≠ 0 ∧ r.toNat < 32 + sof.toNat
    legal 96 96 12 ∧ ¬ legal 97 0 0 ∧ ¬ legal 8 9 0 ∧ ¬ legal 7 0 1 ∧ ¬ fixed s ∧ fixed (framed (mkCfm 8 8 1 1 0 0)) ∧
    (2 : BitVec 4).toNat ≠ cfmSor (mkCfm 8 8 1 1 0 0) ∧ inside 127 96 ∧ inside 39 8 ∧ ¬ inside 40 8 ∧ ¬ inside 0 8 ∧
    s.StackOk ∧ 8 * cfmSor s.cfm ≤ cfmSof s.cfm ∧ cfmRrbGr s.cfm ≤ 8 * cfmSor s.cfm ∧
    (match s.spill (min (s.ndirty + 96 - 96) 96) with | .ok _ => true | .error _ => false) = true) := by
  unfold State.StackOk State.FrameOk; decide +kernel

/-- One dirty register below the frame. -/
def dirty : State := framed 0 fun r => { r with bsp := 0x9008, bspstore := 0x9000 }

/-- A fill of a register, and one that reloads AR[RNAT] first. -/
theorem witness_FlushLoadCoverSpillAndFill_fill : (let m := { dirty with bof := 1 }
    let r := framed 0 fun r => { r with bsp := 0x9200, bspstore := 0x9200 }
    let c := { m with nclean := 1 }
    (m.access (m.rseAcc (m.cur.bspstore - 8) false true) = .ok (0x8FF8, .wb) ∧
      r.access (r.rseAcc (r.cur.bspstore - 8) false true) = .ok (0x91F8, .wb)) ∧
    m.StackOk ∧ m.ndirty < 96 ∧ rseSlot (m.cur.bspstore - 8) = 63 ∧ m.nclean = 0 ∧
    r.StackOk ∧ r.ndirty < 96 ∧ rseSlot (r.cur.bspstore - 8) = 63 ∧
    (let n := framed 0 fun r => { r with bsp := 0x9010, bspstore := 0x9010 }
     n.StackOk ∧ n.ndirty < 96 ∧ rseSlot (n.cur.bspstore - 8) = 1 ∧ n.nclean = 0) ∧ 0 < c.nclean) := by
  unfold State.StackOk State.FrameOk
  refine ⟨⟨place_ok ?_, place_ok ?_⟩, ?_⟩ <;> decide +kernel

/-- `loadrs` loads a register below BSP with its NaT bit from AR[RNAT] (R443, R445). -/
theorem test_loadrs : (let s := framed 0 fun r => { r with bsp := 0x9010, bspstore := 0x9010, rsc := 0x80000, rnat := 2 }
    ends (execLoadrs 0 { s with mem := Memory.writeBytes [] 0x9008 (bytesLE 0x77 8) }) (fun u =>
      u.cur.bspstore == 0x9008 && u.cur.stacked[95] == { val := 0x77, nat := true } && u.ndirty == 1)) = true := by decide +kernel

theorem witness_FlushLoadCoverSpillAndFill : (let m := { dirty with bof := 1 }
    let l := framed 0 fun r => { r with bsp := 0x9008, bspstore := 0x9008, rsc := 0x80000 }
    let rnat := framed 0 fun r => { r with bsp := 0x9200, bspstore := 0x91F8 }
    let target := l.cur.bsp - BitVec.ofNat 64 (rscLoadrs l.old.rsc / 8 * 8)
    let flushes := fun s : State => (match s.spillAll with | .ok _ => true | .error _ => false) = true
    m.access (m.rseAcc m.cur.bspstore true false) = .ok (0x9000, .wb) ∧
    m.pred 0 = true ∧ m.StackOk ∧ flushes m ∧ flushes rnat ∧ rnat.StackOk ∧ rnat.ndirty = 0 ∧
    cfmSof (framed 0x185).cfm ≠ 0 ∧ cfmSof l.cfm = 0 ∧ l.old.rsc.extractLsb' 0 2 = 0 ∧ rseRegs target l.cur.bsp ≤ 96 ∧
    (match ({ l with nclean := 0 } : State).loadSlots (rscLoadrs l.old.rsc / 8 * 8 / 8 - (l.cur.bsp - l.cur.bspstore).toNat / 8) with
      | .ok _ => true | .error _ => false) = true ∧
    m.MemOk ∧ 0 < m.ndirty ∧ rseSlot m.cur.bspstore < 62 ∧ m.psrIc = false ∧ (framed 0 id 0x2000).psrIc = true) := by
  unfold State.StackOk State.FrameOk State.MemOk
  refine ⟨place_ok ?_, ?_⟩ <;> decide +kernel

/-- Spills that begin below, at and after the slot of an RNAT collection, on a write-back page and on a write-coalescing one. -/
theorem witness_FlushLoadCoverSpillAndFill_spill : (let at_ := fun (a b : Word) (ma : MemAttr) =>
      { framed 0 (fun r => { r with bsp := b, bspstore := a }) 0x8000000 with dtr := State.reset.dtr.set 0 (some { page with ma }) }
    let ok := fun s : State => s.StackOk ∧ s.MemOk ∧ s.BuffersOk ∧ s.WcbOk ∧ 0 < s.ndirty
    ((at_ 0x91F0 0x9200 .wb).TlbOk ∧ (at_ 0x91F0 0x9200 .wc).TlbOk) ∧
    ((at_ 0x91F0 0x9200 .wc).access ((at_ 0x91F0 0x9200 .wc).rseAcc 0x91F0 true false) = .ok (0x91F0, .wc) ∧
      (at_ 0x91F8 0x9208 .wb).access ((at_ 0x91F8 0x9208 .wb).rseAcc 0x91F8 true false) = .ok (0x91F8, .wb)) ∧
    (ok (at_ 0x91F0 0x9200 .wc) ∧ rseSlot 0x91F0 = 62) ∧ ok (at_ 0x91F8 0x9208 .wb) ∧ rseSlot 0x91F8 = 63 ∧ rseSlot 0x9000 = 0) := by
  unfold State.StackOk State.FrameOk State.MemOk State.BuffersOk State.WcbOk State.TlbOk
  refine ⟨⟨⟨fun b => ?_, fun b => ?_, ?_⟩, fun b => ?_, fun b => ?_, ?_⟩, ⟨place_ok ?_, place_ok ?_⟩, ?_⟩
  all_goals first | (cases b <;> decide +kernel) | decide +kernel

/-- A spill at slot 62 stores its register and the collection with the register's NaT bit, which AR[RNAT] keeps (R445). -/
theorem test_spill_rnat : (let s := { framed 0 (fun r => { (r.setGr 48 { val := 7, nat := true }) with bsp := 0x9200, bspstore := 0x91F0, rnat := 5 }) with bof := 1 }
    match s.spillOne with
    | .ok t => t.cur.bspstore == 0x9200 && Memory.load t.mem 0x91F0 8 false == 7 &&
        Memory.load t.mem 0x91F8 8 false == 0x4000000000000005 && t.cur.rnat == 0x4000000000000005
    | .error _ => false) = true := by decide +kernel

/-- With BSPSTORE at an RNAT slot and nothing dirty, `flushrs` still stores the collection (R442). -/
theorem test_flushrs_rnat : ends (execFlushrs 0 (framed 0 fun r => { r with bsp := 0x9200, bspstore := 0x91F8, rnat := 5 })) (fun u =>
    u.cur.bspstore == 0x9200 && Memory.load u.mem 0x91F8 8 false == 5) = true := by decide +kernel

theorem witness_BranchesCallsLoopsAndEpc : ((condForm (.brlCondBwhPhDhTarget64 0 1 h0)).isSome = true ∧
      (callForm (.brCallBwhPhDhB1B2 0 1 2 1 0 0)).isSome = true ∧ (loopForm (.brWexitBwhPhDhTarget25 63 1 h0)).isSome = true) ∧
    (loop 0 0).branchPred 0 = true ∧ (loop 0 0).branchPred 63 = false ∧ (loop 0 0).ri = 2 ∧ (framed 0).ri ≠ 2 ∧
    (loop 0 0).old.lc = 0 ∧ (loop 1 0).old.lc ≠ 0 ∧ (loop 0 1).old.ec ≠ 0 ∧ (loop 0 0).old.ec = 0 := by
  exact ⟨⟨rfl, rfl, rfl⟩, by decide +kernel⟩

/-- A caller's frame of 5 registers, 3 of them local, and its callee's. -/
def caller : State := framed 0x185 fun r => { r with bsp := 0x9018, bspstore := 0x9018 }

/-- The callee of `caller`. -/
def callee : State := { framed 2 (fun r => { r with bsp := 0x9030, bspstore := 0x9018, pfs := 0x185 }) with bof := 3 }

theorem witness_ReturnsRestoreTheCaller : (let filled := fun (s : State) (pfm : BitVec 38) n =>
      (match s.popFrame pfm n with | .ok _ => true | .error _ => false)
    callee.branchPred 0 = true ∧ callee.branchPred 63 = false ∧ filled callee 0x185 3 = true ∧
    filled { callee with psr := 0x0000100008000000, cur := { callee.cur with bspstore := 0x9030 } } 0x185 3 = false ∧ caller.StackOk ∧
    cfmSof callee.cfm = cfmSof caller.cfm - cfmSol caller.cfm ∧ callee.bof = (caller.bof + cfmSol caller.cfm) % 96 ∧
    callee.nclean = caller.nclean ∧
    callee.cur = { caller.cur with bsp := rseAdd caller.cur.bsp (cfmSol caller.cfm), br := callee.cur.br, pfs := callee.cur.pfs }) := by
  unfold State.StackOk State.FrameOk; decide +kernel

/-- A frame restored with one register to fill. -/
theorem witness_ReturnsRestoreTheCaller_fill : (let s := { callee with cur := { callee.cur with bspstore := 0x9020 } }
    let c : BitVec 38 := 0x185
    cfmSof c ≤ 96 ∧ cfmSol c ≤ cfmSof c ∧ cfmSor c ≤ 12 ∧ 3 ≤ cfmSof c ∧ s.ndirty - 3 + cfmSof c ≤ 96 ∧ 3 - s.ndirty = 1 ∧
    (match s.fill true (3 - s.ndirty) with | .ok _ => true | .error _ => false) = true) := by decide +kernel

theorem witness_RotationClearAndBankSwitch : State.reset.cpl = 0 ∧ (framed 0 id 0x300000000).cpl ≠ 0 := by decide +kernel

theorem witness_BranchesCallsLoopsAndEpc_epc : (let p := fun ppl => framed 0 (fun r => { r with pfs := ppl }) 0x300000000
    ((p 0).old.pfs.extractLsb' 62 2).toNat < (p 0).cpl.toNat ∧
    (p 0xC000000000000000).cpl.toNat ≤ ((p 0xC000000000000000).old.pfs.extractLsb' 62 2).toNat ∧ (p 0).psrIt = false ∧
    (let s := { framed 0 id 0x1000000000 with itr := State.reset.itr.set 0 (some { page with ar := 7, pl := 0 }) }
     s.psrIt = true ∧ s.found true s.ip = [{ page with ar := 7, pl := 0 }])) := by decide +kernel

theorem witness_FpMoves : (let s := fps FReg.one FReg.natVal FReg.one FReg.one 5 0
    (∃ f, fpMoveForm (.fmergeSF1F2F3 0 127 7 8) = some f ∧ (s.pred f.qp = true ∧ frTargetOk f.f1 = true ∧
      fpReady s (f.f1 :: f.srcs) ∧ someNatVal s f.srcs) ∧ f.ready s) ∧
    (∃ f, fpMoveForm (.fmergeSF1F2F3 0 2 8 9) = some f ∧ ¬ someNatVal s f.srcs) ∧
    ∃ f, setfForm (.setfSigF1R2 0 6 2) = some f ∧ (s.pred f.qp = true ∧ frTargetOk f.f1 = true ∧ fpReady s (f.f1 :: f.srcs)) ∧
      f.ready s) := by
  unfold fpReady someNatVal
  refine ⟨⟨_, rfl, by decide +kernel, trivial⟩, ⟨_, rfl, by decide +kernel⟩, _, rfl, by decide +kernel, ?_⟩
  show _ = _; decide +kernel

/-- FPSR with every trap enabled. -/
def trapping (s : State) : State :=
  { s with old := { s.old with fpsr := s.old.fpsr &&& 0xFFFFFFFFFFFFFFC0 }, cur := { s.cur with fpsr := s.cur.fpsr &&& 0xFFFFFFFFFFFFFFC0 } }

theorem witness_FpArithmetic : (let s := fps FReg.one FReg.one FReg.one FReg.one
    let bad := trapping (fps FReg.one (FReg.infinity false) FReg.zero FReg.one)
    ∃ f, fmaForm (.fmaDSfF1F3F4F2 0 0 6 7 8 9) = some f ∧ s.pred f.qp = true ∧ frTargetOk f.f1 = true ∧ fpReady s (f.f1 :: f.srcs) ∧
      ¬ someNatVal s f.srcs ∧ someNatVal (fps FReg.one FReg.natVal FReg.one FReg.one) f.srcs ∧ noFpFault s f.sf (f.res s) ∧
      ¬ noFpFault bad f.sf (f.res bad)) := by
  unfold fpReady someNatVal noFpFault quiet
  exact ⟨_, rfl, by decide +kernel⟩

theorem witness_FpCompares : (let s := fps FReg.one FReg.one FReg.one FReg.one
    let bad := trapping (fps FReg.one (fr false 0x1FFFF 0xA000000000000000) FReg.zero FReg.one)
    (∃ f, fcmpForm (.fcmpLtSfP1P2F2F3 0 6 7 7 8 0) = some f ∧ s.pred f.qp = true ∧ f.p1 ≠ f.p2 ∧ fpReady s [f.f2, f.f3] ∧
      noPrHazard s f.ct ∧ ¬ someNatVal s [f.f2, f.f3] ∧ noFpFault s f.sf (f.out s) ∧ ¬ noFpFault bad f.sf (f.out bad) ∧
      someNatVal (fps FReg.one FReg.natVal FReg.one FReg.one) [f.f2, f.f3]) ∧
    (∃ f, fcmpForm (.fcmpLtUncSfP1P2F2F3 63 6 6 7 8 0) = some f ∧ s.pred f.qp = false ∧ f.ct = .unc ∧ f.p1 = f.p2) ∧
    s.frDisabled 7 = 0) := by
  unfold fpReady someNatVal noFpFault quiet noPrHazard
  refine ⟨⟨_, rfl, by decide +kernel⟩, ⟨_, rfl, by decide +kernel, rfl, rfl⟩, by decide +kernel⟩

/-- Single precision, to nearest. -/
def single : FpEnv := State.reset.fpEnv 0 .single

theorem witness_FpOrderClassAndConversionValues : FReg.one ≠ FReg.natVal ∧ (FReg.infinity true) ≠ FReg.natVal := by decide +kernel

/-- The special operands of an approximation: zeros, infinities, NaNs, unsupported and negative values, numbers out of range. -/
theorem witness_FpApproximations_specials : (let env := single
    let un := fr false 0x1FFFF 1
    let qnan := fr false 0x1FFFF 0xC000000000000000
    let den := fr false 0xFF81 0x10000000000
    (isFinite FReg.one ∧ FReg.one.sig ≠ 0 ∧ isZero FReg.zero ∧ isInf (FReg.infinity true) true ∧ isUnsupported un ∧ isNaN qnan true ∧
      isNaN (fr false 0x1FFFF 0x8000010000000000) false ∧ isUnnormal den) ∧
    (env.quotient (FReg.infinity true) FReg.one false).isSome = true ∧ (env.quotient FReg.one FReg.zero false).isSome = true ∧
    (env.quotient qnan un false).isSome = true ∧ (env.quotient FReg.one FReg.one true).isSome = true ∧
    (env.root (FReg.infinity true) false).isSome = true ∧ (env.root FReg.zero false).isSome = true) := by
  unfold isZero isUnnormal isFinite isInf isUnsupported isNaN
  decide +kernel

theorem witness_ApproximationErrorsAreBounded : (let env := single
    (env.quotient FReg.one FReg.one (false || recipOverflows FpEnv.register FReg.one)).isNone = true ∧
    (env.quotient FReg.one (singleToReg 0x7F7FFFFF) (false || recipOverflows FpEnv.singles (singleToReg 0x7F7FFFFF))).isNone = true ∧
    (env.root FReg.one false).isNone = true ∧ (env.root (singleToReg 1) false).isNone = true) := by decide +kernel

/-- `2 < 3` and the minimum of the two, 2.5 converted to nearest, and the class of infinity. -/
theorem test_fp_values : (let two_ := fr false 0x10000 0x8000000000000000
    let three := fr false 0x10000 0xC000000000000000
    FpRel.lt.holds (fpOrder two_ three) && (fpMinMax .min two_ three).res == two_ && (fpMinMax .amax two_ three).res == three &&
    (fcvt64 0 false (fr false 0x10000 0xA000000000000000)).res == fr false 0x1003E 2 && fclassHolds 0x21 (FReg.infinity false)) = true := by
  decide +kernel

theorem witness_FpApproximations : (let s := fps FReg.one FReg.one FReg.zero FReg.one
    ∃ f, approxForm (.frcpaSfF1P2F2F3 0 6 6 7 8 0) = some f ∧ frTargetOk f.f1 = true ∧ s.pred f.qp = true ∧
      fpReady s (f.f1 :: f.srcs) ∧ ¬ someNatVal s f.srcs ∧ someNatVal (fps FReg.one FReg.natVal FReg.one FReg.one) f.srcs ∧
      noFpFault s f.sf (f.res s) ∧ ¬ noFpFault (trapping s) f.sf (f.res (trapping s))) := by
  unfold fpReady someNatVal noFpFault quiet
  exact ⟨_, rfl, by decide +kernel⟩

theorem witness_FpStatusFields : (let c := fun (am om : BitVec 7) => (State.reset.old.fpsr.extractLsb' 6 7 &&& am) ||| om
    State.reset.pred 0 = true ∧ (c 0 4).extractLsb' 2 2 = 1 ∧ (c 0 0x40).getLsbD 6 = true ∧ (c 0x7F 0).extractLsb' 2 2 ≠ 1 ∧
    (c 0x7F 0).getLsbD 6 = false) := by decide +kernel

theorem witness_RoundingIsCorrect : (let x : Exact := { neg := true, m := 0x1000001, k := 0 }
    single.prec = 24 ∧ -65534 ≤ single.emin ∧ single.emax ≤ 65535 ∧ x.m ≠ 0 ∧ (single.round x).o = false ∧
    (single.round x).tiny = false ∧ single.rc = 0) := by decide +kernel

theorem witness_FmaRoundsTheExactResult : FReg.zero.fpClass = .zero ∧ (fr false 0x1003E 1).fpClass = .unnormal ∧
    FReg.one.fpClass = .normal ∧ (fr false 0x1FFFF 0).fpClass = .unsupported ∧ (FReg.infinity true).fpClass = .inf ∧
    (fr true 0x1FFFF 0xC000000000000000).isNan = true ∧ (fr true 0x1FFFF 0xA000000000000000).fpClass = .snan := by decide +kernel

theorem witness_CountersCountUntilFrozen : (let s := { State.reset with psr := 4, clkFr := false, pmc := (State.reset.pmc.set 0 0).set 4 0x801201 }
    let frozen := { State.reset with clkFr := true, pmc := State.reset.pmc.set 0 1 }
    s.psrIs = false ∧ s.clkFr = false ∧ s.pmc[0].getLsbD 0 = false ∧ (∀ k : Fin 4, (s.pmc[4 + k.val]'(by omega)).getLsbD 5 = false) ∧
    s.pmc[4].getLsbD 23 = true ∧ s.pmc[4].getLsbD s.cpl.toNat = true ∧ s.pmc[4].getLsbD 6 = false ∧ s.psr.getLsbD 2 = true ∧
    s.pmc[4].getLsbD 24 = false ∧ s.pmc[4].toNat / 2 ^ 8 % 2 ^ 8 = 0x12 ∧ s.pmc[4].toNat / 2 ^ 20 % 8 = 0 ∧
    s.pmc[4].toNat / 2 ^ 26 % 4 = 0 ∧ (s.events.filter (· == .cplChange)).length ≤ 1 ∧ frozen.clkFr = true ∧
    frozen.pmc[0].getLsbD 0 = true) := by decide +kernel

end Sys2Proof.Tests
end

section
/-! SUPPORT. The parts of the state that the invariants speak of, and the updates that leave them alone. -/

namespace Sys2Proof.Machine

/-! ### The parts -/

/-- What the register stack engine keeps count with (R23, R445). -/
structure StackPart where
  cfm      : BitVec 38
  bof      : Nat
  nclean   : Nat
  bsp      : Word
  bspstore : Word

/-- IP, memory, the buffers and the TLBs. -/
structure StoragePart where
  ip      : Word
  mem     : List Host.Cell
  alat    : List AlatEntry
  wcb     : List WcbEntry
  l1itlb  : List TlbEntry
  l1dtlb  : List TlbEntry
  itcache : List TlbEntry
  dtcache : List TlbEntry
  itr     : Vector (Option TlbEntry) 64
  dtr     : Vector (Option TlbEntry) 64

/-- The register stack of a state. -/
def State.stack (s : State) : StackPart :=
  { cfm := s.cfm, bof := s.bof, nclean := s.nclean, bsp := s.cur.bsp, bspstore := s.cur.bspstore }

/-- The storage of a state. -/
def State.storage (s : State) : StoragePart :=
  { ip := s.ip, mem := s.mem, alat := s.alat, wcb := s.wcb, l1itlb := s.l1itlb, l1dtlb := s.l1dtlb, itcache := s.itcache,
    dtcache := s.dtcache, itr := s.itr, dtr := s.dtr }

/-- The register stack and the storage together: what an instruction that only computes does not change. -/
def State.parts (s : State) : StackPart × StoragePart := (s.stack, s.storage)

/-! ### Register writes leave the parts alone -/

@[simp] theorem Regs.setGr_bsp (g : Regs) (p : Nat) (v : GReg) : (g.setGr p v).bsp = g.bsp := by
  rw [Regs.setGr_frame]
@[simp] theorem Regs.setGr_bspstore (g : Regs) (p : Nat) (v : GReg) : (g.setGr p v).bspstore = g.bspstore := by
  rw [Regs.setGr_frame]

/-- BSP and BSPSTORE are the application registers that belong to the register stack (R24). -/
def ArReg.ofStack : ArReg → Bool
  | .bsp | .bspstore => true
  | .kr _ | .rsc | .rnat | .ia32 _ | .ccv | .unat | .fpsr | .itc | .pfs | .lc | .ec | .ignored | .reserved => false

section Quiet

variable (s : State)

@[simp] theorem State.emit_parts (e : PmuEvent) : (s.emit e).parts = s.parts := rfl

@[simp] theorem State.setGr_parts (r : GrIdx) (v : GReg) (k : WriteKind) : (s.setGr r v k).parts = s.parts := by
  simp [State.parts, State.stack, State.storage, State.setGr]

@[simp] theorem State.setFr_parts (f : FrIdx) (v : FReg) (k : WriteKind) : (s.setFr f v k).parts = s.parts := rfl

@[simp] theorem State.setBr_parts (b : BrIdx) (v : Word) : (s.setBr b v).parts = s.parts := rfl

@[simp] theorem State.setPrMask_parts (h : Word) (c : PrClass) (m v : Word) : (s.setPrMask h c m v).parts = s.parts := by
  cases c <;> rfl

@[simp] theorem State.setPr_parts (p : PredIdx) (v : Bool) (c : PrClass) : (s.setPr p v c).parts = s.parts :=
  s.setPrMask_parts _ _ _ _

@[simp] theorem State.setPr2_parts (p : PredIdx) (v : Bool) (c : PrClass) (q : PredIdx) (w : Bool) (d : PrClass) :
    (s.setPr2 p v c q w d).parts = s.parts :=
  (State.setPrMask_parts _ _ _ _ _).trans (s.setPr_parts _ _ _)

/-- A compare writes predicates only (R325). -/
@[simp] theorem State.cmpWrite_parts (c : PrClass) (ct : CmpType) (p q : PredIdx) (nat rel : Bool) :
    (s.cmpWrite c ct p q nat rel).parts = s.parts := by
  cases ct with
  | norm | unc => exact s.setPr2_parts _ _ _ _ _ _
  | pand | por | orAndcm =>
    unfold State.cmpWrite
    dsimp only
    split
    · exact s.setPr2_parts _ _ _ _ _ _
    · rfl

/-- A squashed compare writes predicates at most (R325). -/
@[simp] theorem State.cmpSquash_parts (c : PrClass) (ct : CmpType) (p q : PredIdx) :
    (s.cmpSquash c ct p q).parts = s.parts := by
  cases ct with
  | unc => exact s.setPr2_parts _ _ _ _ _ _
  | norm | pand | por | orAndcm => rfl

/-- A write of an application register that is not the register stack's own. -/
theorem State.setAr_parts (r : ArReg) (v : Word) (h : r.ofStack = false) : (s.setAr r v).parts = s.parts := by
  cases r with
  | bsp | bspstore => cases h
  | _ => rfl

@[simp] theorem State.setUnatBit_parts (i : Nat) (v : Bool) : (s.setUnatBit i v).parts = s.parts := rfl

@[simp] theorem State.raiseFlags_parts (sf : BitVec 2) (fl : BitVec 6) : (s.raiseFlags sf fl).parts = s.parts := by
  unfold State.raiseFlags; split <;> rfl

@[simp] theorem State.noteFlush_parts (r : FpResult) : (s.noteFlush r).parts = s.parts := by
  simp only [State.noteFlush]; split <;> split <;> rfl

/-! ### System registers, fetch and the monitors -/

@[simp] theorem State.writeCr_parts (r : CrReg) (v : Word) : (s.writeCr r v).parts = s.parts := by
  cases r with
  | eoi =>
    show s.writeEoi.parts = s.parts
    unfold State.writeEoi
    split <;> rfl
  | _ => rfl

@[simp] theorem State.readCr_parts (r : CrReg) : (s.readCr r).2.parts = s.parts := by
  cases r with
  | ivr =>
    show s.readIvr.2.parts = s.parts
    unfold State.readIvr
    split <;> rfl
  | _ => rfl

@[simp] theorem State.loosePmds_parts (l : List Nat) : (s.loosePmds l).parts = s.parts := rfl

theorem State.withPmc_parts (p : Vector Word 16) (b : Bool) : { s with pmc := p, clkFr := b }.parts = s.parts := rfl

@[simp] theorem State.loosePmu_parts : s.loosePmu.parts = s.parts := by
  unfold State.loosePmu
  exact (State.withPmc_parts _ _ _).trans (s.loosePmds_parts _)

@[simp] theorem State.writePmc_parts (i : Nat) (v : Word) : (s.writePmc i v).parts = s.parts := by
  have loose (c : Prop) [Decidable c] (t : State) (l : List Nat) : (if c then t.loosePmds l else t).parts = t.parts := by
    split <;> rfl
  unfold State.writePmc
  dsimp only
  split
  · rw [loose]
    refine Eq.trans (State.withPmc_parts _ _ _) ?_
    split
    · rfl
    · exact s.loosePmu_parts
  · split
    · rfl
    · exact (loose _ _ _).trans (s.withPmc_parts _ _)

@[simp] theorem State.writePmd_parts (i : Nat) (v : Word) : (s.writePmd i v).parts = s.parts := by
  unfold State.writePmd; split <;> rfl

@[simp] theorem State.writeInd_parts (f : IndFile) (i : Nat) (v : Word) : (s.writeInd f i v).parts = s.parts := by
  cases f with
  | pmc => exact s.writePmc_parts i v
  | pmd => exact s.writePmd_parts i v
  | rr | pkr | ibr | dbr | cpuid => rfl

@[simp] theorem State.btbSettle_parts (u : State) (d : Nat) (c f : Bool) : (s.btbSettle u d c f).parts = u.parts := by
  unfold State.btbSettle
  repeat' split
  all_goals rfl

@[simp] theorem State.btbTick_parts (u : State) (v : TickView) (c : Bool) : (s.btbTick u v c).parts = u.parts := by
  unfold State.btbTick
  split
  · dsimp only
    split
    · rfl
    · exact s.btbSettle_parts u _ _ _
  · exact s.btbSettle_parts u _ _ _

@[simp] theorem State.earTick_parts (u : State) (d : Nat) (i : Option (Word × Word)) (w : Option (Word × Word × Word)) :
    (s.earTick u d i w).parts = u.parts := by
  cases i <;> cases w <;> rfl

/-- What the monitors capture in a step goes into their own registers (R641, R665, R680). -/
@[simp] theorem State.captured_parts (u : State) (v : TickView) (l : List PmuEvent) : (s.captured u v l).1.parts = u.parts :=
  (s.earTick_parts _ _ _ _).trans (s.btbTick_parts u _ _)

@[simp] theorem State.tickOnce_parts (u : State) (ty : SlotType) (w : BitVec 41) : (s.tickOnce u ty w).parts = u.parts :=
  s.captured_parts u _ _

/-- The monitors and the timer leave everything but their own registers alone. -/
@[simp] theorem State.tick_parts (u : State) (ty : SlotType) (w : BitVec 41) : (s.tick u ty w).parts = u.parts := by
  unfold State.tick
  split
  · exact s.tickOnce_parts u ty w
  · exact (State.tickOnce_parts _ _ _ _).trans (s.tickOnce_parts _ ty w)

end Quiet

end Sys2Proof.Machine

end

section
/-! SUPPORT. What an instruction can do to the parts of the state, said once for every shared operation: `Stable P` collects the updates
that a predicate has to survive, `Stable.exec` and `Stable.step` conclude that it then survives every instruction and every step. -/

namespace Sys2Proof.Machine

/-! ### Results and outcomes -/

/-- Every result of a computation that does not fail satisfies `Q`. -/
def Gives {ε α : Type} (x : Except ε α) (Q : α → Prop) : Prop := ∀ a, x = .ok a → Q a

/-- Every next state of an outcome satisfies `P`. -/
def Ends (P : State → Prop) (o : Host.Outcome State Fault Refusal) : Prop := ∀ u, o = .next u → P u

section Gives

variable {ε δ α β : Type} {Q : α → Prop} {R : β → Prop} {x : Except ε α}

theorem Gives.ok {a : α} (h : Q a) : Gives (.ok a : Except ε α) Q := by
  rintro _ ⟨⟩
  exact h

theorem Gives.error {e : ε} : Gives (.error e) Q := nofun

theorem Gives.bind {f : α → Except ε β} (h : ∀ a, x = .ok a → Gives (f a) R) : Gives (x.bind f) R := by
  cases x with
  | error e => exact .error
  | ok a => exact h a rfl

/-- A failure aside, what comes before does not matter to what a computation gives. -/
theorem Gives.andThen {f : α → Except ε β} (h : ∀ a, Gives (f a) R) : Gives (x.bind f) R := .bind fun a _ => h a

theorem Gives.map {f : α → β} (h : Gives x fun a => R (f a)) : Gives (x.map f) R := by
  cases x with
  | error e => exact nofun
  | ok a => exact .ok (h a rfl)

theorem Gives.mapError {f : ε → δ} (h : Gives x Q) : Gives (x.mapError f) Q := by
  cases x with
  | error e => exact nofun
  | ok a => exact .ok (h a rfl)

theorem Gives.ite {c : Prop} [Decidable c] {x y : Except ε α} (hx : c → Gives x Q) (hy : ¬ c → Gives y Q) :
    Gives (if c then x else y) Q := by
  split
  · exact hx ‹_›
  · exact hy ‹_›

theorem Gives.mono {R : α → Prop} (h : Gives x Q) (hi : ∀ a, Q a → R a) : Gives x R := fun a ha => hi a (h a ha)

/-- A check that passed. -/
theorem Gives.require {c : Bool} {e : Exc} {f : Unit → Except Exc β} (h : c = true → Gives (f ()) R) :
    Gives ((Machine.require c e).bind f) R :=
  .bind fun _ hc => h (by unfold Machine.require at hc; split at hc <;> simp_all)

end Gives

theorem Ends.next {P : State → Prop} {u : State} (h : P u) : Ends P (.next u) := fun v hv => by
  injection hv with hv
  exact hv ▸ h

theorem Ends.fault {P : State → Prop} {f : Fault} : Ends P (.fault f) := fun _ hv => by cases hv

theorem Ends.refused {P : State → Prop} {f : Refusal} : Ends P (.refused f) := fun _ hv => by cases hv

/-! ### Changes of the register stack -/

/-- The two frame markers have the same sizes (R23). -/
def SameSizes (c d : BitVec 38) : Prop := cfmSof c = cfmSof d ∧ cfmSol c = cfmSol d ∧ cfmSor c = cfmSor d

/-- The sizes of a frame marker fit the 96 physical registers. -/
def CfmOk (c : BitVec 38) : Prop := cfmSof c ≤ 96 ∧ cfmSol c ≤ cfmSof c ∧ cfmSor c ≤ 12

/-- Everything that instructions do to the register stack (R442 to R445, R460, R523, R524, R544, R554 to R556). -/
inductive State.FrameChange (s : State) : State → Prop where
  /-- The register names rotate, or their rotation is cleared. -/
  | rename {c : BitVec 38} : SameSizes c s.cfm → FrameChange s { s with cfm := c }
  /-- A call: the local registers go onto the dirty partition, the frame keeps the others. -/
  | call : FrameChange s { s.pushFrame (cfmSol s.cfm) with cfm := mkCfm (cfmSof s.cfm - cfmSol s.cfm) 0 0 0 0 0 }
  /-- `cover`: the whole frame goes onto the dirty partition. -/
  | cover : FrameChange s { s.pushFrame (cfmSof s.cfm) with cfm := 0 }
  /-- `alloc`. -/
  | grow {c : BitVec 38} {base : Nat} {t : State} : CfmOk c → s.growFrame base (cfmSof c) = .ok t →
      FrameChange s { t with cfm := c }
  /-- A return. -/
  | pop {c : BitVec 38} {n : Nat} {t : State} : s.popFrame c n = .ok t → FrameChange s t
  /-- `flushrs`. -/
  | flush {t : State} : s.spillAll = .ok t → FrameChange s t
  /-- `loadrs`. -/
  | reload {k n : Nat} {t : State} : cfmSof s.cfm = 0 → rseRegs (s.cur.bsp - BitVec.ofNat 64 (n * 8)) s.cur.bsp ≤ 96 →
      State.loadSlots { s with nclean := 0 } k = .ok t → FrameChange s (t.moveBspstore (s.cur.bsp - BitVec.ofNat 64 (n * 8)))
  /-- A move to BSPSTORE. -/
  | bspstore (v : Word) : FrameChange s (s.writeBspstore v)

/-! ### Predicates that every step keeps -/

/-- The translation is one that an insert or a walk makes (R485, R568). -/
def State.Makes (s : State) (e : TlbEntry) : Prop := ∃ va itir v, s.makeEntry va itir v = some e

/-- The predicate survives every elementary update of control, memory, buffers and TLBs, and everything that changes no part. -/
structure Elementary (P : State → Prop) : Prop where
  quiet {s t : State} : t.parts = s.parts → P s → P t
  interrupt {s : State} (i : Intr) (ei : BitVec 2) : P s → P (s.takeInterruption i ei)
  retire {r : Res} (s : State) : P r.s → P (retire s r)
  restore {s : State} : P s → P s.restoreContext
  storePhys {s : State} (pa : Nat) (ma : MemAttr) (bs : List Byte) : P s → P (s.storePhys pa ma bs)
  wcbFlush {s : State} : P s → P s.wcbFlush
  wcbFreeEvict {s : State} : P s → P s.wcbFreeEvict
  alatRemove {s : State} (r : AlatReg) : P s → P (s.alatRemove r)
  alatClear {s : State} : P s → P { s with alat := [] }
  alatSnoop {s : State} (pa n : Nat) : P s → P (s.alatSnoop pa n)
  alatPut {s : State} (e : AlatEntry) : P s → P (s.alatPut e)
  touch {s : State} (acc : Acc) : P s → P (s.touch acc)
  l1dUse {s : State} (va : Word) : P s → P { s with l1dtlb := s.l1dUsed va }
  l1Fill {s : State} : P s → P s.l1Fill
  purge {s : State} (k : PurgeKind) (rid : BitVec 24) (off : BitVec 61) (ps : BitVec 6) : P s → P (s.purge k rid off ps)
  purgeAll {s : State} : P s → P s.purgeAll
  insertTc {s : State} (instr : Bool) {e : TlbEntry} : s.Makes e → hitsReg (if instr then s.itr else s.dtr) e = false → P s →
    P (s.insertTc instr e)
  insertReg {s : State} (instr : Bool) {i : Nat} {e : TlbEntry} : i < 64 → s.Makes e →
    hitsReg (if instr then s.itr else s.dtr) e = false → P s → P (s.insertReg instr i e)

/-- The predicate survives the changes of the register stack too. -/
structure Stable (P : State → Prop) : Prop extends Elementary P where
  frame {s t : State} : s.FrameChange t → P s → P t

/-! ### The execution frame -/

section Instructions

variable {P : State → Prop} (h : Stable P) {s t : State}

include h

theorem Stable.finish {b : Except Exc Res} (hs : P s) (hb : Gives b fun r => P r.s) : Ends P (finish s b) := by
  intro u hu
  rcases finish_next hu with ⟨r, hr, rfl⟩ | ⟨i, -, rfl⟩
  · exact h.retire s (hb r hr)
  · exact h.interrupt i _ hs

theorem Stable.run {c : Except Exc Unit} {b : Except Exc Res} (hs : P s) (hb : Gives b fun r => P r.s) :
    Ends P (Machine.run s qp c b) :=
  h.finish hs (.andThen fun _ => .ite (fun _ => hb) fun _ => .ok (h.quiet (s.emit_parts _) hs))

theorem Stable.runLong {c : Except Exc Unit} {b : Except Exc Res} (hs : P s) (hb : Gives b fun r => P r.s) :
    Ends P (runLong s qp c b) :=
  h.finish hs (.map (.andThen fun _ => .ite (fun _ => hb) fun _ => .ok (h.quiet (s.emit_parts _) hs)))

theorem Stable.runBranch {b : Except Exc Res} (hs : P s) (hb : Gives b fun r => P r.s) (ht : P t) :
    Ends P (runBranch s qp b t) :=
  h.finish hs (.ite (fun _ => hb) fun _ => .ok ht)

theorem Stable.compare {b : Except Exc (State × Bool × Bool)} (hs : P s) (hb : Gives b fun x => P x.1) :
    Ends P (compare s c qp ct p1 p2 b) :=
  h.finish hs (.andThen fun _ => .ite
    (fun _ => .map (hb.mono fun _ hx => h.quiet (State.cmpWrite_parts _ _ _ _ _ _ _) hx))
    fun _ => .ok (h.quiet (s.cmpSquash_parts _ _ _ _) hs))

/-- An instruction without an effect but on registers that no part holds. -/
theorem Stable.runQuiet {c : Except Exc Unit} {b : Except Exc Res} (hs : P s) (hb : Gives b fun r => r.s.parts = s.parts) :
    Ends P (Machine.run s qp c b) :=
  h.run hs (hb.mono fun _ hr => h.quiet hr hs)

/-- A compare whose operands come from the state before it. -/
theorem Stable.compareQuiet {b : Except Exc (State × Bool × Bool)} (hs : P s) (hb : Gives b fun x => x.1.parts = s.parts) :
    Ends P (Machine.compare s c qp ct p1 p2 b) :=
  h.compare hs (hb.mono fun _ hx => h.quiet hx hs)

end Instructions

end Sys2Proof.Machine

end

section
/-! SUPPORT. What the operations that reach beyond the registers leave of a stable predicate: the ALAT, memory references, purges and
inserts, the register stack, branches. -/

namespace Sys2Proof.Machine

/-! ### Frame markers (R23) -/

theorem cfmSof_mkCfm (sof sol sor g f p : Nat) : cfmSof (mkCfm sof sol sor g f p) = sof % 2 ^ 7 := by
  unfold cfmSof mkCfm
  rw [BitVec.extractLsb'_append_eq_of_add_le (by decide)]
  simp

theorem cfmSol_mkCfm (sof sol sor g f p : Nat) : cfmSol (mkCfm sof sol sor g f p) = sol % 2 ^ 7 := by
  unfold cfmSol mkCfm
  rw [BitVec.extractLsb'_append_eq_of_le (by decide), BitVec.extractLsb'_append_eq_of_add_le (by decide)]
  simp

theorem cfmSor_mkCfm (sof sol sor g f p : Nat) : cfmSor (mkCfm sof sol sor g f p) = sor % 2 ^ 4 := by
  unfold cfmSor mkCfm
  rw [BitVec.extractLsb'_append_eq_of_le (by decide), BitVec.extractLsb'_append_eq_of_le (by decide),
    BitVec.extractLsb'_append_eq_of_add_le (by decide)]
  simp

/-- A marker that takes its sizes from another one has them, whatever its rotation. -/
theorem mkCfm_sizes (c : BitVec 38) (g f p : Nat) : SameSizes (mkCfm (cfmSof c) (cfmSol c) (cfmSor c) g f p) c :=
  ⟨(cfmSof_mkCfm ..).trans (Nat.mod_eq_of_lt (BitVec.isLt _)), (cfmSol_mkCfm ..).trans (Nat.mod_eq_of_lt (BitVec.isLt _)),
    (cfmSor_mkCfm ..).trans (Nat.mod_eq_of_lt (BitVec.isLt _))⟩

/-- Rotation keeps the sizes of the frame (R544). -/
theorem rotateRegs_sizes (c : BitVec 38) : SameSizes (rotateRegs c) c := mkCfm_sizes c _ _ _

section References

variable {P : State → Prop} (h : Elementary P) {s : State}

include h

theorem Elementary.emit (e : PmuEvent) (hs : P s) : P (s.emit e) := h.quiet (s.emit_parts e) hs

/-! ### Memory references (R155, R156, R425) -/

/-- A reference uses the first-level data TLB, then the translation cache. -/
theorem Elementary.l1dAfter (acc : Acc) (hs : P s) : P { s with l1dtlb := s.l1dAfter acc } := by
  unfold State.l1dAfter
  split
  · exact h.l1dUse acc.va hs
  · exact hs

theorem Elementary.readNoted (acc : Acc) (hs : P s) : P (s.readNoted acc) := h.quiet (by rfl) (h.touch acc (h.l1dAfter acc hs))

theorem Elementary.noteLoad (acc : Acc) (ma : MemAttr) (hs : P s) : P (s.noteLoad acc ma) := h.emit _ (h.readNoted acc hs)

theorem Elementary.noteStore (acc : Acc) (ma : MemAttr) (hs : P s) : P (s.noteStore acc ma) :=
  h.quiet (by rfl) (h.touch acc (h.l1dAfter acc hs))

end References

section Operations

variable {P : State → Prop} (h : Stable P) {s t : State}

include h

/-! ### Register writes -/

theorem Stable.setGr (r : GrIdx) (v : GReg) (k : WriteKind) (hs : P s) : P (s.setGr r v k) := h.quiet (s.setGr_parts r v k) hs

theorem Stable.setFr (f : FrIdx) (v : FReg) (k : WriteKind) (hs : P s) : P (s.setFr f v k) := h.quiet (s.setFr_parts f v k) hs

theorem Stable.setAr (r : ArReg) (v : Word) (hr : r.ofStack = false) (hs : P s) : P (s.setAr r v) :=
  h.quiet (s.setAr_parts r v hr) hs

/-- The base update of a memory reference (R425). -/
theorem Stable.updateBase (r3 : GrIdx) (u : BaseUpdate) (ht : P t) : P (s.updateBase t r3 u) := by
  unfold State.updateBase
  split
  · exact h.setGr _ _ _ ht
  · exact ht

/-- A move to an application register (R361, R460). -/
theorem Stable.writeAr (r : ArReg) (v : Word) (hs : P s) : P (s.writeAr r v) := by
  cases r <;> unfold State.writeAr
  case bspstore => exact h.frame (.bspstore v) hs
  case bsp | ignored | reserved => exact hs
  all_goals exact h.setAr _ _ rfl hs

theorem Stable.moveToAr {iUnit : Bool} {n : BitVec 7} {c : Except Exc Unit} {v : Except Exc Word} (hs : P s) :
    Gives (s.moveToAr iUnit n c v) fun r => P r.s :=
  .andThen fun _ => .andThen fun _ => .andThen fun _ => .andThen fun _ => .andThen fun _ => .ok (h.writeAr _ _ hs)

/-! ### The ALAT (R90 to R98) -/

theorem Stable.alatInvalidate (r : AlatReg) (hs : P s) : P (s.alatInvalidate r) := h.quiet (by rfl) (h.alatRemove r hs)

theorem Stable.alatSet (r : AlatReg) (pa n : Nat) (hs : P s) : P (s.alatSet r pa n) := by
  have ht : P (if s.grpAlatInvalAll || s.grpAlatInval.contains r || (s.grpAlatChecks.contains r && s.freeBool 5002) then
      s.alatRemove r else s.alatPut { reg := r, pa20 := BitVec.ofNat 20 pa, size := n }) := by
    split
    · exact h.alatRemove r hs
    · exact h.alatPut _ hs
  exact h.quiet (by rfl) ht

theorem Stable.checkLoad (k : LoadKind) (r : AlatReg) (f : Bool) (va : Word) (hs : P s) : P (s.checkLoad k r f va) := by
  have ht : P (s.alatChecked r f va) := h.quiet (by rfl) hs
  unfold State.checkLoad
  dsimp only
  split
  · exact h.alatInvalidate r ht
  · exact ht

theorem Stable.checkMiss (k : LoadKind) (r : AlatReg) (va : Word) (hs : P s) : P (s.checkMiss k r va) := by
  unfold State.checkMiss
  split
  · exact h.checkLoad k r true va hs
  · exact hs

theorem Stable.loadAlat (k : LoadKind) (r : AlatReg) (pa n : Nat) (hs : P s) : P (s.loadAlat k r pa n) := by
  cases k
  case adv | specAdv | chkNc => exact h.alatSet r pa n hs
  all_goals exact hs

theorem Stable.loadDeferred (k : LoadKind) (r : AlatReg) (hs : P s) : P (s.loadDeferred k r) := by
  cases k
  case specAdv => exact h.alatRemove r hs
  all_goals exact hs

/-! ### Loads, stores, semaphores (R380 to R403) -/

theorem Stable.loadNoted (k : LoadKind) (acc : Acc) (ma : MemAttr) (hs : P s) : P (s.loadNoted k acc ma) := by
  unfold State.loadNoted
  split
  · exact h.touch acc hs
  · exact h.noteLoad acc ma hs

/-- A load, whose `deliver` writes its target (R425). -/
theorem Stable.loadBody {deliver : State → Option Nat → State} (hd : ∀ t p, P t → P (deliver t p)) (hs : P s) :
    Gives (s.loadBody r3 u n cls k reg deliver) fun r => P r.s := by
  have deferred : P (s.updateBase (deliver (s.loadDeferred k reg) none) r3 u) :=
    h.updateBase r3 u (hd _ _ (h.loadDeferred k reg hs))
  refine .andThen fun base => .andThen fun _ => .ite (fun _ => ?_) fun _ => .ite (fun _ => ?_) fun _ => .andThen fun p => ?_
  · exact .ok (h.updateBase r3 u (h.checkLoad k reg false _ hs))
  · exact .ite (fun _ => .ok deferred) fun _ => .error
  · cases p with
    | none => exact .ok deferred
    | some p => exact .ok (h.updateBase r3 u (hd _ _ (h.loadNoted k _ _ (h.checkMiss k reg _ (h.loadAlat k reg _ n hs)))))

/-- A load in its frame: an advanced one first gives up its register's ALAT entry (R98). -/
theorem Stable.runLoad {b : Except Exc Res} (hs : P s) (hb : Gives b fun r => P r.s) : Ends P (s.runLoad qp k reg c b) := by
  refine h.run ?_ hb
  split
  · exact h.alatRemove reg hs
  · exact hs

theorem Stable.storeBody {after : State → State} (ha : ∀ t, P t → P (after t)) (hs : P s) :
    Gives (s.storeBody r3 u cls rel dataNat bs after) fun r => P r.s := by
  refine .andThen fun base => .ite (fun _ => .error) fun _ => .andThen fun p => .ok (h.updateBase r3 u (ha _ ?_))
  refine h.noteStore _ _ (h.storePhys _ _ _ ?_)
  split
  · exact h.wcbFlush hs
  · exact hs

theorem Stable.semBody (hs : P s) : Gives (s.semBody r1 r3 n rel dataNat new) fun r => P r.s := by
  refine .andThen fun base => .ite (fun _ => .error) fun _ => .andThen fun p => ?_
  have flushed : P (if rel then s.wcbFlush else s) := by
    split
    · exact h.wcbFlush hs
    · exact hs
  refine .ok (h.setGr _ _ _ (h.noteStore _ _ (h.noteLoad _ _ ?_)))
  split
  · exact h.storePhys _ _ _ flushed
  · exact h.alatSnoop _ _ flushed

theorem Stable.lfetchPlain (hs : P s) : Ends P (lfetchPlain s qp r3 u) := by
  refine h.run hs (.andThen fun base => .andThen fun _ => .ok (h.updateBase r3 u ?_))
  split
  · exact h.readNoted _ hs
  · exact hs

theorem Stable.lfetchFault (hs : P s) : Ends P (lfetchFault s qp r3 u) :=
  h.run hs (.andThen fun _ => .andThen fun _ => .ite (fun _ => .error) fun _ => .andThen fun _ =>
    .ok (h.updateBase r3 u (h.readNoted _ hs)))

theorem Stable.fcInstr (hs : P s) : Ends P (fcInstr s qp r3) := by
  refine h.run hs (.andThen fun base => .ite (fun _ => .error) fun _ => .andThen fun p => .ok ?_)
  have flushed : P (if s.wcb.any (fun e => e.line = p.1 / 128) then s.wcbFlush else s) := by
    split
    · exact h.wcbFlush hs
    · exact hs
  exact h.quiet (by rfl) flushed

/-! ### Checks (R366, R420, R421) -/

theorem Stable.checkFail (ht : P t) : Gives (s.checkFail t e imm) fun r => P r.s :=
  .ite (fun _ => .ok (h.emit e ht)) fun _ => .error

theorem Stable.chkA (hs : P s) : Gives (s.chkA reg clr imm) fun r => P r.s := by
  have cleared : P (s.chkACleared reg clr) := by
    have noted : P { s with grpAlatChecks := reg :: s.grpAlatChecks } := h.quiet (by rfl) hs
    unfold State.chkACleared
    dsimp only
    split
    · exact h.alatInvalidate reg noted
    · exact noted
  exact .ite (fun _ => .ok (h.emit _ cleared)) fun _ => h.checkFail cleared

/-! ### Translations (R160, R449, R485) -/

omit h in
/-- What a walk finds is a translation that the machine makes. -/
theorem walkFinds_makes {va : Word} {e : TlbEntry} (he : s.walkFinds va = some e) : s.Makes e := by
  obtain ⟨_, -, hb⟩ := Option.bind_eq_some_iff.1 he
  obtain ⟨w, -, hw⟩ := Option.bind_eq_some_iff.1 hb
  exact ⟨va, w.2, w.1, hw⟩

omit h in
/-- The translation that passed the checks of an insert is one that the machine makes, for one of 64 registers (R485). -/
theorem gives_insertChecks : Gives (s.insertChecks ic r2 source slot) fun p => s.Makes p.1 ∧ p.2 < 64 := by
  refine .andThen fun _ => .andThen fun _ => .andThen fun _ => .andThen fun _ => .andThen fun i => .andThen fun v => ?_
  split
  · exact .error
  · next e he => exact .ite (fun hi => .ok ⟨⟨_, _, v, he⟩, hi⟩) fun _ => .error

theorem Stable.itcInstr (hs : P s) : Ends P (itcInstr s qp instr r2) :=
  h.run hs (.bind fun p hp => .ite (fun _ => .error) fun hh =>
    .ok (h.insertTc instr (gives_insertChecks p hp).1 (by simpa using hh) hs))

theorem Stable.itrInstr (hs : P s) : Ends P (itrInstr s qp instr r3 r2) :=
  h.run hs (.bind fun p hp => .ite (fun _ => .error) fun hh =>
    .ok (h.insertReg instr (gives_insertChecks p hp).2 (gives_insertChecks p hp).1 (by simpa using hh) hs))

/-! ### Floating-point arithmetic (R503) -/

omit h in
theorem gives_fpComplete {write : State → State} (hw : ∀ t, (write t).parts = t.parts) :
    Gives (s.fpComplete sf trap r write) fun x => x.s.parts = s.parts :=
  .ite (fun _ => .error) fun _ => .ok ((hw _).trans ((State.noteFlush_parts _ _).trans (s.raiseFlags_parts _ _)))

theorem Stable.fpArith (hs : P s) : Ends P (fpArith s qp f1 srcs sf ops r) :=
  h.runQuiet hs (.andThen fun _ => .ite (fun _ => .ok (State.setFr_parts _ _ _ _)) fun _ =>
    gives_fpComplete fun _ => State.setFr_parts _ _ _ _)

theorem Stable.fpApproxInstr (hs : P s) : Ends P (fpApproxInstr s qp f1 p2 srcs sf ops r ok) := by
  have approx (t : State) (v : FReg) (b : Bool) : ((t.setFr f1 v .alu).setPr p2 b .alu).parts = t.parts := by simp
  have counted : P (s.emit (.fpOps ops)) := h.emit _ hs
  refine h.finish hs (.andThen fun _ => .ite (fun _ => .andThen fun _ => .ite (fun _ => ?_) fun _ => ?_) fun _ => ?_)
  · exact .ok (h.quiet (approx _ _ _) counted)
  · exact (gives_fpComplete (s := s.emit _) fun _ => approx _ _ _).mono fun _ hr => h.quiet hr counted
  · exact .ok (h.quiet (s.setPr_parts _ _ _) hs)

theorem Stable.fcmpBody (hs : P s) : Ends P (fcmpBody s qp rel ct sf p1 p2 f2 f3) :=
  h.compareQuiet hs (.andThen fun _ => .ite (fun _ => .ok rfl) fun _ =>
    .map (gives_fpComplete (s := s.emit _) fun _ => rfl))

/-! ### The register stack (R442 to R444) -/

theorem Stable.allocBody (hs : P s) : Ends P (allocBody s qp r1 sof sol sor) := by
  refine h.finish hs (.require fun hok => .andThen fun _ => .andThen fun _ => .bind fun t ht => .ok ?_)
  obtain ⟨-, hsof, hsol, hsor⟩ := of_decide_eq_true hok
  have hc : cfmSof (mkCfm sof.toNat sol.toNat sor.toNat (cfmRrbGr s.cfm) (cfmRrbFr s.cfm) (cfmRrbPr s.cfm)) = sof.toNat :=
    (cfmSof_mkCfm ..).trans (Nat.mod_eq_of_lt sof.isLt)
  refine h.setGr _ _ _ (h.emit _ (h.frame (.grow (base := cfmSof s.cfm) ⟨?_, ?_, ?_⟩ (by rw [hc]; exact ht)) hs))
  · rw [hc]; exact hsof
  · rw [hc, cfmSol_mkCfm]; exact (Nat.mod_le _ _).trans hsol
  · rw [cfmSor_mkCfm]; exact (Nat.mod_le _ _).trans (by omega)

theorem Stable.flushrsBody (hs : P s) : Ends P (flushrsBody s qp) :=
  h.run hs (.map fun _ ht => h.emit _ (h.frame (.flush ht) hs))

theorem Stable.loadrsBody (hs : P s) : Ends P (loadrsBody s qp) := by
  refine h.run hs (.require fun hok => .map fun t ht => h.emit _ ?_)
  obtain ⟨hsof, -, hregs⟩ := of_decide_eq_true hok
  exact h.frame (.reload hsof hregs ht) hs

/-! ### Branches (R522 to R525, R541 to R544, R554 to R559) -/

/-- The result of a branch in slot 2 or in the long slot is the same state. -/
theorem Stable.branchEnds {r : Res} {long : Bool} (hs : P s) (hr : P r.s) :
    Ends P (Machine.finish s (.ok (if long then r.asLong else r))) := by
  refine h.finish hs (.ok ?_)
  cases long <;> exact hr

theorem Stable.call (hs : P s) : P (s.call b1) :=
  h.emit _ (h.setAr _ _ rfl (h.quiet (State.setBr_parts _ _ _) (h.frame .call hs)))

theorem Stable.brCall (hs : P s) : Ends P (brCall s qp b1 target kind long) := by
  refine h.branchEnds hs ?_
  split
  · exact h.emit _ (h.call hs)
  · exact h.emit _ hs

theorem Stable.leave (ht : P t) : P (s.leave t) := by
  have counted : P (t.setAr .ec ((pfsPec s.returnPfs).setWidth 64)) := h.setAr _ _ rfl ht
  unfold State.leave
  dsimp only
  split
  · exact h.quiet (by rfl) counted
  · exact counted

theorem Stable.brRet (hs : P s) : Ends P (brRet s qp b2) :=
  h.runBranch hs (.map (.mapError fun _ ht => h.emit _ (h.emit _ (h.leave (h.frame (.pop ht) hs))))) (h.emit _ hs)

theorem Stable.rotate (hs : P s) : P s.rotate := h.frame (.rename (rotateRegs_sizes _)) hs

theorem Stable.loopPred (v : Bool) (hs : P s) : P (s.loopPred v) := h.quiet (s.setPr_parts _ _ _) hs

theorem Stable.countEc (hs : P s) : P s.countEc := h.setAr _ _ rfl hs

theorem Stable.countedLoop (hs : P s) : P s.countedLoop := by
  unfold State.countedLoop
  split
  · exact h.rotate (h.loopPred _ (h.setAr _ _ rfl hs))
  · split
    · exact h.rotate (h.loopPred _ (h.countEc hs))
    · exact h.loopPred _ hs

theorem Stable.whileLoop (p : Bool) (hs : P s) : P (s.whileLoop p) := by
  unfold State.whileLoop
  split
  · exact h.rotate (h.loopPred _ hs)
  · split
    · exact h.rotate (h.loopPred _ (h.countEc hs))
    · exact h.loopPred _ hs

theorem Stable.brCloop (hs : P s) : Ends P (brCloop s target) :=
  h.finish hs (.andThen fun _ => .ite (fun _ => .ok (h.emit _ (h.setAr _ _ rfl hs))) fun _ => .ok (h.emit _ hs))

theorem Stable.coverInstr (hs : P s) : Ends P (coverInstr s) := by
  refine h.finish hs (.ok (h.emit _ ?_))
  split
  · exact h.frame .cover hs
  · exact h.quiet (by rfl) (h.frame .cover hs)

theorem Stable.clrrrbInstr (prOnly : Bool) (hs : P s) : Ends P (clrrrbInstr s prOnly) := by
  refine h.finish hs (.ok (h.frame (s := s) (.rename ?_) hs))
  split <;> exact mkCfm_sizes ..

theorem Stable.epcInstr (hs : P s) : Ends P (epcInstr s) := by
  refine h.finish hs (.andThen fun _ => .ok (h.quiet (s := s) ?_ hs))
  dsimp only
  split <;> rfl

/-! ### Returning from an interruption (R556, R588) -/

/-- The fills of a return run in a state that differs from the restored one in PSR alone, and so does the frame's state after them. -/
theorem Stable.restoreFrame (ht : P t) : Gives (s.restoreFrame t) P :=
  .map fun u hu => h.quiet (by rfl) (h.frame (.pop hu) (h.quiet (s := t) (by rfl) ht))

theorem Stable.finishRfi {b : Except Exc State} (hs : P s) (hb : Gives b P) : Ends P (finishRfi s b) := by
  unfold Machine.finishRfi
  split
  · exact h.finish hs .error
  · next t =>
    have ht : P (t.emit .retired) := h.emit _ (hb t rfl)
    dsimp only
    split
    · exact .next ht
    · exact .next (h.interrupt _ _ ht)

theorem Stable.rfiInstr (hs : P s) : Ends P (rfiInstr s) :=
  h.finishRfi hs (.andThen fun _ => .ite (fun _ => .error) fun _ =>
    .ite (fun _ => h.restoreFrame (h.restore hs)) fun _ => .ok (h.restore hs))

end Operations

end Sys2Proof.Machine

end

section
/-! SUPPORT. The operations that the instructions share, which of them each instruction is, and that every step keeps what they all keep. -/

namespace Sys2Proof.Machine

/-- The outcome is that of one of the operations which the instructions share. -/
inductive Shared (s : State) : Host.Outcome State Fault Refusal → Prop where
  | grOp2 : Shared s (grOp2 s qp r1 r2 r3 f)
  | grOp1 : Shared s (grOp1 s qp r1 r3 f)
  | cmpRegs : Shared s (cmpRegs w s qp rel ct p1 p2 r2 r3)
  | cmpImm : Shared s (cmpImm w s qp rel ct p1 p2 imm8 r3)
  | cmpZero : Shared s (cmpZero w s qp rel ct p1 p2 r3)
  | mux1 : Shared s (mux1 s qp r1 r2 mbtype4)
  | grOp0 : Shared s (grOp0 s qp r1 v)
  | testBit : Shared s (testBit s qp nz ct p1 p2 r3 pos6)
  | testNat : Shared s (testNat s qp nz ct p1 p2 r3)
  | breakInstr : Shared s (breakInstr s qp imm)
  | nopInstr : Shared s (nopInstr s qp)
  | chkS : Shared s (chkS s qp r2 imm21)
  | movToBr : Shared s (movToBr s qp b1 r2)
  | movPrR2Mask17 : Shared s (execMovPrR2Mask17 qp r2 mask17 s)
  | movPrRotImm44 : Shared s (execMovPrRotImm44 qp imm28 s)
  | invala : Shared s (execInvala qp s)
  | movToArReg : Shared s (movToArReg s qp iUnit ar3 r2)
  | movToArImm : Shared s (movToArImm s qp iUnit ar3 imm8)
  | movFromAr : Shared s (movFromAr s qp iUnit r1 ar3)
  | movlR1Imm64 : Shared s (execMovlR1Imm64 qp r1 imm64 s)
  | breakXImm62 : Shared s (execBreakXImm62 qp imm62 s)
  | nopXImm62 : Shared s (execNopXImm62 qp imm62 s)
  | intLoad : Shared s (intLoad s qp r1 r3 u n k)
  | intFill : Shared s (intFill s qp r1 r3 u)
  | intStore : Shared s (intStore s qp r3 r2 u n rel)
  | intSpill : Shared s (intSpill s qp r3 r2 u)
  | fpLoad : Shared s (fpLoad s qp f1 r3 u f k)
  | fpStore : Shared s (fpStore s qp r3 f2 u f)
  | fpLoadPair : Shared s (fpLoadPair s qp f1 f2 r3 u f k)
  | lfetchPlain : Shared s (lfetchPlain s qp r3 u)
  | lfetchFault : Shared s (lfetchFault s qp r3 u)
  | cmpxchg : Shared s (cmpxchg s qp r1 r3 r2 n rel)
  | xchg : Shared s (xchg s qp r1 r3 r2 n)
  | fetchadd : Shared s (fetchadd s qp r1 r3 inc n rel)
  | setfBody : Shared s (setfBody s qp f1 r2 conv)
  | getfBody : Shared s (getfBody s qp r1 f2 conv)
  | chkSFp : Shared s (chkSFp s qp f2 imm21)
  | chkAGr : Shared s (chkAGr s qp r1 clr imm21)
  | chkAFr : Shared s (chkAFr s qp f1 clr imm21)
  | invalaE : Shared s (invalaE s qp ok reg)
  | allocBody : Shared s (allocBody s qp r1 sof sol sor)
  | flushrsBody : Shared s (flushrsBody s qp)
  | loadrsBody : Shared s (loadrsBody s qp)
  | fcInstr : Shared s (fcInstr s qp r3)
  | ptcE : Shared s (ptcE s qp r3)
  | purgeInstr : Shared s (purgeInstr s qp k r3 r2)
  | fenceInstr : Shared s (fenceInstr s qp)
  | acceptInstr : Shared s (acceptInstr s qp)
  | syncI : Shared s (syncI s qp)
  | srlzD : Shared s (srlzD s qp)
  | srlzI : Shared s (srlzI s qp)
  | movToCr : Shared s (movToCr s qp cr3 r2)
  | movFromCr : Shared s (movFromCr s qp r1 cr3)
  | movToPsrL : Shared s (movToPsrL s qp r2)
  | movToPsrUm : Shared s (movToPsrUm s qp r2)
  | movFromPsr : Shared s (movFromPsr s qp r1)
  | movFromPsrUm : Shared s (movFromPsrUm s qp r1)
  | userMask : Shared s (userMask s qp b imm24)
  | systemMask : Shared s (systemMask s qp b imm24)
  | movToInd : Shared s (movToInd s qp f r3 r2)
  | movFromInd : Shared s (movFromInd s qp f r1 r3)
  | itcInstr : Shared s (itcInstr s qp instr r2)
  | itrInstr : Shared s (itrInstr s qp instr r3 r2)
  | probeInstr : Shared s (probeInstr s qp r1 r3 write source pl)
  | probeFault : Shared s (probeFault s qp r3 r w pl)
  | tpaInstr : Shared s (tpaInstr s qp r1 r3)
  | takInstr : Shared s (takInstr s qp r1 r3)
  | hashInstr : Shared s (hashInstr s qp r1 r3 f)
  | fpArith : Shared s (fpArith s qp f1 srcs sf ops r)
  | fpMove : Shared s (fpMove s qp f1 srcs r)
  | fcmpBody : Shared s (fcmpBody s qp rel ct sf p1 p2 f2 f3)
  | fclassBody : Shared s (fclassBody s qp ct p1 p2 f2 m)
  | fpApproxInstr : Shared s (fpApproxInstr s qp f1 p2 srcs sf ops r ok)
  | fsetcInstr : Shared s (fsetcInstr s qp sf amask7 omask7)
  | fclrfInstr : Shared s (fclrfInstr s qp sf)
  | fchkfInstr : Shared s (fchkfInstr s qp sf imm21)
  | brCond : Shared s (brCond s qp target kind long)
  | brWhile : Shared s (brWhile s qp exit target)
  | brCloop : Shared s (brCloop s target)
  | brCounted : Shared s (brCounted s exit target)
  | brCall : Shared s (brCall s qp b1 target kind long)
  | brIa : Shared s (brIa s)
  | brRet : Shared s (brRet s qp b2)
  | brpInstr : Shared s (brpInstr s)
  | coverInstr : Shared s (coverInstr s)
  | clrrrbInstr : Shared s (clrrrbInstr s prOnly)
  | rfiInstr : Shared s (rfiInstr s)
  | bswInstr : Shared s (bswInstr s bank)
  | epcInstr : Shared s (epcInstr s)
  | breakB : Shared s (breakB s qp)
  | nopB : Shared s (nopB s qp)

/-- Every instruction is one of the shared operations. -/
theorem exec_shared (i : Instr) (s : State) : Shared s (exec i s) := by
  cases i with dsimp only [exec]
  | addR1R2R3 | addR1R2R31 | subR1R2R3 | subR1R2R31 | addp4R1R2R3 | andR1R2R3 | andcmR1R2R3 | orR1R2R3 | xorR1R2R3 |
    shladdR1R2Count2R3 | shladdp4R1R2Count2R3 | padd1R1R2R3 | padd2R1R2R3 | padd4R1R2R3 | padd1SssR1R2R3 | padd2SssR1R2R3 |
    padd1UusR1R2R3 | padd2UusR1R2R3 | padd1UuuR1R2R3 | padd2UuuR1R2R3 | psub1R1R2R3 | psub2R1R2R3 | psub4R1R2R3 |
    psub1SssR1R2R3 | psub2SssR1R2R3 | psub1UusR1R2R3 | psub2UusR1R2R3 | psub1UuuR1R2R3 | psub2UuuR1R2R3 | pavg1R1R2R3 |
    pavg2R1R2R3 | pavg1RazR1R2R3 | pavg2RazR1R2R3 | pavgsub1R1R2R3 | pavgsub2R1R2R3 | pcmp1EqR1R2R3 | pcmp2EqR1R2R3 |
    pcmp4EqR1R2R3 | pcmp1GtR1R2R3 | pcmp2GtR1R2R3 | pcmp4GtR1R2R3 | pshladd2R1R2Count2R3 | pshradd2R1R2Count2R3 |
    pmpyshr2R1R2R3Count2 | pmpyshr2UR1R2R3Count2 | pmpy2RR1R2R3 | pmpy2LR1R2R3 | mix1RR1R2R3 | mix1LR1R2R3 | mix2RR1R2R3 |
    mix2LR1R2R3 | mix4RR1R2R3 | mix4LR1R2R3 | pack2SssR1R2R3 | pack2UssR1R2R3 | pack4SssR1R2R3 | unpack1LR1R2R3 |
    unpack1HR1R2R3 | unpack2LR1R2R3 | unpack2HR1R2R3 | unpack4LR1R2R3 | unpack4HR1R2R3 | pmin1UR1R2R3 | pmax1UR1R2R3 |
    pmin2R1R2R3 | pmax2R1R2R3 | psad1R1R2R3 | shrR1R3R2 | shrUR1R3R2 | pshr2R1R3R2 | pshr2UR1R3R2 | pshr4R1R3R2 | pshr4UR1R3R2
    | shlR1R2R3 | pshl2R1R2R3 | pshl4R1R2R3 | shrpR1R2R3Count6 | depR1R2R3Pos6Len4 => exact .grOp2
  | subR1Imm8R3 | andR1Imm8R3 | andcmR1Imm8R3 | orR1Imm8R3 | xorR1Imm8R3 | addsR1Imm14R3 | addp4R1Imm14R3 | addlR1Imm22R3 |
    mux2R1R2Mhtype8 | pshr2R1R3Count5 | pshr2UR1R3Count5 | pshr4R1R3Count5 | pshr4UR1R3Count5 | pshl2R1R2Count5 |
    pshl4R1R2Count5 | popcntR1R3 | extrUR1R3Pos6Len6 | extrR1R3Pos6Len6 | depZR1R2Pos6Len6 | depR1Imm1R3Pos6Len6 | zxt1R1R3 |
    zxt2R1R3 | zxt4R1R3 | sxt1R1R3 | sxt2R1R3 | sxt4R1R3 | czx1LR1R3 | czx2LR1R3 | czx1RR1R3 | czx2RR1R3 => exact .grOp1
  | cmpLtP1P2R2R3 | cmpLtUncP1P2R2R3 | cmp4LtP1P2R2R3 | cmp4LtUncP1P2R2R3 | cmpLtuP1P2R2R3 | cmpLtuUncP1P2R2R3 |
    cmp4LtuP1P2R2R3 | cmp4LtuUncP1P2R2R3 | cmpEqP1P2R2R3 | cmpEqUncP1P2R2R3 | cmp4EqP1P2R2R3 | cmp4EqUncP1P2R2R3 |
    cmpEqAndP1P2R2R3 | cmpNeAndP1P2R2R3 | cmpEqOrP1P2R2R3 | cmpNeOrP1P2R2R3 | cmpEqOrAndcmP1P2R2R3 | cmpNeOrAndcmP1P2R2R3 |
    cmp4EqAndP1P2R2R3 | cmp4NeAndP1P2R2R3 | cmp4EqOrP1P2R2R3 | cmp4NeOrP1P2R2R3 | cmp4EqOrAndcmP1P2R2R3 |
    cmp4NeOrAndcmP1P2R2R3 => exact .cmpRegs
  | cmpLtP1P2Imm8R3 | cmpLtUncP1P2Imm8R3 | cmp4LtP1P2Imm8R3 | cmp4LtUncP1P2Imm8R3 | cmpLtuP1P2Imm8R3 | cmpLtuUncP1P2Imm8R3 |
    cmp4LtuP1P2Imm8R3 | cmp4LtuUncP1P2Imm8R3 | cmpEqP1P2Imm8R3 | cmpEqUncP1P2Imm8R3 | cmp4EqP1P2Imm8R3 | cmp4EqUncP1P2Imm8R3 |
    cmpEqAndP1P2Imm8R3 | cmpNeAndP1P2Imm8R3 | cmpEqOrP1P2Imm8R3 | cmpNeOrP1P2Imm8R3 | cmpEqOrAndcmP1P2Imm8R3 |
    cmpNeOrAndcmP1P2Imm8R3 | cmp4EqAndP1P2Imm8R3 | cmp4NeAndP1P2Imm8R3 | cmp4EqOrP1P2Imm8R3 | cmp4NeOrP1P2Imm8R3 |
    cmp4EqOrAndcmP1P2Imm8R3 | cmp4NeOrAndcmP1P2Imm8R3 => exact .cmpImm
  | cmpGtAndP1P2R0R3 | cmpLeAndP1P2R0R3 | cmpGeAndP1P2R0R3 | cmpLtAndP1P2R0R3 | cmpGtOrP1P2R0R3 | cmpLeOrP1P2R0R3 |
    cmpGeOrP1P2R0R3 | cmpLtOrP1P2R0R3 | cmpGtOrAndcmP1P2R0R3 | cmpLeOrAndcmP1P2R0R3 | cmpGeOrAndcmP1P2R0R3 |
    cmpLtOrAndcmP1P2R0R3 | cmp4GtAndP1P2R0R3 | cmp4LeAndP1P2R0R3 | cmp4GeAndP1P2R0R3 | cmp4LtAndP1P2R0R3 | cmp4GtOrP1P2R0R3 |
    cmp4LeOrP1P2R0R3 | cmp4GeOrP1P2R0R3 | cmp4LtOrP1P2R0R3 | cmp4GtOrAndcmP1P2R0R3 | cmp4LeOrAndcmP1P2R0R3 |
    cmp4GeOrAndcmP1P2R0R3 | cmp4LtOrAndcmP1P2R0R3 => exact .cmpZero
  | mux1R1R2Mbtype4 => exact .mux1
  | depZR1Imm8Pos6Len6 | movR1B2 | movR1Ip | movR1Pr => exact .grOp0
  | tbitZP1P2R3Pos6 | tbitZUncP1P2R3Pos6 | tbitZAndP1P2R3Pos6 | tbitNzAndP1P2R3Pos6 | tbitZOrP1P2R3Pos6 | tbitNzOrP1P2R3Pos6 |
    tbitZOrAndcmP1P2R3Pos6 | tbitNzOrAndcmP1P2R3Pos6 | tbitNzP1P2R3Pos6 | tbitNzUncP1P2R3Pos6 => exact .testBit
  | tnatZP1P2R3 | tnatZUncP1P2R3 | tnatZAndP1P2R3 | tnatNzAndP1P2R3 | tnatZOrP1P2R3 | tnatNzOrP1P2R3 | tnatZOrAndcmP1P2R3 |
    tnatNzOrAndcmP1P2R3 | tnatNzP1P2R3 | tnatNzUncP1P2R3 => exact .testNat
  | breakIImm21 | breakMImm21 | breakFImm21 => exact .breakInstr
  | nopIImm21 | nopMImm21 | nopFImm21 => exact .nopInstr
  | chkSIR2Target25 | chkSMR2Target25 => exact .chkS
  | movB1R2 | movRetB1R2 => exact .movToBr
  | movPrR2Mask17 => exact .movPrR2Mask17
  | movPrRotImm44 => exact .movPrRotImm44
  | invala => exact .invala
  | movIAr3R2 | movMAr3R2 => exact .movToArReg
  | movIAr3Imm8 | movMAr3Imm8 => exact .movToArImm
  | movIR1Ar3 | movMR1Ar3 => exact .movFromAr
  | movlR1Imm64 => exact .movlR1Imm64
  | breakXImm62 => exact .breakXImm62
  | nopXImm62 => exact .nopXImm62
  | ld1R1R3 | ld1R1R3R2 | ld1R1R3Imm9 | ld2R1R3 | ld2R1R3R2 | ld2R1R3Imm9 | ld4R1R3 | ld4R1R3R2 | ld4R1R3Imm9 | ld8R1R3 |
    ld8R1R3R2 | ld8R1R3Imm9 | ld1SR1R3 | ld1SR1R3R2 | ld1SR1R3Imm9 | ld2SR1R3 | ld2SR1R3R2 | ld2SR1R3Imm9 | ld4SR1R3 |
    ld4SR1R3R2 | ld4SR1R3Imm9 | ld8SR1R3 | ld8SR1R3R2 | ld8SR1R3Imm9 | ld1AR1R3 | ld1AR1R3R2 | ld1AR1R3Imm9 | ld2AR1R3 |
    ld2AR1R3R2 | ld2AR1R3Imm9 | ld4AR1R3 | ld4AR1R3R2 | ld4AR1R3Imm9 | ld8AR1R3 | ld8AR1R3R2 | ld8AR1R3Imm9 | ld1SaR1R3 |
    ld1SaR1R3R2 | ld1SaR1R3Imm9 | ld2SaR1R3 | ld2SaR1R3R2 | ld2SaR1R3Imm9 | ld4SaR1R3 | ld4SaR1R3R2 | ld4SaR1R3Imm9 |
    ld8SaR1R3 | ld8SaR1R3R2 | ld8SaR1R3Imm9 | ld1BiasR1R3 | ld1BiasR1R3R2 | ld1BiasR1R3Imm9 | ld2BiasR1R3 | ld2BiasR1R3R2 |
    ld2BiasR1R3Imm9 | ld4BiasR1R3 | ld4BiasR1R3R2 | ld4BiasR1R3Imm9 | ld8BiasR1R3 | ld8BiasR1R3R2 | ld8BiasR1R3Imm9 |
    ld1AcqR1R3 | ld1AcqR1R3R2 | ld1AcqR1R3Imm9 | ld2AcqR1R3 | ld2AcqR1R3R2 | ld2AcqR1R3Imm9 | ld4AcqR1R3 | ld4AcqR1R3R2 |
    ld4AcqR1R3Imm9 | ld8AcqR1R3 | ld8AcqR1R3R2 | ld8AcqR1R3Imm9 | ld1CClrR1R3 | ld1CClrR1R3R2 | ld1CClrR1R3Imm9 | ld2CClrR1R3
    | ld2CClrR1R3R2 | ld2CClrR1R3Imm9 | ld4CClrR1R3 | ld4CClrR1R3R2 | ld4CClrR1R3Imm9 | ld8CClrR1R3 | ld8CClrR1R3R2 |
    ld8CClrR1R3Imm9 | ld1CNcR1R3 | ld1CNcR1R3R2 | ld1CNcR1R3Imm9 | ld2CNcR1R3 | ld2CNcR1R3R2 | ld2CNcR1R3Imm9 | ld4CNcR1R3 |
    ld4CNcR1R3R2 | ld4CNcR1R3Imm9 | ld8CNcR1R3 | ld8CNcR1R3R2 | ld8CNcR1R3Imm9 | ld1CClrAcqR1R3 | ld1CClrAcqR1R3R2 |
    ld1CClrAcqR1R3Imm9 | ld2CClrAcqR1R3 | ld2CClrAcqR1R3R2 | ld2CClrAcqR1R3Imm9 | ld4CClrAcqR1R3 | ld4CClrAcqR1R3R2 |
    ld4CClrAcqR1R3Imm9 | ld8CClrAcqR1R3 | ld8CClrAcqR1R3R2 | ld8CClrAcqR1R3Imm9 => exact .intLoad
  | ld8FillR1R3 | ld8FillR1R3R2 | ld8FillR1R3Imm9 => exact .intFill
  | st1R3R2 | st1R3R2Imm9 | st2R3R2 | st2R3R2Imm9 | st4R3R2 | st4R3R2Imm9 | st8R3R2 | st8R3R2Imm9 | st1RelR3R2 |
    st1RelR3R2Imm9 | st2RelR3R2 | st2RelR3R2Imm9 | st4RelR3R2 | st4RelR3R2Imm9 | st8RelR3R2 | st8RelR3R2Imm9 => exact
    .intStore
  | st8SpillR3R2 | st8SpillR3R2Imm9 => exact .intSpill
  | ldfeF1R3 | ldfeF1R3R2 | ldfeF1R3Imm9 | ldf8F1R3 | ldf8F1R3R2 | ldf8F1R3Imm9 | ldfsF1R3 | ldfsF1R3R2 | ldfsF1R3Imm9 |
    ldfdF1R3 | ldfdF1R3R2 | ldfdF1R3Imm9 | ldfeSF1R3 | ldfeSF1R3R2 | ldfeSF1R3Imm9 | ldf8SF1R3 | ldf8SF1R3R2 | ldf8SF1R3Imm9 |
    ldfsSF1R3 | ldfsSF1R3R2 | ldfsSF1R3Imm9 | ldfdSF1R3 | ldfdSF1R3R2 | ldfdSF1R3Imm9 | ldfeAF1R3 | ldfeAF1R3R2 |
    ldfeAF1R3Imm9 | ldf8AF1R3 | ldf8AF1R3R2 | ldf8AF1R3Imm9 | ldfsAF1R3 | ldfsAF1R3R2 | ldfsAF1R3Imm9 | ldfdAF1R3 |
    ldfdAF1R3R2 | ldfdAF1R3Imm9 | ldfeSaF1R3 | ldfeSaF1R3R2 | ldfeSaF1R3Imm9 | ldf8SaF1R3 | ldf8SaF1R3R2 | ldf8SaF1R3Imm9 |
    ldfsSaF1R3 | ldfsSaF1R3R2 | ldfsSaF1R3Imm9 | ldfdSaF1R3 | ldfdSaF1R3R2 | ldfdSaF1R3Imm9 | ldfeCClrF1R3 | ldfeCClrF1R3R2 |
    ldfeCClrF1R3Imm9 | ldf8CClrF1R3 | ldf8CClrF1R3R2 | ldf8CClrF1R3Imm9 | ldfsCClrF1R3 | ldfsCClrF1R3R2 | ldfsCClrF1R3Imm9 |
    ldfdCClrF1R3 | ldfdCClrF1R3R2 | ldfdCClrF1R3Imm9 | ldfeCNcF1R3 | ldfeCNcF1R3R2 | ldfeCNcF1R3Imm9 | ldf8CNcF1R3 |
    ldf8CNcF1R3R2 | ldf8CNcF1R3Imm9 | ldfsCNcF1R3 | ldfsCNcF1R3R2 | ldfsCNcF1R3Imm9 | ldfdCNcF1R3 | ldfdCNcF1R3R2 |
    ldfdCNcF1R3Imm9 | ldfFillF1R3 | ldfFillF1R3R2 | ldfFillF1R3Imm9 => exact .fpLoad
  | stfeR3F2 | stfeR3F2Imm9 | stf8R3F2 | stf8R3F2Imm9 | stfsR3F2 | stfsR3F2Imm9 | stfdR3F2 | stfdR3F2Imm9 | stfSpillR3F2 |
    stfSpillR3F2Imm9 => exact .fpStore
  | ldfpsF1F2R3 | ldfpsF1F2R38 | ldfpsSF1F2R3 | ldfpsSF1F2R38 | ldfpsAF1F2R3 | ldfpsAF1F2R38 | ldfpsSaF1F2R3 | ldfpsSaF1F2R38
    | ldfpsCClrF1F2R3 | ldfpsCClrF1F2R38 | ldfpsCNcF1F2R3 | ldfpsCNcF1F2R38 | ldfpdF1F2R3 | ldfpdF1F2R316 | ldfpdSF1F2R3 |
    ldfpdSF1F2R316 | ldfpdAF1F2R3 | ldfpdAF1F2R316 | ldfpdSaF1F2R3 | ldfpdSaF1F2R316 | ldfpdCClrF1F2R3 | ldfpdCClrF1F2R316 |
    ldfpdCNcF1F2R3 | ldfpdCNcF1F2R316 | ldfp8F1F2R3 | ldfp8F1F2R316 | ldfp8SF1F2R3 | ldfp8SF1F2R316 | ldfp8AF1F2R3 |
    ldfp8AF1F2R316 | ldfp8SaF1F2R3 | ldfp8SaF1F2R316 | ldfp8CClrF1F2R3 | ldfp8CClrF1F2R316 | ldfp8CNcF1F2R3 | ldfp8CNcF1F2R316
    => exact .fpLoadPair
  | lfetchR3 | lfetchR3R2 | lfetchR3Imm9 | lfetchExclR3 | lfetchExclR3R2 | lfetchExclR3Imm9 => exact .lfetchPlain
  | lfetchFaultR3 | lfetchFaultR3R2 | lfetchFaultR3Imm9 | lfetchFaultExclR3 | lfetchFaultExclR3R2 | lfetchFaultExclR3Imm9 =>
    exact .lfetchFault
  | cmpxchg1AcqR1R3R2ArCcv | cmpxchg1RelR1R3R2ArCcv | cmpxchg2AcqR1R3R2ArCcv | cmpxchg2RelR1R3R2ArCcv | cmpxchg4AcqR1R3R2ArCcv
    | cmpxchg4RelR1R3R2ArCcv | cmpxchg8AcqR1R3R2ArCcv | cmpxchg8RelR1R3R2ArCcv => exact .cmpxchg
  | xchg1R1R3R2 | xchg2R1R3R2 | xchg4R1R3R2 | xchg8R1R3R2 => exact .xchg
  | fetchadd4AcqR1R3Inc3 | fetchadd4RelR1R3Inc3 | fetchadd8AcqR1R3Inc3 | fetchadd8RelR1R3Inc3 => exact .fetchadd
  | setfSigF1R2 | setfExpF1R2 | setfSF1R2 | setfDF1R2 => exact .setfBody
  | getfSigR1F2 | getfExpR1F2 | getfSR1F2 | getfDR1F2 => exact .getfBody
  | chkSF2Target25 => exact .chkSFp
  | chkAClrR1Target25 | chkANcR1Target25 => exact .chkAGr
  | chkAClrF1Target25 | chkANcF1Target25 => exact .chkAFr
  | invalaER1 | invalaEF1 => exact .invalaE
  | allocR1ArPfsILOR => exact .allocBody
  | flushrs => exact .flushrsBody
  | loadrs => exact .loadrsBody
  | fcR3 => exact .fcInstr
  | ptcER3 => exact .ptcE
  | ptcLR3R2 | ptcGR3R2 | ptcGaR3R2 | ptrDR3R2 | ptrIR3R2 => exact .purgeInstr
  | mf | fwb => exact .fenceInstr
  | mfA => exact .acceptInstr
  | syncI => exact .syncI
  | srlzD => exact .srlzD
  | srlzI => exact .srlzI
  | movCr3R2 => exact .movToCr
  | movR1Cr3 => exact .movFromCr
  | movPsrLR2 => exact .movToPsrL
  | movPsrUmR2 => exact .movToPsrUm
  | movR1Psr => exact .movFromPsr
  | movR1PsrUm => exact .movFromPsrUm
  | sumImm24 | rumImm24 => exact .userMask
  | ssmImm24 | rsmImm24 => exact .systemMask
  | movPmcR3R2 | movPmdR3R2 | movRrR3R2 | movPkrR3R2 | movIbrR3R2 | movDbrR3R2 => exact .movToInd
  | movR1PmcR3 | movR1PmdR3 | movR1RrR3 | movR1PkrR3 | movR1IbrR3 | movR1DbrR3 | movR1CpuidR3 => exact .movFromInd
  | itcDR2 | itcIR2 => exact .itcInstr
  | itrDDtrR3R2 | itrIItrR3R2 => exact .itrInstr
  | probeRR1R3R2 | probeRR1R3Imm2 | probeWR1R3R2 | probeWR1R3Imm2 => exact .probeInstr
  | probeRFaultR3Imm2 | probeWFaultR3Imm2 | probeRwFaultR3Imm2 => exact .probeFault
  | tpaR1R3 => exact .tpaInstr
  | takR1R3 => exact .takInstr
  | thashR1R3 | ttagR1R3 => exact .hashInstr
  | fmaSfF1F3F4F2 | fmaSSfF1F3F4F2 | fmaDSfF1F3F4F2 | fmsSfF1F3F4F2 | fmsSSfF1F3F4F2 | fmsDSfF1F3F4F2 | fnmaSfF1F3F4F2 |
    fnmaSSfF1F3F4F2 | fnmaDSfF1F3F4F2 | fpmaSfF1F3F4F2 | fpmsSfF1F3F4F2 | fpnmaSfF1F3F4F2 | fminSfF1F2F3 | fmaxSfF1F2F3 |
    faminSfF1F2F3 | famaxSfF1F2F3 | fpminSfF1F2F3 | fpmaxSfF1F2F3 | fpaminSfF1F2F3 | fpamaxSfF1F2F3 | fpcmpFrelSfF1F2F3 |
    fcvtFxSfF1F2 | fcvtFxuSfF1F2 | fcvtFxTruncSfF1F2 | fcvtFxuTruncSfF1F2 | fpcvtFxSfF1F2 | fpcvtFxuSfF1F2 |
    fpcvtFxTruncSfF1F2 | fpcvtFxuTruncSfF1F2 => exact .fpArith
  | xmaLF1F3F4F2 | xmaHuF1F3F4F2 | xmaHF1F3F4F2 | fselectF1F3F4F2 | fcvtXfF1F2 | fmergeSF1F2F3 | fmergeNsF1F2F3 |
    fmergeSeF1F2F3 | fandF1F2F3 | fandcmF1F2F3 | forF1F2F3 | fxorF1F2F3 | fmixLF1F2F3 | fmixRF1F2F3 | fmixLrF1F2F3 |
    fsxtLF1F2F3 | fsxtRF1F2F3 | fpackF1F2F3 | fswapF1F2F3 | fswapNlF1F2F3 | fswapNrF1F2F3 | fpmergeSF1F2F3 | fpmergeNsF1F2F3 |
    fpmergeSeF1F2F3 => exact .fpMove
  | fcmpEqSfP1P2F2F3 | fcmpEqUncSfP1P2F2F3 | fcmpLtSfP1P2F2F3 | fcmpLtUncSfP1P2F2F3 | fcmpLeSfP1P2F2F3 | fcmpLeUncSfP1P2F2F3 |
    fcmpUnordSfP1P2F2F3 | fcmpUnordUncSfP1P2F2F3 => exact .fcmpBody
  | fclassMP1P2F2Fclass9 | fclassMUncP1P2F2Fclass9 => exact .fclassBody
  | frcpaSfF1P2F2F3 | fprcpaSfF1P2F2F3 | frsqrtaSfF1P2F3 | fprsqrtaSfF1P2F3 => exact .fpApproxInstr
  | fsetcSfAmask7Omask7 => exact .fsetcInstr
  | fclrfSf => exact .fclrfInstr
  | fchkfSfTarget25 => exact .fchkfInstr
  | brCondBwhPhDhTarget25 | brCondBwhPhDhB2 | brlCondBwhPhDhTarget64 => exact .brCond
  | brWexitBwhPhDhTarget25 | brWtopBwhPhDhTarget25 => exact .brWhile
  | brCloopBwhPhDhTarget25 => exact .brCloop
  | brCexitBwhPhDhTarget25 | brCtopBwhPhDhTarget25 => exact .brCounted
  | brCallBwhPhDhB1Target25 | brCallBwhPhDhB1B2 | brlCallBwhPhDhB1Target64 => exact .brCall
  | brIaBwhPhDhB2 => exact .brIa
  | brRetBwhPhDhB2 => exact .brRet
  | brpIpwhIhTarget25Tag13 | brpIndwhIhB2Tag13 => exact .brpInstr
  | cover => exact .coverInstr
  | clrrrb | clrrrbPr => exact .clrrrbInstr
  | rfi => exact .rfiInstr
  | bsw0 | bsw1 => exact .bswInstr
  | epc => exact .epcInstr
  | breakBImm21 => exact .breakB
  | nopBImm21 => exact .nopB

section Steps

variable {P : State → Prop} (h : Stable P) {s u : State}

include h

/-- What the elementary updates keep, every shared operation keeps. -/
theorem Stable.shared {o : Host.Outcome State Fault Refusal} (hs : P s) (ho : Shared s o) : Ends P o := by
  have grWrite (r v k) : (s.setGr r v k).parts = s.parts := s.setGr_parts r v k
  have frWrite (f v k) : (s.setFr f v k).parts = s.parts := s.setFr_parts f v k
  cases ho with
  | grOp2 => exact h.runQuiet hs (.andThen fun _ => .andThen fun _ => .ok (grWrite _ _ _))
  | grOp1 => exact h.runQuiet hs (.andThen fun _ => .ok (grWrite _ _ _))
  | grOp0 => exact h.runQuiet hs (.ok (grWrite _ _ _))
  | mux1 =>
    unfold mux1
    split
    · exact h.finish hs .error
    · exact h.runQuiet hs (.andThen fun _ => .ok (grWrite _ _ _))
  | cmpRegs => exact h.compareQuiet hs (.andThen fun _ => .map fun _ _ => rfl)
  | cmpImm | cmpZero | testBit | testNat => exact h.compareQuiet hs (.map fun _ _ => rfl)
  | fclassBody => exact h.compareQuiet hs (.map fun _ _ => rfl)
  | fcmpBody => exact h.fcmpBody hs
  | breakInstr => exact h.run hs .error
  | nopInstr => exact h.runQuiet hs (.ok rfl)
  | chkS => exact h.run hs (.andThen fun _ => .ite (fun _ => h.checkFail hs) fun _ => .ok hs)
  | chkSFp => exact h.run hs (.andThen fun _ => .ite (fun _ => h.checkFail hs) fun _ => .ok hs)
  | chkAGr | chkAFr => exact h.run hs (.andThen fun _ => h.chkA hs)
  | fchkfInstr => exact h.run hs (.ite (fun _ => h.checkFail hs) fun _ => .ok hs)
  | invalaE => exact h.run hs (.andThen fun _ => .ok (h.alatInvalidate _ hs))
  | invala => exact h.run hs (.ok (h.quiet (by rfl) (h.alatClear hs)))
  | movToBr => exact h.runQuiet hs (.andThen fun _ => .ok (s.setBr_parts _ _))
  | movPrR2Mask17 => exact h.runQuiet hs (.andThen fun _ => .ok (s.setPrMask_parts _ _ _ _))
  | movPrRotImm44 => exact h.runQuiet hs (.ok (s.setPrMask_parts _ _ _ _))
  | movToArReg | movToArImm => exact h.run hs (h.moveToAr hs)
  | movFromAr => exact h.runQuiet hs (.andThen fun _ => .ok (grWrite _ _ _))
  | movlR1Imm64 => exact h.runLong hs (.ok (h.quiet (grWrite _ _ _) hs))
  | breakXImm62 => exact h.runLong hs .error
  | nopXImm62 => exact h.runLong hs (.ok hs)
  | intLoad => exact h.runLoad hs (h.loadBody (fun t p ht => by cases p <;> exact h.setGr _ _ _ ht) hs)
  | intFill =>
    refine h.runLoad hs (h.loadBody (fun t p ht => ?_) hs)
    cases p with
    | none => exact ht
    | some pa => exact h.setGr _ _ _ ht
  | fpLoad =>
    exact h.runLoad hs (.andThen fun _ => h.loadBody (fun t p ht => by cases p <;> exact h.setFr _ _ _ ht) hs)
  | fpLoadPair =>
    exact h.runLoad hs (.andThen fun _ => h.loadBody
      (fun t p ht => by cases p <;> exact h.setFr _ _ _ (h.setFr _ _ _ ht)) hs)
  | intStore => exact h.run hs (.andThen fun _ => h.storeBody (fun _ => id) hs)
  | intSpill =>
    exact h.run hs (.andThen fun _ => h.storeBody (fun t => h.quiet (t.setUnatBit_parts _ _)) hs)
  | fpStore => exact h.run hs (.andThen fun _ => h.storeBody (fun _ => id) hs)
  | lfetchPlain => exact h.lfetchPlain hs
  | lfetchFault => exact h.lfetchFault hs
  | cmpxchg | xchg => exact h.run hs (.andThen fun _ => h.semBody hs)
  | fetchadd => exact h.run hs (h.semBody hs)
  | setfBody => exact h.runQuiet hs (.andThen fun _ => .andThen fun _ => .andThen fun _ => .ok (frWrite _ _ _))
  | getfBody => exact h.runQuiet hs (.andThen fun _ => .ok (grWrite _ _ _))
  | allocBody => exact h.allocBody hs
  | flushrsBody => exact h.flushrsBody hs
  | loadrsBody => exact h.loadrsBody hs
  | fcInstr => exact h.fcInstr hs
  | ptcE => exact h.run hs (.andThen fun _ => .andThen fun _ => .andThen fun _ => .ok (h.purgeAll hs))
  | purgeInstr =>
    exact h.run hs (.andThen fun _ => .andThen fun _ => .andThen fun _ => .andThen fun _ => .ok (h.purge _ _ _ _ hs))
  | fenceInstr => exact h.run hs (.ok (h.wcbFlush hs))
  | acceptInstr =>
    refine h.run hs (.ok ?_)
    dsimp only
    split
    · exact h.wcbFlush hs
    · exact hs
  | syncI | srlzD | srlzI => exact h.runQuiet hs (.ok rfl)
  | movToCr =>
    exact h.runQuiet hs (.andThen fun _ => .andThen fun _ => .andThen fun _ => .andThen fun _ => .andThen fun _ =>
      .ok (s.writeCr_parts _ _))
  | movFromCr =>
    exact h.runQuiet hs (.andThen fun _ => .andThen fun _ => .ok ((State.setGr_parts _ _ _ _).trans (s.readCr_parts _)))
  | movToPsrL => exact h.runQuiet hs (.andThen fun _ => .andThen fun _ => .andThen fun _ => .andThen fun _ => .ok rfl)
  | movToPsrUm => exact h.runQuiet hs (.andThen fun _ => .andThen fun _ => .ok rfl)
  | movFromPsr => exact h.runQuiet hs (.andThen fun _ => .ok (grWrite _ _ _))
  | movFromPsrUm => exact h.runQuiet hs (.ok (grWrite _ _ _))
  | userMask => exact h.runQuiet hs (.andThen fun _ => .ok rfl)
  | systemMask => exact h.runQuiet hs (.andThen fun _ => .andThen fun _ => .ok rfl)
  | movToInd =>
    exact h.runQuiet hs (.andThen fun _ => .andThen fun _ => .andThen fun _ => .andThen fun _ => .andThen fun _ => .andThen fun _ =>
      .ok (s.writeInd_parts _ _ _))
  | movFromInd =>
    exact h.runQuiet hs (.andThen fun _ => .andThen fun _ => .andThen fun _ => .andThen fun _ => .ok (grWrite _ _ _))
  | itcInstr => exact h.itcInstr hs
  | itrInstr => exact h.itrInstr hs
  | probeInstr =>
    exact h.runQuiet hs (.andThen fun _ => .andThen fun _ => .andThen fun _ => .ite (fun _ => .error) fun _ => .andThen fun _ =>
      .ok (grWrite _ _ _))
  | probeFault =>
    refine h.runQuiet hs (.andThen fun _ => .ite (fun _ => .error) fun _ => ?_)
    split
    · exact .ok rfl
    · exact .error
  | tpaInstr =>
    exact h.runQuiet hs (.andThen fun _ => .andThen fun _ => .ite (fun _ => .error) fun _ => .andThen fun _ =>
      .ite (fun _ => .error) fun _ => .ite (fun _ => .error) fun _ => .ok (grWrite _ _ _))
  | takInstr =>
    exact h.runQuiet hs (.andThen fun _ => .andThen fun _ => .ite (fun _ => .error) fun _ => .map fun _ _ => grWrite _ _ _)
  | hashInstr => exact h.runQuiet hs (.andThen fun _ => .ok (grWrite _ _ _))
  | fpArith => exact h.fpArith hs
  | fpMove => exact h.runQuiet hs (.andThen fun _ => .ok (frWrite _ _ _))
  | fpApproxInstr => exact h.fpApproxInstr hs
  | fsetcInstr => exact h.runQuiet hs (.andThen fun _ => .ok rfl)
  | fclrfInstr => exact h.runQuiet hs (.ok rfl)
  | brCond => exact h.branchEnds hs (h.emit _ hs)
  | brWhile => exact h.finish hs (.andThen fun _ => .ok (h.emit _ (h.whileLoop _ hs)))
  | brCloop => exact h.brCloop hs
  | brCounted => exact h.finish hs (.andThen fun _ => .ok (h.emit _ (h.countedLoop hs)))
  | brCall => exact h.brCall hs
  | brIa => exact h.finish hs .error
  | brRet => exact h.brRet hs
  | brpInstr => exact h.finish hs (.ok hs)
  | coverInstr => exact h.coverInstr hs
  | clrrrbInstr => exact h.clrrrbInstr _ hs
  | rfiInstr => exact h.rfiInstr hs
  | bswInstr => exact h.finish hs (.andThen fun _ => .ok (h.quiet (by rfl) hs))
  | epcInstr => exact h.epcInstr hs
  | breakB => exact h.runBranch hs .error hs
  | nopB => exact h.runBranch hs (.ok (h.emit _ hs)) hs

/-- What the elementary updates keep, every instruction keeps. -/
theorem Stable.exec (i : Instr) (hs : P s) : Ends P (exec i s) := h.shared hs (exec_shared i s)

/-! ### Steps -/

theorem Stable.tick (ty : SlotType) (w : BitVec 41) (hu : P u) : P (s.tick u ty w) := h.quiet (s.tick_parts u ty w) hu

/-- What the TLBs do on their own before an instruction (R160, R867). -/
theorem Stable.tlbFree (hs : P s) : P s.tlbFree := by
  refine State.tlbFree_keeps P (fun s site hs => ?_) (fun s va hs => ?_) s hs
  · obtain ⟨t, hu, ht⟩ := s.walkInsert_cases site
    have walked : P t := by
      rcases ht with ⟨_, rfl⟩ | ⟨instr, va, e, _, -, hf, hr, rfl⟩
      · exact h.quiet (s := s) (by rfl) hs
      · exact h.quiet (s := s.insertTc instr e) (by rfl) (h.insertTc instr (walkFinds_makes hf) hr hs)
    rcases hu with hu | ⟨va, hu⟩ <;> rw [hu]
    · exact walked
    · exact h.l1dUse va walked
  · unfold State.l1dTransfer
    split
    · exact h.emit _ (h.l1dUse va hs)
    · exact hs

theorem Stable.interrupted (i : Intr) (hs : P s) : Ends P (s.interrupted i) := .next (h.tick _ _ (h.interrupt i _ hs))

theorem Stable.afterExec {o : Host.Outcome State Fault Refusal} (ho : Ends P o) : Ends P (s.afterExec ty w stop o) := by
  cases o with
  | next v =>
    refine Ends.next (h.tick _ _ ?_)
    split
    · exact h.quiet (s := v) (by rfl) (ho v rfl)
    · exact ho v rfl
  | fault f => exact Ends.fault
  | refused f => exact Ends.refused

theorem Stable.runBundle (b : BitVec 128) (hs : P s) : Ends P (s.runBundle b) := by
  unfold State.runBundle
  split
  · exact h.interrupted _ hs
  · split
    · exact .refused
    · exact h.afterExec (h.exec _ hs)

theorem Stable.fetchRun (hs : P s) : Ends P s.fetchRun := by
  unfold State.fetchRun
  split
  · exact h.interrupted _ hs
  · exact .fault
  · exact .refused
  · exact h.runBundle _ (h.l1Fill hs)

/-- What the elementary updates keep, every step keeps. -/
theorem Stable.step (hs : P s) : Ends P (step s) := by
  have free : P s.wcbFreeEvict.tlbFree := h.tlbFree (h.wcbFreeEvict hs)
  unfold Machine.step State.cycle
  split
  · exact .refused
  · split
    · exact .refused
    · dsimp only
      split
      · exact h.interrupted _ free
      · exact h.fetchRun free

end Steps

end Sys2Proof.Machine

end

section
/-! SUPPORT. What memory, buffer and TLB updates leave alone, and that every step keeps IP aligned and the buffers within their sizes. -/

namespace Sys2Proof.Machine

/-! ### Memory writes -/

/-- `t` differs from `s` in memory and the write-coalescing buffer at most. -/
def State.MemoryOnly (s t : State) : Prop := t = { s with mem := t.mem, stale := t.stale, wcb := t.wcb }

section Memory

variable {s t u : State}

theorem State.MemoryOnly.refl (s : State) : s.MemoryOnly s := rfl

theorem State.MemoryOnly.trans (h : s.MemoryOnly t) (g : t.MemoryOnly u) : s.MemoryOnly u := by
  unfold State.MemoryOnly at *
  rw [h] at g
  exact g

theorem State.foldl_memWrite_memoryOnly (l : List (Nat × List Byte)) (base : Nat) (s : State) :
    s.MemoryOnly (l.foldl (fun t c => t.memWrite (base + c.1) c.2) s) := by
  induction l generalizing s with
  | nil => exact .refl s
  | cons c l ih => exact (show s.MemoryOnly (s.memWrite _ _) from rfl).trans (ih _)

theorem State.wcbWriteBack_memoryOnly (s : State) (e : WcbEntry) : s.MemoryOnly (s.wcbWriteBack e) :=
  State.foldl_memWrite_memoryOnly _ _ s

theorem State.foldl_wcbWriteBack_memoryOnly (l : List WcbEntry) (s : State) : s.MemoryOnly (l.foldl State.wcbWriteBack s) := by
  induction l generalizing s with
  | nil => exact .refl s
  | cons e l ih => exact (s.wcbWriteBack_memoryOnly e).trans (ih _)

/-- The buffer itself is no more than memory to this relation. -/
theorem State.MemoryOnly.withWcb (h : s.MemoryOnly t) (l : List WcbEntry) : s.MemoryOnly { t with wcb := l } :=
  h.trans rfl

theorem State.wcbFlush_memoryOnly (s : State) : s.MemoryOnly s.wcbFlush :=
  (State.foldl_wcbWriteBack_memoryOnly _ s).withWcb _

theorem State.wcbSettle_memoryOnly (s : State) : s.MemoryOnly s.wcbSettle :=
  (State.foldl_wcbWriteBack_memoryOnly _ s).withWcb _

theorem State.wcStore_memoryOnly (s : State) (a : Nat) (bs : List Byte) : s.MemoryOnly (s.wcStore a bs) := by
  unfold State.wcStore
  dsimp only
  split
  · exact ((State.MemoryOnly.refl s).withWcb _).trans (State.wcbSettle_memoryOnly _)
  · refine (State.MemoryOnly.withWcb ?_ _).trans (State.wcbSettle_memoryOnly _)
    split
    · exact (s.wcbWriteBack_memoryOnly _).withWcb _
    · exact .refl s

theorem State.wcbFreeEvict_memoryOnly (s : State) : s.MemoryOnly s.wcbFreeEvict := by
  have evict (c : Bool) (t : State) (e : WcbEntry) (l : List WcbEntry) :
      t.MemoryOnly (if c then { t.wcbWriteBack e with wcb := l } else t) := by
    split
    · exact (t.wcbWriteBack_memoryOnly e).withWcb l
    · exact .refl t
  unfold State.wcbFreeEvict
  split
  · exact .refl s
  · exact evict _ s _ _
  · exact (evict _ s _ _).trans (evict _ _ _ _)

/-- A store before it snoops the ALAT (R388). -/
theorem State.written_memoryOnly (s : State) (pa : Nat) (ma : MemAttr) (bs : List Byte) :
    s.MemoryOnly (if ma = .wc then s.wcStore pa bs else s.memWrite pa bs) := by
  split
  · exact s.wcStore_memoryOnly pa bs
  · rfl

end Memory

/-! ### Storage updates -/

/-- `t` differs from `s` in memory, the buffers, the TLBs and the monitors' events at most. -/
def State.StorageOnly (s t : State) : Prop :=
  t = { s with mem := t.mem, stale := t.stale, wcb := t.wcb, alat := t.alat, itr := t.itr, dtr := t.dtr, itcache := t.itcache,
               dtcache := t.dtcache, l1itlb := t.l1itlb, l1dtlb := t.l1dtlb, events := t.events }

section Storage

variable {s t u : State}

theorem State.StorageOnly.refl (s : State) : s.StorageOnly s := rfl

theorem State.StorageOnly.trans (h : s.StorageOnly t) (g : t.StorageOnly u) : s.StorageOnly u := by
  unfold State.StorageOnly at *
  rw [h] at g
  exact g

theorem State.MemoryOnly.storageOnly (h : s.MemoryOnly t) : s.StorageOnly t := by
  unfold State.StorageOnly
  rw [h]

theorem State.StorageOnly.ip_eq (h : s.StorageOnly t) : t.ip = s.ip := by rw [h]

theorem State.StorageOnly.stack_eq (h : s.StorageOnly t) : t.stack = s.stack := by
  rw [h]
  rfl

theorem State.storePhys_storageOnly (s : State) (pa : Nat) (ma : MemAttr) (bs : List Byte) :
    s.StorageOnly (s.storePhys pa ma bs) :=
  (s.written_memoryOnly pa ma bs).storageOnly.trans rfl

/-- A new entry goes into a free place of the ALAT, or any other entry makes room (R91). -/
theorem State.alatPut_cases (s : State) (e : AlatEntry) :
    ∃ l, s.alatPut e = { s with alat := l } ∧ (s.alat.length ≤ 32 → l.length ≤ 32) := by
  have others : (s.alat.filter fun f => f.reg ≠ e.reg).length ≤ s.alat.length := List.length_filter_le _ _
  have size : Config.alatSize = 32 := rfl
  unfold State.alatPut
  dsimp only
  generalize (s.alat.filter fun f => f.reg ≠ e.reg) = l at *
  split
  · exact ⟨_, rfl, fun _ => by rw [List.length_cons]; omega⟩
  · have below : Config.freeBelow s.freeCtr 5000 l.length < l.length := Nat.mod_lt _ (by omega)
    refine ⟨_, rfl, fun _ => ?_⟩
    rw [List.length_cons, List.length_eraseIdx_of_lt below]
    omega

theorem State.alatPut_storageOnly (s : State) (e : AlatEntry) : s.StorageOnly (s.alatPut e) := by
  obtain ⟨l, hl, -⟩ := s.alatPut_cases e
  rw [hl]
  rfl

theorem State.l1Fill_storageOnly (s : State) : s.StorageOnly s.l1Fill := by
  obtain ⟨l, evs, hl, -⟩ := l1Fill_cases s
  rw [hl]
  rfl

theorem State.purge_storageOnly (s : State) (k : PurgeKind) (rid : BitVec 24) (off : BitVec 61) (ps : BitVec 6) :
    s.StorageOnly (s.purge k rid off ps) := by
  have both : s.StorageOnly ((s.purgeItc rid off ps).purgeDtc rid off ps) := rfl
  cases k
  case ptcG | ptcGa => exact both.trans (State.wcbFlush_memoryOnly _).storageOnly
  all_goals rfl

theorem State.insertTc_storageOnly (s : State) (instr : Bool) (e : TlbEntry) : s.StorageOnly (s.insertTc instr e) := by
  cases instr <;> rfl

theorem State.insertReg_storageOnly (s : State) (instr : Bool) (i : Nat) (e : TlbEntry) :
    s.StorageOnly (s.insertReg instr i e) := by
  cases instr <;> rfl

end Storage

/-- A predicate that storage does not matter to survives the elementary updates if it survives those of control. -/
theorem Elementary.of_storageOnly {P : State → Prop} (quiet : ∀ {s t : State}, t.parts = s.parts → P s → P t)
    (keeps : ∀ {s t : State}, s.StorageOnly t → P s → P t)
    (interrupt : ∀ {s : State} (i : Intr) (ei : BitVec 2), P s → P (s.takeInterruption i ei))
    (retire : ∀ {r : Res} (s : State), P r.s → P (Machine.retire s r)) (restore : ∀ {s : State}, P s → P s.restoreContext) :
    Elementary P where
  quiet := quiet
  interrupt := interrupt
  retire := retire
  restore := restore
  storePhys pa ma bs := keeps (State.storePhys_storageOnly _ pa ma bs)
  wcbFlush := keeps (State.wcbFlush_memoryOnly _).storageOnly
  wcbFreeEvict := keeps (State.wcbFreeEvict_memoryOnly _).storageOnly
  alatRemove _ := keeps rfl
  alatClear := keeps rfl
  alatSnoop _ _ := keeps rfl
  alatPut e := keeps (State.alatPut_storageOnly _ e)
  touch _ := keeps rfl
  l1dUse _ := keeps rfl
  l1Fill := keeps (State.l1Fill_storageOnly _)
  purge k rid off ps := keeps (State.purge_storageOnly _ k rid off ps)
  purgeAll := keeps rfl
  insertTc instr e _ _ := keeps (State.insertTc_storageOnly _ instr e)
  insertReg instr i e _ _ _ := keeps (State.insertReg_storageOnly _ instr i e)

/-! ### What the register stack engine does to storage -/

/-- Registers of the stack are no part of storage. -/
theorem State.expose_storage (s : State) (lo k : Nat) : (s.expose lo k).storage = s.storage := by
  induction k generalizing s with
  | zero => rfl
  | succ k ih => exact ih _

/-- A predicate of storage alone that survives the elementary updates. -/
structure OfStorage (P : State → Prop) : Prop extends Elementary P where
  storage {s t : State} : t.storage = s.storage → P s → P t

section RegisterStack

variable {P : State → Prop} (h : OfStorage P) {s t : State}

include h

theorem OfStorage.rseStore (hs : P s) : Gives (s.rseStore va v) P :=
  .map fun p _ => h.noteStore _ p.2 (h.storePhys _ _ _ hs)

theorem OfStorage.rseLoad (hs : P s) : Gives (s.rseLoad va ir) fun p => P p.2 := .map fun p _ => h.noteLoad _ p.2 hs

theorem OfStorage.spillRnat (hs : P s) : Gives s.spillRnat P :=
  .ite (fun _ => .map fun _ ht => h.storage (by rfl) (h.rseStore hs _ ht)) fun _ => .ok hs

theorem OfStorage.spillOne (hs : P s) : Gives s.spillOne P :=
  .bind fun _ ht => .bind fun _ hu => h.spillRnat (h.storage (by rfl) (h.rseStore (h.spillRnat hs _ ht) _ hu))

theorem OfStorage.spill (k : Nat) (hs : P s) : Gives (s.spill k) P := by
  induction k generalizing s with
  | zero => exact .ok hs
  | succ k ih => exact .bind fun _ ht => ih (h.spillOne hs _ ht)

theorem OfStorage.fillOne (ir : Bool) (hs : P s) : Gives (s.fillOne ir) P := by
  refine .bind fun t ht => .ite (fun _ => ?_) fun _ => ?_
  all_goals
    have crossed : P t :=
      Gives.ite (fun _ => .map fun _ hp => h.storage (by rfl) (h.rseLoad hs _ hp)) (fun _ => .ok hs) t ht
  · exact .ok (h.storage (by rfl) crossed)
  · exact .map fun _ hp => h.storage (by rfl) (h.rseLoad crossed _ hp)

theorem OfStorage.fill (ir : Bool) (k : Nat) (hs : P s) : Gives (s.fill ir k) P := by
  induction k generalizing s with
  | zero => exact .ok hs
  | succ k ih => exact .bind fun _ ht => ih (h.fillOne ir hs _ ht)

theorem OfStorage.loadSlot (hs : P s) : Gives s.loadSlot P := by
  refine .map fun p hp => ?_
  have loaded : P p.2 := h.rseLoad hs p hp
  dsimp only
  split <;> exact h.storage (by rfl) loaded

theorem OfStorage.loadSlots (k : Nat) (hs : P s) : Gives (s.loadSlots k) P := by
  induction k generalizing s with
  | zero => exact .ok hs
  | succ k ih => exact .bind fun _ ht => ih (h.loadSlot hs _ ht)

theorem OfStorage.growFrame (base sof : Nat) (hs : P s) : Gives (s.growFrame base sof) P :=
  .map fun _ ht => h.storage (State.expose_storage _ _ _) (h.storage (by rfl) (h.spill _ hs _ ht))

theorem OfStorage.popFrame (c : BitVec 38) (n : Nat) (hs : P s) : Gives (s.popFrame c n) P :=
  .ite (fun _ => .ok (h.storage (by rfl) hs)) fun _ =>
    .map fun _ ht => h.storage (State.expose_storage _ _ _) (h.storage (by rfl) (h.fill _ _ hs _ ht))

theorem OfStorage.spillAll (hs : P s) : Gives s.spillAll P :=
  .bind fun _ ht => .ite (fun _ => .ok (h.spill _ hs _ ht)) fun _ => h.spillRnat (h.spill _ hs _ ht)

/-- The register stack engine changes storage by stores and loads only. -/
theorem OfStorage.stable : Stable P where
  toElementary := h.toElementary
  frame {s t} hf hs := by
    cases hf with
    | rename | call | cover | bspstore => exact h.storage (s := s) (by rfl) hs
    | grow _ ht => exact h.storage (by rfl) (h.growFrame _ _ hs _ ht)
    | pop ht => exact h.popFrame _ _ hs _ ht
    | flush ht => exact h.spillAll hs _ ht
    | reload _ _ ht => exact h.storage (by rfl) (h.loadSlots _ (h.storage (s := s) (by rfl) hs) _ ht)

end RegisterStack

/-! ### IP stays the address of a bundle -/

theorem State.ipAligned_of_eq {s t : State} (h : t.ip = s.ip) (hs : s.IpAligned) : t.IpAligned := by
  unfold State.IpAligned
  rw [h]
  exact hs

/-- The vectors of the table are at bundle addresses (R565). -/
theorem IvtVector.offset_aligned (v : IvtVector) : v.offset.extractLsb' 0 4 = 0 := by cases v <;> rfl

theorem State.takeInterruption_ipAligned (s : State) (i : Intr) (ei : BitVec 2) : (s.takeInterruption i ei).IpAligned := by
  unfold State.IpAligned
  rw [State.takeInterruption_ip, BitVec.extractLsb'_append_eq_of_add_le (by decide)]
  exact i.vec.offset_aligned

/-- Clearing the low four bits gives a bundle address. -/
theorem bundleAddress_aligned (t : Word) : (t &&& ~~~ 0xF#64).extractLsb' 0 4 = 0 := by
  rw [BitVec.extractLsb'_and, BitVec.extractLsb'_not_of_lt (by decide)]
  exact BitVec.and_zero

/-- The low bits of an address are clear exactly when it is a multiple. -/
theorem extractLsb'_zero_iff (a : Word) (k : Nat) : a.extractLsb' 0 k = 0 ↔ a.toNat % 2 ^ k = 0 := by
  rw [← BitVec.toNat_inj]
  simp

/-- The next bundle is 16 bytes further on. -/
theorem nextBundle_aligned {a : Word} (h : a.extractLsb' 0 4 = 0) : (a + 16).extractLsb' 0 4 = 0 := by
  rw [extractLsb'_zero_iff] at *
  rw [BitVec.toNat_add]
  simp only [BitVec.reduceToNat]
  omega

theorem Res.moved_ipAligned {r : Res} (h : r.s.IpAligned) : r.moved.IpAligned := by
  unfold Res.moved
  cases r.target with
  | some t => exact bundleAddress_aligned t
  | none =>
    unfold State.IpAligned State.advance
    dsimp only
    split
    · exact nextBundle_aligned h
    · exact h

theorem retire_ipAligned {r : Res} (s : State) (h : r.s.IpAligned) : (retire s r).IpAligned := by
  unfold retire
  dsimp only
  split
  · exact r.moved_ipAligned h
  · exact State.takeInterruption_ipAligned _ _ _

theorem State.restoreContext_ipAligned (s : State) : s.restoreContext.IpAligned := by
  unfold State.restoreContext
  dsimp only
  split <;> exact bundleAddress_aligned s.cr.iip

theorem State.IpAligned.ofStorage : OfStorage State.IpAligned where
  toElementary := .of_storageOnly (fun h => State.ipAligned_of_eq (congrArg (·.2.ip) h)) (fun h => State.ipAligned_of_eq h.ip_eq)
    (fun i ei _ => State.takeInterruption_ipAligned _ i ei) (fun s h => retire_ipAligned s h)
    (fun _ => State.restoreContext_ipAligned _)
  storage h := State.ipAligned_of_eq (congrArg (·.ip) h)

/-! ### The buffers stay within their sizes -/

theorem State.buffersOk_of_storage {s t : State} (h : t.storage = s.storage) (hs : s.BuffersOk) : t.BuffersOk := by
  have halat : t.alat = s.alat := congrArg (·.alat) h
  have hwcb : t.wcb = s.wcb := congrArg (·.wcb) h
  have hi : t.l1itlb = s.l1itlb := congrArg (·.l1itlb) h
  have hd : t.l1dtlb = s.l1dtlb := congrArg (·.l1dtlb) h
  unfold State.BuffersOk
  rw [halat, hwcb, hi, hd]
  exact hs

/-- A memory update keeps the other buffers. -/
theorem State.MemoryOnly.buffersOk {s t : State} (h : s.MemoryOnly t) (hw : t.wcb.length ≤ 2) (hs : s.BuffersOk) : t.BuffersOk := by
  obtain ⟨halat, -, hi, hd⟩ := hs
  refine ⟨?_, hw, ?_, ?_⟩ <;> rw [h] <;> assumption

theorem State.wcbSettle_length_le (s : State) : s.wcbSettle.wcb.length ≤ s.wcb.length := List.length_filter_le _ _

/-- A store finds its line or a free place, or the oldest line makes room (R121). -/
theorem State.wcStore_length_le {s : State} (a : Nat) (bs : List Byte) (h : s.wcb.length ≤ 2) : (s.wcStore a bs).wcb.length ≤ 2 := by
  unfold State.wcStore
  dsimp only
  split
  · exact (State.wcbSettle_length_le _).trans (by simpa using h)
  · refine (State.wcbSettle_length_le _).trans ?_
    dsimp only
    rw [List.length_append, List.length_singleton]
    split
    · next heq => rw [heq] at h; simpa using h
    · next hne =>
      match hw : s.wcb, h with
      | [], _ => exact Nat.le_succ 1
      | [_], _ => exact le_rfl
      | e :: f :: l, _ => exact absurd hw (hne e f l)

/-- A free eviction never adds a line (R126). -/
theorem State.wcbFreeEvict_length_le (s : State) : s.wcbFreeEvict.wcb.length ≤ s.wcb.length := by
  unfold State.wcbFreeEvict
  split
  · exact le_rfl
  · split
    · exact Nat.zero_le _
    · exact le_rfl
  · next e f l heq =>
    have first : (if s.freeBool 5100 then { s.wcbWriteBack e with wcb := f :: l } else s).wcb.length ≤ s.wcb.length := by
      split
      · simp [heq]
      · exact le_rfl
    dsimp only
    split
    · exact (List.length_filter_le _ _).trans first
    · exact first

theorem State.storePhys_buffersOk {s : State} (pa : Nat) (ma : MemAttr) (bs : List Byte) (h : s.BuffersOk) :
    (s.storePhys pa ma bs).BuffersOk := by
  have hw : (if ma = .wc then s.wcStore pa bs else s.memWrite pa bs).wcb.length ≤ 2 := by
    split
    · exact s.wcStore_length_le pa bs h.2.1
    · exact h.2.1
  obtain ⟨halat, hwcb, hi, hd⟩ := (s.written_memoryOnly pa ma bs).buffersOk hw h
  exact ⟨(List.length_filter_le _ _).trans halat, hwcb, hi, hd⟩

theorem State.l1Fill_buffersOk {s : State} (h : s.BuffersOk) : s.l1Fill.BuffersOk := by
  obtain ⟨halat, hwcb, hi, hd⟩ := h
  obtain ⟨l, evs, hl, hle⟩ := l1Fill_cases s
  rw [hl]
  refine ⟨halat, hwcb, ?_, hd⟩
  rcases hle with rfl | hle
  · exact hi
  · exact hle

/-- A list that purges have shortened. -/
theorem length_purge_le {l : List TlbEntry} (h : l.length ≤ 32) (rid : BitVec 24) (off : BitVec 61) (ps : BitVec 6) :
    (purgeCache l rid off ps).length ≤ 32 := (purgeCache_length_le l rid off ps).trans h

theorem length_l1After_le {l : List TlbEntry} (h : l.length ≤ 32) (regs : Vector (Option TlbEntry) 64) (i : Nat) (e : TlbEntry) :
    (l1After l regs i e).length ≤ 32 := by
  unfold l1After
  dsimp only
  split
  · exact length_purge_le (length_purge_le h _ _ _) _ _ _
  · exact length_purge_le h _ _ _

/-- The subset rule only removes segments (R155). -/
theorem State.l1dBacked_buffersOk {s : State} (h : s.BuffersOk) : s.l1dBacked.BuffersOk := by
  obtain ⟨halat, hwcb, hi, hd⟩ := h
  exact ⟨halat, hwcb, hi, (List.length_filter_le _ _).trans hd⟩

theorem State.purgeItc_buffersOk {s : State} (rid : BitVec 24) (off : BitVec 61) (ps : BitVec 6) (h : s.BuffersOk) :
    (s.purgeItc rid off ps).BuffersOk := by
  obtain ⟨halat, hwcb, hi, hd⟩ := h
  exact ⟨halat, hwcb, length_purge_le hi _ _ _, hd⟩

theorem State.purgeDtc_buffersOk {s : State} (rid : BitVec 24) (off : BitVec 61) (ps : BitVec 6) (h : s.BuffersOk) :
    (s.purgeDtc rid off ps).BuffersOk := by
  obtain ⟨halat, hwcb, hi, hd⟩ := h
  exact State.l1dBacked_buffersOk ⟨halat, hwcb, hi, length_purge_le hd _ _ _⟩

theorem State.wcbFlush_buffersOk {s : State} (h : s.BuffersOk) : s.wcbFlush.BuffersOk :=
  s.wcbFlush_memoryOnly.buffersOk (Nat.zero_le _) h

theorem State.purge_buffersOk {s : State} (k : PurgeKind) (rid : BitVec 24) (off : BitVec 61) (ps : BitVec 6) (h : s.BuffersOk) :
    (s.purge k rid off ps).BuffersOk := by
  have both : ((s.purgeItc rid off ps).purgeDtc rid off ps).BuffersOk := State.purgeDtc_buffersOk _ _ _ (s.purgeItc_buffersOk rid off ps h)
  cases k with
  | ptcL => exact both
  | ptcG | ptcGa => exact State.wcbFlush_buffersOk both
  | ptrD => exact State.purgeDtc_buffersOk (s := { s with dtr := _ }) _ _ _ h
  | ptrI => exact State.purgeItc_buffersOk _ _ _ h

theorem State.BuffersOk.ofStorage : OfStorage State.BuffersOk where
  storage := State.buffersOk_of_storage
  quiet h := State.buffersOk_of_storage (congrArg (·.2) h)
  interrupt _ _ h := h
  retire s h := by
    unfold State.BuffersOk
    rw [retire_alat, retire_wcb, retire_l1itlb, retire_l1dtlb]
    exact h
  restore h := by
    unfold State.restoreContext
    dsimp only
    split <;> exact h
  storePhys := State.storePhys_buffersOk
  wcbFlush := State.wcbFlush_buffersOk
  wcbFreeEvict {s} h := s.wcbFreeEvict_memoryOnly.buffersOk (s.wcbFreeEvict_length_le.trans h.2.1) h
  alatRemove _ h := ⟨(List.length_filter_le _ _).trans h.1, h.2⟩
  alatClear h := ⟨Nat.zero_le _, h.2⟩
  alatSnoop _ _ h := ⟨(List.length_filter_le _ _).trans h.1, h.2⟩
  alatPut {s} e h := by
    obtain ⟨halat, hwcb, hi, hd⟩ := h
    obtain ⟨l, hl, hle⟩ := s.alatPut_cases e
    rw [hl]
    exact ⟨hle halat, hwcb, hi, hd⟩
  touch _ h := h
  l1dUse {s} va h := by
    obtain ⟨halat, hwcb, hi, hd⟩ := h
    exact ⟨halat, hwcb, hi, l1dUsed_length_le s va hd⟩
  l1Fill := State.l1Fill_buffersOk
  purge := State.purge_buffersOk
  purgeAll h := ⟨h.1, h.2.1, Nat.zero_le _, Nat.zero_le _⟩
  insertTc {s} instr {e} _ _ h := by
    obtain ⟨halat, hwcb, hi, hd⟩ := h
    cases instr
    · exact State.l1dBacked_buffersOk ⟨halat, hwcb, hi, length_purge_le hd _ _ _⟩
    · exact ⟨halat, hwcb, length_purge_le hi _ _ _, hd⟩
  insertReg {s} instr {i e} _ _ _ h := by
    obtain ⟨halat, hwcb, hi, hd⟩ := h
    cases instr
    · exact State.l1dBacked_buffersOk ⟨halat, hwcb, hi, length_purge_le hd _ _ _⟩
    · exact ⟨halat, hwcb, length_l1After_le hi _ _ _, hd⟩

end Sys2Proof.Machine

section

open Sys2Proof Machine

/-- Settles O7: aligned IP and bounded buffers are predicates of storage that every elementary update keeps, and a step is made of
those. -/
theorem stepKeepsIpAlignedAndBuffersBounded : Obligations.StepKeepsIpAlignedAndBuffersBounded := by
  unfold Obligations.StepKeepsIpAlignedAndBuffersBounded
  exact ⟨fun _ u hs => State.IpAligned.ofStorage.stable.step hs u, fun _ u hs => State.BuffersOk.ofStorage.stable.step hs u⟩

end

end

section
/-! SUPPORT. The arithmetic of backing-store addresses, and that every step keeps the register stack within its 96 registers. -/

namespace Sys2Proof.Machine

/-! ### Backing-store addresses (R445) -/

theorem rseSlot_eq (a : Word) : rseSlot a = a.toNat / 8 % 64 := by
  simp [rseSlot, Nat.shiftRight_eq_div_pow]

/-- An address `k` slots above another one. -/
theorem toNat_add_slots (a : Word) (k : Nat) : (a + BitVec.ofNat 64 (8 * k)).toNat = (a.toNat + 8 * k) % 2 ^ 64 := by
  simp [BitVec.toNat_add]

theorem rseSlot_add_slots (a : Word) (k : Nat) : rseSlot (a + BitVec.ofNat 64 (8 * k)) = (rseSlot a + k) % 64 := by
  rw [rseSlot_eq, rseSlot_eq, toNat_add_slots]
  omega

theorem rseSlot_add_eight (a : Word) : rseSlot (a + 8) = (rseSlot a + 1) % 64 := rseSlot_add_slots a 1

/-- Below an RNAT collection is the last register of its 63. -/
theorem rseSlot_sub_eight {a : Word} (h : rseSlot a = 63) : rseSlot (a - 8) = 62 := by
  have up := rseSlot_add_eight (a - 8)
  rw [BitVec.sub_add_cancel, h] at up
  have hlt : rseSlot (a - 8) < 64 := BitVec.isLt _
  omega

/-- The registers in the `k` slots from `a` on: every 64th slot is an RNAT collection. -/
theorem rseRegs_add_slots (a : Word) (hk : k < 2 ^ 61) :
    rseRegs a (a + BitVec.ofNat 64 (8 * k)) = k - (rseSlot a + k) / 64 := by
  have slots : (a + BitVec.ofNat 64 (8 * k) - a).toNat / 8 = k := by
    rw [BitVec.add_comm, BitVec.add_sub_cancel, BitVec.toNat_ofNat]
    omega
  unfold rseRegs
  rw [slots]

/-- `hi` is an aligned address that is not the slot of an RNAT collection, and `d` registers lie between `lo` and it. -/
structure Between (lo hi : Word) (d : Nat) : Prop where
  aligned : hi.toNat % 8 = 0
  slot    : rseSlot hi ≠ 63
  span    : ∃ k, k < 2 ^ 61 ∧ hi = lo + BitVec.ofNat 64 (8 * k) ∧ d = k - (rseSlot lo + k) / 64

section Addresses

variable {lo hi : Word} {d : Nat}

theorem between_iff : Between lo hi d ↔
    hi.toNat % 8 = 0 ∧ lo.toNat % 8 = 0 ∧ rseSlot hi ≠ 63 ∧ rseRegs lo hi = d := by
  constructor
  · rintro ⟨ha, hs, k, hk, rfl, rfl⟩
    refine ⟨ha, ?_, hs, rseRegs_add_slots lo hk⟩
    rw [toNat_add_slots] at ha
    omega
  · rintro ⟨ha, hlo, hs, rfl⟩
    have hsub : (hi - lo).toNat % 8 = 0 := by
      rw [BitVec.toNat_sub]
      omega
    have hlt := (hi - lo).isLt
    have hhi : hi = lo + BitVec.ofNat 64 (8 * ((hi - lo).toNat / 8)) := by
      rw [Nat.mul_div_cancel' (Nat.dvd_of_mod_eq_zero hsub), BitVec.ofNat_toNat, BitVec.setWidth_eq, BitVec.add_comm,
        BitVec.sub_add_cancel]
    exact ⟨ha, hs, (hi - lo).toNat / 8, by omega, hhi, rfl⟩

/-- The span of few registers is of few slots. -/
theorem Between.slots (h : Between lo hi d) (hd : d ≤ 200) :
    ∃ k ≤ 210, hi = lo + BitVec.ofNat 64 (8 * k) ∧ lo.toNat % 8 = 0 ∧ d = k - (rseSlot lo + k) / 64 ∧ (rseSlot lo + k) % 64 ≠ 63 := by
  have hlo : lo.toNat % 8 = 0 := (between_iff.1 h).2.1
  obtain ⟨-, hs, k, -, rfl, rfl⟩ := h
  have hlt : rseSlot lo < 64 := BitVec.isLt _
  rw [rseSlot_add_slots] at hs
  exact ⟨k, by omega, rfl, hlo, rfl, hs⟩

theorem Between.of_slots (hlo : lo.toNat % 8 = 0) (hk : k ≤ 1000) (hs : (rseSlot lo + k) % 64 ≠ 63)
    (hd : d = k - (rseSlot lo + k) / 64) : Between lo (lo + BitVec.ofNat 64 (8 * k)) d := by
  refine ⟨?_, by rwa [rseSlot_add_slots], k, by omega, rfl, hd⟩
  rw [toNat_add_slots]
  omega

theorem aligned_add_slots (h : lo.toNat % 8 = 0) (k : Nat) : (lo + BitVec.ofNat 64 (8 * k)).toNat % 8 = 0 := by
  rw [toNat_add_slots]
  omega

theorem add_slots_add (a : Word) (j k : Nat) :
    a + BitVec.ofNat 64 (8 * j) + BitVec.ofNat 64 (8 * k) = a + BitVec.ofNat 64 (8 * (j + k)) := by
  rw [BitVec.add_assoc, ← BitVec.ofNat_add, Nat.mul_add]

/-- The lower end moves up a slot: past a register or past an RNAT collection. -/
theorem Between.up (h : Between lo hi d) (hd : d ≤ 200) (hreg : rseSlot lo ≠ 63 → 0 < d) :
    Between (lo + 8) hi (if rseSlot lo = 63 then d else d - 1) := by
  obtain ⟨k, hk, rfl, hlo, rfl, hs⟩ := h.slots hd
  have hslot := rseSlot_add_eight lo
  have hlt : rseSlot lo < 64 := BitVec.isLt _
  have hhi : lo + BitVec.ofNat 64 (8 * k) = lo + 8 + BitVec.ofNat 64 (8 * (k - 1)) := by
    have hpos : 0 < k := by omega
    rw [show (lo + 8 : Word) = lo + BitVec.ofNat 64 (8 * 1) from rfl, add_slots_add, Nat.add_sub_cancel' hpos]
  rw [hhi]
  refine .of_slots (aligned_add_slots hlo 1) (by omega) ?_ ?_ <;> rw [hslot]
  · omega
  · split <;> omega

/-- The lower end moves down a slot: past a register or past an RNAT collection. -/
theorem Between.down (h : Between lo hi d) (hd : d ≤ 200) :
    Between (lo - 8) hi (if rseSlot (lo - 8) = 63 then d else d + 1) := by
  obtain ⟨k, hk, rfl, hlo, rfl, hs⟩ := h.slots hd
  obtain ⟨a, rfl⟩ : ∃ a : Word, lo = a + BitVec.ofNat 64 (8 * 1) := ⟨lo - 8, (BitVec.sub_add_cancel lo 8).symm⟩
  have hlt : rseSlot a < 64 := BitVec.isLt _
  have ha : a.toNat % 8 = 0 := by
    rw [toNat_add_slots] at hlo
    omega
  rw [show a + BitVec.ofNat 64 (8 * 1) - 8 = a from BitVec.add_sub_cancel a 8, add_slots_add]
  rw [rseSlot_add_slots] at *
  refine .of_slots ha (by omega) (by omega) ?_
  split <;> omega

/-- The upper end moves up past `n` registers (R445). -/
theorem Between.push (h : Between lo hi d) (hd : d ≤ 200) (hn : n ≤ 200) : Between lo (rseAdd hi n) (d + n) := by
  obtain ⟨k, hk, rfl, hlo, rfl, hs⟩ := h.slots hd
  have hlt : rseSlot lo < 64 := BitVec.isLt _
  unfold rseAdd
  rw [rseSlot_add_slots, add_slots_add]
  exact .of_slots hlo (by omega) (by omega) (by omega)

/-- The upper end moves down past `n` of the registers (R445). -/
theorem Between.pop (h : Between lo hi d) (hd : d ≤ 200) (hn : n ≤ d) : Between lo (rseSub hi n) (d - n) := by
  obtain ⟨k, hk, rfl, hlo, rfl, hs⟩ := h.slots hd
  have hlt : rseSlot lo < 64 := BitVec.isLt _
  unfold rseSub
  rw [rseSlot_add_slots]
  generalize hm : n + (n + 62 - (rseSlot lo + k) % 64) / 63 = m
  have hle : m ≤ k := by omega
  have hhi : lo + BitVec.ofNat 64 (8 * k) - BitVec.ofNat 64 (8 * m) = lo + BitVec.ofNat 64 (8 * (k - m)) := by
    rw [← Nat.sub_add_cancel hle, ← add_slots_add, BitVec.add_sub_cancel, Nat.add_sub_cancel]
  rw [hhi]
  exact .of_slots hlo (by omega) (by omega) (by omega)

/-- `n` registers above an aligned address (R445). -/
theorem between_rseAdd (h : lo.toNat % 8 = 0) (hn : n ≤ 200) : Between lo (rseAdd lo n) n := by
  have hlt : rseSlot lo < 64 := BitVec.isLt _
  exact .of_slots h (by omega) (by omega) (by omega)

end Addresses

/-! ### The register stack of a state -/

/-- The register stack has the marker `c`, its frame at `b`, BSP at `hi`, `d` dirty and `n` clean registers. -/
structure State.Stacked (s : State) (c : BitVec 38) (b : Nat) (hi : Word) (d n : Nat) : Prop where
  cfm    : s.cfm = c
  bof    : s.bof = b
  bsp    : s.cur.bsp = hi
  dirty  : Between s.cur.bspstore hi d
  nclean : s.nclean = n

section Stacked

variable {s t : State} {c : BitVec 38} {b d n : Nat} {hi : Word}

/-- Only the register stack matters. -/
theorem State.Stacked.of_stack (h : s.Stacked c b hi d n) (ht : t.stack = s.stack) : t.Stacked c b hi d n := by
  have hspan : t.cur.bspstore = s.cur.bspstore := congrArg (·.bspstore) ht
  exact ⟨(congrArg (·.cfm) ht).trans h.cfm, (congrArg (·.bof) ht).trans h.bof, (congrArg (·.bsp) ht).trans h.bsp,
    hspan ▸ h.dirty, (congrArg (·.nclean) ht).trans h.nclean⟩

theorem State.Stacked.ndirty_eq (h : s.Stacked c b hi d n) : s.ndirty = d := by
  unfold State.ndirty
  rw [h.bsp]
  exact (between_iff.1 h.dirty).2.2.2

/-- `StackOk` in these terms. -/
theorem State.stackOk_iff : s.StackOk ↔
    s.FrameOk ∧ s.bof < 96 ∧ ∃ d, s.Stacked s.cfm s.bof s.cur.bsp d s.nclean ∧ d + s.nclean + cfmSof s.cfm ≤ 96 := by
  unfold State.StackOk
  rw [extractLsb'_zero_iff, extractLsb'_zero_iff]
  constructor
  · rintro ⟨hf, hb, ha, hlo, hs, hle⟩
    exact ⟨hf, hb, s.ndirty, ⟨rfl, rfl, rfl, between_iff.2 ⟨ha, hlo, hs, rfl⟩, rfl⟩, hle⟩
  · rintro ⟨hf, hb, d, hd, hle⟩
    obtain ⟨ha, hlo, hs, -⟩ := between_iff.1 hd.dirty
    exact ⟨hf, hb, ha, hlo, hs, by rwa [hd.ndirty_eq]⟩

/-- A register stack that fits its registers. -/
theorem State.Stacked.stackOk (h : s.Stacked c b hi d n) (hc : CfmOk c) (hb : b < 96) (hle : d + n + cfmSof c ≤ 96) :
    s.StackOk := by
  obtain ⟨rfl, rfl, rfl, hd, rfl⟩ := h
  exact State.stackOk_iff.2 ⟨hc, hb, d, ⟨rfl, rfl, rfl, hd, rfl⟩, hle⟩

/-- BSPSTORE moves. -/
theorem State.Stacked.moveBspstore {a : Word} (h : s.Stacked c b hi d n) (he : Between a hi e) :
    (s.moveBspstore a).Stacked c b hi e n :=
  ⟨h.cfm, h.bof, h.bsp, he, h.nclean⟩

theorem State.setStacked_stack (s : State) (i : Nat) (v : GReg) : (s.setStacked i v).stack = s.stack := by
  simp [State.stack, State.setStacked]

/-- The values of the stacked registers are no part of the counting. -/
theorem State.Stacked.setStacked (h : s.Stacked c b hi d n) (i : Nat) (v : GReg) : (s.setStacked i v).Stacked c b hi d n :=
  h.of_stack (s.setStacked_stack i v)

/-- The clean registers change. -/
theorem State.Stacked.withNclean {m k : Nat} (h : s.Stacked c b hi d n) (hk : k = m) : { s with nclean := k }.Stacked c b hi d m :=
  ⟨h.cfm, h.bof, h.bsp, h.dirty, hk⟩

/-- RNAT is no part of the counting. -/
theorem State.Stacked.withRnat (h : s.Stacked c b hi d n) (v : Word) : (s.withRnat v).Stacked c b hi d n := h.of_stack rfl

/-! ### Spills and fills (R445) -/

theorem State.noteStore_storageOnly (s : State) (acc : Acc) (ma : MemAttr) : s.StorageOnly (s.noteStore acc ma) := rfl

theorem gives_rseStore : Gives (s.rseStore va v) fun t => t.stack = s.stack :=
  .map fun _ _ => ((State.storePhys_storageOnly _ _ _ _).trans (State.noteStore_storageOnly _ _ _)).stack_eq

theorem gives_rseLoad : Gives (s.rseLoad va ir) fun p => p.2.stack = s.stack := .map fun _ _ => rfl

/-- The RNAT collection is no register: its spill changes neither count. -/
theorem State.Stacked.spillRnat (h : s.Stacked c b hi d n) (hd : d ≤ 200) :
    Gives s.spillRnat fun t => t.Stacked c b hi d n ∧ rseSlot t.cur.bspstore ≠ 63 := by
  refine .ite (fun h63 => .map fun t ht => ?_) fun h63 => .ok ⟨h, h63⟩
  have up := h.dirty.up hd fun hne => absurd h63 hne
  rw [if_pos h63] at up
  refine ⟨(h.of_stack (gives_rseStore t ht)).moveBspstore up, ?_⟩
  show rseSlot (s.cur.bspstore + 8) ≠ 63
  rw [rseSlot_add_eight, h63]
  decide

/-- A spilled register is clean. -/
theorem State.Stacked.spillOne (h : s.Stacked c b hi (d + 1) n) (hd : d < 200) :
    Gives s.spillOne fun t => t.Stacked c b hi d (n + 1) := by
  refine .bind fun t ht => .bind fun u hu => ?_
  obtain ⟨crossed, hslot⟩ := h.spillRnat (by omega) t ht
  have up := crossed.dirty.up (by omega) fun _ => Nat.succ_pos d
  rw [if_neg hslot, Nat.add_sub_cancel] at up
  have stored := crossed.of_stack (gives_rseStore u hu)
  exact Gives.mono (State.Stacked.spillRnat (.moveBspstore (.withNclean (stored.withRnat _) (congrArg (· + 1) stored.nclean)) up)
    (by omega)) fun _ hv => hv.1

theorem State.Stacked.spill (k : Nat) (h : s.Stacked c b hi (d + k) n) (hd : d + k ≤ 200) :
    Gives (s.spill k) fun t => t.Stacked c b hi d (n + k) := by
  induction k generalizing s n with
  | zero => exact .ok h
  | succ k ih =>
    refine .bind fun t ht => (ih (State.Stacked.spillOne (d := d + k) h (by omega) t ht) (by omega)).mono fun u hu => ?_
    rwa [Nat.add_assoc, Nat.add_comm 1 k] at hu

/-- Going down over an RNAT collection reloads it, and leads to a register. -/
theorem State.Stacked.fillRnat (ir : Bool) (h : s.Stacked c b hi d n) (hd : d ≤ 200) :
    Gives (if rseSlot (s.cur.bspstore - 8) = 63 then
        (s.rseLoad (s.cur.bspstore - 8) ir).map fun p => (p.2.withRnat p.1).moveBspstore (s.cur.bspstore - 8)
      else .ok s) fun t => t.Stacked c b hi d n ∧ rseSlot (t.cur.bspstore - 8) ≠ 63 := by
  refine .ite (fun h63 => .map fun p hp => ?_) fun h63 => .ok ⟨h, h63⟩
  have down := h.dirty.down hd
  rw [if_pos h63] at down
  refine ⟨((h.of_stack (gives_rseLoad p hp)).withRnat p.1).moveBspstore down, ?_⟩
  show rseSlot (s.cur.bspstore - 8 - 8) ≠ 63
  rw [rseSlot_sub_eight h63]
  decide

/-- A fill makes one more register dirty: a clean one as long as there is one. -/
theorem State.Stacked.fillOne (ir : Bool) (h : s.Stacked c b hi d n) (hd : d < 200) :
    Gives (s.fillOne ir) fun t => t.Stacked c b hi (d + 1) (n - 1) := by
  refine .bind fun t ht => ?_
  obtain ⟨crossed, hslot⟩ := h.fillRnat ir (by omega) t ht
  have down := crossed.dirty.down (by omega)
  rw [if_neg hslot] at down
  have hn := crossed.nclean
  refine .ite (fun _ => .ok ((crossed.moveBspstore down).withNclean (congrArg (· - 1) hn))) fun h0 => .map fun p hp => ?_
  rw [show n - 1 = n by omega]
  exact ((crossed.of_stack (gives_rseLoad p hp)).setStacked _ _).moveBspstore down

theorem State.Stacked.fill (ir : Bool) (k : Nat) (h : s.Stacked c b hi d n) (hd : d + k ≤ 200) :
    Gives (s.fill ir k) fun t => t.Stacked c b hi (d + k) (n - k) := by
  induction k generalizing s d n with
  | zero => exact .ok h
  | succ k ih =>
    refine .bind fun t ht => (ih (h.fillOne ir (by omega) t ht) (by omega)).mono fun u hu => ?_
    rwa [Nat.add_assoc, Nat.sub_sub, Nat.add_comm 1 k] at hu

/-! ### Frames (R444, R523, R524, R554) -/

theorem State.expose_stack (s : State) (lo k : Nat) : (s.expose lo k).stack = s.stack := by
  induction k generalizing s with
  | zero => rfl
  | succ k ih => exact (ih _).trans (s.setStacked_stack _ _)

/-- The clean registers give way to the frame, which then is exposed. -/
theorem State.Stacked.trimClean (h : s.Stacked c b hi d n) (sof lo k : Nat) :
    ((s.trimClean sof).expose lo k).Stacked c b hi d (min n (96 - (d + sof))) := by
  have room : min s.nclean (96 - (s.ndirty + sof)) = min n (96 - (d + sof)) := by rw [h.nclean, h.ndirty_eq]
  exact State.Stacked.of_stack (h.withNclean room) (State.expose_stack _ _ _)

/-- The lowest `m` registers of the frame become dirty. -/
theorem State.Stacked.pushFrame (h : s.Stacked c b hi d n) (hd : d ≤ 200) (hm : m ≤ 200) :
    (s.pushFrame m).Stacked c ((b + m) % 96) (rseAdd hi m) (d + m) n := by
  obtain ⟨hcfm, rfl, rfl, hdirty, hn⟩ := h
  exact ⟨hcfm, rfl, rfl, hdirty.push hd hm, hn⟩

theorem State.Stacked.withCfm (h : s.Stacked c b hi d n) (e : BitVec 38) : { s with cfm := e }.Stacked e b hi d n :=
  ⟨rfl, h.bof, h.bsp, h.dirty, h.nclean⟩

/-- The topmost `m` dirty registers become part of a frame with another marker. -/
theorem State.Stacked.pop (e : BitVec 38) (h : s.Stacked c b hi d n) (hd : d ≤ 200) (hm : m ≤ d) :
    { s.withBsp (rseSub s.cur.bsp m) with bof := (s.bof + 96 - m) % 96, cfm := e }.Stacked e ((b + 96 - m) % 96) (rseSub hi m)
      (d - m) n := by
  obtain ⟨-, rfl, rfl, hdirty, hn⟩ := h
  exact ⟨rfl, rfl, rfl, hdirty.pop hd hm, hn⟩

theorem cfmOk_zero : CfmOk 0 := ⟨by decide, by decide, by decide⟩

/-- `alloc`: the dirty registers that are in the way are spilled (R444). -/
theorem State.Stacked.growFrame (base sof : Nat) (h : s.Stacked c b hi d n) (hd : d ≤ 96) (hsof : sof ≤ 96) :
    Gives (s.growFrame base sof) fun t => ∃ e m, t.Stacked c b hi e m ∧ e + m + sof ≤ 96 := by
  refine .map fun t ht => ?_
  rw [h.ndirty_eq] at ht
  have spilled := State.Stacked.spill (d := d - min (d + sof - 96) 96) _ (by rwa [Nat.sub_add_cancel (by omega)]) (by omega) t ht
  exact ⟨_, _, spilled.trimClean sof _ _, by omega⟩

/-- A return: registers of the restored frame that are not dirty are filled, and a frame that cannot be restored is empty (R524, R556). -/
theorem State.Stacked.popFrame (e : BitVec 38) (m : Nat) (h : s.Stacked c b hi d n) (hb : b < 96) (hle : d + n ≤ 96) :
    Gives (s.popFrame e m) State.StackOk := by
  refine .ite (fun _ => .ok ((h.withCfm 0).stackOk cfmOk_zero hb hle)) fun hok => .map fun t ht => ?_
  simp only [h.ndirty_eq, Bool.or_eq_true, decide_eq_true_eq, not_or, Nat.not_lt] at hok ht
  obtain ⟨⟨⟨⟨hsof, hsol⟩, hsor⟩, hm⟩, hfit⟩ := hok
  have filled := h.fill true (m - d) (by omega) t ht
  have popped := filled.pop e (m := m) (by omega) (by omega)
  exact (popped.trimClean (cfmSof e) _ _).stackOk ⟨hsof, hsol, hsor⟩ (Nat.mod_lt _ (by decide)) (by omega)

/-- `flushrs`: no register stays dirty (R442). -/
theorem State.Stacked.spillAll (h : s.Stacked c b hi d n) (hd : d ≤ 96) :
    Gives s.spillAll fun t => t.Stacked c b hi 0 (n + d) := by
  refine .bind fun t ht => ?_
  rw [h.ndirty_eq, Nat.min_eq_left hd] at ht
  have spilled := State.Stacked.spill (d := 0) d (by rwa [Nat.zero_add]) (by omega) t ht
  exact .ite (fun _ => .ok spilled) fun _ => (spilled.spillRnat (by omega)).mono fun _ hu => hu.1

/-- The loads of `loadrs` leave the frame, BSP and the number of clean registers (R443). -/
theorem State.loadSlots_keeps (k : Nat) (hcfm : s.cfm = c) (hbof : s.bof = b) (hbsp : s.cur.bsp = hi) (hn : s.nclean = n) :
    Gives (s.loadSlots k) fun t => t.cfm = c ∧ t.bof = b ∧ t.cur.bsp = hi ∧ t.nclean = n := by
  induction k generalizing s with
  | zero => exact .ok ⟨hcfm, hbof, hbsp, hn⟩
  | succ k ih =>
    have one : Gives s.loadSlot fun t => t.cfm = c ∧ t.bof = b ∧ t.cur.bsp = hi ∧ t.nclean = n := by
      refine .map fun p hp => ?_
      have loaded : p.2.stack = s.stack := gives_rseLoad p hp
      have hcfm' : p.2.cfm = c := (congrArg (·.cfm) loaded).trans hcfm
      have hbof' : p.2.bof = b := (congrArg (·.bof) loaded).trans hbof
      have hbsp' : p.2.cur.bsp = hi := (congrArg (·.bsp) loaded).trans hbsp
      have hn' : p.2.nclean = n := (congrArg (·.nclean) loaded).trans hn
      dsimp only
      split
      · exact ⟨hcfm', hbof', hbsp', hn'⟩
      · refine ⟨hcfm', hbof', ?_, hn'⟩
        exact (congrArg (·.bsp) (p.2.setStacked_stack _ _)).trans hbsp'
    refine .bind fun t ht => ?_
    obtain ⟨hcfm', hbof', hbsp', hn'⟩ := one t ht
    exact ih hcfm' hbof' hbsp' hn'

end Stacked

/-! ### Every change of the register stack keeps it within its registers -/

theorem State.stackOk_of_stack {s t : State} (h : t.stack = s.stack) (hs : s.StackOk) : t.StackOk := by
  obtain ⟨hf, hb, d, hd, hle⟩ := State.stackOk_iff.1 hs
  exact (hd.of_stack h).stackOk hf hb hle

theorem State.writeBspstore_stackOk (s : State) (v : Word) (h : s.StackOk) : (s.writeBspstore v).StackOk := by
  obtain ⟨hf, hb, d, hd, hle⟩ := State.stackOk_iff.1 h
  have aligned (a : Word) : (a &&& ~~~ 7#64).toNat % 8 = 0 := by
    have clear : (a &&& ~~~ 7#64).extractLsb' 0 3 = 0 := by
      rw [BitVec.extractLsb'_and, BitVec.extractLsb'_not_of_lt (by decide)]
      exact BitVec.and_zero
    exact (extractLsb'_zero_iff _ 3).1 clear
  have written := between_rseAdd (aligned ((s.setAr .bspstore v).setAr .rnat (s.free 8000)).cur.bspstore) (n := s.ndirty)
    (by rw [hd.ndirty_eq]; omega)
  refine State.Stacked.stackOk (c := s.cfm) (n := 0) ⟨rfl, rfl, rfl, written, rfl⟩ hf hb ?_
  rw [hd.ndirty_eq]
  omega

theorem State.FrameChange.stackOk {s t : State} (hf : s.FrameChange t) (hs : s.StackOk) : t.StackOk := by
  obtain ⟨⟨hsof, hsol, hsor⟩, hb, d, hd, hle⟩ := State.stackOk_iff.1 hs
  cases hf with
  | rename hc =>
    obtain ⟨hcsof, hcsol, hcsor⟩ := hc
    refine (hd.withCfm _).stackOk ?_ hb (by omega)
    unfold CfmOk
    omega
  | call =>
    have frame : cfmSof (mkCfm (cfmSof s.cfm - cfmSol s.cfm) 0 0 0 0 0) = cfmSof s.cfm - cfmSol s.cfm := by
      rw [cfmSof_mkCfm]
      omega
    refine ((hd.pushFrame (m := cfmSol s.cfm) (by omega) (by omega)).withCfm _).stackOk ?_ (Nat.mod_lt _ (by decide)) ?_
    · unfold CfmOk
      rw [frame, cfmSol_mkCfm, cfmSor_mkCfm]
      omega
    · omega
  | cover =>
    refine ((hd.pushFrame (m := cfmSof s.cfm) (by omega) (by omega)).withCfm 0).stackOk cfmOk_zero (Nat.mod_lt _ (by decide)) ?_
    rw [show cfmSof 0 = 0 from rfl]
    omega
  | grow hc ht =>
    obtain ⟨e, m, grown, hfit⟩ := hd.growFrame _ _ (by omega) hc.1 _ ht
    exact (grown.withCfm _).stackOk hc hb hfit
  | pop ht => exact hd.popFrame _ _ hb (by omega) _ ht
  | flush ht => exact (hd.spillAll (by omega) _ ht).stackOk ⟨hsof, hsol, hsor⟩ hb (by omega)
  | @reload k n t h0 hregs ht =>
    obtain ⟨hcfm, hbof, hbsp, hn⟩ := State.loadSlots_keeps k rfl rfl rfl rfl t ht
    obtain ⟨aligned, -, hslot, -⟩ := between_iff.1 hd.dirty
    have below : (s.cur.bsp - BitVec.ofNat 64 (n * 8)).toNat % 8 = 0 := by
      rw [BitVec.toNat_sub, BitVec.toNat_ofNat]
      omega
    have target := between_iff.2 ⟨aligned, below, hslot, rfl⟩
    exact State.Stacked.stackOk (c := s.cfm) (n := 0) ⟨hcfm, hbof, hbsp, target, hn⟩ ⟨hsof, hsol, hsor⟩ hb (by omega)
  | bspstore v => exact s.writeBspstore_stackOk v hs

theorem State.StackOk.stable : Stable State.StackOk where
  toElementary := .of_storageOnly (fun h => State.stackOk_of_stack (congrArg (·.1) h)) (fun h => State.stackOk_of_stack h.stack_eq)
    (fun _ _ h => h)
    (fun s h => State.stackOk_of_stack (by unfold State.stack; rw [retire_cfm, retire_bof, retire_nclean, retire_cur]) h)
    (fun h => State.stackOk_of_stack (by unfold State.restoreContext; dsimp only; split <;> rfl) h)
  frame := State.FrameChange.stackOk

end Sys2Proof.Machine

section

open Sys2Proof Machine

/-- Settles O8: the changes of the register stack keep the counts of dirty, clean and current registers together, and a step is made of
those and of updates that leave the register stack alone. -/
theorem stepKeepsRegisterStackBounded : Obligations.StepKeepsRegisterStackBounded := by
  unfold Obligations.StepKeepsRegisterStackBounded
  exact fun _ u hs => State.StackOk.stable.step hs u

end

end

section
/-! SUPPORT. Where control goes after a completing instruction (R21, R330, R521). -/

namespace Sys2Proof.Machine

/-! ### PSR after a completing instruction -/

/-- A field that is written: its bits, and the others. -/
theorem getLsbD_putField (w : Word) (i j : Nat) (v : BitVec k) (hj : j < 64) :
    (putField w i v).getLsbD j = if i ≤ j ∧ j < i + k then v.getLsbD (j - i) else w.getLsbD j := by
  unfold putField
  by_cases hi : i ≤ j
  · by_cases hlt : j < i + k
    · simp [hi, hlt, hj, show j - i < k by omega, show ¬ j < i by omega]
    · have hv : v.getLsbD (j - i) = false := BitVec.getLsbD_of_ge _ _ (by omega)
      simp [hi, hlt, hj, hv, show ¬ j - i < k by omega]
  · simp [hi, hj, show j < i by omega]

/-- What is read from a written field is what was written. -/
theorem extractLsb'_putField (w : Word) (i : Nat) (v : BitVec k) (hk : i + k ≤ 64) :
    (putField w i v).extractLsb' i k = v := by
  refine BitVec.eq_of_getLsbD_eq fun j hj => ?_
  rw [BitVec.getLsbD_extractLsb', getLsbD_putField w i _ v (by omega), if_pos ⟨by omega, by omega⟩]
  simp [hj]

/-- The one-shot bits `id`, `da`, `dd`, `ed`, `ia` (R567, R572, R574). -/
theorem getLsbD_oneShotMask (hk : k < 64) :
    oneShotMask.getLsbD k = decide (k = 37 ∨ k = 38 ∨ k = 39 ∨ k = 43 ∨ k = 45) := by
  revert k
  decide

/-- PSR once the one-shot bits are cleared and `ri` is written: every other bit stays (log 40). -/
theorem getLsbD_putField_oneShot (psr : Word) (v : BitVec 2) (hk : k < 64) (h41 : k ≠ 41) (h42 : k ≠ 42) :
    (putField (psr &&& ~~~ oneShotMask) 41 v).getLsbD k =
      (psr.getLsbD k && !(k = 37 || k = 38 || k = 39 || k = 43 || k = 45)) := by
  rw [getLsbD_putField _ _ _ _ hk, if_neg (by omega)]
  rw [BitVec.getLsbD_and, BitVec.getLsbD_not, getLsbD_oneShotMask hk]
  simp [hk, Bool.and_assoc]

/-- An address with its low four bits cleared is that of its bundle (R21). -/
theorem bundleAddress_eq (t : Word) : t &&& ~~~ 0xF#64 = BitVec.ofNat 64 (t.toNat / 16 * 16) := by
  have h : t &&& ~~~ 0xF#64 = (t >>> 4) <<< 4 := by
    refine BitVec.eq_of_getLsbD_eq fun j hj => ?_
    have hm : (0xF#64).getLsbD j = decide (j < 4) := by
      revert j
      decide
    rw [BitVec.getLsbD_and, BitVec.getLsbD_not, hm]
    by_cases h4 : j < 4
    · simp [h4]
    · simp [h4, hj, show 4 + (j - 4) = j by omega]
  rw [h]
  refine BitVec.eq_of_toNat_eq ?_
  simp [Nat.shiftLeft_eq, Nat.shiftRight_eq_div_pow]

/-! ### Moving on -/

/-- Without a trap of the instruction or of its transfer, completing is moving on (R587). -/
theorem retire_of_quiet {s : State} {r : Res} (hfp : r.fpTrap = none) (hlp : r.lpTrap = true → s.psrLp = false)
    (htb : r.target ≠ none → s.psrTb = false) (hss : s.psrSs = false)
    (hip : r.moved.psrIt = true ∨ r.moved.ip.extractLsb' 50 13 = 0) : retire s r = r.moved := by
  refine retire_of_no_trap s r ((trapIntr_none _ _ _ _ _).2 ⟨?_, hfp, ?_, ?_, hss⟩)
  · rcases hip with hip | hip <;> simp [unimplementedPhys, hip]
  · cases h : r.lpTrap with
    | false => rfl
    | true => exact hlp h
  · cases h : r.target with
    | none => exact Bool.and_false _
    | some t => rw [htb (by simp [h])]; rfl

/-- PSR of the state that control moves on to: `ri` apart, the one-shot bits go and the others stay. -/
theorem Res.moved_psr_bit (r : Res) (hk : k < 64) (h41 : k ≠ 41) (h42 : k ≠ 42) :
    r.moved.psr.getLsbD k = (r.s.psr.getLsbD k && !(k = 37 || k = 38 || k = 39 || k = 43 || k = 45)) := by
  unfold Res.moved
  cases r.target <;> exact getLsbD_putField_oneShot _ _ hk h41 h42

/-- Moving on does not turn translation of instruction addresses on or off. -/
theorem Res.moved_psrIt (r : Res) : r.moved.psrIt = r.s.psrIt :=
  (r.moved_psr_bit (by decide) (by decide) (by decide)).trans (Bool.and_true _)

/-- A taken branch goes to slot 0 of the target's bundle and ends the group (R521). -/
theorem Res.moved_of_target {r : Res} (h : r.target = some t) :
    r.moved.ip = BitVec.ofNat 64 (t.toNat / 16 * 16) ∧ r.moved.ri = 0 ∧ r.moved.old = r.s.cur := by
  unfold Res.moved
  rw [h]
  exact ⟨bundleAddress_eq t, extractLsb'_putField _ 41 0#2 (by decide), rfl⟩

/-- Control advances: `last` says whether the instruction was the last one of its bundle (R330 step 6). -/
theorem State.advance_ri (s : State) (long : Bool) :
    (s.advance long).ri = if long || s.ri = 2 || s.ri = 3 then 0 else s.ri + 1 :=
  extractLsb'_putField _ 41 _ (by decide)

/-- After the last slot of a bundle comes the next bundle (R330 step 6). -/
theorem Res.moved_of_last {r : Res} (h : r.target = none) (hl : r.long = true ∨ r.s.ri = 2) :
    r.moved.ip = r.s.ip + 16 ∧ r.moved.ri = 0 ∧ r.moved.old = r.s.old := by
  have last : (r.long || decide ((r.s.emit .retired).ri = 2) || decide ((r.s.emit .retired).ri = 3)) = true := by
    rcases hl with hl | hl
    · simp [hl]
    · have : (r.s.emit .retired).ri = 2 := hl
      simp [this]
  unfold Res.moved
  rw [h]
  exact ⟨if_pos last, (State.advance_ri _ _).trans (if_pos last), rfl⟩

/-- Before the last slot of a bundle comes the next slot (R330 step 6). -/
theorem Res.moved_of_inner {r : Res} (h : r.target = none) (hl : r.long = false) (hri : r.s.ri = 0 ∨ r.s.ri = 1) :
    r.moved.ip = r.s.ip ∧ r.moved.ri = r.s.ri + 1 ∧ r.moved.old = r.s.old := by
  have inner : ¬ (r.long || decide ((r.s.emit .retired).ri = 2) || decide ((r.s.emit .retired).ri = 3)) = true := by
    have same : (r.s.emit .retired).ri = r.s.ri := rfl
    rcases hri with hri | hri <;> simp [hl, same, hri]
  unfold Res.moved
  rw [h]
  exact ⟨if_neg inner, (State.advance_ri _ _).trans (if_neg inner), rfl⟩

theorem Res.moved_keeps (r : Res) :
    r.moved.cur = r.s.cur ∧ r.moved.mem = r.s.mem ∧ r.moved.cfm = r.s.cfm ∧ r.moved.cr = r.s.cr ∧ r.moved.lastBundle = r.s.ip := by
  unfold Res.moved
  cases r.target <;> exact ⟨rfl, rfl, rfl, rfl, rfl⟩

end Sys2Proof.Machine

section

open Sys2Proof Machine

/-- Settles O17: without a trap completing is `Res.moved`, whose two branches are the jump and the advance. -/
theorem controlMovesOn : Obligations.ControlMovesOn := by
  unfold Obligations.ControlMovesOn
  intro s r hfp hlp htb hss hip
  rw [← r.moved_psrIt] at hip
  rw [retire_of_quiet hfp hlp htb hss hip]
  obtain ⟨hcur, hmem, hcfm, hcr, hlast⟩ := r.moved_keeps
  exact ⟨hcur, hmem, hcfm, hcr, hlast, fun k hk h41 h42 => r.moved_psr_bit hk h41 h42, fun t => Res.moved_of_target,
    Res.moved_of_last, Res.moved_of_inner⟩

end

end

section
/-! SUPPORT. That memory stays in its canonical form. -/

namespace Sys2Proof.Machine

theorem State.memOk_of_eq {s t : State} (h : t.mem = s.mem) (hs : s.MemOk) : t.MemOk := by
  unfold State.MemOk
  rw [h]
  exact hs

/-- A purge that reaches other processors flushes the write-coalescing buffer; no purge does anything else to memory (R449). -/
theorem State.purge_memOk {s : State} (k : PurgeKind) (rid : BitVec 24) (off : BitVec 61) (ps : BitVec 6) (h : s.MemOk) :
    (s.purge k rid off ps).MemOk := by
  cases k with
  | ptcG | ptcGa => exact State.wcbFlush_wf _ h
  | ptcL | ptrD | ptrI => exact h

/-- Only stores and the write-coalescing buffer write memory, and both write it byte by byte. -/
theorem State.MemOk.ofStorage : OfStorage State.MemOk where
  storage h := State.memOk_of_eq (congrArg (·.mem) h)
  quiet h := State.memOk_of_eq (congrArg (·.2.mem) h)
  interrupt i ei := State.memOk_of_eq (State.takeInterruption_mem _ i ei)
  retire s := State.memOk_of_eq (retire_mem s _)
  restore {s} h := by
    unfold State.restoreContext
    dsimp only
    split <;> exact h
  storePhys pa ma bs h := State.storePhys_wf _ pa ma bs h
  wcbFlush h := State.wcbFlush_wf _ h
  wcbFreeEvict h := State.wcbFreeEvict_wf _ h
  alatRemove _ h := h
  alatClear h := h
  alatSnoop _ _ h := h
  alatPut {s} e h := by
    obtain ⟨l, hl, -⟩ := s.alatPut_cases e
    rw [hl]
    exact h
  touch _ h := h
  l1dUse _ h := h
  l1Fill {s} h := by
    obtain ⟨l, evs, hl, -⟩ := l1Fill_cases s
    rw [hl]
    exact h
  purge := State.purge_memOk
  purgeAll h := h
  insertTc {_} instr {_} _ _ h := by cases instr <;> exact h
  insertReg {_} instr {_ _} _ _ _ h := by cases instr <;> exact h

end Sys2Proof.Machine

section

open Sys2Proof Machine

/-- Settles O6: the canonical form is a predicate of storage that every elementary update keeps, and a step is made of those. -/
theorem stepKeepsMemoryCanonical : Obligations.StepKeepsMemoryCanonical := by
  unfold Obligations.StepKeepsMemoryCanonical
  exact fun _ u hs => State.MemOk.ofStorage.stable.step hs u

end

end

section
/-! SUPPORT. The write-coalescing buffer (R121 to R126): what its lines hold, and that moving lines to memory changes no byte as seen. -/

namespace Sys2Proof.Machine

/-! ### Bytes of a line -/

/-- Offsets rise and are inside the line of 128 bytes (R121). -/
def LineOk (l : List Host.Cell) : Prop := l.Pairwise (fun c d => c.1 < d.1) ∧ ∀ c ∈ l, c.1 < 128

/-- At most one byte of a line has an offset. -/
theorem find?_offset_iff {l : List Host.Cell} (h : l.Pairwise fun c d => c.1 < d.1) (o : Nat) (c : Host.Cell) :
    l.find? (fun c => c.1 = o) = some c ↔ c ∈ l ∧ c.1 = o := by
  refine ⟨fun hf => ⟨List.mem_of_find?_eq_some hf, by simpa using List.find?_some hf⟩, ?_⟩
  rintro ⟨hc, rfl⟩
  induction l with
  | nil => simp at hc
  | cons d l ih =>
    obtain ⟨hd, hl⟩ := List.pairwise_cons.1 h
    rcases List.mem_cons.1 hc with rfl | hc
    · simp
    · rw [List.find?_cons_of_neg (by simpa using (hd c hc).ne), ih hl hc]

/-- A byte put into a line is found at its offset, the others where they were. -/
theorem find?_wcbPut (l : List Host.Cell) (o : Nat) (v : Byte) (k : Nat) :
    (wcbPut l o v).find? (fun c => c.1 = k) = if k = o then some (o, v) else l.find? (fun c => c.1 = k) := by
  induction l with
  | nil => by_cases hk : k = o <;> simp [wcbPut, hk, eq_comm]
  | cons c l ih =>
    obtain ⟨p, w⟩ := c
    unfold wcbPut
    split
    · by_cases hk : k = o
      · simp [hk]
      · simp [hk, Ne.symm hk]
    · split
      · next h => subst h; by_cases hk : k = o <;> simp [hk, eq_comm]
      · rw [List.find?_cons, List.find?_cons, ih]
        by_cases hp : p = k
        · subst hp; simp [*, Ne.symm ‹¬ o = p›]
        · simp [hp]

/-- The offsets after a put are those before it and the new one. -/
theorem mem_wcbPut {l : List Host.Cell} {o : Nat} {v : Byte} {c : Host.Cell} (h : c ∈ wcbPut l o v) : c ∈ l ∨ c = (o, v) := by
  induction l with
  | nil => simpa [wcbPut] using h
  | cons d l ih =>
    unfold wcbPut at h
    split at h
    · simpa [or_comm] using h
    · split at h
      · simp only [List.mem_cons] at h ⊢; tauto
      · simp only [List.mem_cons] at h ⊢
        rcases h with h | h
        · exact .inl (.inl h)
        · exact (ih h).imp_left .inr

theorem wcbPut_lineOk {l : List Host.Cell} {o : Nat} (v : Byte) (ho : o < 128) (h : LineOk l) : LineOk (wcbPut l o v) := by
  refine ⟨?_, fun c hc => ?_⟩
  · obtain ⟨h, -⟩ := h
    induction l with
    | nil => simp [wcbPut]
    | cons d l ih =>
      obtain ⟨p, w⟩ := d
      obtain ⟨hd, hl⟩ := List.pairwise_cons.1 h
      unfold wcbPut
      split
      · next hlt =>
        refine List.pairwise_cons.2 ⟨fun c hc => ?_, h⟩
        rcases List.mem_cons.1 hc with rfl | hc
        · exact hlt
        · exact hlt.trans (hd c hc)
      · split
        · next heq => subst heq; exact List.pairwise_cons.2 ⟨hd, hl⟩
        · refine List.pairwise_cons.2 ⟨fun c hc => ?_, ih hl⟩
          rcases mem_wcbPut hc with hc | rfl
          · exact hd c hc
          · show p < o
            omega
  · rcases mem_wcbPut hc with hc | rfl
    · exact h.2 c hc
    · exact ho

/-- Merged bytes are found at their offsets, the others where they were. -/
theorem find?_wcbMerge (bs : List Byte) (l : List Host.Cell) (o k : Nat) :
    (wcbMerge l o bs).find? (fun c => c.1 = k) =
      if o ≤ k ∧ k < o + bs.length then some (k, bs.getD (k - o) 0) else l.find? (fun c => c.1 = k) := by
  induction bs generalizing l o with
  | nil => rw [wcbMerge, if_neg (by simp)]
  | cons b bs ih =>
    rw [wcbMerge, ih, find?_wcbPut, List.length_cons]
    by_cases hk : k = o
    · subst hk
      simp
    · by_cases hr : o + 1 ≤ k ∧ k < o + 1 + bs.length
      · rw [if_pos hr, if_pos (by omega), show k - o = k - (o + 1) + 1 by omega, List.getD_cons_succ]
      · rw [if_neg hr, if_neg hk, if_neg (by omega)]

theorem wcbMerge_lineOk (bs : List Byte) {l : List Host.Cell} {o : Nat} (ho : o + bs.length ≤ 128) (h : LineOk l) :
    LineOk (wcbMerge l o bs) := by
  induction bs generalizing l o with
  | nil => exact h
  | cons b bs ih =>
    rw [List.length_cons] at ho
    exact ih (by omega) (wcbPut_lineOk b (by omega) h)

/-! ### Runs (R125) -/

/-- Writing bytes one by one: the runs of a line together are its bytes in their order. -/
theorem foldl_wcbRuns (l : List Host.Cell) (base : Nat) (m : List Host.Cell) :
    (wcbRuns l).foldl (fun m c => Memory.writeBytes m (base + c.1) c.2) m =
      l.foldl (fun m c => Memory.write m (base + c.1) c.2) m := by
  induction l generalizing m with
  | nil => rfl
  | cons c l ih =>
    obtain ⟨o, v⟩ := c
    rw [List.foldl_cons, ← ih, wcbRuns]
    split
    · next hr => rw [hr]; rfl
    · next p bs r hr =>
      rw [hr]
      split
      · next hp =>
        obtain ⟨rfl, -⟩ := hp
        rfl
      · rfl

theorem State.foldl_memWrite_mem (l : List (Nat × List Byte)) (base : Nat) (s : State) :
    (l.foldl (fun t c => t.memWrite (base + c.1) c.2) s).mem =
      l.foldl (fun m c => Memory.writeBytes m (base + c.1) c.2) s.mem := by
  induction l generalizing s with
  | nil => rfl
  | cons c l ih => exact ih _

/-- Writing an entry back writes its bytes. -/
theorem State.wcbWriteBack_mem (s : State) (e : WcbEntry) :
    (s.wcbWriteBack e).mem = e.bytes.foldl (fun m c => Memory.write m (e.line * 128 + c.1) c.2) s.mem :=
  (State.foldl_memWrite_mem _ _ s).trans (foldl_wcbRuns _ _ _)

/-- Bytes at other places stay. -/
theorem read_foldl_write_ne (l : List Host.Cell) (base : Nat) (m : List Host.Cell) (a : Nat) (h : ∀ c ∈ l, a ≠ base + c.1) :
    Memory.read (l.foldl (fun m c => Memory.write m (base + c.1) c.2) m) a = Memory.read m a := by
  induction l generalizing m with
  | nil => rfl
  | cons c l ih =>
    obtain ⟨hc, hl⟩ := List.forall_mem_cons.1 h
    rw [List.foldl_cons, ih _ hl, Memory.read_write_ne _ _ _ _ hc]

/-- Bytes with rising offsets are stored. -/
theorem read_foldl_write (l : List Host.Cell) (base : Nat) (m : List Host.Cell) (c : Host.Cell) (hm : Memory.wf m = true)
    (hl : l.Pairwise fun c d => c.1 < d.1) (hc : c ∈ l) :
    Memory.read (l.foldl (fun m c => Memory.write m (base + c.1) c.2) m) (base + c.1) = c.2 := by
  induction l generalizing m with
  | nil => simp at hc
  | cons d l ih =>
    obtain ⟨hd, hl⟩ := List.pairwise_cons.1 hl
    rw [List.foldl_cons]
    rcases List.mem_cons.1 hc with rfl | hc
    · rw [read_foldl_write_ne _ _ _ _ fun d hd' => by have := hd d hd'; omega, Memory.read_write _ _ _ hm]
    · exact ih _ (Memory.write_wf _ _ _ hm) hl hc

/-! ### What the buffer holds -/

/-- The lines `l` hold the byte `b` for the address `a`. -/
def HeldIn (l : List WcbEntry) (a : Nat) (b : Byte) : Prop := ∃ e ∈ l, e.line = a / 128 ∧ (a % 128, b) ∈ e.bytes

/-- No line has two entries, and every entry is a line: what `State.WcbOk` says of the buffer of a state. -/
def LinesOk (l : List WcbEntry) : Prop := l.Pairwise (fun e f => e.line ≠ f.line) ∧ ∀ e ∈ l, LineOk e.bytes

theorem State.wcbOk_iff (s : State) : s.WcbOk ↔ LinesOk s.wcb := Iff.rfl

theorem LinesOk.sublist {l k : List WcbEntry} (h : LinesOk k) (hs : l.Sublist k) : LinesOk l :=
  ⟨h.1.sublist hs, fun e he => h.2 e (hs.subset he)⟩

theorem LinesOk.perm {l k : List WcbEntry} (h : LinesOk k) (hp : l.Perm k) : LinesOk l :=
  ⟨(hp.pairwise_iff fun hne => Ne.symm hne).2 h.1, fun e he => h.2 e (hp.subset he)⟩

/-- Two entries of one line are one entry. -/
theorem LinesOk.eq_of_line {l : List WcbEntry} (h : LinesOk l) {e f : WcbEntry} (he : e ∈ l) (hf : f ∈ l)
    (hl : e.line = f.line) : e = f :=
  List.inj_on_of_nodup_map (List.pairwise_map.2 h.1) he hf hl

theorem LinesOk.find?_line_iff {l : List WcbEntry} (h : LinesOk l) (k : Nat) (e : WcbEntry) :
    l.find? (fun e => e.line = k) = some e ↔ e ∈ l ∧ e.line = k := by
  refine ⟨fun hf => ⟨List.mem_of_find?_eq_some hf, by simpa using List.find?_some hf⟩, ?_⟩
  rintro ⟨he, rfl⟩
  obtain ⟨f, hf⟩ := Option.isSome_iff_exists.1 (List.find?_isSome (p := fun f => f.line = e.line).2 ⟨e, he, by simp⟩)
  rw [hf, h.eq_of_line (List.mem_of_find?_eq_some hf) he (by simpa using List.find?_some hf)]

/-- A byte that the buffer holds is what the processor sees. -/
theorem State.coherentByte_held {s : State} {a : Nat} {b : Byte} (h : s.WcbOk) (hb : HeldIn s.wcb a b) :
    s.coherentByte a = b := by
  obtain ⟨e, he, hl, hc⟩ := hb
  unfold State.coherentByte
  rw [(LinesOk.find?_line_iff h _ e).2 ⟨he, hl⟩]
  dsimp only
  rw [(find?_offset_iff (h.2 e he).1 _ (a % 128, b)).2 ⟨hc, rfl⟩]

/-- Where the buffer holds no byte, the processor sees memory. -/
theorem State.coherentByte_not_held {s : State} {a : Nat} (hb : ∀ b, ¬ HeldIn s.wcb a b) :
    s.coherentByte a = Memory.read s.mem a := by
  unfold State.coherentByte
  split
  · rfl
  · next e he =>
    split
    · rfl
    · next c hc =>
      have hl : e.line = a / 128 := by simpa using List.find?_some he
      have ho : c.1 = a % 128 := by simpa using List.find?_some hc
      exact absurd ⟨e, List.mem_of_find?_eq_some he, hl, ho ▸ List.mem_of_find?_eq_some hc⟩ (hb c.2)

/-! ### Moving lines to memory -/

/-- A line moved to memory is stored there. -/
theorem State.read_wcbWriteBack_held {s : State} {e : WcbEntry} {a : Nat} {b : Byte} (hm : s.MemOk) (he : LineOk e.bytes)
    (hb : HeldIn [e] a b) : Memory.read (s.wcbWriteBack e).mem a = b := by
  obtain ⟨f, hf, hl, hc⟩ := hb
  rw [List.mem_singleton.1 hf] at hl hc
  have := read_foldl_write _ (e.line * 128) s.mem _ hm he.1 hc
  rwa [State.wcbWriteBack_mem, show a = e.line * 128 + a % 128 by omega]

theorem State.read_wcbWriteBack_not_held {s : State} {e : WcbEntry} {a : Nat} (he : LineOk e.bytes)
    (hb : ∀ b, ¬ HeldIn [e] a b) : Memory.read (s.wcbWriteBack e).mem a = Memory.read s.mem a := by
  rw [State.wcbWriteBack_mem]
  refine read_foldl_write_ne _ _ _ _ fun c hc ha => hb c.2 ⟨e, List.mem_singleton_self e, ?_, ?_⟩
  · have := he.2 c hc
    omega
  · have := he.2 c hc
    rwa [show a % 128 = c.1 by omega]

/-- Bytes that no line holds stay in memory as they are. -/
theorem State.read_foldl_wcbWriteBack_not_held {l : List WcbEntry} {s : State} {a : Nat} (hl : LinesOk l)
    (hb : ∀ b, ¬ HeldIn l a b) : Memory.read (l.foldl State.wcbWriteBack s).mem a = Memory.read s.mem a := by
  induction l generalizing s with
  | nil => rfl
  | cons e l ih =>
    have head : ∀ b, ¬ HeldIn [e] a b := fun b ⟨f, hf, h⟩ => hb b ⟨f, List.mem_cons.2 (.inl (List.mem_singleton.1 hf)), h⟩
    have tail : ∀ b, ¬ HeldIn l a b := fun b ⟨f, hf, h⟩ => hb b ⟨f, List.mem_cons_of_mem e hf, h⟩
    rw [List.foldl_cons, ih (hl.sublist (List.sublist_cons_self e l)) tail,
      State.read_wcbWriteBack_not_held (hl.2 e List.mem_cons_self) head]

/-- Lines moved to memory are stored there. -/
theorem State.read_foldl_wcbWriteBack_held {l : List WcbEntry} {s : State} {a : Nat} {b : Byte} (hm : s.MemOk) (hl : LinesOk l)
    (hb : HeldIn l a b) : Memory.read (l.foldl State.wcbWriteBack s).mem a = b := by
  induction l generalizing s with
  | nil => obtain ⟨_, he, -⟩ := hb; cases he
  | cons e l ih =>
    have hl' := hl.sublist (List.sublist_cons_self e l)
    obtain ⟨f, hf, hline, hc⟩ := hb
    rcases List.mem_cons.1 hf with rfl | hf
    · have tail : ∀ b, ¬ HeldIn l a b := fun b ⟨g, hg, hgl, _⟩ => (List.pairwise_cons.1 hl.1).1 g hg (hline.trans hgl.symm)
      rw [List.foldl_cons, State.read_foldl_wcbWriteBack_not_held hl' tail]
      exact State.read_wcbWriteBack_held hm (hl.2 f hf) ⟨f, List.mem_singleton_self f, hline, hc⟩
    · exact ih (State.wcbWriteBack_wf s e hm) hl' ⟨f, hf, hline, hc⟩

/-- Moving some lines of the buffer to memory changes no byte as the processor sees it (R121 to R126). -/
theorem State.coherentByte_evict {s t : State} {out kept : List WcbEntry} (hm : s.MemOk) (hs : s.WcbOk)
    (hp : (out ++ kept).Perm s.wcb) (ht : t.mem = (out.foldl State.wcbWriteBack s).mem) (hk : t.wcb = kept) (a : Nat) :
    t.coherentByte a = s.coherentByte a := by
  have hall : LinesOk (out ++ kept) := LinesOk.perm hs hp
  have hout : LinesOk out := hall.sublist (List.sublist_append_left out kept)
  have hkept : t.WcbOk := by
    rw [State.wcbOk_iff, hk]
    exact hall.sublist (List.sublist_append_right out kept)
  have apart {e f : WcbEntry} (he : e ∈ out) (hf : f ∈ kept) : e.line ≠ f.line := (List.pairwise_append.1 hall.1).2.2 e he f hf
  by_cases hheld : ∃ b, HeldIn s.wcb a b
  · obtain ⟨b, hb⟩ := hheld
    rw [State.coherentByte_held hs hb]
    obtain ⟨e, he, hline, hc⟩ := hb
    rcases List.mem_append.1 (hp.symm.subset he) with he | he
    · have gone : ∀ b, ¬ HeldIn t.wcb a b := fun b ⟨f, hf, hfl, _⟩ => apart he (hk ▸ hf) (hline.trans hfl.symm)
      rw [State.coherentByte_not_held gone, ht]
      exact State.read_foldl_wcbWriteBack_held hm hout ⟨e, he, hline, hc⟩
    · exact State.coherentByte_held hkept ⟨e, hk ▸ he, hline, hc⟩
  · have none : ∀ b, ¬ HeldIn s.wcb a b := fun b hb => hheld ⟨b, hb⟩
    have gone : ∀ b, ¬ HeldIn t.wcb a b := fun b ⟨f, hf, h⟩ => none b ⟨f, hp.subset (List.mem_append_right out (hk ▸ hf)), h⟩
    rw [State.coherentByte_not_held none, State.coherentByte_not_held gone, ht]
    exact State.read_foldl_wcbWriteBack_not_held hout fun b ⟨f, hf, h⟩ => none b ⟨f, hp.subset (List.mem_append_left kept hf), h⟩

/-- What stays in the buffer is still in order. -/
theorem State.wcbOk_evict {s t : State} {out kept : List WcbEntry} (hs : s.WcbOk) (hp : (out ++ kept).Perm s.wcb)
    (hk : t.wcb = kept) : t.WcbOk := by
  rw [State.wcbOk_iff, hk]
  exact (LinesOk.perm hs hp).sublist (List.sublist_append_right out kept)

/-! ### Flushing and evicting -/

/-- After a flush memory holds what the processor saw (R122, R124). -/
theorem State.read_wcbFlush {s : State} (hm : s.MemOk) (hs : s.WcbOk) (a : Nat) :
    Memory.read s.wcbFlush.mem a = s.coherentByte a :=
  State.coherentByte_evict (t := s.wcbFlush) (kept := []) hm hs (by simp) rfl rfl a

theorem filter_full_perm (l : List WcbEntry) :
    ((l.filter fun e => e.bytes.length = 128) ++ l.filter fun e => e.bytes.length ≠ 128).Perm l := by
  simpa using List.filter_append_perm (fun e : WcbEntry => decide (e.bytes.length = 128)) l

/-- Full lines leave the buffer unseen (R121). -/
theorem State.coherentByte_wcbSettle {s : State} (hm : s.MemOk) (hs : s.WcbOk) (a : Nat) :
    s.wcbSettle.coherentByte a = s.coherentByte a :=
  State.coherentByte_evict (t := s.wcbSettle) hm hs (filter_full_perm s.wcb) rfl rfl a

theorem State.wcbSettle_wcbOk {s : State} (hs : s.WcbOk) : s.wcbSettle.WcbOk := State.wcbOk_evict hs (filter_full_perm s.wcb) rfl

/-- What a buffer shows it also shows once its full lines have left. -/
theorem State.wcbSettle_seen {u : State} {f : Nat → Byte} (hm : u.MemOk) (hs : u.WcbOk) (hf : ∀ a, u.coherentByte a = f a) :
    u.wcbSettle.WcbOk ∧ ∀ a, u.wcbSettle.coherentByte a = f a :=
  ⟨State.wcbSettle_wcbOk hs, fun a => (State.coherentByte_wcbSettle hm hs a).trans (hf a)⟩

/-- `t` sees the same bytes as `s` and is as well formed. -/
def State.SeesAs (s t : State) : Prop := t.MemOk ∧ t.WcbOk ∧ ∀ a, t.coherentByte a = s.coherentByte a

theorem State.SeesAs.refl {s : State} (hm : s.MemOk) (hs : s.WcbOk) : s.SeesAs s := ⟨hm, hs, fun _ => rfl⟩

theorem State.SeesAs.trans {s t u : State} (h : s.SeesAs t) (g : t.SeesAs u) : s.SeesAs u :=
  ⟨g.1, g.2.1, fun a => (g.2.2 a).trans (h.2.2 a)⟩

/-- One line moves to memory (R125). -/
theorem State.seesAs_writeBack {s : State} {e : WcbEntry} {l : List WcbEntry} (hm : s.MemOk) (hs : s.WcbOk)
    (hp : (e :: l).Perm s.wcb) : s.SeesAs { s.wcbWriteBack e with wcb := l } :=
  ⟨State.wcbWriteBack_wf s e hm, State.wcbOk_evict (out := [e]) hs hp rfl,
    State.coherentByte_evict (out := [e]) hm hs hp rfl rfl⟩

/-- The other lines of a buffer that holds a line. -/
theorem LinesOk.cons_filter_perm {l : List WcbEntry} (h : LinesOk l) {f : WcbEntry} (hf : f ∈ l) :
    (f :: l.filter fun g => g.line ≠ f.line).Perm l := by
  have hl : l.Nodup := h.1.imp fun hne he => hne (congrArg WcbEntry.line he)
  refine (List.perm_ext_iff_of_nodup (List.nodup_cons.2 ⟨by simp, hl.filter _⟩) hl).2 fun e => ?_
  by_cases he : e = f
  · simp [he, hf]
  · have hline : e ∈ l → e.line ≠ f.line := fun hm hl => he (h.eq_of_line hm hf hl)
    simpa [he] using hline

/-- Free evictions are unseen (R126, U43). -/
theorem State.seesAs_wcbFreeEvict {s : State} (hm : s.MemOk) (hs : s.WcbOk) : s.SeesAs s.wcbFreeEvict := by
  unfold State.wcbFreeEvict
  split
  · exact .refl hm hs
  · next e hw =>
    split
    · exact State.seesAs_writeBack hm hs (hw ▸ .refl _)
    · exact .refl hm hs
  · next e f l hw =>
    have first : s.SeesAs (if s.freeBool 5100 then { s.wcbWriteBack e with wcb := f :: l } else s) ∧
        f ∈ (if s.freeBool 5100 then { s.wcbWriteBack e with wcb := f :: l } else s).wcb := by
      split
      · exact ⟨State.seesAs_writeBack hm hs (hw ▸ .refl _), List.mem_cons_self⟩
      · exact ⟨.refl hm hs, by simp [hw]⟩
    dsimp only
    generalize (if s.freeBool 5100 then { s.wcbWriteBack e with wcb := f :: l } else s) = s1 at first ⊢
    obtain ⟨h1, hf⟩ := first
    split
    · exact h1.trans (State.seesAs_writeBack h1.1 h1.2.1 (LinesOk.cons_filter_perm h1.2.1 hf))
    · exact h1

/-! ### Storing (R121, D11) -/

/-- The byte that the lines have for an address, if any. -/
def bufferedByte (l : List WcbEntry) (a : Nat) : Option Host.Cell :=
  (l.find? fun e => e.line = a / 128).bind fun e => e.bytes.find? fun c => c.1 = a % 128

theorem State.coherentByte_eq (s : State) (a : Nat) :
    s.coherentByte a = (bufferedByte s.wcb a).elim (Memory.read s.mem a) (·.2) := by
  unfold State.coherentByte bufferedByte
  cases s.wcb.find? fun e => e.line = a / 128 with
  | none => rfl
  | some e => dsimp only [Option.bind]; cases e.bytes.find? fun c => c.1 = a % 128 <;> rfl

/-- The stored bytes, and the others as before. -/
def storedOver (s : State) (pa : Nat) (bs : List Byte) (a : Nat) : Byte :=
  if pa ≤ a ∧ a < pa + bs.length then bs.getD (a - pa) 0 else s.coherentByte a

/-- The bytes of a store inside a line: the line, and the offsets in it. -/
theorem inRange_iff {pa n a : Nat} (hn : pa % 128 + n ≤ 128) :
    pa ≤ a ∧ a < pa + n ↔ a / 128 = pa / 128 ∧ pa % 128 ≤ a % 128 ∧ a % 128 < pa % 128 + n := by
  omega

/-- The entry of a line with the bytes of a store merged in. -/
def WcbEntry.merged (e : WcbEntry) (pa : Nat) (bs : List Byte) : WcbEntry :=
  if e.line = pa / 128 then { e with bytes := wcbMerge e.bytes (pa % 128) bs } else e

theorem WcbEntry.merged_line (e : WcbEntry) (pa : Nat) (bs : List Byte) : (e.merged pa bs).line = e.line := by
  unfold WcbEntry.merged; split <;> rfl

/-- A merged line has the stored bytes at their places. -/
theorem find?_merged {pa : Nat} {bs : List Byte} (l : List Host.Cell) {a : Nat} (hn : pa % 128 + bs.length ≤ 128)
    (ha : a / 128 = pa / 128) : (wcbMerge l (pa % 128) bs).find? (fun c => c.1 = a % 128) =
      if pa ≤ a ∧ a < pa + bs.length then some (a % 128, bs.getD (a - pa) 0) else l.find? (fun c => c.1 = a % 128) := by
  rw [find?_wcbMerge, show a % 128 - pa % 128 = a - pa by omega]
  simp only [inRange_iff hn, ha, true_and]

/-- A store into a line of the buffer. -/
theorem State.coherentByte_mergeLine {s : State} {pa : Nat} {bs : List Byte} (hn : pa % 128 + bs.length ≤ 128)
    (hl : ∃ e ∈ s.wcb, e.line = pa / 128) (a : Nat) :
    State.coherentByte { s with wcb := s.wcb.map fun e => e.merged pa bs } a = storedOver s pa bs a := by
  have hfind : (s.wcb.map fun e => e.merged pa bs).find? (fun e => e.line = a / 128) =
      (s.wcb.find? fun e => e.line = a / 128).map fun e => e.merged pa bs := by
    rw [List.find?_map]
    simp only [Function.comp_def, WcbEntry.merged_line]
  unfold storedOver
  rw [State.coherentByte_eq, State.coherentByte_eq]
  unfold bufferedByte
  dsimp only
  rw [hfind]
  cases hf : s.wcb.find? fun e => e.line = a / 128 with
  | none =>
    obtain ⟨e, he, hline⟩ := hl
    have hne : a / 128 ≠ pa / 128 := fun h => by simpa [hline, h] using List.find?_eq_none.1 hf e he
    rw [if_neg fun h => hne ((inRange_iff hn).1 h).1]
    rfl
  | some e =>
    have hline : e.line = a / 128 := by simpa using List.find?_some hf
    dsimp only [Option.map, Option.bind]
    unfold WcbEntry.merged
    split
    · next h =>
      dsimp only
      rw [find?_merged _ hn (hline.symm.trans h)]
      split <;> rfl
    · next h => rw [if_neg fun hr => h (hline.trans ((inRange_iff hn).1 hr).1)]

/-- A store into a new line. -/
theorem State.coherentByte_newLine {s : State} {pa : Nat} {bs : List Byte} (hn : pa % 128 + bs.length ≤ 128)
    (hl : ∀ e ∈ s.wcb, e.line ≠ pa / 128) (a : Nat) :
    State.coherentByte { s with wcb := s.wcb ++ [{ line := pa / 128, bytes := wcbMerge [] (pa % 128) bs }] } a =
      storedOver s pa bs a := by
  unfold storedOver
  rw [State.coherentByte_eq, State.coherentByte_eq]
  unfold bufferedByte
  dsimp only
  rw [List.find?_append]
  by_cases ha : a / 128 = pa / 128
  · have hnone : s.wcb.find? (fun e => e.line = a / 128) = none := List.find?_eq_none.2 fun e he => by simpa [ha] using hl e he
    rw [hnone, List.find?_singleton, if_pos (by simp [ha])]
    dsimp only [Option.or, Option.bind]
    rw [find?_merged _ hn ha]
    split <;> rfl
  · rw [if_neg fun h => ha ((inRange_iff hn).1 h).1, List.find?_singleton, if_neg (by simpa using Ne.symm ha), Option.or_none]

theorem LinesOk.merge {l : List WcbEntry} (h : LinesOk l) {pa : Nat} {bs : List Byte} (hn : pa % 128 + bs.length ≤ 128) :
    LinesOk (l.map fun e => e.merged pa bs) := by
  refine ⟨List.pairwise_map.2 (h.1.imp fun hne => by rwa [WcbEntry.merged_line, WcbEntry.merged_line]), fun f hf => ?_⟩
  obtain ⟨e, he, rfl⟩ := List.mem_map.1 hf
  unfold WcbEntry.merged
  split
  · exact wcbMerge_lineOk bs hn (h.2 e he)
  · exact h.2 e he

theorem LinesOk.append {l : List WcbEntry} (h : LinesOk l) {e : WcbEntry} (hl : ∀ f ∈ l, f.line ≠ e.line) (he : LineOk e.bytes) :
    LinesOk (l ++ [e]) := by
  refine ⟨List.pairwise_append.2 ⟨h.1, List.pairwise_singleton _ e, ?_⟩, fun f hf => ?_⟩
  · simpa using hl
  · rcases List.mem_append.1 hf with hf | hf
    · exact h.2 f hf
    · rw [List.mem_singleton.1 hf]; exact he

/-- The buffer with room for another line: of two, the oldest goes to memory (D11). -/
def State.withRoom (s : State) : State :=
  match s.wcb with
  | e :: f :: l => { s.wcbWriteBack e with wcb := f :: l }
  | _ => s

theorem State.seesAs_withRoom {s : State} (hm : s.MemOk) (hs : s.WcbOk) : s.SeesAs s.withRoom := by
  unfold State.withRoom
  split
  · next e f l hw => exact State.seesAs_writeBack hm hs (hw ▸ .refl _)
  · exact .refl hm hs

theorem State.mem_withRoom {s : State} {e : WcbEntry} (h : e ∈ s.withRoom.wcb) : e ∈ s.wcb := by
  unfold State.withRoom at h
  split at h
  · next hw => rw [hw]; exact List.mem_cons_of_mem _ h
  · exact h

/-- A store finds its line in the buffer, or makes a new one. -/
theorem State.wcStore_eq (s : State) (pa : Nat) (bs : List Byte) :
    s.wcStore pa bs =
      if s.wcb.any (fun e => e.line = pa / 128) then State.wcbSettle { s with wcb := s.wcb.map fun e => e.merged pa bs }
      else State.wcbSettle { s.withRoom with
        wcb := s.withRoom.wcb ++ [{ line := pa / 128, bytes := wcbMerge [] (pa % 128) bs }] } := rfl

/-- A store into the buffer is seen at its bytes and nowhere else (R121). -/
theorem State.wcStore_seen {s : State} {pa : Nat} {bs : List Byte} (hm : s.MemOk) (hs : s.WcbOk)
    (hn : pa % 128 + bs.length ≤ 128) :
    (s.wcStore pa bs).WcbOk ∧ ∀ a, (s.wcStore pa bs).coherentByte a = storedOver s pa bs a := by
  rw [State.wcStore_eq]
  split
  · next h =>
    have hl : ∃ e ∈ s.wcb, e.line = pa / 128 := by simpa using h
    exact State.wcbSettle_seen hm (LinesOk.merge hs hn) (State.coherentByte_mergeLine hn hl)
  · next h =>
    obtain ⟨hm', hs', hsee⟩ := State.seesAs_withRoom hm hs
    have hl : ∀ e ∈ s.withRoom.wcb, e.line ≠ pa / 128 := fun e he hline =>
      h (List.any_eq_true.2 ⟨e, State.mem_withRoom he, by simpa using hline⟩)
    refine State.wcbSettle_seen hm' (LinesOk.append hs' hl (wcbMerge_lineOk bs hn ⟨.nil, nofun⟩)) fun a => ?_
    rw [State.coherentByte_newLine hn hl a, storedOver, storedOver, hsee]

end Sys2Proof.Machine

section

open Sys2Proof Machine

/-- Settles O41: a store merges into its line or makes one, and a line that leaves the buffer is written to where it was seen. -/
theorem writeCoalescingIsCoherent : Obligations.WriteCoalescingIsCoherent := by
  unfold Obligations.WriteCoalescingIsCoherent
  intro s pa bs hm hb hs hn t
  obtain ⟨hok, hseen⟩ : t.WcbOk ∧ ∀ a, t.coherentByte a = storedOver s pa bs a := State.wcStore_seen hm hs hn
  have hmem : t.MemOk := s.wcStore_wf pa bs hm
  obtain ⟨-, hfree, hfreeSeen⟩ := State.seesAs_wcbFreeEvict hmem hok
  exact ⟨hseen, hmem, (s.wcStore_memoryOnly pa bs).buffersOk (s.wcStore_length_le pa bs hb.2.1) hb, hok, rfl, hfree,
    State.read_wcbFlush hmem hok, hfreeSeen⟩

end

end

section
/-! SUPPORT. Bytes in both byte orders (R82): what a run of stored bytes holds at each place, and what a load makes of it. -/

namespace Sys2Proof.Machine

/-- The place, counted from the least significant byte, of the `k`-th of `n` bytes from the lowest address (R82). -/
def bytePlace (n : Nat) (be : Bool) (k : Nat) : Nat := if be then n - 1 - k else k

theorem bytesLE_length (v n : Nat) : (bytesLE v n).length = n := by
  induction n generalizing v with
  | zero => rfl
  | succ n ih => exact congrArg (· + 1) (ih _)

@[simp] theorem storeBytes_length (v n : Nat) (be : Bool) : (storeBytes v n be).length = n := by
  cases be
  · exact bytesLE_length v n
  · exact List.length_reverse.trans (bytesLE_length v n)

theorem getElem_bytesLE (v n k : Nat) (h : k < (bytesLE v n).length) : (bytesLE v n)[k] = BitVec.ofNat 8 (v / 256 ^ k) := by
  induction n generalizing v k with
  | zero => exact absurd h (Nat.not_lt_zero k)
  | succ n ih =>
    cases k with
    | zero => simp [bytesLE]
    | succ k =>
      have hk : k < (bytesLE (v / 256) n).length := by simpa [bytesLE] using h
      simpa [bytesLE, Nat.div_div_eq_div_mul, Nat.pow_succ'] using ih (v / 256) k hk

theorem getElem_storeBytes (v n : Nat) (be : Bool) (k : Nat) (h : k < (storeBytes v n be).length) :
    (storeBytes v n be)[k] = BitVec.ofNat 8 (v / 256 ^ bytePlace n be k) := by
  cases be
  · exact getElem_bytesLE v n k h
  · have hr : k < (bytesLE v n).reverse.length := h
    refine (List.getElem_reverse hr).trans ?_
    rw [getElem_bytesLE, bytesLE_length]
    rfl

/-- The memory `m` holds the low `n` bytes of `v` from the address `a` on. -/
def Holds (m : List Host.Cell) (a n v : Nat) (be : Bool) : Prop :=
  ∀ k, k < n → (Memory.read m (a + k)).toNat = v / 256 ^ bytePlace n be k % 256

/-- A store is held. -/
theorem holds_writeBytes {m : List Host.Cell} (hm : Memory.wf m = true) (a n v : Nat) (be : Bool) :
    Holds (Memory.writeBytes m a (storeBytes v n be)) a n v be := by
  intro k hk
  have hk' : k < (storeBytes v n be).length := by rwa [storeBytes_length]
  rw [Memory.read_writeBytes _ m a k hk' hm, getElem_storeBytes, BitVec.toNat_ofNat]

theorem loadLE_of_holds {m : List Host.Cell} {a n v : Nat} (h : Holds m a n v false) : Memory.loadLE m a n = v % 256 ^ n := by
  induction n with
  | zero => simp [Memory.loadLE, Nat.mod_one]
  | succ n ih =>
    have last : (Memory.read m (a + n)).toNat = v / 256 ^ n % 256 := h n (Nat.lt_succ_self n)
    have rest : Memory.loadLE m a n = v % 256 ^ n := ih fun k hk => h k (Nat.lt_succ_of_lt hk)
    rw [Memory.loadLE, last, rest, Nat.mod_pow_succ, Nat.pow_mul, Nat.mul_comm]

theorem loadBE_of_holds {m : List Host.Cell} {a n v : Nat} (h : Holds m a n v true) : Memory.loadBE m a n = v % 256 ^ n := by
  induction n generalizing v with
  | zero => simp [Memory.loadBE, Nat.mod_one]
  | succ n ih =>
    have last : (Memory.read m (a + n)).toNat = v % 256 := by
      simpa [bytePlace] using h n (Nat.lt_succ_self n)
    have rest : Memory.loadBE m a n = v / 256 % 256 ^ n := by
      refine ih fun k hk => ?_
      rw [h k (Nat.lt_succ_of_lt hk), Nat.div_div_eq_div_mul, ← Nat.pow_succ']
      simp only [bytePlace, if_true]
      rw [show n + 1 - 1 - k = n - 1 - k + 1 by omega]
    rw [Memory.loadBE, last, rest, Nat.pow_succ', Nat.mod_mul]
    omega

/-- A load gives what memory holds (R82). -/
theorem load_of_holds {m : List Host.Cell} {a n v : Nat} {be : Bool} (h : Holds m a n v be) :
    Memory.load m a n be = v % 256 ^ n := by
  cases be
  · exact loadLE_of_holds h
  · exact loadBE_of_holds h

theorem loadLE_lt (m : List Host.Cell) (a n : Nat) : Memory.loadLE m a n < 256 ^ n := by
  induction n with
  | zero => exact Nat.one_pos
  | succ n ih =>
    have hb := (Memory.read m (a + n)).isLt
    rw [Memory.loadLE, Nat.pow_mul, show 2 ^ 8 = 256 from rfl, Nat.pow_succ]
    have := Nat.mul_le_mul_right (256 ^ n) (Nat.le_of_lt_succ hb)
    omega

/-- The bytes of a loaded value are those of memory (R82). -/
theorem load_byte (m : List Host.Cell) (a : Nat) {n k : Nat} (be : Bool) (hk : k < n) :
    Memory.load m a n be / 256 ^ k % 256 = (Memory.read m (a + bytePlace n be k)).toNat := by
  have byte (p : Nat) : (Memory.read m p).toNat < 256 := (Memory.read m p).isLt
  cases be
  · show Memory.loadLE m a n / 256 ^ k % 256 = (Memory.read m (a + k)).toNat
    induction n with
    | zero => exact absurd hk (Nat.not_lt_zero k)
    | succ n ih =>
      rw [Memory.loadLE, Nat.pow_mul]
      rcases Nat.lt_succ_iff_lt_or_eq.1 hk with hk | rfl
      · rw [← ih hk]
        obtain ⟨d, rfl⟩ := Nat.exists_eq_add_of_lt hk
        rw [show (2 ^ 8) ^ (k + d + 1) = 256 ^ k * (256 * 256 ^ d) by ring, Nat.mul_left_comm,
          Nat.add_mul_div_left _ _ (by positivity), Nat.mul_left_comm, Nat.add_mul_mod_self_left]
      · rw [Nat.add_mul_div_right _ _ (by positivity), Nat.div_eq_of_lt (loadLE_lt m a k), Nat.zero_add,
          Nat.mod_eq_of_lt (byte _)]
  · show Memory.loadBE m a n / 256 ^ k % 256 = (Memory.read m (a + (n - 1 - k))).toNat
    induction n generalizing k with
    | zero => exact absurd hk (Nat.not_lt_zero k)
    | succ n ih =>
      have hb := byte (a + n)
      rw [Memory.loadBE]
      cases k with
      | zero =>
        rw [Nat.pow_zero, Nat.div_one]
        simp only [Nat.add_sub_cancel, Nat.sub_zero]
        omega
      | succ k =>
        rw [Nat.pow_succ', ← Nat.div_div_eq_div_mul, show (Memory.loadBE m a n * 256 + (Memory.read m (a + n)).toNat) / 256 =
          Memory.loadBE m a n by omega, ih (Nat.lt_of_succ_lt_succ hk), show n + 1 - 1 - (k + 1) = n - 1 - k by omega]

/-- In the other byte order the bytes of a stored value come reversed (R82). -/
theorem load_reversed {m : List Host.Cell} {a n v k : Nat} {be : Bool} (h : Holds m a n v be) (hk : k < n) :
    Memory.load m a n (!be) / 256 ^ k % 256 = v / 256 ^ (n - 1 - k) % 256 := by
  rw [load_byte m a (!be) hk]
  cases be
  · exact h (n - 1 - k) (by omega)
  · exact h k hk

/-- What a store leaves in memory, for loads in both orders and for the other bytes. -/
theorem stored_bytes (m : List Host.Cell) (pa n v : Nat) (be : Bool) (hm : Memory.wf m = true) :
    let m' := Memory.writeBytes m pa (storeBytes v n be)
    Memory.load m' pa n be = v % 256 ^ n ∧ Memory.wf m' = true ∧
    (∀ k, k < n → Memory.load m' pa n (!be) / 256 ^ k % 256 = v / 256 ^ (n - 1 - k) % 256) ∧
    ∀ a, a < pa ∨ pa + n ≤ a → Memory.read m' a = Memory.read m a := by
  intro m'
  have held : Holds m' pa n v be := holds_writeBytes hm pa n v be
  refine ⟨load_of_holds held, Memory.writeBytes_wf _ m pa hm, fun k hk => load_reversed held hk, fun a ha => ?_⟩
  exact Memory.read_writeBytes_ne _ m pa a (by rwa [storeBytes_length])

end Sys2Proof.Machine

end

section
/-! SUPPORT. The memory formats of floating-point values (R392 to R395): sign, exponent and significand of what a load makes of the
bytes and of what a store writes, and the numbers they stand for. -/

namespace Sys2Proof.Machine

open Forms

/-! ### Fields as numbers -/

theorem toNat_append_eq (x : BitVec n) (y : BitVec m) : (x ++ y).toNat = x.toNat * 2 ^ m + y.toNat := by
  rw [BitVec.toNat_append, ← Nat.shiftLeft_add_eq_or_of_lt y.isLt, Nat.shiftLeft_eq]

theorem toNat_ofBool_mul (b : Bool) (k : Nat) : (BitVec.ofBool b).toNat * k = if b then k else 0 := by
  cases b
  · exact Nat.zero_mul k
  · exact Nat.one_mul k

/-- A field of a word of memory. -/
theorem toNat_extract_ofNat {n v : Nat} (hv : v < 2 ^ n) (k w : Nat) :
    ((BitVec.ofNat n v).extractLsb' k w).toNat = v / 2 ^ k % 2 ^ w := by
  rw [BitVec.extractLsb'_toNat, Nat.shiftRight_eq_div_pow, BitVec.toNat_ofNat, Nat.mod_eq_of_lt hv]

/-- The top bit of a word of memory. -/
theorem getLsbD_top {n v : Nat} (hv : v < 2 ^ (n + 1)) : (BitVec.ofNat (n + 1) v).getLsbD n = decide (v / 2 ^ n = 1) := by
  have hlt : v / 2 ^ n < 2 := Nat.div_lt_of_lt_mul (by rwa [← Nat.pow_succ])
  rw [← BitVec.testBit_toNat, BitVec.toNat_ofNat, Nat.mod_eq_of_lt hv, Nat.testBit_eq_decide_div_mod_eq, Nat.mod_eq_of_lt hlt]

/-- Bit 63 of a significand, its integer bit. -/
theorem bit63_iff (x : Word) : x.getLsbD 63 = true ↔ 2 ^ 63 ≤ x.toNat := by
  have := x.isLt
  rw [← BitVec.testBit_toNat, Nat.testBit_eq_decide_div_mod_eq, decide_eq_true_eq]
  omega

/-! ### Loads of single and double precision (R392) -/

/-- The register value `r` holds the fields of `v`, a value of a format with an exponent field of `ew` bits and a fraction of `fw` bits. -/
structure Unpacks (r : FReg) (ew fw v : Nat) : Prop where
  sign : r.sign = decide (v / 2 ^ (ew + fw) = 1)
  exp  : r.exp.toNat = if v / 2 ^ fw % 2 ^ ew = 2 ^ ew - 1 then 0x1FFFF
    else if v / 2 ^ fw % 2 ^ ew = 0 then (if v % 2 ^ fw = 0 then 0 else 65537 - 2 ^ (ew - 1))
    else v / 2 ^ fw % 2 ^ ew + (65536 - 2 ^ (ew - 1))
  sig  : r.sig.toNat = (if v / 2 ^ fw % 2 ^ ew = 0 then 0 else 2 ^ 63) + v % 2 ^ fw * 2 ^ (63 - fw)

/-- The fields as the conversions write them: `d` is the exponent of a denormal number and `b` what is added to the exponent field. -/
theorem unpacks_of_fields {ew fw v : Nat} {r : FReg} {e : BitVec ew} {m : BitVec fw} {d b : BitVec 17} (hew : ew ≤ 15) (hfw : fw ≤ 63)
    (he : e.toNat = v / 2 ^ fw % 2 ^ ew) (hm : m.toNat = v % 2 ^ fw) (hd : d.toNat = 65537 - 2 ^ (ew - 1))
    (hb : b.toNat = 65536 - 2 ^ (ew - 1)) (hsign : r.sign = decide (v / 2 ^ (ew + fw) = 1))
    (hexp : r.exp = if e = BitVec.allOnes ew then 0x1FFFF else if e = 0 then (if m = 0 then 0 else d) else e.setWidth 17 + b)
    (hsig : r.sig.toNat = (BitVec.ofBool (e != 0) ++ m).toNat * 2 ^ (63 - fw)) : Unpacks r ew fw v := by
  have heq (k : BitVec ew) : e = k ↔ v / 2 ^ fw % 2 ^ ew = k.toNat := by rw [← he, BitVec.toNat_inj]
  have hmz : m = 0 ↔ v % 2 ^ fw = 0 := by rw [← hm, ← BitVec.toNat_inj]; rfl
  have hlt : 2 ^ ew ≤ 2 ^ 15 := Nat.pow_le_pow_right (by decide) hew
  have helt : v / 2 ^ fw % 2 ^ ew < 2 ^ ew := Nat.mod_lt _ (by positivity)
  refine ⟨hsign, ?_, ?_⟩
  · rw [hexp]
    simp only [heq, hmz, BitVec.toNat_allOnes, show (0 : BitVec ew).toNat = 0 from rfl]
    repeat' split
    · rfl
    · rfl
    · exact hd
    · rw [BitVec.toNat_add, BitVec.toNat_setWidth, hb, he]
      have := Nat.two_pow_pos (ew - 1)
      omega
  · have hbool : (BitVec.ofBool (e != 0)).toNat = if v / 2 ^ fw % 2 ^ ew = 0 then 0 else 1 := by
      by_cases h : e = 0
      · simp [h, (heq 0).1 h]
      · have hne : ¬ v / 2 ^ fw % 2 ^ ew = 0 := fun h' => h ((heq 0).2 h')
        rw [if_neg hne, bne_iff_ne.2 h]
        rfl
    have hpow : 2 ^ fw * 2 ^ (63 - fw) = 2 ^ 63 := by rw [← Nat.pow_add, Nat.add_sub_cancel' hfw]
    rw [hsig, toNat_append_eq, hbool, hm, Nat.add_mul, Nat.mul_assoc, hpow]
    split <;> simp

theorem single_unpacks {v : Nat} (hv : v < 2 ^ 32) : Unpacks (FpFormat.single.toReg v) 8 23 v :=
  unpacks_of_fields (e := (BitVec.ofNat 32 v).extractLsb' 23 8) (m := (BitVec.ofNat 32 v).extractLsb' 0 23) (d := 0xFF81) (b := 0xFF80)
    (by decide) (by decide) (toNat_extract_ofNat hv 23 8) ((toNat_extract_ofNat hv 0 23).trans (by rw [Nat.pow_zero, Nat.div_one])) rfl rfl
    (getLsbD_top hv) rfl
    ((toNat_append_eq _ 0#40).trans (Nat.add_zero _))

theorem double_unpacks {v : Nat} (hv : v < 2 ^ 64) : Unpacks (FpFormat.double.toReg v) 11 52 v :=
  unpacks_of_fields (e := (BitVec.ofNat 64 v).extractLsb' 52 11) (m := (BitVec.ofNat 64 v).extractLsb' 0 52) (d := 0xFC01) (b := 0xFC00)
    (by decide) (by decide) (toNat_extract_ofNat hv 52 11) ((toNat_extract_ofNat hv 0 52).trans (by rw [Nat.pow_zero, Nat.div_one])) rfl rfl
    (getLsbD_top hv) rfl
    ((toNat_append_eq _ 0#11).trans (Nat.add_zero _))

/-- A register whose exponent field is neither all ones nor that of NaTVal holds a number. -/
theorem isFinite_of_exp {r : FReg} (h : r.exp.toNat < 0x1FFFE) : isFinite r := by
  refine ⟨fun he => ?_, fun he => ?_⟩
  · rw [he] at h; exact absurd h (by decide)
  · rw [he] at h; exact absurd h (by decide)

/-- A number in units of the last place of the fraction. -/
theorem scaled_fraction (k fw : Nat) (hfw : fw ≤ 63) (x : ℤ) :
    ((k * 2 ^ (63 - fw) : ℕ) : ℚ) * 2 ^ (x - 63) = k * 2 ^ (x - fw) := by
  have : x - fw = ((63 - fw : ℕ) : ℤ) + (x - 63) := by rw [Nat.cast_sub hfw]; ring
  rw [this, zpow_add₀ (by norm_num), zpow_natCast]
  push_cast
  ring

section Reads

variable {r : FReg} {ew fw v : Nat}

/-- The number that the fields stand for (R502, R392). -/
theorem Unpacks.numberOf_eq (h : Unpacks r ew fw v) (hew : ew ≤ 15) (hfw : fw ≤ 62) (hv : v < 2 ^ (1 + ew + fw))
    (hne : v / 2 ^ fw % 2 ^ ew ≠ 2 ^ ew - 1) : numberOf r = memNumber ew fw v := by
  have hB : 2 ^ (ew - 1) ≤ 2 ^ 14 := Nat.pow_le_pow_right (by decide) (by omega)
  have hBi : ((2 : ℤ) ^ (ew - 1)) = ((2 ^ (ew - 1) : ℕ) : ℤ) := by push_cast; rfl
  have hsign : v / 2 ^ (ew + fw) % 2 = v / 2 ^ (ew + fw) := by
    refine Nat.mod_eq_of_lt (Nat.div_lt_of_lt_mul ?_)
    rwa [← Nat.pow_succ, show (ew + fw).succ = 1 + ew + fw by omega]
  have hexp0 : r.exp = 0 ↔ r.exp.toNat = 0 := by rw [← BitVec.toNat_inj]; rfl
  have hsgn : (if r.sign then (-1 : ℚ) else 1) = if v / 2 ^ (ew + fw) % 2 = 1 then -1 else 1 := by
    rw [h.sign, hsign]; simp
  unfold numberOf memNumber
  dsimp only
  rw [hsgn, mul_assoc]
  congr 1
  have hx := h.exp
  rw [if_neg hne] at hx
  rw [h.sig, hBi]
  by_cases he : v / 2 ^ fw % 2 ^ ew = 0
  · rw [if_pos he] at hx ⊢
    rw [if_pos he, Nat.zero_add, scaled_fraction _ _ (by omega)]
    by_cases hm : v % 2 ^ fw = 0
    · simp [hm]
    · rw [if_neg hm] at hx
      rw [if_neg (by rw [hexp0]; omega)]
      congr 2
      omega
  · rw [if_neg he] at hx ⊢
    have hpow : 2 ^ 63 = 2 ^ fw * 2 ^ (63 - fw) := by rw [← Nat.pow_add, Nat.add_sub_cancel' (by omega)]
    rw [if_neg he, hpow, ← Nat.add_mul, scaled_fraction _ _ (by omega), if_neg (by rw [hexp0]; omega)]
    congr 2
    omega

theorem Unpacks.exp_lt (h : Unpacks r ew fw v) (hew : ew ≤ 15) (hne : v / 2 ^ fw % 2 ^ ew ≠ 2 ^ ew - 1) : r.exp.toNat < 0x1FFFE := by
  have hlt : 2 ^ ew ≤ 2 ^ 15 := Nat.pow_le_pow_right (by decide) hew
  have helt : v / 2 ^ fw % 2 ^ ew < 2 ^ ew := Nat.mod_lt _ (by positivity)
  have := Nat.two_pow_pos (ew - 1)
  rw [h.exp, if_neg hne]
  repeat' split
  all_goals omega

theorem Unpacks.sig_normal (h : Unpacks r ew fw v) (he : v / 2 ^ fw % 2 ^ ew ≠ 0) :
    r.sig.toNat = 2 ^ 63 + v % 2 ^ fw * 2 ^ (63 - fw) := by rw [h.sig, if_neg he]

/-- The first bit of the fraction is bit 62 of the significand. -/
theorem Unpacks.quiet_bit (h : Unpacks r ew fw v) (he : v / 2 ^ fw % 2 ^ ew ≠ 0) (h0 : 0 < fw) (hfw : fw ≤ 62) :
    r.sig.getLsbD 62 = v.testBit (fw - 1) := by
  rw [← BitVec.testBit_toNat, h.sig_normal he, Nat.testBit_two_pow_add_gt (by decide), Nat.testBit_mul_two_pow,
    Nat.testBit_mod_two_pow, show 62 - (63 - fw) = fw - 1 by omega]
  simp only [show 63 - fw ≤ 62 by omega, show fw - 1 < fw by omega, decide_true, Bool.true_and]

/-- What a load of single or double precision makes of the bytes. -/
theorem formatReads_of_unpacks {f : FpFormat} (hu : ∀ v, v < 2 ^ (1 + ew + fw) → Unpacks (f.toReg v) ew fw v) (h2 : 2 ≤ ew)
    (hew : ew ≤ 15) (h0 : 0 < fw) (hfw : fw ≤ 62) : FormatReads f ew fw := by
  intro v hv
  have h := hu v hv
  have hB : 2 ^ (ew - 1) ≤ 2 ^ 14 := Nat.pow_le_pow_right (by decide) (by omega)
  have hone : 2 ^ ew - 1 ≠ 0 := by
    have : 2 ^ 2 ≤ 2 ^ ew := Nat.pow_le_pow_right (by decide) h2
    omega
  have special (hones : v / 2 ^ fw % 2 ^ ew = 2 ^ ew - 1) : (f.toReg v).exp = 0x1FFFF := by
    apply BitVec.eq_of_toNat_eq
    rw [h.exp, if_pos hones]
    rfl
  have leading (he : v / 2 ^ fw % 2 ^ ew ≠ 0) : (f.toReg v).sig.getLsbD 63 = true := by
    rw [bit63_iff, h.sig_normal he]
    exact Nat.le_add_right _ _
  refine ⟨h.sign, fun hne => ?_, fun hones hm => ?_, fun hones hm => ?_⟩
  · have hfin := isFinite_of_exp (h.exp_lt hew hne)
    refine ⟨hfin, h.numberOf_eq hew hfw hv hne, fun he => ⟨hfin, fun hz => ?_, leading he⟩⟩
    have hx := h.exp
    rw [hz, if_neg hne, if_neg he, show (0 : BitVec 17).toNat = 0 from rfl] at hx
    omega
  · refine ⟨special hones, BitVec.eq_of_toNat_eq ?_, h.sign⟩
    rw [h.sig_normal (hones ▸ hone), hm, Nat.zero_mul]
    rfl
  · have hsig := h.sig_normal (hones ▸ hone)
    refine ⟨⟨special hones, leading (hones ▸ hone), fun hinf => ?_, h.quiet_bit (hones ▸ hone) h0 hfw⟩, hsig⟩
    rw [hinf, show (0x8000000000000000 : Word).toNat = 2 ^ 63 from rfl] at hsig
    have : 0 < v % 2 ^ fw * 2 ^ (63 - fw) := Nat.mul_pos (Nat.pos_of_ne_zero hm) (Nat.two_pow_pos _)
    omega

end Reads

/-! ### Stores of single and double precision (R395) -/

section Writes

variable {ew fw : Nat}

/-- The exponent field of a store; `b` is what a load adds to it. -/
theorem memExp_toNat (r : FReg) {b : BitVec 17} (h1 : 1 ≤ ew) (hew : ew ≤ 15) (hb : b.toNat = 65536 - 2 ^ (ew - 1)) :
    (memExp r b ew).toNat = if r.exp = 0x1FFFF then 2 ^ ew - 1 else if r.exp = 0 ∨ r.sig.getLsbD 63 = false then 0
      else (r.exp.toNat + 2 ^ 17 + (2 ^ (ew - 1) - 1) - 65535) % 2 ^ ew := by
  have hB : 2 ^ (ew - 1) ≤ 2 ^ 14 := Nat.pow_le_pow_right (by decide) (by omega)
  have hB0 := Nat.two_pow_pos (ew - 1)
  have hcond : (decide (r.exp = 0) || !r.sig.getLsbD 63) = true ↔ r.exp = 0 ∨ r.sig.getLsbD 63 = false := by simp
  unfold memExp
  simp only [hcond]
  split
  · exact BitVec.toNat_allOnes
  · split
    · rfl
    · have hx : 2 ^ 17 - (65536 - 2 ^ (ew - 1)) + r.exp.toNat = r.exp.toNat + 2 ^ 17 + (2 ^ (ew - 1) - 1) - 65535 := by omega
      rw [BitVec.toNat_setWidth, BitVec.toNat_sub, hb, Nat.mod_mod_of_dvd _ (Nat.pow_dvd_pow 2 (by omega)), hx]

/-- What a store of single or double precision writes. -/
theorem formatWrites_of_fields {f : FpFormat} {b : BitVec 17} (h1 : 1 ≤ ew) (hew : ew ≤ 15) (hb : b.toNat = 65536 - 2 ^ (ew - 1))
    (hf : ∀ r, f.toMem r = (BitVec.ofBool r.sign ++ memExp r b ew ++ r.sig.extractLsb' (63 - fw) fw).toNat) :
    FormatWrites f ew fw := by
  intro r
  dsimp only
  rw [hf, toNat_append_eq, toNat_append_eq, memExp_toNat r h1 hew hb, BitVec.extractLsb'_toNat, Nat.shiftRight_eq_div_pow,
    Nat.add_mul, Nat.mul_assoc, ← Nat.pow_add, toNat_ofBool_mul]

theorem single_writes : FormatWrites .single 8 23 :=
  formatWrites_of_fields (b := 0xFF80) (by decide) (by decide) rfl fun _ => rfl

theorem double_writes : FormatWrites .double 11 52 :=
  formatWrites_of_fields (b := 0xFC00) (by decide) (by decide) rfl fun _ => rfl

/-- A value of single or double precision survives a load and a store. -/
theorem toMem_toReg_of_unpacks {f : FpFormat} {v : Nat} (hw : FormatWrites f ew fw) (hu : Unpacks (f.toReg v) ew fw v) (h1 : 1 ≤ ew)
    (hew : ew ≤ 15) (hfw : fw ≤ 62) (hv : v < 2 ^ (1 + ew + fw)) : f.toMem (f.toReg v) = v := by
  have hB : 2 ^ (ew - 1) ≤ 2 ^ 14 := Nat.pow_le_pow_right (by decide) (by omega)
  have hB0 := Nat.two_pow_pos (ew - 1)
  have hlt : v / 2 ^ fw % 2 ^ ew < 2 ^ ew := Nat.mod_lt _ (by positivity)
  have hE : 2 ^ ew ≤ 2 ^ 15 := Nat.pow_le_pow_right (by decide) hew
  have hm : v % 2 ^ fw < 2 ^ fw := Nat.mod_lt _ (by positivity)
  have hpow : 2 ^ 63 = 2 ^ fw * 2 ^ (63 - fw) := by rw [← Nat.pow_add, Nat.add_sub_cancel' (by omega)]
  have hexp (k : BitVec 17) : (f.toReg v).exp = k ↔ (f.toReg v).exp.toNat = k.toNat := BitVec.toNat_inj.symm
  have hsub : v % 2 ^ fw * 2 ^ (63 - fw) < 2 ^ 63 := hpow ▸ Nat.mul_lt_mul_of_pos_right hm (Nat.two_pow_pos _)
  have hbit : (f.toReg v).sig.getLsbD 63 = false ↔ v / 2 ^ fw % 2 ^ ew = 0 := by
    rw [← Bool.not_eq_true, bit63_iff, hu.sig]
    split <;> omega
  have hfield : (if (f.toReg v).exp = 0x1FFFF then 2 ^ ew - 1
      else if (f.toReg v).exp = 0 ∨ (f.toReg v).sig.getLsbD 63 = false then 0
      else ((f.toReg v).exp.toNat + 2 ^ 17 + (2 ^ (ew - 1) - 1) - 65535) % 2 ^ ew) = v / 2 ^ fw % 2 ^ ew := by
    simp only [hexp, hbit]
    rw [hu.exp, show (0x1FFFF : BitVec 17).toNat = 0x1FFFF from rfl, show (0 : BitVec 17).toNat = 0 from rfl]
    by_cases hones : v / 2 ^ fw % 2 ^ ew = 2 ^ ew - 1
    · simp [hones]
    · by_cases he : v / 2 ^ fw % 2 ^ ew = 0
      · rw [if_neg hones, if_pos he, if_neg (by split <;> omega), if_pos (.inr he), he]
      · have hx : v / 2 ^ fw % 2 ^ ew + (65536 - 2 ^ (ew - 1)) + 2 ^ 17 + (2 ^ (ew - 1) - 1) - 65535 =
            v / 2 ^ fw % 2 ^ ew + 2 ^ 17 := by omega
        rw [if_neg hones, if_neg he, if_neg (by omega), if_neg (by omega), hx,
          Nat.add_mod, Nat.mod_eq_zero_of_dvd (Nat.pow_dvd_pow 2 (by omega)), Nat.add_zero, Nat.mod_mod, Nat.mod_eq_of_lt hlt]
  have hfrac : (f.toReg v).sig.toNat / 2 ^ (63 - fw) % 2 ^ fw = v % 2 ^ fw := by
    rw [hu.sig, hpow]
    split
    · rw [Nat.zero_add, Nat.mul_div_cancel _ (Nat.two_pow_pos _), Nat.mod_mod]
    · rw [← Nat.add_mul, Nat.mul_div_cancel _ (Nat.two_pow_pos _), Nat.add_mod_left, Nat.mod_mod]
  have hval := hw (f.toReg v)
  dsimp only at hval
  rw [hval, hfield, hfrac, hu.sign, Nat.pow_add, Nat.mul_comm (2 ^ ew), ← Nat.div_div_eq_div_mul]
  have hq : v / 2 ^ fw / 2 ^ ew < 2 := by
    rw [Nat.div_div_eq_div_mul, ← Nat.pow_add]
    refine Nat.div_lt_of_lt_mul ?_
    rwa [← Nat.pow_succ, show (fw + ew).succ = 1 + ew + fw by omega]
  calc (if decide (v / 2 ^ fw / 2 ^ ew = 1) = true then 2 ^ fw * 2 ^ ew else 0) + v / 2 ^ fw % 2 ^ ew * 2 ^ fw + v % 2 ^ fw
      = 2 ^ fw * (2 ^ ew * (v / 2 ^ fw / 2 ^ ew) + v / 2 ^ fw % 2 ^ ew) + v % 2 ^ fw := by
        rcases Nat.le_one_iff_eq_zero_or_eq_one.1 (Nat.le_of_lt_succ hq) with h | h <;> rw [h] <;> simp <;> ring
    _ = v := by rw [Nat.div_add_mod, Nat.div_add_mod]

end Writes

/-! ### Extended precision and the fill image (R392 to R395) -/

section Extended

variable {v : Nat} (hv : v < 2 ^ 80)

include hv

theorem extended_sign : (FpFormat.extended.toReg v).sign = decide (v / 2 ^ 79 = 1) := getLsbD_top hv

theorem extended_sig : (FpFormat.extended.toReg v).sig.toNat = v % 2 ^ 64 :=
  (toNat_extract_ofNat hv 0 64).trans (by rw [Nat.pow_zero, Nat.div_one])

theorem extended_exp : (FpFormat.extended.toReg v).exp.toNat =
    if v / 2 ^ 64 % 2 ^ 15 = 0x7FFF then 0x1FFFF else if v / 2 ^ 64 % 2 ^ 15 = 0 then 0 else v / 2 ^ 64 % 2 ^ 15 + 0xC000 := by
  have he := toNat_extract_ofNat hv 64 15
  have heq (k : BitVec 15) : (BitVec.ofNat 80 v).extractLsb' 64 15 = k ↔ v / 2 ^ 64 % 2 ^ 15 = k.toNat := by
    rw [← he, BitVec.toNat_inj]
  have hlt : v / 2 ^ 64 % 2 ^ 15 < 2 ^ 15 := Nat.mod_lt _ (by decide)
  show (extendedToReg (BitVec.ofNat 80 v)).exp.toNat = _
  simp only [extendedToReg, heq, show (0x7FFF : BitVec 15).toNat = 0x7FFF from rfl, show (0 : BitVec 15).toNat = 0 from rfl]
  split
  · rfl
  · split
    · rfl
    · rw [BitVec.toNat_add, BitVec.toNat_setWidth, he, show (0xC000 : BitVec 17).toNat = 0xC000 from rfl]
      omega

end Extended

theorem extendedReads : ExtendedReads := by
  intro v hv
  have hlt : v / 2 ^ 64 % 2 ^ 15 < 2 ^ 15 := Nat.mod_lt _ (by decide)
  have hx := extended_exp hv
  refine ⟨extended_sign hv, extended_sig hv, fun hne => ?_, fun hones => BitVec.eq_of_toNat_eq (by rw [hx, if_pos hones]; rfl)⟩
  rw [if_neg hne] at hx
  refine ⟨isFinite_of_exp (by rw [hx]; split <;> omega), ?_⟩
  have hexp0 : (FpFormat.extended.toReg v).exp = 0 ↔ v / 2 ^ 64 % 2 ^ 15 = 0 := by
    rw [← BitVec.toNat_inj, hx, show (0 : BitVec 17).toNat = 0 from rfl]
    split <;> omega
  unfold numberOf
  rw [extended_sign hv, extended_sig hv]
  simp only [decide_eq_true_eq, hexp0]
  congr 3
  split
  · rfl
  · next he =>
    rw [hx, if_neg he]
    push_cast
    ring

theorem extendedExp_toNat (r : FReg) : (extendedExp r).toNat =
    if r.exp = 0x1FFFF then 0x7FFF else if r.exp = 0 then 0 else (r.exp.toNat + 2 ^ 17 + 16383 - 65535) % 2 ^ 15 := by
  unfold extendedExp
  split
  · rfl
  · split
    · rfl
    · rw [BitVec.toNat_setWidth, BitVec.toNat_sub, show (0xC000 : BitVec 17).toNat = 0xC000 from rfl]
      omega

theorem extendedWrites : ExtendedWrites := by
  intro r
  show (BitVec.ofBool r.sign ++ extendedExp r ++ r.sig).toNat = _
  rw [toNat_append_eq, toNat_append_eq, extendedExp_toNat, Nat.add_mul, Nat.mul_assoc, toNat_ofBool_mul, ← Nat.pow_add]

/-- A value of extended precision survives a load and a store, whatever its leading bit. -/
theorem extended_toMem_toReg {v : Nat} (hv : v < 2 ^ 80) : FpFormat.extended.toMem (FpFormat.extended.toReg v) = v := by
  have hlt : v / 2 ^ 64 % 2 ^ 15 < 2 ^ 15 := Nat.mod_lt _ (by decide)
  have hexp (k : BitVec 17) : (FpFormat.extended.toReg v).exp = k ↔ (FpFormat.extended.toReg v).exp.toNat = k.toNat :=
    BitVec.toNat_inj.symm
  have hval := extendedWrites (FpFormat.extended.toReg v)
  dsimp only at hval
  rw [hval]
  simp only [hexp, extended_exp hv, extended_sign hv, extended_sig hv, decide_eq_true_eq,
    show (0x1FFFF : BitVec 17).toNat = 0x1FFFF from rfl, show (0 : BitVec 17).toNat = 0 from rfl]
  repeat' split
  all_goals omega

/-- Any register survives a spill and a fill (R394, R395). -/
theorem fill_toReg_toMem (r : FReg) : FpFormat.fill.toReg (FpFormat.fill.toMem r) = r := by
  show fillToReg (BitVec.ofNat 128 (regToFill r).toNat) = r
  rw [BitVec.ofNat_toNat, BitVec.setWidth_eq]
  obtain ⟨sign, exp, sig⟩ := r
  simp (disch := omega) only [fillToReg, regToFill, extract_append_high, extract_append_low, extract_all, Nat.reduceSub]
  have hsign : (0#46 ++ BitVec.ofBool sign ++ exp ++ sig).getLsbD 81 = sign := by
    rw [BitVec.getLsbD_append, if_neg (by decide), BitVec.getLsbD_append, if_neg (by decide), BitVec.getLsbD_append,
      if_pos (by decide)]
    cases sign <;> rfl
  rw [hsign]

theorem integer_number {v : Nat} (hv : v < 2 ^ 64) :
    isFinite (FpFormat.integer.toReg v) ∧ numberOf (FpFormat.integer.toReg v) = v := by
  have hsig : (FpFormat.integer.toReg v).sig.toNat = v := by
    show (BitVec.ofNat 64 v).toNat = v
    rw [BitVec.toNat_ofNat, Nat.mod_eq_of_lt hv]
  have hexp : (FpFormat.integer.toReg v).exp.toNat = 0x1003E := rfl
  have hne : (FpFormat.integer.toReg v).exp ≠ 0 := fun h => absurd (congrArg BitVec.toNat h) (by rw [hexp]; decide)
  refine ⟨isFinite_of_exp (by rw [hexp]; decide), ?_⟩
  unfold numberOf
  rw [hsig, if_neg hne, hexp, show (FpFormat.integer.toReg v).sign = false from rfl]
  norm_num

end Sys2Proof.Machine

section

open Sys2Proof Machine

/-- Settles O40: a store leaves the bytes of its value in either order, and the conversions are described field by field. -/
theorem storedBytesLoadBack : Obligations.StoredBytesLoadBack := by
  unfold Obligations.StoredBytesLoadBack
  have single {v : Nat} (hv : v < 2 ^ 32) := toMem_toReg_of_unpacks single_writes (single_unpacks hv) (by decide) (by decide) (by decide) hv
  have double {v : Nat} (hv : v < 2 ^ 64) := toMem_toReg_of_unpacks double_writes (double_unpacks hv) (by decide) (by decide) (by decide) hv
  refine ⟨stored_bytes, ⟨?_, ?_, extendedReads, single_writes, double_writes, extendedWrites, fun v => integer_number, fun r => rfl⟩,
    fun v => single, fun v => double, fun v hv => ?_, fun v hv _ => extended_toMem_toReg hv, fill_toReg_toMem⟩
  · exact formatReads_of_unpacks (fun v => single_unpacks) (by decide) (by decide) (by decide) (by decide)
  · exact formatReads_of_unpacks (fun v => double_unpacks) (by decide) (by decide) (by decide) (by decide)
  · exact (BitVec.toNat_ofNat v 64).trans (Nat.mod_eq_of_lt hv)

end

end

section
/-! SUPPORT. An access on its way to memory (R80, R84, R159, R568 to R572, R585, R593, R594): the model's lookups and checks are those that
the rules write out, in the same order. -/

namespace Sys2Proof.Machine

open Forms

/-! ### Lookups (R159) -/

section Lookups

variable (s : State) (va : Word)

theorem regionOf_eq : regionOf s va = s.regionReg va := by
  have hk : va.toNat / 2 ^ 61 < 8 := by have := va.isLt; omega
  have he : (va.extractLsb' 61 3).toNat = va.toNat / 2 ^ 61 := by
    rw [BitVec.extractLsb'_toNat, Nat.shiftRight_eq_div_pow]
    omega
  unfold regionOf State.regionReg
  simp only [he]
  rw [List.getD_eq_getElem _ _ (by simpa using hk), Vector.getElem_toList]

theorem ridOf_eq : ridOf s va = (rrRid (s.regionReg va)).toNat := by
  unfold ridOf rrRid
  rw [regionOf_eq, BitVec.extractLsb'_toNat, Nat.shiftRight_eq_div_pow]

theorem toNat_offset : (va.extractLsb' 0 61).toNat = va.toNat % 2 ^ 61 := by
  rw [BitVec.extractLsb'_toNat, Nat.shiftRight_zero]

theorem translatesTo_eq : translatesTo s va = fun e => e.covers (rrRid (s.regionReg va)) (va.extractLsb' 0 61) := by
  funext e
  unfold translatesTo TlbEntry.covers
  rw [ridOf_eq, Bool.decide_and]
  simp only [← BitVec.toNat_inj, BitVec.toNat_ushiftRight, Nat.shiftRight_eq_div_pow, toNat_offset]

theorem hitsOf_eq (instr : Bool) : hitsOf s instr va = s.lookup instr va := by
  unfold hitsOf State.lookup State.translations
  rw [translatesTo_eq]

/-- The base of the VHPT: the bits of CR[PTA] from 15 on (R38). -/
theorem vhptBase_eq (pta : Word) : pta &&& ~~~ 0x7FFF = BitVec.ofNat 64 (pta.toNat / 2 ^ 15 * 2 ^ 15) := by
  apply BitVec.eq_of_getLsbD_eq
  intro i hi
  have mask : (0x7FFF : Word).getLsbD i = decide (i < 15) := by
    rw [show (0x7FFF : Word) = BitVec.ofNat 64 (2 ^ 15 - 1) from rfl, BitVec.getLsbD_ofNat, Nat.testBit_two_pow_sub_one]
    simp [hi]
  rw [BitVec.getLsbD_and, BitVec.getLsbD_not, mask, BitVec.getLsbD_ofNat, Nat.testBit_mul_two_pow, Nat.testBit_div_two_pow,
    BitVec.testBit_toNat]
  by_cases h : i < 15
  · simp [hi, h]
  · simp [hi, h, show i - 15 + 15 = i by omega, show 15 ≤ i by omega]

theorem vhptEntryAt_eq : vhptEntryAt s va = s.vhptAddr va := by
  have size : (s.cr.pta.extractLsb' 2 6).toNat = s.cr.pta.toNat / 4 % 64 := by
    rw [BitVec.extractLsb'_toNat, Nat.shiftRight_eq_div_pow]
  unfold vhptEntryAt State.vhptAddr
  dsimp only
  rw [regionOf_eq, vhptBase_eq, size, ← BitVec.ofNat_add]

/-- The first-level entry of a fetch (R151). -/
def firstLevel (x : Bool) : Option TlbEntry := if x then s.l1itlb.find? (translatesTo s va) else none

theorem firstLevel_eq (x : Bool) : (if x then s.l1Hit va else none) = firstLevel s va x := by
  unfold firstLevel
  rw [translatesTo_eq]
  rfl

/-- An access finds the first-level entry where there is one, else the translations of its side (R151). -/
theorem found_of_some {x : Bool} {e : TlbEntry} (h : firstLevel s va x = some e) : s.found x va = [e] := by
  unfold State.found
  rw [firstLevel_eq, h]

theorem found_of_none {x : Bool} (h : firstLevel s va x = none) : s.found x va = hitsOf s x va := by
  unfold State.found
  rw [firstLevel_eq, h, hitsOf_eq]

end Lookups

/-- The offset in a page of 2^`ps` bytes (R152). -/
theorem pageMask_bit (ps : BitVec 6) (i : Nat) : (pageMask ps).getLsbD i = decide (i < ps.toNat ∧ i < 61) := by
  have value : (pageMask ps).toNat = 2 ^ min ps.toNat 61 - 1 := by
    unfold pageMask
    rw [BitVec.toNat_sub, BitVec.toNat_shiftLeft, Nat.shiftLeft_eq]
    by_cases h : ps.toNat < 61
    · have hlt : 2 ^ ps.toNat < 2 ^ 61 := Nat.pow_lt_pow_right (by decide) h
      have hpos := Nat.two_pow_pos ps.toNat
      rw [min_eq_left h.le, show (1#61).toNat = 1 from rfl, Nat.one_mul, Nat.mod_eq_of_lt hlt,
        show (1 : BitVec 61).toNat = 1 from rfl]
      omega
    · rw [min_eq_right (by omega), show (1#61).toNat = 1 from rfl, Nat.one_mul,
        Nat.mod_eq_zero_of_dvd (Nat.pow_dvd_pow 2 (by omega))]
      rfl
  rw [← BitVec.testBit_toNat, value, Nat.testBit_two_pow_sub_one]
  exact decide_eq_decide.2 lt_min_iff

/-- The physical address: bits of the page above, of the address below (R159). -/
theorem phys_eq (e : TlbEntry) (va : Word) : e.phys va = physicalOf e va := by
  have low : va.toNat % 2 ^ min e.ps.toNat 50 < 2 ^ e.ps.toNat :=
    (Nat.mod_lt _ (Nat.two_pow_pos _)).trans_le (Nat.pow_le_pow_right (by decide) (min_le_left _ _))
  apply Nat.eq_of_testBit_eq
  intro i
  unfold physicalOf TlbEntry.phys
  rw [Nat.mul_comm, Nat.testBit_two_pow_mul_add _ low, Nat.testBit_mod_two_pow, Nat.testBit_div_two_pow]
  simp only [BitVec.testBit_toNat, BitVec.getLsbD_or, BitVec.getLsbD_and, BitVec.getLsbD_not, BitVec.getLsbD_setWidth, pageMask_bit]
  by_cases hi : i < 50
  · by_cases hp : i < e.ps.toNat
    · simp [hi, hp, show i < 61 by omega]
    · simp [hi, hp, show i - e.ps.toNat + e.ps.toNat = i by omega]
  · by_cases hp : i < e.ps.toNat
    · simp [hi, hp]
    · simp [hi, hp, BitVec.getLsbD_of_ge e.pa _ (show 50 ≤ i - e.ps.toNat + e.ps.toNat by omega)]

/-! ### Checks in order -/

/-- The computation makes the checks of the list in their order, failing with the fault of the first that fails, and gives `a` when all
pass. -/
def Follows (x : Except TransFault α) (l : OrderedChecks) (a : α) : Prop :=
  (∀ f, x = .error f ↔ firstFails l f) ∧ (allPass l → x = .ok a)

theorem firstFails_nil (f : TransFault) : ¬ firstFails [] f := by
  rintro ⟨a, c, b, h, -⟩
  simp at h

theorem firstFails_cons (c : Prop) (g f : TransFault) (l : OrderedChecks) :
    firstFails ((c, g) :: l) f ↔ (c ∧ g = f) ∨ (¬ c ∧ firstFails l f) := by
  constructor
  · rintro ⟨a, d, b, h, hd, ha⟩
    cases a with
    | nil =>
      injection h with h
      injection h with hcd hgf
      exact .inl ⟨hcd ▸ hd, hgf⟩
    | cons p a =>
      injection h with hp hl
      subst hp hl
      exact .inr ⟨ha _ List.mem_cons_self, a, d, b, rfl, hd, fun q hq => ha q (List.mem_cons_of_mem _ hq)⟩
  · rintro (⟨hc, rfl⟩ | ⟨hc, a, d, b, rfl, hd, ha⟩)
    · exact ⟨[], c, l, rfl, hc, nofun⟩
    · exact ⟨(c, g) :: a, d, b, rfl, hd, List.forall_mem_cons.2 ⟨hc, ha⟩⟩

theorem Follows.ok (a : α) : Follows (.ok a) [] a :=
  ⟨fun f => ⟨nofun, fun h => absurd h (firstFails_nil f)⟩, fun _ => rfl⟩

theorem Follows.check {x : Except TransFault α} {l : OrderedChecks} {a : α} {b c : Prop} [Decidable b] {f : TransFault} (hb : b ↔ c)
    (h : Follows x l a) : Follows (if b then .error f else x) ((c, f) :: l) a := by
  obtain ⟨herr, hok⟩ := h
  refine ⟨fun g => ?_, fun hall => ?_⟩
  · rw [firstFails_cons, ← hb, ← herr]
    by_cases hc : b <;> simp [hc]
  · obtain ⟨hc, hl⟩ := List.forall_mem_cons.1 hall
    rw [if_neg (mt hb.1 hc)]
    exact hok hl

theorem Follows.thenOk {x : Except TransFault Unit} {l : OrderedChecks} (h : Follows x l ()) (a : α) :
    Follows (x.bind fun _ => .ok a) l a := by
  obtain ⟨herr, hok⟩ := h
  refine ⟨fun f => ?_, fun hall => by rw [hok hall]; rfl⟩
  rw [← herr]
  cases x <;> simp [Except.bind]

/-! ### The checks of a translation (R569) -/

theorem uncacheable_iff (ma : MemAttr) : ma.uncacheable = true ↔ isUncacheable ma := by
  cases ma <;> simp [MemAttr.uncacheable, isUncacheable]

/-- What a kind of access may do is asked of that kind alone. -/
theorem rightsAllow_eq (ar : BitVec 3) (pl cpl : BitVec 2) (r w x : Bool) : rightsAllow ar pl cpl r w x =
    ((!r || rightsAllow ar pl cpl true false false) && (!w || rightsAllow ar pl cpl false true false) &&
      (!x || rightsAllow ar pl cpl false false true)) := by
  unfold rightsAllow
  cases r <;> cases w <;> cases x <;> simp

/-- The rows of R594: rights up to the level of the page, and rights of level 0. -/
theorem rightsAllow_row : ∀ (ar : BitVec 3) (pl cpl : BitVec 2),
    (rightsAllow ar pl cpl true false false = decide ((cpl.toNat ≤ pl.toNat ∧ (rightsRow ar.toNat).1.1 = true) ∨
      (cpl = 0 ∧ (rightsRow ar.toNat).2.1 = true))) ∧
    (rightsAllow ar pl cpl false true false = decide ((cpl.toNat ≤ pl.toNat ∧ (rightsRow ar.toNat).1.2.1 = true) ∨
      (cpl = 0 ∧ (rightsRow ar.toNat).2.2.1 = true))) ∧
    (rightsAllow ar pl cpl false false true = (decide ((cpl.toNat ≤ pl.toNat ∧ (rightsRow ar.toNat).1.2.2 = true) ∨
      (cpl = 0 ∧ (rightsRow ar.toNat).2.2.2 = true)) || ar = 7)) := by
  decide

theorem rightsAllow_iff (e : TlbEntry) (acc : Acc) :
    (!rightsAllow e.ar e.pl acc.cpl acc.r acc.w acc.x) = true ↔ rightsDeny e acc := by
  obtain ⟨hr, hw, hx⟩ := rightsAllow_row e.ar e.pl acc.cpl
  unfold rightsDeny
  rw [rightsAllow_eq, hr, hw, hx]
  simp only [Bool.not_and, Bool.not_or, Bool.not_not, Bool.or_eq_true, Bool.and_eq_true, Bool.not_eq_true', ← Bool.not_eq_true,
    decide_eq_true_eq, ne_eq, or_assoc]

section Keys

variable (s : State) (e : TlbEntry) (acc : Acc)

theorem keyHeld_iff (k : Word) : (k.getLsbD 0 && k.extractLsb' 8 24 = e.key) = true ↔ keyHeld k e := by
  unfold keyHeld
  rw [Bool.and_eq_true, decide_eq_true_eq, ← BitVec.toNat_inj, BitVec.extractLsb'_toNat, Nat.shiftRight_eq_div_pow]

theorem keyForbids_iff (k : Word) : keyForbids k acc = true ↔ keyDenies k acc := by
  simp [keyForbids, keyDenies, or_assoc]

/-- The register that holds the key is the first one in the order of their numbers (R593). -/
theorem keyReg_eq_some_iff (k : Word) : s.keyReg e.key = some k ↔
    ∃ i : Fin 16, s.pkr[i] = k ∧ keyHeld s.pkr[i] e ∧ ∀ j : Fin 16, j < i → ¬ keyHeld s.pkr[j] e := by
  unfold State.keyReg
  rw [List.find?_eq_some_iff_getElem]
  simp only [keyHeld_iff, Bool.not_eq_true', ← Bool.not_eq_true, Vector.getElem_toList, Vector.length_toList]
  constructor
  · rintro ⟨hk, i, hi, rfl, hj⟩
    exact ⟨⟨i, hi⟩, rfl, hk, fun j hlt => hj j.val hlt⟩
  · rintro ⟨i, rfl, hk, hj⟩
    exact ⟨hk, i.val, i.isLt, rfl, fun j hlt => hj ⟨j, hlt.trans i.isLt⟩ hlt⟩

theorem keyReg_eq_none_iff : s.keyReg e.key = none ↔ ∀ k : Fin 16, ¬ keyHeld s.pkr[k] e := by
  unfold State.keyReg
  simp only [List.find?_eq_none, keyHeld_iff, List.forall_mem_iff_getElem, Vector.getElem_toList, Vector.length_toList]
  exact ⟨fun h k => h k.val k.isLt, fun h k hk => h ⟨k, hk⟩⟩

end Keys

theorem checkEntry_follows (s : State) (acc : Acc) (e : TlbEntry) : Follows (s.checkEntry acc e) (tlbChecks s acc e) () := by
  have miss : (s.psrPk && (s.keyReg e.key).isNone) = true ↔ s.psr.getLsbD 15 = true ∧ ∀ k : Fin 16, ¬ keyHeld s.pkr[k] e := by
    rw [Bool.and_eq_true, Option.isNone_iff_eq_none, keyReg_eq_none_iff]
    rfl
  have denied : (s.psrPk && (s.keyReg e.key).any fun k => keyForbids k acc) = true ↔ s.psr.getLsbD 15 = true ∧
      ∃ k : Fin 16, keyHeld s.pkr[k] e ∧ (∀ j : Fin 16, j < k → ¬ keyHeld s.pkr[j] e) ∧ keyDenies s.pkr[k] acc := by
    rw [Bool.and_eq_true, Option.any_eq_true]
    simp only [keyReg_eq_some_iff, keyForbids_iff]
    exact and_congr_right fun _ => ⟨fun ⟨_, ⟨i, rfl, hk, hj⟩, hd⟩ => ⟨i, hk, hj, hd⟩, fun ⟨i, hk, hj, hd⟩ => ⟨_, ⟨i, rfl, hk, hj⟩, hd⟩⟩
  refine .check (by simp) (.check .rfl (.check ?_ (.check miss (.check denied (.check (rightsAllow_iff e acc) (.check ?_
    (.check (by simp) (.ok ()))))))))
  · rw [Bool.and_eq_true, uncacheable_iff]
  · simp

/-! ### Breakpoints, alignment, unsupported references (R569 to R572) -/

theorem blockOff_eq (va : Word) : blockOff va = va.toNat % 16 := by
  unfold blockOff
  rw [BitVec.extractLsb'_toNat, Nat.shiftRight_zero]

/-- Bits 63:56 of an address are always compared with a breakpoint, the others where its mask has them (R47, R48). -/
theorem breakMask_bit (odd : Word) {b : Nat} (hb : b < 64) : (breakMask odd).getLsbD b = true ↔ 56 ≤ b ∨ odd.getLsbD b = true := by
  have high : ∀ k : Fin 8, (0xFF : BitVec 8).getLsbD k.val = true := by decide
  unfold breakMask
  rw [BitVec.getLsbD_append, BitVec.getLsbD_extractLsb']
  by_cases h : b < 56
  · simp [h, show ¬ 56 ≤ b by omega]
  · simpa [h, show 56 ≤ b by omega] using high ⟨b - 56, by omega⟩

theorem breakMatch_iff (even odd va : Word) (cpl : BitVec 2) : breakMatch even odd va cpl = true ↔
    odd.getLsbD (56 + cpl.toNat) = true ∧ ∀ b, b < 64 → (56 ≤ b ∨ odd.getLsbD b = true) → va.getLsbD b = even.getLsbD b := by
  unfold breakMatch
  rw [Bool.and_eq_true, decide_eq_true_eq]
  refine and_congr_right fun _ => ⟨fun h b hb hm => ?_, fun h => BitVec.eq_of_getLsbD_eq fun b hb => ?_⟩
  · have bit := congrArg (fun w : Word => w.getLsbD b) h
    simpa [(breakMask_bit odd hb).2 hm] using bit
  · rw [BitVec.getLsbD_and, BitVec.getLsbD_xor]
    by_cases hm : (breakMask odd).getLsbD b = true
    · simp [h b hb ((breakMask_bit odd hb).1 hm)]
    · simp [hm]

/-- The body of `Forms.breakpointHit` for one pair of registers. -/
def pairMatches (even odd : Word) (acc : Acc) : Prop :=
  ((acc.r = true ∧ odd.getLsbD 63 = true) ∨ (acc.w = true ∧ odd.getLsbD 62 = true)) ∧ odd.getLsbD (56 + acc.cpl.toNat) = true ∧
    ∃ k, k < acc.n ∧ ∀ b, b < 64 → (56 ≤ b ∨ odd.getLsbD b = true) → (acc.va + BitVec.ofNat 64 k).getLsbD b = even.getLsbD b

theorem dbrHit_iff (even odd : Word) (acc : Acc) : dbrHit even odd acc = true ↔ pairMatches even odd acc := by
  unfold dbrHit pairMatches
  simp only [Bool.and_eq_true, Bool.or_eq_true, List.any_eq_true, List.mem_range, breakMatch_iff]
  exact and_congr_right fun _ => ⟨fun ⟨k, hk, ho, hb⟩ => ⟨ho, k, hk, hb⟩, fun ⟨ho, k, hk, hb⟩ => ⟨k, hk, ho, hb⟩⟩

theorem dbrMatch_iff (s : State) (acc : Acc) : s.dbrMatch acc = true ↔ breakpointHit s acc := by
  have pairs : breakpointHit s acc ↔
      ∃ i : Fin 4, pairMatches (s.dbr[2 * i.val]'(by omega)) (s.dbr[2 * i.val + 1]'(by omega)) acc := Iff.rfl
  rw [pairs]
  unfold State.dbrMatch
  simp only [Bool.or_eq_true, dbrHit_iff]
  constructor
  · rintro (((h | h) | h) | h)
    exacts [⟨0, h⟩, ⟨1, h⟩, ⟨2, h⟩, ⟨3, h⟩]
  · rintro ⟨i, h⟩
    match i, h with
    | 0, h => exact .inl (.inl (.inl h))
    | 1, h => exact .inl (.inl (.inr h))
    | 2, h => exact .inl (.inr h)
    | 3, h => exact .inr h

theorem naturallyAligned_iff {acc : Acc} (hn : acc.n ∈ [1, 2, 4, 8, 10, 16]) :
    (!naturallyAligned acc.va acc.n) = true ↔ unnatural acc := by
  unfold naturallyAligned unnatural
  rw [blockOff_eq]
  simp only [List.mem_cons, List.not_mem_nil, or_false] at hn
  rcases hn with h | h | h | h | h | h <;> simp [h]

/-- Leaving the half, or the whole, of a 16-byte block. -/
theorem leavesWindow_iff (acc : Acc) : (blockOff acc.va % 8 + acc.n > 8 ↔ leavesWindow acc 8) ∧
    (blockOff acc.va + acc.n > 16 ↔ leavesWindow acc 16) := by
  unfold leavesWindow
  rw [blockOff_eq]
  omega

theorem misaligned_iff (s : State) {acc : Acc} (ma : MemAttr) (hn : acc.n ∈ [1, 2, 4, 8, 10, 16]) :
    s.misaligned acc ma = true ↔ unalignedAccess s acc ma := by
  obtain ⟨half, whole⟩ := leavesWindow_iff acc
  have within (h8 : acc.n ≤ 8) (h : leavesWindow acc 16) : leavesWindow acc 8 := by
    unfold leavesWindow at *
    omega
  unfold State.misaligned unalignedAccess
  rw [show s.umAc = s.umGroup.getLsbD 3 from rfl]
  split
  · exact naturallyAligned_iff hn
  · cases acc.cls with
    | semaphore | ordered | fpPair => exact naturallyAligned_iff hn
    | reference => exact Bool.false_eq_true ▸ Iff.rfl
    | int => exact decide_eq_true_iff.trans half
    | fp =>
      dsimp only
      rw [← uncacheable_iff]
      split
      · next h =>
        obtain ⟨hu, h8⟩ := by simpa using h
        rw [decide_eq_true_eq, half]
        exact ⟨fun hl => .inl ⟨hu, h8, hl⟩, fun hl => hl.elim (fun h => h.2.2) (within h8)⟩
      · next h =>
        rw [decide_eq_true_eq, whole]
        exact ⟨.inr, fun hl => hl.resolve_left fun ⟨hu, h8, _⟩ => h (by simp [hu, h8])⟩

theorem checkData_follows (s : State) {acc : Acc} (ma : MemAttr) (hn : acc.n ∈ [1, 2, 4, 8, 10, 16]) :
    Follows (s.checkData acc ma) (dataChecks s acc ma) () := by
  refine .check ?_ (.check (misaligned_iff s ma hn) (.check ?_ (.ok ())))
  · unfold State.dataDebug
    rw [Bool.and_eq_true, Bool.and_eq_true, Bool.or_eq_true, decide_eq_true_eq, (leavesWindow_iff acc).2, dbrMatch_iff,
      Bool.not_eq_true', and_assoc]
    rfl
  · unfold unsupportedRef
    rw [Bool.and_eq_true, uncacheable_iff]
    simp [or_assoc]

/-! ### Translation -/

theorem virtualMode_iff (s : State) (acc : Acc) : s.virtualMode acc = true ↔ isVirtual s acc := by
  unfold State.virtualMode isVirtual
  split
  · rfl
  · split <;> rfl

theorem translate_virtual {s : State} {acc : Acc} (h : isVirtual s acc) : s.translate acc = s.translateVirtual acc :=
  if_pos ((virtualMode_iff s acc).2 h)

theorem translate_physical {s : State} {acc : Acc} (h : ¬ isVirtual s acc) : s.translate acc = translatePhysical acc :=
  if_neg (mt (virtualMode_iff s acc).1 h)

theorem translateVirtual_found {s : State} {acc : Acc} {e : TlbEntry} (h : s.found acc.x acc.va = [e]) :
    Follows (s.translateVirtual acc) (tlbChecks s acc e) (physicalOf e acc.va, e.ma) := by
  unfold State.translateVirtual
  rw [h, ← phys_eq]
  exact (checkEntry_follows s acc e).thenOk _

/-- More than one translation is a machine check (R159). -/
theorem translateVirtual_many {s : State} {acc : Acc} (h : 2 ≤ (s.found acc.x acc.va).length) :
    s.translateVirtual acc = .error .multipleHit := by
  unfold State.translateVirtual
  match hf : s.found acc.x acc.va, h with
  | _ :: _ :: _, _ => rfl

theorem translateVirtual_none {s : State} {acc : Acc} (h : s.found acc.x acc.va = []) :
    s.translateVirtual acc = .error (s.missFault acc) := by
  unfold State.translateVirtual
  rw [h]

theorem walkerOn_iff (s : State) (acc : Acc) : s.walkerOn acc.x acc.va = true ↔ walkerEnabled s acc := by
  unfold State.walkerOn walkerEnabled
  rw [regionOf_eq]
  simp only [Bool.and_eq_true, Bool.or_eq_true, Bool.not_eq_true', and_assoc]
  cases acc.x <;> simp [rrVe, State.psrDt, State.psrIt, State.psrIc]

/-- The fault of an access without a translation (R568). -/
theorem missFault_missFaults (s : State) (acc : Acc) : missFaults s acc (s.missFault acc) := by
  have nested : (!s.psrIc && !acc.x) = true ↔ s.psr.getLsbD 13 = false ∧ acc.x = false := by
    simp [State.psrIc]
  unfold missFaults State.missFault
  dsimp only
  rw [← nested, ← walkerOn_iff, hitsOf_eq, vhptEntryAt_eq]
  split
  · next h => exact .inl ⟨h, rfl⟩
  · next hn =>
    split
    · next hw => exact .inr (.inl ⟨hn, by simpa using hw, rfl⟩)
    · next hw =>
      refine .inr (.inr ⟨hn, by simpa using hw, ?_⟩)
      split
      · next hv => exact .inr ⟨rfl, List.isEmpty_iff.1 (Bool.and_eq_true_iff.1 hv).1⟩
      · exact .inl rfl

theorem resolve_of_error {s : State} {acc : Acc} {f : TransFault} (h : s.translate acc = .error f) : s.resolve acc = .error f := by
  unfold State.resolve
  rw [h]
  rfl

theorem resolve_follows {s : State} {acc : Acc} {p : Nat × MemAttr} (hn : acc.n ∈ [1, 2, 4, 8, 10, 16]) (h : s.translate acc = .ok p) :
    Follows (s.resolve acc) (dataChecks s acc p.2) p := by
  unfold State.resolve
  rw [h]
  exact (checkData_follows s p.2 hn).thenOk p

/-- ITIR has the page size in bits 7:2 and the key in bits 31:8 (R585). -/
theorem mkItir_fields (ps : BitVec 6) (key : BitVec 24) :
    (mkItir ps key).toNat / 4 % 64 = ps.toNat ∧ (mkItir ps key).toNat / 2 ^ 8 % 2 ^ 24 = key.toNat := by
  have hps := ps.isLt
  have hkey := key.isLt
  have value : (mkItir ps key).toNat = (key.toNat * 2 ^ 6 + ps.toNat) * 2 ^ 2 := by
    unfold mkItir
    rw [toNat_append_eq, toNat_append_eq, toNat_append_eq]
    simp
  rw [value]
  omega

theorem rrPs_toNat (r : Word) : (rrPs r).toNat = r.toNat / 4 % 64 := by
  unfold rrPs
  rw [BitVec.extractLsb'_toNat, Nat.shiftRight_eq_div_pow]

/-- The page size and key that ITIR takes: of the region for a miss, of the translation for a failed check (R585). -/
theorem transIntr_itir (s : State) (acc : Acc) (f : TransFault) : (s.transIntr acc f).itir =
    if f = .altTlb ∨ f = .vhptFault ∨ f = .tlbMiss then some (s.missItir acc.va)
    else (reportedEntry f).map fun e => mkItir e.ps e.key := by
  cases f <;> simp [State.transIntr, reportedEntry]

theorem transIntr_ifa (s : State) (acc : Acc) (f : TransFault) :
    (s.transIntr acc f).ifa = if f = .nestedTlb ∨ f = .unimplementedAddress then none else some acc.va := by
  cases f <;> simp [State.transIntr]

theorem transIntr_iha (s : State) (acc : Acc) (f : TransFault) :
    (s.transIntr acc f).iha = if f = .vhptFault ∨ f = .tlbMiss then some (s.vhptAddr acc.va) else none := by
  cases f <;> simp [State.transIntr]

theorem transIntr_code (s : State) (acc : Acc) (f : TransFault) : (s.transIntr acc f).code = acc.na.getD 0 ||| faultCode f := by
  cases f with
  | unimplementedAddress | multipleHit | natPage | uncacheableSpeculative => rfl
  | _ => exact BitVec.or_zero.symm

/-- R565: a fault of a fetch has its own vector where there are two. -/
theorem transIntr_vector (s : State) (acc : Acc) (f : TransFault) : (s.transIntr acc f).vec.offset.toNat = vectorOffset f acc.x := by
  cases f with
  | altTlb | tlbMiss | keyMiss | accessRights | accessBit =>
    unfold State.transIntr vectorOffset
    dsimp only
    split <;> rfl
  | _ => rfl

/-- A miss reports no translation, and a failed check is no miss. -/
theorem reportedEntry_of_miss {f : TransFault} (h : f = .altTlb ∨ f = .vhptFault ∨ f = .tlbMiss) : reportedEntry f = none := by
  rcases h with rfl | rfl | rfl <;> rfl

/-- The interruption of a fault (R565, R576, R585). -/
theorem transIntr_interrupts (s : State) (acc : Acc) (f : TransFault) : Interrupts s acc f (s.transIntr acc f) := by
  have access : (s.transIntr acc f).r = acc.r ∧ (s.transIntr acc f).w = acc.w ∧ (s.transIntr acc f).x = acc.x ∧
      (s.transIntr acc f).sp = acc.sp ∧ (s.transIntr acc f).rs = acc.rs ∧ (s.transIntr acc f).ir = acc.ir ∧
      (s.transIntr acc f).na = acc.na.isSome ∧ (s.transIntr acc f).iim = none := by
    cases f <;> exact ⟨rfl, rfl, rfl, rfl, rfl, rfl, rfl, rfl⟩
  obtain ⟨hr, hw, hx, hsp, hrs, hir, hna, hiim⟩ := access
  refine ⟨transIntr_vector s acc f, hr, hw, hx, hsp, hrs, hir, hna, transIntr_code s acc f, hiim, transIntr_ifa s acc f, ?_, ?_, ?_, ?_⟩
  · intro v hv
    rw [transIntr_itir] at hv
    by_cases hm : f = .altTlb ∨ f = .vhptFault ∨ f = .tlbMiss
    · tauto
    · rw [if_neg hm] at hv
      exact .inr (.inr (.inr fun hnone => by simp [hnone] at hv))
  · intro hm
    obtain ⟨hps, hkey⟩ := mkItir_fields (rrPs (s.regionReg acc.va)) (rrRid (s.regionReg acc.va))
    rw [transIntr_itir, if_pos hm, regionOf_eq, ridOf_eq]
    exact ⟨_, rfl, hps.trans (rrPs_toNat _), hkey⟩
  · intro e he
    have hm : ¬ (f = .altTlb ∨ f = .vhptFault ∨ f = .tlbMiss) := fun hm => by simp [reportedEntry_of_miss hm] at he
    rw [transIntr_itir, if_neg hm, he]
    exact ⟨_, rfl, mkItir_fields e.ps e.key⟩
  · rw [transIntr_iha, vhptEntryAt_eq]

theorem codeEd_iff (s : State) : s.codeEd = true ↔ ∃ e, s.found true s.ip = [e] ∧ e.ed = true := by
  unfold State.codeEd
  split
  · next e h => simp [h]
  · next h => simpa using fun e he => absurd he (h e)

/-- When a speculative load defers a fault (R567). -/
theorem dcrDefers_iff (s : State) (k : Nat) : s.dcrDefers k = true ↔ s.psr.getLsbD 13 = false ∨ s.psr.getLsbD 43 = true ∨
    (s.psr.getLsbD 36 = true ∧ s.cr.dcr.getLsbD k = true ∧ ∃ e, s.found true s.ip = [e] ∧ e.ed = true) := by
  unfold State.dcrDefers
  simp only [Bool.or_eq_true, Bool.and_eq_true, Bool.not_eq_true', codeEd_iff, or_assoc, and_assoc]
  rfl

theorem earlyDeferral_iff (s : State) : s.earlyDeferral = true ↔
    s.deferral = .earlyEnabled ∧ s.psr.getLsbD 13 = true ∧ s.cr.dcr.getLsbD 8 = true := by
  unfold State.earlyDeferral
  simp only [Bool.and_eq_true, decide_eq_true_eq, and_assoc]
  rfl

theorem defers_iff (s : State) (f : TransFault) : s.defers f = true ↔ deferred s f := by
  cases f with
  | unimplementedAddress | natPage | uncacheableSpeculative | unaligned | unsupported | vhptFault | tlbMiss =>
    exact iff_of_true rfl trivial
  | dirtyBit | multipleHit => exact iff_of_false Bool.false_ne_true id
  | altTlb | nestedTlb => exact Bool.or_eq_true_iff.trans (or_congr (dcrDefers_iff s 8) (earlyDeferral_iff s))
  | pageNotPresent => exact dcrDefers_iff s 9
  | keyMiss => exact dcrDefers_iff s 10
  | keyPermission => exact dcrDefers_iff s 11
  | accessRights => exact dcrDefers_iff s 12
  | accessBit => exact dcrDefers_iff s 13
  | debug => exact dcrDefers_iff s 14

/-! ### Physical mode (R80, R426) -/

/-- Beyond the 50 bits of a physical address, bit 63 aside. -/
theorem unimplementedPhys_iff (va : Word) : unimplementedPhys va = true ↔ va.toNat / 2 ^ 50 % 2 ^ 13 ≠ 0 := by
  unfold unimplementedPhys
  rw [bne_iff_ne, ne_eq, ← BitVec.toNat_inj, BitVec.extractLsb'_toNat, Nat.shiftRight_eq_div_pow]
  rfl

theorem translatePhysical_beyond {acc : Acc} (h : acc.va.toNat / 2 ^ 50 % 2 ^ 13 ≠ 0 ∧ acc.x = false) :
    translatePhysical acc = .error .unimplementedAddress :=
  if_pos (by rw [Bool.and_eq_true, unimplementedPhys_iff, Bool.not_eq_true']; exact h)

theorem translatePhysical_within {acc : Acc} (h : ¬ (acc.va.toNat / 2 ^ 50 % 2 ^ 13 ≠ 0 ∧ acc.x = false)) :
    translatePhysical acc = if acc.sp && acc.va.getLsbD 63 then .error .uncacheableSpeculative
      else .ok (acc.va.toNat % 2 ^ 50, if acc.va.getLsbD 63 then .uc else .wb) := by
  have hn : ¬ (unimplementedPhys acc.va && !acc.x) = true := by
    rwa [Bool.and_eq_true, unimplementedPhys_iff, Bool.not_eq_true']
  rw [← BitVec.toNat_setWidth]
  exact if_neg hn

end Sys2Proof.Machine

section

open Sys2Proof Machine Forms

/-- Settles O39: the model's lookup is the one written out, and its checks follow the lists in their order. -/
theorem accessesAreTranslatedAndChecked : Obligations.AccessesAreTranslatedAndChecked := by
  unfold Obligations.AccessesAreTranslatedAndChecked
  intro s acc hn checked first
  have one {e : TlbEntry} (hv : isVirtual s acc) (h : s.found acc.x acc.va = [e]) : checked e := by
    have := translateVirtual_found h
    rwa [← translate_virtual hv] at this
  refine ⟨fun hv e he => one hv (found_of_some s acc.va he), fun hv hnone => ?_, fun hp => ?_, fun f => resolve_of_error,
    fun pa ma => resolve_follows hn, fun f => ⟨transIntr_interrupts s acc f, defers_iff s f⟩⟩
  · have hfound := found_of_none s acc.va hnone
    rw [translate_virtual hv]
    refine ⟨fun e he => one hv (hfound.trans he), fun h2 => translateVirtual_many (hfound ▸ h2), fun h0 => ?_⟩
    exact ⟨_, translateVirtual_none (hfound.trans h0), missFault_missFaults s acc⟩
  · rw [translate_physical hp]
    refine ⟨translatePhysical_beyond, fun hb hs => ?_, fun hb hs => ?_⟩
    · rw [translatePhysical_within hb, if_pos (Bool.and_eq_true_iff.2 hs)]
    · rw [translatePhysical_within hb, if_neg (mt Bool.and_eq_true_iff.1 hs)]

end

end

section
/-! SUPPORT. What a load may change beside its targets and its base (R91 to R98, R425): the registers it writes, one after the other, and the
notes it makes. -/

namespace Sys2Proof.Machine

open Forms

/-! ### Register names (R22, R544) -/

theorem rotated_lt {i size : Nat} (k : Nat) (hi : i < size) : rotated i k size < size := by
  unfold rotated
  rw [if_neg (by omega)]
  exact Nat.mod_lt _ (by omega)

theorem rotated_inj {i j k size : Nat} (hi : i < size) (hj : j < size) (h : rotated i k size = rotated j k size) : i = j := by
  unfold rotated at h
  rw [if_neg (by omega), if_neg (by omega)] at h
  have : i % size = j % size := Nat.ModEq.add_right_cancel' k h
  rwa [Nat.mod_eq_of_lt hi, Nat.mod_eq_of_lt hj] at this

/-- The place of a stacked register in its frame, after rotation. -/
def State.framePlace (s : State) (i : Nat) : Nat :=
  if i < 8 * cfmSor s.cfm then rotated i (cfmRrbGr s.cfm) (8 * cfmSor s.cfm) else i

theorem State.framePlace_lt {s : State} (hs : s.FrameOk) {i : Nat} (hi : i < cfmSof s.cfm) : s.framePlace i < 96 := by
  obtain ⟨hsof, -, hsor⟩ := hs
  unfold State.framePlace
  split
  · next h => exact (rotated_lt _ h).trans_le (by omega)
  · omega

theorem State.framePlace_inj {s : State} {i j : Nat} (h : s.framePlace i = s.framePlace j) : i = j := by
  unfold State.framePlace at h
  split at h <;> split at h
  · next hi hj => exact rotated_inj hi hj h
  · next hi hj => exact absurd (rotated_lt (cfmRrbGr s.cfm) hi) (h ▸ hj)
  · next hi hj => exact absurd (rotated_lt (cfmRrbGr s.cfm) hj) (h ▸ hi)
  · exact h

theorem State.grPhys_stacked (s : State) {r : GrIdx} (h : 32 ≤ r.toNat) :
    s.grPhys r = 48 + (s.bof + s.framePlace (r.toNat - 32)) % 96 := by
  unfold State.grPhys
  dsimp only
  rw [if_neg (by omega), if_neg (by omega)]
  rfl

theorem State.grPhys_static (s : State) {r : GrIdx} (h : r.toNat < 32) :
    s.grPhys r = if r.toNat < 16 then r.toNat else if s.psrBn then r.toNat + 16 else r.toNat := by
  unfold State.grPhys
  dsimp only
  rw [if_pos h]

/-- Two visible registers of a frame are two physical registers. -/
theorem State.grPhys_inj {s : State} (hs : s.FrameOk) {q r : GrIdx} (hq : s.grVisible q = true) (hr : s.grVisible r = true)
    (h : s.grPhys q = s.grPhys r) : q = r := by
  have hq' : q.toNat < 32 + cfmSof s.cfm := of_decide_eq_true hq
  have hr' : r.toNat < 32 + cfmSof s.cfm := of_decide_eq_true hr
  apply BitVec.eq_of_toNat_eq
  by_cases hq32 : q.toNat < 32 <;> by_cases hr32 : r.toNat < 32
  · rw [s.grPhys_static hq32, s.grPhys_static hr32] at h
    repeat' split at h
    all_goals omega
  · rw [s.grPhys_static hq32, s.grPhys_stacked (by omega)] at h
    split at h
    · omega
    · split at h <;> omega
  · rw [s.grPhys_stacked (by omega), s.grPhys_static hr32] at h
    split at h
    · omega
    · split at h <;> omega
  · rw [s.grPhys_stacked (by omega), s.grPhys_stacked (by omega)] at h
    have hpq := State.framePlace_lt hs (show q.toNat - 32 < cfmSof s.cfm by omega)
    have hpr := State.framePlace_lt hs (show r.toNat - 32 < cfmSof s.cfm by omega)
    have := State.framePlace_inj (s := s) (i := q.toNat - 32) (j := r.toNat - 32) (by omega)
    omega

/-- Two floating-point registers are two physical registers. -/
theorem State.frPhys_inj {s : State} {f g : FrIdx} (h : s.frPhys f = s.frPhys g) : f = g := by
  have hf := f.isLt
  have hg := g.isLt
  apply BitVec.eq_of_toNat_eq
  unfold State.frPhys at h
  dsimp only at h
  split at h <;> split at h
  · exact h
  · omega
  · omega
  · have := rotated_inj (k := cfmRrbFr s.cfm) (size := 96) (i := f.toNat - 32) (j := g.toNat - 32) (by omega) (by omega) (by omega)
    omega

/-! ### Writes of memory instructions (R285, R911) -/

/-- A load's data, a base update, or the mark of a floating-point target. -/
def MemWrite : WrittenReg × WriteKind → Prop
  | (.gr _, k) => k = .load ∨ k = .update
  | (.fr _, k) => k = .load
  | (.um _, k) => k = .sticky
  | (.br _, _) | (.ar _, _) | (.part _ _, _) => False

/-- Such a write touches its own register alone: no application register, and no part of one. -/
theorem MemWrite.overlaps_eq {r : WrittenReg} {k : WriteKind} (h : MemWrite (r, k)) (q : WrittenReg) : r.overlaps q = (r == q) := by
  cases r with
  | gr p | fr p | um b => rfl
  | br n | ar n | part n m => exact h.elim

/-- Two such writes of one register are serialised (R911). -/
theorem MemWrite.serialised {r : WrittenReg} {k l : WriteKind} (hk : MemWrite (r, k)) (hl : MemWrite (r, l)) :
    r.serialised k l = true := by
  cases r with
  | gr p => rcases hk with rfl | rfl <;> rcases hl with rfl | rfl <;> rfl
  | fr p | um b => rw [show k = _ from hk, show l = _ from hl]; rfl
  | br n | ar n | part n m => exact hk.elim

/-- Such writes do not disturb one another. -/
theorem MemWrite.joins {v w : WrittenReg × WriteKind} (hv : MemWrite v) (hw : MemWrite w) :
    (v.1.overlaps w.1 && !w.1.serialised v.2 w.2) = false := by
  obtain ⟨r, k⟩ := v
  obtain ⟨q, l⟩ := w
  rw [Bool.and_eq_false_imp, hv.overlaps_eq, beq_iff_eq]
  rintro rfl
  rw [hv.serialised hw]
  rfl

theorem State.wawFree_of_noted {s t : State} {l : List (WrittenReg × WriteKind)} (ht : t.grpWrites = l ++ s.grpWrites)
    (hl : ∀ w ∈ l, MemWrite w) {w : WrittenReg × WriteKind} (hw : MemWrite w) : t.wawFree w.1 w.2 = s.wawFree w.1 w.2 := by
  unfold State.wawFree
  rw [ht, List.any_append, Bool.or_eq_right_iff_imp]
  intro h
  obtain ⟨v, hv, hj⟩ := List.any_eq_true.1 h
  rw [(hl v hv).joins hw] at hj
  cases hj

/-- A load's data stays whatever wrote the general register before (R911 (c)). -/
theorem State.wawFree_gr_load (s : State) (p : Nat) : s.wawFree (.gr p) .load = false := by
  simp [State.wawFree, WrittenReg.serialised]

/-! ### What a load changes -/

/-- `t` is `s` after writes of memory instructions to the physical general registers `gs` and the floating-point registers `fs`, and notes:
of the ALAT, the order of use of the TLBs, and the group. -/
structure State.LoadEffect (s t : State) (gs : List Nat) (fs : List FrIdx) : Prop where
  rest  : t = { s with cur := t.cur, psr := t.psr, grpWrites := t.grpWrites, alat := t.alat, dtcache := t.dtcache, l1dtlb := t.l1dtlb,
                       grpAlatSets := t.grpAlatSets, grpAlatChecks := t.grpAlatChecks, grpAlatInval := t.grpAlatInval,
                       events := t.events }
  gr    : ∀ p, p ∉ gs → t.cur.gr p = s.cur.gr p
  fr    : ∀ p, (∀ f ∈ fs, p ≠ s.frPhys f) → t.cur.frAt p = s.cur.frAt p
  regs  : s.cur.OnlyGrFr t.cur
  marks : s.MarksFr t fs
  noted : ∃ l, t.grpWrites = l ++ s.grpWrites ∧ ∀ w ∈ l, MemWrite w

section Effect

variable {s t u : State} {gs hs : List Nat} {fs ks : List FrIdx}

/-- Notes alone. -/
theorem State.LoadEffect.of_notes (h : t = { s with
      alat := t.alat, dtcache := t.dtcache, l1dtlb := t.l1dtlb, grpAlatSets := t.grpAlatSets, grpAlatChecks := t.grpAlatChecks,
      grpAlatInval := t.grpAlatInval, events := t.events }) : s.LoadEffect t [] [] where
  rest := by rw [h]
  gr _ _ := by rw [h]
  fr _ _ := by rw [h]
  regs := by rw [h]; rfl
  marks := ⟨nofun, fun _ _ => by rw [h]⟩
  noted := ⟨[], by rw [h]; rfl, nofun⟩

theorem State.LoadEffect.frPhys_eq (h : s.LoadEffect t gs fs) (f : FrIdx) : t.frPhys f = s.frPhys f := by
  unfold State.frPhys
  rw [h.rest]

theorem State.LoadEffect.wawFree_eq (h : s.LoadEffect t gs fs) {w : WrittenReg × WriteKind} (hw : MemWrite w) :
    t.wawFree w.1 w.2 = s.wawFree w.1 w.2 := by
  obtain ⟨l, ht, hl⟩ := h.noted
  exact State.wawFree_of_noted ht hl hw

/-- PSR.bn is no bit of the user mask, so that names stay. -/
theorem State.LoadEffect.grPhys_eq (h : s.LoadEffect t gs fs) (r : GrIdx) : t.grPhys r = s.grPhys r := by
  have bank : t.psrBn = s.psrBn := h.marks.2 44 fun f _ => by unfold modifiedBit; split <;> decide
  have cfm : t.cfm = s.cfm := by rw [h.rest]
  have bof : t.bof = s.bof := by rw [h.rest]
  unfold State.grPhys
  rw [bank, cfm, bof]

theorem State.LoadEffect.grTargetOk_eq (h : s.LoadEffect t gs fs) (r : GrIdx) : t.grTargetOk r = s.grTargetOk r := by
  unfold State.grTargetOk State.grVisible
  rw [h.rest]

theorem Regs.OnlyGrFr.trans {g h k : Regs} (hg : g.OnlyGrFr h) (hh : h.OnlyGrFr k) : g.OnlyGrFr k := by
  unfold Regs.OnlyGrFr at *
  rw [hg] at hh
  exact hh

theorem State.LoadEffect.trans (h : s.LoadEffect t gs fs) (g : t.LoadEffect u hs ks) : s.LoadEffect u (gs ++ hs) (fs ++ ks) where
  rest := by
    have gr := g.rest
    rw [h.rest] at gr
    exact gr
  gr p hp := by
    rw [List.mem_append, not_or] at hp
    rw [g.gr p hp.2, h.gr p hp.1]
  fr p hp := by
    rw [g.fr p fun f hf => by rw [h.frPhys_eq]; exact hp f (List.mem_append_right fs hf),
      h.fr p fun f hf => hp f (List.mem_append_left ks hf)]
  regs := h.regs.trans g.regs
  marks := by
    refine ⟨fun f hf hw => ?_, fun k hk => ?_⟩
    · have hw' : t.wawFree (.um (modifiedBit f)) .sticky = false := by
        rw [h.wawFree_eq (w := (.um (modifiedBit f), .sticky)) rfl]; exact hw
      by_cases hks : ∃ g ∈ ks, modifiedBit f = modifiedBit g
      · obtain ⟨g', hg, he⟩ := hks
        rw [he] at hw' ⊢
        exact g.marks.1 g' hg hw'
      · rw [g.marks.2 _ fun g' hg he => hks ⟨g', hg, he⟩]
        rcases List.mem_append.1 hf with hf | hf
        · exact h.marks.1 f hf hw
        · exact absurd ⟨f, hf, rfl⟩ hks
    · rw [g.marks.2 k fun f hf => hk f (List.mem_append_right fs hf), h.marks.2 k fun f hf => hk f (List.mem_append_left ks hf)]
  noted := by
    obtain ⟨l, ht, hl⟩ := h.noted
    obtain ⟨m, hu, hm⟩ := g.noted
    exact ⟨m ++ l, by rw [hu, ht, List.append_assoc], fun w hw => (List.mem_append.1 hw).elim (hm w) (hl w)⟩

/-- A general register is written with a load's data or as a base. -/
theorem State.setGr_effect (s : State) (r : GrIdx) (v : GReg) {k : WriteKind} (hk : k = .load ∨ k = .update) :
    s.LoadEffect (s.setGr r v k) [s.grPhys r] [] where
  rest := rfl
  gr p hp := s.setGr_other r v k p (by simpa using hp)
  fr p _ := by
    show ((s.cur.setGr _ _).frAt p) = _
    rw [Regs.setGr_frame]
    rfl
  regs := by
    show s.cur.OnlyGrFr (s.cur.setGr _ _)
    unfold Regs.OnlyGrFr
    rw [Regs.setGr_frame]
  marks := ⟨nofun, fun _ _ => rfl⟩
  noted := ⟨[(.gr (s.grPhys r), k)], rfl, by simpa [MemWrite] using hk⟩

/-- A floating-point register is written with a load's data. -/
theorem State.setFr_effect (s : State) (f : FrIdx) (v : FReg) : s.LoadEffect (s.setFr f v .load) [] [f] where
  rest := rfl
  gr p _ := rfl
  fr p hp := s.setFr_other f v .load p (hp f (List.mem_singleton_self f))
  regs := rfl
  marks := by
    refine ⟨fun g hg hw => ?_, fun k hk => ?_⟩
    · rw [List.mem_singleton.1 hg] at hw ⊢
      rw [State.setFr_psr_bit, if_pos rfl, if_neg (by rw [hw]; decide)]
    · rw [State.setFr_psr_bit, if_neg (hk f (List.mem_singleton_self f))]
  noted := by
    refine ⟨(umBitsOf (1#64 <<< modifiedBit f)).map (fun b => (.um b, .sticky)) ++ [(.fr (s.frPhys f), .load)], ?_, fun w hw => ?_⟩
    · rw [List.append_assoc]
      rfl
    · rcases List.mem_append.1 hw with hw | hw
      · obtain ⟨b, -, rfl⟩ := List.mem_map.1 hw
        rfl
      · rw [List.mem_singleton.1 hw]
        rfl

end Effect

/-! ### The notes of a load -/

/-- What a load notes beside its registers. -/
structure LoadNotes where
  alat    : List AlatEntry
  sets    : List AlatReg
  checks  : List AlatReg
  inval   : List AlatReg
  dtcache : List TlbEntry
  l1dtlb  : List TlbEntry

def State.loadNotes (s : State) : LoadNotes :=
  { alat := s.alat, sets := s.grpAlatSets, checks := s.grpAlatChecks, inval := s.grpAlatInval, dtcache := s.dtcache, l1dtlb := s.l1dtlb }

@[simp] theorem State.updateBase_loadNotes (s t : State) (r3 : GrIdx) (u : BaseUpdate) :
    (s.updateBase t r3 u).loadNotes = t.loadNotes := by
  unfold State.updateBase
  split <;> rfl

/-! ### The base (R425) -/

/-- The physical registers that a base update writes. -/
def baseWrites (s : State) (r3 : GrIdx) (u : BaseUpdate) : List Nat := if u.updates then [s.grPhys r3] else []

theorem State.baseValue_eq (s : State) (r3 : GrIdx) (u : BaseUpdate) : s.baseValue r3 u = newBase s r3 u := by
  cases u <;> rfl

section Base

variable {s t : State} {gs : List Nat} {fs : List FrIdx}

theorem State.LoadEffect.updateBase (h : s.LoadEffect t gs fs) (r3 : GrIdx) (u : BaseUpdate) :
    s.LoadEffect (s.updateBase t r3 u) (gs ++ baseWrites s r3 u) fs := by
  unfold State.updateBase baseWrites
  split
  · have := h.trans (t.setGr_effect r3 (s.baseValue r3 u) (.inr rfl))
    rwa [h.grPhys_eq, List.append_nil] at this
  · rwa [List.append_nil]

/-- An updated base holds its new value. -/
theorem State.LoadEffect.baseDone (h : s.LoadEffect t gs fs) {r3 : GrIdx} {u : BaseUpdate}
    (hr : u.updates = true → s.grTargetOk r3 = true) : baseDone s (s.updateBase t r3 u) r3 u := by
  intro hu hw
  have hw' : t.wawFree (.gr (t.grPhys r3)) .update = false := by
    rw [h.wawFree_eq (w := (.gr (t.grPhys r3), .update)) (.inr rfl), h.grPhys_eq]
    exact hw
  have written := t.setGr_same r3 (s.baseValue r3 u) .update (by rw [h.grTargetOk_eq]; exact hr hu) hw'
  rw [h.grPhys_eq] at written
  unfold State.updateBase
  rw [if_pos hu, written, State.baseValue_eq]

theorem State.updateBase_frAt (s t : State) (r3 : GrIdx) (u : BaseUpdate) (p : Nat) :
    (s.updateBase t r3 u).cur.frAt p = t.cur.frAt p := by
  unfold State.updateBase
  split
  · exact (t.setGr_effect r3 _ (.inr rfl)).fr p nofun
  · rfl

end Base

end Sys2Proof.Machine

end

section
/-! SUPPORT. Loads by their form (R380 to R396): what a load that may go ahead answers, whatever its targets are. -/

namespace Sys2Proof.Forms

open Sys2Proof.Machine

/-! ### Loads by their form -/

/-- How a load writes its targets. -/
def LoadDst.deliver (s : State) (n : Nat) : LoadDst → State → Option Nat → State
  | .gr r1 => s.deliverInt r1 n
  | .fr f1 fmt => fun t p => match p with
    | some pa => t.setFr f1 (s.loadFp fmt pa) .load
    | none => t.setFr f1 FReg.natVal .load
  | .pair f1 f2 fmt => fun t p => match p with
    | some pa => (t.setFr f1 (s.loadFp fmt pa) .load).setFr f2 (s.loadFp fmt (pa + fmt.size)) .load
    | none => (t.setFr f1 FReg.natVal .load).setFr f2 FReg.natVal .load

/-- The instruction that a load of a form is. -/
def LoadForm.outcome (s : State) (f : LoadForm) : Host.Outcome State Fault Refusal :=
  match f.dst with
  | .gr r1 => intLoad s f.qp r1 f.r3 f.u f.n f.k
  | .fr f1 fmt => fpLoad s f.qp f1 f.r3 f.u fmt f.k
  | .pair f1 f2 fmt => fpLoadPair s f.qp f1 f2 f.r3 f.u fmt f.k

/-- The size of a load is that of its format. -/
def LoadForm.sized (f : LoadForm) : Prop :=
  match f.dst with
  | .gr _ => True
  | .fr _ fmt => f.n = fmt.size
  | .pair _ _ fmt => f.n = 2 * fmt.size

/-- The instruction is a load of the form. -/
def LoadForm.Is (i : Instr) (f : LoadForm) : Prop := (∀ s, exec i s = f.outcome s) ∧ f.sized

theorem intLoadForm_is {i : Instr} {f : LoadForm} (h : intLoadForm i = some f) : f.Is i := by
  unfold intLoadForm at h
  split at h <;> cases h <;> exact ⟨fun _ => rfl, trivial⟩

theorem fpLoadForm_is {i : Instr} {f : LoadForm} (h : fpLoadForm i = some f) : f.Is i := by
  unfold fpLoadForm at h
  split at h <;> cases h <;> exact ⟨fun _ => rfl, rfl⟩

theorem fpPairForm_is {i : Instr} {f : LoadForm} (h : fpPairForm i = some f) : f.Is i := by
  unfold fpPairForm at h
  split at h <;> cases h <;> exact ⟨fun _ => rfl, rfl⟩

/-! ### The frame of a load -/

section Ready

variable {s : State} {r3 : GrIdx} {u : BaseUpdate} {other : Option GrIdx}

/-- An updated base is a writable register, and not the target. -/
theorem baseReady.updated (h : baseReady s r3 u other) (hu : u.updates = true) : s.grTargetOk r3 = true ∧ other ≠ some r3 := by
  cases u with
  | none => cases hu
  | reg r2 => exact ⟨h.2.1, h.2.2.2⟩
  | imm v => exact h.2

theorem baseReady.baseTarget (h : baseReady s r3 u other) : s.baseTarget r3 u = .ok () := by
  unfold State.baseTarget
  split
  · next hu => exact if_pos (h.updated hu).1
  · rfl

theorem baseReady.updateReadable (h : baseReady s r3 u other) : s.updateReadable u = .ok () := by
  cases u with
  | none | imm v => rfl
  | reg r2 => exact if_pos h.2.2.1

theorem baseReady.readGr (h : baseReady s r3 u other) : s.readGr r3 = .ok (s.gr r3) := if_pos h.1

theorem baseReady.sourceGr (h : baseReady s r3 u other) : s.sourceGr r3 = .ok () := if_pos h.1

/-- The floating-point registers of the form are enabled. -/
theorem baseReady.fpMemOk (h : baseReady s r3 u other) {fs : List FrIdx} (hf : ∀ f ∈ fs, s.frDisabled f = 0) :
    s.fpMemOk r3 u fs = .ok () := by
  have enabled : fs.foldl (fun a f => a ||| s.frDisabled f) 0#2 = 0 := by
    induction fs with
    | nil => rfl
    | cons f fs ih =>
      rw [List.foldl_cons, hf f List.mem_cons_self]
      exact ih fun g hg => hf g (List.mem_cons_of_mem f hg)
  unfold State.fpMemOk State.fpEnabled
  rw [h.sourceGr, h.updateReadable]
  exact if_pos enabled

end Ready

/-- A load whose predicate is 1 and whose targets are writable; an advanced one first gives up its entry (R98). -/
theorem runLoad_of_ready {s : State} {qp : PredIdx} {k : LoadKind} {reg : AlatReg} {t : Except Exc Unit} {b : Except Exc Res}
    (ht : t = .ok ()) (hq : s.pred qp = true) : s.runLoad qp k reg t b = finish (if k.advanced then s.alatRemove reg else s) b := by
  unfold State.runLoad
  rw [hq, Bool.and_true, run_true ht (by split <;> exact hq)]

section Outcome

variable {i : Instr} {s : State} {f : LoadForm}

/-- The body of a load of a form. -/
def LoadForm.body (s : State) (f : LoadForm) : Except Exc Res :=
  s.loadBody f.r3 f.u f.n f.dst.cls f.k (f.dst.alat s) (f.dst.deliver s f.n)

theorem getLsbD_zero_eq (x : BitVec n) : x.getLsbD 0 = decide (x.toNat % 2 = 1) := by
  rw [← BitVec.testBit_toNat, Nat.testBit_zero]

theorem LoadForm.outcome_of_ready (hz : f.sized) (hr : f.ready s) :
    f.outcome s = finish (if f.k.advanced then s.alatRemove (f.dst.alat s) else s) (f.body s) := by
  obtain ⟨qp, dst, r3, u, n, k⟩ := f
  obtain ⟨hq, hd, hb⟩ := hr
  cases dst with
  | gr r1 =>
    have ht : s.loadTargets r1 r3 u = .ok () := by
      have hne : (!(u.updates && r1 == r3)) = true := by
        rw [Bool.not_eq_true', Bool.and_eq_false_imp]
        exact fun hu => beq_eq_false_iff_ne.2 fun he => (hb.updated hu).2 (congrArg some he)
      unfold State.loadTargets
      rw [hb.baseTarget, show s.targetGr r1 = .ok () from if_pos hd]
      exact if_pos hne
    exact runLoad_of_ready ht hq
  | fr f1 fmt =>
    have ht : ((targetFr f1).bind fun _ => s.baseTarget r3 u) = .ok () := by
      rw [hb.baseTarget, show targetFr f1 = .ok () from if_pos hd.1]
      rfl
    obtain rfl : n = fmt.size := hz
    refine (runLoad_of_ready ht hq).trans ?_
    rw [hb.fpMemOk (by simpa using hd.2)]
    rfl
  | pair f1 f2 fmt =>
    obtain ⟨h1, h2, hodd, hd1, hd2⟩ := hd
    have hp : pairOk f1 f2 = true := by
      unfold pairOk
      rw [bne_iff_ne, getLsbD_zero_eq, getLsbD_zero_eq]
      exact fun he => hodd (by have := decide_eq_decide.1 he; omega)
    have ht : ((targetFr f1).bind fun _ => (targetFr f2).bind fun _ => (require (pairOk f1 f2) illegalOp).bind fun _ =>
        s.baseTarget r3 u) = .ok () := by
      rw [hb.baseTarget, show targetFr f1 = .ok () from if_pos h1, show targetFr f2 = .ok () from if_pos h2, hp]
      rfl
    obtain rfl : n = 2 * fmt.size := hz
    refine (runLoad_of_ready ht hq).trans ?_
    rw [hb.fpMemOk (by simpa using ⟨hd1, hd2⟩)]
    rfl

/-- A load that completes leaves what its body leaves. -/
theorem LoadForm.completes (hi : f.Is i) (hr : f.ready s) {t : State} (hb : f.body s = .ok { s := t }) :
    exec i s = .next (retire s { s := t }) := by
  obtain ⟨hexec, hz⟩ := hi
  rw [hexec, LoadForm.outcome_of_ready hz hr, hb]
  split <;> rfl

/-! ### The three ends of a load (R94, R100, R425) -/

theorem LoadForm.body_of_hit (hr : f.ready s) (hk : f.k.check = true) (hh : s.alatHit (f.dst.alat s) = true) :
    f.body s = .ok { s := s.updateBase (s.checkLoad f.k (f.dst.alat s) false (s.gr f.r3).val) f.r3 f.u } := by
  obtain ⟨-, -, hb⟩ := hr
  unfold LoadForm.body State.loadBody
  rw [hb.readGr, hb.updateReadable]
  exact if_pos (Bool.and_eq_true_iff.2 ⟨hk, hh⟩)

theorem LoadKind.check_of_speculative {k : LoadKind} (h : k.speculative = true) : k.check = false := by
  cases k with
  | spec | specAdv => rfl
  | plain | adv | chkClr | chkNc | chkClrAcq | acq => cases h

/-- The access of a speculative load is deferred (R567). -/
def Deferring (s : State) (f : LoadForm) : Prop :=
  (s.gr f.r3).nat = true ∨ (∃ e, s.resolve (f.acc s) = .error e ∧ s.defers e = true) ∨
    (s.psrEd = true ∧ ∃ p, s.resolve (f.acc s) = .ok p)

theorem LoadForm.body_of_deferring (hr : f.ready s) (hk : f.k.speculative = true) (hd : Deferring s f) :
    f.body s = .ok { s := s.updateBase (f.dst.deliver s f.n (s.loadDeferred f.k (f.dst.alat s)) none) f.r3 f.u } := by
  obtain ⟨-, -, hb⟩ := hr
  unfold LoadForm.body State.loadBody
  rw [hb.readGr, hb.updateReadable]
  dsimp only [Except.bind]
  rw [LoadKind.check_of_speculative hk, hk]
  by_cases hn : (s.gr f.r3).nat = true
  · rw [hn]; rfl
  · have hspec : s.accessSpec (f.acc s) = .ok none := by
      unfold State.accessSpec
      rcases hd with h | ⟨e, he, hde⟩ | ⟨hed, p, hp⟩
      · exact absurd h hn
      · rw [he]; exact if_pos hde
      · rw [hp, hed]; rfl
    rw [Bool.not_eq_true] at hn
    rw [hn]
    have hacc : s.loadAcc (s.gr f.r3).val f.n f.dst.cls f.k = f.acc s := rfl
    simp only [hacc, hspec, Bool.false_and, Bool.false_eq_true, if_false, if_true]

/-- The notes of a load that was performed, before it writes a register (R91, R750). -/
def LoadForm.performed (s : State) (f : LoadForm) (pa : Nat) (ma : MemAttr) : State :=
  ((s.loadAlat f.k (f.dst.alat s) pa f.n).checkMiss f.k (f.dst.alat s) (s.gr f.r3).val).loadNoted f.k (f.acc s) ma

theorem LoadForm.body_of_performed (hr : f.ready s) (hn : (s.gr f.r3).nat = false) (hed : f.k.speculative = true → s.psrEd = false)
    (hm : f.k.check = true → s.alatHit (f.dst.alat s) = false) {pa : Nat} {ma : MemAttr} (ha : s.resolve (f.acc s) = .ok (pa, ma)) :
    f.body s = .ok { s := s.updateBase (f.dst.deliver s f.n (f.performed s pa ma) (some pa)) f.r3 f.u } := by
  obtain ⟨-, -, hb⟩ := hr
  have miss : (f.k.check && s.alatHit (f.dst.alat s)) = false := by
    rw [Bool.and_eq_false_imp]
    exact hm
  have hspec : (if f.k.speculative then s.accessSpec (f.acc s) else (s.access (f.acc s)).map some) = .ok (some (pa, ma)) := by
    unfold State.accessSpec State.access
    rw [ha]
    split
    · next hk => rw [hed hk]; rfl
    · rfl
  unfold LoadForm.body State.loadBody
  rw [hb.readGr, hb.updateReadable]
  dsimp only [Except.bind]
  rw [miss, hn]
  have hacc : s.loadAcc (s.gr f.r3).val f.n f.dst.cls f.k = f.acc s := rfl
  simp only [hacc, hspec, Bool.false_eq_true, if_false]
  rfl

end Outcome

/-! ### What the targets take -/

section Deliver

variable {s m : State} {d : LoadDst}

/-- The physical general registers that a load's targets are. -/
def LoadDst.gregs (s : State) (d : LoadDst) : List Nat := (d.greg.map s.grPhys).toList

theorem LoadDst.deliver_effect (h : s.LoadEffect m [] []) (n : Nat) (p : Option Nat) :
    s.LoadEffect (d.deliver s n m p) (d.gregs s) d.frs := by
  cases d with
  | gr r1 =>
    have := h.trans (m.setGr_effect r1 (match p with
      | some pa => GReg.ofWord (s.loadInt pa n)
      | none => { val := 0, nat := true }) (.inl rfl))
    rw [h.grPhys_eq] at this
    cases p <;> exact this
  | fr f1 fmt => cases p <;> exact h.trans (m.setFr_effect f1 _)
  | pair f1 f2 fmt =>
    cases p <;> exact (h.trans (m.setFr_effect f1 _)).trans (State.setFr_effect _ f2 _)

theorem LoadDst.deliver_loadNotes (s m : State) (d : LoadDst) (n : Nat) (p : Option Nat) :
    (d.deliver s n m p).loadNotes = m.loadNotes := by
  cases d <;> cases p <;> rfl

theorem frLoaded_setFr (h : s.LoadEffect m [] fs) {f : FrIdx} (hf : frTargetOk f = true) (v : FReg) :
    frLoaded s (m.setFr f v .load) f v := by
  intro hw
  have hw' : m.wawFree (.fr (m.frPhys f)) .load = false := by
    rw [h.wawFree_eq (w := (.fr (m.frPhys f), .load)) rfl, h.frPhys_eq]
    exact hw
  have written := m.setFr_same f v .load hf hw'
  rwa [h.frPhys_eq] at written

/-- The second target of a pair is another register. -/
theorem frLoaded_pair (h : s.LoadEffect m [] []) {f g : FrIdx} (hf : frTargetOk f = true) (hg : frTargetOk g = true)
    (hne : f ≠ g) (v w : FReg) :
    frLoaded s ((m.setFr f v .load).setFr g w .load) f v ∧ frLoaded s ((m.setFr f v .load).setFr g w .load) g w := by
  have first := h.trans (m.setFr_effect f v)
  refine ⟨fun hw => ?_, frLoaded_setFr first hg w⟩
  rw [State.setFr_other _ _ _ _ _ fun he => hne (State.frPhys_inj (he.trans (first.frPhys_eq g)))]
  exact frLoaded_setFr h hf v hw

/-- The targets of a deferred load take the token. -/
theorem LoadDst.deliver_deferred (h : s.LoadEffect m [] []) (hd : d.ready s) (n : Nat) : d.deferred s (d.deliver s n m none) := by
  cases d with
  | gr r1 =>
    have written := m.setGr_same r1 { val := 0, nat := true } .load (by rw [h.grTargetOk_eq]; exact hd) (m.wawFree_gr_load _)
    rwa [h.grPhys_eq] at written
  | fr f1 fmt => exact frLoaded_setFr h hd.1 _
  | pair f1 f2 fmt =>
    obtain ⟨h1, h2, hodd, -, -⟩ := hd
    exact frLoaded_pair h h1 h2 (fun he => hodd (congrArg (fun f => f.toNat % 2) he)) _ _

/-- The base update leaves the token in a target that is not the base. -/
theorem LoadDst.deferred_updateBase {t : State} {gs : List Nat} {fs : List FrIdx} (h : s.LoadEffect t gs fs) (hd : d.deferred s t)
    {r3 : GrIdx} {u : BaseUpdate} (hne : u.updates = true → ∀ r1, d.greg = some r1 → s.grPhys r1 ≠ s.grPhys r3) :
    d.deferred s (s.updateBase t r3 u) := by
  have fr (f : FrIdx) (v : FReg) (hf : frLoaded s t f v) : frLoaded s (s.updateBase t r3 u) f v := fun hw => by
    rw [State.updateBase_frAt]
    exact hf hw
  cases d with
  | gr r1 =>
    show (s.updateBase t r3 u).cur.gr (s.grPhys r1) = _
    unfold State.updateBase
    split
    · next hu => rw [State.setGr_other _ _ _ _ _ (by rw [h.grPhys_eq]; exact hne hu r1 rfl)]; exact hd
    · exact hd
  | fr f1 fmt => exact fr f1 _ hd
  | pair f1 f2 fmt => exact ⟨fr f1 _ hd.1, fr f2 _ hd.2⟩

/-- In a frame the target and the updated base are two physical registers. -/
theorem LoadForm.base_apart {f : LoadForm} (hs : s.FrameOk) (hr : f.ready s) (hu : f.u.updates = true) (r1 : GrIdx)
    (h1 : f.dst.greg = some r1) : s.grPhys r1 ≠ s.grPhys f.r3 := by
  obtain ⟨-, hd, hb⟩ := hr
  have hv1 : s.grVisible r1 = true := by
    cases hdst : f.dst with
    | gr r =>
      rw [hdst] at h1 hd
      injection h1 with h1
      subst h1
      exact (Bool.and_eq_true_iff.1 hd).2
    | fr | pair => rw [hdst] at h1; cases h1
  intro he
  exact (hb.updated hu).2 (h1.trans (congrArg some (State.grPhys_inj hs hv1 hb.1 he)))

end Deliver

/-! ### The frame -/

/-- The registers outside the targets and the base stay, and nothing else changes but the notes. -/
theorem LoadForm.frame_of_effect {s t : State} {f : LoadForm} {w : Bool} {gs : List Nat}
    (h : s.LoadEffect t (gs ++ baseWrites s f.r3 f.u) (if w then f.dst.frs else [])) (hg : gs = if w then f.dst.gregs s else []) :
    f.Frame s t w t.loadNotes.dtcache t.loadNotes.l1dtlb := by
  have mem : t.mem = s.mem := by rw [h.rest]
  refine ⟨fun p hp hb => h.gr p fun hm => ?_, fun p hp => h.fr p fun g hgm => ?_, h.regs, h.marks, h.rest, fun a => by rw [mem]⟩
  · rcases List.mem_append.1 hm with hm | hm
    · cases w with
      | false => rw [hg] at hm; cases hm
      | true => rw [hg] at hm; exact hp rfl (Option.mem_toList.1 hm)
    · unfold baseWrites at hm
      unfold basePhys at hb
      split at hm
      · next hu => rw [if_pos hu] at hb; exact hb (congrArg some (List.mem_singleton.1 hm).symm)
      · cases hm
  · cases w with
    | false => cases hgm
    | true =>
      have hp := hp rfl
      have hgm : g ∈ f.dst.frs := hgm
      cases hdst : f.dst with
      | gr r1 => rw [hdst] at hgm; cases hgm
      | fr f1 fmt =>
        rw [hdst] at hgm hp
        rw [List.mem_singleton.1 hgm]
        exact hp
      | pair f1 f2 fmt =>
        rw [hdst] at hgm hp
        obtain ⟨hp1, hp2⟩ := hp
        rcases List.mem_cons.1 hgm with rfl | hgm
        · exact hp1
        · rw [List.mem_singleton.1 hgm]
          exact hp2

/-! ### The notes (R91 to R98) -/

section Notes

variable {s : State} {k : LoadKind} {r : AlatReg}

theorem checkLoad_effect (s : State) (k : LoadKind) (r : AlatReg) (b : Bool) (va : Word) : s.LoadEffect (s.checkLoad k r b va) [] [] := by
  unfold State.checkLoad
  dsimp only
  split <;> exact .of_notes rfl

/-- What a check notes: `.clr` gives up the entry and says so, `.nc` keeps it (R94). -/
theorem checkLoad_loadNotes (s : State) (k : LoadKind) (r : AlatReg) (b : Bool) (va : Word) :
    (s.checkLoad k r b va).loadNotes = { s.loadNotes with
      alat := if k.clears then s.alat.filter (fun e => e.reg ≠ r) else s.alat, checks := r :: s.grpAlatChecks,
      inval := if k.clears then r :: s.grpAlatInval else s.grpAlatInval } := by
  unfold State.checkLoad
  dsimp only
  split <;> rfl

/-- A check keeps the entry or clears it: it is `.nc` or `.clr` (R94). -/
theorem ite_clears_eq_ite_chkNc {α : Type} (hk : k.check = true) (cleared kept : α) :
    (if k.clears then cleared else kept) = if k = .chkNc then kept else cleared := by
  cases k with
  | chkClr | chkNc | chkClrAcq => rfl
  | plain | spec | adv | specAdv | acq => cases hk

theorem loadDeferred_effect (s : State) (k : LoadKind) (r : AlatReg) : s.LoadEffect (s.loadDeferred k r) [] [] := by
  cases k <;> exact .of_notes rfl

theorem loadDeferred_loadNotes (s : State) (k : LoadKind) (r : AlatReg) : (s.loadDeferred k r).loadNotes =
    { s.loadNotes with alat := if k = .specAdv then s.alat.filter (fun e => e.reg ≠ r) else s.alat } := by
  cases k <;> rfl

/-- A new entry comes first; the entries of other registers follow, and only where they fill the ALAT one of them goes (R91). -/
theorem alatPut_alat (s : State) (e : AlatEntry) : ∃ l, (s.alatPut e).alat = e :: l ∧ (l = s.alat.filter (fun f => f.reg ≠ e.reg) ∨
    32 ≤ (s.alat.filter fun f => f.reg ≠ e.reg).length ∧ ∃ i, l = (s.alat.filter fun f => f.reg ≠ e.reg).eraseIdx i) := by
  unfold State.alatPut
  dsimp only
  split
  · exact ⟨_, rfl, .inl rfl⟩
  · next h => exact ⟨_, rfl, .inr ⟨Nat.le_of_not_lt h, _, rfl⟩⟩

/-- The entry of the register is the new one, and the others stay as far as there is room. -/
theorem alatPut_files {t : State} {e : AlatEntry} (ht : t.alat = (s.alatPut e).alat) :
    e ∈ t.alat ∧ (∀ f ∈ t.alat, f.reg = e.reg → f = e) ∧ othersStay s t e.reg true := by
  obtain ⟨l, hl, hcase⟩ := alatPut_alat s e
  rw [hl] at ht
  have sub : l.Sublist (s.alat.filter fun f => f.reg ≠ e.reg) := by
    rcases hcase with rfl | ⟨-, i, rfl⟩
    · exact .refl _
    · exact List.eraseIdx_sublist _ i
  have other {f : AlatEntry} (hf : f ∈ l) : f ∈ s.alat ∧ f.reg ≠ e.reg := by simpa using sub.subset hf
  have rest : (t.alat.filter fun f => f.reg ≠ e.reg) = l := by
    rw [ht, List.filter_cons_of_neg (by simp)]
    exact List.filter_eq_self.2 fun f hf => by simpa using (other hf).2
  refine ⟨by rw [ht]; exact List.mem_cons_self, fun f hf hr => ?_, fun f hf hr => ?_, fun hroom => ?_, ?_⟩
  · rw [ht] at hf
    exact (List.mem_cons.1 hf).resolve_right fun hf => (other hf).2 hr
  · rw [ht] at hf
    exact (other ((List.mem_cons.1 hf).resolve_left fun he => hr (congrArg AlatEntry.reg he))).1
  · rw [rest]
    rcases hcase with h | ⟨hfull, -⟩
    · exact h
    · exact absurd (hroom.resolve_left Bool.noConfusion) (Nat.not_lt.2 hfull)
  · rw [rest]
    rcases hcase with rfl | ⟨-, i, rfl⟩
    · exact Nat.le_succ _
    · rw [List.length_eraseIdx]
      split <;> omega

/-- An entry is made where the group neither invalidated nor checked the register (R96, R97). -/
theorem alatSet_alat {pa n : Nat} (hall : s.grpAlatInvalAll = false) (hinv : r ∉ s.grpAlatInval) (hchk : r ∉ s.grpAlatChecks) :
    (s.alatSet r pa n).alat = (s.alatPut { reg := r, pa20 := BitVec.ofNat 20 pa, size := n }).alat := by
  have unblocked : (s.grpAlatInvalAll || s.grpAlatInval.contains r || (s.grpAlatChecks.contains r && s.freeBool 5002)) = false := by
    simp [hall, hinv, hchk]
  unfold State.alatSet
  dsimp only
  rw [unblocked]
  rfl

/-- A performed load that makes an entry leaves the ALAT as `State.alatSet` does. -/
theorem LoadForm.performed_alat {f : LoadForm} (hk : f.makesEntry = true) (s : State) (pa : Nat) (ma : MemAttr) :
    (f.performed s pa ma).alat = (s.alatSet (f.dst.alat s) pa f.n).alat := by
  have noted (t : State) : (t.loadNoted f.k (f.acc s) ma).alat = t.alat := by
    unfold State.loadNoted
    split <;> rfl
  unfold LoadForm.performed
  rw [noted]
  cases hf : f.k with
  | adv | specAdv | chkNc => rfl
  | plain | spec | acq | chkClr | chkClrAcq => simp [LoadForm.makesEntry, hf, LoadKind.advanced] at hk

end Notes

/-! ### Deferred loads, hits and entries -/

section Ends

variable {i : Instr} {f : LoadForm}

theorem LoadForm.defers (hi : f.Is i) : f.Defers i := by
  intro s hs hr hk hd
  have deferred := loadDeferred_effect s f.k (f.dst.alat s)
  have delivered := LoadDst.deliver_effect (d := f.dst) deferred f.n none
  have notes := (State.updateBase_loadNotes s _ f.r3 f.u).trans
    ((LoadDst.deliver_loadNotes s _ f.dst f.n none).trans (loadDeferred_loadNotes s f.k (f.dst.alat s)))
  have token := LoadDst.deferred_updateBase delivered (LoadDst.deliver_deferred deferred hr.2.1 f.n) (LoadForm.base_apart hs hr)
  have frame := LoadForm.frame_of_effect (w := true) (delivered.updateBase f.r3 f.u) rfl
  have base := delivered.baseDone (u := f.u) fun hu => (hr.2.2.updated hu).1
  refine ⟨_, LoadForm.completes hi hr (LoadForm.body_of_deferring hr hk hd), token, base, ?_, ⟨?_, ?_, ?_⟩, ?_⟩
  · rwa [notes] at frame
  · exact congrArg LoadNotes.sets notes
  · exact congrArg LoadNotes.checks notes
  · exact congrArg LoadNotes.inval notes
  · exact congrArg LoadNotes.alat notes

theorem LoadForm.hits (hi : f.Is i) : f.Hits i := by
  intro s hr hk hh
  have checked := checkLoad_effect s f.k (f.dst.alat s) false (s.gr f.r3).val
  have notes := (State.updateBase_loadNotes s _ f.r3 f.u).trans (checkLoad_loadNotes s f.k (f.dst.alat s) false (s.gr f.r3).val)
  have frame := LoadForm.frame_of_effect (w := false) (checked.updateBase f.r3 f.u) rfl
  have base := checked.baseDone (u := f.u) fun hu => (hr.2.2.updated hu).1
  refine ⟨_, LoadForm.completes hi hr (LoadForm.body_of_hit hr hk hh), base, ?_, ⟨?_, ?_, ?_⟩, ?_⟩
  · rwa [notes] at frame
  · exact congrArg LoadNotes.sets notes
  · exact congrArg LoadNotes.checks notes
  · exact congrArg LoadNotes.inval notes
  · exact (congrArg LoadNotes.alat notes).trans (ite_clears_eq_ite_chkNc hk _ _)

theorem LoadForm.files (hi : f.Is i) : f.Files i := by
  intro s hr hk hn hed hm hall hinv hchk pa ma ha
  have notes := (State.updateBase_loadNotes s _ f.r3 f.u).trans (LoadDst.deliver_loadNotes s (f.performed s pa ma) f.dst f.n (some pa))
  have filed := (congrArg LoadNotes.alat notes).trans ((LoadForm.performed_alat hk s pa ma).trans (alatSet_alat hall hinv hchk))
  exact ⟨_, LoadForm.completes hi hr (LoadForm.body_of_performed hr hn hed hm ha), alatPut_files filed⟩

end Ends

end Sys2Proof.Forms

section

open Sys2Proof Machine Forms

/-- Settles O36: a load that defers, a check that hits and a load that makes an entry are one operation, whatever the targets are. -/
theorem speculativeAdvancedAndCheckLoads : Obligations.SpeculativeAdvancedAndCheckLoads := by
  unfold Obligations.SpeculativeAdvancedAndCheckLoads
  have hitsAndFiles {i : Instr} {f : LoadForm} (h : f.Is i) : f.Hits i ∧ f.Files i := ⟨f.hits h, f.files h⟩
  exact ⟨⟨fun _ f h => f.defers (intLoadForm_is h), fun _ f h => f.defers (fpLoadForm_is h), fun _ f h => f.defers (fpPairForm_is h)⟩,
    fun _ _ h => hitsAndFiles (intLoadForm_is h), fun _ _ h => hitsAndFiles (fpLoadForm_is h),
    fun _ _ h => hitsAndFiles (fpPairForm_is h)⟩

end

end

section
/-! SUPPORT. Translations that do not overlap: what the lists of translations keep through purges and inserts (R158, R485), and that every
step keeps the TLBs as they should be (R155, R159). -/

namespace Sys2Proof.Machine

/-! ### Pages -/

/-- The mask of a page does not reach the bits above it. -/
theorem and_not_pageMask_shiftRight {ps : BitVec 6} {k : Nat} (h : ps.toNat ≤ k) (off : BitVec 61) :
    (off &&& ~~~ pageMask ps) >>> k = off >>> k := by
  refine BitVec.eq_of_getLsbD_eq fun i _ => ?_
  have above : ¬ k + i < ps.toNat := by omega
  by_cases hi : k + i < 61
  · rw [BitVec.getLsbD_ushiftRight, BitVec.getLsbD_ushiftRight, BitVec.getLsbD_and, BitVec.getLsbD_not, pageMask_bit]
    simp [above, hi]
  · simp [show 61 ≤ k + i by omega]

/-- A translation covers the beginning of each segment of an address that it covers (R151, R155). -/
theorem TlbEntry.covers_segment {e : TlbEntry} {rid : BitVec 24} {va : Word} (hp : 12 ≤ e.ps.toNat)
    (hc : e.covers rid (va.extractLsb' 0 61) = true) : e.covers (e.segment va).rid (e.segment va).va = true := by
  have block : ((e.segment va).va >>> e.ps.toNat) = va.extractLsb' 0 61 >>> e.ps.toNat := and_not_pageMask_shiftRight hp _
  simp only [TlbEntry.covers, Bool.and_eq_true, decide_eq_true_eq] at hc ⊢
  obtain ⟨-, same⟩ := hc
  exact ⟨rfl, same.trans block.symm⟩

/-- What the words of an insert must be for a translation, and the page that it then is for (R485). -/
theorem makeEntry_eq_some {s : State} {va itir v : Word} {e : TlbEntry} (h : s.makeEntry va itir v = some e) :
    pageSizeOk e.ps = true ∧ e.rid = rrRid (s.regionReg va) ∧ e.va = va.extractLsb' 0 61 &&& ~~~ pageMask e.ps := by
  unfold State.makeEntry at h
  dsimp only at h
  split at h
  · exact absurd h nofun
  · next hok =>
    obtain ⟨ma, -, rfl⟩ := Option.map_eq_some_iff.1 h
    exact ⟨by simp_all, rfl, rfl⟩

theorem le_of_pageSizeOk {ps : BitVec 6} (h : pageSizeOk ps = true) : 12 ≤ ps.toNat := by
  simp only [pageSizeOk, List.contains_eq_mem, decide_eq_true_eq, List.mem_cons, List.not_mem_nil, or_false] at h
  omega

theorem State.Makes.page {s : State} {e : TlbEntry} (h : s.Makes e) : 12 ≤ e.ps.toNat := by
  obtain ⟨va, itir, v, he⟩ := h
  exact le_of_pageSizeOk (makeEntry_eq_some he).1

/-- A translation covers the address that it was made for. -/
theorem covers_of_makeEntry {s : State} {va itir v : Word} {e : TlbEntry} (h : s.makeEntry va itir v = some e) :
    e.covers (rrRid (s.regionReg va)) (va.extractLsb' 0 61) = true := by
  obtain ⟨-, hrid, hva⟩ := makeEntry_eq_some h
  simp only [TlbEntry.covers, Bool.and_eq_true, decide_eq_true_eq]
  exact ⟨hrid, by rw [hva, and_not_pageMask_shiftRight le_rfl]⟩

/-! ### Lists of translations -/

/-- No two of the translations overlap, and each is of 4 KB or more (R152, R159). -/
structure TranslationsOk (l : List TlbEntry) : Prop where
  disjoint : l.Pairwise fun e f => e.overlaps f.rid f.va f.ps = false
  pages : ∀ e ∈ l, 12 ≤ e.ps.toNat

/-- The translations that a file of registers holds. -/
def registered (regs : Vector (Option TlbEntry) 64) : List TlbEntry := regs.toList.filterMap id

theorem TlbEntry.overlaps_comm (e f : TlbEntry) : e.overlaps f.rid f.va f.ps = f.overlaps e.rid e.va e.ps := by
  unfold TlbEntry.overlaps
  rw [Nat.max_comm]
  exact congrArg₂ and (decide_eq_decide.2 eq_comm) (decide_eq_decide.2 eq_comm)

section Lists

variable {l m : List TlbEntry} {regs : Vector (Option TlbEntry) 64} {e : TlbEntry}

theorem TranslationsOk.sublist (h : TranslationsOk l) (hm : m.Sublist l) : TranslationsOk m :=
  ⟨h.disjoint.sublist hm, fun e he => h.pages e (hm.subset he)⟩

theorem TranslationsOk.perm (h : TranslationsOk l) (hm : m.Perm l) : TranslationsOk m :=
  ⟨h.disjoint.perm hm.symm fun {e f} hef => (f.overlaps_comm e).trans hef, fun e he => h.pages e (hm.subset he)⟩

theorem TranslationsOk.cons (h : TranslationsOk l) (hp : 12 ≤ e.ps.toNat)
    (hd : ∀ f ∈ l, f.overlaps e.rid e.va e.ps = false) : TranslationsOk (e :: l) where
  disjoint := .cons (fun f hf => (e.overlaps_comm f).trans (hd f hf)) h.disjoint
  pages := List.forall_mem_cons.2 ⟨hp, h.pages⟩

/-- The Machine Check of an insert asks of every translation in a register whether it overlaps the new one (R485). -/
theorem hitsReg_eq_false_iff : hitsReg regs e = false ↔ ∀ f ∈ registered regs, f.overlaps e.rid e.va e.ps = false := by
  simp only [hitsReg, registered, List.any_eq_false, List.mem_filterMap, id_eq, exists_eq_right]
  simp [Option.forall]

/-- A purge of the registers removes the translations that a purge of a cache would (R449). -/
theorem registered_purgeRegs (regs : Vector (Option TlbEntry) 64) (rid : BitVec 24) (off : BitVec 61) (ps : BitVec 6) :
    registered (purgeRegs regs rid off ps) = purgeCache (registered regs) rid off ps := by
  unfold registered purgeRegs purgeCache
  rw [Vector.toList_map, List.filterMap_map, List.filter_filterMap]
  refine List.filterMap_congr fun o _ => ?_
  cases o with
  | none => rfl
  | some e => cases h : e.overlaps rid off ps <;> simp [h, Option.filter]

/-- The new translation of a register takes the place of the old one. -/
theorem registered_set_perm {i : Nat} (hi : i < 64) :
    ∃ kept, kept.Sublist (registered regs) ∧ (registered (regs.setIfInBounds i (some e))).Perm (e :: kept) := by
  refine ⟨(regs.toList.eraseIdx i).filterMap id, (List.eraseIdx_sublist ..).filterMap id, ?_⟩
  unfold registered
  rw [Vector.toList_setIfInBounds, List.set_eq_take_append_cons_drop, if_pos (by simpa using hi), List.eraseIdx_eq_take_drop_succ,
    List.filterMap_append, List.filterMap_append, List.filterMap_cons_some (f := id) (b := e) rfl]
  exact List.perm_middle

theorem TranslationsOk.purgeCache (h : TranslationsOk (registered regs ++ l)) (rid : BitVec 24) (off : BitVec 61) (ps : BitVec 6) :
    TranslationsOk (registered regs ++ Machine.purgeCache l rid off ps) :=
  h.sublist (.append (.refl _) List.filter_sublist)

theorem TranslationsOk.purgeRegs (h : TranslationsOk (registered regs ++ l)) (rid : BitVec 24) (off : BitVec 61) (ps : BitVec 6) :
    TranslationsOk (registered (Machine.purgeRegs regs rid off ps) ++ Machine.purgeCache l rid off ps) := by
  rw [registered_purgeRegs]
  exact h.sublist (.append List.filter_sublist List.filter_sublist)

/-- What overlaps neither the registers nor what is left of the cache joins the translations of both (R485). -/
theorem TranslationsOk.insert {kept : List TlbEntry} (h : TranslationsOk (registered regs ++ l)) (hp : 12 ≤ e.ps.toNat)
    (hr : hitsReg regs e = false) (hk : kept.Sublist (registered regs)) (n : Nat) :
    TranslationsOk (e :: (kept ++ (Machine.purgeCache l e.rid e.va e.ps).take n)) := by
  have rest : TranslationsOk (kept ++ (Machine.purgeCache l e.rid e.va e.ps).take n) :=
    h.sublist (hk.append ((List.take_sublist ..).trans List.filter_sublist))
  refine rest.cons hp fun f hf => ?_
  rcases List.mem_append.1 hf with hf | hf
  · exact hitsReg_eq_false_iff.1 hr f (hk.subset hf)
  · exact ((mem_purgeCache ..).1 (List.mem_of_mem_take hf)).2

theorem TranslationsOk.insertCache (h : TranslationsOk (registered regs ++ l)) (hp : 12 ≤ e.ps.toNat) (hr : hitsReg regs e = false) :
    TranslationsOk (registered regs ++ Machine.insertCache l regs e) :=
  (h.insert hp hr (.refl _) _).perm List.perm_middle

theorem TranslationsOk.insertReg {i : Nat} (h : TranslationsOk (registered regs ++ l)) (hi : i < 64) (hp : 12 ≤ e.ps.toNat)
    (hr : hitsReg regs e = false) (n : Nat) :
    TranslationsOk (registered (regs.setIfInBounds i (some e)) ++ (Machine.purgeCache l e.rid e.va e.ps).take n) := by
  obtain ⟨kept, hk, hperm⟩ := registered_set_perm (regs := regs) (e := e) hi
  exact (h.insert hp hr hk n).perm (hperm.append_right _)

end Lists

/-! ### The TLBs of a state -/

/-- Every segment of the first-level data TLB is of a translation that the second level holds (R155). -/
def State.L1dSubset (s : State) : Prop := ∀ g ∈ s.l1dtlb, ∃ e ∈ s.translations false, e.covers g.rid g.va = true

section Tlbs

variable {s t : State}

theorem State.translations_true (s : State) : s.translations true = registered s.itr ++ s.itcache := rfl

theorem State.translations_false (s : State) : s.translations false = registered s.dtr ++ s.dtcache := rfl

theorem State.tlbOk_iff : s.TlbOk ↔ TranslationsOk (registered s.itr ++ s.itcache) ∧ TranslationsOk (registered s.dtr ++ s.dtcache) ∧
    s.L1dSubset := by
  constructor
  · rintro ⟨disjoint, pages, backed⟩
    exact ⟨⟨disjoint true, pages true⟩, ⟨disjoint false, pages false⟩, backed⟩
  · rintro ⟨hi, hd, backed⟩
    exact ⟨Bool.forall_bool.2 ⟨hd.disjoint, hi.disjoint⟩, Bool.forall_bool.2 ⟨hd.pages, hi.pages⟩, backed⟩

/-- The invariant is about storage alone. -/
theorem State.tlbOk_of_storage (h : t.storage = s.storage) (hs : s.TlbOk) : t.TlbOk := by
  rw [State.tlbOk_iff] at *
  unfold State.L1dSubset at *
  rw [State.translations_false] at *
  have hitr : t.itr = s.itr := congrArg (·.itr) h
  have hdtr : t.dtr = s.dtr := congrArg (·.dtr) h
  have hitc : t.itcache = s.itcache := congrArg (·.itcache) h
  have hdtc : t.dtcache = s.dtcache := congrArg (·.dtcache) h
  have hl1d : t.l1dtlb = s.l1dtlb := congrArg (·.l1dtlb) h
  rw [hitr, hdtr, hitc, hdtc, hl1d]
  exact hs

theorem State.MemoryOnly.tlbOk (h : s.MemoryOnly t) (hs : s.TlbOk) : t.TlbOk := by
  rw [h]
  exact hs

/-- The instruction side changed, and its translations are still disjoint. -/
theorem State.TlbOk.withInstr (hs : s.TlbOk) {regs : Vector (Option TlbEntry) 64} {l : List TlbEntry} (m : List TlbEntry)
    (h : TranslationsOk (registered regs ++ l)) : State.TlbOk { s with itr := regs, itcache := l, l1itlb := m } := by
  obtain ⟨-, hd, backed⟩ := State.tlbOk_iff.1 hs
  exact State.tlbOk_iff.2 ⟨h, hd, backed⟩

/-- The data side changed, its translations are still disjoint, and the subset rule was applied (R155). -/
theorem State.TlbOk.withData (hs : s.TlbOk) {regs : Vector (Option TlbEntry) 64} {l : List TlbEntry} (m : List TlbEntry)
    (h : TranslationsOk (registered regs ++ l)) : (State.l1dBacked { s with dtr := regs, dtcache := l, l1dtlb := m }).TlbOk :=
  State.tlbOk_iff.2 ⟨(State.tlbOk_iff.1 hs).1, h, fun g hg => ((mem_l1dBacked _ g).1 hg).2⟩

/-- The one translation of an address holds the segment that the first level takes in. -/
theorem State.l1dUse_tlbOk (va : Word) (hs : s.TlbOk) : State.TlbOk { s with l1dtlb := s.l1dUsed va } := by
  obtain ⟨disjoint, pages, backed⟩ := hs
  refine ⟨disjoint, pages, fun g hg => ?_⟩
  rcases mem_l1dUsed hg with hg | ⟨e, he, rfl⟩
  · exact backed g hg
  · have found : e ∈ s.lookup false va := he ▸ List.mem_singleton_self e
    obtain ⟨mem, covers⟩ := List.mem_filter.1 found
    exact ⟨e, mem, e.covers_segment (pages false e mem) covers⟩

/-- A use reorders the data translation cache (R156). -/
theorem State.touch_tlbOk (acc : Acc) (hs : s.TlbOk) : (s.touch acc).TlbOk := by
  obtain ⟨hi, hd, backed⟩ := State.tlbOk_iff.1 hs
  have order : ((s.touch acc).translations false).Perm (s.translations false) := (dtcUsed_perm s acc).append_left _
  refine State.tlbOk_iff.2 ⟨hi, hd.perm order, fun g hg => ?_⟩
  obtain ⟨e, he, hc⟩ := backed g hg
  exact ⟨e, order.mem_iff.2 he, hc⟩

theorem State.l1Fill_tlbOk (hs : s.TlbOk) : s.l1Fill.TlbOk := by
  obtain ⟨l, evs, hl, -⟩ := l1Fill_cases s
  rw [hl]
  exact hs

theorem State.purgeItc_tlbOk (rid : BitVec 24) (off : BitVec 61) (ps : BitVec 6) (hs : s.TlbOk) : (s.purgeItc rid off ps).TlbOk :=
  hs.withInstr _ ((State.tlbOk_iff.1 hs).1.purgeCache rid off ps)

theorem State.purgeDtc_tlbOk (rid : BitVec 24) (off : BitVec 61) (ps : BitVec 6) (hs : s.TlbOk) : (s.purgeDtc rid off ps).TlbOk :=
  hs.withData _ ((State.tlbOk_iff.1 hs).2.1.purgeCache rid off ps)

theorem State.purge_tlbOk (k : PurgeKind) (rid : BitVec 24) (off : BitVec 61) (ps : BitVec 6) (hs : s.TlbOk) :
    (s.purge k rid off ps).TlbOk := by
  have both : ((s.purgeItc rid off ps).purgeDtc rid off ps).TlbOk := State.purgeDtc_tlbOk _ _ _ (State.purgeItc_tlbOk _ _ _ hs)
  obtain ⟨hi, hd, -⟩ := State.tlbOk_iff.1 hs
  cases k with
  | ptcL => exact both
  | ptcG | ptcGa => exact (State.wcbFlush_memoryOnly _).tlbOk both
  | ptrD => exact hs.withData _ (hd.purgeRegs rid off ps)
  | ptrI => exact hs.withInstr _ (hi.purgeRegs rid off ps)

/-- `ptc.e` leaves the registers (R448). -/
theorem State.purgeAll_tlbOk (hs : s.TlbOk) : s.purgeAll.TlbOk := by
  obtain ⟨hi, hd, -⟩ := State.tlbOk_iff.1 hs
  have registersOnly {regs l} (h : TranslationsOk (registered regs ++ l)) : TranslationsOk (registered regs ++ []) :=
    h.sublist (.append (.refl _) (List.nil_sublist l))
  exact State.tlbOk_iff.2 ⟨registersOnly hi, registersOnly hd, nofun⟩

theorem State.insertTc_tlbOk (instr : Bool) {e : TlbEntry} (he : s.Makes e)
    (hr : hitsReg (if instr then s.itr else s.dtr) e = false) (hs : s.TlbOk) : (s.insertTc instr e).TlbOk := by
  obtain ⟨hi, hd, -⟩ := State.tlbOk_iff.1 hs
  cases instr with
  | true => exact hs.withInstr _ (hi.insertCache he.page hr)
  | false => exact hs.withData _ (hd.insertCache he.page hr)

theorem State.insertReg_tlbOk (instr : Bool) {i : Nat} {e : TlbEntry} (h64 : i < 64) (he : s.Makes e)
    (hr : hitsReg (if instr then s.itr else s.dtr) e = false) (hs : s.TlbOk) : (s.insertReg instr i e).TlbOk := by
  obtain ⟨hi, hd, -⟩ := State.tlbOk_iff.1 hs
  cases instr with
  | true => exact hs.withInstr _ (hi.insertReg h64 he.page hr _)
  | false => exact hs.withData _ (hd.insertReg h64 he.page hr _)

theorem State.retire_tlbOk {r : Res} (s : State) (h : r.s.TlbOk) : (retire s r).TlbOk := by
  rw [State.tlbOk_iff] at *
  unfold State.L1dSubset at *
  rw [State.translations_false] at *
  rw [retire_itr, retire_dtr, retire_itcache, retire_dtcache, retire_l1dtlb]
  exact h

end Tlbs

theorem State.TlbOk.ofStorage : OfStorage State.TlbOk where
  storage := State.tlbOk_of_storage
  quiet h := State.tlbOk_of_storage (congrArg (·.2) h)
  interrupt _ _ h := h
  retire := State.retire_tlbOk
  restore h := by
    unfold State.restoreContext
    dsimp only
    split <;> exact h
  storePhys {s} pa ma bs := (s.written_memoryOnly pa ma bs).tlbOk
  wcbFlush {s} := s.wcbFlush_memoryOnly.tlbOk
  wcbFreeEvict {s} := s.wcbFreeEvict_memoryOnly.tlbOk
  alatRemove _ h := h
  alatClear h := h
  alatSnoop _ _ h := h
  alatPut {s} e h := by
    obtain ⟨l, hl, -⟩ := s.alatPut_cases e
    rw [hl]
    exact h
  touch := State.touch_tlbOk
  l1dUse := State.l1dUse_tlbOk
  l1Fill := State.l1Fill_tlbOk
  purge := State.purge_tlbOk
  purgeAll := State.purgeAll_tlbOk
  insertTc := State.insertTc_tlbOk
  insertReg := State.insertReg_tlbOk

end Sys2Proof.Machine

section

open Sys2Proof Machine

/-- Settles O9: disjoint translations and a backed first level are a predicate of storage that every elementary update keeps: purges take
parts of lists, inserts first remove what overlaps, and the subset rule follows every change of the data side. -/
theorem stepKeepsTranslationsDisjoint : Obligations.StepKeepsTranslationsDisjoint := by
  unfold Obligations.StepKeepsTranslationsDisjoint
  exact fun _ u hs => State.TlbOk.ofStorage.stable.step hs u

end

end

section
/-! SUPPORT. What the page walker and the transfers into the first-level data TLB may add before an instruction (R160, R568, R867). -/

namespace Sys2Proof.Machine

/-! ### Walks that are made -/

section Walks

variable {s : State} {instr : Bool} {va : Word} {e : TlbEntry}

/-- A walk is made only where PTA.ve, RR.ve, PSR.ic, PSR.dt and for instructions PSR.it let it (R160, R568). -/
theorem State.walks_enabled (h : s.walks instr va = true) : s.cr.pta.getLsbD 0 = true ∧ (s.regionReg va).getLsbD 0 = true ∧
    s.psrIc = true ∧ s.psrDt = true ∧ (instr = true → s.psrIt = true) := by
  simp only [State.walks, State.walkerOn, rrVe, Bool.and_eq_true, Bool.or_eq_true, Bool.not_eq_true'] at h
  obtain ⟨⟨hic, ⟨⟨hpta, hrr⟩, hdt⟩, hit⟩, -⟩ := h
  refine ⟨hpta, hrr, hic, hdt, fun hi => ?_⟩
  rcases hit with hit | ⟨hit, -⟩
  · exact absurd (hi.symm.trans hit) nofun
  · exact hit

/-- What a walk finds covers the address that it is for. -/
theorem State.walkFinds_covers (h : s.walkFinds va = some e) : e.covers (rrRid (s.regionReg va)) (va.extractLsb' 0 61) = true := by
  obtain ⟨_, -, hb⟩ := Option.bind_eq_some_iff.1 h
  obtain ⟨w, -, hw⟩ := Option.bind_eq_some_iff.1 hb
  exact covers_of_makeEntry hw

/-- With PSR.dt = 0 no walk is made. -/
theorem State.walkInsert_of_psrDt (h : s.psrDt = false) (site : Nat) : s.walkInsert site = s := by
  unfold State.walkInsert
  refine if_neg fun hw => ?_
  obtain ⟨-, -, -, hdt, -⟩ := State.walks_enabled hw
  exact absurd (h.symm.trans hdt) nofun

/-- With PSR.dt = 0 the page walker does nothing. -/
theorem State.walkFree_of_psrDt (h : s.psrDt = false) : s.walkFree = s :=
  State.walkFree_keeps (· = s) (fun t site ht => by subst ht; exact State.walkInsert_of_psrDt h site) s rfl

/-- With PTA.ve = 0 the page walker does nothing. -/
theorem State.walkFree_of_pta (h : s.cr.pta.getLsbD 0 = false) : s.walkFree = s := if_neg (ne_true_of_eq_false h)

/-- In physical mode nothing is transferred to the first level (R867). -/
theorem State.l1dFree_of_physical (hd : s.psrDt = false) (hr : s.psrRt = false) : s.l1dFree = s := if_neg (by simp [hd, hr])

end Walks

/-! ### What the TLBs take in -/

/-- `t` differs from `s` in the first-level data TLB and the monitors' events at most. -/
def State.L1dOnly (s t : State) : Prop := t = { s with l1dtlb := t.l1dtlb, events := t.events }

theorem State.L1dOnly.refl (s : State) : s.L1dOnly s := rfl

theorem State.L1dOnly.trans {s t u : State} (h : s.L1dOnly t) (g : t.L1dOnly u) : s.L1dOnly u := by
  unfold State.L1dOnly at *
  rw [h] at g
  exact g

theorem State.l1dTransfer_l1dOnly (s : State) (va : Word) : s.L1dOnly (s.l1dTransfer va) := by
  unfold State.l1dTransfer
  split
  · rfl
  · exact .refl s

theorem State.l1dFree_l1dOnly (s : State) : s.L1dOnly s.l1dFree :=
  State.l1dFree_keeps s.L1dOnly (fun t va h => h.trans (t.l1dTransfer_l1dOnly va)) s (.refl s)

/-- A translation that a walk made from `s` on finds, with the walker enabled, for an address that it covers. -/
def State.Finds (s : State) (instr : Bool) (e : TlbEntry) : Prop :=
  ∃ va, s.WalkFound instr va e ∧ s.cr.pta.getLsbD 0 = true ∧ (s.regionReg va).getLsbD 0 = true ∧ s.psrIc = true ∧ s.psrDt = true ∧
    (instr = true → s.psrIt = true) ∧ e.covers (rrRid (s.regionReg va)) (va.setWidth 61) = true

/-- What the TLBs of `t` hold was in those of `s` or was found from `s` on. -/
structure State.AddsFound (s t : State) : Prop where
  tlbsOnly : s.TlbsOnly t
  l1itlb : t.l1itlb.Sublist s.l1itlb
  itcache : ∀ e ∈ t.itcache, e ∈ s.itcache ∨ s.Finds true e
  dtcache : ∀ e ∈ t.dtcache, e ∈ s.dtcache ∨ s.Finds false e
  l1dtlb : ∀ e ∈ t.l1dtlb, e ∈ s.l1dtlb ∨ ∃ f va, e = f.segment va ∧ (f ∈ s.translations false ∨ s.Finds false f)

section Adds

variable {s t : State} {e : TlbEntry}

/-- Walks change none of the registers that enable them. -/
theorem State.finds_of_walk {instr : Bool} {va : Word} (ht : s.TlbsOnly t) (hw : s.Walked t) (hm : t.walks instr va = true)
    (hf : t.walkFinds va = some e) : s.Finds instr e := by
  have psr : t.psr = s.psr := ht.part State.psr fun _ _ _ _ _ _ => rfl
  have cr : t.cr = s.cr := ht.part State.cr fun _ _ _ _ _ _ => rfl
  have rr : t.regionReg va = s.regionReg va := ht.part (fun s => s.regionReg va) fun _ _ _ _ _ _ => rfl
  obtain ⟨hpta, hrr, hic, hdt, hit⟩ := State.walks_enabled hm
  have hc := State.walkFinds_covers hf
  have offset : va.setWidth 61 = va.extractLsb' 0 61 := BitVec.eq_of_toNat_eq rfl
  unfold State.psrIc State.psrDt State.psrIt at *
  rw [psr] at hic hdt hit
  rw [cr] at hpta
  rw [rr] at hrr hc
  exact ⟨va, ⟨t, hw, hm, hf⟩, hpta, hrr, hic, hdt, hit, offset ▸ hc⟩

theorem State.AddsFound.refl (s : State) : s.AddsFound s := ⟨.refl s, .refl _, fun _ => .inl, fun _ => .inl, fun _ => .inl⟩

theorem State.AddsFound.translations (h : s.AddsFound t) (he : e ∈ t.translations false) :
    e ∈ s.translations false ∨ s.Finds false e := by
  have dtr : t.dtr = s.dtr := h.tlbsOnly.part State.dtr fun _ _ _ _ _ _ => rfl
  rw [State.translations_false, dtr, List.mem_append] at he
  rw [State.translations_false, List.mem_append]
  rcases he with he | he
  · exact .inl (.inl he)
  · exact (h.dtcache e he).imp_left .inr

theorem State.AddsFound.events (h : s.AddsFound t) (evs : List PmuEvent) : s.AddsFound { t with events := evs } :=
  ⟨h.tlbsOnly.trans rfl, h.l1itlb, h.itcache, h.dtcache, h.l1dtlb⟩

/-- A transfer takes in the segment of a translation of the second level. -/
theorem State.AddsFound.l1dUse (h : s.AddsFound t) (va : Word) : s.AddsFound { t with l1dtlb := t.l1dUsed va } where
  tlbsOnly := h.tlbsOnly.trans rfl
  l1itlb := h.l1itlb
  itcache := h.itcache
  dtcache := h.dtcache
  l1dtlb g hg := by
    rcases mem_l1dUsed hg with hg | ⟨f, hf, rfl⟩
    · exact h.l1dtlb g hg
    · have found : f ∈ t.lookup false va := hf ▸ List.mem_singleton_self f
      exact .inr ⟨f, va, rfl, h.translations (List.mem_of_mem_filter found)⟩

/-- After an insert a cache holds the new translation and some of those that it held. -/
theorem mem_of_mem_insertCache {l : List TlbEntry} {regs : Vector (Option TlbEntry) 64} {f : TlbEntry}
    (hf : f ∈ insertCache l regs e) : f = e ∨ f ∈ l :=
  (List.mem_cons.1 hf).imp_right fun hf => ((mem_purgeCache ..).1 (List.mem_of_mem_take hf)).1

theorem State.AddsFound.insertTc {instr : Bool} (h : s.AddsFound t) (he : s.Finds instr e) : s.AddsFound (t.insertTc instr e) := by
  have only : s.TlbsOnly (t.insertTc instr e) := h.tlbsOnly.trans (by cases instr <;> rfl)
  have added {l m : List TlbEntry} {regs : Vector (Option TlbEntry) 64} (hl : ∀ f ∈ l, f ∈ m ∨ s.Finds instr f) :
      ∀ f ∈ insertCache l regs e, f ∈ m ∨ s.Finds instr f := fun f hf => by
    rcases mem_of_mem_insertCache hf with rfl | hf
    · exact .inr he
    · exact hl f hf
  cases instr with
  | true => exact ⟨only, List.filter_sublist.trans h.l1itlb, added h.itcache, h.dtcache, h.l1dtlb⟩
  | false =>
    refine ⟨only, h.l1itlb, h.itcache, added h.dtcache, fun g hg => ?_⟩
    have left := ((mem_l1dBacked _ g).1 hg).1
    exact h.l1dtlb g ((mem_purgeCache ..).1 left).1

/-- A walk after other walks adds what it finds. -/
theorem State.AddsFound.walkInsert (hw : s.Walked t) (h : s.AddsFound t) (site : Nat) : s.AddsFound (t.walkInsert site) := by
  obtain ⟨u, hu, hcases⟩ := t.walkInsert_cases site
  have walked : s.AddsFound u := by
    rcases hcases with ⟨evs, rfl⟩ | ⟨instr, va, e, evs, hm, hf, -, rfl⟩
    · exact h.events evs
    · exact (h.insertTc (State.finds_of_walk h.tlbsOnly hw hm hf)).events evs
  rcases hu with hu | ⟨va, hu⟩
  · exact hu ▸ walked
  · exact hu ▸ walked.l1dUse va

theorem State.AddsFound.l1dTransfer (h : s.AddsFound t) (va : Word) : s.AddsFound (t.l1dTransfer va) := by
  unfold State.l1dTransfer
  split
  · exact (h.l1dUse va).events _
  · exact h

/-- The walks before an instruction add what they find, the transfers after them segments of it. -/
theorem State.tlbFree_addsFound (s : State) : s.AddsFound s.tlbFree := by
  obtain ⟨-, walked⟩ := State.walkFree_keeps (fun t => s.Walked t ∧ s.AddsFound t)
    (fun _ site ⟨hw, ha⟩ => ⟨.more site hw, ha.walkInsert hw site⟩) s ⟨.none, .refl s⟩
  exact State.l1dFree_keeps s.AddsFound (fun t va ht => ht.l1dTransfer va) _ walked

end Adds

end Sys2Proof.Machine

section

open Sys2Proof Machine

/-- Settles O44: `State.AddsFound` holds after each walk and each transfer made before an instruction; without a walker, or in physical
mode, fewer of them are made; and they keep translations disjoint as instructions do. -/
theorem walksAddOnlyWhatTheyFind : Obligations.WalksAddOnlyWhatTheyFind := by
  unfold Obligations.WalksAddOnlyWhatTheyFind
  intro s
  have adds := s.tlbFree_addsFound
  refine ⟨fun hpta => ?_, fun hd hr => ?_, adds.tlbsOnly, adds.l1itlb, adds.itcache, adds.dtcache, adds.l1dtlb,
    State.TlbOk.ofStorage.stable.tlbFree⟩
  · unfold State.tlbFree
    rw [State.walkFree_of_pta hpta]
    exact s.l1dFree_l1dOnly
  · unfold State.tlbFree
    rw [State.walkFree_of_psrDt hd, State.l1dFree_of_physical hd hr]

end

end

section
/-! SUPPORT. Words of 41 bits, for the agreement of the decoder with the encoder: the fields that the formats cut out of a slot's parts,
the immediates joined again from their fields, and which decoder of a slot type reads a word of a format (R234 to R240, R245). -/

namespace Sys2Proof

/-! ### Fields of the parts of a slot -/

theorem extract_append_fst (x : BitVec n) (y : BitVec m) : (x ++ y).extractLsb' m n = x := by
  rw [extract_append_high x y m n le_rfl, Nat.sub_self, extract_all]

theorem extract_append_snd (x : BitVec n) (y : BitVec m) : (x ++ y).extractLsb' 0 m = y := by
  rw [extract_append_low x y 0 m (Nat.zero_add m).le, extract_all]

section Parts

variable (x y z : BitVec 1) (x2 y2 : BitVec 2) (x3 y3 : BitVec 3) (x4 : BitVec 4) (x5 : BitVec 5) (x6 : BitVec 6)

/-! Bits 35:27 of a load, a store or a transfer: x6, hint, x (R237, R245). -/

theorem memMid_x6 : (x6 ++ x2 ++ x).extractLsb' 3 6 = x6 :=
  (extract_append_high _ _ 3 6 (by decide)).trans (extract_append_fst ..)

theorem memMid_hint : (x6 ++ x2 ++ x).extractLsb' 1 2 = x2 :=
  (extract_append_high _ _ 1 2 (by decide)).trans (extract_append_snd ..)

/-! Bits 35:27 of a compare, a test, `adds` or a deposit: x2, tb, and six bits (R236, R245). -/

theorem cmpMid_x2 : (x2 ++ x ++ x6).extractLsb' 7 2 = x2 :=
  (extract_append_high _ _ 7 2 (by decide)).trans (extract_append_fst ..)

theorem cmpMid_tb : (x2 ++ x ++ x6).extractLsb' 6 1 = x :=
  (extract_append_high _ _ 6 1 (by decide)).trans (extract_append_snd ..)

/-! Bits 35:27 of `shladd`: x2a and ve in three bits, x4, ct2d (R236). -/

theorem aluMid_x2a : (x3 ++ x4 ++ x2).extractLsb' 7 2 = x3.extractLsb' 1 2 :=
  (extract_append_high _ _ 7 2 (by decide)).trans (extract_append_high _ _ 5 2 (by decide))

theorem aluMid_ve : (x3 ++ x4 ++ x2).extractLsb' 6 1 = x3.extractLsb' 0 1 :=
  (extract_append_high _ _ 6 1 (by decide)).trans (extract_append_high _ _ 4 1 (by decide))

theorem aluMid_x4 : (x3 ++ x4 ++ x2).extractLsb' 2 4 = x4 :=
  (extract_append_high _ _ 2 4 (by decide)).trans (extract_append_snd ..)

theorem allocMid_x3 : (x3 ++ x2 ++ x4).extractLsb' 6 3 = x3 :=
  (extract_append_high _ _ 6 3 (by decide)).trans (extract_append_fst ..)

/-! Bits 26:20 of a move to a branch register: the low tag bits, ih, x, wh (R239). -/

theorem movBrC_tag : (x3 ++ x ++ y ++ x2).extractLsb' 4 3 = x3 := calc
  _ = (x3 ++ x ++ y).extractLsb' 2 3 := extract_append_high _ _ 4 3 (by decide)
  _ = (x3 ++ x).extractLsb' 1 3 := extract_append_high _ _ 2 3 (by decide)
  _ = x3 := extract_append_fst ..

theorem movBrC_ih : (x3 ++ x ++ y ++ x2).extractLsb' 3 1 = x := calc
  _ = (x3 ++ x ++ y).extractLsb' 1 1 := extract_append_high _ _ 3 1 (by decide)
  _ = (x3 ++ x).extractLsb' 0 1 := extract_append_high _ _ 1 1 (by decide)
  _ = x := extract_append_snd ..

theorem movBrC_x : (x3 ++ x ++ y ++ x2).extractLsb' 2 1 = y :=
  (extract_append_high _ _ 2 1 (by decide)).trans (extract_append_snd ..)

/-! Bits 35:27 and 12:6 of a branch: d and wh, p and btype (R238). -/

theorem branchMid_d : (x ++ x2 ++ x6).extractLsb' 8 1 = x :=
  (extract_append_high _ _ 8 1 (by decide)).trans (extract_append_fst ..)

theorem branchMid_wh : (x ++ x2 ++ x6).extractLsb' 6 2 = x2 :=
  (extract_append_high _ _ 6 2 (by decide)).trans (extract_append_snd ..)

theorem branchA_p : (x ++ x3 ++ y3).extractLsb' 6 1 = x :=
  (extract_append_high _ _ 6 1 (by decide)).trans (extract_append_fst ..)

theorem callMid_d : (x ++ x3 ++ x5).extractLsb' 8 1 = x :=
  (extract_append_high _ _ 8 1 (by decide)).trans (extract_append_fst ..)

theorem callMid_wh : (x ++ x3 ++ x5).extractLsb' 5 3 = x3 :=
  (extract_append_high _ _ 5 3 (by decide)).trans (extract_append_snd ..)

/-! Bits 26:20 of `movl`: imm5c, ic, vc (R238). -/

theorem movlC_imm5 : (x5 ++ x ++ y).extractLsb' 2 5 = x5 :=
  (extract_append_high _ _ 2 5 (by decide)).trans (extract_append_fst ..)

theorem movlC_ic : (x5 ++ x ++ y).extractLsb' 1 1 = x :=
  (extract_append_high _ _ 1 1 (by decide)).trans (extract_append_snd ..)

end Parts

/-! ### Immediates cut into fields and joined again (R240) -/

theorem imm8_join (x : BitVec 8) : x.extractLsb' 7 1 ++ x.extractLsb' 0 7 = x :=
  (extract_join x 0 7 1).trans (extract_all x)

theorem timm9_join (x : BitVec 9) : x.extractLsb' 3 6 ++ x.extractLsb' 0 3 = x :=
  (extract_join x 0 3 6).trans (extract_all x)

theorem imm9_join (x : BitVec 9) : x.extractLsb' 8 1 ++ x.extractLsb' 7 1 ++ x.extractLsb' 0 7 = x := by
  rw [extract_join x 7 1 1, extract_join x 0 7 2, extract_all]

theorem imm14_join (x : BitVec 14) : x.extractLsb' 13 1 ++ x.extractLsb' 7 6 ++ x.extractLsb' 0 7 = x := by
  rw [extract_join x 7 6 1, extract_join x 0 7 7, extract_all]

theorem imm21_join (x : BitVec 21) :
    x.extractLsb' 20 1 ++ x.extractLsb' 14 6 ++ x.extractLsb' 7 7 ++ x.extractLsb' 0 7 = x := by
  rw [extract_join x 14 6 1, extract_join x 7 7 7, extract_join x 0 7 14, extract_all]

theorem imm22_join (x : BitVec 22) :
    x.extractLsb' 21 1 ++ x.extractLsb' 16 5 ++ x.extractLsb' 7 9 ++ x.extractLsb' 0 7 = x := by
  rw [extract_join x 16 5 1, extract_join x 7 9 6, extract_join x 0 7 15, extract_all]

theorem imm60_join (x : BitVec 60) :
    x.extractLsb' 59 1 ++ x.extractLsb' 20 39 ++ x.extractLsb' 14 6 ++ x.extractLsb' 7 7 ++ x.extractLsb' 0 7 = x := by
  rw [extract_join x 20 39 1, extract_join x 14 6 40, extract_join x 7 7 46, extract_join x 0 7 53, extract_all]

theorem imm64_join (x : BitVec 64) :
    x.extractLsb' 63 1 ++ x.extractLsb' 22 41 ++ x.extractLsb' 21 1 ++ x.extractLsb' 16 5 ++ x.extractLsb' 7 9 ++
      x.extractLsb' 0 7 = x := by
  rw [extract_join x 22 41 1, extract_join x 21 1 42, extract_join x 16 5 43, extract_join x 7 9 48,
    extract_join x 0 7 57, extract_all]

section Immediates

variable (op : BitVec 4) (s : BitVec 1) (mid : BitVec 9) (c b a : BitVec 7) (qp : BitVec 6) (imm : BitVec 21)

theorem Slot.imm21_of_fields :
    Slot.imm21 { op, s := imm.extractLsb' 20 1, mid, c := 0#1 ++ imm.extractLsb' 14 6, b := imm.extractLsb' 7 7,
                 a := imm.extractLsb' 0 7, qp } = imm := by
  simp only [Slot.imm21, extract_append_snd, imm21_join]

theorem Slot.chk21_of_fields (x3 : BitVec 3) :
    Slot.chk21 { op, s := imm.extractLsb' 20 1, mid := x3 ++ imm.extractLsb' 14 6, c := imm.extractLsb' 7 7, b,
                 a := imm.extractLsb' 0 7, qp } = imm := by
  simp only [Slot.chk21, extract_append_snd, imm21_join]

theorem Slot.disp21_of_fields (d : BitVec 1) (wh : BitVec 2) :
    Slot.disp21 { op, s := imm.extractLsb' 20 1, mid := d ++ wh ++ imm.extractLsb' 14 6, c := imm.extractLsb' 7 7,
                  b := imm.extractLsb' 0 7, a, qp } = imm := by
  simp only [Slot.disp21, extract_append_snd, imm21_join]

theorem Slot.hint_of_fields (h : BrHint) (x6 : BitVec 6) (x3 btype : BitVec 3) :
    Slot.hint { op, s, mid := h.d ++ h.wh ++ x6, c, b, a := h.p ++ x3 ++ btype, qp } = h := by
  simp only [Slot.hint, branchMid_d, branchMid_wh, branchA_p]

end Immediates

/-! ### The decoder of a word -/

section Words

variable (l : BitVec 41) (op : BitVec 4) (s : BitVec 1) (mid : BitVec 9) (c b a : BitVec 7) (qp : BitVec 6)

theorem decodeSlot_M : decodeSlot .M l (slotWord op s mid c b a qp) = decodeM { op, s, mid, c, b, a, qp } :=
  congrArg decodeM (Slot.ofWord_slotWord ..)

theorem decodeSlot_I : decodeSlot .I l (slotWord op s mid c b a qp) = decodeI { op, s, mid, c, b, a, qp } :=
  congrArg decodeI (Slot.ofWord_slotWord ..)

theorem decodeSlot_F : decodeSlot .F l (slotWord op s mid c b a qp) = decodeF { op, s, mid, c, b, a, qp } :=
  congrArg decodeF (Slot.ofWord_slotWord ..)

theorem decodeSlot_B : decodeSlot .B l (slotWord op s mid c b a qp) = decodeB { op, s, mid, c, b, a, qp } :=
  congrArg decodeB (Slot.ofWord_slotWord ..)

theorem decodeSlot_X : decodeSlot .X l (slotWord op s mid c b a qp) = decodeLong l { op, s, mid, c, b, a, qp } :=
  congrArg (decodeLong l) (Slot.ofWord_slotWord ..)

end Words

/-- In an M slot the major opcodes from 8 are those of the A unit (R233, R236). -/
theorem decodeM_of_aType {f : Slot} (h : 8 ≤ f.op.toNat) : decodeM f = decodeA f := by
  unfold decodeM
  split <;> simp_all

/-- In an I slot the major opcodes from 8 are those of the A unit (R233, R236). -/
theorem decodeI_of_aType {f : Slot} (h : 8 ≤ f.op.toNat) : decodeI f = decodeA f := by
  unfold decodeI
  split <;> simp_all

/-! A table of x6 is looked up in a `mid` of which only its fields are known: then one lookup serves every hint. -/

section Formats

variable {l : BitVec 41} {op : BitVec 4} {s x : BitVec 1} {mid : BitVec 9} {c b a : BitVec 7} {qp x6 : BitVec 6}
  {hint : BitVec 2} {i : Instr}

theorem decodeSlot_aType (h : 8 ≤ op.toNat) :
    decodeSlot .M l (slotWord op s mid c b a qp) = decodeA { op, s, mid, c, b, a, qp } :=
  (decodeSlot_M ..).trans (decodeM_of_aType h)

theorem decodeSlot_m1
    (row : ∀ mid : BitVec 9, mid.extractLsb' 3 6 = x6 → mid.extractLsb' 1 2 = hint →
      decodeM1 { op := 4, s := 0, mid, c, b, a, qp } = some i) :
    decodeSlot .M l (slotWord 4 0 (x6 ++ hint ++ 0#1) c b a qp) = some i := by
  rw [decodeSlot_M, decodeM, extract_append_snd]
  exact row _ (memMid_x6 ..) (memMid_hint ..)

theorem decodeSlot_m2
    (row : ∀ mid : BitVec 9, mid.extractLsb' 3 6 = x6 → mid.extractLsb' 1 2 = hint →
      decodeM2 { op := 4, s := 1, mid, c, b, a, qp } = some i) :
    decodeSlot .M l (slotWord 4 1 (x6 ++ hint ++ 0#1) c b a qp) = some i := by
  rw [decodeSlot_M, decodeM, extract_append_snd]
  exact row _ (memMid_x6 ..) (memMid_hint ..)

theorem decodeSlot_m3
    (row : ∀ mid : BitVec 9, mid.extractLsb' 3 6 = x6 → mid.extractLsb' 1 2 = hint → mid.extractLsb' 0 1 = x →
      decodeM3 { op := 5, s, mid, c, b, a, qp } = some i) :
    decodeSlot .M l (slotWord 5 s (x6 ++ hint ++ x) c b a qp) = some i := by
  rw [decodeSlot_M, decodeM]
  exact row _ (memMid_x6 ..) (memMid_hint ..) (extract_append_snd ..)

theorem decodeSlot_m6
    (row : ∀ mid : BitVec 9, mid.extractLsb' 3 6 = x6 → mid.extractLsb' 1 2 = hint →
      decodeM6 { op := 6, s := 0, mid, c, b, a, qp } = some i) :
    decodeSlot .M l (slotWord 6 0 (x6 ++ hint ++ 0#1) c b a qp) = some i := by
  rw [decodeSlot_M, decodeM, extract_append_snd]
  exact row _ (memMid_x6 ..) (memMid_hint ..)

theorem decodeSlot_m18
    (row : ∀ mid : BitVec 9, mid.extractLsb' 3 6 = x6 → decodeM18 { op := 6, s := 0, mid, c, b, a, qp } = some i) :
    decodeSlot .M l (slotWord 6 0 (x6 ++ hint ++ 1#1) c b a qp) = some i := by
  rw [decodeSlot_M, decodeM, extract_append_snd]
  exact row _ (memMid_x6 ..)

theorem decodeSlot_m19
    (row : ∀ mid : BitVec 9, mid.extractLsb' 3 6 = x6 → decodeM19 { op := 4, s := 0, mid, c, b, a, qp } = some i) :
    decodeSlot .M l (slotWord 4 0 (x6 ++ hint ++ 1#1) c b a qp) = some i := by
  rw [decodeSlot_M, decodeM, extract_append_snd]
  exact row _ (memMid_x6 ..)

theorem decodeSlot_i0 (h : mid.extractLsb' 6 3 = 0#3) :
    decodeSlot .I l (slotWord 0 s mid c b a qp) = decodeI0 { op := 0, s, mid, c, b, a, qp } := by
  rw [decodeSlot_I, decodeI, h]
  rfl

theorem decodeSlot_i16 (tb : BitVec 1) (p2 : BitVec 6) :
    decodeSlot .I l (slotWord 5 s (0#2 ++ tb ++ p2) c b a qp) =
      decodeI16 { op := 5, s, mid := 0#2 ++ tb ++ p2, c, b, a, qp } := by
  rw [decodeSlot_I, decodeI, cmpMid_x2]
  rfl

end Formats

/-! ### Decoding inverts encoding -/

/-- The decoder cuts out of a word the fields that the encoder joined to it: one argument for each format's table, and the row of an
instruction in its table is found by computing. -/
theorem decodeSlot_encode {i : Instr} {e : Encoded} (he : encode i = some e) : decodeSlot e.slot e.long e.word = some i := by
  cases i
  -- A unit (R236)
  case addR1R2R3 | addR1R2R31 | subR1R2R3 | subR1R2R31 | addp4R1R2R3 | andR1R2R3 | andcmR1R2R3 | orR1R2R3 | xorR1R2R3 |
      shladdR1R2Count2R3 | shladdp4R1R2Count2R3 | subR1Imm8R3 | andR1Imm8R3 | andcmR1Imm8R3 | orR1Imm8R3 | xorR1Imm8R3 |
      addsR1Imm14R3 | addp4R1Imm14R3 | addlR1Imm22R3 | cmpLtP1P2R2R3 | cmpLtUncP1P2R2R3 | cmp4LtP1P2R2R3 | cmp4LtUncP1P2R2R3 |
      cmpLtuP1P2R2R3 | cmpLtuUncP1P2R2R3 | cmp4LtuP1P2R2R3 | cmp4LtuUncP1P2R2R3 | cmpEqP1P2R2R3 | cmpEqUncP1P2R2R3 |
      cmp4EqP1P2R2R3 | cmp4EqUncP1P2R2R3 | cmpLtP1P2Imm8R3 | cmpLtUncP1P2Imm8R3 | cmp4LtP1P2Imm8R3 | cmp4LtUncP1P2Imm8R3 |
      cmpLtuP1P2Imm8R3 | cmpLtuUncP1P2Imm8R3 | cmp4LtuP1P2Imm8R3 | cmp4LtuUncP1P2Imm8R3 | cmpEqP1P2Imm8R3 | cmpEqUncP1P2Imm8R3 |
      cmp4EqP1P2Imm8R3 | cmp4EqUncP1P2Imm8R3 =>
    cases he
    rw [decodeSlot_aType (by decide)]
    simp only [decodeA, BitVec.ofNat_eq_ofNat, BitVec.reduceExtractLsb', extract_append_fst, extract_append_snd, aluMid_x2a,
      aluMid_ve, aluMid_x4, cmpMid_x2, cmpMid_tb, imm8_join, imm14_join, imm22_join]
  -- M unit, by the tables of x6 (R237, R245)
  case ld1R1R3 | ld2R1R3 | ld4R1R3 | ld8R1R3 | ld1SR1R3 | ld2SR1R3 | ld4SR1R3 | ld8SR1R3 | ld1AR1R3 | ld2AR1R3 | ld4AR1R3 |
      ld8AR1R3 | ld1SaR1R3 | ld2SaR1R3 | ld4SaR1R3 | ld8SaR1R3 | ld1BiasR1R3 | ld2BiasR1R3 | ld4BiasR1R3 | ld8BiasR1R3 |
      ld1AcqR1R3 | ld2AcqR1R3 | ld4AcqR1R3 | ld8AcqR1R3 | ld1CClrR1R3 | ld2CClrR1R3 | ld4CClrR1R3 | ld8CClrR1R3 | ld1CNcR1R3 |
      ld2CNcR1R3 | ld4CNcR1R3 | ld8CNcR1R3 | ld1CClrAcqR1R3 | ld2CClrAcqR1R3 | ld4CClrAcqR1R3 | ld8CClrAcqR1R3 | ld8FillR1R3 |
      st1R3R2 | st2R3R2 | st4R3R2 | st8R3R2 | st1RelR3R2 | st2RelR3R2 | st4RelR3R2 | st8RelR3R2 | st8SpillR3R2 =>
    cases he
    refine decodeSlot_m1 ?_
    rintro mid hx rfl
    rw [decodeM1, hx]
    rfl
  case ld1R1R3R2 | ld2R1R3R2 | ld4R1R3R2 | ld8R1R3R2 | ld1SR1R3R2 | ld2SR1R3R2 | ld4SR1R3R2 | ld8SR1R3R2 | ld1AR1R3R2 |
      ld2AR1R3R2 | ld4AR1R3R2 | ld8AR1R3R2 | ld1SaR1R3R2 | ld2SaR1R3R2 | ld4SaR1R3R2 | ld8SaR1R3R2 | ld1BiasR1R3R2 |
      ld2BiasR1R3R2 | ld4BiasR1R3R2 | ld8BiasR1R3R2 | ld1AcqR1R3R2 | ld2AcqR1R3R2 | ld4AcqR1R3R2 | ld8AcqR1R3R2 |
      ld1CClrR1R3R2 | ld2CClrR1R3R2 | ld4CClrR1R3R2 | ld8CClrR1R3R2 | ld1CNcR1R3R2 | ld2CNcR1R3R2 | ld4CNcR1R3R2 |
      ld8CNcR1R3R2 | ld1CClrAcqR1R3R2 | ld2CClrAcqR1R3R2 | ld4CClrAcqR1R3R2 | ld8CClrAcqR1R3R2 | ld8FillR1R3R2 =>
    cases he
    refine decodeSlot_m2 ?_
    rintro mid hx rfl
    rw [decodeM2, hx]
    rfl
  case ld1R1R3Imm9 | ld2R1R3Imm9 | ld4R1R3Imm9 | ld8R1R3Imm9 | ld1SR1R3Imm9 | ld2SR1R3Imm9 | ld4SR1R3Imm9 | ld8SR1R3Imm9 |
      ld1AR1R3Imm9 | ld2AR1R3Imm9 | ld4AR1R3Imm9 | ld8AR1R3Imm9 | ld1SaR1R3Imm9 | ld2SaR1R3Imm9 | ld4SaR1R3Imm9 |
      ld8SaR1R3Imm9 | ld1BiasR1R3Imm9 | ld2BiasR1R3Imm9 | ld4BiasR1R3Imm9 | ld8BiasR1R3Imm9 | ld1AcqR1R3Imm9 | ld2AcqR1R3Imm9 |
      ld4AcqR1R3Imm9 | ld8AcqR1R3Imm9 | ld1CClrR1R3Imm9 | ld2CClrR1R3Imm9 | ld4CClrR1R3Imm9 | ld8CClrR1R3Imm9 | ld1CNcR1R3Imm9 |
      ld2CNcR1R3Imm9 | ld4CNcR1R3Imm9 | ld8CNcR1R3Imm9 | ld1CClrAcqR1R3Imm9 | ld2CClrAcqR1R3Imm9 | ld4CClrAcqR1R3Imm9 |
      ld8CClrAcqR1R3Imm9 | ld8FillR1R3Imm9 | st1R3R2Imm9 | st2R3R2Imm9 | st4R3R2Imm9 | st8R3R2Imm9 | st1RelR3R2Imm9 |
      st2RelR3R2Imm9 | st4RelR3R2Imm9 | st8RelR3R2Imm9 | st8SpillR3R2Imm9 =>
    cases he
    refine decodeSlot_m3 ?_
    rintro mid hx rfl hm
    rw [decodeM3, hx]
    change some _ = _
    rw [hm, imm9_join]
  case ldfeF1R3 | ldf8F1R3 | ldfsF1R3 | ldfdF1R3 | ldfeSF1R3 | ldf8SF1R3 | ldfsSF1R3 | ldfdSF1R3 | ldfeAF1R3 | ldf8AF1R3 |
      ldfsAF1R3 | ldfdAF1R3 | ldfeSaF1R3 | ldf8SaF1R3 | ldfsSaF1R3 | ldfdSaF1R3 | ldfeCClrF1R3 | ldf8CClrF1R3 | ldfsCClrF1R3 |
      ldfdCClrF1R3 | ldfeCNcF1R3 | ldf8CNcF1R3 | ldfsCNcF1R3 | ldfdCNcF1R3 | ldfFillF1R3 | stfeR3F2 | stf8R3F2 | stfsR3F2 |
      stfdR3F2 | stfSpillR3F2 =>
    cases he
    refine decodeSlot_m6 ?_
    rintro mid hx rfl
    rw [decodeM6, hx]
    rfl
  case setfSigF1R2 | setfExpF1R2 | setfSF1R2 | setfDF1R2 =>
    cases he
    refine decodeSlot_m18 ?_
    intro mid hx
    rw [decodeM18, hx]
    rfl
  case getfSigR1F2 | getfExpR1F2 | getfSR1F2 | getfDR1F2 =>
    cases he
    refine decodeSlot_m19 ?_
    intro mid hx
    rw [decodeM19, hx]
    rfl
  -- M unit, system formats (R239, R245)
  case breakMImm21 | nopMImm21 | movMAr3R2 | movMR1Ar3 | chkSMR2Target25 | chkSF2Target25 | allocR1ArPfsILOR =>
    cases he
    simp only [decodeSlot_M, decodeM, BitVec.ofNat_eq_ofNat, BitVec.reduceExtractLsb', extract_append_fst, extract_append_snd,
      allocMid_x3, Slot.imm21_of_fields, Slot.chk21_of_fields]
  -- I unit (R239, R245)
  case tbitZP1P2R3Pos6 | tnatZP1P2R3 | tbitZUncP1P2R3Pos6 | tnatZUncP1P2R3 | tbitZAndP1P2R3Pos6 | tnatZAndP1P2R3 |
      tbitNzAndP1P2R3Pos6 | tnatNzAndP1P2R3 | tbitZOrP1P2R3Pos6 | tnatZOrP1P2R3 | tbitNzOrP1P2R3Pos6 | tnatNzOrP1P2R3 |
      tbitZOrAndcmP1P2R3Pos6 | tnatZOrAndcmP1P2R3 | tbitNzOrAndcmP1P2R3Pos6 | tnatNzOrAndcmP1P2R3 =>
    cases he
    rw [decodeSlot_i16]
    simp only [decodeI16, cmpMid_tb, extract_append_fst, extract_append_snd]
  case breakIImm21 | nopIImm21 | movIAr3Imm8 | movR1B2 | movIAr3R2 | movR1Ip | movIR1Ar3 | movR1Pr | zxt1R1R3 | zxt2R1R3 |
      zxt4R1R3 | sxt1R1R3 | sxt2R1R3 | sxt4R1R3 | czx1LR1R3 | czx2LR1R3 | czx1RR1R3 | czx2RR1R3 =>
    cases he
    rw [decodeSlot_i0 (by decide)]
    simp only [decodeI0, BitVec.ofNat_eq_ofNat, BitVec.reduceExtractLsb', Slot.imm21_of_fields, imm8_join, extract_append_snd,
      if_true]
  case chkSIR2Target25 | extrUR1R3Pos6Len6 | extrR1R3Pos6Len6 | depZR1R2Pos6Len6 =>
    cases he
    simp only [decodeSlot_I, decodeI, BitVec.ofNat_eq_ofNat, extract_append_fst, extract_append_snd, cmpMid_x2, cmpMid_tb,
      Slot.chk21_of_fields, BitVec.not_not]
  case movB1R2 =>
    cases he
    simp only [decodeSlot_I, decodeI, BitVec.ofNat_eq_ofNat, extract_append_fst, extract_append_snd, movBrC_tag, movBrC_ih,
      movBrC_x, timm9_join]
  case movRetB1R2 =>
    cases he
    simp only [decodeSlot_I, decodeI, BitVec.ofNat_eq_ofNat, extract_append_fst, extract_append_snd, movBrC_tag, movBrC_ih,
      movBrC_x, timm9_join]
    rfl
  -- F unit (R239, R245)
  case breakFImm21 | nopFImm21 | fmaSfF1F3F4F2 | fmaSSfF1F3F4F2 | fmaDSfF1F3F4F2 | fpmaSfF1F3F4F2 | fmsSfF1F3F4F2 |
      fmsSSfF1F3F4F2 | fmsDSfF1F3F4F2 | fpmsSfF1F3F4F2 | fnmaSfF1F3F4F2 | fnmaSSfF1F3F4F2 | fnmaDSfF1F3F4F2 | fpnmaSfF1F3F4F2 |
      xmaLF1F3F4F2 | xmaHuF1F3F4F2 | xmaHF1F3F4F2 =>
    cases he
    simp only [decodeSlot_F, decodeF, BitVec.ofNat_eq_ofNat, BitVec.reduceExtractLsb', extract_append_fst, extract_append_snd,
      Slot.imm21_of_fields]
  -- B unit (R238)
  case cover | clrrrb | clrrrbPr | rfi | bsw0 | bsw1 | epc | brCondBwhPhDhB2 | brIaBwhPhDhB2 | brRetBwhPhDhB2 |
      brCallBwhPhDhB1B2 | breakBImm21 | nopBImm21 | brCondBwhPhDhTarget25 | brWexitBwhPhDhTarget25 | brWtopBwhPhDhTarget25 |
      brCloopBwhPhDhTarget25 | brCexitBwhPhDhTarget25 | brCtopBwhPhDhTarget25 | brCallBwhPhDhB1Target25 =>
    cases he
    simp only [decodeSlot_B, decodeB, BitVec.ofNat_eq_ofNat, BitVec.reduceExtractLsb', extract_append_snd, Slot.imm21_of_fields,
      Slot.disp21_of_fields, Slot.hint_of_fields, callMid_wh, callMid_d, branchA_p, if_true]
  -- the long slot of an MLX bundle (R238, R240)
  case movlR1Imm64 | brlCondBwhPhDhTarget64 | brlCallBwhPhDhB1Target64 =>
    cases he
    simp only [longWord, decodeSlot_X, decodeLong, BitVec.ofNat_eq_ofNat, extract_append_fst, extract_append_snd, movlC_ic,
      movlC_imm5, imm64_join, imm60_join, Slot.hint_of_fields, if_true]
  -- no bit pattern
  all_goals cases he

end Sys2Proof

section

open Sys2Proof Machine

/-- Settles O1: the encoder's words decode back whether or not the instruction is well formed, since the decoder accepts every value of
a field. -/
theorem decodeInvertsEncode : Obligations.DecodeInvertsEncode := by
  unfold Obligations.DecodeInvertsEncode
  exact fun _ _ _ he => decodeSlot_encode he

/-- Settles O2: in both slot types a word of a major opcode from 8 goes to the A unit's decoder. -/
theorem aTypeWordsMeanTheSameInBothSlots : Obligations.ATypeWordsMeanTheSameInBothSlots := by
  unfold Obligations.ATypeWordsMeanTheSameInBothSlots
  intro l w hop _
  exact (decodeM_of_aType (f := Slot.ofWord w) hop).trans (decodeI_of_aType hop).symm

/-- Settles O3: the five words are evaluated. -/
theorem specWordsDecode : Obligations.SpecWordsDecode := by
  unfold Obligations.SpecWordsDecode
  exact ⟨rfl, rfl, rfl, rfl, rfl⟩

end

end

section
/-! SUPPORT. The path of a step to the instruction it executes: what happens before it leaves PSR.ri alone (R151, R330). -/

namespace Sys2Proof.Machine

theorem State.StorageOnly.ri_eq {s t : State} (h : s.StorageOnly t) : t.ri = s.ri := by
  rw [h]
  rfl

theorem State.TlbsOnly.ri_eq {s t : State} (h : s.TlbsOnly t) : t.ri = s.ri :=
  h.part State.ri fun _ _ _ _ _ _ => rfl

/-- A completed fetch changes the first-level instruction TLB and the monitors' events at most. -/
theorem State.l1Fill_eq (s : State) : s.l1Fill = { s with l1itlb := s.l1Fill.l1itlb, events := s.l1Fill.events } := by
  obtain ⟨l, evs, hl, -⟩ := l1Fill_cases s
  rw [hl]

theorem State.ri_of_fetched (s : State) : s.wcbFreeEvict.tlbFree.l1Fill.ri = s.ri := calc
  _ = s.wcbFreeEvict.tlbFree.ri := (State.l1Fill_storageOnly _).ri_eq
  _ = s.wcbFreeEvict.ri := (State.tlbFree_tlbsOnly _).ri_eq
  _ = s.ri := s.wcbFreeEvict_memoryOnly.storageOnly.ri_eq

theorem step_eq_fetchRun {s : State} (his : s.psrIs = false) (hri : s.ri ≠ 3)
    (hext : s.wcbFreeEvict.tlbFree.externalInterrupt = false) : step s = s.wcbFreeEvict.tlbFree.fetchRun := by
  have his : ¬ s.psrIs = true := by simp [his]
  have hext : ¬ s.wcbFreeEvict.tlbFree.externalInterrupt = true := by simp [hext]
  exact (if_neg his).trans ((if_neg hri).trans (if_neg hext))

theorem State.fetchRun_of_ok {s : State} {b : BitVec 128} (h : s.fetch = .ok b) : s.fetchRun = s.l1Fill.runBundle b := by
  unfold State.fetchRun
  rw [h]

theorem State.runBundle_of_instr {s : State} {b : BitVec 128} {t : Template} {i : Instr}
    (ht : template (b.extractLsb' 0 5) = some t) (hi : t.instr b s.ri = some i) :
    s.runBundle b = s.afterExec (t.slotType s.ri) (t.word b s.ri) (t.stop s.ri) (exec i s) := by
  simp only [State.runBundle, ht, hi]

end Sys2Proof.Machine

section

open Sys2Proof Machine

/-- Settles O4: the step is a fetch, the fetch gives the bundle, and the bundle's slot is the one PSR.ri names as before the step. -/
theorem stepRunsTheDecodedInstruction : Obligations.StepRunsTheDecodedInstruction := by
  unfold Obligations.StepRunsTheDecodedInstruction
  intro s b t i s' v his hri hext hfetch ht hi
  have hv : v.ri = s.ri := s.ri_of_fetched
  have hrun : step s = v.runBundle b := (step_eq_fetchRun his hri hext).trans (State.fetchRun_of_ok hfetch)
  rw [← hv] at hi ⊢
  exact ⟨hrun.trans (State.runBundle_of_instr ht hi), s'.l1Fill_eq⟩

end

end

section
/-! SUPPORT. What the monitors leave of an instruction group: the register file the group reads, the one it writes, and the record of
what it has written. -/

namespace Sys2Proof.Machine

/-- What an instruction group reads, writes and has recorded of itself. -/
structure GroupView where
  cur : Regs
  old : Regs
  umGroup : BitVec 6
  groupStart : Bool
  grpWrites : List (WrittenReg × WriteKind)
  grpPrAlu : BitVec 64

/-- The group part of a state. -/
def State.groupView (s : State) : GroupView :=
  { cur := s.cur, old := s.old, umGroup := s.umGroup, groupStart := s.groupStart, grpWrites := s.grpWrites,
    grpPrAlu := s.grpPrAlu }

section

variable (s u : State)

theorem State.btbSettle_groupView (d : Nat) (c f : Bool) : (s.btbSettle u d c f).groupView = u.groupView := by
  unfold State.btbSettle
  repeat' split
  all_goals rfl

theorem State.btbTick_groupView (v : TickView) (c : Bool) : (s.btbTick u v c).groupView = u.groupView := by
  unfold State.btbTick
  split
  · dsimp only
    split
    · rfl
    · exact s.btbSettle_groupView u _ _ _
  · exact s.btbSettle_groupView u _ _ _

theorem State.earTick_groupView (d : Nat) (i : Option (Word × Word)) (w : Option (Word × Word × Word)) :
    (s.earTick u d i w).groupView = u.groupView := by
  cases i <;> cases w <;> rfl

theorem State.captured_groupView (v : TickView) (l : List PmuEvent) : (s.captured u v l).1.groupView = u.groupView :=
  (s.earTick_groupView _ _ _ _).trans (s.btbTick_groupView u _ _)

theorem State.tickOnce_groupView (ty : SlotType) (w : BitVec 41) : (s.tickOnce u ty w).groupView = u.groupView :=
  s.captured_groupView u _ _

/-- The monitors and the timer leave the group as the instruction left it. -/
theorem State.tick_groupView (ty : SlotType) (w : BitVec 41) : (s.tick u ty w).groupView = u.groupView := by
  unfold State.tick
  split
  · exact s.tickOnce_groupView u ty w
  · exact (State.tickOnce_groupView _ _ _ _).trans (s.tickOnce_groupView _ ty w)

end

end Sys2Proof.Machine

section

open Sys2Proof Machine

/-- Settles O5: a stop ends the group, and the monitors that tick after it leave the group as it is. -/
theorem groupWritesBecomeVisibleAtStops : Obligations.GroupWritesBecomeVisibleAtStops := by
  unfold Obligations.GroupWritesBecomeVisibleAtStops
  intro s u ty w stop
  have kept := s.tick_groupView (if stop then u.endGroup else u) ty w
  simp only [State.groupView, GroupView.mk.injEq] at kept
  obtain ⟨hcur, hold, hum, hstart, hwrites, hpr⟩ := kept
  refine ⟨_, rfl, ?_⟩
  rw [hcur, hold, hum, hstart, hwrites, hpr]
  cases stop with
  | true => exact ⟨rfl, rfl, rfl, fun _ => ⟨rfl, rfl, rfl⟩⟩
  | false => exact ⟨rfl, rfl, rfl, nofun⟩

end

end

section
/-! SUPPORT. The instructions that compute one general register: `GrForm.Runs` says which function of its sources such an instruction
writes, and `GrForm.Runs.correct` and `GrForm.Runs.takes_illegalOp` say once what follows of its results and its faults. -/

namespace Sys2Proof.Machine

/-! ### One general register written -/

/-- An allowed write of a general register writes that register and nothing else. -/
theorem State.wroteGr_setGr (s : State) (r : GrIdx) (v : GReg) (h : s.grTargetOk r = true) :
    s.WroteGr (s.setGr r v .alu) r v :=
  ⟨s.setGr_same r v .alu h, s.setGr_other r v .alu, Regs.setGr_frame _ _ _, rfl, fun _ => rfl⟩

theorem State.targetGr_ok {s : State} {r : GrIdx} (h : s.grTargetOk r = true) : s.targetGr r = .ok () := if_pos h

theorem State.targetGr_bad {s : State} {r : GrIdx} (h : s.grTargetOk r = false) : s.targetGr r = .error illegalOp :=
  if_neg (by simp [h])

theorem State.readGr_ok {s : State} {r : GrIdx} (h : s.grVisible r = true) : s.readGr r = .ok (s.gr r) := if_pos h

theorem State.readGr_bad {s : State} {r : GrIdx} (h : s.grVisible r = false) : s.readGr r = .error illegalOp :=
  if_neg (by simp [h])

/-- GR[0] is in every frame, and reads 0 with NaT clear (R22). -/
theorem State.grVisible_zero (s : State) : s.grVisible 0 = true := by simp [State.grVisible]

theorem State.gr_zero (s : State) : s.gr 0 = GReg.zero := rfl

/-- An Illegal Operation, as the outcome of an instruction. -/
theorem takes_illegalOp (s : State) : Takes s (finish s (.error illegalOp)) .generalException 0 := ⟨_, rfl, rfl, rfl⟩

section

variable {s : State} {qp : PredIdx} {r1 r2 r3 : GrIdx}

theorem grOp2_ready (op : Word → Word → Word) (hq : s.pred qp = true) (h1 : s.grTargetOk r1 = true) (h2 : s.grVisible r2 = true)
    (h3 : s.grVisible r3 = true) : grOp2 s qp r1 r2 r3 op =
      .next (retire s { s := s.setGr r1 { val := op (s.gr r2).val (s.gr r3).val, nat := (s.gr r2).nat || (s.gr r3).nat } .alu }) := by
  unfold grOp2
  rw [run_true (State.targetGr_ok h1) hq, State.readGr_ok h2, State.readGr_ok h3]
  rfl

theorem grOp1_ready (op : Word → Word) (hq : s.pred qp = true) (h1 : s.grTargetOk r1 = true) (h3 : s.grVisible r3 = true) :
    grOp1 s qp r1 r3 op = .next (retire s { s := s.setGr r1 { val := op (s.gr r3).val, nat := (s.gr r3).nat } .alu }) := by
  unfold grOp1
  rw [run_true (State.targetGr_ok h1) hq, State.readGr_ok h3]
  rfl

/-- An instruction whose targets are not allowed. -/
theorem run_bad {t : Except Exc Unit} {b : Except Exc Res} (ht : t = .error illegalOp) : run s qp t b = finish s (.error illegalOp) := by
  subst ht; rfl

theorem grOp2_illegal (op : Word → Word → Word) (hq : s.pred qp = true)
    (h : s.grTargetOk r1 = false ∨ s.grVisible r2 = false ∨ s.grVisible r3 = false) :
    grOp2 s qp r1 r2 r3 op = finish s (.error illegalOp) := by
  unfold grOp2
  cases h1 : s.grTargetOk r1 with
  | false => exact run_bad (State.targetGr_bad h1)
  | true =>
    rw [run_true (State.targetGr_ok h1) hq]
    cases h2 : s.grVisible r2 with
    | false => rw [State.readGr_bad h2]; rfl
    | true =>
      have h3 : s.grVisible r3 = false := by simpa [h1, h2] using h
      rw [State.readGr_ok h2, State.readGr_bad h3]; rfl

theorem grOp1_illegal (op : Word → Word) (hq : s.pred qp = true) (h : s.grTargetOk r1 = false ∨ s.grVisible r3 = false) :
    grOp1 s qp r1 r3 op = finish s (.error illegalOp) := by
  unfold grOp1
  cases h1 : s.grTargetOk r1 with
  | false => exact run_bad (State.targetGr_bad h1)
  | true =>
    have h3 : s.grVisible r3 = false := by simpa [h1] using h
    rw [run_true (State.targetGr_ok h1) hq, State.readGr_bad h3]; rfl

end

end Sys2Proof.Machine

namespace Sys2Proof.Forms

open Sys2Proof.Machine

/-! ### Forms and the functions they run -/

/-- How the model runs the instruction of a form: by a function of two sources, or of one, that gives what the form asks for. -/
inductive GrForm.Runs (i : Instr) (f : GrForm) : Prop
  | two (op : Word → Word → Word) (runs : ∀ s, exec i s = grOp2 s f.qp f.r1 f.a f.b op) (ok : ∀ x y, f.ok x y (op x y))
  | one (op : Word → Word) (runs : ∀ s, exec i s = grOp1 s f.qp f.r1 f.a op) (single : f.b = 0) (ok : ∀ x y, f.ok x y (op x))

theorem GrForm.Runs.correct {i : Instr} {f : GrForm} (h : GrForm.Runs i f) : f.Correct i := by
  intro s hq h1 ha hb
  cases h with
  | two op runs ok => exact ⟨_, _, ok _ _, (runs s).trans (grOp2_ready op hq h1 ha hb), s.wroteGr_setGr _ _ h1⟩
  | one op runs single ok =>
    refine ⟨_, _, ok _ _, (runs s).trans (grOp1_ready op hq h1 ha), ?_⟩
    have joined : ((s.gr f.a).nat || (s.gr f.b).nat) = (s.gr f.a).nat := by
      rw [single, State.gr_zero]; exact Bool.or_false _
    rw [joined]
    exact s.wroteGr_setGr _ _ h1

theorem GrForm.Runs.takes_illegalOp {i : Instr} {f : GrForm} (h : GrForm.Runs i f) {s : State} (hq : s.pred f.qp = true)
    (hbad : s.grTargetOk f.r1 = false ∨ s.grVisible f.a = false ∨ s.grVisible f.b = false) :
    Takes s (exec i s) .generalException 0 := by
  cases h with
  | two op runs ok =>
    rw [runs s, grOp2_illegal op hq hbad]
    exact Machine.takes_illegalOp s
  | one op runs single ok =>
    rw [runs s, grOp1_illegal op hq (by simpa only [single, State.grVisible_zero, Bool.true_eq_false, or_false] using hbad)]
    exact Machine.takes_illegalOp s

/-! ### Values of formats A1 to A5 (R320 to R324) -/

theorem isMod_add (x y : Word) : isMod (x + y) (x.toNat + y.toNat) := by simp [isMod]

theorem isMod_add_one (x y : Word) : isMod (x + y + 1) (x.toNat + y.toNat + 1) := by
  simp [isMod]

theorem isMod_sub (x y : Word) : isMod (x - y) (x.toNat - y.toNat) := by
  simp only [isMod, BitVec.toNat_sub]; omega

theorem isMod_sub_one (x y : Word) : isMod (x - y - 1) (x.toNat - y.toNat - 1) := by
  rw [isMod, BitVec.toNat_sub, BitVec.toNat_sub, show (1 : Word).toNat = 1 from rfl]; omega

/-- A sign-extended immediate, as a number modulo 2^64. -/
theorem sext_toNat (imm : BitVec n) (hn : n ≤ 64) : ((sext imm).toNat : Int) = imm.toInt % 2 ^ 64 := by
  have h := BitVec.toInt_eq_toNat_bmod (sext imm)
  rw [sext, BitVec.toInt_signExtend_of_le hn] at h
  have small := (sext imm).isLt
  rw [h, show (2 : Int) ^ 64 = ((2 ^ 64 : Nat) : Int) from rfl, Int.bmod_emod]
  unfold sext at *
  omega

theorem isMod_sext_sub (imm : BitVec n) (hn : n ≤ 64) (x : Word) : isMod (sext imm - x) (imm.toInt - x.toNat) := by
  have h := sext_toNat imm hn
  simp only [isMod, BitVec.toNat_sub]; omega

theorem isMod_sext_add (imm : BitVec n) (hn : n ≤ 64) (x : Word) : isMod (sext imm + x) (imm.toInt + x.toNat) := by
  have h := sext_toNat imm hn
  simp only [isMod, BitVec.toNat_add]; omega

theorem isMod_shiftAdd (x : Word) (ct : BitVec 2) (y : Word) : isMod (shiftAdd x ct y) (x.toNat * 2 ^ (ct.toNat + 1) + y.toNat) := by
  unfold isMod shiftAdd
  rw [BitVec.toNat_add, BitVec.toNat_shiftLeft, Nat.shiftLeft_eq, Nat.mod_add_mod]
  push_cast
  rfl

/-- The pointer form of a sum that is right modulo 2^64. -/
theorem isPtr4_of_isMod {sum y : Word} {n : Int} (h : isMod sum n) : isPtr4 n y (ptr4 sum y) := by
  have low : BitVec.ofInt 32 n = sum.extractLsb' 0 32 := by
    apply BitVec.eq_of_toNat_eq
    simp only [BitVec.toNat_ofInt, BitVec.extractLsb'_toNat, Nat.shiftRight_zero]
    unfold isMod at h
    omega
  intro k hk
  rw [low]
  simp only [ptr4, BitVec.getLsbD_append, BitVec.getLsbD_extractLsb', BitVec.getLsbD_zero]
  by_cases h32 : k < 32
  · simp [h32]
  by_cases h61 : k = 61
  · subst h61; simp
  by_cases h62 : k = 62
  · subst h62; simp
  by_cases h63 : k = 63
  · subst h63; simp
  simp [h32, h61, h62, show k - 32 < 29 by omega]

theorem isBits_and (x y : Word) : isBits (x &&& y) (fun k => x.getLsbD k && y.getLsbD k) := fun _ _ => BitVec.getLsbD_and

theorem isBits_andcm (x y : Word) : isBits (x &&& ~~~ y) (fun k => x.getLsbD k && !y.getLsbD k) := fun k hk => by simp [hk]

theorem isBits_or (x y : Word) : isBits (x ||| y) (fun k => x.getLsbD k || y.getLsbD k) := fun _ _ => BitVec.getLsbD_or

theorem isBits_xor (x y : Word) : isBits (x ^^^ y) (fun k => x.getLsbD k != y.getLsbD k) := fun _ _ => BitVec.getLsbD_xor

/-- Each instruction of formats A1 to A5 writes the value of its rule. -/
theorem aluForm_runs {i : Instr} {f : GrForm} (h : aluForm i = some f) : GrForm.Runs i f := by
  unfold aluForm at h
  split at h <;> cases h
  -- two registers
  · exact .two (· + ·) (fun _ => rfl) isMod_add
  · exact .two (· + · + 1) (fun _ => rfl) isMod_add_one
  · exact .two (· - ·) (fun _ => rfl) isMod_sub
  · exact .two (· - · - 1) (fun _ => rfl) isMod_sub_one
  · exact .two (fun x y => ptr4 (x + y) y) (fun _ => rfl) fun x y => isPtr4_of_isMod (isMod_add x y)
  · exact .two (· &&& ·) (fun _ => rfl) isBits_and
  · exact .two (· &&& ~~~ ·) (fun _ => rfl) isBits_andcm
  · exact .two (· ||| ·) (fun _ => rfl) isBits_or
  · exact .two (· ^^^ ·) (fun _ => rfl) isBits_xor
  · next ct _ => exact .two (shiftAdd · ct ·) (fun _ => rfl) fun x y => isMod_shiftAdd x ct y
  · next ct _ =>
    exact .two (fun x y => ptr4 (shiftAdd x ct y) y) (fun _ => rfl) fun x y => isPtr4_of_isMod (isMod_shiftAdd x ct y)
  -- an immediate and a register
  · next imm _ => exact .one (sext imm - ·) (fun _ => rfl) rfl fun x _ => isMod_sext_sub imm (by omega) x
  · next imm _ => exact .one (sext imm &&& ·) (fun _ => rfl) rfl fun x _ => isBits_and (sext imm) x
  · next imm _ => exact .one (sext imm &&& ~~~ ·) (fun _ => rfl) rfl fun x _ => isBits_andcm (sext imm) x
  · next imm _ => exact .one (sext imm ||| ·) (fun _ => rfl) rfl fun x _ => isBits_or (sext imm) x
  · next imm _ => exact .one (sext imm ^^^ ·) (fun _ => rfl) rfl fun x _ => isBits_xor (sext imm) x
  · next imm _ => exact .one (sext imm + ·) (fun _ => rfl) rfl fun x _ => isMod_sext_add imm (by omega) x
  · next imm _ =>
    exact .one (fun x => ptr4 (sext imm + x) x) (fun _ => rfl) rfl fun x _ => isPtr4_of_isMod (isMod_sext_add imm (by omega) x)
  · next imm _ => exact .one (sext imm + ·) (fun _ => rfl) rfl fun x _ => isMod_sext_add imm (by omega) x

end Sys2Proof.Forms

section

open Sys2Proof Machine Forms

/-- Settles O22: each instruction runs the function its rule names, on sources that are read only where they may be named. -/
theorem aluResults : Obligations.AluResults := by
  unfold Obligations.AluResults
  intro i f h
  have runs := aluForm_runs h
  exact ⟨runs.correct, fun s hq hbad => runs.takes_illegalOp hq hbad⟩

end

end

section
/-! SUPPORT. The parallel instructions: what each element operation gives, for every element width, and what the words built from elements
are made of (R328, R329, R340, R341). -/

namespace Sys2Proof.Forms

open Sys2Proof.Machine

/-! ### Numbers cut to a width -/

/-- Dividing after or before cutting to `m` bits gives the same low `w` bits, where they were all kept. -/
theorem emod_two_pow_ediv_emod (n : Int) {k w m : Nat} (h : k + w ≤ m) :
    n % 2 ^ m / 2 ^ k % 2 ^ w = n / 2 ^ k % 2 ^ w := by
  obtain ⟨d, rfl⟩ := Nat.exists_eq_add_of_le h
  have split : n = n % 2 ^ (k + w + d) + 2 ^ k * (2 ^ w * (2 ^ d * (n / 2 ^ (k + w + d)))) := by
    have := Int.emod_add_mul_ediv n (2 ^ (k + w + d))
    rw [pow_add, pow_add] at *
    rw [← mul_assoc, ← mul_assoc]
    exact this.symm
  have hk : (2 : Int) ^ k ≠ 0 := by positivity
  conv_rhs => rw [split, Int.add_mul_ediv_left _ _ hk, Int.add_mul_emod_self_left]

/-- A field of a number written in `m` bits is the number shifted. -/
theorem extractLsb'_ofInt (n : Int) {k w m : Nat} (h : k + w ≤ m) :
    (BitVec.ofInt m n).extractLsb' k w = BitVec.ofInt w (n / 2 ^ k) := by
  apply BitVec.eq_of_toNat_eq
  apply Int.ofNat_inj.mp
  have pos : (0 : Int) < 2 ^ m := by positivity
  have nonneg : 0 ≤ n / 2 ^ k % 2 ^ w := Int.emod_nonneg _ (by positivity)
  rw [BitVec.extractLsb'_toNat, BitVec.toNat_ofInt, BitVec.toNat_ofInt, Nat.shiftRight_eq_div_pow]
  push_cast
  rw [Int.toNat_of_nonneg (Int.emod_nonneg _ pos.ne'), Int.toNat_of_nonneg nonneg, emod_two_pow_ediv_emod n h]

theorem toNat_add_int (x y : BitVec w) : ((x + y).toNat : Int) = ((x.toNat : Int) + y.toNat) % 2 ^ w := by
  rw [BitVec.toNat_add]; push_cast; rfl

/-- A difference of numbers, cut to a width. -/
theorem ofInt_sub (w : Nat) (m n : Int) : BitVec.ofInt w (m - n) = BitVec.ofInt w m - BitVec.ofInt w n := by
  rw [Int.sub_eq_add_neg, BitVec.ofInt_add, BitVec.ofInt_neg, BitVec.sub_eq_add_neg]

theorem toNat_sub_int (x y : BitVec w) : ((x - y).toNat : Int) = ((x.toNat : Int) - y.toNat) % 2 ^ w := by
  have h := BitVec.toNat_ofInt (n := w) (x.toNat - y.toNat : Int)
  have e : x - y = BitVec.ofInt w (x.toNat - y.toNat : Int) := by
    rw [ofInt_sub]; simp
  have pos : (0 : Int) < 2 ^ w := by positivity
  rw [e, h]
  push_cast
  exact Int.toNat_of_nonneg (Int.emod_nonneg _ pos.ne')

/-! ### Saturation -/

/-- Saturation to a signed range. -/
theorem satSigned_satS {w : Nat} (hw : 0 < w) (n : Int) : satSigned (satS w n) n := by
  have pos : (0 : Int) < 2 ^ (w - 1) := by positivity
  unfold satSigned satS clampTo
  rw [BitVec.toInt_ofInt_eq_self hw (by omega) (by omega)]
  generalize (2 : Int) ^ (w - 1) = m at *
  split
  · omega
  · split <;> omega

/-- Saturation to an unsigned range. -/
theorem satUnsigned_satU (w : Nat) (n : Int) : satUnsigned (satU w n) n := by
  have pos : (0 : Int) < 2 ^ w := by positivity
  unfold satUnsigned satU clampTo
  rw [BitVec.toNat_ofInt, show ((2 ^ w : Nat) : Int) = 2 ^ w by push_cast; rfl, Int.emod_eq_of_lt (by omega) (by omega)]
  generalize (2 : Int) ^ w = m at *
  split
  · omega
  · split <;> omega

/-! ### Element operations -/

/-- An operation of elements that meets the rule of the elements, made on whole words. -/
theorem lanes_map2 {w : Nat} (hw : 0 < w) {r : BitVec w → BitVec w → BitVec w → Prop} {op : BitVec w → BitVec w → BitVec w}
    (h : ∀ x y, r x y (op x y)) (x y : Word) : lanes w r x y (map2 w op x y) := by
  intro k hk
  have e : lane w (map2 w op x y) k = op (lane w x k) (lane w y k) := elem_map2 w hw op x y k hk
  rw [e]
  exact h _ _

theorem isPavg_pavgElem {w : Nat} (hw : 0 < w) (x y : BitVec w) : isPavg x y (pavgElem w x y) := by
  have hx := x.isLt
  have hy := y.isLt
  have one : 1 < 2 ^ w := Nat.one_lt_two_pow hw.ne'
  unfold isPavg pavgElem
  rw [BitVec.toNat_or, BitVec.toNat_ofNat, BitVec.toNat_ofNat, Nat.mod_eq_of_lt (by omega), Nat.mod_eq_of_lt (by omega)]

theorem toNat_pavgRazElem {w : Nat} (x y : BitVec w) : (pavgRazElem w x y).toNat = (x.toNat + y.toNat + 1) / 2 := by
  have hx := x.isLt
  have hy := y.isLt
  unfold pavgRazElem
  rw [BitVec.toNat_ofNat, Nat.mod_eq_of_lt (by omega)]

/-- The lowest bit of a number, kept in its place. -/
theorem ofInt_and_one (w : Nat) (n : Int) : BitVec.ofInt w n &&& 1 = BitVec.ofInt w (n % 2) := by
  cases w with
  | zero => exact Subsingleton.elim _ _
  | succ w =>
    have low : BitVec.ofInt (w + 1) n &&& 1 = ((BitVec.ofInt (w + 1) n).extractLsb' 0 1).setWidth (w + 1) := by
      apply BitVec.eq_of_getLsbD_eq
      intro k hk
      cases k with
      | zero => simp
      | succ k => simp
    rw [low, extractLsb'_ofInt n (by omega)]
    rcases Int.emod_two_eq n with h | h
    · have : BitVec.ofInt 1 (n / 2 ^ 0) = 0#1 := by
        apply BitVec.eq_of_toNat_eq; simp [h]
      rw [this, h]; rfl
    · have : BitVec.ofInt 1 (n / 2 ^ 0) = 1#1 := by
        apply BitVec.eq_of_toNat_eq; simp [h]
      rw [this, h]
      apply BitVec.eq_of_toNat_eq
      simp

theorem isPavgsub_pavgsubElem {w : Nat} (x y : BitVec w) : isPavgsub x y (pavgsubElem w x y) := by
  have diff : x.setWidth (w + 1) - y.setWidth (w + 1) = BitVec.ofInt (w + 1) (x.toNat - y.toNat : Int) := by
    rw [ofInt_sub]; simp
  have half := extractLsb'_ofInt (x.toNat - y.toNat : Int) (show 1 + w ≤ w + 1 by omega)
  have low : (BitVec.ofInt (w + 1) (x.toNat - y.toNat : Int)).setWidth w = BitVec.ofInt w (x.toNat - y.toNat : Int) := by
    have field := extractLsb'_ofInt (x.toNat - y.toNat : Int) (show 0 + w ≤ w + 1 by omega)
    rw [← BitVec.setWidth_eq_extractLsb' (by omega)] at field
    simpa using field
  unfold isPavgsub pavgsubElem
  simp only [diff]
  rw [half, low, ofInt_and_one, pow_one]

theorem isMask_pcmpElem {w : Nat} {f : BitVec w → BitVec w → Bool} {x y : BitVec w} {c : Prop} (h : f x y = true ↔ c) :
    isMask (pcmpElem w f x y) c := by
  unfold isMask pcmpElem
  constructor
  · intro hc k hk
    rw [if_pos (h.mpr hc)]
    simp [hk]
  · intro hc
    rw [if_neg (mt h.mp hc)]
    simp

theorem isMask_eq {w : Nat} (x y : BitVec w) : isMask (pcmpElem w (fun x y => x == y) x y) (x = y) :=
  isMask_pcmpElem beq_iff_eq

theorem isMask_gt {w : Nat} (x y : BitVec w) : isMask (pcmpElem w (fun x y => y.slt x) x y) (y.toInt < x.toInt) :=
  isMask_pcmpElem BitVec.slt_iff_toInt_lt

theorem pshladdElem_correct (count : Nat) (x y : BitVec 16) :
    ∃ t : BitVec 16, satSigned t (x.toInt * 2 ^ count) ∧ satSigned (pshladdElem count x y) (t.toInt + y.toInt) :=
  ⟨_, satSigned_satS (by decide) _, satSigned_satS (by decide) _⟩

theorem pshraddElem_correct (count : Nat) (x y : BitVec 16) :
    satSigned (pshraddElem count x y) (x.toInt / 2 ^ count + y.toInt) := by
  have shifted : (x.sshiftRight count).toInt = x.toInt / 2 ^ count := by
    rw [BitVec.toInt_sshiftRight, Int.shiftRight_eq_div_pow]; push_cast; rfl
  unfold pshraddElem
  rw [shifted]
  exact satSigned_satS (by decide) _

/-- The names of the counts agree (R340). -/
theorem pmpyCount_eq (c : PmpyCount) : pmpyCount c = countOf c := by cases c <;> rfl

theorem pmpyCount_le (c : PmpyCount) : pmpyCount c ≤ 16 := by cases c <;> decide

theorem pmpyshrElem_signed (c : PmpyCount) (x y : BitVec 16) :
    pmpyshrElem false (pmpyCount c) x y = BitVec.ofInt 16 (x.toInt * y.toInt / 2 ^ countOf c) := by
  have hc := pmpyCount_le c
  have product : x.signExtend 32 * y.signExtend 32 = BitVec.ofInt 32 (x.toInt * y.toInt) := by
    rw [BitVec.ofInt_mul]; rfl
  unfold pmpyshrElem
  simp only [Bool.false_eq_true, if_false]
  rw [product, extractLsb'_ofInt _ (by omega), pmpyCount_eq]

theorem pmpyshrElem_unsigned (c : PmpyCount) (x y : BitVec 16) :
    pmpyshrElem true (pmpyCount c) x y = BitVec.ofNat 16 (x.toNat * y.toNat / 2 ^ countOf c) := by
  have hc := pmpyCount_le c
  have product : x.setWidth 32 * y.setWidth 32 = BitVec.ofInt 32 (x.toNat * y.toNat : Int) := by
    rw [BitVec.ofInt_mul]; simp
  unfold pmpyshrElem
  simp only [if_true]
  rw [product, extractLsb'_ofInt _ (by omega), pmpyCount_eq, ← BitVec.ofInt_natCast]
  push_cast
  rfl

/-- The signed product of two elements of 16 bits fits 32 bits. -/
theorem toInt_signedProduct (x y : BitVec 16) : (x.signExtend 32 * y.signExtend 32).toInt = x.toInt * y.toInt := by
  have hx : |x.toInt| ≤ 2 ^ 15 := abs_le.mpr ⟨by have := x.le_toInt; omega, by have := x.toInt_lt; omega⟩
  have hy : |y.toInt| ≤ 2 ^ 15 := abs_le.mpr ⟨by have := y.le_toInt; omega, by have := y.toInt_lt; omega⟩
  have bound : |x.toInt * y.toInt| ≤ 2 ^ 15 * 2 ^ 15 := by
    rw [abs_mul]; exact mul_le_mul hx hy (abs_nonneg _) (by positivity)
  obtain ⟨lo, hi⟩ := abs_le.mp bound
  rw [BitVec.toInt_mul, BitVec.toInt_signExtend_of_le (by decide), BitVec.toInt_signExtend_of_le (by decide)]
  exact Int.bmod_eq_of_le (by omega) (by omega)

/-- Both products of `pmpy2` (R340). -/
theorem pmpy2_correct (i : Nat) (x y : Word) :
    (lane 32 (pmpy2 i x y) 0).toInt = (lane 16 x i).toInt * (lane 16 y i).toInt ∧
      (lane 32 (pmpy2 i x y) 1).toInt = (lane 16 x (i + 2)).toInt * (lane 16 y (i + 2)).toInt := by
  have high : lane 32 (pmpy2 i x y) 1 = (elem 16 x (i + 2)).signExtend 32 * (elem 16 y (i + 2)).signExtend 32 :=
    (extract_append_high _ _ 32 32 (by decide)).trans (extract_all _)
  have low : lane 32 (pmpy2 i x y) 0 = (elem 16 x i).signExtend 32 * (elem 16 y i).signExtend 32 :=
    (extract_append_low _ _ 0 32 (by decide)).trans (extract_all _)
  exact ⟨low ▸ toInt_signedProduct _ _, high ▸ toInt_signedProduct _ _⟩

theorem toNat_pmin (x y : BitVec w) : (if x.ult y then x else y).toNat = min x.toNat y.toNat := by
  simp only [BitVec.ult_iff_lt, BitVec.lt_def]
  split <;> omega

theorem toNat_pmax (x y : BitVec w) : (if x.ult y then y else x).toNat = max x.toNat y.toNat := by
  simp only [BitVec.ult_iff_lt, BitVec.lt_def]
  split <;> omega

theorem toInt_pmin (x y : BitVec w) : (if x.slt y then x else y).toInt = min x.toInt y.toInt := by
  simp only [BitVec.slt_iff_toInt_lt]
  split <;> omega

theorem toInt_pmax (x y : BitVec w) : (if x.slt y then y else x).toInt = max x.toInt y.toInt := by
  simp only [BitVec.slt_iff_toInt_lt]
  split <;> omega

/-! ### Words made of elements -/

/-- A word of interleaved elements, the even ones of `y`, the odd ones of `x`. -/
theorem isMix_ofElems {w : Nat} (hw : 0 < w) {f : Nat → Nat} {x y : Word} {g : Nat → BitVec w}
    (even : ∀ k, g (2 * k) = elem w y (f k)) (odd : ∀ k, g (2 * k + 1) = elem w x (f k)) :
    isMix w f x y (ofElems w g (64 / w)) := by
  intro k hk
  have fits : w * (64 / w) ≤ 64 := Nat.mul_div_le 64 w
  exact ⟨(elem_ofElems w hw g _ _ fits (by omega)).trans (even k), (elem_ofElems w hw g _ _ fits (by omega)).trans (odd k)⟩

theorem isMix_mix {w : Nat} (hw : 0 < w) (odd : Nat) (x y : Word) : isMix w (fun k => 2 * k + odd) x y (mix w odd x y) :=
  isMix_ofElems hw (fun k => if_pos (by omega)) fun k => (if_neg (by omega)).trans rfl

theorem isMix_unpack {w : Nat} (hw : 0 < w) (off : Nat) {f : Nat → Nat} (hf : ∀ k, f k = off + k) (x y : Word) :
    isMix w f x y (unpack w off x y) :=
  isMix_ofElems hw
    (fun k => (if_pos (by omega)).trans (by rw [show 2 * k / 2 = k by omega, hf]))
    fun k => (if_neg (by omega)).trans (by rw [show (2 * k + 1) / 2 = k by omega, hf])

theorem isPack_pack {w : Nat} (hw : 0 < w / 2) {sat : Int → BitVec (w / 2)} {r : BitVec (w / 2) → Int → Prop}
    (h : ∀ n, r (sat n) n) (x y : Word) : isPack w r x y (pack w sat x y) := by
  intro k hk
  have fits : w / 2 * (2 * (64 / w)) ≤ 64 := by
    calc w / 2 * (2 * (64 / w)) = w / 2 * 2 * (64 / w) := (Nat.mul_assoc _ _ _).symm
      _ ≤ w * (64 / w) := Nat.mul_le_mul_right _ (Nat.div_mul_le_self w 2)
      _ ≤ 64 := Nat.mul_div_le 64 w
  have first : lane (w / 2) (pack w sat x y) k = sat (elem w x k).toInt :=
    (elem_ofElems (w / 2) hw _ _ _ fits (by omega)).trans (if_pos hk)
  have second : lane (w / 2) (pack w sat x y) (64 / w + k) = sat (elem w y k).toInt :=
    (elem_ofElems (w / 2) hw _ _ _ fits (by omega)).trans ((if_neg (by omega)).trans (by rw [Nat.add_sub_cancel_left]))
  rw [first, second]
  exact ⟨h _, h _⟩

/-- Eight differences of bytes. -/
theorem sad_le (x y : Word) : sad x y ≤ 8 * 255 := by
  refine List.sum_le_card_nsmul _ 255 fun d hd => ?_
  obtain ⟨k, -, rfl⟩ := List.mem_map.mp hd
  have hx := (lane 8 x k).isLt
  have hy := (lane 8 y k).isLt
  omega

/-- The sum of the absolute differences of the bytes fits a word (R341). -/
theorem toNat_psad1 (x y : Word) : (psad1 x y).toNat = sad x y := by
  have each (a : Nat) (k : Nat) : a + ((elem 8 x k).toNat - (elem 8 y k).toNat) + ((elem 8 y k).toNat - (elem 8 x k).toNat) =
      a + (((lane 8 x k).toNat : Int) - (lane 8 y k).toNat).natAbs := by
    unfold elem lane
    omega
  have total : psad1 x y = BitVec.ofNat 64 (sad x y) := by
    unfold psad1 sad
    simp only [each]
    rw [List.sum_eq_foldl, List.foldl_map]
  rw [total, BitVec.toNat_ofNat, Nat.mod_eq_of_lt]
  have := sad_le x y
  omega

/-! ### The forms -/

/-- An instruction that makes an operation of elements runs its form. -/
theorem GrForm.Runs.elementwise {i : Instr} {qp : PredIdx} {r1 r2 r3 : GrIdx} {w : Nat} {r : BitVec w → BitVec w → BitVec w → Prop}
    (op : BitVec w → BitVec w → BitVec w) (runs : ∀ s, exec i s = grOp2 s qp r1 r2 r3 (map2 w op)) (hw : 0 < w)
    (h : ∀ x y, r x y (op x y)) : GrForm.Runs i { qp, r1, a := r2, b := r3, ok := lanes w r } :=
  .two _ runs (lanes_map2 hw h)

/-- Each instruction of formats A9 and A10 makes the operation of elements that its rule names. -/
theorem parallelForm_runs {i : Instr} {f : GrForm} (h : parallelForm i = some f) : GrForm.Runs i f := by
  unfold parallelForm at h
  split at h <;> cases h
  -- sums modulo 2^w
  · exact .elementwise _ (fun _ => rfl) (by decide) toNat_add_int
  · exact .elementwise _ (fun _ => rfl) (by decide) toNat_add_int
  · exact .elementwise _ (fun _ => rfl) (by decide) toNat_add_int
  -- saturated sums and differences of bytes
  · exact .elementwise _ (fun _ => rfl) (by decide) fun _ _ => satSigned_satS (by decide) _
  · exact .elementwise _ (fun _ => rfl) (by decide) fun _ _ => satUnsigned_satU 8 _
  · exact .elementwise _ (fun _ => rfl) (by decide) fun _ _ => satUnsigned_satU 8 _
  · exact .elementwise _ (fun _ => rfl) (by decide) fun _ _ => satSigned_satS (by decide) _
  · exact .elementwise _ (fun _ => rfl) (by decide) fun _ _ => satUnsigned_satU 8 _
  · exact .elementwise _ (fun _ => rfl) (by decide) fun _ _ => satUnsigned_satU 8 _
  -- saturated sums and differences of 16-bit elements
  · exact .elementwise _ (fun _ => rfl) (by decide) fun _ _ => satSigned_satS (by decide) _
  · exact .elementwise _ (fun _ => rfl) (by decide) fun _ _ => satUnsigned_satU 16 _
  · exact .elementwise _ (fun _ => rfl) (by decide) fun _ _ => satUnsigned_satU 16 _
  · exact .elementwise _ (fun _ => rfl) (by decide) fun _ _ => satSigned_satS (by decide) _
  · exact .elementwise _ (fun _ => rfl) (by decide) fun _ _ => satUnsigned_satU 16 _
  · exact .elementwise _ (fun _ => rfl) (by decide) fun _ _ => satUnsigned_satU 16 _
  -- differences modulo 2^w
  · exact .elementwise _ (fun _ => rfl) (by decide) toNat_sub_int
  · exact .elementwise _ (fun _ => rfl) (by decide) toNat_sub_int
  · exact .elementwise _ (fun _ => rfl) (by decide) toNat_sub_int
  -- averages
  · exact .elementwise _ (fun _ => rfl) (by decide) (isPavg_pavgElem (by decide))
  · exact .elementwise _ (fun _ => rfl) (by decide) toNat_pavgRazElem
  · exact .elementwise _ (fun _ => rfl) (by decide) isPavgsub_pavgsubElem
  · exact .elementwise _ (fun _ => rfl) (by decide) (isPavg_pavgElem (by decide))
  · exact .elementwise _ (fun _ => rfl) (by decide) toNat_pavgRazElem
  · exact .elementwise _ (fun _ => rfl) (by decide) isPavgsub_pavgsubElem
  -- compares
  · exact .elementwise _ (fun _ => rfl) (by decide) isMask_eq
  · exact .elementwise _ (fun _ => rfl) (by decide) isMask_gt
  · exact .elementwise _ (fun _ => rfl) (by decide) isMask_eq
  · exact .elementwise _ (fun _ => rfl) (by decide) isMask_gt
  · exact .elementwise _ (fun _ => rfl) (by decide) isMask_eq
  · exact .elementwise _ (fun _ => rfl) (by decide) isMask_gt
  -- shift-and-adds
  · exact .elementwise _ (fun _ => rfl) (by decide) (pshladdElem_correct _)
  · exact .elementwise _ (fun _ => rfl) (by decide) (pshraddElem_correct _)

/-- Each instruction of formats I1 and I2 gives the word that its rule describes. -/
theorem mixForm_runs {i : Instr} {f : GrForm} (h : mixForm i = some f) : GrForm.Runs i f := by
  unfold mixForm at h
  split at h <;> cases h
  -- multiplies
  · exact .elementwise _ (fun _ => rfl) (by decide) (pmpyshrElem_signed _)
  · exact .elementwise _ (fun _ => rfl) (by decide) (pmpyshrElem_unsigned _)
  · exact .two _ (fun _ => rfl) (pmpy2_correct 0)
  · exact .two _ (fun _ => rfl) (pmpy2_correct 1)
  -- mixes of even and odd elements
  · exact .two _ (fun _ => rfl) (isMix_mix (by decide) 0)
  · exact .two _ (fun _ => rfl) (isMix_mix (by decide) 1)
  · exact .two _ (fun _ => rfl) (isMix_mix (by decide) 0)
  · exact .two _ (fun _ => rfl) (isMix_mix (by decide) 1)
  · exact .two _ (fun _ => rfl) (isMix_mix (by decide) 0)
  · exact .two _ (fun _ => rfl) (isMix_mix (by decide) 1)
  -- packs
  · exact .two _ (fun _ => rfl) (isPack_pack (w := 16) (by decide) (satSigned_satS (by decide)))
  · exact .two _ (fun _ => rfl) (isPack_pack (w := 16) (by decide) (satUnsigned_satU 8))
  · exact .two _ (fun _ => rfl) (isPack_pack (w := 32) (by decide) (satSigned_satS (by decide)))
  -- unpacks of the low and the high half
  · exact .two _ (fun _ => rfl) (isMix_unpack (by decide) 0 (by simp))
  · exact .two _ (fun _ => rfl) (isMix_unpack (by decide) 4 (by simp))
  · exact .two _ (fun _ => rfl) (isMix_unpack (by decide) 0 (by simp))
  · exact .two _ (fun _ => rfl) (isMix_unpack (by decide) 2 (by simp))
  · exact .two _ (fun _ => rfl) (isMix_unpack (by decide) 0 (by simp))
  · exact .two _ (fun _ => rfl) (isMix_unpack (by decide) 1 (by simp))
  -- minima and maxima
  · exact .elementwise _ (fun _ => rfl) (by decide) toNat_pmin
  · exact .elementwise _ (fun _ => rfl) (by decide) toNat_pmax
  · exact .elementwise _ (fun _ => rfl) (by decide) toInt_pmin
  · exact .elementwise _ (fun _ => rfl) (by decide) toInt_pmax
  -- the sum of absolute differences
  · exact .two _ (fun _ => rfl) toNat_psad1

end Sys2Proof.Forms

section

open Sys2Proof Machine Forms

/-- Settles O23: each parallel instruction makes the operation of elements that its rule names. -/
theorem parallelResults : Obligations.ParallelResults := by
  unfold Obligations.ParallelResults
  exact ⟨fun _ _ h => (parallelForm_runs h).correct, fun _ _ h => (mixForm_runs h).correct⟩

end

end

section
/-! SUPPORT. Compares and bit tests: what the writes of a compare leave in the predicate file, and what follows for every instruction that
runs `compare` on a relation (R325 to R327, R352, R353). -/

namespace Sys2Proof.Machine

open Sys2Proof.Forms

/-! ### Relations -/

/-- What a relation of the compare encodings says of two words of one width (R325, R326). -/
def CmpRel.Says (r : CmpRel) (a b : BitVec w) : Prop :=
  match r with
  | .eq => a = b
  | .ne => a ≠ b
  | .lt => a.toInt < b.toInt
  | .ltu => a.toNat < b.toNat
  | .gt => a.toInt > b.toInt
  | .le => a.toInt ≤ b.toInt
  | .ge => a.toInt ≥ b.toInt

theorem CmpRel.holds_iff (r : CmpRel) (a b : BitVec w) : r.holds a b = true ↔ r.Says a b := by
  cases r with
  | eq => exact beq_iff_eq
  | ne => exact bne_iff_ne
  | lt => exact BitVec.slt_iff_toInt_lt
  | ltu => exact BitVec.ult_iff_lt
  | gt => exact BitVec.slt_iff_toInt_lt
  | le => exact BitVec.sle_iff_toInt_le
  | ge => exact BitVec.sle_iff_toInt_le

/-! ### Writes of two predicates -/

theorem one_shiftLeft_bit (n k : Nat) (hk : k < 64) : (1#64 <<< n).getLsbD k = decide (k = n) := by
  by_cases h : k = n
  · subst h; simp [hk]
  · by_cases hl : k < n
    · simp [h, hl]
    · simp [h, hk, show ¬ k - n = 0 by omega]

theorem spread_bit (v : Bool) (k : Nat) (hk : k < 64) : (if v then BitVec.allOnes 64 else 0).getLsbD k = v := by
  cases v with
  | true => rw [if_pos rfl, BitVec.getLsbD_allOnes, decide_eq_true hk]
  | false => exact BitVec.getLsbD_zero

section

variable (s : State) (p1 p2 : PredIdx) (v1 v2 : Bool) (c1 c2 : PrClass)

/-- The writes of a compare touch the predicates and the group's notes of them alone. -/
theorem State.wrotePr_setPr2 : s.WrotePr (s.setPr2 p1 v1 c1 p2 v2 c2) (fun k => (s.setPr2 p1 v1 c1 p2 v2 c2).cur.pr.getLsbD k) := by
  refine ⟨fun _ _ => rfl, ?_, ?_, fun a => ?_⟩ <;> cases c1 <;> cases c2 <;> rfl

/-- The writes of a compare leave every predicate but its targets alone. -/
theorem State.setPr2_other (k : Nat) (hk : k < 64) (h1 : k ≠ s.prPhys p1) (h2 : k ≠ s.prPhys p2) :
    (s.setPr2 p1 v1 c1 p2 v2 c2).cur.pr.getLsbD k = s.cur.pr.getLsbD k := by
  unfold State.setPr2 State.setPr
  simp only [State.setPrMask_bit, one_shiftLeft_bit _ _ hk, h1, h2]
  simp

/-- Where the group has written no predicate that the compare may not join, its targets take the values given. -/
theorem State.setPr2_bit (h1 : s.prHazard c1 = 0) (h2 : s.prHazard c2 = 0) (k : Nat) (hk : k < 64) :
    (s.setPr2 p1 v1 c1 p2 v2 c2).cur.pr.getLsbD k = prAfter s p1 p2 (some v1, some v2) k := by
  unfold State.setPr2 State.setPr prAfter
  simp only [State.setPrMask_bit, one_shiftLeft_bit _ _ hk, h1, h2, spread_bit _ _ hk]
  by_cases h0 : k = 0
  · simp [h0]
  · by_cases e2 : k = s.prPhys p2
    · subst e2; simp [h0]
    · simp [h0, e2]

end

/-- Equal predicate files are written alike. -/
theorem State.WrotePr.congr {s u : State} {f g : Nat → Bool} (h : s.WrotePr u f) (e : ∀ k, k < 64 → u.cur.pr.getLsbD k = g k) :
    s.WrotePr u g := ⟨e, h.2⟩

/-- A write that is not made leaves the predicates as they were. -/
theorem State.wrotePr_none (s : State) (p1 p2 : PredIdx) : s.WrotePr s (prAfter s p1 p2 (none, none)) := by
  refine ⟨fun k _ => ?_, rfl, rfl, fun _ => rfl⟩
  simp [prAfter]

/-- The hazards of a compare are those of any write of a predicate (R911). -/
theorem State.prHazard_cmp (s : State) : s.prHazard .cmp = s.prHazard .alu := rfl

/-- What an executed compare wrote to the predicates, with a hazard in its group or without one. -/
structure CmpWritten (s u : State) (ct : CmpType) (p1 p2 : PredIdx) (w : Option Bool × Option Bool) : Prop where
  frame : s.WrotePr u (fun k => u.cur.pr.getLsbD k)
  other : ∀ k, k < 64 → k ≠ s.prPhys p1 → k ≠ s.prPhys p2 → u.cur.pr.getLsbD k = s.cur.pr.getLsbD k
  value : noPrHazard s ct → s.WrotePr u (prAfter s p1 p2 w)

theorem CmpWritten.none (s : State) (ct : CmpType) (p1 p2 : PredIdx) : CmpWritten s s ct p1 p2 (none, none) :=
  ⟨⟨fun _ _ => rfl, rfl, rfl, fun _ => rfl⟩, fun _ _ _ _ => rfl, fun _ => s.wrotePr_none p1 p2⟩

theorem CmpWritten.both (s : State) {ct : CmpType} (p1 p2 : PredIdx) (v1 v2 : Bool) {c1 c2 : PrClass}
    (h : noPrHazard s ct → s.prHazard c1 = 0 ∧ s.prHazard c2 = 0) :
    CmpWritten s (s.setPr2 p1 v1 c1 p2 v2 c2) ct p1 p2 (some v1, some v2) where
  frame := s.wrotePr_setPr2 ..
  other := s.setPr2_other p1 p2 v1 v2 c1 c2
  value hazard := (s.wrotePr_setPr2 ..).congr (s.setPr2_bit _ _ _ _ _ _ (h hazard).1 (h hazard).2)

/-- A compare with predicate 1 writes its targets as its type says (R325). -/
theorem State.cmpWrite_written (s : State) (ct : CmpType) (p1 p2 : PredIdx) (nat rel : Bool) :
    CmpWritten s (s.cmpWrite .cmp ct p1 p2 nat rel) ct p1 p2 (cmpWrites ct nat rel) := by
  have both (v1 v2 c1 c2) (h : noPrHazard s ct → s.prHazard c1 = 0 ∧ s.prHazard c2 = 0) :=
    CmpWritten.both s (ct := ct) p1 p2 v1 v2 (c1 := c1) (c2 := c2) h
  cases ct with
  | norm | unc =>
    cases nat
    · exact both rel (!rel) .cmp .cmp fun h => ⟨h, h⟩
    · exact both false false .cmp .cmp fun h => ⟨h, h⟩
  | pand =>
    unfold State.cmpWrite cmpWrites
    dsimp only
    split
    · exact both false false .pand .pand fun h => ⟨h, h⟩
    · exact .none s .pand p1 p2
  | por =>
    unfold State.cmpWrite cmpWrites
    dsimp only
    split
    · exact both true true .por .por fun h => ⟨h, h⟩
    · exact .none s .por p1 p2
  | orAndcm =>
    unfold State.cmpWrite cmpWrites
    dsimp only
    split
    · exact both true false .por .pand fun h => h
    · exact .none s .orAndcm p1 p2

/-! ### What `compare` does -/

section

variable {s : State} {c : PrClass} {qp p1 p2 : PredIdx} {ct : CmpType} {body : Except Exc (State × Bool × Bool)}

theorem compare_true {b : State × Bool × Bool} (hq : s.pred qp = true) (hp : p1 ≠ p2) (hb : body = .ok b) :
    compare s c qp ct p1 p2 body = .next (retire s { s := b.1.cmpWrite c ct p1 p2 b.2.1 b.2.2 }) := by
  have allowed : cmpTargetsOk ct (s.pred qp) p1 p2 = true := by cases ct <;> simp [cmpTargetsOk, hp]
  unfold compare
  rw [allowed, hq, hb]
  rfl

theorem compare_squashed (hq : s.pred qp = false) (hp : ct = .unc → p1 ≠ p2) :
    compare s c qp ct p1 p2 body = .next (retire s { s := (s.cmpSquash c ct p1 p2).emit .squashed }) := by
  have allowed : cmpTargetsOk ct (s.pred qp) p1 p2 = true := by
    cases ct with
    | unc => simpa [cmpTargetsOk] using hp rfl
    | norm | pand | por | orAndcm => simp [cmpTargetsOk, hq]
  unfold compare
  rw [allowed, hq]
  rfl

theorem compare_illegal (hp : p1 = p2) (h : ct = .unc ∨ s.pred qp = true) :
    compare s c qp ct p1 p2 body = finish s (.error illegalOp) := by
  have refused : cmpTargetsOk ct (s.pred qp) p1 p2 = false := by
    rcases h with rfl | h
    · simp [cmpTargetsOk, hp]
    · cases ct <;> simp [cmpTargetsOk, hp, h]
  unfold compare
  rw [refused]
  rfl

end

end Sys2Proof.Machine

namespace Sys2Proof.Forms

open Sys2Proof.Machine

/-! ### Forms and the compares they run -/

/-- The instruction of a form runs `compare`, on a body that reads the sources and gives the NaT condition and the relation. -/
def CmpForm.Runs (i : Instr) (f : CmpForm) : Prop :=
  ∀ s, ∃ body, exec i s = compare s .cmp f.qp f.ct f.p1 f.p2 body ∧
    (s.grVisible f.a = true → s.grVisible f.b = true →
      ∃ rel, body = .ok (s, f.nat (s.gr f.a) (s.gr f.b), rel) ∧ (rel = true ↔ f.rel (s.gr f.a) (s.gr f.b)))

theorem CmpForm.Runs.correct {i : Instr} {f : CmpForm} (h : CmpForm.Runs i f) : f.Correct i := by
  intro s hq ha hb hp rel hrel
  obtain ⟨body, hexec, hbody⟩ := h s
  obtain ⟨rel', hok, hrel'⟩ := hbody ha hb
  obtain rfl : rel = rel' := Bool.eq_iff_iff.mpr (hrel.trans hrel'.symm)
  have written := s.cmpWrite_written f.ct f.p1 f.p2 (f.nat (s.gr f.a) (s.gr f.b)) rel
  exact ⟨_, hexec.trans (compare_true hq hp hok), written.frame, written.other, written.value⟩

theorem CmpForm.Runs.squashed {i : Instr} {f : CmpForm} (h : CmpForm.Runs i f) : f.Squashed i := by
  intro s hq
  obtain ⟨body, hexec, -⟩ := h s
  constructor
  · intro hct
    refine ⟨_, hexec.trans (compare_squashed hq fun e => absurd e hct), ?_⟩
    have kept : s.cmpSquash .cmp f.ct f.p1 f.p2 = s := by
      cases e : f.ct with
      | unc => exact absurd e hct
      | norm | pand | por | orAndcm => rfl
    rw [kept]
    rfl
  · intro hct hp
    refine ⟨_, hexec.trans (compare_squashed hq fun _ => hp), fun hazard => ?_⟩
    rw [hct]
    have cleared := (CmpWritten.both s (ct := .unc) f.p1 f.p2 false false (c1 := .cmp) (c2 := .cmp) fun h => ⟨h, h⟩).value hazard
    obtain ⟨value, cur, frame, mem⟩ := cleared
    exact ⟨value, cur, congrArg (State.emit · .squashed) frame, mem⟩

theorem CmpForm.Runs.illegal {i : Instr} {f : CmpForm} (h : CmpForm.Runs i f) : f.Illegal i := by
  intro s hp hq
  obtain ⟨body, hexec, -⟩ := h s
  rw [hexec, compare_illegal hp hq]
  exact takes_illegalOp s

section

variable {i : Instr} {qp p1 p2 : PredIdx} {r2 r3 : GrIdx} {ct : CmpType} {rel : CmpRel} {w : Nat}

theorem CmpForm.Runs.regs {R : GReg → GReg → Prop} (runs : ∀ s, exec i s = cmpRegs w s qp rel ct p1 p2 r2 r3)
    (meaning : ∀ x y : GReg, rel.Says (x.val.setWidth w) (y.val.setWidth w) ↔ R x y) :
    CmpForm.Runs i { qp, ct, p1, p2, a := r2, b := r3, rel := R } := by
  refine fun s => ⟨_, runs s, fun ha hb => ⟨_, ?_, (rel.holds_iff _ _).trans (meaning _ _)⟩⟩
  rw [State.readGr_ok ha, State.readGr_ok hb]
  rfl

/-- A compare of one register: its NaT bit is the NaT condition. -/
theorem CmpForm.Runs.single {R : GReg → GReg → Prop} {holds : GReg → Bool}
    (runs : ∀ s, exec i s = compare s .cmp qp ct p1 p2 ((s.readGr r3).map fun b => (s, b.nat, holds b)))
    (meaning : ∀ x y : GReg, holds x = true ↔ R x y) : CmpForm.Runs i { qp, ct, p1, p2, a := r3, rel := R } := by
  refine fun s => ⟨_, runs s, fun ha _ => ⟨_, ?_, meaning _ _⟩⟩
  have joined : ((s.gr r3).nat || (s.gr 0).nat) = (s.gr r3).nat := Bool.or_false _
  rw [State.readGr_ok ha]
  exact congrArg (fun n => Except.ok (s, n, holds (s.gr r3))) joined.symm

theorem CmpForm.Runs.imm {R : GReg → GReg → Prop} {imm8 : BitVec 8} (runs : ∀ s, exec i s = cmpImm w s qp rel ct p1 p2 imm8 r3)
    (meaning : ∀ x y : GReg, rel.Says (imm8.signExtend w) (x.val.setWidth w) ↔ R x y) :
    CmpForm.Runs i { qp, ct, p1, p2, a := r3, rel := R } :=
  .single runs fun x y => (rel.holds_iff _ _).trans (meaning x y)

theorem CmpForm.Runs.zero {R : GReg → GReg → Prop} (runs : ∀ s, exec i s = cmpZero w s qp rel ct p1 p2 r3)
    (meaning : ∀ x y : GReg, rel.Says (0#w) (x.val.setWidth w) ↔ R x y) : CmpForm.Runs i { qp, ct, p1, p2, a := r3, rel := R } :=
  .single runs fun x y => (rel.holds_iff _ _).trans (meaning x y)

theorem CmpForm.Runs.bit {nz : Bool} {pos6 : BitVec 6} (runs : ∀ s, exec i s = testBit s qp nz ct p1 p2 r3 pos6) :
    CmpForm.Runs i { qp, ct, p1, p2, a := r3, rel := fun x _ => x.val.getLsbD pos6.toNat = nz } :=
  .single runs fun _ _ => beq_iff_eq

/-- A test of the NaT bit itself has no NaT condition (R353). -/
theorem CmpForm.Runs.natBit {nz : Bool} (runs : ∀ s, exec i s = testNat s qp nz ct p1 p2 r3) :
    CmpForm.Runs i { qp, ct, p1, p2, a := r3, rel := fun x _ => x.nat = nz, nat := fun _ _ => false } := by
  refine fun s => ⟨_, runs s, fun ha _ => ⟨_, ?_, beq_iff_eq⟩⟩
  rw [State.readGr_ok ha]
  rfl

end

/-- Each compare, bit test and NaT test runs `compare` on the relation of its form. -/
theorem cmpForm_runs {i : Instr} {f : CmpForm} (h : cmpForm i = some f) : CmpForm.Runs i f := by
  cases i with
  | cmpLtP1P2R2R3 | cmpLtUncP1P2R2R3 | cmpLtuP1P2R2R3 | cmpLtuUncP1P2R2R3 | cmpEqP1P2R2R3 | cmpEqUncP1P2R2R3 |
    cmpEqAndP1P2R2R3 | cmpNeAndP1P2R2R3 | cmpEqOrP1P2R2R3 | cmpNeOrP1P2R2R3 | cmpEqOrAndcmP1P2R2R3 | cmpNeOrAndcmP1P2R2R3 |
    cmp4LtP1P2R2R3 | cmp4LtUncP1P2R2R3 | cmp4LtuP1P2R2R3 | cmp4LtuUncP1P2R2R3 | cmp4EqP1P2R2R3 | cmp4EqUncP1P2R2R3 |
    cmp4EqAndP1P2R2R3 | cmp4NeAndP1P2R2R3 | cmp4EqOrP1P2R2R3 | cmp4NeOrP1P2R2R3 | cmp4EqOrAndcmP1P2R2R3 |
    cmp4NeOrAndcmP1P2R2R3 => cases h; exact .regs (fun _ => rfl) fun _ _ => .rfl
  | cmpLtP1P2Imm8R3 | cmpLtUncP1P2Imm8R3 | cmpLtuP1P2Imm8R3 | cmpLtuUncP1P2Imm8R3 | cmpEqP1P2Imm8R3 | cmpEqUncP1P2Imm8R3 |
    cmpEqAndP1P2Imm8R3 | cmpNeAndP1P2Imm8R3 | cmpEqOrP1P2Imm8R3 | cmpNeOrP1P2Imm8R3 | cmpEqOrAndcmP1P2Imm8R3 |
    cmpNeOrAndcmP1P2Imm8R3 | cmp4LtP1P2Imm8R3 | cmp4LtUncP1P2Imm8R3 | cmp4LtuP1P2Imm8R3 | cmp4LtuUncP1P2Imm8R3 |
    cmp4EqP1P2Imm8R3 | cmp4EqUncP1P2Imm8R3 | cmp4EqAndP1P2Imm8R3 | cmp4NeAndP1P2Imm8R3 | cmp4EqOrP1P2Imm8R3 |
    cmp4NeOrP1P2Imm8R3 | cmp4EqOrAndcmP1P2Imm8R3 | cmp4NeOrAndcmP1P2Imm8R3 =>
    cases h; exact .imm (fun _ => rfl) fun _ _ => .rfl
  | cmpGtAndP1P2R0R3 | cmpLeAndP1P2R0R3 | cmpGeAndP1P2R0R3 | cmpLtAndP1P2R0R3 | cmpGtOrP1P2R0R3 | cmpLeOrP1P2R0R3 |
    cmpGeOrP1P2R0R3 | cmpLtOrP1P2R0R3 | cmpGtOrAndcmP1P2R0R3 | cmpLeOrAndcmP1P2R0R3 | cmpGeOrAndcmP1P2R0R3 |
    cmpLtOrAndcmP1P2R0R3 | cmp4GtAndP1P2R0R3 | cmp4LeAndP1P2R0R3 | cmp4GeAndP1P2R0R3 | cmp4LtAndP1P2R0R3 |
    cmp4GtOrP1P2R0R3 | cmp4LeOrP1P2R0R3 | cmp4GeOrP1P2R0R3 | cmp4LtOrP1P2R0R3 | cmp4GtOrAndcmP1P2R0R3 |
    cmp4LeOrAndcmP1P2R0R3 | cmp4GeOrAndcmP1P2R0R3 | cmp4LtOrAndcmP1P2R0R3 =>
    cases h; exact .zero (fun _ => rfl) fun _ _ => .rfl
  | tbitZP1P2R3Pos6 | tbitZUncP1P2R3Pos6 | tbitZAndP1P2R3Pos6 | tbitNzAndP1P2R3Pos6 | tbitZOrP1P2R3Pos6 | tbitNzOrP1P2R3Pos6 |
    tbitZOrAndcmP1P2R3Pos6 | tbitNzOrAndcmP1P2R3Pos6 | tbitNzP1P2R3Pos6 | tbitNzUncP1P2R3Pos6 => cases h; exact .bit fun _ => rfl
  | tnatZP1P2R3 | tnatZUncP1P2R3 | tnatZAndP1P2R3 | tnatNzAndP1P2R3 | tnatZOrP1P2R3 | tnatNzOrP1P2R3 | tnatZOrAndcmP1P2R3 |
    tnatNzOrAndcmP1P2R3 | tnatNzP1P2R3 | tnatNzUncP1P2R3 => cases h; exact .natBit fun _ => rfl
  | _ => cases h

end Sys2Proof.Forms

section

open Sys2Proof Machine Forms

/-- Settles O26: each instruction runs `compare` on the relation of its form, and `compare` writes as the type says. -/
theorem compareResultsAndGuards : Obligations.CompareResultsAndGuards := by
  unfold Obligations.CompareResultsAndGuards
  exact ⟨fun _ _ h => (cmpForm_runs h).correct, fun _ _ h => ⟨(cmpForm_runs h).squashed, (cmpForm_runs h).illegal⟩⟩

end

end

section
/-! SUPPORT. How an instruction can stop: each operation that a computation of an instruction is built from fails with an interruption, or with
the machine check of several matching translations, and with nothing else (R159, R595). -/

namespace Sys2Proof.Machine

/-- A computation fails with an interruption, with the machine check of several matching translations, or so that the instruction ends in
`x`. -/
def StopsOnlyBy {α : Type} (x : Option (Host.Outcome State Fault Refusal)) (b : Except Exc α) : Prop :=
  ∀ e, b = .error e → (∃ i, e = .intr i) ∨ e = .fault .machineCheckMultipleHit ∨ ∀ s, x = some (finish s (.error e))

section Combinators

variable {α β : Type} {x : Option (Host.Outcome State Fault Refusal)}

theorem StopsOnlyBy.ok {a : α} : StopsOnlyBy x (.ok a) := by
  intro _ h
  cases h

theorem StopsOnlyBy.intr {i : Intr} : StopsOnlyBy x (.error (.intr i) : Except Exc α) := by
  rintro _ ⟨⟩
  exact .inl ⟨i, rfl⟩

theorem StopsOnlyBy.multipleHit : StopsOnlyBy x (.error (.fault .machineCheckMultipleHit) : Except Exc α) := by
  rintro _ ⟨⟩
  exact .inr (.inl rfl)

theorem StopsOnlyBy.own {e : Exc} (h : ∀ s, x = some (finish s (.error e))) : StopsOnlyBy x (.error e : Except Exc α) := by
  rintro _ ⟨⟩
  exact .inr (.inr h)

theorem StopsOnlyBy.bind {b : Except Exc α} {f : α → Except Exc β} (hb : StopsOnlyBy x b) (hf : ∀ a, StopsOnlyBy x (f a)) :
    StopsOnlyBy x (b.bind f) := by
  cases b with
  | error e => exact fun _ h => hb _ (congrArg Except.error (Except.error.inj h))
  | ok a => exact hf a

theorem StopsOnlyBy.map {b : Except Exc α} {f : α → β} (hb : StopsOnlyBy x b) : StopsOnlyBy x (b.map f) := by
  cases b with
  | error e => exact fun _ h => hb _ (congrArg Except.error (Except.error.inj h))
  | ok a => exact .ok

theorem StopsOnlyBy.ite {c : Prop} [Decidable c] {a b : Except Exc α} (ha : StopsOnlyBy x a) (hb : StopsOnlyBy x b) :
    StopsOnlyBy x (if c then a else b) := by
  split
  · exact ha
  · exact hb

/-- A check whose failure is an interruption. -/
theorem StopsOnlyBy.require {c : Bool} {i : Intr} : StopsOnlyBy x (Machine.require c (.intr i)) := .ite .ok .intr

/-- A branch that faults is noted for the trace buffer, and no more. -/
theorem StopsOnlyBy.ofBranch {b : Except Exc α} {k : Nat} (hb : StopsOnlyBy none b) : StopsOnlyBy x (b.mapError (Exc.ofBranch k)) := by
  cases b with
  | ok a => exact .ok
  | error e =>
    rcases hb e rfl with ⟨i, rfl⟩ | rfl | h
    · exact .intr
    · exact .multipleHit
    · cases h State.reset

end Combinators

section Operations

variable {x : Option (Host.Outcome State Fault Refusal)} (s : State)

/-! ### Operands -/

theorem State.readGr_stops (r : GrIdx) : StopsOnlyBy x (s.readGr r) := .ite .ok .intr

theorem State.sourceGr_stops (r : GrIdx) : StopsOnlyBy x (s.sourceGr r) := .require

theorem State.consumeGr_stops (r : GrIdx) : StopsOnlyBy x (s.consumeGr r) := .bind (s.readGr_stops r) fun _ => .ite .intr .ok

theorem State.consumeNa_stops (r : GrIdx) : StopsOnlyBy x (s.consumeNa r) := .bind (s.readGr_stops r) fun _ => .ite .intr .ok

theorem State.updateReadable_stops (u : BaseUpdate) : StopsOnlyBy x (s.updateReadable u) := by
  cases u with
  | none | imm v => exact .ok
  | reg r2 => exact .require

theorem State.privileged_stops : StopsOnlyBy x s.privileged := .require

theorem State.fpEnabled_stops (l : List FrIdx) : StopsOnlyBy x (s.fpEnabled l) := .ite .ok .intr

theorem State.fpMemOk_stops (r3 : GrIdx) (u : BaseUpdate) (l : List FrIdx) : StopsOnlyBy x (s.fpMemOk r3 u l) :=
  .bind (s.sourceGr_stops r3) fun _ => .bind (s.updateReadable_stops u) fun _ => s.fpEnabled_stops l

/-! ### Accesses -/

/-- A translation fault is an interruption but where several translations match (R159, R595). -/
theorem State.raise_stops {α : Type} (acc : Acc) (f : TransFault) : StopsOnlyBy x (.error (s.raise acc f) : Except Exc α) := by
  cases f with
  | multipleHit => exact .multipleHit
  | _ => exact .intr

theorem State.access_stops (acc : Acc) : StopsOnlyBy x (s.access acc) := by
  unfold State.access
  split
  · exact .ok
  · exact s.raise_stops acc _

theorem State.accessSpec_stops (acc : Acc) : StopsOnlyBy x (s.accessSpec acc) := by
  unfold State.accessSpec
  split
  · exact .ok
  · exact .ite .ok (s.raise_stops acc _)

theorem State.findEntry_stops (acc : Acc) : StopsOnlyBy x (s.findEntry acc) := by
  unfold State.findEntry
  split
  · exact .ok
  · exact s.raise_stops acc _
  · exact s.raise_stops acc _

theorem State.loadBody_stops (r3 : GrIdx) (u : BaseUpdate) (n : Nat) (cls : AccClass) (k : LoadKind) (reg : AlatReg)
    (deliver : State → Option Nat → State) : StopsOnlyBy x (s.loadBody r3 u n cls k reg deliver) := by
  refine .bind (s.readGr_stops r3) fun base => .bind (s.updateReadable_stops u) fun _ => .ite .ok (.ite (.ite .ok .intr) ?_)
  refine .bind (.ite (s.accessSpec_stops _) (.map (s.access_stops _))) fun p => ?_
  split <;> exact .ok

theorem State.storeBody_stops (r3 : GrIdx) (u : BaseUpdate) (cls : AccClass) (rel dataNat : Bool) (bs : List Byte)
    (after : State → State) : StopsOnlyBy x (s.storeBody r3 u cls rel dataNat bs after) :=
  .bind (s.readGr_stops r3) fun _ => .ite .intr (.bind (s.access_stops _) fun _ => .ok)

theorem State.semBody_stops (r1 r3 : GrIdx) (n : Nat) (rel dataNat : Bool) (new : Nat → Option Nat) :
    StopsOnlyBy x (s.semBody r1 r3 n rel dataNat new) :=
  .bind (s.readGr_stops r3) fun _ => .ite .intr (.bind (s.access_stops _) fun _ => .ok)

/-! ### The register stack engine -/

theorem State.rseStore_stops (va v : Word) : StopsOnlyBy x (s.rseStore va v) := .map (s.access_stops _)

theorem State.rseLoad_stops (va : Word) (ir : Bool) : StopsOnlyBy x (s.rseLoad va ir) := .map (s.access_stops _)

theorem State.spillRnat_stops : StopsOnlyBy x s.spillRnat := .ite (.map (s.rseStore_stops _ _)) .ok

theorem State.spillOne_stops : StopsOnlyBy x s.spillOne :=
  .bind s.spillRnat_stops fun t => .bind (t.rseStore_stops _ _) fun _ => State.spillRnat_stops _

theorem State.spill_stops (k : Nat) : StopsOnlyBy x (s.spill k) := by
  induction k generalizing s with
  | zero => exact .ok
  | succ k ih => exact .bind s.spillOne_stops fun t => ih t

theorem State.fillOne_stops (ir : Bool) : StopsOnlyBy x (s.fillOne ir) :=
  .bind (.ite (.map (s.rseLoad_stops _ _)) .ok) fun t => .ite .ok (.map (t.rseLoad_stops _ _))

theorem State.fill_stops (ir : Bool) (k : Nat) : StopsOnlyBy x (s.fill ir k) := by
  induction k generalizing s with
  | zero => exact .ok
  | succ k ih => exact .bind (s.fillOne_stops ir) fun t => ih t

theorem State.growFrame_stops (base sof : Nat) : StopsOnlyBy x (s.growFrame base sof) := .map (s.spill_stops _)

theorem State.popFrame_stops (c : BitVec 38) (n : Nat) : StopsOnlyBy x (s.popFrame c n) := .ite .ok (.map (s.fill_stops true _))

theorem State.spillAll_stops : StopsOnlyBy x s.spillAll := .bind (s.spill_stops _) fun t => .ite .ok t.spillRnat_stops

theorem State.loadSlots_stops (k : Nat) : StopsOnlyBy x (s.loadSlots k) := by
  induction k generalizing s with
  | zero => exact .ok
  | succ k ih => exact .bind (.map (s.rseLoad_stops _ _)) fun t => ih t

/-! ### Moves, inserts, checks and floating-point arithmetic -/

theorem State.moveToAr_stops (iUnit : Bool) (n : BitVec 7) {source : Except Exc Unit} {value : Except Exc Word}
    (hs : StopsOnlyBy x source) (hv : StopsOnlyBy x value) : StopsOnlyBy x (s.moveToAr iUnit n source value) :=
  .bind .require fun _ => .bind hs fun _ => .bind .require fun _ => .bind hv fun _ => .bind .require fun _ => .ok

theorem State.moveFromAr_stops (iUnit : Bool) (n : BitVec 7) : StopsOnlyBy x (s.moveFromAr iUnit n) :=
  .bind .require fun _ => .bind .require fun _ => .ok

theorem State.crOk_stops (n : BitVec 7) (write : Bool) : StopsOnlyBy x (s.crOk n write) := by
  unfold State.crOk
  split
  · exact .intr
  · exact .ite .intr .ok

theorem State.insertChecks_stops (ic : Bool) (r2 : GrIdx) {source : Except Exc Unit} {slot : Except Exc Nat}
    (hs : StopsOnlyBy x source) (hi : StopsOnlyBy x slot) : StopsOnlyBy x (s.insertChecks ic r2 source slot) := by
  refine .bind .require fun _ => .bind hs fun _ => .bind (s.sourceGr_stops r2) fun _ => .bind s.privileged_stops fun _ =>
    .bind hi fun i => .bind (s.consumeNa_stops r2) fun v => ?_
  split
  · exact .intr
  · exact .ite .ok .intr

theorem State.probeOperand_stops (r2 : GrIdx) : StopsOnlyBy x (s.probeOperand r2) := .bind (s.readGr_stops r2) fun _ => .ite .intr .ok

theorem State.checkFail_stops (t : State) (e : PmuEvent) (imm21 : BitVec 21) : StopsOnlyBy x (s.checkFail t e imm21) :=
  .ite .ok .intr

theorem State.chkA_stops (reg : AlatReg) (clr : Bool) (imm21 : BitVec 21) : StopsOnlyBy x (s.chkA reg clr imm21) :=
  .ite .ok (s.checkFail_stops _ _ _)

theorem State.fpComplete_stops (sf : BitVec 2) (trap : BitVec 6) (r : FpResult) (write : State → State) :
    StopsOnlyBy x (s.fpComplete sf trap r write) := .ite .intr .ok

end Operations

end Sys2Proof.Machine

end

section
/-! SUPPORT. The rules that hold of all instructions alike: what `run` and its kin make of targets that may not be written, of a predicate
that is 0, and of a computation that fails (R330). `Obeys` states the three together, and `exec_obeys` has them of every instruction. -/

namespace Sys2Proof.Forms

open Sys2Proof.Machine

/-! ### Target checks -/

/-- `Targets.Ok`, as it is computed. -/
def Targets.ok (s : State) (t : Targets) : Bool := t.gr.all s.grTargetOk && t.fr.all frTargetOk && !t.clash

theorem Targets.ok_iff (s : State) (t : Targets) : t.ok s = true ↔ t.Ok s := by
  simp [Targets.ok, Targets.Ok, and_assoc]

/-- The computation `c` checks the targets `t` and nothing else (R330 step 2). -/
def TargetCheck (s : State) (t : Targets) (c : Except Exc Unit) : Prop := c = require (t.ok s) illegalOp

theorem require_bind (a b : Bool) (e : Exc) : ((require a e).bind fun _ => require b e) = require (a && b) e := by
  cases a <;> rfl

section Targets

variable {s : State}

theorem TargetCheck.none : TargetCheck s {} (.ok ()) := rfl

theorem TargetCheck.gr {r1 : GrIdx} : TargetCheck s { gr := [r1] } (s.targetGr r1) := by simp [TargetCheck, Targets.ok, State.targetGr]

theorem TargetCheck.fr {f1 : FrIdx} : TargetCheck s { fr := [f1] } (targetFr f1) := by simp [TargetCheck, Targets.ok, targetFr]

/-- The targets of a load: what it loads, and an updated base, which an integer load does not load too (R330, R396, R425). -/
def loadTargets (d : LoadDst) (r3 : GrIdx) (u : BaseUpdate) : Targets :=
  match d, u.updates with
  | .gr r1, false => { gr := [r1] }
  | .gr r1, true => { gr := [r1, r3], clash := r1 == r3 }
  | .fr f1 _, false => { fr := [f1] }
  | .fr f1 _, true => { gr := [r3], fr := [f1] }
  | .pair f1 f2 _, false => { fr := [f1, f2], clash := f1.toNat % 2 == f2.toNat % 2 }
  | .pair f1 f2 _, true => { gr := [r3], fr := [f1, f2], clash := f1.toNat % 2 == f2.toNat % 2 }

/-- The check of an updated base. -/
theorem baseTarget_eq (r3 : GrIdx) (u : BaseUpdate) :
    s.baseTarget r3 u = require (!u.updates || s.grTargetOk r3) illegalOp := by
  unfold State.baseTarget State.targetGr
  cases u.updates <;> rfl

theorem TargetCheck.load (r1 r3 : GrIdx) {u : BaseUpdate} :
    TargetCheck s (loadTargets (.gr r1) r3 u) (s.loadTargets r1 r3 u) := by
  unfold TargetCheck State.loadTargets State.targetGr
  rw [baseTarget_eq, require_bind, require_bind]
  congr 1
  cases hu : u.updates <;> simp [loadTargets, hu, Targets.ok, Bool.and_assoc]

theorem TargetCheck.fpLoad (f1 : FrIdx) (fmt : FpFormat) (r3 : GrIdx) {u : BaseUpdate} :
    TargetCheck s (loadTargets (.fr f1 fmt) r3 u) ((targetFr f1).bind fun _ => s.baseTarget r3 u) := by
  unfold TargetCheck targetFr
  rw [baseTarget_eq, require_bind]
  congr 1
  cases hu : u.updates <;> simp [loadTargets, hu, Targets.ok, Bool.and_comm]

/-- One odd and one even register (R396). -/
theorem pairOk_eq (f1 f2 : FrIdx) : pairOk f1 f2 = !(f1.toNat % 2 == f2.toNat % 2) := by
  unfold pairOk
  rw [getLsbD_zero_eq, getLsbD_zero_eq]
  rcases Nat.mod_two_eq_zero_or_one f1.toNat with h | h <;> rcases Nat.mod_two_eq_zero_or_one f2.toNat with h' | h' <;> simp [h, h']

theorem TargetCheck.pair (f1 f2 : FrIdx) (fmt : FpFormat) (r3 : GrIdx) {u : BaseUpdate} :
    TargetCheck s (loadTargets (.pair f1 f2 fmt) r3 u)
      ((targetFr f1).bind fun _ => (targetFr f2).bind fun _ => (require (pairOk f1 f2) illegalOp).bind fun _ => s.baseTarget r3 u) := by
  unfold TargetCheck targetFr
  rw [baseTarget_eq, pairOk_eq, require_bind, require_bind, require_bind]
  congr 1
  cases hu : u.updates <;> simp [loadTargets, hu, Targets.ok, Bool.and_assoc, Bool.and_comm, Bool.and_left_comm]

end Targets

/-! ### What holds of every instruction -/

/-- What the rules that hold of all instructions say of an outcome `o` in the state `s`: with a target of `t` that may not be written it is an
Illegal Operation, taken on the state `f`; with the predicate `g` at 0 it leaves nothing but events; and it is a next state, the machine
check of several matching translations, or `x`. -/
structure Obeys (s f : State) (t : Targets) (g : Option PredIdx) (long : Bool) (x : Option (Host.Outcome State Fault Refusal))
    (o : Host.Outcome State Fault Refusal) : Prop where
  illegal : t.ok s = false → o = .next (f.takeInterruption { vec := .generalException } s.ri)
  squashed : ∀ qp, g = some qp → s.pred qp = false → t.ok s = true →
    ∃ u, o = .next (retire s { s := u, long }) ∧ s.OnlyEvents u
  stops : Completes o ∨ o = .fault .machineCheckMultipleHit ∨ x = some o

/-- How a computation ends an instruction, when it fails only as is said of it. -/
theorem finish_stops {x : Option (Host.Outcome State Fault Refusal)} {b : Except Exc Res} (h : StopsOnlyBy x b) (s : State) :
    Completes (finish s b) ∨ finish s b = .fault .machineCheckMultipleHit ∨ x = some (finish s b) := by
  cases b with
  | ok r => exact .inl ⟨_, rfl⟩
  | error e =>
    rcases h e rfl with ⟨i, rfl⟩ | rfl | h
    · exact .inl ⟨_, rfl⟩
    · exact .inr (.inl rfl)
    · exact .inr (.inr (h s))

section Obeys

variable {s f : State} {t : Targets} {long : Bool} {x : Option (Host.Outcome State Fault Refusal)} {qp p1 p2 : PredIdx}
  {c : Except Exc Unit} {b : Except Exc Res}

/-- An instruction without a target of its own and without a predicate that it does nothing without. -/
theorem Obeys.ends (hb : StopsOnlyBy x b) : Obeys s f {} none long x (finish s b) where
  illegal h := by cases h
  squashed _ h := by cases h
  stops := finish_stops hb s

theorem TargetCheck.stops (hc : TargetCheck s t c) : StopsOnlyBy x c := hc ▸ .require

theorem TargetCheck.bad (hc : TargetCheck s t c) (ht : t.ok s = false) : c = .error illegalOp := by
  rw [hc, ht]; rfl

theorem TargetCheck.good (hc : TargetCheck s t c) (ht : t.ok s = true) : c = .ok () := by
  rw [hc, ht]; rfl

/-- An instruction that checks its targets and then acts whatever its predicate. -/
theorem Obeys.unguarded (hc : TargetCheck s t c) (hb : StopsOnlyBy x b) : Obeys s s t none long x (finish s (c.bind fun _ => b)) where
  illegal ht := by rw [hc.bad ht]; rfl
  squashed _ h := by cases h
  stops := finish_stops (.bind hc.stops fun _ => hb) s

theorem Obeys.run (hc : TargetCheck s t c) (hb : StopsOnlyBy x b) : Obeys s s t (some qp) false x (run s qp c b) where
  illegal ht := run_bad (hc.bad ht)
  squashed qp' h hq ht := by
    cases h
    exact ⟨_, run_false (hc.good ht) hq, rfl⟩
  stops := finish_stops (.bind hc.stops fun _ => .ite hb .ok) s

theorem Obeys.runLong (hc : TargetCheck s t c) (hb : StopsOnlyBy x b) : Obeys s s t (some qp) true x (runLong s qp c b) where
  illegal ht := by unfold Machine.runLong; rw [hc.bad ht]; rfl
  squashed qp' h hq ht := by
    cases h
    refine ⟨s.emit .squashed, ?_, rfl⟩
    unfold Machine.runLong
    rw [hc.good ht, hq]
    rfl
  stops := finish_stops (.map (.bind hc.stops fun _ => .ite hb .ok)) s

section Compare

variable {k : PrClass} {ct : CmpType} {body : Except Exc (State × Bool × Bool)}

theorem compare_stops (hb : StopsOnlyBy x body) : Completes (compare s k qp ct p1 p2 body) ∨
    compare s k qp ct p1 p2 body = .fault .machineCheckMultipleHit ∨ x = some (compare s k qp ct p1 p2 body) :=
  finish_stops (.bind .require fun _ => .ite (.map hb) .ok) s

/-- What a compare does nothing without: its predicate, but for the `unc` type (R325). -/
def cmpGuard (ct : CmpType) (qp : PredIdx) : Option PredIdx := if ct = .unc then none else some qp

theorem Obeys.compare {g : Option PredIdx} (hg : g = cmpGuard ct qp) (hb : StopsOnlyBy x body) :
    Obeys s f {} g false x (compare s k qp ct p1 p2 body) where
  illegal h := by cases h
  squashed qp' h hq _ := by
    subst hg
    unfold cmpGuard at h
    split at h
    · cases h
    · next hct =>
      cases h
      refine ⟨_, compare_squashed hq fun e => absurd e hct, ?_⟩
      cases ct with
      | unc => exact absurd rfl hct
      | norm | pand | por | orAndcm => rfl
  stops := compare_stops hb

end Compare

/-- A load: an advanced one that faults leaves no entry of its register (R98). -/
theorem Obeys.load {k : LoadKind} {reg : AlatReg} (hc : TargetCheck s t c) (hb : StopsOnlyBy x b) :
    Obeys s (if k.advanced && s.pred qp then s.alatRemove reg else s) t (some qp) false x (s.runLoad qp k reg c b) where
  illegal ht := by
    unfold State.runLoad
    rw [run_bad (hc.bad ht)]
    split <;> rfl
  squashed qp' h hq ht := by
    cases h
    refine ⟨s.emit .squashed, ?_, rfl⟩
    unfold State.runLoad
    rw [hq, Bool.and_false]
    exact run_false (hc.good ht) hq
  stops := finish_stops (.bind hc.stops fun _ => .ite hb .ok) _

end Obeys

/-! ### Loads by their form -/

theorem faultState_eq {i : Instr} {f : LoadForm} (h : loadForm i = some f) (s : State) :
    faultState i s = if f.k.advanced && s.pred f.qp then s.alatRemove (f.dst.alat s) else s := by
  simp only [faultState, h, Bool.and_eq_true] <;> rfl

theorem loadForm_is {i : Instr} {f : LoadForm} (h : loadForm i = some f) : f.Is i := by
  unfold loadForm at h
  cases hi : intLoadForm i with
  | some g => rw [hi] at h; cases h; exact intLoadForm_is hi
  | none =>
    cases hf : fpLoadForm i with
    | some g => rw [hi, hf] at h; cases h; exact fpLoadForm_is hf
    | none => rw [hi, hf] at h; exact fpPairForm_is h

theorem LoadForm.obeys {i : Instr} {f : LoadForm} {s : State} {x : Option (Host.Outcome State Fault Refusal)}
    (hi : loadForm i = some f) (ht : targetsOf i = loadTargets f.dst f.r3 f.u) (hg : guardOf i = some f.qp)
    (hl : isLong i = false) : Obeys s (faultState i s) (targetsOf i) (guardOf i) (isLong i) x (exec i s) := by
  rw [faultState_eq hi, ht, hg, hl, (loadForm_is hi).1 s]
  obtain ⟨qp, dst, r3, u, n, k⟩ := f
  cases dst with
  | gr r1 => exact .load (.load r1 r3) (s.loadBody_stops _ _ _ _ _ _ _)
  | fr f1 fmt => exact .load (.fpLoad f1 fmt r3) (.bind (s.fpMemOk_stops _ _ _) fun _ => s.loadBody_stops _ _ _ _ _ _ _)
  | pair f1 f2 fmt => exact .load (.pair f1 f2 fmt r3) (.bind (s.fpMemOk_stops _ _ _) fun _ => s.loadBody_stops _ _ _ _ _ _ _)

/-- The codes of `mux1` that name a permutation are those of R342. -/
theorem mux1Perm_isSome (c : BitVec 4) : (mux1Perm c).isSome = (mux1Table.lookup c.toNat).isSome := by
  revert c
  decide

/-! ### The shared operations -/

section Operations

variable {x : Option (Host.Outcome State Fault Refusal)} (s : State) {f : State} {long : Bool}

/-- `mux1` with a reserved code is an Illegal Operation whatever its predicate (R342). -/
theorem mux1_obeys {qp : PredIdx} {r1 r2 : GrIdx} {c : BitVec 4} :
    Obeys s s { gr := [r1] } (if (mux1Table.lookup c.toNat).isSome then some qp else none) false x (mux1 s qp r1 r2 c) := by
  rw [← mux1Perm_isSome]
  unfold mux1
  cases mux1Perm c with
  | none => exact ⟨fun _ => rfl, nofun, .inl ⟨_, rfl⟩⟩
  | some perm => exact .run .gr (.bind (s.readGr_stops _) fun _ => .ok)

theorem probeFault_obeys {qp : PredIdx} {r3 : GrIdx} {r w : Bool} {pl : BitVec 2} :
    Obeys s s {} (some qp) false x (probeFault s qp r3 r w pl) := by
  refine .run .none (.bind (s.readGr_stops _) fun _ => .ite .intr ?_)
  split
  · exact .ok
  · exact s.raise_stops _ _

theorem takInstr_obeys {qp : PredIdx} {r1 r3 : GrIdx} : Obeys s s { gr := [r1] } (some qp) false x (takInstr s qp r1 r3) := by
  refine .run .gr (.bind (s.readGr_stops _) fun _ => .bind s.privileged_stops fun _ => .ite .intr (.map ?_))
  split
  · exact .ok
  · exact .ok
  · exact .multipleHit

theorem grOp2_obeys {qp : PredIdx} {r1 r2 r3 : GrIdx} {op : Word → Word → Word} :
    Obeys s s { gr := [r1] } (some qp) false x (grOp2 s qp r1 r2 r3 op) :=
  .run .gr (.bind (s.readGr_stops _) fun _ => .bind (s.readGr_stops _) fun _ => .ok)

theorem grOp1_obeys {qp : PredIdx} {r1 r3 : GrIdx} {op : Word → Word} :
    Obeys s s { gr := [r1] } (some qp) false x (grOp1 s qp r1 r3 op) :=
  .run .gr (.bind (s.readGr_stops _) fun _ => .ok)

section Compares

variable {g : Option PredIdx} {w : Nat} {qp p1 p2 : PredIdx} {rel : CmpRel} {ct : CmpType} {r2 r3 : GrIdx}

theorem cmpRegs_obeys (hg : g = cmpGuard ct qp) : Obeys s f {} g false x (cmpRegs w s qp rel ct p1 p2 r2 r3) :=
  .compare hg (.bind (s.readGr_stops _) fun _ => .map (s.readGr_stops _))

theorem cmpImm_obeys {imm8 : BitVec 8} (hg : g = cmpGuard ct qp) : Obeys s f {} g false x (cmpImm w s qp rel ct p1 p2 imm8 r3) :=
  .compare hg (.map (s.readGr_stops _))

theorem cmpZero_obeys (hg : g = cmpGuard ct qp) : Obeys s f {} g false x (cmpZero w s qp rel ct p1 p2 r3) :=
  .compare hg (.map (s.readGr_stops _))

theorem testBit_obeys {nz : Bool} {pos6 : BitVec 6} (hg : g = cmpGuard ct qp) :
    Obeys s f {} g false x (testBit s qp nz ct p1 p2 r3 pos6) :=
  .compare hg (.map (s.readGr_stops _))

theorem testNat_obeys {nz : Bool} (hg : g = cmpGuard ct qp) : Obeys s f {} g false x (testNat s qp nz ct p1 p2 r3) :=
  .compare hg (.map (s.readGr_stops _))

theorem fcmpBody_obeys {rel : FpRel} {sf : BitVec 2} {f2 f3 : FrIdx} (hg : g = cmpGuard ct qp) :
    Obeys s f {} g false x (fcmpBody s qp rel ct sf p1 p2 f2 f3) :=
  .compare hg (.bind (s.fpEnabled_stops _) fun _ => .ite .ok (.map (State.fpComplete_stops _ _ _ _ _)))

theorem fclassBody_obeys {f2 : FrIdx} {m : BitVec 9} (hg : g = cmpGuard ct qp) :
    Obeys s f {} g false x (fclassBody s qp ct p1 p2 f2 m) :=
  .compare hg (.map (s.fpEnabled_stops _))

end Compares

theorem fpMove_obeys {qp : PredIdx} {f1 : FrIdx} {srcs : List FrIdx} {r : FReg} :
    Obeys s s { fr := [f1] } (some qp) false x (fpMove s qp f1 srcs r) :=
  .run .fr (.bind (s.fpEnabled_stops _) fun _ => .ok)

/-- An arithmetic instruction stops with a floating-point fault only (R503, R514). -/
theorem fpArith_obeys {qp : PredIdx} {f1 : FrIdx} {srcs : List FrIdx} {sf : BitVec 2} {ops : Nat} {r : FpResult} :
    Obeys s s { fr := [f1] } (some qp) false x (fpArith s qp f1 srcs sf ops r) :=
  .run .fr (.bind (s.fpEnabled_stops _) fun _ => .ite .ok (State.fpComplete_stops _ _ _ _ _))

/-- `br.ia` stops as IA-32 execution, or takes its fault (R525, D22). -/
theorem brIa_obeys (hx : x = some (.refused .ia32Execution)) : Obeys s f {} none long x (brIa s) := by
  refine .ends ?_
  split
  · exact .intr
  · exact .own fun _ => hx

theorem finishRfi_obeys {b : Except Exc State} (hb : StopsOnlyBy x b) : Obeys s f {} none long x (finishRfi s b) where
  illegal h := by cases h
  squashed _ h := by cases h
  stops := by
    cases b with
    | error e => exact finish_stops (b := .error e) (fun e' h => hb e' (congrArg Except.error (Except.error.inj h))) s
    | ok t =>
      unfold finishRfi
      dsimp only
      split
      · exact .inl ⟨_, rfl⟩
      · exact .inl ⟨_, rfl⟩

end Operations

/-- How an instruction may stop the machine beside the machine check of several matching translations: an insert that overlaps a
translation register (R485), and IA-32 execution (R525, R556, D22). -/
def ownStop : Instr → Option (Host.Outcome State Fault Refusal)
  | .itcDR2 .. | .itcIR2 .. | .itrDDtrR3R2 .. | .itrIItrR3R2 .. => some (.fault .machineCheckOverlap)
  | .brIaBwhPhDhB2 .. | .rfi => some (.refused .ia32Execution)
  | _ => none

/-! ### Every instruction -/

/-- A load that keeps, makes or checks an ALAT entry. -/
theorem exec_obeys_of_load {i : Instr} (h : (loadForm i).isSome) (s : State) :
    Obeys s (faultState i s) (targetsOf i) (guardOf i) (isLong i) (ownStop i) (exec i s) := by
  cases i with
  | ld1R1R3 | ld1R1R3R2 | ld1R1R3Imm9 | ld2R1R3 | ld2R1R3R2 | ld2R1R3Imm9 | ld4R1R3 | ld4R1R3R2 | ld4R1R3Imm9 | ld8R1R3 |
    ld8R1R3R2 | ld8R1R3Imm9 | ld1SR1R3 | ld1SR1R3R2 | ld1SR1R3Imm9 | ld2SR1R3 | ld2SR1R3R2 | ld2SR1R3Imm9 | ld4SR1R3 |
    ld4SR1R3R2 | ld4SR1R3Imm9 | ld8SR1R3 | ld8SR1R3R2 | ld8SR1R3Imm9 | ld1AR1R3 | ld1AR1R3R2 | ld1AR1R3Imm9 | ld2AR1R3 |
    ld2AR1R3R2 | ld2AR1R3Imm9 | ld4AR1R3 | ld4AR1R3R2 | ld4AR1R3Imm9 | ld8AR1R3 | ld8AR1R3R2 | ld8AR1R3Imm9 | ld1SaR1R3 |
    ld1SaR1R3R2 | ld1SaR1R3Imm9 | ld2SaR1R3 | ld2SaR1R3R2 | ld2SaR1R3Imm9 | ld4SaR1R3 | ld4SaR1R3R2 | ld4SaR1R3Imm9 |
    ld8SaR1R3 | ld8SaR1R3R2 | ld8SaR1R3Imm9 | ld1BiasR1R3 | ld1BiasR1R3R2 | ld1BiasR1R3Imm9 | ld2BiasR1R3 | ld2BiasR1R3R2
    | ld2BiasR1R3Imm9 | ld4BiasR1R3 | ld4BiasR1R3R2 | ld4BiasR1R3Imm9 | ld8BiasR1R3 | ld8BiasR1R3R2 | ld8BiasR1R3Imm9 |
    ld1AcqR1R3 | ld1AcqR1R3R2 | ld1AcqR1R3Imm9 | ld2AcqR1R3 | ld2AcqR1R3R2 | ld2AcqR1R3Imm9 | ld4AcqR1R3 | ld4AcqR1R3R2 |
    ld4AcqR1R3Imm9 | ld8AcqR1R3 | ld8AcqR1R3R2 | ld8AcqR1R3Imm9 | ld1CClrR1R3 | ld1CClrR1R3R2 | ld1CClrR1R3Imm9 |
    ld2CClrR1R3 | ld2CClrR1R3R2 | ld2CClrR1R3Imm9 | ld4CClrR1R3 | ld4CClrR1R3R2 | ld4CClrR1R3Imm9 | ld8CClrR1R3 |
    ld8CClrR1R3R2 | ld8CClrR1R3Imm9 | ld1CNcR1R3 | ld1CNcR1R3R2 | ld1CNcR1R3Imm9 | ld2CNcR1R3 | ld2CNcR1R3R2 |
    ld2CNcR1R3Imm9 | ld4CNcR1R3 | ld4CNcR1R3R2 | ld4CNcR1R3Imm9 | ld8CNcR1R3 | ld8CNcR1R3R2 | ld8CNcR1R3Imm9 |
    ld1CClrAcqR1R3 | ld1CClrAcqR1R3R2 | ld1CClrAcqR1R3Imm9 | ld2CClrAcqR1R3 | ld2CClrAcqR1R3R2 | ld2CClrAcqR1R3Imm9 |
    ld4CClrAcqR1R3 | ld4CClrAcqR1R3R2 | ld4CClrAcqR1R3Imm9 | ld8CClrAcqR1R3 | ld8CClrAcqR1R3R2 | ld8CClrAcqR1R3Imm9 |
    ldfeF1R3 | ldfeF1R3R2 | ldfeF1R3Imm9 | ldf8F1R3 | ldf8F1R3R2 | ldf8F1R3Imm9 | ldfsF1R3 | ldfsF1R3R2 | ldfsF1R3Imm9 |
    ldfdF1R3 | ldfdF1R3R2 | ldfdF1R3Imm9 | ldfeSF1R3 | ldfeSF1R3R2 | ldfeSF1R3Imm9 | ldf8SF1R3 | ldf8SF1R3R2 |
    ldf8SF1R3Imm9 | ldfsSF1R3 | ldfsSF1R3R2 | ldfsSF1R3Imm9 | ldfdSF1R3 | ldfdSF1R3R2 | ldfdSF1R3Imm9 | ldfeAF1R3 |
    ldfeAF1R3R2 | ldfeAF1R3Imm9 | ldf8AF1R3 | ldf8AF1R3R2 | ldf8AF1R3Imm9 | ldfsAF1R3 | ldfsAF1R3R2 | ldfsAF1R3Imm9 |
    ldfdAF1R3 | ldfdAF1R3R2 | ldfdAF1R3Imm9 | ldfeSaF1R3 | ldfeSaF1R3R2 | ldfeSaF1R3Imm9 | ldf8SaF1R3 | ldf8SaF1R3R2 |
    ldf8SaF1R3Imm9 | ldfsSaF1R3 | ldfsSaF1R3R2 | ldfsSaF1R3Imm9 | ldfdSaF1R3 | ldfdSaF1R3R2 | ldfdSaF1R3Imm9 |
    ldfeCClrF1R3 | ldfeCClrF1R3R2 | ldfeCClrF1R3Imm9 | ldf8CClrF1R3 | ldf8CClrF1R3R2 | ldf8CClrF1R3Imm9 | ldfsCClrF1R3 |
    ldfsCClrF1R3R2 | ldfsCClrF1R3Imm9 | ldfdCClrF1R3 | ldfdCClrF1R3R2 | ldfdCClrF1R3Imm9 | ldfeCNcF1R3 | ldfeCNcF1R3R2 |
    ldfeCNcF1R3Imm9 | ldf8CNcF1R3 | ldf8CNcF1R3R2 | ldf8CNcF1R3Imm9 | ldfsCNcF1R3 | ldfsCNcF1R3R2 | ldfsCNcF1R3Imm9 |
    ldfdCNcF1R3 | ldfdCNcF1R3R2 | ldfdCNcF1R3Imm9 | ldfFillF1R3 | ldfFillF1R3R2 | ldfFillF1R3Imm9 | ldfpsF1F2R3 |
    ldfpsF1F2R38 | ldfpsSF1F2R3 | ldfpsSF1F2R38 | ldfpsAF1F2R3 | ldfpsAF1F2R38 | ldfpsSaF1F2R3 | ldfpsSaF1F2R38 |
    ldfpsCClrF1F2R3 | ldfpsCClrF1F2R38 | ldfpsCNcF1F2R3 | ldfpsCNcF1F2R38 | ldfpdF1F2R3 | ldfpdF1F2R316 | ldfpdSF1F2R3 |
    ldfpdSF1F2R316 | ldfpdAF1F2R3 | ldfpdAF1F2R316 | ldfpdSaF1F2R3 | ldfpdSaF1F2R316 | ldfpdCClrF1F2R3 | ldfpdCClrF1F2R316
    | ldfpdCNcF1F2R3 | ldfpdCNcF1F2R316 | ldfp8F1F2R3 | ldfp8F1F2R316 | ldfp8SF1F2R3 | ldfp8SF1F2R316 | ldfp8AF1F2R3 |
    ldfp8AF1F2R316 | ldfp8SaF1F2R3 | ldfp8SaF1F2R316 | ldfp8CClrF1F2R3 | ldfp8CClrF1F2R316 | ldfp8CNcF1F2R3 |
    ldfp8CNcF1F2R316 =>
    exact LoadForm.obeys rfl rfl rfl rfl
  | _ => cases h

/-- Every other instruction, by the operation it shares with its like. -/
theorem exec_obeys_of_noLoad {i : Instr} (h : loadForm i = none) (s : State) :
    Obeys s s (targetsOf i) (guardOf i) (isLong i) (ownStop i) (exec i s) := by
  cases i with dsimp only [exec]
  -- integer and parallel computation
  | addR1R2R3 | addR1R2R31 | subR1R2R3 | subR1R2R31 | addp4R1R2R3 | andR1R2R3 | andcmR1R2R3 | orR1R2R3 | xorR1R2R3 |
    shladdR1R2Count2R3 | shladdp4R1R2Count2R3 | padd1R1R2R3 | padd2R1R2R3 | padd4R1R2R3 | padd1SssR1R2R3 | padd2SssR1R2R3
    | padd1UusR1R2R3 | padd2UusR1R2R3 | padd1UuuR1R2R3 | padd2UuuR1R2R3 | psub1R1R2R3 | psub2R1R2R3 | psub4R1R2R3 |
    psub1SssR1R2R3 | psub2SssR1R2R3 | psub1UusR1R2R3 | psub2UusR1R2R3 | psub1UuuR1R2R3 | psub2UuuR1R2R3 | pavg1R1R2R3 |
    pavg2R1R2R3 | pavg1RazR1R2R3 | pavg2RazR1R2R3 | pavgsub1R1R2R3 | pavgsub2R1R2R3 | pcmp1EqR1R2R3 | pcmp2EqR1R2R3 |
    pcmp4EqR1R2R3 | pcmp1GtR1R2R3 | pcmp2GtR1R2R3 | pcmp4GtR1R2R3 | pshladd2R1R2Count2R3 | pshradd2R1R2Count2R3 |
    pmpyshr2R1R2R3Count2 | pmpyshr2UR1R2R3Count2 | pmpy2RR1R2R3 | pmpy2LR1R2R3 | mix1RR1R2R3 | mix1LR1R2R3 | mix2RR1R2R3 |
    mix2LR1R2R3 | mix4RR1R2R3 | mix4LR1R2R3 | pack2SssR1R2R3 | pack2UssR1R2R3 | pack4SssR1R2R3 | unpack1LR1R2R3 |
    unpack1HR1R2R3 | unpack2LR1R2R3 | unpack2HR1R2R3 | unpack4LR1R2R3 | unpack4HR1R2R3 | pmin1UR1R2R3 | pmax1UR1R2R3 |
    pmin2R1R2R3 | pmax2R1R2R3 | psad1R1R2R3 | shrR1R3R2 | shrUR1R3R2 | pshr2R1R3R2 | pshr2UR1R3R2 | pshr4R1R3R2 |
    pshr4UR1R3R2 | shlR1R2R3 | pshl2R1R2R3 | pshl4R1R2R3 | shrpR1R2R3Count6 | depR1R2R3Pos6Len4 =>
    exact grOp2_obeys s
  | subR1Imm8R3 | andR1Imm8R3 | andcmR1Imm8R3 | orR1Imm8R3 | xorR1Imm8R3 | addsR1Imm14R3 | addp4R1Imm14R3 | addlR1Imm22R3
    | mux2R1R2Mhtype8 | pshr2R1R3Count5 | pshr2UR1R3Count5 | pshr4R1R3Count5 | pshr4UR1R3Count5 | pshl2R1R2Count5 |
    pshl4R1R2Count5 | popcntR1R3 | extrUR1R3Pos6Len6 | extrR1R3Pos6Len6 | depZR1R2Pos6Len6 | depR1Imm1R3Pos6Len6 |
    zxt1R1R3 | zxt2R1R3 | zxt4R1R3 | sxt1R1R3 | sxt2R1R3 | sxt4R1R3 | czx1LR1R3 | czx2LR1R3 | czx1RR1R3 | czx2RR1R3 =>
    exact grOp1_obeys s
  | thashR1R3 | ttagR1R3 =>
    exact .run .gr (.bind (s.readGr_stops _) fun _ => .ok)
  | depZR1Imm8Pos6Len6 | movR1B2 | movR1Ip | movR1Pr | movR1PsrUm =>
    exact .run .gr .ok
  | mux1R1R2Mbtype4 =>
    exact mux1_obeys s
  -- compares and tests
  | cmpLtP1P2R2R3 | cmpLtUncP1P2R2R3 | cmp4LtP1P2R2R3 | cmp4LtUncP1P2R2R3 | cmpLtuP1P2R2R3 | cmpLtuUncP1P2R2R3 |
    cmp4LtuP1P2R2R3 | cmp4LtuUncP1P2R2R3 | cmpEqP1P2R2R3 | cmpEqUncP1P2R2R3 | cmp4EqP1P2R2R3 | cmp4EqUncP1P2R2R3 |
    cmpEqAndP1P2R2R3 | cmpNeAndP1P2R2R3 | cmpEqOrP1P2R2R3 | cmpNeOrP1P2R2R3 | cmpEqOrAndcmP1P2R2R3 | cmpNeOrAndcmP1P2R2R3
    | cmp4EqAndP1P2R2R3 | cmp4NeAndP1P2R2R3 | cmp4EqOrP1P2R2R3 | cmp4NeOrP1P2R2R3 | cmp4EqOrAndcmP1P2R2R3 |
    cmp4NeOrAndcmP1P2R2R3 =>
    exact cmpRegs_obeys s rfl
  | cmpLtP1P2Imm8R3 | cmpLtUncP1P2Imm8R3 | cmp4LtP1P2Imm8R3 | cmp4LtUncP1P2Imm8R3 | cmpLtuP1P2Imm8R3 | cmpLtuUncP1P2Imm8R3
    | cmp4LtuP1P2Imm8R3 | cmp4LtuUncP1P2Imm8R3 | cmpEqP1P2Imm8R3 | cmpEqUncP1P2Imm8R3 | cmp4EqP1P2Imm8R3 |
    cmp4EqUncP1P2Imm8R3 | cmpEqAndP1P2Imm8R3 | cmpNeAndP1P2Imm8R3 | cmpEqOrP1P2Imm8R3 | cmpNeOrP1P2Imm8R3 |
    cmpEqOrAndcmP1P2Imm8R3 | cmpNeOrAndcmP1P2Imm8R3 | cmp4EqAndP1P2Imm8R3 | cmp4NeAndP1P2Imm8R3 | cmp4EqOrP1P2Imm8R3 |
    cmp4NeOrP1P2Imm8R3 | cmp4EqOrAndcmP1P2Imm8R3 | cmp4NeOrAndcmP1P2Imm8R3 =>
    exact cmpImm_obeys s rfl
  | cmpGtAndP1P2R0R3 | cmpLeAndP1P2R0R3 | cmpGeAndP1P2R0R3 | cmpLtAndP1P2R0R3 | cmpGtOrP1P2R0R3 | cmpLeOrP1P2R0R3 |
    cmpGeOrP1P2R0R3 | cmpLtOrP1P2R0R3 | cmpGtOrAndcmP1P2R0R3 | cmpLeOrAndcmP1P2R0R3 | cmpGeOrAndcmP1P2R0R3 |
    cmpLtOrAndcmP1P2R0R3 | cmp4GtAndP1P2R0R3 | cmp4LeAndP1P2R0R3 | cmp4GeAndP1P2R0R3 | cmp4LtAndP1P2R0R3 |
    cmp4GtOrP1P2R0R3 | cmp4LeOrP1P2R0R3 | cmp4GeOrP1P2R0R3 | cmp4LtOrP1P2R0R3 | cmp4GtOrAndcmP1P2R0R3 |
    cmp4LeOrAndcmP1P2R0R3 | cmp4GeOrAndcmP1P2R0R3 | cmp4LtOrAndcmP1P2R0R3 =>
    exact cmpZero_obeys s rfl
  | tbitZP1P2R3Pos6 | tbitZUncP1P2R3Pos6 | tbitZAndP1P2R3Pos6 | tbitNzAndP1P2R3Pos6 | tbitZOrP1P2R3Pos6 |
    tbitNzOrP1P2R3Pos6 | tbitZOrAndcmP1P2R3Pos6 | tbitNzOrAndcmP1P2R3Pos6 | tbitNzP1P2R3Pos6 | tbitNzUncP1P2R3Pos6 =>
    exact testBit_obeys s rfl
  | tnatZP1P2R3 | tnatZUncP1P2R3 | tnatZAndP1P2R3 | tnatNzAndP1P2R3 | tnatZOrP1P2R3 | tnatNzOrP1P2R3 | tnatZOrAndcmP1P2R3
    | tnatNzOrAndcmP1P2R3 | tnatNzP1P2R3 | tnatNzUncP1P2R3 =>
    exact testNat_obeys s rfl
  | fcmpEqSfP1P2F2F3 | fcmpEqUncSfP1P2F2F3 | fcmpLtSfP1P2F2F3 | fcmpLtUncSfP1P2F2F3 | fcmpLeSfP1P2F2F3 |
    fcmpLeUncSfP1P2F2F3 | fcmpUnordSfP1P2F2F3 | fcmpUnordUncSfP1P2F2F3 =>
    exact fcmpBody_obeys s rfl
  | fclassMP1P2F2Fclass9 | fclassMUncP1P2F2Fclass9 =>
    exact fclassBody_obeys s rfl
  -- breaks, nops and checks
  | breakIImm21 | breakMImm21 | breakFImm21 =>
    exact .run .none .intr
  | nopIImm21 | nopMImm21 | nopFImm21 | movPrRotImm44 | invala | mf | fwb | mfA | syncI | srlzD | srlzI | fclrfSf =>
    exact .run .none .ok
  | breakXImm62 =>
    exact .runLong .none .intr
  | nopXImm62 =>
    exact .runLong .none .ok
  | movlR1Imm64 =>
    exact .runLong .gr .ok
  | chkSIR2Target25 | chkSMR2Target25 =>
    exact .run .none (.bind (s.readGr_stops _) fun _ => .ite (s.checkFail_stops _ _ _) .ok)
  | chkSF2Target25 =>
    exact .run .none (.bind (s.fpEnabled_stops _) fun _ => .ite (s.checkFail_stops _ _ _) .ok)
  | chkAClrR1Target25 | chkANcR1Target25 =>
    exact .run .none (.bind (s.readGr_stops _) fun _ => s.chkA_stops _ _ _)
  | chkAClrF1Target25 | chkANcF1Target25 =>
    exact .run .none (.bind (s.fpEnabled_stops _) fun _ => s.chkA_stops _ _ _)
  | fchkfSfTarget25 =>
    exact .run .none (.ite (s.checkFail_stops _ _ _) .ok)
  | invalaER1 =>
    exact .run .none (.bind .require fun _ => .ok)
  | invalaEF1 =>
    exact .run .none (.bind .ok fun _ => .ok)
  -- moves
  | movB1R2 | movRetB1R2 | movPrR2Mask17 =>
    exact .run .none (.bind (s.consumeGr_stops _) fun _ => .ok)
  | movIAr3R2 | movMAr3R2 =>
    exact .run .none (s.moveToAr_stops _ _ (s.sourceGr_stops _) (s.consumeGr_stops _))
  | movIAr3Imm8 | movMAr3Imm8 =>
    exact .run .none (s.moveToAr_stops _ _ .ok .ok)
  | movIR1Ar3 | movMR1Ar3 =>
    exact .run .gr (.bind (s.moveFromAr_stops _ _) fun _ => .ok)
  | movCr3R2 =>
    exact .run .none (.bind (s.crOk_stops _ _) fun _ => .bind (s.sourceGr_stops _) fun _ => .bind s.privileged_stops fun _ =>
      .bind (s.consumeGr_stops _) fun _ => .bind .require fun _ => .ok)
  | movR1Cr3 =>
    exact .run .gr (.bind (s.crOk_stops _ _) fun _ => .bind s.privileged_stops fun _ => .ok)
  | movPsrLR2 =>
    exact .run .none (.bind (s.sourceGr_stops _) fun _ => .bind s.privileged_stops fun _ => .bind (s.consumeGr_stops _) fun _ =>
      .bind .require fun _ => .ok)
  | movPsrUmR2 =>
    exact .run .none (.bind (s.consumeGr_stops _) fun _ => .bind .require fun _ => .ok)
  | movR1Psr =>
    exact .run .gr (.bind s.privileged_stops fun _ => .ok)
  | sumImm24 | rumImm24 | fsetcSfAmask7Omask7 =>
    exact .run .none (.bind .require fun _ => .ok)
  | ssmImm24 | rsmImm24 =>
    exact .run .none (.bind s.privileged_stops fun _ => .bind .require fun _ => .ok)
  | movPmcR3R2 | movPmdR3R2 | movRrR3R2 | movPkrR3R2 | movIbrR3R2 | movDbrR3R2 =>
    exact .run .none (.bind (s.sourceGr_stops _) fun _ => .bind (s.sourceGr_stops _) fun _ => .bind s.privileged_stops fun _ =>
      .bind (s.consumeGr_stops _) fun _ => .bind (s.consumeGr_stops _) fun _ => .bind .require fun _ => .ok)
  | movR1PmcR3 | movR1PmdR3 | movR1RrR3 | movR1PkrR3 | movR1IbrR3 | movR1DbrR3 | movR1CpuidR3 =>
    exact .run .gr (.bind (s.sourceGr_stops _) fun _ => .bind (.ite s.privileged_stops .ok) fun _ =>
      .bind (s.consumeGr_stops _) fun _ => .bind .require fun _ => .ok)
  -- loads, stores, semaphores and prefetches
  | ld8FillR1R3 | ld8FillR1R3R2 | ld8FillR1R3Imm9 =>
    exact .run (.load _ _) (s.loadBody_stops _ _ _ _ _ _ _)
  | st1R3R2 | st2R3R2 | st4R3R2 | st8R3R2 | st1RelR3R2 | st2RelR3R2 | st4RelR3R2 | st8RelR3R2 | st8SpillR3R2 =>
    exact .run .none (.bind (s.readGr_stops _) fun _ => s.storeBody_stops _ _ _ _ _ _ _)
  | st1R3R2Imm9 | st2R3R2Imm9 | st4R3R2Imm9 | st8R3R2Imm9 | st1RelR3R2Imm9 | st2RelR3R2Imm9 | st4RelR3R2Imm9 |
    st8RelR3R2Imm9 | st8SpillR3R2Imm9 =>
    exact .run .gr (.bind (s.readGr_stops _) fun _ => s.storeBody_stops _ _ _ _ _ _ _)
  | stfeR3F2 | stf8R3F2 | stfsR3F2 | stfdR3F2 | stfSpillR3F2 =>
    exact .run .none (.bind (s.fpMemOk_stops _ _ _) fun _ => s.storeBody_stops _ _ _ _ _ _ _)
  | stfeR3F2Imm9 | stf8R3F2Imm9 | stfsR3F2Imm9 | stfdR3F2Imm9 | stfSpillR3F2Imm9 =>
    exact .run .gr (.bind (s.fpMemOk_stops _ _ _) fun _ => s.storeBody_stops _ _ _ _ _ _ _)
  | lfetchR3 | lfetchExclR3 =>
    exact .run .none (.bind (s.readGr_stops _) fun _ => .bind (s.updateReadable_stops _) fun _ => .ok)
  | lfetchR3R2 | lfetchR3Imm9 | lfetchExclR3R2 | lfetchExclR3Imm9 =>
    exact .run .gr (.bind (s.readGr_stops _) fun _ => .bind (s.updateReadable_stops _) fun _ => .ok)
  | lfetchFaultR3 | lfetchFaultExclR3 =>
    exact .run .none (.bind (s.readGr_stops _) fun _ => .bind (s.updateReadable_stops _) fun _ =>
      .ite .intr (.bind (s.access_stops _) fun _ => .ok))
  | lfetchFaultR3R2 | lfetchFaultR3Imm9 | lfetchFaultExclR3R2 | lfetchFaultExclR3Imm9 =>
    exact .run .gr (.bind (s.readGr_stops _) fun _ => .bind (s.updateReadable_stops _) fun _ =>
      .ite .intr (.bind (s.access_stops _) fun _ => .ok))
  | cmpxchg1AcqR1R3R2ArCcv | cmpxchg1RelR1R3R2ArCcv | cmpxchg2AcqR1R3R2ArCcv | cmpxchg2RelR1R3R2ArCcv |
    cmpxchg4AcqR1R3R2ArCcv | cmpxchg4RelR1R3R2ArCcv | cmpxchg8AcqR1R3R2ArCcv | cmpxchg8RelR1R3R2ArCcv | xchg1R1R3R2 |
    xchg2R1R3R2 | xchg4R1R3R2 | xchg8R1R3R2 =>
    exact .run .gr (.bind (s.readGr_stops _) fun _ => s.semBody_stops _ _ _ _ _ _)
  | fetchadd4AcqR1R3Inc3 | fetchadd4RelR1R3Inc3 | fetchadd8AcqR1R3Inc3 | fetchadd8RelR1R3Inc3 =>
    exact .run .gr (s.semBody_stops _ _ _ _ _ _)
  -- system instructions
  | fcR3 =>
    exact .run .none (.bind (s.readGr_stops _) fun _ => .ite .intr (.bind (s.access_stops _) fun _ => .ok))
  | ptcER3 =>
    exact .run .none (.bind (s.sourceGr_stops _) fun _ => .bind s.privileged_stops fun _ => .bind (s.consumeNa_stops _) fun _ => .ok)
  | ptcLR3R2 | ptcGR3R2 | ptcGaR3R2 | ptrDR3R2 | ptrIR3R2 =>
    exact .run .none (.bind (.bind (s.sourceGr_stops _) fun _ => .bind (s.sourceGr_stops _) fun _ => s.privileged_stops) fun _ =>
      .bind (s.consumeNa_stops _) fun _ => .bind (s.consumeNa_stops _) fun _ => .bind .require fun _ => .ok)
  | itcDR2 | itcIR2 =>
    exact .run .none (.bind (s.insertChecks_stops _ _ .ok .ok) fun _ => .ite (.own fun _ => rfl) .ok)
  | itrDDtrR3R2 | itrIItrR3R2 =>
    exact .run .none (.bind (s.insertChecks_stops _ _ (s.sourceGr_stops _) (.map (s.consumeNa_stops _))) fun _ =>
      .ite (.own fun _ => rfl) .ok)
  | probeRR1R3R2 | probeWR1R3R2 =>
    exact .run .gr (.bind (s.readGr_stops _) fun _ => .bind (s.sourceGr_stops _) fun _ => .bind (s.probeOperand_stops _) fun _ =>
      .ite .intr (.bind (s.findEntry_stops _) fun _ => .ok))
  | probeRR1R3Imm2 | probeWR1R3Imm2 =>
    exact .run .gr (.bind (s.readGr_stops _) fun _ => .bind .ok fun _ => .bind .ok fun _ =>
      .ite .intr (.bind (s.findEntry_stops _) fun _ => .ok))
  | probeRFaultR3Imm2 | probeWFaultR3Imm2 | probeRwFaultR3Imm2 =>
    exact probeFault_obeys s
  | tpaR1R3 =>
    exact .run .gr (.bind (s.readGr_stops _) fun _ => .bind s.privileged_stops fun _ => .ite .intr
      (.bind (s.findEntry_stops _) fun _ => .ite (s.raise_stops _ _) (.ite (s.raise_stops _ _) .ok)))
  | takR1R3 =>
    exact takInstr_obeys s
  -- floating point
  | setfSigF1R2 | setfExpF1R2 | setfSF1R2 | setfDF1R2 =>
    exact .run .fr (.bind (s.sourceGr_stops _) fun _ => .bind (s.fpEnabled_stops _) fun _ => .bind (s.readGr_stops _) fun _ => .ok)
  | getfSigR1F2 | getfExpR1F2 | getfSR1F2 | getfDR1F2 =>
    exact .run .gr (.bind (s.fpEnabled_stops _) fun _ => .ok)
  | fmaSfF1F3F4F2 | fmaSSfF1F3F4F2 | fmaDSfF1F3F4F2 | fmsSfF1F3F4F2 | fmsSSfF1F3F4F2 | fmsDSfF1F3F4F2 | fnmaSfF1F3F4F2 |
    fnmaSSfF1F3F4F2 | fnmaDSfF1F3F4F2 | fpmaSfF1F3F4F2 | fpmsSfF1F3F4F2 | fpnmaSfF1F3F4F2 | fminSfF1F2F3 | fmaxSfF1F2F3 |
    faminSfF1F2F3 | famaxSfF1F2F3 | fpminSfF1F2F3 | fpmaxSfF1F2F3 | fpaminSfF1F2F3 | fpamaxSfF1F2F3 | fpcmpFrelSfF1F2F3 |
    fcvtFxSfF1F2 | fcvtFxuSfF1F2 | fcvtFxTruncSfF1F2 | fcvtFxuTruncSfF1F2 | fpcvtFxSfF1F2 | fpcvtFxuSfF1F2 |
    fpcvtFxTruncSfF1F2 | fpcvtFxuTruncSfF1F2 =>
    exact fpArith_obeys s
  | xmaLF1F3F4F2 | xmaHuF1F3F4F2 | xmaHF1F3F4F2 | fselectF1F3F4F2 | fcvtXfF1F2 | fmergeSF1F2F3 | fmergeNsF1F2F3 |
    fmergeSeF1F2F3 | fandF1F2F3 | fandcmF1F2F3 | forF1F2F3 | fxorF1F2F3 | fmixLF1F2F3 | fmixRF1F2F3 | fmixLrF1F2F3 |
    fsxtLF1F2F3 | fsxtRF1F2F3 | fpackF1F2F3 | fswapF1F2F3 | fswapNlF1F2F3 | fswapNrF1F2F3 | fpmergeSF1F2F3 |
    fpmergeNsF1F2F3 | fpmergeSeF1F2F3 =>
    exact fpMove_obeys s
  | frcpaSfF1P2F2F3 | fprcpaSfF1P2F2F3 | frsqrtaSfF1P2F3 | fprsqrtaSfF1P2F3 =>
    exact .unguarded .fr (.ite (.bind (s.fpEnabled_stops _) fun _ => .ite .ok (State.fpComplete_stops _ _ _ _ _)) .ok)
  -- the register stack and branches
  | allocR1ArPfsILOR =>
    exact .ends (.bind .require fun _ => .bind .require fun _ => .bind .require fun _ => .bind (s.growFrame_stops _ _) fun _ => .ok)
  | flushrs =>
    exact .run .none (.map s.spillAll_stops)
  | loadrs =>
    exact .run .none (.bind .require fun _ => .map (State.loadSlots_stops _ _))
  | brCondBwhPhDhTarget25 | brCondBwhPhDhB2 | brlCondBwhPhDhTarget64 | brCallBwhPhDhB1Target25 | brCallBwhPhDhB1B2 |
    brlCallBwhPhDhB1Target64 | brpIpwhIhTarget25Tag13 | brpIndwhIhB2Tag13 | cover | clrrrb | clrrrbPr =>
    exact .ends .ok
  | brWexitBwhPhDhTarget25 | brWtopBwhPhDhTarget25 | brCexitBwhPhDhTarget25 | brCtopBwhPhDhTarget25 =>
    exact .ends (.bind .require fun _ => .ok)
  | brCloopBwhPhDhTarget25 =>
    exact .ends (.bind .require fun _ => .ite .ok .ok)
  | brIaBwhPhDhB2 =>
    exact brIa_obeys s rfl
  | brRetBwhPhDhB2 =>
    exact .ends (.ite (.map (.ofBranch (s.popFrame_stops _ _))) .ok)
  | rfi =>
    exact finishRfi_obeys s (.bind s.privileged_stops fun _ => .ite (.own fun _ => rfl)
      (.ite (.map (State.popFrame_stops _ _ _)) .ok))
  | bsw0 | bsw1 =>
    exact .ends (.bind s.privileged_stops fun _ => .ok)
  | epc =>
    exact .ends (.bind .require fun _ => .ok)
  | breakBImm21 =>
    exact .ends (.ite .intr .ok)
  | nopBImm21 =>
    exact .ends (.ite .ok .ok)
  | _ => cases h

theorem faultState_of_none {i : Instr} (h : loadForm i = none) (s : State) : faultState i s = s := by
  simp only [faultState, h]

/-- Every instruction obeys the rules that hold of all. -/
theorem exec_obeys (i : Instr) (s : State) :
    Obeys s (faultState i s) (targetsOf i) (guardOf i) (isLong i) (ownStop i) (exec i s) := by
  cases h : loadForm i with
  | some f => exact exec_obeys_of_load (Option.isSome_iff_exists.mpr ⟨f, h⟩) s
  | none =>
    rw [faultState_of_none h s]
    exact exec_obeys_of_noLoad h s

end Sys2Proof.Forms
end

section
/-! SUPPORT. What is particular to the statements about every instruction: nops, `br.ia`, and the instructions of `ownStop`. -/

namespace Sys2Proof.Forms

open Sys2Proof.Machine

/-! ### Nops -/

theorem nopInstr_onlyEvents (s : State) (qp : PredIdx) :
    ∃ u, nopInstr s qp = .next (retire s { s := u }) ∧ s.OnlyEvents u := by
  cases hq : s.pred qp with
  | true => exact ⟨s.emit .nop, run_true rfl hq, rfl⟩
  | false => exact ⟨s.emit .squashed, run_false rfl hq, rfl⟩

theorem nopB_onlyEvents (s : State) (qp : PredIdx) : ∃ u, nopB s qp = .next (retire s { s := u }) ∧ s.OnlyEvents u := by
  unfold nopB runBranch
  cases s.branchPred qp with
  | true => exact ⟨s.emit .nop, rfl, rfl⟩
  | false => exact ⟨s, rfl, rfl⟩

theorem nopX_onlyEvents (s : State) (qp : PredIdx) (imm62 : BitVec 62) :
    ∃ u, execNopXImm62 qp imm62 s = .next (retire s { s := u, long := true }) ∧ s.OnlyEvents u := by
  unfold execNopXImm62 runLong
  cases s.pred qp with
  | true => exact ⟨s, rfl, rfl⟩
  | false => exact ⟨s.emit .squashed, rfl, rfl⟩

/-! ### Instructions that stop the machine in a way of their own -/

theorem brIa_disabled (b : BrIdx) (h : BrHint) {s : State} (hdi : s.psrDi = true) :
    Takes s (exec (.brIaBwhPhDhB2 b h) s) .generalException 0x40 := by
  refine ⟨{ vec := .generalException, code := 0x40, events := [.branchFault 3] }, rfl, rfl, ?_⟩
  change brIa s = _
  unfold brIa
  rw [hdi]
  rfl

theorem brIa_refused (b : BrIdx) (h : BrHint) {s : State} (hdi : s.psrDi = false) :
    exec (.brIaBwhPhDhB2 b h) s = .refused .ia32Execution := by
  change brIa s = _
  unfold brIa
  rw [hdi]
  rfl

/-- An `rfi` into IA-64 code is never refused. -/
theorem rfi_stops_of_ia64 {s : State} (his : s.cr.ipsr.getLsbD 34 = false) :
    Completes (exec .rfi s) ∨ exec .rfi s = .fault .machineCheckMultipleHit := by
  have body : StopsOnlyBy none (s.privileged.bind fun _ =>
      if s.cr.ipsr.getLsbD 34 then .error (.refused .ia32Execution)
      else if s.cr.ifs.getLsbD 63 then s.restoreFrame s.restoreContext else .ok s.restoreContext) := by
    simp only [his, Bool.false_eq_true, if_false]
    exact .bind s.privileged_stops fun _ => .ite (.map (State.popFrame_stops _ _ _)) .ok
  have stops := (finishRfi_obeys (f := s) (long := false) s body).stops
  rcases stops with completes | hit | own
  · exact .inl completes
  · exact .inr hit
  · cases own

theorem rfi_ia32 {s : State} (h : exec .rfi s = .refused .ia32Execution) : s.cr.ipsr.getLsbD 34 = true := by
  cases his : s.cr.ipsr.getLsbD 34 with
  | true => rfl
  | false =>
    rcases rfi_stops_of_ia64 his with ⟨t, ht⟩ | hit
    · cases ht.symm.trans h
    · cases hit.symm.trans h

/-- The instructions that may stop the machine in a way of their own. -/
theorem ownStop_eq_some {i : Instr} {o : Host.Outcome State Fault Refusal} (h : ownStop i = some o) :
    ((∃ qp r3 r2, i = .itcDR2 qp r2 ∨ i = .itcIR2 qp r2 ∨ i = .itrDDtrR3R2 qp r3 r2 ∨ i = .itrIItrR3R2 qp r3 r2) ∧
      o = .fault .machineCheckOverlap) ∨
    ((∃ b2 hint, i = .brIaBwhPhDhB2 b2 hint) ∧ o = .refused .ia32Execution) ∨ (i = .rfi ∧ o = .refused .ia32Execution) := by
  cases i with
  | itcDR2 qp r2 => cases h; exact .inl ⟨⟨qp, 0, r2, .inl rfl⟩, rfl⟩
  | itcIR2 qp r2 => cases h; exact .inl ⟨⟨qp, 0, r2, .inr (.inl rfl)⟩, rfl⟩
  | itrDDtrR3R2 qp r3 r2 => cases h; exact .inl ⟨⟨qp, r3, r2, .inr (.inr (.inl rfl))⟩, rfl⟩
  | itrIItrR3R2 qp r3 r2 => cases h; exact .inl ⟨⟨qp, r3, r2, .inr (.inr (.inr rfl))⟩, rfl⟩
  | brIaBwhPhDhB2 b2 hint => cases h; exact .inr (.inl ⟨⟨b2, hint, rfl⟩, rfl⟩)
  | rfi => cases h; exact .inr (.inr ⟨rfl, rfl⟩)
  | _ => cases h

end Sys2Proof.Forms

end

section
open Sys2Proof Machine Forms

/-- Settles O13: every instruction checks its targets before anything else. -/
theorem badTargetsAreIllegal : Obligations.BadTargetsAreIllegal := by
  intro i s bad
  have notOk : (targetsOf i).ok s = false := Bool.eq_false_iff.mpr fun h => bad ((Targets.ok_iff s _).mp h)
  exact (exec_obeys i s).illegal notOk

/-- Settles O14: a squashed instruction stops after its target check; a nop and a branch predict act on the events alone. -/
theorem nopsAndSquashedInstructionsDoNothing : Obligations.NopsAndSquashedInstructionsDoNothing := by
  constructor
  · intro i qp s hg hq targets
    exact (exec_obeys i s).squashed qp hg hq ((Targets.ok_iff s _).mpr targets)
  · rintro i s (⟨qp, imm, rfl | rfl | rfl | rfl⟩ | ⟨qp, imm, rfl⟩ | ⟨a, b, c, d, rfl⟩ | ⟨a, b, c, d, rfl⟩)
    · exact nopInstr_onlyEvents s qp
    · exact nopInstr_onlyEvents s qp
    · exact nopInstr_onlyEvents s qp
    · exact nopB_onlyEvents s qp
    · exact nopX_onlyEvents s qp imm
    · exact ⟨s, rfl, rfl⟩
    · exact ⟨s, rfl, rfl⟩

/-- Settles O11: the computation of every instruction fails with interruptions, the machine check of several matching translations, or what
`ownStop` names. -/
theorem onlyMachineChecksAndIa32Stop : Obligations.OnlyMachineChecksAndIa32Stop := by
  refine ⟨fun b h s => ⟨brIa_disabled b h, brIa_refused b h⟩, fun i s => ?_⟩
  rcases (exec_obeys i s).stops with completes | hit | own
  · exact .inl completes
  · exact .inr (.inl hit)
  · rcases ownStop_eq_some own with overlap | ia | ⟨rfl, refused⟩
    · exact .inr (.inr (.inl overlap))
    · exact .inr (.inr (.inr (.inl ia)))
    · exact .inr (.inr (.inr (.inr ⟨rfl, rfi_ia32 refused, refused⟩)))

end

section
/-! SUPPORT. Permutes, shifts, bit fields, extensions and zero searches: which bit or which element of its sources each of the model's
functions puts where (R342 to R351, R364). -/

namespace Sys2Proof.Forms

open Sys2Proof.Machine

/-! ### Permutes and the population count (R342, R347) -/

/-- The model's permutations are those of the table; every other code is reserved. -/
theorem mux1Perm_eq_lookup : ∀ c : BitVec 4, mux1Perm c = mux1Table.lookup c.toNat := by decide

theorem exec_mux1_of_lookup {c : BitVec 4} {perm : List Nat} (h : mux1Table.lookup c.toNat = some perm) (qp : PredIdx) (r1 r2 : GrIdx)
    (s : State) : exec (.mux1R1R2Mbtype4 qp r1 r2 c) s =
      grOp1 s qp r1 r2 (fun x => ofElems 8 (fun i => elem 8 x (perm.getD i 0)) 8) := by
  have named : mux1Perm c = some perm := (mux1Perm_eq_lookup c).trans h
  change mux1 s qp r1 r2 c = _
  unfold mux1
  rw [named]

/-- A reserved code is refused before the predicate is looked at (log 46). -/
theorem exec_mux1_of_reserved {c : BitVec 4} (h : mux1Table.lookup c.toNat = none) (qp : PredIdx) (r1 r2 : GrIdx) (s : State) :
    exec (.mux1R1R2Mbtype4 qp r1 r2 c) s = finish s (.error illegalOp) := by
  have reserved : mux1Perm c = none := (mux1Perm_eq_lookup c).trans h
  change mux1 s qp r1 r2 c = _
  unfold mux1
  rw [reserved]

theorem lane_mux1 (perm : List Nat) (x : Word) (k : Nat) (hk : k < 8) :
    lane 8 (ofElems 8 (fun i => elem 8 x (perm.getD i 0)) 8) k = lane 8 x (perm.getD k 0) :=
  elem_ofElems 8 (by decide) _ 8 k (by decide) hk

/-- Two bits of the code name the element that goes to each place. -/
theorem lane_mux2 (c : BitVec 8) (x : Word) (k : Nat) (hk : k < 4) : lane 16 (mux2 c x) k = lane 16 x (c.toNat / 4 ^ k % 4) := by
  have field : (c.extractLsb' (2 * k) 2).toNat = c.toNat / 4 ^ k % 4 := by
    rw [BitVec.extractLsb'_toNat, Nat.shiftRight_eq_div_pow, Nat.pow_mul]
  rw [← field]
  exact elem_ofElems 16 (by decide) _ 4 k (by decide) hk

/-- Counting as one goes along. -/
theorem foldl_count (p : Nat → Bool) (l : List Nat) (a : Nat) :
    l.foldl (fun a i => if p i then a + 1 else a) a = a + (l.filter p).length := by
  induction l generalizing a with
  | nil => rfl
  | cons i l ih =>
    rw [List.foldl_cons, ih]
    cases hp : p i with
    | true => rw [if_pos rfl, List.filter_cons_of_pos hp, List.length_cons]; omega
    | false => rw [if_neg Bool.false_ne_true, List.filter_cons_of_neg (by simp [hp])]

theorem toNat_popcount (x : Word) : (popcount x).toNat = ((List.range 64).filter fun k => x.getLsbD k).length := by
  have few : ((List.range 64).filter fun k => x.getLsbD k).length ≤ 64 := List.length_filter_le _ _
  unfold popcount
  rw [foldl_count, Nat.zero_add, BitVec.toNat_ofNat, Nat.mod_eq_of_lt (few.trans_lt (by norm_num))]

/-! ### Shifts (R343 to R346) -/

theorem isShr_sshiftRight (n : Nat) (x : BitVec w) : isShr true n x (x.sshiftRight n) := by
  intro k hk
  rw [BitVec.getLsbD_sshiftRight, decide_eq_false (by omega : ¬ w ≤ k)]
  rfl

theorem isShr_ushiftRight (n : Nat) (x : BitVec w) : isShr false n x (x >>> n) := by
  intro k hk
  rw [BitVec.getLsbD_ushiftRight]
  split
  · rfl
  · exact BitVec.getLsbD_of_ge _ _ (by omega)

theorem isShl_shiftLeft (n : Nat) (x : BitVec w) : isShl n x (x <<< n) := by
  intro k hk
  simp only [BitVec.getLsbD_shiftLeft, hk, decide_true, Bool.true_and, ← decide_not, Nat.not_lt]

/-- Cutting the count at 64 changes no shift of at most 64 bits: no bit of the source is left either way. -/
theorem isShr.of_shiftCount {signed : Bool} {n : Word} {x v : BitVec w} (h : isShr signed (shiftCount n) x v) (hw : w ≤ 64) :
    isShr signed n.toNat x v := by
  intro k hk
  rw [h k hk, shiftCount]
  rcases Nat.le_total n.toNat 64 with le | le
  · rw [Nat.min_eq_left le]
  · rw [Nat.min_eq_right le, if_neg (by omega), if_neg (by omega)]

theorem isShl.of_shiftCount {n : Word} {x v : BitVec w} (h : isShl (shiftCount n) x v) (hw : w ≤ 64) : isShl n.toNat x v := by
  intro k hk
  rw [h k hk, shiftCount]
  rcases Nat.le_total n.toNat 64 with le | le
  · rw [Nat.min_eq_left le]
  · rw [Nat.min_eq_right le, decide_eq_false (by omega), decide_eq_false (by omega)]
    rfl

theorem isShr_shrVar (x n : Word) : isShr true n.toNat x (shrVar x n) :=
  isShr.of_shiftCount (isShr_sshiftRight (shiftCount n) x) (le_refl 64)

theorem isShr_shrUVar (x n : Word) : isShr false n.toNat x (shrUVar x n) :=
  isShr.of_shiftCount (isShr_ushiftRight (shiftCount n) x) (le_refl 64)

theorem isShl_shlVar (x n : Word) : isShl n.toNat x (shlVar x n) :=
  isShl.of_shiftCount (isShl_shiftLeft (shiftCount n) x) (le_refl 64)

/-- A shift of elements, made on a whole word. -/
theorem eachLane_map1 {w : Nat} (hw : 0 < w) {r : BitVec w → BitVec w → Prop} {op : BitVec w → BitVec w} (h : ∀ x, r x (op x)) (x : Word) :
    eachLane w r x (map1 w op x) := by
  intro k hk
  have e : lane w (map1 w op x) k = op (lane w x k) := elem_map1 w hw op x k hk
  rw [e]
  exact h _

/-- An instruction that shifts every element by a count it holds runs its form. -/
theorem GrForm.Runs.shiftsBy {i : Instr} {qp : PredIdx} {r1 r3 : GrIdx} {w : Nat} {r : BitVec w → BitVec w → Prop}
    (op : BitVec w → BitVec w) (runs : ∀ s, exec i s = grOp1 s qp r1 r3 (map1 w op)) (hw : 0 < w) (h : ∀ x, r x (op x)) :
    GrForm.Runs i { qp, r1, a := r3, ok := fun x _ v => eachLane w r x v } :=
  .one _ runs rfl fun x _ => eachLane_map1 hw h x

/-- An instruction that shifts every element by a count from a register runs its form. -/
theorem GrForm.Runs.shiftsByGr {i : Instr} {qp : PredIdx} {r1 r2 r3 : GrIdx} {w : Nat} {r : Nat → BitVec w → BitVec w → Prop}
    (op : Nat → BitVec w → BitVec w) (runs : ∀ s, exec i s = grOp2 s qp r1 r3 r2 fun x n => map1 w (op (shiftCount n)) x) (hw : 0 < w)
    (h : ∀ (n : Word) x, r n.toNat x (op (shiftCount n) x)) :
    GrForm.Runs i { qp, r1, a := r3, b := r2, ok := fun x n v => eachLane w (r n.toNat) x v } :=
  .two _ runs fun x n => eachLane_map1 hw (h n) x

/-- Each instruction of formats I3, I4 and I9 gives the word that its rule describes. -/
theorem permuteForm_runs {i : Instr} {f : GrForm} (h : permuteForm i = some f) : GrForm.Runs i f := by
  unfold permuteForm at h
  split at h
  case h_1 qp r1 r2 c =>
    obtain ⟨perm, named, rfl⟩ := Option.map_eq_some_iff.mp h
    exact .one _ (exec_mux1_of_lookup named qp r1 r2) rfl fun x _ => lane_mux1 perm x
  case h_2 c => cases h; exact .one _ (fun _ => rfl) rfl fun x _ => lane_mux2 c x
  case h_3 => cases h; exact .one _ (fun _ => rfl) rfl fun x _ => toNat_popcount x
  case h_4 => cases h

/-- Each instruction of formats I5 to I8 shifts words or elements as its rule says. -/
theorem shiftForm_runs {i : Instr} {f : GrForm} (h : shiftForm i = some f) : GrForm.Runs i f := by
  unfold shiftForm at h
  split at h <;> cases h
  -- right
  · exact .two shrVar (fun _ => rfl) isShr_shrVar
  · exact .two shrUVar (fun _ => rfl) isShr_shrUVar
  · exact .shiftsByGr (fun n x => x.sshiftRight n) (fun _ => rfl) (by decide) fun n x => (isShr_sshiftRight _ x).of_shiftCount (by decide)
  · exact .shiftsBy (·.sshiftRight _) (fun _ => rfl) (by decide) (isShr_sshiftRight _)
  · exact .shiftsByGr (fun n x => x >>> n) (fun _ => rfl) (by decide) fun n x => (isShr_ushiftRight _ x).of_shiftCount (by decide)
  · exact .shiftsBy (· >>> _) (fun _ => rfl) (by decide) (isShr_ushiftRight _)
  · exact .shiftsByGr (fun n x => x.sshiftRight n) (fun _ => rfl) (by decide) fun n x => (isShr_sshiftRight _ x).of_shiftCount (by decide)
  · exact .shiftsBy (·.sshiftRight _) (fun _ => rfl) (by decide) (isShr_sshiftRight _)
  · exact .shiftsByGr (fun n x => x >>> n) (fun _ => rfl) (by decide) fun n x => (isShr_ushiftRight _ x).of_shiftCount (by decide)
  · exact .shiftsBy (· >>> _) (fun _ => rfl) (by decide) (isShr_ushiftRight _)
  -- left
  · exact .two shlVar (fun _ => rfl) isShl_shlVar
  · exact .shiftsByGr (fun n x => x <<< n) (fun _ => rfl) (by decide) fun n x => (isShl_shiftLeft _ x).of_shiftCount (by decide)
  · exact .shiftsBy (· <<< _) (fun _ => rfl) (by decide) (isShl_shiftLeft _)
  · exact .shiftsByGr (fun n x => x <<< n) (fun _ => rfl) (by decide) fun n x => (isShl_shiftLeft _ x).of_shiftCount (by decide)
  · exact .shiftsBy (· <<< _) (fun _ => rfl) (by decide) (isShl_shiftLeft _)

/-! ### Fields (R348 to R351, R364) -/

theorem lowMask_bit (len k : Nat) (hk : k < 64) : (lowMask len).getLsbD k = decide (k < len) := by
  rw [lowMask, BitVec.getLsbD_ofNat, Nat.testBit_two_pow_sub_one, decide_eq_true hk, Bool.true_and]

theorem isExt_zxt (n : Nat) (x : Word) : isExt false n x (zxt n x) := by
  intro k hk
  rw [zxt, BitVec.getLsbD_setWidth, BitVec.getLsbD_setWidth, decide_eq_true hk]
  by_cases h : k < n <;> simp [h]

theorem isExt_sxt {n : Nat} (hn : 0 < n) (x : Word) : isExt true n x (sxt n x) := by
  intro k hk
  rw [sxt, BitVec.getLsbD_signExtend, decide_eq_true hk, BitVec.getLsbD_setWidth, BitVec.msb_eq_getLsbD_last, BitVec.getLsbD_setWidth]
  by_cases h : k < n <;> simp [h, hn]

theorem isExtr_extrU (pos len6d : BitVec 6) (x : Word) : isExtr false pos.toNat (len6d.toNat + 1) x (extrU pos len6d x) := by
  intro k hk
  rw [extrU, BitVec.getLsbD_and, BitVec.getLsbD_ushiftRight, lowMask_bit _ k hk, extrLen]
  dsimp only
  by_cases h : k < min (len6d.toNat + 1) (64 - pos.toNat)
  · rw [if_pos h, decide_eq_true h, Bool.and_true]
  · rw [if_neg h, decide_eq_false h, Bool.and_false, Bool.false_and]

/-- Moving a word's low `n` bits to the top and back repeats the last of them. -/
theorem shiftLeft_sshiftRight_bit (x : Word) {n : Nat} (h0 : 0 < n) (hn : n ≤ 64) {k : Nat} (hk : k < 64) :
    ((x <<< (64 - n)).sshiftRight (64 - n)).getLsbD k = x.getLsbD (if k < n then k else n - 1) := by
  rw [BitVec.getLsbD_sshiftRight, decide_eq_false (by omega), BitVec.msb_eq_getLsbD_last, BitVec.getLsbD_shiftLeft,
    BitVec.getLsbD_shiftLeft]
  by_cases h : k < n
  · rw [if_pos h, if_pos (by omega), decide_eq_true (by omega), decide_eq_false (by omega), show 64 - n + k - (64 - n) = k by omega]
    rfl
  · rw [if_neg h, if_neg (by omega), decide_eq_true (by omega), decide_eq_false (by omega), show 64 - 1 - (64 - n) = n - 1 by omega]
    rfl

theorem isExtr_extrS (pos len6d : BitVec 6) (x : Word) : isExtr true pos.toNat (len6d.toNat + 1) x (extrS pos len6d x) := by
  intro k hk
  have hpos := pos.isLt
  have field := isExtr_extrU pos len6d x
  unfold isExtr at field
  rw [extrS, extrLen]
  generalize hn : min (len6d.toNat + 1) (64 - pos.toNat) = n at *
  rw [shiftLeft_sshiftRight_bit _ (by omega) (by omega) hk]
  dsimp only at field ⊢
  by_cases h : k < n
  · rw [if_pos h, if_pos h, field k hk]
    exact if_pos h
  · rw [if_neg h, if_neg h, Bool.true_and, field (n - 1) (by omega), Nat.add_sub_assoc (by omega)]
    exact if_pos (by omega)

theorem depZ_bit (pos : BitVec 6) (len : Nat) (x : Word) {k : Nat} (hk : k < 64) :
    (depZ pos len x).getLsbD k = (decide (pos.toNat ≤ k ∧ k < pos.toNat + len) && x.getLsbD (k - pos.toNat)) := by
  rw [depZ, BitVec.getLsbD_shiftLeft, BitVec.getLsbD_and, lowMask_bit _ _ (by omega)]
  by_cases h : pos.toNat ≤ k
  · by_cases h' : k < pos.toNat + len
    · simp [hk, h, h', show k - pos.toNat < len by omega]
    · simp [h', show ¬ k - pos.toNat < len by omega]
  · simp [h, show k < pos.toNat by omega]

theorem isDep_depZ (pos : BitVec 6) (len : Nat) (x : Word) : isDep pos.toNat len x 0 (depZ pos len x) := by
  intro k hk
  rw [depZ_bit pos len x hk]
  dsimp only
  by_cases h : pos.toNat ≤ k ∧ k < pos.toNat + len
  · rw [if_pos h, decide_eq_true h, Bool.true_and]
  · rw [if_neg h, decide_eq_false h, Bool.false_and]
    exact BitVec.getLsbD_zero.symm

/-- The field's mask, cleared in the word that takes the field. -/
theorem fieldMask_bit (pos : BitVec 6) (len : Nat) {k : Nat} (hk : k < 64) :
    (lowMask len <<< pos.toNat).getLsbD k = decide (pos.toNat ≤ k ∧ k < pos.toNat + len) := by
  rw [BitVec.getLsbD_shiftLeft, lowMask_bit _ _ (by omega), decide_eq_true hk, Bool.true_and, ← decide_not, ← Bool.decide_and]
  exact decide_eq_decide.mpr (by omega)

theorem isDep_deposit (pos : BitVec 6) (len : Nat) (x y : Word) : isDep pos.toNat len x y (deposit pos len x y) := by
  intro k hk
  rw [deposit, BitVec.getLsbD_or, BitVec.getLsbD_and, BitVec.getLsbD_not, fieldMask_bit pos len hk, depZ_bit pos len x hk]
  by_cases h : pos.toNat ≤ k ∧ k < pos.toNat + len
  · simp [h]
  · simp [h, hk]

theorem shrp_bit (c : BitVec 6) (x y : Word) {k : Nat} (hk : k < 64) : (shrp c x y).getLsbD k =
    if c.toNat + k < 64 then y.getLsbD (c.toNat + k) else x.getLsbD (c.toNat + k - 64) := by
  rw [shrp, BitVec.getLsbD_extractLsb', decide_eq_true hk, BitVec.getLsbD_append, Bool.true_and]

/-- The search finds the first zero element in the order `f`, or that there is none (R364). -/
theorem isCzx_firstZero (w : Nat) (f : Nat → Nat) (x : Word) : isCzx w f x (firstZero w x f (64 / w)) := by
  have small (n : Nat) (h : n ≤ 64 / w) : (BitVec.ofNat 64 n).toNat = n := by
    rw [BitVec.toNat_ofNat, Nat.mod_eq_of_lt]
    have := Nat.div_le_self 64 w
    omega
  unfold isCzx firstZero
  cases found : (List.range (64 / w)).find? (fun i => elem w x (f i) = 0) with
  | none =>
    rw [Option.getD_none, small _ le_rfl]
    refine ⟨le_rfl, fun k hk => ?_, fun h => absurd h (lt_irrefl _)⟩
    exact fun zero => List.find?_eq_none.mp found k (List.mem_range.mpr hk) (decide_eq_true zero)
  | some n =>
    obtain ⟨zero, within, before⟩ := List.find?_range_eq_some.mp found
    have hn := List.mem_range.mp within
    rw [Option.getD_some, small _ hn.le]
    refine ⟨hn.le, fun k hk => ?_, fun _ => of_decide_eq_true zero⟩
    exact of_decide_eq_false ((Bool.not_eq_true' _).mp (before k hk))

/-- An instruction without a register source is one that ignores GR[0]. -/
theorem grOp0_eq_grOp1 (s : State) (qp : PredIdx) (r1 : GrIdx) (v : Word) : grOp0 s qp r1 v = grOp1 s qp r1 0 (fun _ => v) := by
  unfold grOp0 grOp1
  rw [State.readGr_ok s.grVisible_zero]
  rfl

/-- Each instruction of formats I10 to I15 and I29 gives the word that its rule describes. -/
theorem fieldForm_runs {i : Instr} {f : GrForm} (h : fieldForm i = some f) : GrForm.Runs i f := by
  unfold fieldForm at h
  split at h <;> cases h
  -- extracts and deposits
  · next c => exact .two (shrp c) (fun _ => rfl) fun x y k => shrp_bit c x y
  · exact .one _ (fun _ => rfl) rfl fun x _ => isExtr_extrU _ _ x
  · exact .one _ (fun _ => rfl) rfl fun x _ => isExtr_extrS _ _ x
  · exact .one _ (fun _ => rfl) rfl fun x _ => isDep_depZ _ _ x
  · exact .one _ (fun s => grOp0_eq_grOp1 s _ _ _) rfl fun _ _ => isDep_depZ _ _ _
  · exact .one _ (fun _ => rfl) rfl fun x _ => isDep_deposit _ _ _ x
  · exact .two _ (fun _ => rfl) (isDep_deposit _ _)
  -- extensions
  · exact .one _ (fun _ => rfl) rfl fun x _ => isExt_sxt (by decide) x
  · exact .one _ (fun _ => rfl) rfl fun x _ => isExt_zxt 8 x
  · exact .one _ (fun _ => rfl) rfl fun x _ => isExt_sxt (by decide) x
  · exact .one _ (fun _ => rfl) rfl fun x _ => isExt_zxt 16 x
  · exact .one _ (fun _ => rfl) rfl fun x _ => isExt_sxt (by decide) x
  · exact .one _ (fun _ => rfl) rfl fun x _ => isExt_zxt 32 x
  -- zero searches
  · exact .one _ (fun _ => rfl) rfl fun x _ => isCzx_firstZero 8 _ x
  · exact .one _ (fun _ => rfl) rfl fun x _ => isCzx_firstZero 8 _ x
  · exact .one _ (fun _ => rfl) rfl fun x _ => isCzx_firstZero 16 _ x
  · exact .one _ (fun _ => rfl) rfl fun x _ => isCzx_firstZero 16 _ x

end Sys2Proof.Forms

section

open Sys2Proof Machine Forms

/-- Settles O24: each instruction runs the function its rule names; a reserved permutation is refused before the predicate is looked at. -/
theorem permuteShiftAndFieldResults : Obligations.PermuteShiftAndFieldResults := by
  unfold Obligations.PermuteShiftAndFieldResults
  refine ⟨⟨fun _ _ h => (permuteForm_runs h).correct, fun qp r1 r2 c s reserved => ?_⟩,
    fun _ _ h => (shiftForm_runs h).correct, fun _ _ h => (fieldForm_runs h).correct⟩
  rw [exec_mux1_of_reserved reserved]
  exact takes_illegalOp s

end

end

section
/-! SUPPORT. The checks and operand reads that moves between register files are built from, and what an instruction makes of a body that
completes or is interrupted (R330, R490, R573, R586). -/

namespace Sys2Proof.Machine

open Sys2Proof.Forms

/-! ### Checks -/

theorem require_ok {c : Bool} (h : c = true) (e : Exc) : require c e = .ok () := if_pos h

theorem require_error {c : Bool} (h : c = false) (e : Exc) : require c e = .error e := if_neg (ne_true_of_eq_false h)

section Reads

variable {s : State} {r : GrIdx}

theorem State.sourceGr_ok (h : s.grVisible r = true) : s.sourceGr r = .ok () := require_ok h _

theorem State.sourceGr_bad (h : s.grVisible r = false) : s.sourceGr r = .error illegalOp := require_error h _

/-- A register that may be read for its value gives it. -/
theorem State.consumeGr_ok (h : usable s r) : s.consumeGr r = .ok (s.gr r).val := by
  obtain ⟨visible, clear⟩ := h
  unfold State.consumeGr
  rw [State.readGr_ok visible]
  exact if_neg (ne_true_of_eq_false clear)

theorem State.consumeGr_nat (visible : s.grVisible r = true) (nat : (s.gr r).nat = true) :
    s.consumeGr r = .error (natConsumption false false) := by
  unfold State.consumeGr
  rw [State.readGr_ok visible]
  exact if_pos nat

theorem State.privileged_ok (h : s.cpl = 0) : s.privileged = .ok () := require_ok (beq_iff_eq.mpr h) _

theorem State.fpEnabled_single {f : FrIdx} (h : s.frDisabled f = 0) : s.fpEnabled [f] = .ok () := by
  unfold State.fpEnabled
  rw [List.foldl_cons, List.foldl_nil, h]
  rfl

end Reads

/-! ### Outcomes -/

section Outcomes

variable {i : Instr} {s : State} {qp : PredIdx} {t : Except Exc Unit} {b : Except Exc Res}

/-- A short instruction whose body completes. -/
theorem yields_of_run {u : State} (runs : exec i s = run s qp t b) (short : isLong i = false) (hq : s.pred qp = true) (ht : t = .ok ())
    (hb : b = .ok { s := u }) : Yields i s u := by
  unfold Yields
  rw [runs, run_true ht hq, hb, short]
  rfl

/-- An instruction whose body is interrupted. -/
theorem takes_of_run {e : Intr} (hq : s.pred qp = true) (ht : t = .ok ()) (hb : b = .error (.intr e)) :
    Takes s (run s qp t b) e.vec e.code := by
  rw [run_true ht hq, hb]
  exact ⟨e, rfl, rfl, rfl⟩

end Outcomes

end Sys2Proof.Machine

end

section
/-! SUPPORT. Moves to branch registers and to the predicates (R356 to R359). -/

namespace Sys2Proof.Machine

open Sys2Proof.Forms

/-- A write of a branch register writes that register and nothing else. -/
theorem State.wroteBr_setBr (s : State) (b : BrIdx) (v : Word) : s.WroteBr (s.setBr b v) b v :=
  ⟨s.setBr_same b v, fun c hc => s.setBr_other b c v hc, rfl, rfl, fun _ => rfl⟩

theorem movToBr_body {s : State} {r2 : GrIdx} (b1 : BrIdx) (h : usable s r2) :
    ((s.consumeGr r2).bind fun v => (.ok { s := s.setBr b1 v } : Except Exc Res)) = .ok { s := s.setBr b1 (s.gr r2).val } := by
  rw [State.consumeGr_ok h]
  rfl

theorem movPr_body {s : State} {r2 : GrIdx} (mask : Word) (h : usable s r2) :
    ((s.consumeGr r2).bind fun v => (.ok { s := s.movPr mask v } : Except Exc Res)) = .ok { s := s.movPr mask (s.gr r2).val } := by
  rw [State.consumeGr_ok h]
  rfl

/-- A move to the predicates gives the bits that its mask selects, where the group has written no predicate (R358, R911). -/
theorem State.wrotePr_movPr {s : State} (hazard : noPrHazard s .norm) {mask v : Word} {pr : Nat → Bool}
    (h : ∀ k, k < 64 → (if k ≠ 0 ∧ mask.getLsbD k = true then v.getLsbD k else s.cur.pr.getLsbD k) = pr k) :
    s.WrotePr (s.movPr mask v) pr := by
  refine ⟨fun k hk => ?_, rfl, rfl, fun _ => rfl⟩
  have none : s.prHazard .alu = 0 := hazard
  rw [State.movPr, State.setPrMask_bit, none, show (0 : Word).getLsbD k = false from BitVec.getLsbD_zero]
  exact h k hk

/-- Bit 16 of the mask stands for the rotating predicates. -/
theorem prMask17_bit (mask17 : BitVec 17) {k : Nat} (hk : k < 64) : (prMask17 mask17).getLsbD k = mask17.getLsbD (min k 16) := by
  rw [prMask17, BitVec.getLsbD_signExtend, decide_eq_true hk, Bool.true_and, BitVec.msb_eq_getLsbD_last]
  split
  · rw [Nat.min_eq_left (by omega)]
  · rw [Nat.min_eq_right (by omega)]

/-- The rotating predicates, as a mask. -/
theorem rotMask_bit {k : Nat} (hk : k < 64) : (0xFFFFFFFFFFFF0000 : Word).getLsbD k = decide (16 ≤ k) := by
  revert k
  decide

theorem prRotValue_bit (imm28 : BitVec 28) {k : Nat} (h16 : 16 ≤ k) (hk : k < 64) :
    (prRotValue imm28).getLsbD k = imm28.getLsbD (min (k - 16) 27) := by
  rw [prRotValue, BitVec.getLsbD_signExtend, decide_eq_true hk, Bool.true_and, BitVec.msb_eq_getLsbD_last, BitVec.getLsbD_append,
    BitVec.getLsbD_append, if_neg (by omega : ¬ 28 + 16 - 1 < 16)]
  by_cases low : k < 28 + 16
  · rw [if_pos low, if_neg (by omega), Nat.min_eq_left (by omega)]
  · rw [if_neg low, Nat.min_eq_right (by omega)]

end Sys2Proof.Machine

section

open Sys2Proof Machine Forms

/-- Settles O29: the source is read for its value, and the write is that of the register file named. -/
theorem movesToBranchAndPredicateRegisters : Obligations.MovesToBranchAndPredicateRegisters := by
  unfold Obligations.MovesToBranchAndPredicateRegisters
  refine ⟨?_, fun qp r2 mask17 s hq source hazard => ?_, fun qp imm28 s hq hazard => ?_⟩
  · rintro i qp b1 r2 t h w s (rfl | rfl) hq source
    · exact ⟨_, yields_of_run rfl rfl hq rfl (movToBr_body b1 source), s.wroteBr_setBr b1 _⟩
    · exact ⟨_, yields_of_run rfl rfl hq rfl (movToBr_body b1 source), s.wroteBr_setBr b1 _⟩
  · refine ⟨_, yields_of_run rfl rfl hq rfl (movPr_body _ source), State.wrotePr_movPr hazard fun k hk => ?_⟩
    rw [prMask17_bit mask17 hk]
  · refine ⟨_, yields_of_run rfl rfl hq rfl rfl, State.wrotePr_movPr hazard fun k hk => ?_⟩
    rw [rotMask_bit hk]
    by_cases h16 : 16 ≤ k
    · rw [if_pos ⟨by omega, decide_eq_true h16⟩, if_pos h16, prRotValue_bit imm28 h16 hk]
    · rw [if_neg (by simp [h16]), if_neg h16]

end

end

section
/-! SUPPORT. Moves to application registers (R361, R362, R460, R461): the checks in the terms of the rules, what a write leaves in each
register, and the move of the backing store. -/

namespace Sys2Proof.Machine

open Sys2Proof.Forms

/-! ### Numbers of registers (R28) -/

theorem arReg_eq_rsc : ∀ n : BitVec 7, arReg n = .rsc ↔ n = 16 := by decide

theorem arReg_eq_bspstore : ∀ n : BitVec 7, arReg n = .bspstore ↔ n = 18 := by decide

theorem arReg_eq_rnat : ∀ n : BitVec 7, arReg n = .rnat ↔ n = 19 := by decide

theorem arReg_eq_itc : ∀ n : BitVec 7, arReg n = .itc ↔ n = 44 := by decide

theorem arReg_eq_pfs : ∀ n : BitVec 7, arReg n = .pfs ↔ n = 64 := by decide

theorem arReg_eq_ec : ∀ n : BitVec 7, arReg n = .ec ↔ n = 66 := by decide

theorem needsLazy_arReg : ∀ n : BitVec 7, (arReg n).needsLazy = true ↔ n = 18 ∨ n = 19 := by decide

theorem writePrivileged_arReg : ∀ n : BitVec 7, (arReg n).writePrivileged = true ↔ n.toNat < 8 ∨ n = 44 := by decide

/-- Only RSC and FPSR have bits that a write may not set. -/
theorem reservedBits_arReg : ∀ n : BitVec 7, (arReg n).reservedBits =
    if n = 16 then 0xFFFFFFFFC000FFE0 else if n = 40 then 0xFC00000000000000 else 0 := by decide

/-! ### Units and modes -/

theorem arInUnit_iff (iUnit : Bool) (n : BitVec 7) : arInUnit iUnit n = true ↔ if iUnit then 48 ≤ n.toNat else n.toNat < 64 := by
  cases iUnit <;> simp [arInUnit]

/-- BSPSTORE and RNAT are reached in lazy mode alone. -/
theorem lazy_iff (s : State) (n : BitVec 7) : (!(arReg n).needsLazy || rscMode s.old.rsc == 0) = true ↔
    (n = 18 ∨ n = 19 → s.old.rsc.extractLsb' 0 2 = 0) := by
  rw [← needsLazy_arReg, Bool.or_eq_true, beq_iff_eq, Bool.not_eq_true', ← Bool.not_eq_true, ← imp_iff_not_or]
  rfl

/-! ### What a write leaves -/

/-- Nothing but application registers and the group's notes. -/
theorem State.onlyAr_setAr (s : State) (r : ArReg) (v : Word) : onlyAr s (s.setAr r v) := by
  cases r <;> exact ⟨rfl, rfl, rfl, rfl, rfl, rfl, rfl, rfl⟩

theorem State.onlyAr_refl (s : State) : onlyAr s s := ⟨rfl, rfl, rfl, rfl, rfl, rfl, rfl, rfl⟩

theorem onlyAr_trans {s t u : State} (h : onlyAr s t) (h' : onlyAr t u) : onlyAr s u := by
  obtain ⟨rest, stat, bank0, bank1, stacked, fr, pr, br⟩ := h
  obtain ⟨rest', stat', bank0', bank1', stacked', fr', pr', br'⟩ := h'
  refine ⟨rest'.trans ?_, stat'.trans stat, bank0'.trans bank0, bank1'.trans bank1, stacked'.trans stacked, fr'.trans fr, pr'.trans pr,
    br'.trans br⟩
  rw [rest]

theorem State.setAr_nclean (s : State) (r : ArReg) (v : Word) : (s.setAr r v).nclean = s.nclean := by
  cases r <;> rfl

/-- A write leaves every other register of a snapshot alone. -/
theorem Regs.ar_setAr_ne (g : Regs) (itc v : Word) {r q : ArReg} (h : q ≠ r) : (g.setAr r v).ar itc q = g.ar itc q := by
  cases r with
  | kr i =>
    cases q with
    | kr j =>
      have : i.val ≠ j.val := fun e => h (congrArg ArReg.kr (Fin.ext e.symm))
      exact Vector.getElem_set_ne i.isLt j.isLt this
    | _ => rfl
  | ia32 i =>
    cases q with
    | ia32 j =>
      have : i.val ≠ j.val := fun e => h (congrArg ArReg.ia32 (Fin.ext e.symm))
      exact Vector.getElem_set_ne i.isLt j.isLt this
    | _ => rfl
  | itc | ignored | reserved => rfl
  | rsc | bsp | bspstore | rnat | ccv | unat | fpsr | pfs | lc | ec => cases q <;> simp_all [Regs.setAr, Regs.ar]

/-- ITC is not part of a snapshot. -/
theorem Regs.ar_itc_irrelevant (g : Regs) (a b : Word) {q : ArReg} (h : q ≠ .itc) : g.ar a q = g.ar b q := by
  cases q with
  | itc => exact absurd rfl h
  | _ => rfl

theorem State.setAr_other (s : State) (v : Word) {r q : ArReg} (h : q ≠ r) :
    (s.setAr r v).cur.ar (s.setAr r v).itc q = s.cur.ar s.itc q := by
  by_cases hr : r = .itc
  · subst hr
    exact (Regs.ar_itc_irrelevant _ _ _ h).trans (Regs.ar_setAr_ne _ s.itc _ h)
  · unfold State.setAr
    dsimp only
    rw [if_neg hr]
    exact Regs.ar_setAr_ne _ _ _ h

/-- What a register holds once `v` is moved to it: RSC clamped, RNAT, PFS and EC cut to their fields (R361, R460, R592). -/
def State.arKeeps (s : State) (r : ArReg) (v : Word) : Word :=
  match r with
  | .rsc => s.clampRsc v
  | .rnat => v &&& 0x7FFFFFFFFFFFFFFF
  | .pfs => v &&& 0xC3F0003FFFFFFFFF
  | .ec => (v.setWidth 6).setWidth 64
  | .ignored => 0
  | .kr _ | .bsp | .bspstore | .ia32 _ | .ccv | .unat | .fpsr | .itc | .lc | .reserved => v

/-- A checked move to a register other than BSPSTORE: the register keeps what it can hold. -/
theorem State.writeAr_keeps (s : State) (v : Word) {r : ArReg} (hres : r ≠ .reserved) (hbsp : r ≠ .bsp) (hstore : r ≠ .bspstore)
    (hw : s.wawFree (.ar r.place) .alu = false) : (s.writeAr r v).cur.ar (s.writeAr r v).itc r = s.arKeeps r v := by
  cases r <;> simp_all [State.writeAr, State.setAr, Regs.setAr, Regs.ar, State.arKeeps]

/-- A checked move to a register other than BSPSTORE is a write of that register, or nothing. -/
theorem State.writeAr_eq (s : State) (v : Word) {r : ArReg} (hstore : r ≠ .bspstore) :
    s.writeAr r v = s ∨ ∃ w, s.writeAr r v = s.setAr r w := by
  cases r with
  | bspstore => exact absurd rfl hstore
  | ignored | reserved | bsp => exact .inl rfl
  | kr | rsc | rnat | ia32 | ccv | unat | fpsr | itc | pfs | lc | ec => exact .inr ⟨_, rfl⟩

/-- A checked move to a register other than BSPSTORE leaves everything else alone. -/
theorem State.writeAr_frame (s : State) (v : Word) {r : ArReg} (hstore : r ≠ .bspstore) :
    onlyAr s (s.writeAr r v) ∧ (s.writeAr r v).nclean = s.nclean ∧
      ∀ q, q ≠ r → (s.writeAr r v).cur.ar (s.writeAr r v).itc q = s.cur.ar s.itc q := by
  rcases s.writeAr_eq v hstore with same | ⟨w, written⟩
  · rw [same]
    exact ⟨s.onlyAr_refl, rfl, fun _ _ => rfl⟩
  · rw [written]
    exact ⟨s.onlyAr_setAr r w, s.setAr_nclean r w, fun q hq => s.setAr_other w hq⟩

/-- RSC.pl is raised to PSR.cpl where it is below it (R592). -/
theorem State.clampRsc_bits (s : State) (v : Word) : isBits (s.clampRsc v) fun k => if k = 2 ∨ k = 3 then
    (if (v.extractLsb' 2 2).toNat < s.cpl.toNat then s.cpl.getLsbD (k - 2) else v.getLsbD k) else v.getLsbD k := by
  intro k hk
  unfold State.clampRsc
  by_cases low : rscPl v < s.cpl
  · have below : (v.extractLsb' 2 2).toNat < s.cpl.toNat := low
    simp only [if_pos low, if_pos below, getLsbD_putField v 2 k s.cpl hk, show 2 ≤ k ∧ k < 2 + 2 ↔ k = 2 ∨ k = 3 by omega]
  · have above : ¬ (v.extractLsb' 2 2).toNat < s.cpl.toNat := low
    simp only [if_neg low, if_neg above, ite_self]

/-- What a register keeps is what the rule of its number asks for. -/
theorem arHolds_arKeeps (s : State) (n : BitVec 7) (v : Word) : arHolds s n v (s.arKeeps (arReg n) v) := by
  unfold arHolds
  by_cases h16 : n = 16
  · rw [if_pos h16, (arReg_eq_rsc n).mpr h16]
    exact s.clampRsc_bits v
  by_cases h19 : n = 19
  · rw [if_neg h16, if_pos h19, (arReg_eq_rnat n).mpr h19]
    rfl
  by_cases h64 : n = 64
  · rw [if_neg h16, if_neg h19, if_pos h64, (arReg_eq_pfs n).mpr h64]
    rfl
  by_cases h66 : n = 66
  · rw [if_neg h16, if_neg h19, if_neg h64, if_pos h66, (arReg_eq_ec n).mpr h66]
    simp only [State.arKeeps, BitVec.toNat_setWidth]
    omega
  rw [if_neg h16, if_neg h19, if_neg h64, if_neg h66]
  by_cases ignored : arReg n = .ignored
  · rw [if_pos ignored, ignored]
    rfl
  rw [if_neg ignored]
  cases named : arReg n with
  | rsc => exact absurd ((arReg_eq_rsc n).mp named) h16
  | rnat => exact absurd ((arReg_eq_rnat n).mp named) h19
  | pfs => exact absurd ((arReg_eq_pfs n).mp named) h64
  | ec => exact absurd ((arReg_eq_ec n).mp named) h66
  | ignored => exact absurd named ignored
  | kr | bsp | bspstore | ia32 | ccv | unat | fpsr | itc | lc | reserved => rfl

/-! ### The move of the backing store (R460; log 18) -/

theorem bspstoreMask_aligned (a : Word) : (a &&& ~~~ 7#64).toNat % 8 = 0 := by
  have clear : (a &&& ~~~ 7#64).extractLsb' 0 3 = 0 := by
    rw [BitVec.extractLsb'_and, BitVec.extractLsb'_not_of_lt (by decide)]
    exact BitVec.and_zero
  exact (extractLsb'_zero_iff _ 3).1 clear

/-- The dirty registers keep their number. -/
theorem State.writeBspstore_ndirty (s : State) (v : Word) (h : s.ndirty ≤ 96) : (s.writeBspstore v).ndirty = s.ndirty := by
  have span := between_rseAdd (bspstoreMask_aligned ((s.setAr .bspstore v).setAr .rnat (s.free 8000)).cur.bspstore)
    (show s.ndirty ≤ 200 by omega)
  obtain ⟨-, -, -, count⟩ := between_iff.1 span
  exact count

theorem State.writeBspstore_bspstore (s : State) (v : Word) (hw : s.wawFree (.ar 18) .alu = false) :
    (s.writeBspstore v).cur.bspstore = v &&& 0xFFFFFFFFFFFFFFF8 := by
  have held : (s.setAr .bspstore v).cur.bspstore = v := by simp [State.setAr, Regs.setAr, ArReg.place, hw]
  change (s.setAr .bspstore v).cur.bspstore &&& ~~~ 7#64 = _
  rw [held]
  rfl

theorem State.writeBspstore_onlyAr (s : State) (v : Word) : onlyAr s (s.writeBspstore v) :=
  onlyAr_trans (onlyAr_trans (s.onlyAr_setAr .bspstore v) (State.onlyAr_setAr _ .rnat (s.free 8000))) ⟨rfl, rfl, rfl, rfl, rfl, rfl, rfl, rfl⟩

theorem State.writeBspstore_other (s : State) (v : Word) {r : ArReg} (h1 : r ≠ .bspstore) (h2 : r ≠ .bsp) (h3 : r ≠ .rnat) :
    (s.writeBspstore v).cur.ar (s.writeBspstore v).itc r = s.cur.ar s.itc r := by
  cases r with
  | bspstore => exact absurd rfl h1
  | bsp => exact absurd rfl h2
  | rnat => exact absurd rfl h3
  | _ => rfl

end Sys2Proof.Machine

namespace Sys2Proof.Forms

open Sys2Proof.Machine

/-! ### The checks in the terms of the rules -/

theorem ArForm.legal_iff (s : State) (f : ArForm) :
    (arInUnit f.i f.ar3 && s.arWritable (arReg f.ar3)) = true ↔ f.legal s := by
  unfold State.arWritable ArForm.legal
  rw [Bool.and_eq_true, Bool.and_eq_true, Bool.and_eq_true, bne_iff_ne, bne_iff_ne, arInUnit_iff, lazy_iff, and_assoc]

theorem ArForm.allowed_iff (s : State) (f : ArForm) :
    (!((arReg f.ar3).writePrivileged && s.cpl != 0)) = true ↔ f.allowed s := by
  unfold ArForm.allowed
  rw [← writePrivileged_arReg, Bool.not_eq_true', Bool.and_eq_false_imp, bne_eq_false_iff_eq]

theorem ArForm.clean_iff (s : State) (f : ArForm) :
    (f.value s &&& (arReg f.ar3).reservedBits == 0) = true ↔ f.clean s := by
  unfold ArForm.clean
  rw [beq_iff_eq, reservedBits_arReg]
  by_cases h16 : f.ar3 = 16
  · rw [if_pos h16]
    exact ⟨fun h => ⟨fun _ => h, fun h40 => absurd (h16.symm.trans h40) (by decide)⟩, fun h => h.1 h16⟩
  by_cases h40 : f.ar3 = 40
  · rw [if_neg h16, if_pos h40]
    exact ⟨fun h => ⟨fun e => absurd e h16, fun _ => h⟩, fun h => h.2 h40⟩
  · rw [if_neg h16, if_neg h40]
    exact ⟨fun _ => ⟨fun e => absurd e h16, fun e => absurd e h40⟩, fun _ => BitVec.and_zero⟩

/-! ### Forms and how they run -/

/-- The check that the source is in the frame. -/
def ArForm.source (s : State) (f : ArForm) : Except Exc Unit :=
  match f.src with
  | some r2 => s.sourceGr r2
  | none => .ok ()

/-- The read of the source. -/
def ArForm.read (s : State) (f : ArForm) : Except Exc Word :=
  match f.src with
  | some r2 => s.consumeGr r2
  | none => .ok f.imm

/-- Every move to an application register checks, reads and writes in one order. -/
theorem arForm_runs {i : Instr} {f : ArForm} (h : arForm i = some f) :
    isLong i = false ∧ ∀ s, exec i s = run s f.qp (.ok ()) (s.moveToAr f.i f.ar3 (f.source s) (f.read s)) := by
  unfold arForm at h
  split at h <;> cases h <;> exact ⟨rfl, fun _ => rfl⟩

section Steps

variable {s : State} {f : ArForm}

theorem ArForm.source_ok (h : ∀ r ∈ f.src, s.grVisible r = true) : f.source s = .ok () := by
  obtain ⟨qp, i, ar3, src, imm⟩ := f
  cases src with
  | some r2 => exact State.sourceGr_ok (h r2 rfl)
  | none => rfl

theorem ArForm.read_ok (h : ∀ r ∈ f.src, usable s r) : f.read s = .ok (f.value s) := by
  obtain ⟨qp, i, ar3, src, imm⟩ := f
  cases src with
  | some r2 => exact State.consumeGr_ok (h r2 rfl)
  | none => rfl

variable {source : Except Exc Unit} {value : Except Exc Word}

/-- A move that the rules refuse is an Illegal Operation before anything else is looked at. -/
theorem moveToAr_illegal (h : ¬ f.legal s) : s.moveToAr f.i f.ar3 source value = .error illegalOp := by
  unfold State.moveToAr
  dsimp only
  rw [require_error (Bool.eq_false_iff.mpr fun ok => h ((f.legal_iff s).mp ok))]
  rfl

theorem moveToAr_source (h : f.legal s) {e : Exc} (hs : source = .error e) : s.moveToAr f.i f.ar3 source value = .error e := by
  unfold State.moveToAr
  dsimp only
  rw [require_ok ((f.legal_iff s).mpr h), hs]
  rfl

theorem moveToAr_privileged (h : f.legal s) (hs : source = .ok ()) (ha : ¬ f.allowed s) :
    s.moveToAr f.i f.ar3 source value = .error privilegedReg := by
  unfold State.moveToAr
  dsimp only
  rw [require_ok ((f.legal_iff s).mpr h), hs, require_error (Bool.eq_false_iff.mpr fun ok => ha ((f.allowed_iff s).mp ok))]
  rfl

theorem moveToAr_value (h : f.legal s) (hs : source = .ok ()) (ha : f.allowed s) {e : Exc} (hv : value = .error e) :
    s.moveToAr f.i f.ar3 source value = .error e := by
  unfold State.moveToAr
  dsimp only
  rw [require_ok ((f.legal_iff s).mpr h), hs, require_ok ((f.allowed_iff s).mpr ha), hv]
  rfl

theorem moveToAr_reserved (h : f.legal s) (hs : source = .ok ()) (ha : f.allowed s) (hv : value = .ok (f.value s)) (hc : ¬ f.clean s) :
    s.moveToAr f.i f.ar3 source value = .error reservedField := by
  have refused := require_error (Bool.eq_false_iff.mpr fun ok => hc ((f.clean_iff s).mp ok)) reservedField
  unfold State.moveToAr
  dsimp only
  rw [require_ok ((f.legal_iff s).mpr h), hs, require_ok ((f.allowed_iff s).mpr ha), hv]
  change (require _ _).bind _ = _
  rw [refused]
  rfl

theorem moveToAr_ok (h : f.legal s) (hs : source = .ok ()) (ha : f.allowed s) (hv : value = .ok (f.value s)) (hc : f.clean s) :
    s.moveToAr f.i f.ar3 source value = .ok { s := s.writeAr (arReg f.ar3) (f.value s) } := by
  have taken := require_ok ((f.clean_iff s).mpr hc) reservedField
  unfold State.moveToAr
  dsimp only
  rw [require_ok ((f.legal_iff s).mpr h), hs, require_ok ((f.allowed_iff s).mpr ha), hv]
  change (require _ _).bind _ = _
  rw [taken]
  rfl

end Steps

/-! ### Results and faults -/

section Results

variable {i : Instr} {f : ArForm}

/-- A move that passes the checks yields what the write leaves. -/
theorem ArForm.yields (h : arForm i = some f) {s : State} (hq : s.pred f.qp = true) (legal : f.legal s) (allowed : f.allowed s)
    (source : ∀ r ∈ f.src, usable s r) (clean : f.clean s) : Yields i s (s.writeAr (arReg f.ar3) (f.value s)) := by
  obtain ⟨short, runs⟩ := arForm_runs h
  exact yields_of_run (runs s) short hq rfl
    (moveToAr_ok legal (f.source_ok fun r hr => (source r hr).1) allowed (f.read_ok source) clean)

theorem ArForm.correct_of_arForm (h : arForm i = some f) : f.Correct i := by
  intro s hq legal allowed source clean h18
  have ⟨_, hres, hbsp, _⟩ := legal
  have hstore : arReg f.ar3 ≠ .bspstore := fun e => h18 ((arReg_eq_bspstore _).mp e)
  obtain ⟨only, nclean, others⟩ := s.writeAr_frame (f.value s) hstore
  refine ⟨_, f.yields h hq legal allowed source clean, only, nclean, fun hw => ?_, others⟩
  rw [s.writeAr_keeps _ hres hbsp hstore hw]
  exact arHolds_arKeeps s f.ar3 _

theorem ArForm.movesBspstore_of_arForm (h : arForm i = some f) : f.MovesBspstore i := by
  intro s hq legal source h18 few
  have allowed : f.allowed s := by
    rintro (low | itc)
    · rw [h18] at low; exact absurd low (by decide)
    · rw [h18] at itc; exact absurd itc (by decide)
  have clean : f.clean s := by constructor <;> intro number <;> rw [h18] at number <;> exact absurd number (by decide)
  have yields := f.yields h hq legal allowed source clean
  rw [(arReg_eq_bspstore _).mpr h18] at yields
  exact ⟨_, yields, s.writeBspstore_onlyAr _, rfl, s.writeBspstore_ndirty _ few, s.writeBspstore_bspstore _,
    fun r h1 h2 h3 => s.writeBspstore_other _ h1 h2 h3⟩

theorem ArForm.faults_of_arForm (h : arForm i = some f) : f.Faults i := by
  intro s hq
  obtain ⟨-, runs⟩ := arForm_runs h
  rw [runs s]
  refine ⟨fun illegal => takes_of_run hq rfl (moveToAr_illegal illegal), fun legal => ?_, fun legal visible => ?_,
    fun legal allowed => ?_, fun legal allowed source => ?_⟩
  · rintro ⟨r, named, outside⟩
    have refused : f.source s = .error illegalOp := by
      unfold ArForm.source
      rw [named]
      exact State.sourceGr_bad outside
    exact takes_of_run hq rfl (moveToAr_source legal refused)
  · exact fun denied => takes_of_run hq rfl (moveToAr_privileged legal (f.source_ok visible) denied)
  · rintro ⟨r, named, visible, nat⟩
    have consumed : f.read s = .error (natConsumption false false) := by
      unfold ArForm.read
      rw [named]
      exact State.consumeGr_nat visible nat
    have inFrame : f.source s = .ok () := f.source_ok fun q hq => by
      rw [named] at hq
      cases hq
      exact visible
    exact takes_of_run hq rfl (moveToAr_value legal inFrame allowed consumed)
  · exact fun dirty => takes_of_run hq rfl
      (moveToAr_reserved legal (f.source_ok fun r hr => (source r hr).1) allowed (f.read_ok source) dirty)

end Results

end Sys2Proof.Forms

section

open Sys2Proof Machine Forms

/-- Settles O31: the checks are those of the rules, in their order, and the write is that of the register's kind. -/
theorem applicationRegisterWrites : Obligations.ApplicationRegisterWrites := by
  unfold Obligations.ApplicationRegisterWrites
  exact fun _ f h => ⟨f.correct_of_arForm h, f.movesBspstore_of_arForm h, f.faults_of_arForm h⟩

end

end

section
/-! SUPPORT. Moves to general registers (R356 to R365, R406, R460 to R469, R480 to R484): what a read of each register file gives and when it
faults, and what follows for the instruction that moves it. -/

namespace Sys2Proof.Machine

open Sys2Proof.Forms

/-! ### Application registers (R28, R363, R462) -/

/-- Of the registers that the I unit reaches none is reserved, bound to a mode or to a level. -/
theorem arReg_of_iUnit : ∀ n : BitVec 7, 48 ≤ n.toNat → arReg n ≠ .reserved ∧ n ≠ 18 ∧ n ≠ 19 ∧ n ≠ 44 := by decide

section AppRegs

variable {s : State} {iUnit : Bool} {n : BitVec 7}

/-- The checks that a read of an application register makes first. -/
theorem arReadable_iff : (arInUnit iUnit n && arReg n != .reserved && (!(arReg n).needsLazy || rscMode s.old.rsc == 0)) = true ↔
    ((if iUnit then 48 ≤ n.toNat else n.toNat < 64) ∧ arReg n ≠ .reserved) ∧ (n = 18 ∨ n = 19 → s.old.rsc.extractLsb' 0 2 = 0) := by
  rw [Bool.and_eq_true, Bool.and_eq_true, bne_iff_ne, arInUnit_iff, lazy_iff]

/-- ITC is read at level 0 alone where PSR.si = 1. -/
theorem itcReadable_iff : (!(arReg n == .itc && s.psrSi && s.cpl != 0)) = true ↔ (n = 44 → s.psrSi = true → s.cpl = 0) := by
  rw [← arReg_eq_itc, Bool.not_eq_true', Bool.and_eq_false_imp, Bool.and_eq_true, beq_iff_eq, bne_eq_false_iff_eq, and_imp]

theorem State.moveFromAr_ok (unit : if iUnit then 48 ≤ n.toNat else n.toNat < 64) (named : arReg n ≠ .reserved)
    (mode : n = 18 ∨ n = 19 → s.old.rsc.extractLsb' 0 2 = 0) (level : n = 44 → s.psrSi = true → s.cpl = 0) :
    s.moveFromAr iUnit n = .ok (s.old.ar s.itc (arReg n)) := by
  unfold State.moveFromAr
  dsimp only
  rw [require_ok (arReadable_iff.mpr ⟨⟨unit, named⟩, mode⟩), require_ok (itcReadable_iff.mpr level)]
  rfl

theorem State.moveFromAr_illegal (h : ¬ (((if iUnit then 48 ≤ n.toNat else n.toNat < 64) ∧ arReg n ≠ .reserved) ∧
    (n = 18 ∨ n = 19 → s.old.rsc.extractLsb' 0 2 = 0))) : s.moveFromAr iUnit n = .error illegalOp := by
  unfold State.moveFromAr
  dsimp only
  rw [require_error (Bool.eq_false_iff.mpr fun ok => h (arReadable_iff.mp ok))]
  rfl

/-- The interval timer is a register of the M unit that every mode reaches. -/
theorem State.moveFromAr_itc (secure : s.psrSi = true) (level : s.cpl ≠ 0) : s.moveFromAr false 44 = .error privilegedReg := by
  have reached : _ = true := (arReadable_iff (s := s) (iUnit := false) (n := 44)).mpr ⟨⟨by decide, by decide⟩, fun h => absurd h (by decide)⟩
  have refused := Bool.eq_false_iff.mpr fun ok => level ((itcReadable_iff (s := s) (n := 44)).mp ok rfl secure)
  unfold State.moveFromAr
  dsimp only
  rw [require_ok reached, require_error refused]
  rfl

end AppRegs

/-! ### Control registers (R463, R464) -/

section CtrlRegs

variable {s : State} {n : BitVec 7} {r : CrReg}

theorem State.crOk_read (named : crReg n = some r) (free : r.interruption = true → s.psrIc = false) : s.crOk n false = .ok r := by
  unfold State.crOk
  rw [named]
  refine if_neg ?_
  rw [Bool.false_and, Bool.false_or, Bool.and_eq_true]
  rintro ⟨interruption, collecting⟩
  exact absurd collecting (ne_true_of_eq_false (free interruption))

theorem State.crOk_unnamed (h : crReg n = none) : s.crOk n false = .error illegalOp := by
  unfold State.crOk
  rw [h]

theorem State.crOk_collecting (named : crReg n = some r) (interruption : r.interruption = true) (collecting : s.psrIc = true) :
    s.crOk n false = .error illegalOp := by
  unfold State.crOk
  rw [named]
  refine if_pos ?_
  rw [interruption, collecting]
  rfl

/-- A read of a control register other than IVR changes nothing. -/
theorem State.readCr_eq (s : State) (h : r ≠ .ivr) : s.readCr r = (crValue s r, s) := by
  cases r with
  | ivr => exact absurd rfl h
  | _ => rfl

end CtrlRegs

/-! ### PSR (R466 to R469) -/

/-- The user mask of the group, put into its place in PSR. -/
theorem State.psrRead_bit (s : State) {k : Nat} (hk : k < 64) :
    s.psrRead.getLsbD k = if k < 6 then s.umGroup.getLsbD k else s.psr.getLsbD k := by
  rw [State.psrRead, getLsbD_putField _ _ _ _ hk, Nat.sub_zero]
  simp only [Nat.zero_le, Nat.zero_add, true_and]

theorem psrMask_bit {k : Nat} (hk : k < 64) :
    (0x00000018FFFFFFFF : Word).getLsbD k = (decide (k < 6) || (0x00000018FFFFFFC0 : Word).getLsbD k) := by
  revert k
  decide

theorem psrMask_low {k : Nat} (hk : k < 6) : (0x00000018FFFFFFC0 : Word).getLsbD k = false := by
  revert k
  decide

theorem State.psrRead_masked (s : State) :
    s.psrRead &&& 0x00000018FFFFFFFF = (s.psr &&& 0x00000018FFFFFFC0) ||| s.umGroup.setWidth 64 := by
  refine BitVec.eq_of_getLsbD_eq fun k hk => ?_
  rw [BitVec.getLsbD_and, BitVec.getLsbD_or, BitVec.getLsbD_and, BitVec.getLsbD_setWidth, s.psrRead_bit hk, psrMask_bit hk,
    decide_eq_true hk, Bool.true_and]
  by_cases low : k < 6
  · rw [if_pos low, decide_eq_true low, psrMask_low low, Bool.true_or, Bool.and_true, Bool.and_false, Bool.false_or]
  · rw [if_neg low, decide_eq_false low, Bool.false_or, BitVec.getLsbD_of_ge s.umGroup k (by omega), Bool.or_false]

/-- Under a mask of the low six bits PSR is the user mask. -/
theorem State.psrRead_user (s : State) {m : Word} (hm : m.toNat < 2 ^ 6) : s.psrRead &&& m = s.umGroup.setWidth 64 &&& m := by
  refine BitVec.eq_of_getLsbD_eq fun k hk => ?_
  rw [BitVec.getLsbD_and, BitVec.getLsbD_and, BitVec.getLsbD_setWidth, s.psrRead_bit hk, decide_eq_true hk, Bool.true_and]
  by_cases low : k < 6
  · rw [if_pos low]
  · have none : m.getLsbD k = false := Nat.testBit_lt_two_pow (hm.trans_le (Nat.pow_le_pow_right (by decide) (by omega)))
    rw [none, Bool.and_false, Bool.and_false]

/-! ### Floating-point registers (R406) -/

/-- A join as a number. -/
theorem toNat_join (x : BitVec n) (y : BitVec m) : (x ++ y).toNat = x.toNat * 2 ^ m + y.toNat := by
  rw [BitVec.toNat_append, ← Nat.shiftLeft_add_eq_or_of_lt y.isLt, Nat.shiftLeft_eq]

theorem getfExp_eq (f : FReg) : getfExp f = BitVec.ofNat 64 (f.exp.toNat + if f.sign then 2 ^ 17 else 0) := by
  have small := f.exp.isLt
  apply BitVec.eq_of_toNat_eq
  rw [getfExp, zext, BitVec.toNat_setWidth, toNat_join, BitVec.toNat_ofNat, Nat.add_comm]
  cases f.sign <;> simp

theorem getfSingle_eq (f : FReg) : zext (regToSingle f) = BitVec.ofNat 64 (FpFormat.single.toMem f) :=
  (BitVec.ofNat_toNat 64 (regToSingle f)).symm

theorem getfDouble_eq (f : FReg) : regToDouble f = BitVec.ofNat 64 (FpFormat.double.toMem f) :=
  ((BitVec.ofNat_toNat 64 (regToDouble f)).trans (BitVec.setWidth_eq _)).symm

/-! ### Indirect files (R480 to R484) -/

/-- The index that an address register names, in the region file and in the others (R484). -/
theorem index_rr (s : State) (r3 : GrIdx) : IndFile.index .rr (s.gr r3).val = regionIndex s r3 := by
  have := (s.gr r3).val.isLt
  change ((s.gr r3).val.extractLsb' 61 3).toNat = (s.gr r3).val.toNat / 2 ^ 61
  rw [BitVec.extractLsb'_toNat, Nat.shiftRight_eq_div_pow]
  omega

theorem index_byte {file : IndFile} (h : file ≠ .rr) (s : State) (r3 : GrIdx) : file.index (s.gr r3).val = fileIndex s r3 := by
  have byte : ((s.gr r3).val.extractLsb' 0 8).toNat = fileIndex s r3 := by simp [fileIndex]
  cases file with
  | rr => exact absurd rfl h
  | pmc | pmd | pkr | ibr | dbr | cpuid => exact byte

theorem State.readPmc_eq (s : State) (n : Nat) : s.readPmc n = pmcValue s n := by
  have thrice (v : Word) : 0#16 ++ v.setWidth 16 ++ v.setWidth 16 ++ v.setWidth 16 =
      BitVec.ofNat 64 (v.toNat % 2 ^ 16 * (2 ^ 32 + 2 ^ 16 + 1)) := by
    apply BitVec.eq_of_toNat_eq
    simp only [toNat_join, BitVec.toNat_ofNat, BitVec.toNat_setWidth]
    omega
  unfold State.readPmc pmcValue
  dsimp only
  rw [thrice]
  simp only [Bool.and_eq_true, Bool.not_eq_true', bne_iff_ne]

/-- A register of a file, by its number. -/
theorem getD_toList {m : Nat} (v : Vector Word m) {k : Nat} (hk : k < m) : v.toList.getD k 0 = v[k] := by
  rw [List.getD_eq_getElem _ _ (by simpa using hk), Vector.getElem_toList]

/-- The `pm` bit of a PMD stands in the PMC that controls it (R620, R628). -/
theorem State.pmcPm_pmcOf (s : State) (n : Nat) : s.pmcPm (pmcOf n) = pmdPm s n := by
  unfold State.pmcPm pmcOf pmdPm
  by_cases h1 : n ≤ 1
  · rw [if_pos (by omega), if_pos h1, if_pos rfl, getD_toList _ (by decide)]
  by_cases h3 : n ≤ 3 ∨ n = 17
  · rw [if_neg (by omega), if_pos (by omega), if_neg h1, if_pos h3, if_neg (by decide), getD_toList _ (by decide)]
  by_cases h7 : n ≤ 7
  · rw [if_neg (by omega), if_neg (by omega), if_pos (by omega), if_neg h1, if_neg h3, if_pos h7, if_neg (by omega)]
  · rw [if_neg (by omega), if_neg (by omega), if_neg (by omega), if_neg h1, if_neg h3, if_neg h7, if_neg (by decide),
      getD_toList _ (by decide)]

/-- A counter's 48 bits as a signed number (R637). -/
theorem counter_signed (v : Word) : (v.setWidth 48).signExtend 64 =
    BitVec.ofInt 64 (if (v.toNat % 2 ^ 48 : Int) < 2 ^ 47 then v.toNat % 2 ^ 48 else v.toNat % 2 ^ 48 - 2 ^ 48) := by
  rw [BitVec.signExtend, BitVec.toInt_eq_toNat_cond, BitVec.toNat_setWidth]
  refine congrArg (BitVec.ofInt 64) ?_
  split <;> split <;> omega

theorem State.readPmd_eq (s : State) (n : Nat) : s.readPmd n = pmdValue s n := by
  unfold State.readPmd pmdValue
  dsimp only
  rw [counter_signed, s.pmcPm_pmcOf]
  simp only [Bool.and_eq_true, Bool.or_eq_true, Bool.not_eq_true', bne_iff_ne, Nat.lt_succ_iff]
  rfl

section Files

variable {s : State} {file : IndFile} {r1 r3 : GrIdx}

/-- The body of a move from an indirect file (R484). -/
def State.moveFromInd (s : State) (file : IndFile) (r1 r3 : GrIdx) : Except Exc Res :=
  (s.sourceGr r3).bind fun _ => (if file.readPrivileged then s.privileged else .ok ()).bind fun _ => (s.consumeGr r3).bind fun a =>
    (require (decide (file.index a < file.size)) reservedField).bind fun _ =>
      .ok { s := s.setGr r1 (GReg.ofWord (s.readInd file (file.index a))) .alu }

theorem movFromInd_eq (s : State) (qp : PredIdx) (file : IndFile) (r1 r3 : GrIdx) :
    movFromInd s qp file r1 r3 = run s qp (s.targetGr r1) (s.moveFromInd file r1 r3) := rfl

/-- A read at an allowed level, of an index that names a register or not. -/
theorem State.moveFromInd_at (level : file.readPrivileged = true → s.cpl = 0) (source : usable s r3) : s.moveFromInd file r1 r3 =
    (require (decide (file.index (s.gr r3).val < file.size)) reservedField).bind fun _ =>
      .ok { s := s.setGr r1 (GReg.ofWord (s.readInd file (file.index (s.gr r3).val))) .alu } := by
  have allowed : (if file.readPrivileged then s.privileged else .ok ()) = .ok () := by
    split
    · next h => exact State.privileged_ok (level h)
    · rfl
  unfold State.moveFromInd
  rw [State.sourceGr_ok source.1, allowed, State.consumeGr_ok source]
  rfl

theorem State.moveFromInd_ok (level : file.readPrivileged = true → s.cpl = 0) (source : usable s r3)
    (within : file.index (s.gr r3).val < file.size) : s.moveFromInd file r1 r3 =
      .ok { s := s.setGr r1 (GReg.ofWord (s.readInd file (file.index (s.gr r3).val))) .alu } := by
  rw [State.moveFromInd_at level source, require_ok (decide_eq_true within)]
  rfl

theorem State.moveFromInd_outside (level : file.readPrivileged = true → s.cpl = 0) (source : usable s r3)
    (outside : file.size ≤ file.index (s.gr r3).val) : s.moveFromInd file r1 r3 = .error reservedField := by
  rw [State.moveFromInd_at level source, require_error (decide_eq_false (by omega))]
  rfl

end Files

end Sys2Proof.Machine

namespace Sys2Proof.Forms

open Sys2Proof.Machine

/-! ### Forms and how they run -/

/-- A short instruction whose body, where it is ready, writes what its form says. -/
theorem MoveForm.correct_of_run {i : Instr} {f : MoveForm} (body : State → Except Exc Res)
    (runs : ∀ s, exec i s = run s f.qp (s.targetGr f.r1) (body s)) (short : isLong i = false)
    (gives : ∀ s, f.ready s → body s = .ok { s := s.setGr f.r1 { val := f.val s, nat := f.nat s } .alu }) : f.Correct i := by
  intro s hq h1 ready
  exact ⟨_, yields_of_run (runs s) short hq (State.targetGr_ok h1) (gives s ready), s.wroteGr_setGr _ _ h1⟩

theorem movl_correct (qp : PredIdx) (r1 : GrIdx) (imm64 : Word) :
    MoveForm.Correct (.movlR1Imm64 qp r1 imm64) { qp, r1, val := fun _ => imm64 } := by
  intro s hq h1 _
  refine ⟨_, ?_, s.wroteGr_setGr _ _ h1⟩
  change runLong s qp (s.targetGr r1) _ = _
  rw [runLong_true (State.targetGr_ok h1) hq]
  rfl

theorem movFromAr_body {s : State} {iUnit : Bool} {n : BitVec 7} {v : Word} (r1 : GrIdx) (h : s.moveFromAr iUnit n = .ok v) :
    ((s.moveFromAr iUnit n).bind fun v => (.ok { s := s.setGr r1 (GReg.ofWord v) .alu } : Except Exc Res)) =
      .ok { s := s.setGr r1 { val := v, nat := false } .alu } := by
  rw [h]
  rfl

theorem movFromCr_body {s : State} {n : BitVec 7} {r : CrReg} (r1 : GrIdx) (level : s.cpl = 0) (named : crReg n = some r) (h : r ≠ .ivr)
    (free : r.interruption = true → s.psrIc = false) :
    ((s.crOk n false).bind fun r => s.privileged.bind fun _ =>
      (.ok { s := (s.readCr r).2.setGr r1 (GReg.ofWord (s.readCr r).1) .alu } : Except Exc Res)) =
      .ok { s := s.setGr r1 { val := crValue s ((crReg n).getD .eoi), nat := false } .alu } := by
  rw [State.crOk_read named free, State.privileged_ok level, named]
  change Except.ok _ = _
  rw [s.readCr_eq h]
  rfl

theorem getf_correct {i : Instr} {qp : PredIdx} {r1 : GrIdx} {f2 : FrIdx} {conv spec : FReg → Word}
    (runs : ∀ s, exec i s = getfBody s qp r1 f2 conv) (short : isLong i = false) (h : ∀ f, conv f = spec f) :
    MoveForm.Correct i { qp, r1, ready := fun s => s.frDisabled f2 = 0, val := fun s => spec (s.fr f2),
                         nat := fun s => s.fr f2 = FReg.natVal } := by
  refine MoveForm.correct_of_run _ runs short fun s ready => ?_
  rw [State.fpEnabled_single ready]
  exact congrArg (fun v => (.ok { s := s.setGr r1 { val := v, nat := decide (s.fr f2 = FReg.natVal) } .alu } : Except Exc Res)) (h (s.fr f2))

/-- Each move of another register to a general one gives the value that the rules name. -/
theorem moveForm_correct {i : Instr} {f : MoveForm} (h : moveForm i = some f) : f.Correct i := by
  unfold moveForm at h
  split at h <;> cases h
  -- branch registers, IP, the predicates, the long immediate
  · exact MoveForm.correct_of_run _ (fun _ => rfl) rfl fun _ _ => rfl
  · exact MoveForm.correct_of_run _ (fun _ => rfl) rfl fun s _ => by rw [bundleAddress_eq]; rfl
  · exact MoveForm.correct_of_run _ (fun _ => rfl) rfl fun _ _ => rfl
  · exact movl_correct _ _ _
  -- application registers
  · next qp r1 n =>
    refine MoveForm.correct_of_run _ (fun _ => rfl) rfl fun s unit => ?_
    obtain ⟨named, h18, h19, h44⟩ := arReg_of_iUnit n unit
    exact movFromAr_body r1 (State.moveFromAr_ok unit named (fun e => (e.elim h18 h19).elim) fun e => absurd e h44)
  · next qp r1 n =>
    refine MoveForm.correct_of_run _ (fun _ => rfl) rfl fun s ready => ?_
    obtain ⟨unit, named, mode, level⟩ := ready
    exact movFromAr_body r1 (State.moveFromAr_ok unit named mode level)
  -- control registers, PSR, the user mask
  · next qp r1 n =>
    refine MoveForm.correct_of_run _ (fun _ => rfl) rfl fun s ready => ?_
    obtain ⟨level, r, named, notIvr, free⟩ := ready
    exact movFromCr_body r1 level named notIvr free
  · refine MoveForm.correct_of_run _ (fun _ => rfl) rfl fun s level => ?_
    rw [State.privileged_ok level, s.psrRead_masked]
    rfl
  · refine MoveForm.correct_of_run _ (fun _ => rfl) rfl fun s _ => ?_
    rw [s.psrRead_user (by split <;> decide)]
    rfl
  -- floating-point registers
  · exact getf_correct (spec := FReg.sig) (fun _ => rfl) rfl fun _ => rfl
  · exact getf_correct (fun _ => rfl) rfl getfExp_eq
  · exact getf_correct (fun _ => rfl) rfl getfSingle_eq
  · exact getf_correct (fun _ => rfl) rfl getfDouble_eq

/-- A move from an indirect file whose index names a register. -/
theorem fileMove_correct {i : Instr} {file : IndFile} {qp : PredIdx} {r1 r3 : GrIdx} {ready : State → Prop} {val : State → Word}
    (runs : ∀ s, exec i s = movFromInd s qp file r1 r3) (short : isLong i = false)
    (allows : ∀ s, ready s → (file.readPrivileged = true → s.cpl = 0) ∧ usable s r3 ∧ file.index (s.gr r3).val < file.size)
    (reads : ∀ s, s.readInd file (file.index (s.gr r3).val) = val s) : MoveForm.Correct i { qp, r1, ready, val } := by
  refine MoveForm.correct_of_run (fun s => s.moveFromInd file r1 r3) (fun s => (runs s).trans (movFromInd_eq ..)) short fun s h => ?_
  obtain ⟨level, source, within⟩ := allows s h
  rw [State.moveFromInd_ok level source within, reads]
  rfl

/-- A file other than the region registers is indexed by a byte. -/
theorem byteFileMove_correct (file : IndFile) {i : Instr} {qp : PredIdx} {r1 r3 : GrIdx} {ready : State → Prop} {val : State → Word}
    (runs : ∀ s, exec i s = movFromInd s qp file r1 r3) (short : isLong i = false) (hrr : file ≠ .rr)
    (allows : ∀ s, ready s → (file.readPrivileged = true → s.cpl = 0) ∧ usable s r3 ∧ fileIndex s r3 < file.size)
    (reads : ∀ s, s.readInd file (fileIndex s r3) = val s) : MoveForm.Correct i { qp, r1, ready, val } := by
  refine fileMove_correct runs short (fun s h => ?_) fun s => ?_
  · rw [index_byte hrr]
    exact allows s h
  · rw [index_byte hrr]
    exact reads s

/-- Each move from an indirect file gives the register that the index names. -/
theorem fileForm_correct {i : Instr} {f : MoveForm} (h : fileForm i = some f) : f.Correct i := by
  unfold fileForm at h
  split at h <;> cases h
  -- the monitors' registers
  · exact byteFileMove_correct .pmc (fun _ => rfl) rfl nofun (fun _ h => ⟨fun _ => h.1, h.2⟩) fun s => s.readPmc_eq _
  · exact byteFileMove_correct .pmd (fun _ => rfl) rfl nofun (fun _ h => ⟨nofun, h⟩) fun s => s.readPmd_eq _
  -- region registers
  · next r3 =>
    exact fileMove_correct (file := .rr) (fun _ => rfl) rfl (fun _ h => ⟨fun _ => h.1, h.2, BitVec.isLt _⟩) fun s =>
      congrArg (s.rr.toList.getD · 0) (index_rr s r3)
  -- keys, breakpoints, the processor's name
  · exact byteFileMove_correct .pkr (fun _ => rfl) rfl nofun (fun _ h => ⟨fun _ => h.1, h.2⟩) fun _ => rfl
  · exact byteFileMove_correct .ibr (fun _ => rfl) rfl nofun (fun _ h => ⟨fun _ => h.1, h.2⟩) fun _ => rfl
  · exact byteFileMove_correct .dbr (fun _ => rfl) rfl nofun (fun _ h => ⟨fun _ => h.1, h.2⟩) fun _ => rfl
  · exact byteFileMove_correct .cpuid (fun _ => rfl) rfl nofun (fun _ h => ⟨nofun, h⟩) fun _ => rfl

/-! ### Faults of the reads (R28, R462, R464, R484) -/

section Faults

variable {s : State} {qp : PredIdx} {r1 r3 : GrIdx}

theorem movFromAr_takes {iUnit : Bool} {n : BitVec 7} {e : Intr} (hq : s.pred qp = true) (h1 : s.grTargetOk r1 = true)
    (h : s.moveFromAr iUnit n = .error (.intr e)) : Takes s (movFromAr s qp iUnit r1 n) e.vec e.code := by
  refine takes_of_run hq (State.targetGr_ok h1) ?_
  rw [h]
  rfl

theorem movFromCr_takes {n : BitVec 7} {e : Intr} (hq : s.pred qp = true) (h1 : s.grTargetOk r1 = true)
    (h : s.crOk n false = .error (.intr e)) : Takes s (movFromCr s qp r1 n) e.vec e.code := by
  refine takes_of_run hq (State.targetGr_ok h1) ?_
  rw [h]
  rfl

theorem movFromInd_takes (file : IndFile) (hq : s.pred qp = true) (h1 : s.grTargetOk r1 = true) (hrr : file ≠ .rr)
    (level : file.readPrivileged = true → s.cpl = 0) (refused : usable s r3 ∧ file.size ≤ fileIndex s r3) :
    Takes s (movFromInd s qp file r1 r3) .generalException 0x30 := by
  obtain ⟨source, outside⟩ := refused
  rw [← index_byte hrr] at outside
  exact takes_of_run hq (State.targetGr_ok h1) (State.moveFromInd_outside level source outside)

end Faults

/-- Each read that the rules refuse takes its fault. -/
theorem readFaults_take {i : Instr} {qp : PredIdx} {r1 : GrIdx} {P : State → Prop} {c : BitVec 16} {s : State}
    (h : (qp, r1, P, c) ∈ readFaults i) (hq : s.pred qp = true) (h1 : s.grTargetOk r1 = true) (hP : P s) :
    Takes s (exec i s) .generalException c := by
  unfold readFaults at h
  split at h
  -- application registers
  · cases List.mem_singleton.mp h
    refine movFromAr_takes hq h1 (State.moveFromAr_illegal fun ok => ?_)
    obtain ⟨⟨unit, -⟩, -⟩ := ok
    exact absurd unit (Nat.not_le.mpr hP)
  · cases h with
    | head =>
      refine movFromAr_takes hq h1 (State.moveFromAr_illegal fun ok => ?_)
      obtain ⟨⟨unit, named⟩, mode⟩ := ok
      rcases hP with above | reserved | ⟨store, eager⟩
      · exact absurd unit (Nat.not_lt.mpr above)
      · exact named reserved
      · exact eager (mode store)
    | tail _ h =>
      cases List.mem_singleton.mp h
      obtain ⟨rfl, secure, level⟩ := hP
      exact movFromAr_takes hq h1 (State.moveFromAr_itc secure level)
  -- control registers
  · cases List.mem_singleton.mp h
    rcases hP with unnamed | ⟨r, named, interruption, collecting⟩
    · exact movFromCr_takes hq h1 (State.crOk_unnamed unnamed)
    · exact movFromCr_takes hq h1 (State.crOk_collecting named interruption collecting)
  -- indirect files
  · cases List.mem_singleton.mp h; exact movFromInd_takes .pmc hq h1 nofun (fun _ => hP.1) hP.2
  · cases List.mem_singleton.mp h; exact movFromInd_takes .pmd hq h1 nofun nofun hP
  · cases List.mem_singleton.mp h; exact movFromInd_takes .pkr hq h1 nofun (fun _ => hP.1) hP.2
  · cases List.mem_singleton.mp h; exact movFromInd_takes .ibr hq h1 nofun (fun _ => hP.1) hP.2
  · cases List.mem_singleton.mp h; exact movFromInd_takes .dbr hq h1 nofun (fun _ => hP.1) hP.2
  · cases List.mem_singleton.mp h; exact movFromInd_takes .cpuid hq h1 nofun nofun hP
  · cases h

end Sys2Proof.Forms

section

open Sys2Proof Machine Forms

/-- Settles O27: each move reads its register file once the checks have passed, and each check has the fault of its rule. -/
theorem movesToGeneralRegisters : Obligations.MovesToGeneralRegisters := by
  unfold Obligations.MovesToGeneralRegisters
  exact ⟨fun _ _ h => moveForm_correct h, fun _ _ h => fileForm_correct h,
    fun _ _ _ _ _ _ h hq h1 hP => readFaults_take h hq h1 hP⟩

end

end

section
/-! SUPPORT. Loads whose access is allowed (R91, R110, R155, R156, R380 to R396): what they note, what their targets take, and what a fill
does. -/

namespace Sys2Proof.Machine

open Forms

/-! ### The notes of a performed load -/

/-- A load that may find its data in the L1D moves no translation into the first-level data TLB (R114, R155). -/
theorem State.l1dAfter_of_mayHitL1d {s : State} {acc : Acc} {ma : MemAttr} (h : s.mayHitL1d acc ma = true) :
    s.l1dAfter acc = s.l1dtlb := by
  unfold State.mayHitL1d at h
  unfold State.l1dAfter State.usesL1d
  obtain ⟨-, h⟩ := Bool.and_eq_true_iff.1 h
  rcases Bool.or_eq_true_iff.1 h with physical | held
  · rw [Bool.not_eq_true'] at physical
    rw [physical, Bool.and_false]
    rfl
  · unfold State.l1dUsed
    rw [held]
    exact ite_self _

/-- Whether it counts as a load or not, the translation that a load used is noted in both levels (R155, R156). -/
theorem State.loadNoted_eq (s : State) (k : LoadKind) (acc : Acc) (ma : MemAttr) :
    ∃ evs, s.loadNoted k acc ma = { s with dtcache := s.dtcUsed acc, l1dtlb := s.l1dAfter acc, events := evs } := by
  unfold State.loadNoted
  split
  · next h =>
    obtain ⟨⟨-, hit⟩, -⟩ := by simpa only [Bool.and_eq_true] using h
    exact ⟨s.events, by rw [State.l1dAfter_of_mayHitL1d hit]; rfl⟩
  · exact ⟨_, rfl⟩

/-- An advanced load leaves a new entry of its register, or none where its group forbids one (R91, R96, R97). -/
theorem State.alatSet_eq (s : State) (r : AlatReg) (pa n : Nat) :
    ∃ l, s.alatSet r pa n = { s with alat := l, grpAlatSets := r :: s.grpAlatSets } ∧
      (l = s.alat.filter (fun e => e.reg ≠ r) ∨ ∃ e : AlatEntry, e.reg = r ∧ l = (s.alatPut e).alat) := by
  unfold State.alatSet
  dsimp only
  split
  · exact ⟨_, rfl, .inl rfl⟩
  · let e : AlatEntry := { reg := r, pa20 := BitVec.ofNat 20 pa, size := n }
    obtain ⟨l, hl, -⟩ := s.alatPut_cases e
    exact ⟨l, by rw [hl], .inr ⟨e, rfl, by rw [hl]⟩⟩

/-- A `.clr` check that misses leaves no entry of its register (R94). -/
theorem State.checkMiss_of_clears {k : LoadKind} (hk : k.clears = true) (s : State) (r : AlatReg) (va : Word) :
    s.checkMiss k r va = { s with
      alat := s.alat.filter (fun e => e.reg ≠ r), grpAlatChecks := r :: s.grpAlatChecks, grpAlatInval := r :: s.grpAlatInval,
      events := .chkaLdc r.isFp true (some va) :: s.events } := by
  have check : k.check = true := by
    cases k with
    | chkClr | chkClrAcq => rfl
    | plain | spec | adv | specAdv | acq | chkNc => cases hk
  unfold State.checkMiss State.checkLoad
  rw [if_pos check, if_pos hk]
  unfold State.alatInvalidate State.alatRemove State.alatChecked State.emit
  rfl

end Sys2Proof.Machine

namespace Sys2Proof.Forms

open Sys2Proof.Machine

/-- Without an entry of its register the ALAT has those of all others. -/
theorem othersStay_of_removed {s t : State} {r : AlatReg} (made : Bool) (h : t.alat = s.alat.filter (fun e => e.reg ≠ r)) :
    othersStay s t r made := by
  have same : t.alat.filter (fun e => e.reg ≠ r) = s.alat.filter (fun e => e.reg ≠ r) := by
    rw [h, List.filter_filter]
    simp only [Bool.and_self]
  exact ⟨fun e he _ => List.mem_of_mem_filter (h ▸ he), fun _ => same, by rw [same]; exact Nat.le_succ _⟩

/-- The ALAT that a performed load may leave (R91, R94): `LoadForm.AlatPerformed` without the notes of the group. -/
def LoadForm.AlatAfter (s : State) (f : LoadForm) (l : List AlatEntry) : Prop :=
  if f.makesEntry then ∀ t : State, t.alat = l → othersStay s t (f.dst.alat s) true
  else l = if f.k.clears then s.alat.filter (fun e => e.reg ≠ f.dst.alat s) else s.alat

/-- What a performed load notes of the ALAT and its group, beside events (R91, R94, R96, R97). -/
theorem LoadForm.alatNoted_eq (s : State) (f : LoadForm) (pa : Nat) (va : Word) :
    ∃ l evs, (s.loadAlat f.k (f.dst.alat s) pa f.n).checkMiss f.k (f.dst.alat s) va = { s with
      alat := l, grpAlatSets := if f.makesEntry then f.dst.alat s :: s.grpAlatSets else s.grpAlatSets,
      grpAlatChecks := if f.k.check then f.dst.alat s :: s.grpAlatChecks else s.grpAlatChecks,
      grpAlatInval := if f.k.clears then f.dst.alat s :: s.grpAlatInval else s.grpAlatInval, events := evs } ∧ f.AlatAfter s l := by
  obtain ⟨l, set, made⟩ := s.alatSet_eq (f.dst.alat s) pa f.n
  have stay (t : State) (ht : t.alat = l) : othersStay s t (f.dst.alat s) true := by
    rcases made with hl | ⟨e, he, hl⟩
    · exact othersStay_of_removed true (ht.trans hl)
    · obtain ⟨-, -, stay⟩ := alatPut_files (ht.trans hl)
      rwa [he] at stay
  obtain ⟨qp, dst, r3, u, n, k⟩ := f
  cases k with
  | plain | spec | acq => exact ⟨s.alat, s.events, rfl, rfl⟩
  | adv | specAdv => exact ⟨l, s.events, set, stay⟩
  | chkNc =>
    refine ⟨l, .chkaLdc (dst.alat s).isFp true (some va) :: s.events, ?_, stay⟩
    show (s.alatSet (dst.alat s) pa n).checkMiss .chkNc (dst.alat s) va = _
    rw [set]
    rfl
  | chkClr | chkClrAcq => exact ⟨_, _, State.checkMiss_of_clears rfl s _ va, rfl⟩

section Performed

variable {s : State} {f : LoadForm} {pa : Nat} {ma : MemAttr}

/-- What a performed load notes before it writes a register. -/
theorem LoadForm.performed_eq (s : State) (f : LoadForm) (pa : Nat) (ma : MemAttr) :
    ∃ l evs, f.performed s pa ma = { s with
      alat := l, grpAlatSets := if f.makesEntry then f.dst.alat s :: s.grpAlatSets else s.grpAlatSets,
      grpAlatChecks := if f.k.check then f.dst.alat s :: s.grpAlatChecks else s.grpAlatChecks,
      grpAlatInval := if f.k.clears then f.dst.alat s :: s.grpAlatInval else s.grpAlatInval,
      dtcache := s.dtcUsed (f.acc s), l1dtlb := s.l1dAfter (f.acc s), events := evs } ∧ f.AlatAfter s l := by
  obtain ⟨l, evs, noted, alat⟩ := f.alatNoted_eq s pa (s.gr f.r3).val
  obtain ⟨evs', used⟩ := State.loadNoted_eq ((s.loadAlat f.k (f.dst.alat s) pa f.n).checkMiss f.k (f.dst.alat s) (s.gr f.r3).val)
    f.k (f.acc s) ma
  refine ⟨l, evs', used.trans ?_, alat⟩
  rw [noted]
  rfl

theorem LoadForm.performed_effect (s : State) (f : LoadForm) (pa : Nat) (ma : MemAttr) : s.LoadEffect (f.performed s pa ma) [] [] := by
  obtain ⟨l, evs, noted, -⟩ := f.performed_eq s pa ma
  rw [noted]
  exact .of_notes rfl

/-- A performed load that has written its targets and then its base: the frame, and what it leaves in the ALAT. -/
theorem LoadForm.performed_end {d : State} (hr : f.ready s) (written : s.LoadEffect d (f.dst.gregs s) f.dst.frs)
    (notes : d.loadNotes = (f.performed s pa ma).loadNotes) :
    baseDone s (s.updateBase d f.r3 f.u) f.r3 f.u ∧
      f.Frame s (s.updateBase d f.r3 f.u) true (s.dtcUsed (f.acc s)) (s.l1dAfter (f.acc s)) ∧
      f.AlatPerformed s (s.updateBase d f.r3 f.u) := by
  obtain ⟨l, evs, performed, alat⟩ := f.performed_eq s pa ma
  have frame := LoadForm.frame_of_effect (w := true) (written.updateBase f.r3 f.u) rfl
  replace notes := (State.updateBase_loadNotes s d f.r3 f.u).trans notes
  rw [performed] at notes
  rw [notes] at frame
  refine ⟨written.baseDone fun hu => (hr.2.2.updated hu).1, frame, ⟨?_, ?_, ?_⟩, ?_⟩
  · exact congrArg LoadNotes.sets notes
  · exact congrArg LoadNotes.checks notes
  · exact congrArg LoadNotes.inval notes
  · have left : (s.updateBase d f.r3 f.u).alat = l := congrArg LoadNotes.alat notes
    unfold LoadForm.AlatAfter at alat
    split at alat
    · next made => rw [if_pos made]; exact alat _ left
    · next kept => rw [if_neg kept]; exact left.trans alat

end Performed

/-! ### What the targets take -/

section Loaded

variable {s m t u : State} {f : LoadForm} {pa n : Nat}

/-- The targets of a performed load take its bytes. -/
theorem LoadForm.deliver_loaded (h : s.LoadEffect m [] []) (hz : f.sized) (hd : f.dst.ready s) :
    f.dst.loaded s (f.dst.deliver s f.n m (some pa)) pa f.n := by
  obtain ⟨qp, dst, r3, u, n, k⟩ := f
  cases dst with
  | gr r1 =>
    have written := m.setGr_same r1 (GReg.ofWord (s.loadInt pa n)) .load (by rw [h.grTargetOk_eq]; exact hd) (m.wawFree_gr_load _)
    rwa [h.grPhys_eq] at written
  | fr f1 fmt =>
    obtain rfl : n = fmt.size := hz
    exact frLoaded_setFr h hd.1 _
  | pair f1 f2 fmt =>
    obtain ⟨h1, h2, hodd, -, -⟩ := hd
    obtain rfl : n = 2 * fmt.size := hz
    have half : 2 * fmt.size / 2 = fmt.size := Nat.mul_div_cancel_left _ Nat.two_pos
    have pair := frLoaded_pair h h1 h2 (fun he => hodd (congrArg (fun f => f.toNat % 2) he)) (s.loadFp fmt pa)
      (s.loadFp fmt (pa + fmt.size))
    unfold LoadDst.loaded
    rwa [half]

/-- What the targets hold is seen in their registers alone. -/
theorem LoadDst.loaded_of_same {d : LoadDst} (hg : ∀ r1, d.greg = some r1 → u.cur.gr (s.grPhys r1) = t.cur.gr (s.grPhys r1))
    (hf : ∀ p, u.cur.frAt p = t.cur.frAt p) (h : d.loaded s t pa n) : d.loaded s u pa n := by
  have fr {g : FrIdx} {v : FReg} (hl : frLoaded s t g v) : frLoaded s u g v := fun hw => (hf _).trans (hl hw)
  cases d with
  | gr r1 => exact (hg r1 rfl).trans h
  | fr f1 fmt => exact fr h
  | pair f1 f2 fmt => exact ⟨fr h.1, fr h.2⟩

end Loaded

/-- A base update leaves every other general register alone. -/
theorem updateBase_gr {s t : State} {r3 : GrIdx} {u : BaseUpdate} {p : Nat} (names : t.grPhys r3 = s.grPhys r3)
    (hp : basePhys s r3 u ≠ some p) : (s.updateBase t r3 u).cur.gr p = t.cur.gr p := by
  unfold State.updateBase
  unfold basePhys at hp
  split
  · next hu =>
    rw [if_pos hu] at hp
    exact t.setGr_other r3 _ _ p fun he => hp (congrArg some (names ▸ he).symm)
  · rfl

/-- In a frame the update of the base leaves the target of its load alone. -/
theorem LoadForm.updateBase_target {s d : State} {f : LoadForm} {gs : List Nat} {fs : List FrIdx} (hs : s.FrameOk) (hr : f.ready s)
    (written : s.LoadEffect d gs fs) {r1 : GrIdx} (h1 : f.dst.greg = some r1) :
    (s.updateBase d f.r3 f.u).cur.gr (s.grPhys r1) = d.cur.gr (s.grPhys r1) := by
  refine updateBase_gr (written.grPhys_eq f.r3) fun he => ?_
  unfold basePhys at he
  split at he
  · next hu => exact LoadForm.base_apart hs hr hu r1 h1 (Option.some.inj he).symm
  · cases he

theorem LoadForm.performs {i : Instr} {f : LoadForm} (hi : f.Is i) : f.Performs i := by
  intro s hs hr hn hed hm pa ma ha
  have noted := f.performed_effect s pa ma
  have written := LoadDst.deliver_effect (d := f.dst) noted f.n (some pa)
  have loaded := LoadDst.loaded_of_same (fun _ h1 => f.updateBase_target hs hr written h1) (s.updateBase_frAt _ f.r3 f.u)
    (LoadForm.deliver_loaded (pa := pa) noted hi.2 hr.2.1)
  have rest := LoadForm.performed_end hr written (LoadDst.deliver_loadNotes s _ f.dst f.n (some pa))
  exact ⟨_, LoadForm.completes hi hr (LoadForm.body_of_performed hr hn hed hm ha), loaded, rest⟩

/-! ### Fills (R386) -/

/-- What a fill writes: the 8 bytes, and the bit of AR[UNAT] that the address selects. -/
def fillValue (s : State) (r3 : GrIdx) (pa : Nat) : GReg :=
  { val := s.loadInt pa 8, nat := s.old.unat.getLsbD (unatBit (s.gr r3).val) }

def fillDeliver (s : State) (r1 r3 : GrIdx) (t : State) (p : Option Nat) : State :=
  match p with
  | some pa => t.setGr r1 (fillValue s r3 pa) .load
  | none => t

theorem intFill_eq (s : State) (qp : PredIdx) (r1 r3 : GrIdx) (u : BaseUpdate) :
    intFill s qp r1 r3 u = s.runLoad qp .plain (s.alatGr r1) (s.loadTargets r1 r3 u)
      (s.loadBody r3 u 8 .int .plain (s.alatGr r1) (fillDeliver s r1 r3)) := rfl

/-- The form of a fill: a plain load of 8 bytes. -/
def fillLoad (qp : PredIdx) (r1 r3 : GrIdx) (u : BaseUpdate) : LoadForm := { qp, dst := .gr r1, r3, u, n := 8, k := .plain }

theorem fillForm_is {i : Instr} {f : LoadForm} (h : fillForm i = some f) :
    ∃ qp r1 r3 u, f = fillLoad qp r1 r3 u ∧ ∀ s, exec i s = intFill s qp r1 r3 u := by
  unfold fillForm at h
  split at h <;> cases h <;> exact ⟨_, _, _, _, rfl, fun _ => rfl⟩

theorem unatBit_eq (va : Word) : unatBit va = va.toNat / 8 % 64 := by
  unfold unatBit
  rw [BitVec.extractLsb'_toNat, Nat.shiftRight_eq_div_pow]

theorem fillValue_eq (s : State) (r3 : GrIdx) (pa : Nat) : fillValue s r3 pa =
    { val := BitVec.ofNat 64 (Memory.load s.mem pa 8 s.umBe), nat := s.old.unat.getLsbD ((s.gr r3).val.toNat / 8 % 64) } := by
  unfold fillValue
  rw [unatBit_eq]
  rfl

/-- The checks of the targets of an integer load pass. -/
theorem loadTargets_ok {s : State} {r1 r3 : GrIdx} {u : BaseUpdate} (h1 : s.grTargetOk r1 = true)
    (hb : baseReady s r3 u (some r1)) : s.loadTargets r1 r3 u = .ok () := by
  have apart : (!(u.updates && r1 == r3)) = true := by
    rw [Bool.not_eq_true', Bool.and_eq_false_imp]
    exact fun hu => beq_eq_false_iff_ne.2 fun he => (hb.updated hu).2 (congrArg some he)
  unfold State.loadTargets
  rw [State.targetGr_ok h1, hb.baseTarget]
  exact require_ok apart _

/-- A fill that may go ahead is its body. -/
theorem intFill_of_ready {s : State} {qp : PredIdx} {r1 r3 : GrIdx} {u : BaseUpdate} (hq : s.pred qp = true)
    (h1 : s.grTargetOk r1 = true) (hb : baseReady s r3 u (some r1)) :
    intFill s qp r1 r3 u = finish s (s.loadBody r3 u 8 .int .plain (s.alatGr r1) (fillDeliver s r1 r3)) :=
  (intFill_eq s qp r1 r3 u).trans (runLoad_of_ready (loadTargets_ok h1 hb) hq)

/-- The body of a plain load whose access is allowed. -/
theorem loadBody_plain {s : State} {r3 : GrIdx} {u : BaseUpdate} {other : Option GrIdx} {n : Nat} {cls : AccClass} {reg : AlatReg}
    {deliver : State → Option Nat → State} (hb : baseReady s r3 u other) (hn : (s.gr r3).nat = false) {pa : Nat} {ma : MemAttr}
    (ha : s.resolve (s.loadAcc (s.gr r3).val n cls .plain) = .ok (pa, ma)) :
    s.loadBody r3 u n cls .plain reg deliver =
      .ok { s := s.updateBase (deliver (s.noteLoad (s.loadAcc (s.gr r3).val n cls .plain) ma) (some pa)) r3 u } := by
  have allowed : s.access (s.loadAcc (s.gr r3).val n cls .plain) = .ok (pa, ma) := by
    unfold State.access
    rw [ha]
  unfold State.loadBody
  rw [hb.readGr, hb.updateReadable]
  dsimp only [Except.bind]
  rw [hn, allowed]
  rfl

/-- A fill whose access is allowed notes what a plain load notes, and then writes its target and its base. -/
theorem intFill_performed {s : State} {qp : PredIdx} {r1 r3 : GrIdx} {u : BaseUpdate} (hr : (fillLoad qp r1 r3 u).ready s)
    (hn : (s.gr r3).nat = false) {pa : Nat} {ma : MemAttr} (ha : s.resolve ((fillLoad qp r1 r3 u).acc s) = .ok (pa, ma)) :
    intFill s qp r1 r3 u = .next (retire s
      { s := s.updateBase (fillDeliver s r1 r3 ((fillLoad qp r1 r3 u).performed s pa ma) (some pa)) r3 u }) := by
  obtain ⟨hq, h1, hb⟩ := hr
  exact (intFill_of_ready hq h1 hb).trans (congrArg (finish s) (loadBody_plain hb hn ha))

theorem fills {i : Instr} {f : LoadForm} (hf : fillForm i = some f) : f.Fills i := by
  obtain ⟨qp, r1, r3, u, rfl, hexec⟩ := fillForm_is hf
  intro s hs hr hn pa ma ha
  have noted := (fillLoad qp r1 r3 u).performed_effect s pa ma
  have written := noted.trans (State.setGr_effect _ r1 (fillValue s r3 pa) (.inl rfl))
  have filled := State.setGr_same _ r1 (fillValue s r3 pa) .load (by rw [noted.grTargetOk_eq]; exact hr.2.1)
    (((fillLoad qp r1 r3 u).performed s pa ma).wawFree_gr_load _)
  rw [noted.grPhys_eq] at written filled
  obtain ⟨base, frame, alat⟩ := LoadForm.performed_end (ma := ma) hr written rfl
  refine ⟨_, (hexec s).trans (intFill_performed hr hn ha), base, frame, alat, fun r h => ?_⟩
  obtain rfl : r1 = r := Option.some.inj h
  exact (LoadForm.updateBase_target hs hr written rfl).trans (filled.trans (fillValue_eq s r3 pa))

end Sys2Proof.Forms

section

open Sys2Proof Machine Forms

/-- Settles O35: a performed load notes its access, writes its targets and then its base, whatever the targets are; a fill is a plain load
that takes its NaT bit from AR[UNAT]. -/
theorem loadsPerform : Obligations.LoadsPerform := by
  unfold Obligations.LoadsPerform
  exact ⟨fun _ f h => f.performs (intLoadForm_is h), fun _ f h => f.performs (fpLoadForm_is h),
    fun _ f h => f.performs (fpPairForm_is h), fun _ _ h => fills h⟩

end

end

section
/-! SUPPORT. Loads, stores, semaphores and prefetches whose operand has a NaT bit or whose access fails (R87, R98, R412, R426, R567, R573):
what the body of each shared operation answers, and the interruption that is taken. -/

namespace Sys2Proof.Machine

open Forms

/-! ### Accesses that fail -/

section Access

variable {s : State} {acc : Acc} {e : TransFault}

/-- Every fault of an access but a multiple match is an interruption (R159, R595). -/
theorem State.raise_eq (acc : Acc) (h : e ≠ .multipleHit) : s.raise acc e = .intr (s.transIntr acc e) := by
  cases e with
  | multipleHit => exact absurd rfl h
  | _ => rfl

theorem State.access_error (hf : s.resolve acc = .error e) (he : e ≠ .multipleHit) :
    s.access acc = .error (.intr (s.transIntr acc e)) := by
  unfold State.access
  rw [hf, ← State.raise_eq acc he]

theorem State.accessSpec_error (hf : s.resolve acc = .error e) (he : e ≠ .multipleHit) (hd : s.defers e = false) :
    s.accessSpec acc = .error (.intr (s.transIntr acc e)) := by
  unfold State.accessSpec
  rw [hf, ← State.raise_eq acc he]
  exact if_neg (ne_true_of_eq_false hd)

end Access

/-! ### Loads -/

section Load

variable {s : State} {r3 : GrIdx} {u : BaseUpdate} {other : Option GrIdx} {n : Nat} {cls : AccClass} {k : LoadKind} {reg : AlatReg}
  {deliver : State → Option Nat → State}

/-- A load that consumes its address, and did not find its entry in the ALAT, faults on a NaT bit (R425, R573). -/
theorem loadBody_of_nat (hb : baseReady s r3 u other) (hm : k.check = true → s.alatHit reg = false) (hk : k.speculative = false)
    (hn : (s.gr r3).nat = true) : s.loadBody r3 u n cls k reg deliver = .error (natConsumption true false) := by
  have miss : (k.check && s.alatHit reg) = false := Bool.and_eq_false_imp.2 hm
  unfold State.loadBody
  rw [hb.readGr, hb.updateReadable]
  dsimp only [Except.bind]
  rw [miss, hn, hk]
  rfl

/-- A load whose access fails takes its interruption, but where it defers it (R425, R567). -/
theorem loadBody_of_error (hb : baseReady s r3 u other) (hm : k.check = true → s.alatHit reg = false) (hn : (s.gr r3).nat = false)
    {e : TransFault} (hf : s.resolve (s.loadAcc (s.gr r3).val n cls k) = .error e) (he : e ≠ .multipleHit)
    (hd : k.speculative = true → s.defers e = false) :
    s.loadBody r3 u n cls k reg deliver = .error (.intr (s.transIntr (s.loadAcc (s.gr r3).val n cls k) e)) := by
  have miss : (k.check && s.alatHit reg) = false := Bool.and_eq_false_imp.2 hm
  have fails : (if k.speculative then s.accessSpec (s.loadAcc (s.gr r3).val n cls k)
      else (s.access (s.loadAcc (s.gr r3).val n cls k)).map some) =
      .error (.intr (s.transIntr (s.loadAcc (s.gr r3).val n cls k) e)) := by
    split
    · next spec => exact State.accessSpec_error hf he (hd spec)
    · rw [State.access_error hf he]
      rfl
  unfold State.loadBody
  rw [hb.readGr, hb.updateReadable]
  dsimp only [Except.bind]
  rw [miss, hn]
  simp only [fails, Bool.false_eq_true, if_false]

end Load

end Sys2Proof.Machine

namespace Sys2Proof.Forms

open Sys2Proof.Machine

/-- The instruction that may go ahead is the body of a load of the form, which delivers as `deliver` says. -/
def LoadForm.Runs (i : Instr) (f : LoadForm) (deliver : State → State → Option Nat → State) : Prop :=
  ∀ s : State, f.ready s → exec i s = finish (if f.k.advanced then s.alatRemove (f.dst.alat s) else s)
    (s.loadBody f.r3 f.u f.n f.dst.cls f.k (f.dst.alat s) (deliver s))

theorem LoadForm.Is.runs {i : Instr} {f : LoadForm} (hi : f.Is i) : f.Runs i (fun s => f.dst.deliver s f.n) :=
  fun s hr => (hi.1 s).trans (LoadForm.outcome_of_ready hi.2 hr)

/-- A fill runs as a plain load. -/
theorem fillForm_runs {i : Instr} {f : LoadForm} (hf : fillForm i = some f) : ∃ deliver, f.Runs i deliver := by
  obtain ⟨qp, r1, r3, u, rfl, hexec⟩ := fillForm_is hf
  exact ⟨fun s => fillDeliver s r1 r3, fun s ⟨hq, h1, hb⟩ => (hexec s).trans (intFill_of_ready hq h1 hb)⟩

theorem LoadForm.faults {i : Instr} {f : LoadForm} {deliver : State → State → Option Nat → State} (hi : f.Runs i deliver) :
    f.Faults i := by
  intro s hr hm s'
  have slot : s'.ri = s.ri := by
    unfold s'
    split <;> rfl
  refine ⟨fun hk hn => ?_, fun hn e hf he hd => ?_⟩
  · rw [hi s hr, loadBody_of_nat hr.2.2 hm hk hn, ← slot]
    rfl
  · rw [hi s hr, loadBody_of_error hr.2.2 hm hn hf he hd, ← slot]
    rfl

/-! ### Stores -/

/-- The instruction that a store of a form is. -/
def StoreForm.outcome (s : State) (f : StoreForm) : Host.Outcome State Fault Refusal :=
  match f.src with
  | .gr r2 => intStore s f.qp f.r3 r2 f.u f.n f.rel
  | .spill r2 => intSpill s f.qp f.r3 r2 f.u
  | .fr f2 fmt => fpStore s f.qp f.r3 f2 f.u fmt

/-- The size of a store is that of its format, and only integer stores have release semantics. -/
def StoreForm.sized (f : StoreForm) : Prop :=
  match f.src with
  | .gr _ => True
  | .spill _ => f.n = 8 ∧ f.rel = false
  | .fr _ fmt => f.n = fmt.size ∧ f.rel = false

/-- The instruction is a store of the form. -/
def StoreForm.Is (i : Instr) (f : StoreForm) : Prop := (∀ s, exec i s = f.outcome s) ∧ f.sized

theorem intStoreForm_is {i : Instr} {f : StoreForm} (h : intStoreForm i = some f) : f.Is i := by
  unfold intStoreForm at h
  split at h <;> cases h <;> exact ⟨fun _ => rfl, by simp [StoreForm.sized]⟩

theorem fpStoreForm_is {i : Instr} {f : StoreForm} (h : fpStoreForm i = some f) : f.Is i := by
  unfold fpStoreForm at h
  split at h <;> cases h <;> exact ⟨fun _ => rfl, rfl, rfl⟩

/-- The NaT bit that a store consumes with its value (R388, R395). -/
def StoreSrc.nat (s : State) : StoreSrc → Bool
  | .gr r2 => (s.gr r2).nat
  | .spill _ => false
  | .fr f2 fmt => decide (s.fr f2 = FReg.natVal) && fmt != .fill

/-- What a store writes beside memory and its base: a spill puts the NaT bit of its source into AR[UNAT] (R390). -/
def StoreSrc.after (s : State) (r3 : GrIdx) : StoreSrc → State → State
  | .spill r2 => fun t => t.setUnatBit (unatBit (s.gr r3).val) (s.gr r2).nat
  | .gr _ | .fr _ _ => id

/-- The body of a store of a form. -/
def StoreForm.body (s : State) (f : StoreForm) : Except Exc Res :=
  s.storeBody f.r3 f.u (f.acc s).cls f.rel (f.src.nat s) (storeBytes (f.src.value s) f.n s.umBe) (f.src.after s f.r3)

section Store

variable {s : State} {f : StoreForm}

theorem StoreSrc.nat_iff (s : State) (src : StoreSrc) : src.nat s = true ↔ src.hasNat s := by
  cases src with
  | gr r2 => exact Iff.rfl
  | spill r2 => exact iff_of_false Bool.false_ne_true id
  | fr f2 fmt => simp [StoreSrc.nat, StoreSrc.hasNat]

/-- A store whose operands are there is its body. -/
theorem StoreForm.outcome_of_present (hz : f.sized) (hq : s.pred f.qp = true) (hb : baseReady s f.r3 f.u none) (hp : f.src.present s) :
    f.outcome s = finish s (f.body s) := by
  obtain ⟨qp, src, r3, u, n, rel⟩ := f
  cases src with
  | gr r2 =>
    refine (run_true hb.baseTarget hq).trans ?_
    rw [State.readGr_ok hp]
    rfl
  | spill r2 =>
    obtain ⟨rfl, rfl⟩ : n = 8 ∧ rel = false := hz
    refine (run_true hb.baseTarget hq).trans ?_
    rw [State.readGr_ok hp]
    rfl
  | fr f2 fmt =>
    obtain ⟨rfl, rfl⟩ : n = fmt.size ∧ rel = false := hz
    refine (run_true hb.baseTarget hq).trans ?_
    rw [hb.fpMemOk (List.forall_mem_singleton.2 hp)]
    rfl

/-- The access that the body of a store makes. -/
theorem StoreForm.storeAcc_eq (s : State) (f : StoreForm) :
    s.storeAcc (s.gr f.r3).val (storeBytes (f.src.value s) f.n s.umBe).length (f.acc s).cls = f.acc s := by
  rw [storeBytes_length]
  rfl

theorem StoreForm.body_of_nat (hb : baseReady s f.r3 f.u none) (hn : (s.gr f.r3).nat = true ∨ f.src.hasNat s) :
    f.body s = .error (natConsumption false true) := by
  have consumed : ((s.gr f.r3).nat || f.src.nat s) = true := by rwa [Bool.or_eq_true, StoreSrc.nat_iff]
  unfold StoreForm.body State.storeBody
  rw [hb.readGr]
  exact if_pos consumed

/-- Without a NaT bit a store makes its access, and is performed where that is allowed (R388, R425). -/
theorem StoreForm.body_of_clear (hb : baseReady s f.r3 f.u none) (hn : (s.gr f.r3).nat = false) (hd : ¬ f.src.hasNat s) :
    f.body s = (s.access (f.acc s)).bind fun p => .ok { s := s.updateBase (f.src.after s f.r3
      (((if f.rel then s.wcbFlush else s).storePhys p.1 p.2 (storeBytes (f.src.value s) f.n s.umBe)).noteStore (f.acc s) p.2)) f.r3 f.u } := by
  have clear : ((s.gr f.r3).nat || f.src.nat s) = false := by
    rw [hn, Bool.false_or, ← Bool.not_eq_true, StoreSrc.nat_iff]
    exact hd
  unfold StoreForm.body State.storeBody
  rw [hb.readGr]
  dsimp only [Except.bind]
  rw [clear, f.storeAcc_eq]
  rfl

theorem StoreForm.faults {i : Instr} (hi : f.Is i) : f.Faults i := by
  intro s hq hb hp
  refine ⟨fun hn => ?_, fun hn hd e hf he => ?_⟩
  · rw [hi.1, f.outcome_of_present hi.2 hq hb hp, StoreForm.body_of_nat hb hn]
    rfl
  · rw [hi.1, f.outcome_of_present hi.2 hq hb hp, StoreForm.body_of_clear hb hn hd, State.access_error hf he]
    rfl

end Store

/-! ### Semaphores -/

/-- The instruction that may go ahead is the body of a semaphore of the form. -/
def SemForm.Is (i : Instr) (f : SemForm) : Prop :=
  ∀ s : State, s.pred f.qp = true → s.grTargetOk f.r1 = true → s.grVisible f.r2 = true →
    exec i s = finish s (s.semBody f.r1 f.r3 f.n f.rel (s.gr f.r2).nat (f.new s))

section Semaphore

variable {s : State} {qp : PredIdx} {r1 r2 r3 : GrIdx} {n : Nat} {rel : Bool}

theorem cmpxchg_ready (hq : s.pred qp = true) (h1 : s.grTargetOk r1 = true) (h2 : s.grVisible r2 = true) :
    cmpxchg s qp r1 r3 r2 n rel = finish s (s.semBody r1 r3 n rel (s.gr r2).nat (casNew r2 n s)) := by
  refine (run_true (State.targetGr_ok h1) hq).trans ?_
  rw [State.readGr_ok h2]
  dsimp only [Except.bind]
  rw [Nat.pow_mul]
  rfl

theorem xchg_ready (hq : s.pred qp = true) (h1 : s.grTargetOk r1 = true) (h2 : s.grVisible r2 = true) :
    xchg s qp r1 r3 r2 n = finish s (s.semBody r1 r3 n false (s.gr r2).nat (fun _ => some (s.gr r2).val.toNat)) := by
  refine (run_true (State.targetGr_ok h1) hq).trans ?_
  rw [State.readGr_ok h2]
  rfl

/-- The increments of `fetchadd` are those of R402, as words. -/
theorem incValue_eq (inc : FetchInc) : incValue inc = BitVec.ofInt 64 (incOf inc) := by cases inc <;> rfl

/-- `fetchadd` adds modulo the width of its operand (R402). -/
theorem addNew_eq (inc : FetchInc) (hn : n ≤ 8) (s : State) (old : Nat) :
    some ((old + (incValue inc).toNat) % 2 ^ (8 * n)) = addNew inc n s old := by
  have wide : (256 : Int) ^ n ∣ 2 ^ 64 := by
    rw [show (2 : Int) ^ 64 = 256 ^ 8 by norm_num]
    exact pow_dvd_pow _ hn
  have word : ((incValue inc).toNat : Int) = incOf inc % 2 ^ 64 := by
    rw [incValue_eq, BitVec.toNat_ofInt]
    exact Int.toNat_of_nonneg (Int.emod_nonneg _ (by decide))
  have sum : (((old + (incValue inc).toNat) % 256 ^ n : Nat) : Int) = (old + incOf inc) % 256 ^ n := by
    rw [Int.natCast_emod, Int.natCast_add, word, Nat.cast_pow, Int.add_emod, Nat.cast_ofNat, Int.emod_emod_of_dvd _ wide, ← Int.add_emod]
  unfold addNew
  rw [← sum, Nat.pow_mul]
  rfl

theorem fetchadd_ready {inc : FetchInc} (hn : n ≤ 8) (hq : s.pred qp = true) (h1 : s.grTargetOk r1 = true) :
    fetchadd s qp r1 r3 inc n rel = finish s (s.semBody r1 r3 n rel (s.gr 0).nat (addNew inc n s)) := by
  refine (run_true (State.targetGr_ok h1) hq).trans ?_
  rw [← funext (addNew_eq inc hn s)]
  rfl

theorem semForm_is {i : Instr} {f : SemForm} (h : semForm i = some f) : f.Is i := by
  unfold semForm at h
  split at h <;> cases h
  -- `xchg`, `fetchadd`, and the rest `cmpxchg`
  case h_9 | h_10 | h_11 | h_12 => exact fun _ hq h1 h2 => xchg_ready hq h1 h2
  case h_13 | h_14 | h_15 | h_16 => exact fun _ hq h1 _ => fetchadd_ready (by decide) hq h1
  all_goals exact fun _ hq h1 h2 => cmpxchg_ready hq h1 h2

variable {new : Nat → Option Nat} {dataNat : Bool}

theorem semBody_of_nat (h3 : s.grVisible r3 = true) (hn : (s.gr r3).nat = true ∨ dataNat = true) :
    s.semBody r1 r3 n rel dataNat new = .error (natConsumption true true) := by
  unfold State.semBody
  rw [State.readGr_ok h3]
  exact if_pos (Bool.or_eq_true_iff.2 hn)

/-- What a semaphore stores, where it stores: `v` at its place; else it snoops the ALAT alone (R92, R400). -/
def semStored (m : State) (pa : Nat) (ma : MemAttr) (n : Nat) (be : Bool) : Option Nat → State
  | some v => m.storePhys pa ma (storeBytes v n be)
  | none => m.alatSnoop pa n

/-- Without a NaT bit a semaphore makes its access, and is performed where that is allowed (R400 to R403). -/
theorem semBody_of_clear (h3 : s.grVisible r3 = true) (hn : (s.gr r3).nat = false) (hd : dataNat = false) :
    s.semBody r1 r3 n rel dataNat new = (s.access (s.semAcc (s.gr r3).val n)).bind fun p =>
      let m := if rel then s.wcbFlush else s
      let old := Memory.load m.mem p.1 n s.umBe
      .ok { s := (((semStored m p.1 p.2 n s.umBe (new old)).noteLoad (s.semAcc (s.gr r3).val n) p.2).noteStore
        (s.semAcc (s.gr r3).val n) p.2).setGr r1 (GReg.ofWord (BitVec.ofNat 64 old)) .load } := by
  unfold State.semBody
  rw [State.readGr_ok h3, hd]
  dsimp only [Except.bind]
  rw [hn]
  exact congrArg (Except.bind _) (funext fun p => rfl)

theorem SemForm.faults {i : Instr} {f : SemForm} (hi : f.Is i) : f.Faults i := by
  intro s hq h1 h3 h2
  refine ⟨fun hn => ?_, fun hn hd e hf he => ?_⟩
  · rw [hi s hq h1 h2, semBody_of_nat h3 hn]
    rfl
  · have fails : s.access (s.semAcc (s.gr f.r3).val f.n) = .error (.intr (s.transIntr (f.acc s) e)) := State.access_error hf he
    rw [hi s hq h1 h2, semBody_of_clear h3 hn hd, fails]
    rfl

end Semaphore

/-! ### Line prefetch -/

/-- The instruction that a prefetch of a form is. -/
def PrefetchForm.outcome (s : State) (f : PrefetchForm) : Host.Outcome State Fault Refusal :=
  if f.fault then lfetchFault s f.qp f.r3 f.u else lfetchPlain s f.qp f.r3 f.u

theorem prefetchForm_is {i : Instr} {f : PrefetchForm} (h : prefetchForm i = some f) : ∀ s, exec i s = f.outcome s := by
  unfold prefetchForm at h
  split at h <;> cases h <;> exact fun _ => rfl

section Prefetch

variable {s : State} {qp : PredIdx} {r3 : GrIdx} {u : BaseUpdate}

theorem lfetchFault_of_nat (hq : s.pred qp = true) (hb : baseReady s r3 u none) (hn : (s.gr r3).nat = true) :
    lfetchFault s qp r3 u = finish s (.error (natConsumptionNa 4 true false)) := by
  refine (run_true hb.baseTarget hq).trans ?_
  rw [hb.readGr, hb.updateReadable]
  exact congrArg (finish s) (if_pos hn)

theorem lfetchFault_of_clear (hq : s.pred qp = true) (hb : baseReady s r3 u none) (hn : (s.gr r3).nat = false) :
    lfetchFault s qp r3 u = finish s ((s.access (s.prefetchAcc (s.gr r3).val)).bind fun _ =>
      .ok { s := s.updateBase (s.readNoted (s.prefetchAcc (s.gr r3).val)) r3 u }) := by
  refine (run_true hb.baseTarget hq).trans ?_
  rw [hb.readGr, hb.updateReadable]
  exact congrArg (finish s) (if_neg (ne_true_of_eq_false hn))

theorem PrefetchForm.faults {i : Instr} {f : PrefetchForm} (hi : ∀ s, exec i s = f.outcome s) : f.Faults i := by
  intro s hq hb hf
  have faulting : exec i s = lfetchFault s f.qp f.r3 f.u := (hi s).trans (if_pos hf)
  refine ⟨fun hn => faulting.trans (lfetchFault_of_nat hq hb hn), fun hn e hfail he => ?_⟩
  have fails : s.access (s.prefetchAcc (s.gr f.r3).val) = .error (.intr (s.transIntr (f.acc s) e)) := State.access_error hfail he
  rw [faulting, lfetchFault_of_clear hq hb hn, fails]
  rfl

end Prefetch

end Sys2Proof.Forms

section

open Sys2Proof Machine Forms

/-- Settles O37: each shared operation consumes its operands and makes its access before it changes anything. -/
theorem failedAccessesFault : Obligations.FailedAccessesFault := by
  unfold Obligations.FailedAccessesFault
  refine ⟨fun i f h => ?_, fun i f h => ?_, fun _ _ h => SemForm.faults (semForm_is h),
    fun _ _ h => PrefetchForm.faults (prefetchForm_is h)⟩
  · rcases h with h | h | h | h
    · exact f.faults (intLoadForm_is h).runs
    · exact f.faults (fpLoadForm_is h).runs
    · exact f.faults (fpPairForm_is h).runs
    · obtain ⟨deliver, runs⟩ := fillForm_runs h
      exact f.faults runs
  · rcases h with h | h
    · exact StoreForm.faults (intStoreForm_is h)
    · exact StoreForm.faults (fpStoreForm_is h)

end

end

section
/-! SUPPORT. Stores, semaphores and prefetches whose access is allowed (R92, R110, R121, R122, R388 to R403, R412, R860): what they leave in
memory, the ALAT and the TLBs, and the registers that they write. -/

namespace Sys2Proof.Machine

open Forms

/-! ### The update of the base (R425) -/

section Base

variable {s t : State} {r3 : GrIdx} {u : BaseUpdate}

theorem State.updateBase_eq (s t : State) (r3 : GrIdx) (u : BaseUpdate) :
    s.updateBase t r3 u = { t with cur := (s.updateBase t r3 u).cur, grpWrites := (s.updateBase t r3 u).grpWrites } := by
  unfold State.updateBase
  split <;> rfl

theorem State.updateBase_onlyGr (s t : State) (r3 : GrIdx) (u : BaseUpdate) : t.cur.OnlyGr (s.updateBase t r3 u).cur := by
  unfold State.updateBase
  split
  · exact Regs.setGr_frame _ _ _
  · rfl

/-- What an instruction did before it writes its base, if it left names and earlier writes of the base alone, does not matter to that. -/
theorem baseDone_updateBase (names : t.grPhys r3 = s.grPhys r3) (target : u.updates = true → t.grTargetOk r3 = true)
    (free : t.wawFree (.gr (s.grPhys r3)) .update = s.wawFree (.gr (s.grPhys r3)) .update) :
    baseDone s (s.updateBase t r3 u) r3 u := by
  intro hu hw
  have written := t.setGr_same r3 (s.baseValue r3 u) .update (target hu) (by rw [names, free]; exact hw)
  rw [names] at written
  unfold State.updateBase
  rw [if_pos hu, written, State.baseValue_eq]

end Base

/-! ### The order of use of the TLBs (R155, R156) -/

section Uses

variable {s : State} {acc : Acc}

/-- The segment of a translation covers the address that it was made for (R151). -/
theorem TlbEntry.segment_covers {e : TlbEntry} {rid : BitVec 24} {va : Word} (h : e.rid = rid) :
    (e.segment va).covers rid (va.extractLsb' 0 61) = true := by
  have start : (e.segment va).va >>> 12 = va.extractLsb' 0 61 >>> 12 := and_not_pageMask_shiftRight (le_refl 12) _
  unfold TlbEntry.covers
  rw [Bool.and_eq_true, decide_eq_true_eq, decide_eq_true_eq]
  exact ⟨h, start⟩

/-- What was moved to the front is found there again, and the rest after it. -/
theorem filter_of_split {α : Type} (p : α → Bool) (l : List α) :
    (l.filter p ++ l.filter (fun a => !p a)).filter p = l.filter p ∧
      (l.filter p ++ l.filter (fun a => !p a)).filter (fun a => !p a) = l.filter (fun a => !p a) := by
  simp [List.filter_append, List.filter_filter]

/-- A second use of a translation finds it the most recently used one already (R156). -/
theorem State.dtcUsed_noteLoad (s : State) (acc : Acc) (ma : MemAttr) : (s.noteLoad acc ma).dtcUsed acc = s.dtcUsed acc := by
  obtain ⟨front, back⟩ := filter_of_split (fun e => e.covers (rrRid (s.regionReg acc.va)) (acc.va.extractLsb' 0 61)) s.dtcache
  by_cases virt : s.virtualMode acc = true
  · have used : s.dtcUsed acc = _ := if_pos virt
    have again : (s.noteLoad acc ma).dtcUsed acc = _ := if_pos virt
    rw [again]
    show List.filter _ (s.dtcUsed acc) ++ List.filter _ (s.dtcUsed acc) = s.dtcUsed acc
    rw [used]
    exact congrArg₂ (· ++ ·) front back
  · exact (if_neg virt).trans rfl

theorem State.lookup_noteLoad (s : State) (acc : Acc) (ma : MemAttr) (virt : s.virtualMode acc = true) :
    (s.noteLoad acc ma).lookup false acc.va = s.lookup false acc.va := by
  obtain ⟨front, -⟩ := filter_of_split (fun e => e.covers (rrRid (s.regionReg acc.va)) (acc.va.extractLsb' 0 61)) s.dtcache
  have used : s.dtcUsed acc = _ := if_pos virt
  show List.filter _ (registered s.dtr ++ s.dtcUsed acc) = List.filter _ (registered s.dtr ++ s.dtcache)
  rw [used]
  exact (List.filter_append _ _).trans ((congrArg (_ ++ ·) front).trans (List.filter_append _ _).symm)

theorem State.l1dUsed_of_hit {va : Word} (h : s.l1dHit va = true) : s.l1dUsed va = s.l1dtlb := by
  unfold State.l1dUsed
  rw [h]

theorem State.l1dUsed_of_not_single {va : Word} (h : ∀ e, s.lookup false va ≠ [e]) : s.l1dUsed va = s.l1dtlb := by
  unfold State.l1dUsed
  split
  · next e _ he => exact absurd he (h e)
  · rfl

/-- The one translation of an address that missed comes first (R155). -/
theorem State.l1dUsed_of_miss {va : Word} {e : TlbEntry} (h : s.l1dHit va = false) (he : s.lookup false va = [e]) :
    ∃ l, s.l1dUsed va = e.segment va :: l := by
  unfold State.l1dUsed
  rw [h, he]
  exact ⟨_, rfl⟩

/-- A second use of an address finds it in the first-level data TLB, or has no translation to transfer still (R155). -/
theorem State.l1dUsed_again {t : State} {va : Word} (used : t.l1dtlb = s.l1dUsed va) (found : t.lookup false va = s.lookup false va)
    (region : t.regionReg va = s.regionReg va) : t.l1dUsed va = s.l1dUsed va := by
  rw [← used]
  by_cases single : ∃ e, s.lookup false va = [e]
  · obtain ⟨e, he⟩ := single
    refine State.l1dUsed_of_hit ?_
    unfold State.l1dHit
    cases hit : s.l1dHit va with
    | true =>
      rw [used, State.l1dUsed_of_hit hit, region]
      exact hit
    | false =>
      obtain ⟨l, hl⟩ := State.l1dUsed_of_miss hit he
      have covers : e ∈ s.lookup false va := he ▸ List.mem_singleton_self e
      have rid : e.rid = rrRid (s.regionReg va) := by
        obtain ⟨-, covers⟩ := List.mem_filter.1 covers
        obtain ⟨rid, -⟩ := Bool.and_eq_true_iff.1 covers
        exact of_decide_eq_true rid
      rw [used, hl, region, List.any_cons, TlbEntry.segment_covers rid]
      rfl
  · exact State.l1dUsed_of_not_single fun e he => single ⟨e, found ▸ he⟩

theorem State.l1dAfter_noteLoad (s : State) (acc : Acc) (ma : MemAttr) : (s.noteLoad acc ma).l1dAfter acc = s.l1dAfter acc := by
  by_cases uses : s.usesL1d acc = true
  · have first : s.l1dAfter acc = s.l1dUsed acc.va := if_pos uses
    obtain ⟨-, virt⟩ := Bool.and_eq_true_iff.1 uses
    rw [first]
    exact (if_pos uses).trans (State.l1dUsed_again first (s.lookup_noteLoad acc ma virt) rfl)
  · exact (if_neg uses).trans rfl

end Uses

/-! ### Memory (R82, R121, R388) -/

section Stored

variable {s m w : State}

/-- A store before it snoops the ALAT: into the write-coalescing buffer for its pages, else into memory. -/
def State.written (m : State) (pa : Nat) (ma : MemAttr) (bs : List Byte) : State :=
  if ma = .wc then m.wcStore pa bs else m.memWrite pa bs

theorem State.storePhys_eq (m : State) (pa : Nat) (ma : MemAttr) (bs : List Byte) :
    m.storePhys pa ma bs = (m.written pa ma bs).alatSnoop pa bs.length := rfl

theorem State.storePhys_storeBytes (m : State) (pa : Nat) (ma : MemAttr) (v n : Nat) (be : Bool) :
    m.storePhys pa ma (storeBytes v n be) = (m.written pa ma (storeBytes v n be)).alatSnoop pa n := by
  rw [State.storePhys_eq, storeBytes_length]

/-- A store to any page but a write-coalescing one writes memory (R388). -/
theorem State.storePhys_written {ma : MemAttr} (h : ma ≠ .wc) (m : State) (pa : Nat) (bs : List Byte) :
    m.storePhys pa ma bs = (m.memWrite pa bs).alatSnoop pa bs.length := by
  rw [State.storePhys_eq]
  unfold State.written
  rw [if_neg h]

/-- A store to a write-coalescing page goes into the buffer (R121). -/
theorem State.storePhys_coalesced (m : State) (pa : Nat) (bs : List Byte) :
    m.storePhys pa .wc bs = (m.wcStore pa bs).alatSnoop pa bs.length := rfl

@[simp] theorem State.noteLoad_mem (t : State) (acc : Acc) (ma : MemAttr) : (t.noteLoad acc ma).mem = t.mem := rfl

@[simp] theorem State.noteLoad_wcb (t : State) (acc : Acc) (ma : MemAttr) : (t.noteLoad acc ma).wcb = t.wcb := rfl

@[simp] theorem State.noteStore_mem (t : State) (acc : Acc) (ma : MemAttr) : (t.noteStore acc ma).mem = t.mem := rfl

@[simp] theorem State.noteStore_wcb (t : State) (acc : Acc) (ma : MemAttr) : (t.noteStore acc ma).wcb = t.wcb := rfl

theorem State.memWrite_sameMemExcept (m : State) (pa : Nat) (bs : List Byte) : m.SameMemExcept (m.memWrite pa bs) pa bs.length :=
  fun a ha => Memory.read_writeBytes_ne bs m.mem pa a ha

/-- A store puts the bytes of its value in memory order (R82). -/
theorem State.memWrite_bytes (hm : m.MemOk) (pa v : Nat) {n k : Nat} (be : Bool) (hk : k < n) :
    Memory.read (m.memWrite pa (storeBytes v n be)).mem (pa + k) = byteOf v n be k := by
  have hk' : k < (storeBytes v n be).length := by rwa [storeBytes_length]
  exact (Memory.read_writeBytes _ m.mem pa k hk' hm).trans (getElem_storeBytes v n be k hk')

/-- With release semantics the buffer is emptied first (R122), which changes nothing but memory and keeps its form. -/
def State.released (s : State) (rel : Bool) : State := if rel then s.wcbFlush else s

theorem State.released_memoryOnly (s : State) (rel : Bool) : s.MemoryOnly (s.released rel) := by
  unfold State.released
  split
  · exact s.wcbFlush_memoryOnly
  · exact .refl s

theorem State.released_memOk (hs : s.MemOk) (rel : Bool) : (s.released rel).MemOk := by
  unfold State.released
  split
  · exact s.wcbFlush_wf hs
  · exact hs

/-- `w` is what an access that stores leaves before it writes a register: memory, overlapped ALAT entries and the use of its translation apart,
it is `s` (R92, R156, R860). -/
def State.Accessed (s w : State) (acc : Acc) (pa n : Nat) : Prop :=
  w = { s with mem := w.mem, wcb := w.wcb, stale := w.stale, alat := s.alat.filter (fun e => !overlap20 pa n e.pa20.toNat e.size),
               dtcache := s.dtcUsed acc, l1dtlb := s.l1dAfter acc, events := w.events }

theorem State.MemoryOnly.noteStore (hm : s.MemoryOnly m) (acc : Acc) (pa n : Nat) (ma : MemAttr) :
    s.Accessed ((m.alatSnoop pa n).noteStore acc ma) acc pa n := by
  obtain ⟨mem, stale, wcb, rfl⟩ : ∃ mem stale wcb, m = { s with mem := mem, stale := stale, wcb := wcb } := ⟨_, _, _, hm⟩
  rfl

/-- What reads and stores uses its translation once (R156, R400). -/
theorem State.noteLoad_noteStore_eq (s : State) (acc : Acc) (ma : MemAttr) :
    ∃ evs, (s.noteLoad acc ma).noteStore acc ma = { s with dtcache := s.dtcUsed acc, l1dtlb := s.l1dAfter acc, events := evs } := by
  refine ⟨((s.noteLoad acc ma).noteStore acc ma).events, ?_⟩
  have load : s.noteLoad acc ma = { s with dtcache := s.dtcUsed acc, l1dtlb := s.l1dAfter acc, events := (s.noteLoad acc ma).events } := rfl
  have store : (s.noteLoad acc ma).noteStore acc ma = { s.noteLoad acc ma with
    dtcache := (s.noteLoad acc ma).dtcUsed acc, l1dtlb := (s.noteLoad acc ma).l1dAfter acc,
    events := ((s.noteLoad acc ma).noteStore acc ma).events } := rfl
  rw [State.dtcUsed_noteLoad, State.l1dAfter_noteLoad] at store
  rw [store, load]

theorem State.MemoryOnly.noteLoad_noteStore (hm : s.MemoryOnly m) (acc : Acc) (pa n : Nat) (ma : MemAttr) :
    s.Accessed (((m.alatSnoop pa n).noteLoad acc ma).noteStore acc ma) acc pa n := by
  obtain ⟨mem, stale, wcb, rfl⟩ : ∃ mem stale wcb, m = { s with mem := mem, stale := stale, wcb := wcb } := ⟨_, _, _, hm⟩
  obtain ⟨evs, noted⟩ := State.noteLoad_noteStore_eq (State.alatSnoop { s with mem := mem, stale := stale, wcb := wcb } pa n) acc ma
  rw [noted]
  rfl

section Accessed

variable {acc : Acc} {pa n : Nat}

theorem State.Accessed.cur_eq (h : s.Accessed w acc pa n) : w.cur = s.cur := by rw [h]

theorem State.Accessed.grPhys_eq (h : s.Accessed w acc pa n) (r : GrIdx) : w.grPhys r = s.grPhys r := by rw [h]; rfl

theorem State.Accessed.grTargetOk_eq (h : s.Accessed w acc pa n) (r : GrIdx) : w.grTargetOk r = s.grTargetOk r := by rw [h]; rfl

theorem State.Accessed.wawFree_eq (h : s.Accessed w acc pa n) (r : WrittenReg) (k : WriteKind) : w.wawFree r k = s.wawFree r k := by
  rw [h]; rfl

end Accessed

end Stored

end Sys2Proof.Machine

namespace Sys2Proof.Forms

open Sys2Proof.Machine

/-! ### Stores -/

/-- What a store writes beside memory and its base is AR[UNAT] alone. -/
theorem StoreSrc.after_eq (s t : State) (r3 : GrIdx) (src : StoreSrc) : src.after s r3 t =
    { t with cur := { t.cur with unat := (src.after s r3 t).cur.unat }, grpWrites := (src.after s r3 t).grpWrites } := by
  cases src <;> rfl

/-- The bit of AR[UNAT] is no general register (R911). -/
theorem StoreSrc.after_wawFree (s t : State) (r3 : GrIdx) (src : StoreSrc) (p : Nat) (k : WriteKind) :
    (src.after s r3 t).wawFree (.gr p) k = t.wawFree (.gr p) k := by
  cases src with
  | gr | fr => rfl
  | spill r2 => exact State.wawFree_cons_other rfl rfl

/-- A spill puts the NaT bit of its source into the bit of AR[UNAT] that its address selects (R390). -/
theorem setUnatBit_bit (t : State) (va : Word) (v : Bool) (k : Nat) :
    if k = va.toNat / 8 % 64 then t.wawFree (.part 36 k) .alu = false → (t.setUnatBit (unatBit va) v).cur.unat.getLsbD k = v
    else (t.setUnatBit (unatBit va) v).cur.unat.getLsbD k = t.cur.unat.getLsbD k := by
  have place : unatBit va < 64 := by
    rw [unatBit_eq]
    exact Nat.mod_lt _ (by decide)
  have bit (b : Bool) : (putBit t.cur.unat (unatBit va) b).getLsbD k = if k = unatBit va then b else t.cur.unat.getLsbD k :=
    putBit_bit t.cur.unat (unatBit va) b k place
  rw [← unatBit_eq]
  split
  · next h =>
    intro free
    exact (bit _).trans ((if_pos h).trans (if_neg (by rw [← h, free]; decide)))
  · next h => exact (bit _).trans (if_neg h)

section Performed

variable {s w : State} {f : StoreForm} {pa : Nat}

/-- The end of a store: what it writes beside memory, and then its base. -/
def StoreForm.ended (s : State) (f : StoreForm) (w : State) : State := s.updateBase (f.src.after s f.r3 w) f.r3 f.u

theorem StoreForm.ended_eq (s : State) (f : StoreForm) (w : State) :
    f.ended s w = { w with cur := (f.ended s w).cur, grpWrites := (f.ended s w).grpWrites } := by
  unfold StoreForm.ended
  rw [State.updateBase_eq, StoreSrc.after_eq]

theorem StoreForm.ended_mem (s : State) (f : StoreForm) (w : State) : (f.ended s w).mem = w.mem := by rw [f.ended_eq]

theorem StoreForm.ended_wcb (s : State) (f : StoreForm) (w : State) : (f.ended s w).wcb = w.wcb := by rw [f.ended_eq]

theorem StoreForm.ended_base (hw : s.Accessed w (f.acc s) pa f.n) (hb : baseReady s f.r3 f.u none) :
    baseDone s (f.ended s w) f.r3 f.u := by
  have names : (f.src.after s f.r3 w).grPhys f.r3 = s.grPhys f.r3 := by rw [StoreSrc.after_eq]; exact hw.grPhys_eq f.r3
  refine baseDone_updateBase names (fun hu => ?_) ((StoreSrc.after_wawFree ..).trans (hw.wawFree_eq _ _))
  rw [StoreSrc.after_eq]
  exact (hw.grTargetOk_eq f.r3).trans (hb.updated hu).1

theorem StoreForm.ended_frame (hw : s.Accessed w (f.acc s) pa f.n) : f.Frame s (f.ended s w) pa := by
  have after := f.src.after_eq s w f.r3
  have names : (f.src.after s f.r3 w).grPhys f.r3 = s.grPhys f.r3 := by rw [after]; exact hw.grPhys_eq f.r3
  have only : (f.src.after s f.r3 w).cur.OnlyGr (f.ended s w).cur := State.updateBase_onlyGr s _ f.r3 f.u
  have unat : (f.ended s w).cur.unat = (f.src.after s f.r3 w).cur.unat := by rw [only]
  have ended := f.ended_eq s w
  refine ⟨fun p hp => ?_, ?_, ?_, ?_, ?_⟩
  · have kept : (f.ended s w).cur.gr p = (f.src.after s f.r3 w).cur.gr p := updateBase_gr names hp
    rw [kept, after, ← hw.cur_eq]
    rfl
  · unfold Regs.OnlyGr at only
    rw [after, hw.cur_eq] at only
    rw [only]
  · cases hsrc : f.src with
    | gr | fr =>
      rw [unat, hsrc, ← hw.cur_eq]
      rfl
    | spill r2 =>
      intro k _
      rw [unat, hsrc, ← hw.cur_eq, ← hw.wawFree_eq]
      exact setUnatBit_bit w _ _ k
  · rw [ended, hw]
  · rw [ended, hw]

/-- What a store leaves in memory, and in the write-coalescing buffer (R121, R122, R388). -/
theorem StoreForm.ended_stored (f : StoreForm) (pa : Nat) (ma : MemAttr) : f.stored s (f.ended s
    (((s.released f.rel).storePhys pa ma (storeBytes (f.src.value s) f.n s.umBe)).noteStore (f.acc s) ma)) pa ma := by
  unfold StoreForm.stored
  rw [f.ended_mem, f.ended_wcb, State.noteStore_mem, State.noteStore_wcb]
  refine ⟨fun hma => ?_, fun hma => ?_⟩
  · rw [State.storePhys_written hma, State.alatSnoop_mem, State.alatSnoop_wcb]
    refine ⟨fun a hout => ?_, fun hs k hk => ?_, State.memWrite_wcb ..⟩
    · rw [f.ended_mem, State.noteStore_mem]
      exact State.memWrite_sameMemExcept _ pa _ a (by rwa [storeBytes_length])
    · exact State.memWrite_bytes (State.released_memOk hs f.rel) pa _ _ hk
  · subst hma
    rw [State.storePhys_coalesced, State.alatSnoop_mem, State.alatSnoop_wcb]
    exact ⟨rfl, rfl⟩

theorem StoreForm.performs {i : Instr} (hi : f.Is i) : f.Performs i := by
  intro s hq hb hr hn pa ma ha
  obtain ⟨present, clear⟩ : f.src.present s ∧ ¬ f.src.hasNat s := by
    cases hsrc : f.src with
    | gr r2 => rw [hsrc] at hr; exact ⟨hr.1, ne_true_of_eq_false hr.2⟩
    | spill r2 => rw [hsrc] at hr; exact ⟨hr, id⟩
    | fr f2 fmt => rw [hsrc] at hr; exact ⟨hr.1, fun ⟨nat, fill⟩ => fill (hr.2 nat)⟩
  let bs := storeBytes (f.src.value s) f.n s.umBe
  let m := s.released f.rel
  have accessed : s.Accessed ((m.storePhys pa ma bs).noteStore (f.acc s) ma) (f.acc s) pa f.n := by
    rw [State.storePhys_storeBytes]
    exact State.MemoryOnly.noteStore ((s.released_memoryOnly f.rel).trans (m.written_memoryOnly pa ma bs)) (f.acc s) pa f.n ma
  refine ⟨f.ended s ((m.storePhys pa ma bs).noteStore (f.acc s) ma), ?_, f.ended_stored pa ma, f.ended_base accessed hb,
    f.ended_frame accessed⟩
  rw [hi.1, f.outcome_of_present hi.2 hq hb present, StoreForm.body_of_clear hb hn clear, ha]
  rfl

end Performed

/-! ### Semaphores -/

/-- An access that is allowed is supported (R570). -/
theorem unsupportedRef_of_access {s : State} {acc : Acc} {pa : Nat} {ma : MemAttr} (ha : s.access acc = .ok (pa, ma)) :
    unsupportedRef acc ma = false := by
  have checked : s.checkData acc ma = .ok () := by
    unfold State.access State.resolve at ha
    cases ht : s.translate acc with
    | error e => simp [ht, Except.bind] at ha
    | ok p =>
      cases hd : s.checkData acc p.2 with
      | error e => simp [ht, hd, Except.bind] at ha
      | ok v =>
        obtain rfl : p = (pa, ma) := by simpa [ht, hd, Except.bind] using ha
        exact hd
  unfold State.checkData at checked
  cases hu : unsupportedRef acc ma with
  | false => rfl
  | true =>
    rw [hu, if_pos rfl] at checked
    repeat' split at checked
    all_goals cases checked

/-- A semaphore does not reach a write-coalescing page (R570). -/
theorem semaphore_not_wc {s : State} {acc : Acc} {pa : Nat} {ma : MemAttr} (hc : acc.cls = .semaphore)
    (ha : s.access acc = .ok (pa, ma)) : ma ≠ .wc := by
  rintro rfl
  have supported := unsupportedRef_of_access ha
  simp [unsupportedRef, hc, MemAttr.uncacheable] at supported

section Semaphore

variable {s m : State} {pa n : Nat} {ma : MemAttr} {be : Bool}

theorem semStored_some (m : State) (pa : Nat) (ma : MemAttr) (n : Nat) (be : Bool) (v : Nat) :
    semStored m pa ma n be (some v) = m.storePhys pa ma (storeBytes v n be) := rfl

theorem semStored_accessed (hm : s.MemoryOnly m) (new : Option Nat) (acc : Acc) :
    s.Accessed (((semStored m pa ma n be new).noteLoad acc ma).noteStore acc ma) acc pa n := by
  cases new with
  | none => exact hm.noteLoad_noteStore acc pa n ma
  | some v =>
    rw [semStored_some, State.storePhys_storeBytes]
    exact (hm.trans (m.written_memoryOnly pa ma _)).noteLoad_noteStore acc pa n ma

/-- What a semaphore leaves in memory (R400 to R403). -/
theorem semStored_mem (hma : ma ≠ .wc) (new : Option Nat) :
    m.SameMemExcept (semStored m pa ma n be new) pa n ∧ (semStored m pa ma n be new).wcb = m.wcb ∧
      (new = none → m.SameMem (semStored m pa ma n be new)) ∧
      ∀ v, new = some v → m.MemOk → ∀ k, k < n → Memory.read (semStored m pa ma n be new).mem (pa + k) = byteOf v n be k := by
  cases new with
  | none => exact ⟨fun _ _ => rfl, rfl, fun _ _ => rfl, nofun⟩
  | some v =>
    rw [semStored_some, State.storePhys_written hma, State.alatSnoop_wcb, State.alatSnoop_mem]
    refine ⟨fun a ha => ?_, State.memWrite_wcb .., nofun, fun v' hv hm k hk => ?_⟩
    · exact State.memWrite_sameMemExcept m pa _ a (by rwa [storeBytes_length])
    · cases hv
      exact State.memWrite_bytes hm pa v be hk

/-- The target of a semaphore, written after its access. -/
theorem accessed_setGr {w : State} {acc : Acc} (h : s.Accessed w acc pa n) {r : GrIdx} (hr : s.grTargetOk r = true) (v : GReg) :
    (w.setGr r v .load).cur.gr (s.grPhys r) = v ∧ (∀ p, p ≠ s.grPhys r → (w.setGr r v .load).cur.gr p = s.cur.gr p) ∧
      s.cur.OnlyGr (w.setGr r v .load).cur ∧
      (w.setGr r v .load).alat = s.alat.filter (fun e => !overlap20 pa n e.pa20.toNat e.size) ∧
      w.setGr r v .load = { s with
        cur := (w.setGr r v .load).cur, mem := (w.setGr r v .load).mem, wcb := (w.setGr r v .load).wcb, stale := (w.setGr r v .load).stale,
        alat := (w.setGr r v .load).alat, dtcache := s.dtcUsed acc, l1dtlb := s.l1dAfter acc,
        grpWrites := (w.setGr r v .load).grpWrites, events := (w.setGr r v .load).events } := by
  have target := w.setGr_same r v .load (by rw [h.grTargetOk_eq]; exact hr) (w.wawFree_gr_load _)
  have rest : w.setGr r v .load = { w with cur := (w.setGr r v .load).cur, grpWrites := (w.setGr r v .load).grpWrites } := rfl
  rw [h.grPhys_eq] at target
  refine ⟨target, fun p hp => ?_, ?_, ?_, ?_⟩
  · rw [w.setGr_other r v .load p (by rwa [h.grPhys_eq]), h.cur_eq]
  · rw [← h.cur_eq]
    exact Regs.setGr_frame _ _ _
  · rw [rest, h]
  · rw [rest, h]

end Semaphore

section Performed

variable {i : Instr} {s : State} {f : SemForm} {pa : Nat} {ma : MemAttr}

/-- The value that a semaphore finds (R400). -/
def SemForm.found (s : State) (f : SemForm) (pa : Nat) : Nat := Memory.load (s.released f.rel).mem pa f.n s.umBe

/-- A semaphore after its access, before it writes its target. -/
def SemForm.accessed (s : State) (f : SemForm) (pa : Nat) (ma : MemAttr) : State :=
  ((semStored (s.released f.rel) pa ma f.n s.umBe (f.new s (f.found s pa))).noteLoad (f.acc s) ma).noteStore (f.acc s) ma

theorem SemForm.accessed_mem (s : State) (f : SemForm) (pa : Nat) (ma : MemAttr) :
    (f.accessed s pa ma).mem = (semStored (s.released f.rel) pa ma f.n s.umBe (f.new s (f.found s pa))).mem := by
  unfold SemForm.accessed
  rw [State.noteStore_mem, State.noteLoad_mem]

theorem SemForm.accessed_wcb (s : State) (f : SemForm) (pa : Nat) (ma : MemAttr) :
    (f.accessed s pa ma).wcb = (semStored (s.released f.rel) pa ma f.n s.umBe (f.new s (f.found s pa))).wcb := by
  unfold SemForm.accessed
  rw [State.noteStore_wcb, State.noteLoad_wcb]

theorem SemForm.completes (hi : f.Is i) (hq : s.pred f.qp = true) (h1 : s.grTargetOk f.r1 = true) (h3 : s.grVisible f.r3 = true)
    (h2 : s.grVisible f.r2 = true) (hn : (s.gr f.r3).nat = false) (hd : (s.gr f.r2).nat = false)
    (ha : s.access (f.acc s) = .ok (pa, ma)) :
    exec i s = .next (retire s { s := (f.accessed s pa ma).setGr f.r1 (GReg.ofWord (BitVec.ofNat 64 (f.found s pa))) .load }) := by
  have allowed : s.access (s.semAcc (s.gr f.r3).val f.n) = .ok (pa, ma) := ha
  rw [hi s hq h1 h2, semBody_of_clear h3 hn hd, allowed]
  rfl

theorem SemForm.performs (hi : f.Is i) : f.Performs i := by
  intro s hq h1 h3 h2 hn hd pa ma ha
  have accessed : s.Accessed (f.accessed s pa ma) (f.acc s) pa f.n := semStored_accessed (s.released_memoryOnly f.rel) _ _
  obtain ⟨others, buffer, same, stored⟩ := semStored_mem (m := s.released f.rel) (pa := pa) (n := f.n) (be := s.umBe)
    (semaphore_not_wc rfl ha) (f.new s (f.found s pa))
  obtain ⟨target, rest⟩ := accessed_setGr accessed h1 (GReg.ofWord (BitVec.ofNat 64 (f.found s pa)))
  refine ⟨_, SemForm.completes hi hq h1 h3 h2 hn hd ha, ⟨target, fun a hout => ?_, ?_, fun hnone a => ?_, fun v hv hs k hk => ?_⟩, rest⟩
  · rw [State.setGr_mem, f.accessed_mem]
    exact others a hout
  · rw [State.setGr_wcb, f.accessed_wcb]
    exact buffer
  · rw [State.setGr_mem, f.accessed_mem]
    exact same hnone a
  · rw [State.setGr_mem, f.accessed_mem]
    exact stored v hv (State.released_memOk hs f.rel) k hk

end Performed

/-! ### Line prefetch -/

section Prefetch

variable {i : Instr} {s : State} {f : PrefetchForm}

/-- The address of a prefetch has no NaT bit and its access is allowed (R412). -/
def PrefetchForm.Reads (s : State) (f : PrefetchForm) : Prop := (s.gr f.r3).nat = false ∧ ∃ p, s.access (f.acc s) = .ok p

/-- A prefetch whose access is allowed uses its translation as a load does (R110). -/
theorem PrefetchForm.exec_of_reads (hi : ∀ s, exec i s = f.outcome s) (hq : s.pred f.qp = true) (hb : baseReady s f.r3 f.u none)
    (reads : f.Reads s) : exec i s = .next (retire s { s := s.updateBase (s.readNoted (f.acc s)) f.r3 f.u }) := by
  obtain ⟨hn, p, hp⟩ := reads
  have allowed : s.access (s.prefetchAcc (s.gr f.r3).val) = .ok p := hp
  rw [hi]
  unfold PrefetchForm.outcome
  split
  · rw [lfetchFault_of_clear hq hb hn, allowed]
    rfl
  · refine (run_true hb.baseTarget hq).trans ?_
    rw [hb.readGr, hb.updateReadable]
    dsimp only [Except.bind]
    rw [hn, allowed]
    rfl

/-- Any other prefetch that does not fault updates its base alone (R412). -/
theorem PrefetchForm.exec_of_not_reads (hi : ∀ s, exec i s = f.outcome s) (hq : s.pred f.qp = true) (hb : baseReady s f.r3 f.u none)
    (hf : f.fault = false) (reads : ¬ f.Reads s) : exec i s = .next (retire s { s := s.updateBase s f.r3 f.u }) := by
  rw [hi]
  unfold PrefetchForm.outcome
  rw [hf]
  refine (run_true hb.baseTarget hq).trans ?_
  rw [hb.readGr, hb.updateReadable]
  dsimp only [Except.bind]
  split
  · next p hn hp => exact absurd ⟨hn, p, hp⟩ reads
  · rfl

/-- The update of a base after uses of translations alone. -/
theorem updateBase_of_used {w : State} {r3 : GrIdx} {u : BaseUpdate} (hb : baseReady s r3 u none)
    (hw : w = { s with dtcache := w.dtcache, l1dtlb := w.l1dtlb, events := w.events }) :
    baseDone s (s.updateBase w r3 u) r3 u ∧ (∀ p, basePhys s r3 u ≠ some p → (s.updateBase w r3 u).cur.gr p = s.cur.gr p) ∧
      s.cur.OnlyGr (s.updateBase w r3 u).cur ∧ s.SameMem (s.updateBase w r3 u) := by
  obtain ⟨d, l, evs, rfl⟩ : ∃ d l evs, w = { s with dtcache := d, l1dtlb := l, events := evs } := ⟨_, _, _, hw⟩
  refine ⟨baseDone_updateBase rfl (fun hu => (hb.updated hu).1) rfl, fun p hp => updateBase_gr rfl hp, s.updateBase_onlyGr _ r3 u,
    fun a => ?_⟩
  rw [State.updateBase_eq]

theorem PrefetchForm.completes (hi : ∀ s, exec i s = f.outcome s) : f.Completes i := by
  intro s hq hb reads hf
  by_cases h : f.Reads s
  · obtain ⟨base, others, only, mem⟩ := updateBase_of_used (w := s.readNoted (f.acc s)) hb rfl
    refine ⟨_, PrefetchForm.exec_of_reads hi hq hb h, base, others, only, mem, fun _ => ?_, fun idle => absurd h idle⟩
    rw [State.updateBase_eq]
    rfl
  · have plain : f.fault = false := Bool.eq_false_iff.2 fun hfault => h (hf hfault)
    obtain ⟨base, others, only, mem⟩ := updateBase_of_used (w := s) hb rfl
    exact ⟨_, PrefetchForm.exec_of_not_reads hi hq hb plain h, base, others, only, mem, fun used => absurd used h,
      fun _ => s.updateBase_eq s f.r3 f.u⟩

end Prefetch

end Sys2Proof.Forms

section

open Sys2Proof Machine Forms

/-- Settles O38: each shared operation leaves a state that differs from the one before in memory and the notes of its access, and then writes
its registers. -/
theorem storesSemaphoresAndPrefetches : Obligations.StoresSemaphoresAndPrefetches := by
  unfold Obligations.StoresSemaphoresAndPrefetches
  exact ⟨⟨fun _ _ h => StoreForm.performs (intStoreForm_is h), fun _ _ h => StoreForm.performs (fpStoreForm_is h)⟩,
    fun _ _ h => SemForm.performs (semForm_is h), fun _ _ h => PrefetchForm.completes (prefetchForm_is h)⟩

end

end

section
/-! SUPPORT. Speculation checks and invalidations of ALAT entries (R366, R420, R421, R440, R441, R511, R566): what a check that passes or fails
answers, said once for every check. -/

namespace Sys2Proof.Machine

open Sys2Proof.Forms

/-! ### Failed checks (R566) -/

section CheckFail

variable {s : State}

theorem State.resteers_iff : s.resteers = true ↔ resteered s := by
  unfold State.resteers resteered
  rw [Bool.and_eq_true, Bool.and_eq_true, Bool.and_eq_true, Bool.not_eq_true', Bool.not_eq_true', and_assoc, and_assoc]

/-- A displacement of 21 bits, in bundles (R240). -/
theorem State.target25_eq (s : State) (imm21 : BitVec 21) : s.target25 imm21 = relTarget s imm21 := by
  unfold State.target25 relTarget
  rw [BitVec.signExtend, BitVec.ofInt_mul, BitVec.shiftLeft_eq_mul_twoPow]
  rfl

theorem State.checkFail_branches (h : resteered s) (t : State) (e : PmuEvent) (imm21 : BitVec 21) :
    s.checkFail t e imm21 = .ok { s := t.emit e, target := some (relTarget s imm21) } := by
  rw [← s.target25_eq]
  exact if_pos (State.resteers_iff.mpr h)

theorem State.checkFail_faults (h : ¬ resteered s) (t : State) (e : PmuEvent) (imm21 : BitVec 21) :
    s.checkFail t e imm21 = .error (.intr { vec := .speculation, iim := some (imm21.setWidth 64), events := [e] }) :=
  if_neg (mt State.resteers_iff.mp h)

/-- An instruction that completes as a check does where it passes, and fails as one does where it fails. -/
theorem checks_of_run {i : Instr} {qp : PredIdx} {b : Except Exc Res} {imm21 : BitVec 21} {ev : PmuEvent} {fails : Prop}
    {pass miss : State → Prop} (runs : exec i s = run s qp (.ok ()) b) (short : isLong i = false) (hq : s.pred qp = true)
    (passes : ¬ fails → ∃ u, b = .ok { s := u } ∧ pass u) (misses : fails → ∃ t, b = s.checkFail t ev imm21 ∧ miss (t.emit ev)) :
    Checks i s imm21 ev fails pass miss := by
  refine ⟨fun ok => ?_, fun bad branches => ?_, fun bad traps => ?_⟩
  · obtain ⟨u, hb, hu⟩ := passes ok
    exact ⟨u, yields_of_run runs short hq rfl hb, hu⟩
  · obtain ⟨t, hb, ht⟩ := misses bad
    refine ⟨t.emit ev, ?_, ht, List.mem_cons_self⟩
    unfold YieldsTo
    rw [runs, run_true rfl hq, hb, State.checkFail_branches branches]
    rfl
  · obtain ⟨t, hb, -⟩ := misses bad
    rw [runs, run_true rfl hq, hb, State.checkFail_faults traps]
    rfl

end CheckFail

/-! ### The checks -/

section Checks

variable {s : State} {i : Instr} {qp : PredIdx} {imm21 : BitVec 21}

theorem chkS_checks {r2 : GrIdx} (runs : exec i s = chkS s qp r2 imm21) (short : isLong i = false) (hq : s.pred qp = true)
    (visible : s.grVisible r2 = true) :
    Checks i s imm21 (.chksFailed false) ((s.gr r2).nat = true) s.OnlyEvents s.OnlyEvents := by
  have read : (s.readGr r2).bind (fun v => if v.nat then s.checkFail s (.chksFailed false) imm21 else .ok { s := s }) =
      if (s.gr r2).nat then s.checkFail s (.chksFailed false) imm21 else .ok { s := s } := by
    rw [State.readGr_ok visible]
    rfl
  exact checks_of_run runs short hq (fun clear => ⟨s, read.trans (if_neg clear), rfl⟩) fun nat => ⟨s, read.trans (if_pos nat), rfl⟩

theorem chkSFp_checks {f2 : FrIdx} (runs : exec i s = chkSFp s qp f2 imm21) (short : isLong i = false) (hq : s.pred qp = true)
    (enabled : s.frDisabled f2 = 0) :
    Checks i s imm21 (.chksFailed true) (s.fr f2 = FReg.natVal) s.OnlyEvents s.OnlyEvents := by
  have read : (s.fpEnabled [f2]).bind (fun _ => if s.fr f2 = FReg.natVal then s.checkFail s (.chksFailed true) imm21 else .ok { s := s }) =
      if s.fr f2 = FReg.natVal then s.checkFail s (.chksFailed true) imm21 else .ok { s := s } := by
    rw [State.fpEnabled_single enabled]
    rfl
  exact checks_of_run runs short hq (fun clear => ⟨s, read.trans (if_neg clear), rfl⟩) fun nat => ⟨s, read.trans (if_pos nat), rfl⟩

/-- What `chk.a` leaves of the ALAT, whether it finds its entry or not (R97, R421). -/
def chkALeaves (s : State) (clr : Bool) (reg : AlatReg) (u : State) : Prop := if clr then entryRemoved s u reg else onlyChecked s u reg

/-- Only the entry of the register goes. -/
theorem State.mem_alatRemove (s : State) (reg : AlatReg) (e : AlatEntry) :
    e ∈ (s.alatRemove reg).alat ↔ e ∈ s.alat ∧ e.reg ≠ reg := by
  simp [State.alatRemove]

theorem State.entryRemoved_alatInvalidate (s : State) (reg : AlatReg) : entryRemoved s (s.alatInvalidate reg) reg :=
  ⟨rfl, s.mem_alatRemove reg⟩

theorem State.chkACleared_leaves (s : State) (clr : Bool) (reg : AlatReg) (ev : PmuEvent) :
    chkALeaves s clr reg ((s.chkACleared reg clr).emit ev) := by
  cases clr with
  | false =>
    show onlyChecked s _ reg
    rfl
  | true => exact ⟨rfl, s.mem_alatRemove reg⟩

/-- `chk.a`, once its register may be checked. -/
theorem chkA_checks {b : Except Exc Res} {reg : AlatReg} {clr : Bool} (runs : exec i s = run s qp (.ok ()) b) (short : isLong i = false)
    (hq : s.pred qp = true) (hb : b = s.chkA reg clr imm21) :
    Checks i s imm21 (.chkaLdc reg.isFp true none) (s.alatHit reg = false) (chkALeaves s clr reg) (chkALeaves s clr reg) :=
  checks_of_run runs short hq
    (fun hit => ⟨_, hb.trans (if_pos (eq_true_of_ne_false hit)), s.chkACleared_leaves clr reg _⟩)
    fun miss => ⟨_, hb.trans (if_neg (ne_true_of_eq_false miss)), s.chkACleared_leaves clr reg _⟩

theorem chkAGr_checks {r1 : GrIdx} {clr : Bool} (runs : exec i s = chkAGr s qp r1 clr imm21) (short : isLong i = false)
    (hq : s.pred qp = true) (visible : s.grVisible r1 = true) :
    Checks i s imm21 (.chkaLdc false true none) (s.alatHit (.gr (s.grPhys r1)) = false) (chkALeaves s clr (.gr (s.grPhys r1)))
      (chkALeaves s clr (.gr (s.grPhys r1))) :=
  chkA_checks (reg := .gr (s.grPhys r1)) runs short hq (by rw [State.readGr_ok visible]; rfl)

theorem chkAFr_checks {f1 : FrIdx} {clr : Bool} (runs : exec i s = chkAFr s qp f1 clr imm21) (short : isLong i = false)
    (hq : s.pred qp = true) (enabled : s.frDisabled f1 = 0) :
    Checks i s imm21 (.chkaLdc true true none) (s.alatHit (.fr (s.frPhys f1)) = false) (chkALeaves s clr (.fr (s.frPhys f1)))
      (chkALeaves s clr (.fr (s.frPhys f1))) :=
  chkA_checks (reg := .fr (s.frPhys f1)) runs short hq (by rw [State.fpEnabled_single enabled]; rfl)

/-- Some bit is set in the one word and clear in the other. -/
theorem and_not_ne_zero_iff {w : Nat} (x y : BitVec w) :
    (x &&& ~~~ y != 0) = true ↔ ∃ k, k < w ∧ x.getLsbD k = true ∧ y.getLsbD k = false := by
  rw [bne_iff_ne]
  constructor
  · intro differs
    by_contra none
    refine differs (BitVec.eq_of_getLsbD_eq fun k hk => ?_)
    have covered : x.getLsbD k = true → y.getLsbD k = true := fun set =>
      eq_true_of_ne_false fun clear => none ⟨k, hk, set, clear⟩
    rw [BitVec.getLsbD_and, BitVec.getLsbD_not, decide_eq_true hk]
    cases hx : x.getLsbD k with
    | false => simp
    | true => simp [covered hx]
  · rintro ⟨k, hk, set, clear⟩ zero
    have bit : (x &&& ~~~ y).getLsbD k = false := by
      rw [zero]
      exact BitVec.getLsbD_zero
    rw [BitVec.getLsbD_and, BitVec.getLsbD_not, set, clear, decide_eq_true hk] at bit
    exact absurd bit (by decide)

theorem fpsrFlags_bit (f : Word) (sf : BitVec 2) {k : Nat} (hk : k < 6) :
    (fpsrFlags f sf).getLsbD k = f.getLsbD (6 + 13 * sf.toNat + 7 + k) := by
  rw [fpsrFlags, BitVec.getLsbD_extractLsb', decide_eq_true hk, Bool.true_and]
  rfl

/-- A flag of the field fails the check where its trap is enabled or status field 0 does not have it (R511). -/
theorem fchkfFails_iff (f : Word) (sf : BitVec 2) : fchkfFails f sf = true ↔
    ∃ k, k < 6 ∧ f.getLsbD (6 + 13 * sf.toNat + 7 + k) = true ∧
      (f.getLsbD k = false ∨ f.getLsbD (6 + 13 * (0 : BitVec 2).toNat + 7 + k) = false) := by
  have traps {k : Nat} (hk : k < 6) : (f.extractLsb' 0 6).getLsbD k = f.getLsbD k := by
    rw [BitVec.getLsbD_extractLsb', decide_eq_true hk, Bool.true_and, Nat.zero_add]
  unfold fchkfFails
  rw [Bool.or_eq_true, and_not_ne_zero_iff, and_not_ne_zero_iff, ← exists_or]
  refine exists_congr fun k => ?_
  rw [← and_or_left, ← and_or_left]
  refine and_congr_right fun hk => ?_
  rw [fpsrFlags_bit f sf hk, fpsrFlags_bit f 0 hk, traps hk]

end Checks

end Sys2Proof.Machine

section

open Sys2Proof Machine Forms

/-- Settles O45: every check is a body that passes or ends in `checkFail`, and an invalidation filters the ALAT. -/
theorem checksAndInvalidation : Obligations.ChecksAndInvalidation := by
  unfold Obligations.ChecksAndInvalidation
  refine ⟨?_, fun qp f2 imm s hq enabled => chkSFp_checks rfl rfl hq enabled, fun qp r1 imm s hq visible => ?_,
    fun qp f1 imm s hq enabled => ?_, fun qp sf imm s hq => ?_, fun qp s hq => yields_of_run rfl rfl hq rfl rfl,
    fun qp r1 s hq visible => ?_, fun qp f1 s hq => ?_⟩
  · rintro i qp r2 imm s (rfl | rfl) hq visible
    · exact chkS_checks rfl rfl hq visible
    · exact chkS_checks rfl rfl hq visible
  · exact ⟨chkAGr_checks (clr := false) rfl rfl hq visible, chkAGr_checks (clr := true) rfl rfl hq visible⟩
  · exact ⟨chkAFr_checks (clr := false) rfl rfl hq enabled, chkAFr_checks (clr := true) rfl rfl hq enabled⟩
  · refine checks_of_run rfl rfl hq (fun ok => ⟨s, if_neg (mt (fchkfFails_iff s.old.fpsr sf).mp ok), rfl⟩) fun bad => ⟨s, ?_, rfl⟩
    exact if_pos ((fchkfFails_iff s.old.fpsr sf).mpr bad)
  · refine ⟨_, yields_of_run rfl rfl hq rfl ?_, s.entryRemoved_alatInvalidate _⟩
    rw [require_ok visible]
    rfl
  · exact ⟨_, yields_of_run rfl rfl hq rfl rfl, s.entryRemoved_alatInvalidate _⟩

end

end

section
/-! SUPPORT. Fences, serialization and the flush of a line (R140, R141, R447, R450 to R455): what the sequence `fc`, `sync.i`, `srlz.i` makes of
the stores that instruction fetch may miss. -/

namespace Sys2Proof.Machine

open Sys2Proof.Forms

/-! ### Stores that fetch may miss (R140) -/

section Stale

/-- How far a store has come once `fc` has reached the line of `a` (R141). -/
def StaleStore.flushed (b : StaleStore) (a : Nat) : StaleStore :=
  if b.addr / 128 = a / 128 ∧ b.stage = 0 then { b with stage := 1 } else b

/-- How far a store has come after `sync.i` (R453). -/
def StaleStore.synced (b : StaleStore) : StaleStore := if b.stage = 1 then { b with stage := 2 } else b

theorem State.staleFc_stale (s : State) (a : Nat) : (s.staleFc a).stale = s.stale.map (·.flushed a) := rfl

theorem State.staleSync_stale (s : State) : s.staleSync.stale = s.stale.map StaleStore.synced := rfl

theorem State.mem_serializeInstr {s : State} {b : StaleStore} : b ∈ s.serializeInstr.stale ↔ b ∈ s.stale ∧ b.stage ≠ 2 := by
  simp [State.serializeInstr]

theorem StaleStore.flushed_addr (b : StaleStore) (a : Nat) : (b.flushed a).addr = b.addr := by
  unfold StaleStore.flushed
  split <;> rfl

theorem StaleStore.flushed_of_waiting {b : StaleStore} {a : Nat} (line : b.addr / 128 = a / 128) (waiting : b.stage = 0) :
    b.flushed a = { b with stage := 1 } := if_pos ⟨line, waiting⟩

/-- A store to the flushed line has begun its way to fetch. -/
theorem StaleStore.flushed_stage_ne_zero {b : StaleStore} {a : Nat} (line : b.addr / 128 = a / 128) : (b.flushed a).stage ≠ 0 := by
  unfold StaleStore.flushed
  split
  · exact Nat.one_ne_zero
  · next other => exact fun waiting => other ⟨line, waiting⟩

theorem StaleStore.synced_addr (b : StaleStore) : b.synced.addr = b.addr := by
  unfold StaleStore.synced
  split <;> rfl

/-- Begun is done, after `sync.i`. -/
theorem StaleStore.synced_stage {b : StaleStore} (begun : b.stage ≠ 0) (bound : b.stage ≤ 2) : b.synced.stage = 2 := by
  unfold StaleStore.synced
  split
  · rfl
  · omega

theorem StaleStore.flushed_stage_le {b : StaleStore} (a : Nat) (bound : b.stage ≤ 2) : (b.flushed a).stage ≤ 2 := by
  unfold StaleStore.flushed
  split
  · exact Nat.le_succ 1
  · exact bound

/-- After `fc`, `sync.i` and an instruction serialization fetch misses no store to the flushed line (R140). -/
theorem State.line_seen_after_sequence {s : State} (a : Nat) (stages : ∀ b ∈ s.stale, b.stage ≤ 2) :
    ∀ b ∈ (((s.staleFc a).staleSync).serializeInstr).stale, b.addr / 128 ≠ a / 128 := by
  intro b hb line
  obtain ⟨hb, stage⟩ := State.mem_serializeInstr.mp hb
  rw [State.staleSync_stale, State.staleFc_stale, List.map_map] at hb
  obtain ⟨c, hc, rfl⟩ := List.mem_map.mp hb
  have same : c.addr / 128 = a / 128 := by
    rwa [Function.comp_apply, StaleStore.synced_addr, StaleStore.flushed_addr] at line
  exact stage (StaleStore.synced_stage (StaleStore.flushed_stage_ne_zero same) (StaleStore.flushed_stage_le a (stages c hc)))

end Stale

/-- `srlz.i` drops the stores that have gone through the sequence, and shows the user mask (R455). -/
theorem State.serialized_eq (s : State) : (s.serializeData.serializeInstr).emit .serialize =
    { s with stale := s.stale.filter fun b => b.stage ≠ 2, umGroup := s.psr.extractLsb' 0 6,
             events := ((s.serializeData.serializeInstr).emit .serialize).events } := by
  have dropped : s.stale.filter (fun b => b.stage != 2) = s.stale.filter fun b => b.stage ≠ 2 :=
    List.filter_congr fun b _ => (decide_not (p := b.stage = 2)).symm
  rw [← dropped]
  rfl

/-! ### What a flush adds to the stores that fetch may miss (R122, R140) -/

theorem State.wcbWriteBack_stale (s : State) (e : WcbEntry) : s.stale ⊆ (s.wcbWriteBack e).stale := by
  unfold State.wcbWriteBack
  generalize wcbRuns e.bytes = l
  induction l generalizing s with
  | nil => exact List.Subset.refl _
  | cons c l ih => exact List.Subset.trans (List.subset_cons_self _ _) (ih (s.memWrite _ _))

/-- A flush forgets no store that fetch may miss. -/
theorem State.wcbFlush_stale (s : State) : s.stale ⊆ s.wcbFlush.stale := by
  have many (l : List WcbEntry) (s : State) : s.stale ⊆ (l.foldl State.wcbWriteBack s).stale := by
    induction l generalizing s with
    | nil => exact List.Subset.refl _
    | cons e l ih => exact List.Subset.trans (s.wcbWriteBack_stale e) (ih (s.wcbWriteBack e))
  exact many s.wcb s

/-- A flush changes no byte as the processor sees it (R122). -/
theorem State.seesAs_wcbFlush {s : State} (hm : s.MemOk) (hs : s.WcbOk) : s.SeesAs s.wcbFlush :=
  ⟨s.wcbFlush_wf hm, ⟨.nil, nofun⟩, fun a => (State.coherentByte_not_held fun _ ⟨_, he, _⟩ => by cases he).trans (State.read_wcbFlush hm hs a)⟩

/-! ### The flush of a line (R141, R447) -/

section Fc

variable {s : State}

/-- The buffer as `fc` leaves it: empty where it held the line (R141). -/
def State.fcFlushed (s : State) (pa : Nat) : State := if s.wcb.any (fun e => e.line = pa / 128) then s.wcbFlush else s

theorem State.fcFlushed_memoryOnly (s : State) (pa : Nat) : s.MemoryOnly (s.fcFlushed pa) := by
  unfold State.fcFlushed
  split
  · exact s.wcbFlush_memoryOnly
  · exact .refl s

theorem State.fcFlushed_stale (s : State) (pa : Nat) : s.stale ⊆ (s.fcFlushed pa).stale := by
  unfold State.fcFlushed
  split
  · exact s.wcbFlush_stale
  · exact List.Subset.refl _

theorem State.seesAs_fcFlushed (hm : s.MemOk) (hs : s.WcbOk) (pa : Nat) : s.SeesAs (s.fcFlushed pa) := by
  unfold State.fcFlushed
  split
  · exact State.seesAs_wcbFlush hm hs
  · exact .refl hm hs

/-- What `fc` leaves of a line at `pa`: memory and buffer, the stores to the line marked, and a transaction due on the bus (R870). -/
def State.fcDone (s : State) (pa : Nat) : State := ((s.fcFlushed pa).staleFc pa).noteBil

theorem State.fcDone_eq (s : State) (pa : Nat) : s.fcDone pa =
    { s with mem := (s.fcDone pa).mem, wcb := (s.fcDone pa).wcb, stale := (s.fcDone pa).stale, bilDue := s.bilDue + 1 } := by
  obtain ⟨mem, stale, wcb, flushed⟩ : ∃ mem stale wcb, s.fcFlushed pa = { s with mem := mem, stale := stale, wcb := wcb } :=
    ⟨_, _, _, s.fcFlushed_memoryOnly pa⟩
  unfold State.fcDone
  rw [flushed]
  rfl

theorem State.mem_fcDone_stale {pa : Nat} {b : StaleStore} :
    b ∈ (s.fcDone pa).stale ↔ ∃ c ∈ (s.fcFlushed pa).stale, c.flushed pa = b := List.mem_map

theorem fc_body {r3 : GrIdx} {pa : Nat} {ma : MemAttr} (base : usable s r3)
    (allowed : s.access { va := (s.gr r3).val, n := 1, cls := .reference, r := true, na := some 1, cpl := s.cpl } = .ok (pa, ma)) :
    ((s.readGr r3).bind fun base =>
      if base.nat then .error (natConsumptionNa 1 true false)
      else
        (s.access { va := base.val, n := 1, cls := .reference, r := true, na := some 1, cpl := s.cpl }).bind fun p =>
          let t := if s.wcb.any (fun e => e.line = p.1 / 128) then s.wcbFlush else s
          .ok { s := (t.staleFc p.1).noteBil } : Except Exc Res) = .ok { s := s.fcDone pa } := by
  obtain ⟨visible, clear⟩ := base
  rw [State.readGr_ok visible]
  refine (if_neg (ne_true_of_eq_false clear)).trans ?_
  rw [allowed]
  rfl

end Fc

end Sys2Proof.Machine

section

open Sys2Proof Machine Forms

/-- Settles O42: a fence flushes the buffer, a serialization is an update of the user mask or of the stores that fetch may miss, and `fc` moves
the stores to its line on to the first stage. -/
theorem fencesAndSerialization : Obligations.FencesAndSerialization := by
  unfold Obligations.FencesAndSerialization
  refine ⟨?_, fun qp s hq => ?_, fun qp s hq => yields_of_run rfl rfl hq rfl rfl,
    fun qp s hq => ⟨_, yields_of_run rfl rfl hq rfl rfl, rfl⟩, fun qp s hq => ?_, fun qp r3 s pa ma hq base allowed => ?_,
    fun s a => State.line_seen_after_sequence a⟩
  · rintro i qp s (rfl | rfl) hq
    · exact ⟨_, yields_of_run rfl rfl hq rfl rfl, rfl, s.wcbFlush_memoryOnly, State.read_wcbFlush⟩
    · exact ⟨_, yields_of_run rfl rfl hq rfl rfl, rfl, s.wcbFlush_memoryOnly, State.read_wcbFlush⟩
  · refine ⟨_, yields_of_run rfl rfl hq rfl rfl, ?_⟩
    split
    · exact .inr (yields_of_run rfl rfl hq rfl rfl)
    · exact .inl rfl
  · exact ⟨_, yields_of_run rfl rfl hq rfl rfl, s.serialized_eq⟩
  · refine ⟨_, yields_of_run rfl rfl hq rfl (fc_body base allowed), s.fcDone_eq pa, fun hm hs => ?_, fun b hb line waiting => ?_,
      fun b hb line => ?_⟩
    · obtain ⟨-, -, seen⟩ := State.seesAs_fcFlushed hm hs pa
      exact seen
    · exact State.mem_fcDone_stale.mpr ⟨b, s.fcFlushed_stale pa hb, StaleStore.flushed_of_waiting line waiting⟩
    · obtain ⟨c, -, rfl⟩ := State.mem_fcDone_stale.mp hb
      rw [StaleStore.flushed_addr] at line
      exact StaleStore.flushed_stage_ne_zero line

end

end

section
/-! SUPPORT. Writes of PSR and of its masks (R466 to R474): what the reserved bits and the writable bits of an operand are, bit by bit, and what
`putPsr` leaves of PSR. -/

namespace Sys2Proof.Machine

open Sys2Proof.Forms

/-! ### Masks, bit by bit -/

/-- The reserved bits of PSR[31:0] (R34). -/
def psrReserved (k : Nat) : Prop := k = 0 ∨ (6 ≤ k ∧ k ≤ 12) ∨ k = 16 ∨ (28 ≤ k ∧ k ≤ 31)

theorem psrReservedLow_bit {k : Nat} (hk : k < 64) : psrReservedLow.getLsbD k = true ↔ psrReserved k := by
  unfold psrReserved
  revert k
  decide

/-- The system mask has PSR's reserved bits below 24 (R473). -/
theorem smReserved_bit {k : Nat} (hk : k < 64) : smReserved.getLsbD k = true ↔ k < 24 ∧ psrReserved k := by
  unfold psrReserved
  revert k
  decide

theorem umBits_bit {k : Nat} (hk : k < 64) : (~~~ umBits).getLsbD k = true ↔ k = 0 ∨ 6 ≤ k := by
  revert k
  decide

/-- The low half of PSR, which `mov psr.l` writes (R466). -/
theorem psrLow_bit {k : Nat} (hk : k < 64) : (0xFFFFFFFF : Word).getLsbD k = decide (k < 32) := by
  revert k
  decide

/-- The user mask but for PSR.up under PSR.sp (R467). -/
theorem State.umWritable_bit (s : State) {k : Nat} (hk : k < 64) :
    s.umWritable.getLsbD k = decide (1 ≤ k ∧ k ≤ 5 ∧ (k = 2 → s.psrSp = false)) := by
  unfold State.umWritable
  cases s.psrSp <;> revert k <;> decide

/-- No bit of `v` is one that `m` names. -/
theorem and_eq_zero_iff {v m : Word} {p : Nat → Prop} (named : ∀ {k}, k < 64 → (m.getLsbD k = true ↔ p k)) :
    (v &&& m == 0) = true ↔ ∀ k, p k → v.getLsbD k = false := by
  rw [beq_iff_eq]
  constructor
  · intro zero k hp
    by_cases hk : k < 64
    · have bit : (v &&& m).getLsbD k = false := by
        rw [zero]
        exact BitVec.getLsbD_zero
      rwa [BitVec.getLsbD_and, (named hk).mpr hp, Bool.and_true] at bit
    · exact BitVec.getLsbD_of_ge v k (by omega)
  · intro clear
    refine BitVec.eq_of_getLsbD_eq fun k hk => ?_
    rw [BitVec.getLsbD_and]
    cases hm : m.getLsbD k with
    | false => simp
    | true => simp [clear k ((named hk).mp hm)]

/-- The operand of a mask instruction is refused where it names a reserved bit. -/
theorem and_ne_zero_iff {v m : Word} {p : Nat → Prop} (named : ∀ {k}, k < 64 → (m.getLsbD k = true ↔ p k)) :
    (v &&& m == 0) = false ↔ ∃ k, p k ∧ v.getLsbD k = true := by
  rw [← Bool.not_eq_true, and_eq_zero_iff named]
  simp

theorem zext_imm24_bit (imm24 : BitVec 24) {k : Nat} (hk : k < 64) : (zext imm24).getLsbD k = imm24.getLsbD k := by
  rw [zext, BitVec.getLsbD_setWidth, decide_eq_true hk, Bool.true_and]

/-! ### What a write leaves -/

/-- A write of PSR through a mask (R911 (b), D37). -/
theorem State.psrBecomes_putPsr (s : State) {m v : Word} {k : WriteKind} {mask f : Nat → Bool}
    (hm : ∀ {b}, b < 64 → m.getLsbD b = mask b) (hf : ∀ {b}, b < 64 → mask b = true → v.getLsbD b = f b) :
    psrBecomes s (s.putPsr m v k) k mask f := by
  refine ⟨rfl, fun b hb => ?_⟩
  rw [State.putPsr_bit, hm hb]
  split
  · next written =>
    intro free
    rw [if_neg fun ⟨h1, h5, taken⟩ => absurd taken (ne_true_of_eq_false (free ⟨h1, h5⟩)), hf hb written]
  · rfl

/-- A write of the user mask (R467). -/
theorem State.psrBecomes_putUm (s : State) {v : Word} {f : Nat → Bool} (hf : ∀ {b}, b < 64 → v.getLsbD b = f b) :
    psrBecomes s (s.putUm v) .alu (fun k => decide (1 ≤ k ∧ k ≤ 5 ∧ (k = 2 → s.psrSp = false))) f :=
  s.psrBecomes_putPsr s.umWritable_bit fun hb _ => hf hb

/-! ### The instructions -/

section Writes

variable {s : State} {i : Instr} {qp : PredIdx}

/-- A mask instruction whose operand is checked against reserved bits, then written. -/
theorem yields_of_checked {c : Bool} {u : State} (runs : exec i s = run s qp (.ok ()) ((require c reservedField).bind fun _ => .ok { s := u }))
    (short : isLong i = false) (hq : s.pred qp = true) (hc : c = true) : Yields i s u :=
  yields_of_run runs short hq rfl (by rw [require_ok hc]; rfl)

theorem takes_of_refused {c : Bool} {u : State} (runs : exec i s = run s qp (.ok ()) ((require c reservedField).bind fun _ => .ok { s := u }))
    (hq : s.pred qp = true) (hc : c = false) : Takes s (exec i s) .generalException 0x30 := by
  rw [runs, require_error hc]
  exact takes_of_run hq rfl rfl

theorem movToPsrL_runs {r2 : GrIdx} (level : s.cpl = 0) (source : usable s r2) : movToPsrL s qp r2 =
    run s qp (.ok ()) ((require ((s.gr r2).val &&& psrReservedLow == 0) reservedField).bind fun _ =>
      .ok { s := s.putPsr 0xFFFFFFFF (s.gr r2).val .system }) := by
  unfold movToPsrL
  rw [State.sourceGr_ok source.1, State.privileged_ok level, State.consumeGr_ok source]
  rfl

theorem movToPsrUm_runs {r2 : GrIdx} (source : usable s r2) : movToPsrUm s qp r2 =
    run s qp (.ok ()) ((require (!(s.gr r2).val.getLsbD 0) reservedField).bind fun _ => .ok { s := s.putUm (s.gr r2).val }) := by
  unfold movToPsrUm
  rw [State.consumeGr_ok source]
  rfl

theorem systemMask_runs (set : Bool) (imm24 : BitVec 24) (level : s.cpl = 0) : systemMask s qp set imm24 =
    run s qp (.ok ()) ((require (zext imm24 &&& smReserved == 0) reservedField).bind fun _ =>
      .ok { s := s.putPsr (zext imm24) (if set then zext imm24 else 0) .system }) := by
  unfold systemMask
  rw [State.privileged_ok level]
  rfl

end Writes

section Operands

variable {imm24 : BitVec 24}

theorem userMask_allowed_iff : (zext imm24 &&& ~~~ umBits == 0) = true ↔ ∀ k, (k = 0 ∨ 6 ≤ k) → imm24.getLsbD k = false := by
  rw [and_eq_zero_iff umBits_bit]
  refine forall_congr' fun k => imp_congr_right fun _ => ?_
  by_cases hk : k < 64
  · rw [zext_imm24_bit imm24 hk]
  · rw [BitVec.getLsbD_of_ge _ k (by omega), BitVec.getLsbD_of_ge _ k (by omega)]

theorem systemMask_allowed_iff : (zext imm24 &&& smReserved == 0) = true ↔
    ∀ k, k < 24 → psrReserved k → imm24.getLsbD k = false := by
  rw [and_eq_zero_iff smReserved_bit]
  refine forall_congr' fun k => and_imp.trans (imp_congr_right fun hk => imp_congr_right fun _ => ?_)
  rw [zext_imm24_bit imm24 (by omega)]

end Operands

end Sys2Proof.Machine

section

open Sys2Proof Machine Forms

/-- Settles O33: every write is `putPsr` of a mask, behind a check of the reserved bits. -/
theorem statusRegisterWrites : Obligations.StatusRegisterWrites := by
  unfold Obligations.StatusRegisterWrites
  dsimp only
  refine ⟨fun qp r2 s hq source => ⟨fun level clear => ?_, fun level set => ?_, fun clear => ?_, fun set => ?_⟩,
    fun qp imm24 s hq => ⟨fun clear => ?_, fun set => ?_, fun level clear => ?_, fun level set => ?_⟩⟩
  -- `mov psr.l`, `mov psr.um`
  · exact ⟨_, yields_of_checked (movToPsrL_runs level source) rfl hq ((and_eq_zero_iff psrReservedLow_bit).mpr clear),
      s.psrBecomes_putPsr psrLow_bit fun _ _ => rfl⟩
  · exact takes_of_refused (movToPsrL_runs level source) hq ((and_ne_zero_iff psrReservedLow_bit).mpr set)
  · exact ⟨_, yields_of_checked (movToPsrUm_runs source) rfl hq (by rw [clear]; rfl), s.psrBecomes_putUm fun _ => rfl⟩
  · exact takes_of_refused (movToPsrUm_runs source) hq (by rw [set]; rfl)
  -- `sum`, `rum`
  · have allowed := userMask_allowed_iff.mpr clear
    refine ⟨⟨_, yields_of_checked rfl rfl hq allowed, s.psrBecomes_putUm fun hb => ?_⟩,
      ⟨_, yields_of_checked rfl rfl hq allowed, s.psrBecomes_putUm fun hb => ?_⟩⟩
    · rw [if_pos rfl, BitVec.getLsbD_or, zext_imm24_bit imm24 hb]
    · rw [if_neg Bool.false_ne_true, BitVec.getLsbD_and, BitVec.getLsbD_not, zext_imm24_bit imm24 hb, decide_eq_true hb, Bool.true_and]
  · obtain ⟨k, reserved, set⟩ := set
    have refused : (zext imm24 &&& ~~~ umBits == 0) = false :=
      Bool.eq_false_iff.mpr fun ok => ne_true_of_eq_false (userMask_allowed_iff.mp ok k reserved) set
    exact ⟨takes_of_refused rfl hq refused, takes_of_refused rfl hq refused⟩
  -- `ssm`, `rsm`
  · have allowed := systemMask_allowed_iff.mpr clear
    refine ⟨⟨_, yields_of_checked (systemMask_runs true imm24 level) rfl hq allowed,
        s.psrBecomes_putPsr (zext_imm24_bit imm24) fun hb named => ?_⟩,
      ⟨_, yields_of_checked (systemMask_runs false imm24 level) rfl hq allowed,
        s.psrBecomes_putPsr (zext_imm24_bit imm24) fun hb _ => ?_⟩⟩
    · rw [if_pos rfl, zext_imm24_bit imm24 hb, named]
    · exact BitVec.getLsbD_zero
  · obtain ⟨k, reserved, set⟩ := set
    have refused : (zext imm24 &&& smReserved == 0) = false := Bool.eq_false_iff.mpr fun ok =>
      ne_true_of_eq_false (systemMask_allowed_iff.mp ok k (BitVec.lt_of_getLsbD set) reserved) set
    exact ⟨takes_of_refused (systemMask_runs true imm24 level) hq refused, takes_of_refused (systemMask_runs false imm24 level) hq refused⟩

end

end

section
/-! SUPPORT. Moves to control registers, the end of an interrupt and its acceptance (R42, R463, R464, R577): what a write leaves in each control
register, and that the search for the highest-priority vector of a set finds it. -/

namespace Sys2Proof.Machine

open Sys2Proof.Forms

/-! ### The highest-priority vector of a set (R577) -/

/-- `a` is the vector of `S` with the highest priority, none where `S` has no vector. -/
def IsBest (S : Nat → Prop) : Option Nat → Prop
  | none => ∀ w, ¬ S w
  | some v => S v ∧ ∀ w, S w → vectorRank w ≤ vectorRank v

/-- The search through a list of vectors for the best one that `p` lets through. -/
def bestOf (p : Nat → Bool) (l : List Nat) (a : Option Nat) : Option Nat := l.foldl (fun a v => if p v then betterVector a v else a) a

theorem IsBest.congr {S T : Nat → Prop} {a : Option Nat} (h : IsBest S a) (same : ∀ w, S w ↔ T w) : IsBest T a := by
  rwa [← show S = T from funext fun w => propext (same w)]

/-- One more vector. -/
theorem IsBest.better {S : Nat → Prop} {a : Option Nat} (h : IsBest S a) (v : Nat) : IsBest (fun w => S w ∨ w = v) (betterVector a v) := by
  cases a with
  | none => exact ⟨.inr rfl, fun w hw => hw.elim (fun old => absurd old (h w)) fun e => le_of_eq (congrArg vectorRank e)⟩
  | some b =>
    obtain ⟨hb, best⟩ := h
    unfold betterVector
    dsimp only
    split
    · next lower => exact ⟨.inr rfl, fun w hw => hw.elim (fun old => (best w old).trans lower.le) fun e => le_of_eq (congrArg vectorRank e)⟩
    · next higher => exact ⟨.inl hb, fun w hw => hw.elim (best w) fun e => e ▸ Nat.le_of_not_lt higher⟩

theorem IsBest.bestOf {S : Nat → Prop} {a : Option Nat} (h : IsBest S a) (p : Nat → Bool) (l : List Nat) :
    IsBest (fun w => S w ∨ (w ∈ l ∧ p w = true)) (bestOf p l a) := by
  induction l generalizing S a with
  | nil => exact h.congr fun w => by simp
  | cons v l ih =>
    unfold Machine.bestOf
    rw [List.foldl_cons]
    split
    · next through =>
      refine (ih (h.better v)).congr fun w => ?_
      rw [List.mem_cons, or_and_right, ← or_assoc]
      exact or_congr_left (or_congr_right ⟨fun e => ⟨e, e ▸ through⟩, fun e => e.1⟩)
    · next stopped =>
      refine (ih h).congr fun w => or_congr_right ?_
      rw [List.mem_cons, or_and_right]
      exact ⟨.inr, fun hw => hw.resolve_left fun ⟨e, through⟩ => stopped (e ▸ through)⟩

/-- The search through all vectors. -/
theorem isBest_bestOf (p : Nat → Bool) : IsBest (fun w => w < 256 ∧ p w = true) (bestOf p (List.range 256) none) :=
  IsBest.congr (IsBest.bestOf (S := fun _ => False) (a := none) (fun _ h => h) p _) fun w => by rw [List.mem_range, false_or]

/-- No two vectors have the same priority. -/
theorem vectorRank_inj {v w : Nat} (hv : v < 256) (hw : w < 256) (h : vectorRank v = vectorRank w) : v = w := by
  unfold vectorRank at h
  repeat' split at h
  all_goals omega

theorem bestOf_eq_none {p : Nat → Bool} (empty : ∀ w, w < 256 → ¬ p w = true) : bestOf p (List.range 256) none = none := by
  have best := isBest_bestOf p
  cases found : bestOf p (List.range 256) none with
  | none => rfl
  | some v =>
    rw [found] at best
    obtain ⟨⟨hv, through⟩, -⟩ := best
    exact absurd through (empty v hv)

theorem bestOf_eq_some {p : Nat → Bool} {v : Nat} (hv : v < 256) (through : p v = true)
    (highest : ∀ w, w < 256 → p w = true → vectorRank w ≤ vectorRank v) : bestOf p (List.range 256) none = some v := by
  have best := isBest_bestOf p
  cases found : bestOf p (List.range 256) none with
  | none =>
    rw [found] at best
    exact absurd ⟨hv, through⟩ (best v)
  | some u =>
    rw [found] at best
    obtain ⟨⟨hu, passes⟩, top⟩ := best
    exact congrArg some (vectorRank_inj hu hv (Nat.le_antisymm (highest u hu passes) (top v ⟨hv, through⟩)))

/-- A bit of a set of vectors that is written, and the others. -/
theorem vectorSet_putBit (x : BitVec 256) {v w : Nat} (hw : w < 256) (b : Bool) :
    (putBit x v b).getLsbD w = if w = v then b else x.getLsbD w := by
  unfold putBit putField
  by_cases same : w = v
  · simp [same, same ▸ hw]
  · by_cases below : w < v
    · simp [same, below, hw]
    · have beyond : ¬ w - v = 0 := by omega
      simp [same, below, hw, beyond]

/-! ### Acceptance and end of an interrupt (R42) -/

section Vectors

variable {s : State} {v : Nat}

/-- Pending, and let through by TPR and the vectors in service. -/
def State.letsThrough (s : State) (v : Nat) : Bool := s.pendingVectors.getLsbD v && tprAllows s.cr.tpr v && s.aboveService v

theorem State.letsThrough_iff : s.letsThrough v = true ↔
    s.pendingVectors.getLsbD v = true ∧ tprAllows s.cr.tpr v = true ∧ s.aboveService v = true := by
  unfold State.letsThrough
  rw [Bool.and_eq_true, Bool.and_eq_true, and_assoc]

theorem State.readIvr_spurious (none : ∀ v, v < 256 → ¬ s.letsThrough v = true) : s.readIvr = (15, s) := by
  have found : s.highestVector s.pendingVectors = .none := bestOf_eq_none (p := s.letsThrough) none
  unfold State.readIvr
  rw [found]

/-- The state once a vector was accepted. -/
def State.accepted (s : State) (v : Nat) : State :=
  { s with cr := { s.cr with irr := putBit s.cr.irr v false, insvc := putBit s.cr.insvc v true } }

theorem State.readIvr_accepts (hv : v < 256) (through : s.letsThrough v = true)
    (highest : ∀ w, w < 256 → s.letsThrough w = true → vectorRank w ≤ vectorRank v) : s.readIvr = (BitVec.ofNat 64 v, s.accepted v) := by
  have found : s.highestVector s.pendingVectors = some v := bestOf_eq_some (p := s.letsThrough) hv through highest
  unfold State.readIvr
  rw [found]
  rfl

theorem State.accepted_irr (s : State) (v : Nat) {w : Nat} (hw : w < 256) :
    (s.accepted v).cr.irr.getLsbD w = (s.cr.irr.getLsbD w && w != v) := by
  refine (vectorSet_putBit s.cr.irr hw false).trans ?_
  by_cases same : w = v <;> simp [same]

theorem State.accepted_insvc (s : State) (v : Nat) {w : Nat} (hw : w < 256) :
    (s.accepted v).cr.insvc.getLsbD w = (s.cr.insvc.getLsbD w || w == v) := by
  refine (vectorSet_putBit s.cr.insvc hw true).trans ?_
  by_cases same : w = v <;> simp [same]

theorem State.writeEoi_idle (idle : s.cr.insvc = 0) : s.writeEoi = s := by
  have found : bestOf (fun v => s.cr.insvc.getLsbD v) (List.range 256) none = none :=
    bestOf_eq_none fun w _ => by rw [idle, show (0 : BitVec 256).getLsbD w = false from BitVec.getLsbD_zero]; exact Bool.false_ne_true
  unfold bestOf at found
  unfold State.writeEoi
  rw [found]

theorem State.writeEoi_ends (hv : v < 256) (served : s.cr.insvc.getLsbD v = true)
    (highest : ∀ w, w < 256 → s.cr.insvc.getLsbD w = true → vectorRank w ≤ vectorRank v) :
    s.writeEoi = { s with cr := { s.cr with insvc := putBit s.cr.insvc v false } } := by
  have found : bestOf (fun v => s.cr.insvc.getLsbD v) (List.range 256) none = some v := bestOf_eq_some hv served highest
  unfold bestOf at found
  unfold State.writeEoi
  rw [found]

theorem State.writeEoi_cr (s : State) : s.writeEoi = { s with cr := s.writeEoi.cr } := by
  unfold State.writeEoi
  split <;> rfl

end Vectors

/-! ### Writes of control registers (R463) -/

section Writes

variable {s : State} {n : BitVec 7} {r : CrReg}

theorem State.crOk_unwritable (named : crReg n = some r)
    (h : (∃ k, r = .irr k) ∨ r = .ivr ∨ (r.interruption = true ∧ s.psrIc = true)) : s.crOk n true = .error illegalOp := by
  unfold State.crOk
  rw [named]
  rcases h with ⟨k, rfl⟩ | rfl | ⟨interruption, collecting⟩
  · rfl
  · rfl
  · exact if_pos (by rw [interruption, collecting, Bool.and_true, Bool.or_true])

theorem State.crOk_write (named : crReg n = some r) (writable : r.readOnly = false) (free : r.interruption = true → s.psrIc = false) :
    s.crOk n true = .ok r := by
  unfold State.crOk
  rw [named]
  refine if_neg ?_
  rw [writable, Bool.and_false, Bool.false_or, Bool.and_eq_true]
  rintro ⟨interruption, collecting⟩
  exact absurd collecting (ne_true_of_eq_false (free interruption))

/-- The register written has the value. -/
theorem CtrlRegs.crField_put (c : CtrlRegs) (v : Word) (writable : r.readOnly = false) (named : r ≠ .eoi) :
    crField (c.put r v) r = some v := by
  cases r with
  | eoi => exact absurd rfl named
  | ivr | irr => cases writable
  | _ => rfl

/-- Two different control registers are two fields. -/
theorem CtrlRegs.crField_put_ne (c : CtrlRegs) (v : Word) {q : CrReg} (other : q ≠ r) : crField (c.put r v) q = crField c q := by
  cases r <;> cases q <;> first | rfl | exact absurd rfl other

/-- No move writes the pending vectors, those in service, or the register without a number. -/
theorem CtrlRegs.put_internal (c : CtrlRegs) (r : CrReg) (v : Word) :
    (c.put r v).irr = c.irr ∧ (c.put r v).insvc = c.insvc ∧ (c.put r v).gpta = c.gpta := by
  cases r <;> exact ⟨rfl, rfl, rfl⟩

theorem State.writeCr_cr (s : State) (r : CrReg) (v : Word) : s.writeCr r v = { s with cr := (s.writeCr r v).cr } := by
  cases r with
  | eoi => exact s.writeEoi_cr
  | _ => rfl

theorem State.writeCr_put (s : State) (v : Word) (named : r ≠ .eoi) : (s.writeCr r v).cr = s.cr.put r v := by
  cases r with
  | eoi => exact absurd rfl named
  | _ => rfl

theorem movToCr_runs {qp : PredIdx} {r2 : GrIdx} (ok : s.crOk n true = .ok r) (level : s.cpl = 0) (source : usable s r2) :
    movToCr s qp n r2 = run s qp (.ok ()) ((require ((s.gr r2).val &&& ~~~ r.definedBits == 0) reservedField).bind fun _ =>
      .ok { s := s.writeCr r (s.gr r2).val }) := by
  unfold movToCr
  rw [ok]
  change run s qp (.ok ()) ((s.sourceGr r2).bind _) = _
  rw [State.sourceGr_ok source.1, State.privileged_ok level, State.consumeGr_ok source]
  rfl

theorem movToCr_takes {qp : PredIdx} {r2 : GrIdx} (hq : s.pred qp = true) (refused : s.crOk n true = .error illegalOp) :
    Takes s (movToCr s qp n r2) .generalException 0 := by
  unfold movToCr
  rw [refused]
  exact takes_of_run hq rfl rfl

theorem movFromIvr_runs (s : State) (qp : PredIdx) (r1 : GrIdx) (level : s.cpl = 0) : movFromCr s qp r1 65 =
    run s qp (s.targetGr r1) (.ok { s := s.readIvr.2.setGr r1 (GReg.ofWord s.readIvr.1) .alu }) := by
  unfold movFromCr
  rw [State.privileged_ok level]
  rfl

end Writes

end Sys2Proof.Machine

section

open Sys2Proof Machine Forms

/-- Settles O32: a write is `CtrlRegs.put` behind its checks, and IVR and EOI take the best vector of their sets. -/
theorem controlRegisters : Obligations.ControlRegisters := by
  unfold Obligations.ControlRegisters
  refine ⟨fun qp cr3 r2 s r hq level source named => ⟨fun h => movToCr_takes hq (State.crOk_unwritable named h),
    fun writable free => ?_⟩, fun qp cr3 r2 s hq unnamed => movToCr_takes hq ?_, fun qp r1 s hq level target => ?_⟩
  · have runs := movToCr_runs (qp := qp) (State.crOk_write named writable free) level source
    refine ⟨fun set => takes_of_refused runs hq (beq_eq_false_iff_ne.mpr set), fun clear => ?_⟩
    refine ⟨_, yields_of_checked runs rfl hq (beq_iff_eq.mpr clear), s.writeCr_cr r _, fun other => ?_, ?_⟩
    · rw [State.writeCr_put s _ other]
      exact ⟨s.cr.crField_put _ writable other, fun q hq => s.cr.crField_put_ne _ hq, s.cr.put_internal r _⟩
    · rintro rfl
      refine ⟨fun idle => State.writeEoi_idle idle, fun v hv served highest => ?_⟩
      have ended : s.writeCr .eoi (s.gr r2).val = _ := State.writeEoi_ends hv served highest
      rw [ended]
      refine ⟨rfl, fun w hw => (vectorSet_putBit s.cr.insvc hw false).trans ?_⟩
      by_cases same : w = v <;> simp [same]
  · unfold State.crOk
    rw [unnamed]
  · dsimp only
    refine ⟨fun none => ?_, fun v hv through highest => ?_⟩
    · have spurious := State.readIvr_spurious fun v hv h => none v hv (State.letsThrough_iff.mp h)
      refine ⟨_, yields_of_run (movFromIvr_runs s qp r1 level) rfl hq (State.targetGr_ok target) rfl, ?_⟩
      rw [spurious]
      exact s.wroteGr_setGr r1 _ target
    · have accepts := State.readIvr_accepts hv (State.letsThrough_iff.mpr through) fun w hw h => highest w hw (State.letsThrough_iff.mp h)
      refine ⟨_, yields_of_run (movFromIvr_runs s qp r1 level) rfl hq (State.targetGr_ok target) rfl, ?_⟩
      rw [accepts]
      exact ⟨(s.accepted v).wroteGr_setGr r1 _ target, rfl, fun w hw => ⟨s.accepted_irr v hw, s.accepted_insvc v hw⟩⟩

end

end

section
/-! SUPPORT. Moves to the indirectly addressed files (R45 to R53, R480 to R484, R620 to R642): which values each file refuses, and what a write
leaves in each of its registers. -/

namespace Sys2Proof.Machine

open Sys2Proof.Forms

/-! ### Words as sets of bits -/

/-- A number below 2^`n` has no bit from `n` on. -/
theorem toNat_lt_iff_bits (v : Word) (n : Nat) : v.toNat < 2 ^ n ↔ ∀ k, n ≤ k → v.getLsbD k = false :=
  ⟨fun small k hk => Nat.testBit_lt_two_pow (small.trans_le (Nat.pow_le_pow_right (by decide) hk)),
    fun clear => Nat.lt_pow_two_of_testBit _ clear⟩

/-- A field of zeros. -/
theorem field_eq_zero_iff (v : Word) (i n : Nat) : v.toNat / 2 ^ i % 2 ^ n = 0 ↔ ∀ k, i ≤ k ∧ k < i + n → v.getLsbD k = false := by
  constructor
  · rintro zero k ⟨low, high⟩
    have bit : (v.toNat / 2 ^ i % 2 ^ n).testBit (k - i) = v.toNat.testBit k := by
      rw [Nat.testBit_mod_two_pow, Nat.testBit_div_two_pow, decide_eq_true (by omega), Bool.true_and, Nat.sub_add_cancel low]
    rw [zero, Nat.zero_testBit] at bit
    exact bit.symm
  · intro clear
    refine Nat.eq_of_testBit_eq fun k => ?_
    rw [Nat.testBit_mod_two_pow, Nat.testBit_div_two_pow, Nat.zero_testBit]
    by_cases hk : k < n
    · exact Bool.and_eq_false_iff.mpr (.inr (clear (k + i) (by omega)))
    · simp [hk]

/-! ### What the files refuse (R152, R481) -/

theorem pageSizeOk_iff (ps : BitVec 6) : pageSizeOk ps = true ↔ goodPageSize ps.toNat := by
  unfold pageSizeOk goodPageSize
  rw [List.contains_iff_mem]

theorem rrMask_bit {k : Nat} (hk : k < 64) : (0xFFFFFFFF00000002 : Word).getLsbD k = true ↔ k = 1 ∨ 32 ≤ k := by
  revert k
  decide

theorem pkrMask_bit {k : Nat} (hk : k < 64) : (0xFFFFFFFF000000F0 : Word).getLsbD k = true ↔ (4 ≤ k ∧ k < 4 + 4) ∨ 32 ≤ k := by
  revert k
  decide

theorem rrValueOk_iff (v : Word) : IndFile.valueOk .rr v = true ↔
    v.getLsbD 1 = false ∧ v.toNat < 2 ^ 32 ∧ goodPageSize (v.toNat / 4 % 64) := by
  unfold IndFile.valueOk
  dsimp only
  rw [Bool.and_eq_true, and_eq_zero_iff rrMask_bit, pageSizeOk_iff, rrPs_toNat, toNat_lt_iff_bits, ← and_assoc]
  simp only [or_imp, forall_and, forall_eq]

theorem pkrValueOk_iff (v : Word) : IndFile.valueOk .pkr v = true ↔ v.toNat < 2 ^ 32 ∧ v.toNat / 16 % 16 = 0 := by
  unfold IndFile.valueOk
  dsimp only
  rw [and_eq_zero_iff pkrMask_bit, toNat_lt_iff_bits, show v.toNat / 16 % 16 = v.toNat / 2 ^ 4 % 2 ^ 4 from rfl, field_eq_zero_iff]
  simp only [or_imp, forall_and, and_comm]

/-! ### What a write leaves -/

theorem getElem_written {α : Type} {m : Nat} (x : Vector α m) (i : Nat) (a : α) (k : Fin m) :
    (x.setIfInBounds i a)[k] = if k.val = i then a else x[k] := by
  rw [Fin.getElem_fin, Vector.getElem_setIfInBounds]
  exact if_congr eq_comm rfl rfl

section Keys

variable (p : Vector Word 16) (i : Nat) (v : Word)

/-- A register that holds the new valid key becomes invalid, and nothing else happens to it (R481). -/
theorem writePkr_other {k : Fin 16} (other : k.val ≠ i) {j : Nat} (hj : j < 64) : (writePkr p i v)[k].getLsbD j =
    (p[k].getLsbD j && !(decide (j = 0) && v.getLsbD 0 && decide (p[k].toNat / 2 ^ 8 % 2 ^ 24 = v.toNat / 2 ^ 8 % 2 ^ 24))) := by
  have key (x : Word) : (x.extractLsb' 8 24).toNat = x.toNat / 2 ^ 8 % 2 ^ 24 := by
    rw [BitVec.extractLsb'_toNat, Nat.shiftRight_eq_div_pow]
  unfold writePkr
  dsimp only
  rw [getElem_written, if_neg other]
  split
  · next valid =>
    rw [Fin.getElem_fin, Vector.getElem_map, ← Fin.getElem_fin]
    simp only [← BitVec.toNat_inj, key, valid, Bool.and_true]
    split
    · next same =>
      obtain ⟨-, same⟩ := Bool.and_eq_true_iff.mp same
      rw [putBit_bit _ _ _ _ (by decide : 0 < 64), of_decide_eq_true same]
      by_cases zero : j = 0 <;> simp [zero]
    · next different =>
      by_cases zero : j = 0
      · subst zero
        cases held : p[k].getLsbD 0 with
        | false => rfl
        | true =>
          rw [decide_eq_false fun same => different (Bool.and_eq_true_iff.mpr ⟨held, decide_eq_true same⟩)]
          simp
      · simp [zero]
  · next invalid =>
    simp only [Bool.eq_false_of_not_eq_true invalid, Bool.and_false, Bool.false_and, Bool.not_false, Bool.and_true]

end Keys

/-- A breakpoint register drops its ignored bits, if its number is odd (R47, R48). -/
theorem isBits_breakValue (n : Nat) (v : Word) {ignored : Word} {top : Nat}
    (named : ∀ {j}, j < 64 → ignored.getLsbD j = decide (60 ≤ j ∧ j ≤ top)) :
    isBits (breakValue n ignored v) (fun j => v.getLsbD j && !decide (n % 2 = 1 ∧ 60 ≤ j ∧ j ≤ top)) := by
  intro j hj
  unfold breakValue
  split
  · next odd =>
    rw [BitVec.getLsbD_and, BitVec.getLsbD_not, named hj]
    simp [hj, odd]
  · next even => simp [even]

theorem ibrIgnored_bit {j : Nat} (hj : j < 64) : (0x7000000000000000 : Word).getLsbD j = decide (60 ≤ j ∧ j ≤ 62) := by
  revert j
  decide

theorem dbrIgnored_bit {j : Nat} (hj : j < 64) : (0x3000000000000000 : Word).getLsbD j = decide (60 ≤ j ∧ j ≤ 61) := by
  revert j
  decide

section Monitors

variable {s : State} {n : Nat} {v : Word}

/-- Two states that differ in the monitors' registers and the freeze bit of the clock at most. -/
def MonitorsOnly (s t : State) : Prop := t = { s with pmc := t.pmc, pmd := t.pmd, clkFr := t.clkFr }

theorem MonitorsOnly.trans {s t u : State} (first : MonitorsOnly s t) (second : MonitorsOnly t u) : MonitorsOnly s u := by
  refine Eq.trans second ?_
  rw [first]

theorem State.monitorsOnly_loosePmds (s : State) (l : List Nat) : MonitorsOnly s (s.loosePmds l) := rfl

theorem State.monitorsOnly_loosePmu (s : State) : MonitorsOnly s s.loosePmu := by
  unfold MonitorsOnly State.loosePmu
  dsimp only [State.loosePmds]

theorem State.monitorsOnly_writePmc (s : State) (n : Nat) (v : Word) : MonitorsOnly s (s.writePmc n v) := by
  have lost {c : Prop} [Decidable c] {t : State} {l : List Nat} (h : MonitorsOnly s t) : MonitorsOnly s (if c then t.loosePmds l else t) := by
    split
    · exact h.trans (t.monitorsOnly_loosePmds l)
    · exact h
  unfold State.writePmc
  dsimp only
  split
  · refine lost (MonitorsOnly.trans (t := if s.pmc[4].getLsbD 23 && v.getLsbD 23 then s else s.loosePmu) ?_ rfl)
    split
    · rfl
    · exact s.monitorsOnly_loosePmu
  · split
    · rfl
    · exact lost rfl

/-- With the clocks off only PMC4 can be written (R625). -/
theorem State.writePmc_off (off : s.pmc[4].getLsbD 23 = false) (other : n ≠ 4) : s.writePmc n v = s := by
  unfold State.writePmc
  dsimp only
  rw [if_neg other, off]
  rfl

/-- With the clocks on, and staying on, the PMC takes the value; with `plm` 0 the PMDs it controls are lost (R630, U31). -/
theorem State.writePmc_on (on : s.pmc[4].getLsbD 23 = true) (stays : n = 4 → v.getLsbD 23 = true) :
    (s.writePmc n v).pmc = s.pmc.setIfInBounds n (v &&& pmcMask n) ∧
      (v.extractLsb' 0 4 ≠ 0 ∨ pmdsOf n = [] → (s.writePmc n v).pmd = s.pmd) := by
  have four : s.pmc.set 4 (v &&& pmcMask 4) = s.pmc.setIfInBounds 4 (v &&& pmcMask 4) :=
    Vector.ext fun k hk => by rw [Vector.getElem_set, Vector.getElem_setIfInBounds]
  have kept : (s.writePmc n v).pmc = s.pmc.setIfInBounds n (v &&& pmcMask n) ∧
      (s.writePmc n v).pmd = if v.extractLsb' 0 4 = 0 then (s.loosePmds (pmdsOf n)).pmd else s.pmd := by
    unfold State.writePmc
    dsimp only
    rw [on]
    by_cases at4 : n = 4
    · subst at4
      rw [if_pos rfl, stays rfl, ← four]
      split <;> exact ⟨rfl, rfl⟩
    · rw [if_neg at4, Bool.not_true, if_neg Bool.false_ne_true]
      split <;> exact ⟨rfl, rfl⟩
  refine ⟨kept.1, fun h => kept.2.trans ?_⟩
  rcases h with named | none
  · rw [if_neg named]
  · rw [none]
    exact ite_self _

/-- PMCs without PMDs of their own (R620). -/
theorem pmdsOf_eq_nil (h : n < 4 ∨ n = 8 ∨ n = 9 ∨ 13 ≤ n) : pmdsOf n = [] := by
  unfold pmdsOf
  split <;> first | omega | rfl

/-- A write of a PMD: a counter has 48 bits (R625, R637). -/
theorem State.writePmd_getElem (s : State) (n : Nat) (v : Word) (k : Fin 18) : (s.writePmd n v).pmd[k] =
    if k.val = n ∧ s.pmc[4].getLsbD 23 = true then (if 4 ≤ n ∧ n < 8 then BitVec.ofNat 64 (v.toNat % 2 ^ 48) else v) else s.pmd[k] := by
  have counter : v &&& 0xFFFFFFFFFFFF = BitVec.ofNat 64 (v.toNat % 2 ^ 48) := by
    apply BitVec.eq_of_toNat_eq
    rw [BitVec.toNat_and, BitVec.toNat_ofNat, show (0xFFFFFFFFFFFF : Word).toNat = 2 ^ 48 - 1 from rfl, Nat.and_two_pow_sub_one_eq_mod]
    omega
  unfold State.writePmd
  cases on : s.pmc[4].getLsbD 23 with
  | false => simp
  | true =>
    rw [← counter]
    exact (getElem_written s.pmd n _ k).trans (if_congr (and_iff_left rfl).symm rfl rfl)

theorem State.writePmd_eq (s : State) (n : Nat) (v : Word) : s.writePmd n v = { s with pmd := (s.writePmd n v).pmd } := by
  unfold State.writePmd
  split <;> rfl

end Monitors

/-! ### The instructions -/

section Moves

variable {s : State} {qp : PredIdx} {file : IndFile} {r3 r2 : GrIdx}

theorem movToInd_runs (qp : PredIdx) (file : IndFile) (level : s.cpl = 0) (index : usable s r3) (source : usable s r2) :
    movToInd s qp file r3 r2 = run s qp (.ok ())
      ((require (decide (file.index (s.gr r3).val < file.size) && file.valueOk (s.gr r2).val) reservedField).bind fun _ =>
        .ok { s := s.writeInd file (file.index (s.gr r3).val) (s.gr r2).val }) := by
  unfold movToInd
  rw [State.sourceGr_ok index.1, State.sourceGr_ok source.1, State.privileged_ok level, State.consumeGr_ok index, State.consumeGr_ok source]
  rfl

/-- A move whose index and value are in order writes the register. -/
theorem movToInd_yields {i : Instr} (named : exec i s = movToInd s qp file r3 r2) (short : isLong i = false) (hq : s.pred qp = true)
    (level : s.cpl = 0) (index : usable s r3) (source : usable s r2) (inside : file.index (s.gr r3).val < file.size)
    (ok : file.valueOk (s.gr r2).val = true) : Yields i s (s.writeInd file (file.index (s.gr r3).val) (s.gr r2).val) :=
  yields_of_checked (named.trans (movToInd_runs qp file level index source)) short hq
    (Bool.and_eq_true_iff.mpr ⟨decide_eq_true inside, ok⟩)

/-- A move with another index or value is refused (R481). -/
theorem movToInd_takes {i : Instr} (named : exec i s = movToInd s qp file r3 r2) (hq : s.pred qp = true) (level : s.cpl = 0)
    (index : usable s r3) (source : usable s r2)
    (bad : ¬ (file.index (s.gr r3).val < file.size ∧ file.valueOk (s.gr r2).val = true)) :
    Takes s (exec i s) .generalException 0x30 :=
  takes_of_refused (named.trans (movToInd_runs qp file level index source)) hq
    (Bool.eq_false_iff.mpr fun ok => bad ((Bool.and_eq_true_iff.mp ok).imp_left of_decide_eq_true))

end Moves

end Sys2Proof.Machine

section

open Sys2Proof Machine Forms

/-- Settles O34: each move is its file's write behind the checks of the index and of the value. -/
theorem indirectRegisterWrites : Obligations.IndirectRegisterWrites := by
  unfold Obligations.IndirectRegisterWrites
  intro qp r3 r2 s hq level index source
  have byte {file : IndFile} (h : file ≠ .rr) := index_byte h s r3
  dsimp only
  refine ⟨fun ok => ?_, fun bad => movToInd_takes (file := .rr) rfl hq level index source fun ok => bad ((rrValueOk_iff _).mp ok.2),
    fun ok => ?_, fun bad => movToInd_takes (file := .pkr) rfl hq level index source fun ok => bad ?_,
    fun inside => ?_, fun inside => ?_, fun outside => ⟨?_, ?_⟩, fun inside => ?_, fun inside => ?_, fun outside => ?_, fun outside => ?_⟩
  · have inside : IndFile.index .rr (s.gr r3).val < IndFile.size .rr := (index_rr s r3).trans_lt (by
      have := (s.gr r3).val.isLt
      change (s.gr r3).val.toNat / 2 ^ 61 < 8
      omega)
    refine ⟨_, movToInd_yields (file := .rr) rfl rfl hq level index source inside ((rrValueOk_iff _).mpr ok), rfl, fun k => ?_⟩
    rw [index_rr]
    exact getElem_written s.rr _ _ k
  · obtain ⟨inside, ok⟩ := ok
    rw [← byte (file := .pkr) (by decide)] at inside
    refine ⟨_, movToInd_yields (file := .pkr) rfl rfl hq level index source inside ((pkrValueOk_iff _).mpr ok), rfl, fun k => ?_⟩
    rw [byte (by decide)]
    split
    · next same => exact (getElem_written _ _ _ k).trans (if_pos same)
    · next other => exact fun j hj => writePkr_other s.pkr _ _ other hj
  · obtain ⟨inside, ok⟩ := ok
    rw [byte (by decide)] at inside
    exact ⟨inside, (pkrValueOk_iff _).mp ok⟩
  · rw [← byte (file := .ibr) (by decide)] at inside
    refine ⟨_, movToInd_yields (file := .ibr) rfl rfl hq level index source inside rfl, rfl, fun k => ?_⟩
    rw [byte (by decide)]
    have written := getElem_written s.ibr (fileIndex s r3) (breakValue (fileIndex s r3) 0x7000000000000000 (s.gr r2).val) k
    split
    · next same => exact (written.trans (if_pos same)) ▸ isBits_breakValue _ _ ibrIgnored_bit
    · next other => exact written.trans (if_neg other)
  · rw [← byte (file := .dbr) (by decide)] at inside
    refine ⟨_, movToInd_yields (file := .dbr) rfl rfl hq level index source inside rfl, rfl, fun k => ?_⟩
    rw [byte (by decide)]
    have written := getElem_written s.dbr (fileIndex s r3) (breakValue (fileIndex s r3) 0x3000000000000000 (s.gr r2).val) k
    split
    · next same => exact (written.trans (if_pos same)) ▸ isBits_breakValue _ _ dbrIgnored_bit
    · next other => exact written.trans (if_neg other)
  · rw [← byte (file := .ibr) (by decide)] at outside
    exact movToInd_takes rfl hq level index source fun ok => outside.not_gt ok.1
  · rw [← byte (file := .dbr) (by decide)] at outside
    exact movToInd_takes rfl hq level index source fun ok => outside.not_gt ok.1
  · rw [← byte (file := .pmc) (by decide)] at inside
    refine ⟨_, movToInd_yields (file := .pmc) rfl rfl hq level index source inside rfl, s.monitorsOnly_writePmc _ _, ?_⟩
    rw [byte (by decide)]
    refine ⟨fun on stays k => ?_, fun off other => congrArg State.pmc (State.writePmc_off off other), fun on kept stays => ?_⟩
    · exact (congrArg (·[k]) (State.writePmc_on on stays).1).trans (getElem_written _ _ _ k)
    · exact (State.writePmc_on on stays).2 (kept.imp_right pmdsOf_eq_nil)
  · rw [← byte (file := .pmd) (by decide)] at inside
    refine ⟨_, movToInd_yields (file := .pmd) rfl rfl hq level index source inside rfl, s.writePmd_eq _ _, fun k => ?_⟩
    rw [byte (by decide)]
    exact s.writePmd_getElem _ _ k
  · rw [← byte (file := .pmc) (by decide)] at outside
    exact movToInd_takes rfl hq level index source fun ok => outside.not_gt ok.1
  · rw [← byte (file := .pmd) (by decide)] at outside
    exact movToInd_takes rfl hq level index source fun ok => outside.not_gt ok.1

end

end

section
/-! SUPPORT. Queries of the translations (R486 to R488): what the lookup of a non-access instruction finds or raises, and what each query makes
of it. -/

namespace Sys2Proof.Machine

open Sys2Proof.Forms

section Runs

variable {s : State} {i : Instr} {qp : PredIdx} {t : Except Exc Unit} {b : Except Exc Res}

/-- An instruction whose body is interrupted takes exactly that interruption. -/
theorem interrupted_of_run {e : Intr} (runs : exec i s = run s qp t b) (hq : s.pred qp = true) (ht : t = .ok ())
    (hb : b = .error (.intr e)) : exec i s = .next (s.takeInterruption e s.ri) := by
  rw [runs, run_true ht hq, hb]
  rfl

/-- An instruction whose body meets a machine check stops the model with it (R595). -/
theorem faults_of_run {x : Fault} (runs : exec i s = run s qp t b) (hq : s.pred qp = true) (ht : t = .ok ())
    (hb : b = .error (.fault x)) : exec i s = .fault x := by
  rw [runs, run_true ht hq, hb]
  rfl

end Runs

/-! ### The lookup of a non-access instruction (R159, R568) -/

section Lookup

variable {s : State} {acc : Acc} {r3 : GrIdx} {e : TlbEntry}

theorem dataEntry_some_iff : dataEntry s r3 = some e ↔ s.lookup false (s.gr r3).val = [e] := by
  unfold dataEntry
  split
  · next found => rw [found]; simp
  · next none => exact iff_of_false nofun fun found => none e found

theorem State.findEntry_one (acc : Acc) (h : s.lookup false acc.va = [e]) : s.findEntry acc = .ok e := by
  unfold State.findEntry
  rw [h]

theorem State.findEntry_none (acc : Acc) (h : s.lookup false acc.va = []) : s.findEntry acc = .error (s.raise acc (s.missFault acc)) := by
  unfold State.findEntry
  rw [h]

theorem State.findEntry_many (acc : Acc) (h : 2 ≤ (s.lookup false acc.va).length) : s.findEntry acc = .error (.fault .machineCheckMultipleHit) := by
  unfold State.findEntry
  match hl : s.lookup false acc.va, h with
  | _ :: _ :: _, _ => rfl

theorem State.missFault_ne_multipleHit : s.missFault acc ≠ .multipleHit := by
  unfold State.missFault
  split
  · nofun
  · split
    · nofun
    · split <;> nofun

end Lookup

/-- A reference of one byte is aligned and supported on every page: only a breakpoint can stop it (R569 to R572). -/
theorem State.checkData_reference {s : State} {acc : Acc} (reference : acc.cls = .reference) (byte : acc.n = 1) (ma : MemAttr) :
    s.checkData acc ma = if s.dataDebug acc then .error .debug else .ok () := by
  have aligned : s.misaligned acc ma = false := by
    refine Bool.eq_false_iff.mpr fun bad => ?_
    have := (misaligned_iff s ma (by simp [byte])).mp bad
    unfold unalignedAccess unnatural at this
    simp [reference, byte, Nat.mod_one] at this
  have supported : unsupportedRef acc ma = false := by
    unfold unsupportedRef
    simp [reference, byte]
  unfold State.checkData
  rw [aligned, supported]
  rfl

/-! ### The bodies of the queries -/

section Bodies

variable {s : State} {qp : PredIdx} {r1 r3 : GrIdx}

/-- A query ends with its value in GR[r1]. -/
def State.answers (s : State) (r1 : GrIdx) (v : Word) : Except Exc Res := .ok { s := s.setGr r1 (GReg.ofWord v) .alu }

/-- What a probe does with the translation it finds. -/
def State.probeResult (s : State) (r1 : GrIdx) (write : Bool) (l : BitVec 2) (e : TlbEntry) : Except Exc Res :=
  s.answers r1 (if rightsAllow e.ar e.pl (s.probeLevel l) (!write) write false then 1 else 0)

/-- What `tpa` does with the translation it finds. -/
def State.tpaResult (s : State) (r1 : GrIdx) (va : Word) (e : TlbEntry) : Except Exc Res :=
  if !e.p then .error (s.raise (s.naAcc va 0) (.pageNotPresent e))
  else if e.ma = .natPage then .error (s.raise (s.naAcc va 0) .natPage)
  else s.answers r1 (BitVec.ofNat 64 (e.phys va))

theorem State.probeOperand_ok {r2 : GrIdx} (h : usable s r2) : s.probeOperand r2 = .ok ((s.gr r2).val.extractLsb' 0 2) := by
  obtain ⟨visible, clear⟩ := h
  unfold State.probeOperand
  rw [State.readGr_ok visible]
  exact if_neg (ne_true_of_eq_false clear)

/-- The body of a probe. -/
def State.probeBody (s : State) (r1 r3 : GrIdx) (write : Bool) (source : Except Exc Unit) (pl : Except Exc (BitVec 2)) : Except Exc Res :=
  (s.readGr r3).bind fun base => source.bind fun _ => pl.bind fun l =>
    if base.nat then .error (natConsumptionNa 2 false false)
    else (s.findEntry (s.naAcc base.val 2)).bind (s.probeResult r1 write l)

/-- The body of `tpa`. -/
def State.tpaBody (s : State) (r1 r3 : GrIdx) : Except Exc Res :=
  (s.readGr r3).bind fun base => s.privileged.bind fun _ =>
    if base.nat then .error (natConsumptionNa 0 false false)
    else (s.findEntry (s.naAcc base.val 0)).bind (s.tpaResult r1 base.val)

/-- The key that `tak` gives for the translations of an address (R487). -/
def takKey : List TlbEntry → Except Exc Word
  | [] => .ok 1
  | [e] => .ok (if e.p then zext (e.key ++ 0#8) else 1)
  | _ => .error (.fault .machineCheckMultipleHit)

/-- The body of `tak`. -/
def State.takBody (s : State) (r1 r3 : GrIdx) : Except Exc Res :=
  (s.readGr r3).bind fun base => s.privileged.bind fun _ =>
    if base.nat then .error (natConsumptionNa 3 false false)
    else (takKey (s.lookup false base.val)).bind (s.answers r1)

theorem probeInstr_eq (s : State) (qp : PredIdx) (r1 r3 : GrIdx) (write : Bool) (source : Except Exc Unit) (pl : Except Exc (BitVec 2)) :
    probeInstr s qp r1 r3 write source pl = run s qp (s.targetGr r1) (s.probeBody r1 r3 write source pl) := rfl

theorem tpaInstr_eq (s : State) (qp : PredIdx) (r1 r3 : GrIdx) :
    tpaInstr s qp r1 r3 = run s qp (s.targetGr r1) (s.tpaBody r1 r3) := rfl

theorem takInstr_eq (s : State) (qp : PredIdx) (r1 r3 : GrIdx) :
    takInstr s qp r1 r3 = run s qp (s.targetGr r1) (s.takBody r1 r3) := by
  refine congrArg (run s qp (s.targetGr r1)) (bind_congr (m := Except Exc) fun base => bind_congr (m := Except Exc) fun _ => ?_)
  refine if_congr Iff.rfl rfl ?_
  unfold takKey
  cases s.lookup false base.val with
  | nil => rfl
  | cons e l => cases l <;> rfl

theorem State.probeBody_eq {write : Bool} {l : BitVec 2} {source : Except Exc Unit} {pl : Except Exc (BitVec 2)} (h : usable s r3)
    (hs : source = .ok ()) (hl : pl = .ok l) :
    s.probeBody r1 r3 write source pl = (s.findEntry (s.naAcc (s.gr r3).val 2)).bind (s.probeResult r1 write l) := by
  obtain ⟨visible, clear⟩ := h
  unfold State.probeBody
  rw [State.readGr_ok visible, hs, hl]
  exact if_neg (ne_true_of_eq_false clear)

theorem State.tpaBody_eq (level : s.cpl = 0) (h : usable s r3) :
    s.tpaBody r1 r3 = (s.findEntry (s.naAcc (s.gr r3).val 0)).bind (s.tpaResult r1 (s.gr r3).val) := by
  obtain ⟨visible, clear⟩ := h
  unfold State.tpaBody
  rw [State.readGr_ok visible, State.privileged_ok level]
  exact if_neg (ne_true_of_eq_false clear)

theorem State.takBody_eq (level : s.cpl = 0) (h : usable s r3) :
    s.takBody r1 r3 = (takKey (s.lookup false (s.gr r3).val)).bind (s.answers r1) := by
  obtain ⟨visible, clear⟩ := h
  unfold State.takBody
  rw [State.readGr_ok visible, State.privileged_ok level]
  exact if_neg (ne_true_of_eq_false clear)

/-- The key in bits 31:8 (R487). -/
theorem zext_key (key : BitVec 24) : (zext (key ++ 0#8) : Word) = BitVec.ofNat 64 (key.toNat * 256) := by
  have small := key.isLt
  apply BitVec.eq_of_toNat_eq
  rw [zext, BitVec.toNat_setWidth, toNat_append_eq, BitVec.toNat_ofNat]
  simp

end Bodies

end Sys2Proof.Machine

namespace Sys2Proof.Forms

open Sys2Proof.Machine

/-! ### What the queries give -/

section Gives

variable {i : Instr} {qp : PredIdx} {r1 r3 : GrIdx}

theorem MoveForm.correct_of_answers {ready : State → Prop} {val : State → Word} (body : State → Except Exc Res)
    (runs : ∀ s, exec i s = run s qp (s.targetGr r1) (body s)) (short : isLong i = false)
    (gives : ∀ s, ready s → body s = s.answers r1 (val s)) : MoveForm.Correct i { qp, r1, ready, val } :=
  MoveForm.correct_of_run body runs short fun s h => (gives s h).trans (by unfold State.answers GReg.ofWord; rfl)

theorem probeValue_of_found {s : State} {e : TlbEntry} (found : dataEntry s r3 = some e) (l : BitVec 2) (write : Bool) :
    probeValue s r3 l write = if rightsAllow e.ar e.pl (s.probeLevel l) (!write) write false then 1 else 0 := by
  unfold probeValue
  rw [found]
  rfl

/-- A probe of an address with one translation tells what its rights permit at the less privileged level. -/
theorem probe_correct {write : Bool} {ready : State → Prop} {level : State → BitVec 2} {source : State → Except Exc Unit}
    {pl : State → Except Exc (BitVec 2)} (runs : ∀ s, exec i s = probeInstr s qp r1 r3 write (source s) (pl s)) (short : isLong i = false)
    (allows : ∀ s, ready s → usable s r3 ∧ (dataEntry s r3).isSome ∧ source s = .ok () ∧ pl s = .ok (level s)) :
    MoveForm.Correct i { qp, r1, ready, val := fun s => probeValue s r3 (level s) write } := by
  refine MoveForm.correct_of_answers _ (fun s => (runs s).trans (probeInstr_eq ..)) short fun s h => ?_
  obtain ⟨base, one, hs, hl⟩ := allows s h
  obtain ⟨e, found⟩ := Option.isSome_iff_exists.mp one
  rw [State.probeBody_eq base hs hl, State.findEntry_one (s.naAcc (s.gr r3).val 2) (dataEntry_some_iff.mp found),
    probeValue_of_found found]
  rfl

theorem tpa_correct (qp : PredIdx) (r1 r3 : GrIdx) {f : MoveForm} (h : queryForm (.tpaR1R3 qp r1 r3) = some f) :
    f.Correct (.tpaR1R3 qp r1 r3) := by
  cases h
  refine MoveForm.correct_of_answers _ (fun s => tpaInstr_eq s qp r1 r3) rfl fun s ready => ?_
  obtain ⟨level, base, e, found, present, noNat⟩ := ready
  rw [State.tpaBody_eq level base, State.findEntry_one (s.naAcc (s.gr r3).val 0) (dataEntry_some_iff.mp found)]
  change s.tpaResult r1 _ e = _
  unfold State.tpaResult
  rw [present, if_neg noNat, found, Bool.not_true, if_neg Bool.false_ne_true]

theorem tak_correct (qp : PredIdx) (r1 r3 : GrIdx) {f : MoveForm} (h : queryForm (.takR1R3 qp r1 r3) = some f) :
    f.Correct (.takR1R3 qp r1 r3) := by
  cases h
  refine MoveForm.correct_of_answers _ (fun s => takInstr_eq s qp r1 r3) rfl fun s ready => ?_
  obtain ⟨level, base, few⟩ := ready
  rw [State.takBody_eq level base]
  unfold dataEntry
  match s.lookup false (s.gr r3).val, few with
  | [], _ => rfl
  | [e], _ =>
    change s.answers r1 (if e.p then zext (e.key ++ 0#8) else 1) = _
    rw [zext_key]

theorem hash_correct {f : State → Word → Word} {val : State → Word} (runs : ∀ s, exec i s = hashInstr s qp r1 r3 (f s))
    (short : isLong i = false) (gives : ∀ s, f s (s.gr r3).val = val s) :
    MoveForm.Correct i { qp, r1, ready := fun s => s.grVisible r3 = true, nat := fun s => (s.gr r3).nat, val } := by
  refine MoveForm.correct_of_run _ runs short fun s visible => ?_
  dsimp only
  rw [State.readGr_ok visible, ← gives s]
  rfl

/-- Each query gives what the rules name. -/
theorem queryForm_correct {f : MoveForm} (h : queryForm i = some f) : f.Correct i := by
  have operand {s : State} {r2 : GrIdx} (h : usable s r2) : s.sourceGr r2 = .ok () ∧ s.probeOperand r2 = .ok ((s.gr r2).val.setWidth 2) :=
    ⟨State.sourceGr_ok h.1, (State.probeOperand_ok h).trans (congrArg Except.ok (by ext k hk; simp))⟩
  unfold queryForm at h
  split at h <;> cases h
  -- probes
  · exact probe_correct (fun _ => rfl) rfl fun s ⟨base, level, one⟩ => ⟨base, one, operand level⟩
  · exact probe_correct (fun _ => rfl) rfl fun _ ⟨base, one⟩ => ⟨base, one, rfl, rfl⟩
  · exact probe_correct (fun _ => rfl) rfl fun s ⟨base, level, one⟩ => ⟨base, one, operand level⟩
  · exact probe_correct (fun _ => rfl) rfl fun _ ⟨base, one⟩ => ⟨base, one, rfl, rfl⟩
  -- addresses and keys
  · exact tpa_correct _ _ _ rfl
  · exact tak_correct _ _ _ rfl
  -- hashes
  · exact hash_correct (fun _ => rfl) rfl fun s => (vhptEntryAt_eq ..).symm
  · refine hash_correct (f := fun s va => Config.vhptTag va (rrRid (s.regionReg va))) (fun _ => rfl) rfl fun s => ?_
    rw [← regionOf_eq]
    rfl

end Gives

/-! ### What the queries raise -/

section Raises

variable {i : Instr} {f : QueryAccess}

/-- A query that takes the lookup of a non-access instruction as its first step raises what the lookup raises. -/
theorem QueryAccess.faults_of_lookup (body : State → Except Exc Res) (use : State → TlbEntry → Except Exc Res)
    (runs : ∀ s, exec i s = run s f.qp (s.targetGr f.r1) (body s))
    (looks : ∀ s, f.ready s → body s = (s.findEntry (s.naAcc (s.gr f.r3).val f.code)).bind (use s))
    (page : f.page = true → ∀ s e,
      (e.p = false → use s e = .error (.intr (s.transIntr (s.naAcc (s.gr f.r3).val f.code) (.pageNotPresent e)))) ∧
      (e.p = true → e.ma = .natPage → use s e = .error (.intr (s.transIntr (s.naAcc (s.gr f.r3).val f.code) .natPage)))) :
    f.Faults i := by
  intro s hq h1 ready
  dsimp only
  rw [hitsOf_eq]
  refine ⟨fun many => ?_, fun _ none => ?_, fun e looksAt one => ⟨fun absent => ?_, fun present nat => ?_⟩⟩
  · refine faults_of_run (runs s) hq (State.targetGr_ok h1) ?_
    rw [looks s ready, State.findEntry_many (s.naAcc (s.gr f.r3).val f.code) many]
    rfl
  · refine ⟨_, missFault_missFaults s _, interrupted_of_run (runs s) hq (State.targetGr_ok h1) ?_⟩
    rw [looks s ready, State.findEntry_none (s.naAcc (s.gr f.r3).val f.code) none, State.raise_eq _ State.missFault_ne_multipleHit]
    rfl
  · refine interrupted_of_run (runs s) hq (State.targetGr_ok h1) ?_
    rw [looks s ready, State.findEntry_one (s.naAcc (s.gr f.r3).val f.code) one]
    exact (page looksAt s e).1 absent
  · refine interrupted_of_run (runs s) hq (State.targetGr_ok h1) ?_
    rw [looks s ready, State.findEntry_one (s.naAcc (s.gr f.r3).val f.code) one]
    exact (page looksAt s e).2 present nat

/-- A lookup whose faults are those of the page too. -/
theorem tpa_faults (qp : PredIdx) (r1 r3 : GrIdx) {f : QueryAccess} (h : queryAccess (.tpaR1R3 qp r1 r3) = some f) :
    f.Faults (.tpaR1R3 qp r1 r3) := by
  cases h
  refine QueryAccess.faults_of_lookup _ _ (fun s => tpaInstr_eq s qp r1 r3) (fun s ⟨level, base⟩ => State.tpaBody_eq level base)
    fun _ s e => ⟨fun absent => ?_, fun present nat => ?_⟩
  · unfold State.tpaResult
    rw [absent]
    rfl
  · unfold State.tpaResult
    rw [present, if_pos nat]
    rfl

/-- `tak` of an address without a translation is no fault (R487). -/
theorem tak_faults (qp : PredIdx) (r1 r3 : GrIdx) {f : QueryAccess} (h : queryAccess (.takR1R3 qp r1 r3) = some f) :
    f.Faults (.takR1R3 qp r1 r3) := by
  cases h
  intro s hq h1 ready
  obtain ⟨level, base⟩ := ready
  dsimp only
  rw [hitsOf_eq]
  refine ⟨fun many => ?_, nofun, nofun⟩
  refine faults_of_run (takInstr_eq s qp r1 r3) hq (State.targetGr_ok h1) ?_
  rw [State.takBody_eq level base]
  match found : s.lookup false (s.gr r3).val, many with
  | _ :: _ :: _, _ => rfl

theorem probe_faults {qp : PredIdx} {r1 r3 : GrIdx} {write : Bool} {ready : State → Prop} {source : State → Except Exc Unit}
    {pl : State → Except Exc (BitVec 2)} (level : State → BitVec 2)
    (runs : ∀ s, exec i s = probeInstr s qp r1 r3 write (source s) (pl s))
    (allows : ∀ s, ready s → usable s r3 ∧ source s = .ok () ∧ pl s = .ok (level s)) :
    QueryAccess.Faults i { qp, r1, r3, ready, code := 2 } :=
  QueryAccess.faults_of_lookup _ _ (fun s => (runs s).trans (probeInstr_eq ..))
    (fun s h => State.probeBody_eq (allows s h).1 (allows s h).2.1 (allows s h).2.2) nofun

/-- Each query raises the faults of its lookup. -/
theorem queryAccess_faults (h : queryAccess i = some f) : f.Faults i := by
  unfold queryAccess at h
  split at h <;> cases h
  · exact probe_faults _ (fun _ => rfl) fun _ ⟨base, level⟩ => ⟨base, State.sourceGr_ok level.1, State.probeOperand_ok level⟩
  · exact probe_faults _ (fun _ => rfl) fun _ base => ⟨base, rfl, rfl⟩
  · exact probe_faults _ (fun _ => rfl) fun _ ⟨base, level⟩ => ⟨base, State.sourceGr_ok level.1, State.probeOperand_ok level⟩
  · exact probe_faults _ (fun _ => rfl) fun _ base => ⟨base, rfl, rfl⟩
  · exact tpa_faults _ _ _ rfl
  · exact tak_faults _ _ _ rfl

end Raises

/-! ### `probe.fault` (R486) -/

section ProbeFault

variable {s : State} {qp : PredIdx} {r3 : GrIdx} {r w : Bool} {pl : BitVec 2}

/-- The access that `probe.fault` names. -/
def probedAccess (s : State) (r3 : GrIdx) (r w : Bool) (pl : BitVec 2) : Acc :=
  { va := (s.gr r3).val, n := 1, cls := .reference, r, w, na := some 5, cpl := s.probeLevel pl }

/-- The end of `probe.fault`: nothing, or the fault of the access. -/
def raiseProbed (s : State) (acc : Acc) (x : Except TransFault Unit) : Except Exc Res :=
  match x with
  | .ok _ => .ok { s := s }
  | .error f => .error (s.raise acc f)

theorem probeFault_runs (base : usable s r3) : probeFault s qp r3 r w pl = run s qp (.ok ())
    (raiseProbed s (probedAccess s r3 r w pl) ((s.translateVirtual (probedAccess s r3 r w pl)).bind fun p =>
      s.checkData (probedAccess s r3 r w pl) p.2)) := by
  obtain ⟨visible, clear⟩ := base
  unfold probeFault
  rw [State.readGr_ok visible]
  exact congrArg (run s qp (.ok ())) (if_neg (ne_true_of_eq_false clear))

/-- The fault of the access that `probe.fault` names is taken. -/
theorem probeFault_takes {i : Instr} {f : TransFault} (named : exec i s = probeFault s qp r3 r w pl) (hq : s.pred qp = true)
    (base : usable s r3) (h : ((s.translateVirtual (probedAccess s r3 r w pl)).bind fun p =>
      s.checkData (probedAccess s r3 r w pl) p.2) = .error f) (single : f ≠ .multipleHit) :
    exec i s = .next (s.takeInterruption (s.transIntr (probedAccess s r3 r w pl) f) s.ri) := by
  refine interrupted_of_run (named.trans (probeFault_runs base)) hq rfl ?_
  rw [h, ← State.raise_eq _ single]
  rfl

end ProbeFault

end Sys2Proof.Forms

section

open Sys2Proof Machine Forms

/-- Settles O28: a query is one lookup of the data side and what the instruction makes of it; `probe.fault` makes the checks of the access. -/
theorem translationQueries : Obligations.TranslationQueries := by
  unfold Obligations.TranslationQueries
  refine ⟨fun i f h => queryForm_correct h, fun i f h => queryAccess_faults h, fun i qp r3 pl r w s which hq base => ?_⟩
  have named : exec i s = probeFault s qp r3 r w pl ∧ isLong i = false := by
    rcases which with ⟨rfl, rfl, rfl⟩ | ⟨rfl, rfl, rfl⟩ | ⟨rfl, rfl, rfl⟩ <;> exact ⟨rfl, rfl⟩
  obtain ⟨named, short⟩ := named
  have checks := s.checkData_reference (acc := probedAccess s r3 r w pl) rfl rfl
  refine ⟨fun p allowed => ⟨fun free => ⟨s, ?_, rfl⟩, fun hit => ?_⟩, fun f failed single => ?_⟩
  · refine yields_of_run (named.trans (probeFault_runs base)) short hq rfl ?_
    rw [show s.translateVirtual (probedAccess s r3 r w pl) = .ok p from allowed]
    change raiseProbed s _ (s.checkData _ p.2) = _
    rw [checks, show s.dataDebug (probedAccess s r3 r w pl) = false from free]
    rfl
  · refine probeFault_takes named hq base ?_ nofun
    rw [show s.translateVirtual (probedAccess s r3 r w pl) = .ok p from allowed]
    change s.checkData _ p.2 = _
    rw [checks, show s.dataDebug (probedAccess s r3 r w pl) = true from hit]
    rfl
  · refine probeFault_takes named hq base ?_ single
    rw [show s.translateVirtual (probedAccess s r3 r w pl) = .error f from failed]
    rfl

end

end

section
/-! SUPPORT. Purges and inserts of translations (R448, R449, R485): overlapping blocks, what a purge leaves of each structure, the entry that the
operands of an insert describe, and the entries that give way to it. -/

namespace Sys2Proof.Machine

open Sys2Proof.Forms

/-! ### Overlap and cover, in numbers (R159, R449) -/

theorem overlaps_iff (e : TlbEntry) (rid : BitVec 24) (off : BitVec 61) (ps : BitVec 6) :
    e.overlaps rid off ps = true ↔ sharesBytes e rid off ps.toNat := by
  unfold TlbEntry.overlaps sharesBytes
  rw [Bool.and_eq_true, decide_eq_true_eq, decide_eq_true_eq, ← BitVec.toNat_inj (x := _ >>> _), BitVec.toNat_ushiftRight,
    BitVec.toNat_ushiftRight, Nat.shiftRight_eq_div_pow, Nat.shiftRight_eq_div_pow]

theorem covers_iff (e : TlbEntry) (rid : BitVec 24) (off : BitVec 61) :
    e.covers rid off = true ↔ e.rid = rid ∧ e.va.toNat / 2 ^ e.ps.toNat = off.toNat / 2 ^ e.ps.toNat := by
  unfold TlbEntry.covers
  rw [Bool.and_eq_true, decide_eq_true_eq, decide_eq_true_eq, ← BitVec.toNat_inj (x := _ >>> _), BitVec.toNat_ushiftRight,
    BitVec.toNat_ushiftRight, Nat.shiftRight_eq_div_pow, Nat.shiftRight_eq_div_pow]

/-- The low bits of a block's address do not matter. -/
theorem sharesBytes_masked (e : TlbEntry) (rid : BitVec 24) (off : BitVec 61) (ps : BitVec 6) :
    sharesBytes e rid (off &&& ~~~ pageMask ps) ps.toNat ↔ sharesBytes e rid off ps.toNat := by
  rw [← overlaps_iff, ← overlaps_iff]
  unfold TlbEntry.overlaps
  rw [and_not_pageMask_shiftRight (Nat.le_max_right _ _)]

/-! ### What a purge leaves (R449, R155) -/

section Purged

variable {on : Bool} {hit hit' : TlbEntry → Prop} {l0 l : List TlbEntry}

theorem purgedList_refl (hit : TlbEntry → Prop) (l : List TlbEntry) : purgedList false hit l l :=
  ⟨fun _ => rfl, .refl l, fun _ he => iff_of_true he nofun⟩

theorem purgedList_congr (same : ∀ e ∈ l0, hit e ↔ hit' e) (h : purgedList on hit l0 l) : purgedList on hit' l0 l := by
  obtain ⟨off, sub, kept⟩ := h
  exact ⟨off, sub, fun e he => (kept e he).trans (imp_congr_right fun _ => not_congr (same e he))⟩

theorem purgedList_purgeCache (l : List TlbEntry) (rid : BitVec 24) (off : BitVec 61) (ps : BitVec 6) :
    purgedList true (fun e => sharesBytes e rid off ps.toNat) l (purgeCache l rid off ps) := by
  refine ⟨nofun, List.filter_sublist, fun e he => ?_⟩
  dsimp only
  rw [mem_purgeCache, ← overlaps_iff, Bool.not_eq_true]
  exact ⟨fun h _ => h.2, fun h => ⟨he, h rfl⟩⟩

/-- A second purge of the same list. -/
theorem purgedList_again (h : purgedList true hit l0 l) (rid : BitVec 24) (off : BitVec 61) (ps : BitVec 6) :
    purgedList true (fun e => hit e ∨ sharesBytes e rid off ps.toNat) l0 (purgeCache l rid off ps) := by
  obtain ⟨-, sub, kept⟩ := h
  obtain ⟨-, subAgain, keptAgain⟩ := purgedList_purgeCache l rid off ps
  refine ⟨nofun, subAgain.trans sub, fun e he => ⟨fun hmem _ => ?_, fun clear => ?_⟩⟩
  · have before := subAgain.subset hmem
    exact not_or.mpr ⟨(kept e he).mp before rfl, (keptAgain e before).mp hmem rfl⟩
  · obtain ⟨first, second⟩ := not_or.mp (clear rfl)
    exact (keptAgain e ((kept e he).mpr fun _ => first)).mpr fun _ => second

theorem backedIn_iff (u : State) (g : TlbEntry) : backedIn u g ↔ ∃ e ∈ u.translations false, e.covers g.rid g.va = true := by
  unfold backedIn
  simp only [covers_iff]

/-- The first-level data TLB loses what its own purge takes and what the second level does not hold. -/
theorem purgedList_l1dBacked {p u : State} (second : u.translations false = p.translations false)
    (h : purgedList true hit l0 p.l1dtlb) : purgedList true (fun g => hit g ∨ ¬ backedIn u g) l0 p.l1dBacked.l1dtlb := by
  obtain ⟨-, sub, kept⟩ := h
  refine ⟨nofun, List.filter_sublist.trans sub, fun e he => ?_⟩
  dsimp only
  rw [mem_l1dBacked, kept e he, backedIn_iff, second]
  simp

/-- A purge of the registers empties exactly those that hold an overlapping translation. -/
theorem purgedRegs_purgeRegs (v : Vector (Option TlbEntry) 64) (rid : BitVec 24) (off : BitVec 61) (ps : BitVec 6) :
    purgedRegs true (fun e => sharesBytes e rid off ps.toNat) v (purgeRegs v rid off ps) := by
  intro k e
  unfold purgeRegs
  dsimp only
  rw [Fin.getElem_fin, Vector.getElem_map, Fin.getElem_fin, ← overlaps_iff]
  cases v[k.val] with
  | none => simp
  | some o =>
    rw [Option.any_some]
    split
    · next hit => exact iff_of_false nofun fun ⟨same, clear⟩ => clear rfl (Option.some.inj same ▸ hit)
    · next miss => exact ⟨fun same => ⟨same, fun _ => Option.some.inj same ▸ miss⟩, And.left⟩

theorem purgedRegs_refl (hit : TlbEntry → Prop) (v : Vector (Option TlbEntry) 64) : purgedRegs false hit v v :=
  fun _ _ => ⟨fun h => ⟨h, nofun⟩, And.left⟩

end Purged

/-! ### The flush of a releasing purge (R122) -/

/-- The state `s` with the TLBs of `t`. -/
def State.withTlbs (s t : State) : State :=
  { s with itcache := t.itcache, dtcache := t.dtcache, l1itlb := t.l1itlb, l1dtlb := t.l1dtlb, itr := t.itr, dtr := t.dtr }

theorem State.foldl_memWrite_withTlbs (line : Nat) (l : List (Nat × List Byte)) (s t : State) :
    l.foldl (fun u c => u.memWrite (line * 128 + c.1) c.2) (s.withTlbs t) =
      (l.foldl (fun u c => u.memWrite (line * 128 + c.1) c.2) s).withTlbs t := by
  induction l generalizing s with
  | nil => rfl
  | cons c l ih => exact ih (s.memWrite _ _)

theorem State.foldl_wcbWriteBack_withTlbs (l : List WcbEntry) (s t : State) :
    l.foldl State.wcbWriteBack (s.withTlbs t) = (l.foldl State.wcbWriteBack s).withTlbs t := by
  induction l generalizing s with
  | nil => rfl
  | cons e l ih =>
    rw [List.foldl_cons, List.foldl_cons, ← ih]
    exact congrArg (List.foldl _ · l) (State.foldl_memWrite_withTlbs _ _ _ _)

/-- The buffer and the TLBs have nothing to do with each other. -/
theorem State.wcbFlush_withTlbs (s t : State) : (s.withTlbs t).wcbFlush = s.wcbFlush.withTlbs t :=
  congrArg (fun u : State => { u with wcb := [] }) (State.foldl_wcbWriteBack_withTlbs s.wcb s t)

/-! ### Purges -/

section Purges

variable {s : State} {qp : PredIdx} {r3 r2 : GrIdx} {i : Instr}

theorem State.consumeNa_ok {r : GrIdx} (h : usable s r) : s.consumeNa r = .ok (s.gr r).val := by
  obtain ⟨visible, clear⟩ := h
  unfold State.consumeNa
  rw [State.readGr_ok visible]
  exact if_neg (ne_true_of_eq_false clear)

theorem State.purgeOk_ok (level : s.cpl = 0) (base : usable s r3) (size : usable s r2) : s.purgeOk r3 r2 = .ok () := by
  unfold State.purgeOk
  rw [State.sourceGr_ok base.1, State.sourceGr_ok size.1, State.privileged_ok level]
  rfl

/-- The region that an address names, the block's place in it, and its size. -/
def purgedBlock (s : State) (r3 r2 : GrIdx) (k : PurgeKind) : State :=
  s.purge k (rrRid (s.regionReg (s.gr r3).val)) ((s.gr r3).val.extractLsb' 0 61) ((s.gr r2).val.extractLsb' 2 6)

theorem purgeInstr_runs (qp : PredIdx) (k : PurgeKind) (level : s.cpl = 0) (base : usable s r3) (size : usable s r2) :
    purgeInstr s qp k r3 r2 = run s qp (.ok ())
      ((require (pageSizeOk ((s.gr r2).val.extractLsb' 2 6)) reservedField).bind fun _ => .ok { s := purgedBlock s r3 r2 k }) := by
  unfold purgeInstr
  rw [State.purgeOk_ok level base size, State.consumeNa_ok base, State.consumeNa_ok size]
  rfl

end Purges

end Sys2Proof.Machine

namespace Sys2Proof.Forms

open Sys2Proof.Machine

section Purges

variable {i : Instr}

/-- What a purge takes of the TLBs, and that it changes nothing else (R449). -/
structure PurgeForm.Leaves (f : PurgeForm) (hit : TlbEntry → Prop) (s u : State) : Prop where
  itcache : purgedList f.itc hit s.itcache u.itcache
  l1itlb  : purgedList f.itc hit s.l1itlb u.l1itlb
  dtcache : purgedList f.dtc hit s.dtcache u.dtcache
  l1dtlb  : purgedList f.dtc (fun g => hit g ∨ ¬ backedIn u g) s.l1dtlb u.l1dtlb
  itr     : purgedRegs f.itr hit s.itr u.itr
  dtr     : purgedRegs f.dtr hit s.dtr u.dtr
  rest    : u = (if f.rel then s.wcbFlush else s).withTlbs u

/-- A purge form whose effect is one of the model's purges. -/
theorem PurgeForm.correct_of_leaves {f : PurgeForm} {k : PurgeKind} (runs : ∀ s, exec i s = purgeInstr s f.qp k f.r3 f.r2)
    (short : isLong i = false) (leaves : ∀ (s : State) rid off (ps : BitVec 6),
      f.Leaves (fun e => sharesBytes e rid off ps.toNat) s (s.purge k rid off ps)) : f.Correct i := by
  intro s hq level base size
  have ps : (s.gr f.r2).val.toNat / 4 % 64 = ((s.gr f.r2).val.extractLsb' 2 6).toNat := (rrPs_toNat _).symm
  have off : (s.gr f.r3).val.setWidth 61 = (s.gr f.r3).val.extractLsb' 0 61 := by
    ext k hk
    simp
  have rid : (s.rr.toList.getD ((s.gr f.r3).val.toNat / 2 ^ 61) 0).extractLsb' 8 24 = rrRid (s.regionReg (s.gr f.r3).val) := by
    rw [← regionOf_eq]
    rfl
  have runs := (runs s).trans (purgeInstr_runs f.qp k level base size)
  dsimp only
  rw [ps, off, rid, ← pageSizeOk_iff]
  refine ⟨fun good => ?_, fun bad => takes_of_refused runs hq (Bool.eq_false_of_not_eq_true bad)⟩
  have left := leaves s (rrRid (s.regionReg (s.gr f.r3).val)) ((s.gr f.r3).val.extractLsb' 0 61) ((s.gr f.r2).val.extractLsb' 2 6)
  refine ⟨purgedBlock s f.r3 f.r2 k, ?_, left.itcache, left.l1itlb, left.dtcache, left.l1dtlb, left.itr, left.dtr, left.rest⟩
  have done := yields_of_checked runs short hq good
  unfold Yields at done
  rwa [short] at done

/-- Each purge form takes what overlaps from the structures it names. -/
theorem purgeForm_correct {f : PurgeForm} (h : purgeForm i = some f) : f.Correct i := by
  -- the purge of both caches, with or without the flush of a release
  have both (qp : PredIdx) (r3 r2 : GrIdx) (rel : Bool) (s : State) (rid : BitVec 24) (off : BitVec 61) (ps : BitVec 6) :
      PurgeForm.Leaves { qp, r3, r2, itc := true, dtc := true, itr := false, dtr := false, rel }
        (fun e => sharesBytes e rid off ps.toNat) s ((if rel then s.wcbFlush else s).withTlbs (s.purge .ptcL rid off ps)) :=
    { itcache := purgedList_purgeCache ..
      l1itlb := purgedList_purgeCache ..
      dtcache := purgedList_purgeCache ..
      l1dtlb := purgedList_l1dBacked rfl (purgedList_purgeCache ..)
      itr := purgedRegs_refl _ _
      dtr := purgedRegs_refl _ _
      rest := rfl }
  have released (qp : PredIdx) (r3 r2 : GrIdx) (s : State) (rid : BitVec 24) (off : BitVec 61) (ps : BitVec 6) :
      PurgeForm.Leaves { qp, r3, r2, itc := true, dtc := true, itr := false, dtr := false, rel := true }
        (fun e => sharesBytes e rid off ps.toNat) s (s.purge .ptcG rid off ps) := by
    have flushed : s.purge .ptcG rid off ps = s.wcbFlush.withTlbs (s.purge .ptcL rid off ps) := s.wcbFlush_withTlbs (s.purge .ptcL rid off ps)
    exact flushed ▸ both qp r3 r2 true s rid off ps
  unfold purgeForm at h
  split at h <;> cases h
  · exact PurgeForm.correct_of_leaves (k := .ptcL) (fun _ => rfl) rfl fun s rid off ps => both _ _ _ false s rid off ps
  · exact PurgeForm.correct_of_leaves (k := .ptcG) (fun _ => rfl) rfl fun s rid off ps => released _ _ _ s rid off ps
  · exact PurgeForm.correct_of_leaves (k := .ptcGa) (fun _ => rfl) rfl fun s rid off ps => released _ _ _ s rid off ps
  · refine PurgeForm.correct_of_leaves (k := .ptrD) (fun _ => rfl) rfl fun s rid off ps => ?_
    exact ⟨purgedList_refl .., purgedList_refl .., purgedList_purgeCache .., purgedList_l1dBacked rfl (purgedList_purgeCache ..),
      purgedRegs_refl _ _, purgedRegs_purgeRegs _ _ _ _, rfl⟩
  · refine PurgeForm.correct_of_leaves (k := .ptrI) (fun _ => rfl) rfl fun s rid off ps => ?_
    exact ⟨purgedList_purgeCache .., purgedList_purgeCache .., purgedList_refl .., purgedList_refl .., purgedRegs_purgeRegs _ _ _ _,
      purgedRegs_refl _ _, rfl⟩

end Purges

/-! ### The entry that an insert describes (R152, R485) -/

section Entries

variable {s : State} {v : Word} {e : TlbEntry}

theorem memAttr_eq : ∀ ma : BitVec 3, memAttr ma = attrOf ma.toNat := by decide

theorem insertMask_bit {k : Nat} (hk : k < 64) : (0x000C000000000002 : Word).getLsbD k = true ↔ k = 1 ∨ k = 50 ∨ k = 51 := by
  revert k
  decide

/-- A number without its low bits. -/
theorem toNat_clearLow {w : Nat} (x m : BitVec w) (n : Nat) (low : ∀ k, k < w → m.getLsbD k = decide (k < n)) :
    (x &&& ~~~ m).toNat = x.toNat / 2 ^ n * 2 ^ n := by
  refine Nat.eq_of_testBit_eq fun k => ?_
  rw [Nat.testBit_mul_two_pow, Nat.testBit_div_two_pow, BitVec.testBit_toNat, BitVec.getLsbD_and, BitVec.getLsbD_not]
  by_cases hk : k < w
  · rw [low k hk, decide_eq_true hk, Bool.true_and, ← BitVec.testBit_toNat]
    by_cases small : k < n
    · simp [small, Nat.not_le.mpr small]
    · rw [Nat.sub_add_cancel (Nat.not_lt.mp small)]
      simp [small, Nat.not_lt.mp small]
  · have out : x.toNat.testBit (k - n + n) = false ∨ ¬ n ≤ k := by
      by_cases hn : n ≤ k
      · rw [Nat.sub_add_cancel hn]
        exact .inl (BitVec.getLsbD_of_ge x k (Nat.not_lt.mp hk))
      · exact .inr hn
    rcases out with out | out <;> simp [out, hk]

/-- The operands of an insert make an entry exactly where R485 allows them. -/
theorem insertEntry_eq_none_iff : s.insertEntry v = none ↔ ¬ insertable s v := by
  have size : pageSizeOk (s.cr.itir.extractLsb' 2 6) = true ↔ goodPageSize (s.cr.itir.toNat / 4 % 64) := by
    rw [pageSizeOk_iff, BitVec.extractLsb'_toNat, Nat.shiftRight_eq_div_pow]
  have attr : memAttr (v.extractLsb' 2 3) = attrOf (v.toNat / 4 % 8) := by
    rw [memAttr_eq, BitVec.extractLsb'_toNat, Nat.shiftRight_eq_div_pow]
  have clear : (v &&& 0x000C000000000002 != 0) = false ↔ v.getLsbD 1 = false ∧ v.getLsbD 50 = false ∧ v.getLsbD 51 = false := by
    rw [bne_eq_false_iff_eq, ← beq_iff_eq, and_eq_zero_iff insertMask_bit]
    simp only [or_imp, forall_and, forall_eq]
  unfold State.insertEntry State.makeEntry insertable
  dsimp only
  rw [← size, ← clear, ← attr]
  split
  · next bad =>
    refine iff_of_true rfl fun ⟨good, _, free⟩ => ?_
    rw [good, free] at bad
    exact absurd bad (by decide)
  · next good =>
    rw [Option.map_eq_none_iff]
    simp only [Bool.or_eq_true, Bool.not_eq_true', not_or, Bool.not_eq_false, Bool.not_eq_true] at good
    exact ⟨fun none ok => ok.2.1 none, fun no => by_contra fun some => no ⟨good.1, some, good.2⟩⟩

/-- The entry is the one that the operands describe. -/
theorem insertEntry_describes (h : s.insertEntry v = some e) : describes s v e := by
  have size : (s.cr.itir.extractLsb' 2 6).toNat = s.cr.itir.toNat / 4 % 64 := by
    rw [BitVec.extractLsb'_toNat, Nat.shiftRight_eq_div_pow]
  have frame : (v.extractLsb' 12 38 ++ 0#12 : BitVec 50).toNat = v.toNat % 2 ^ 50 / 2 ^ 12 * 2 ^ 12 := by
    rw [toNat_append_eq, BitVec.extractLsb'_toNat, Nat.shiftRight_eq_div_pow]
    simp
    omega
  unfold State.insertEntry State.makeEntry at h
  dsimp only at h
  split at h
  · cases h
  · obtain ⟨ma, attr, rfl⟩ := Option.map_eq_some_iff.mp h
    refine ⟨?_, size, ?_, ?_, ?_, rfl, ?_, rfl, rfl, ?_, ?_, rfl⟩
    · rw [← regionOf_eq]
      rfl
    · rw [BitVec.extractLsb'_toNat, Nat.shiftRight_eq_div_pow]
    · refine (toNat_clearLow _ _ _ fun k hk => ?_).trans (by rw [toNat_offset])
      rw [pageMask_bit]
      simp [hk]
    · refine (toNat_clearLow _ _ _ fun k hk => ?_).trans (by rw [frame])
      rw [BitVec.getLsbD_setWidth, pageMask_bit]
      simp [hk, show k < 61 by omega]
    · rw [← attr, memAttr_eq, BitVec.extractLsb'_toNat, Nat.shiftRight_eq_div_pow]
    · rw [BitVec.extractLsb'_toNat, Nat.shiftRight_eq_div_pow]
    · rw [BitVec.extractLsb'_toNat, Nat.shiftRight_eq_div_pow]

/-- What overlaps the entry is what lies in the block of the insert. -/
theorem block_iff (h : s.insertEntry v = some e) (g : TlbEntry) : InsertForm.block s g ↔ sharesBytes g e.rid e.va e.ps.toNat := by
  obtain ⟨hrid, hps, -⟩ := insertEntry_describes h
  obtain ⟨-, -, hva⟩ := makeEntry_eq_some h
  have off : (s.cr.ifa.setWidth 61 : BitVec 61) = s.cr.ifa.extractLsb' 0 61 := by
    ext k hk
    simp
  unfold InsertForm.block
  rw [← hrid, ← hps, off, hva, sharesBytes_masked]

theorem hitsReg_iff (h : s.insertEntry v = some e) (regs : Vector (Option TlbEntry) 64) :
    hitsReg regs e = true ↔ ∃ (k : Fin 64) (g : TlbEntry), regs[k] = some g ∧ InsertForm.block s g := by
  unfold hitsReg
  rw [List.any_eq_true]
  simp only [block_iff h, ← overlaps_iff, Option.any_eq_true]
  constructor
  · rintro ⟨o, held, g, rfl, hit⟩
    obtain ⟨k, hk, at_⟩ := Vector.mem_iff_getElem.mp (Vector.mem_toList_iff.mp held)
    exact ⟨⟨k, hk⟩, g, at_, hit⟩
  · rintro ⟨k, g, held, hit⟩
    exact ⟨some g, Vector.mem_toList_iff.mpr (held ▸ Vector.getElem_mem k.isLt), g, rfl, hit⟩

end Entries

/-! ### What an insert leaves (R154 to R156, R485) -/

section Inserts

variable {s : State} {v : Word} {e : TlbEntry}

/-- The entries that give way are the overlapping ones and, where there is no room, the last ones. -/
theorem keptEntries_take (h : s.insertEntry v = some e) (l : List TlbEntry) (room : Nat) :
    keptEntries s l ((purgeCache l e.rid e.va e.ps).take room) room := by
  refine ⟨purgeCache l e.rid e.va e.ps, List.filter_sublist, fun g hg => ?_, List.take_prefix .., by rw [List.length_take, Nat.min_comm]⟩
  rw [mem_purgeCache, block_iff h, ← overlaps_iff, Bool.not_eq_true]
  exact and_iff_right hg

theorem purgedList_block (h : s.insertEntry v = some e) (l : List TlbEntry) :
    purgedList true (InsertForm.block s) l (purgeCache l e.rid e.va e.ps) :=
  purgedList_congr (fun g _ => (block_iff h g).symm) (purgedList_purgeCache l e.rid e.va e.ps)

/-- The first level of the instruction side also loses the segments of the translation that was in the register. -/
theorem purgedList_l1After (h : s.insertEntry v = some e) (l : List TlbEntry) (regs : Vector (Option TlbEntry) 64) (n : Nat) :
    purgedList true (fun g => InsertForm.block s g ∨ ∃ (k : Fin 64) (o : TlbEntry), k.val = n ∧ regs[k] = some o ∧
      sharesBytes g o.rid o.va o.ps.toNat) l (l1After l regs n e) := by
  have held : regs.toList.getD n none = if inside : n < 64 then regs[n] else none := by
    split
    · next inside => rw [List.getD_eq_getElem _ _ (by simpa using inside), Vector.getElem_toList]
    · next outside => exact List.getD_eq_default _ _ (by simpa using outside)
  unfold l1After
  dsimp only
  split
  · next o replaced =>
    refine purgedList_congr (fun g _ => or_congr_right ?_) (purgedList_again (purgedList_block h l) o.rid o.va o.ps)
    rw [held] at replaced
    split at replaced
    · next inside =>
      refine ⟨fun shares => ⟨⟨n, inside⟩, o, rfl, replaced, shares⟩, ?_⟩
      rintro ⟨k, p, rfl, at_, shares⟩
      cases at_.symm.trans replaced
      exact shares
    · cases replaced
  · next free =>
    refine purgedList_congr (fun g _ => (or_iff_left ?_).symm) (purgedList_block h l)
    rintro ⟨k, p, rfl, at_, -⟩
    rw [held, dif_pos k.isLt] at free
    cases at_.symm.trans free

/-- The effect of an insert as the rules tell it, of entry `e` (R154 to R156, R485). -/
structure InsertForm.Leaves (f : InsertForm) (s : State) (e : TlbEntry) (u : State) : Prop where
  cached : f.r3 = none → ∃ l, f.cache u = e :: l ∧
    keptEntries s (f.cache s) l (127 - ((f.regs u).toList.filterMap id).length) ∧ f.regs u = f.regs s
  pinned : ∀ r, f.r3 = some r → keptEntries s (f.cache s) (f.cache u) (128 - ((f.regs u).toList.filterMap id).length) ∧
    ∀ k : Fin 64, (f.regs u)[k] = if k.val = (s.gr r).val.toNat % 256 then some e else (f.regs s)[k]
  rest : if f.instr then u = { s with itr := u.itr, itcache := u.itcache, l1itlb := u.l1itlb }
    else u = { s with dtr := u.dtr, dtcache := u.dtcache, l1dtlb := u.l1dtlb }
  l1itlb : purgedList f.instr (fun g => InsertForm.block s g ∨ f.replaces s g) s.l1itlb u.l1itlb
  l1dtlb : purgedList (!f.instr) (fun g => InsertForm.block s g ∨ ¬ backedIn u g) s.l1dtlb u.l1dtlb

/-- A cache entry replaces no register. -/
theorem not_replaces_of_itc (qp : PredIdx) (instr : Bool) (r2 : GrIdx) (s : State) (g : TlbEntry) :
    ¬ InsertForm.replaces { qp, instr, r3 := none, r2 } s g := by
  rintro ⟨k, o, ⟨r, named, -⟩, -⟩
  cases named

theorem insertTc_leaves (qp : PredIdx) (instr : Bool) (r2 : GrIdx) (h : s.insertEntry v = some e) :
    InsertForm.Leaves { qp, instr, r3 := none, r2 } s e (s.insertTc instr e) := by
  have room (n : Nat) : 127 - n = 128 - n - 1 := by omega
  cases instr with
  | true =>
    refine ⟨fun _ => ⟨_, rfl, ?_, rfl⟩, nofun, rfl, ?_, purgedList_refl _ _⟩
    · rw [room]
      exact keptEntries_take h _ _
    · exact purgedList_congr (fun g _ => (or_iff_left (not_replaces_of_itc _ _ _ _ _)).symm) (purgedList_block h s.l1itlb)
  | false =>
    refine ⟨fun _ => ⟨_, rfl, ?_, rfl⟩, nofun, rfl, purgedList_refl _ _, purgedList_l1dBacked rfl (purgedList_block h s.l1dtlb)⟩
    rw [room]
    exact keptEntries_take h _ _

theorem insertReg_leaves (qp : PredIdx) (instr : Bool) (r3 r2 : GrIdx) (h : s.insertEntry v = some e) :
    InsertForm.Leaves { qp, instr, r3 := some r3, r2 } s e (s.insertReg instr ((s.gr r3).val.toNat % 256) e) := by
  cases instr with
  | true =>
    refine ⟨nofun, fun r named => ?_, rfl, ?_, purgedList_refl _ _⟩
    · cases named
      exact ⟨keptEntries_take h _ _, getElem_written _ _ _⟩
    · refine purgedList_congr (fun g _ => or_congr_right ?_) (purgedList_l1After h s.l1itlb s.itr ((s.gr r3).val.toNat % 256))
      unfold InsertForm.replaces InsertForm.regs
      simp
  | false =>
    refine ⟨nofun, fun r named => ?_, rfl, purgedList_refl _ _, purgedList_l1dBacked rfl (purgedList_block h s.l1dtlb)⟩
    cases named
    exact ⟨keptEntries_take h _ _, getElem_written _ _ _⟩

end Inserts

/-! ### The instructions -/

section Runs

variable {s : State} {i : Instr} {f : InsertForm}

/-- The register number of an insert; a cache entry has none (R485). -/
def InsertForm.slot (f : InsertForm) (s : State) : Nat := (f.r3.map fun r => (s.gr r).val.toNat % 256).getD 0

/-- What an insert puts into the TLBs. -/
def InsertForm.put (f : InsertForm) (s : State) (e : TlbEntry) : State :=
  match f.r3 with
  | none => s.insertTc f.instr e
  | some r => s.insertReg f.instr ((s.gr r).val.toNat % 256) e

theorem InsertForm.put_leaves {e : TlbEntry} (f : InsertForm) (h : s.insertEntry (s.gr f.r2).val = some e) : f.Leaves s e (f.put s e) := by
  obtain ⟨qp, instr, r3, r2⟩ := f
  cases r3 with
  | none => exact insertTc_leaves qp instr r2 h
  | some r3 => exact insertReg_leaves qp instr r3 r2 h

/-- The checks behind the operands: a reserved value or register number is refused (R485). -/
def InsertForm.checked (f : InsertForm) (s : State) : Except Exc Res :=
  match s.insertEntry (s.gr f.r2).val with
  | none => .error reservedField
  | some e => if f.slot s < 64 then
      (if hitsReg (f.regs s) e then .error (.fault .machineCheckOverlap) else .ok { s := f.put s e })
    else .error reservedField

/-- An insert whose operands may be read. -/
theorem insert_runs (h : insertForm i = some f) (level : s.cpl = 0) (ic : s.psrIc = false) (value : usable s f.r2)
    (index : ∀ r ∈ f.r3, usable s r) : exec i s = run s f.qp (.ok ()) (f.checked s) := by
  have number (a : Word) : (a.extractLsb' 0 8).toNat = a.toNat % 256 := by
    rw [BitVec.extractLsb'_toNat, Nat.shiftRight_zero]
  have checks {source : Except Exc Unit} {slot : Except Exc Nat} {n : Nat} (hs : source = .ok ()) (hn : slot = .ok n) :
      s.insertChecks s.psrIc f.r2 source slot = match s.insertEntry (s.gr f.r2).val with
        | none => .error reservedField
        | some e => if n < 64 then .ok (e, n) else .error reservedField := by
    unfold State.insertChecks
    rw [ic, hs, State.sourceGr_ok value.1, State.privileged_ok level, hn, State.consumeNa_ok value]
    rfl
  have cached {instr : Bool} (named : exec i s = itcInstr s f.qp instr f.r2) (hf : f.r3 = none) (hi : f.instr = instr) :
      exec i s = run s f.qp (.ok ()) (f.checked s) := by
    rw [named]
    unfold itcInstr InsertForm.checked InsertForm.slot InsertForm.put InsertForm.regs
    rw [checks rfl rfl, hf, hi]
    cases s.insertEntry (s.gr f.r2).val <;> rfl
  have pinned {instr : Bool} {r : GrIdx} (named : exec i s = itrInstr s f.qp instr r f.r2) (hf : f.r3 = some r) (hi : f.instr = instr) :
      exec i s = run s f.qp (.ok ()) (f.checked s) := by
    have base : usable s r := index r hf
    rw [named]
    unfold itrInstr InsertForm.checked InsertForm.slot InsertForm.put InsertForm.regs
    rw [checks (State.sourceGr_ok base.1) (by rw [State.consumeNa_ok base]; exact congrArg Except.ok (number _)), hf, hi]
    cases s.insertEntry (s.gr f.r2).val with
    | none => rfl
    | some e =>
      dsimp only [Option.map_some, Option.getD_some]
      split <;> rfl
  unfold insertForm at h
  split at h <;> cases h
  · exact cached rfl rfl rfl
  · exact cached rfl rfl rfl
  · exact pinned rfl rfl rfl
  · exact pinned rfl rfl rfl

theorem insertForm_short (h : insertForm i = some f) : isLong i = false := by
  unfold insertForm at h
  split at h <;> cases h <;> rfl

theorem InsertForm.slot_lt_iff (f : InsertForm) (s : State) : f.slot s < 64 ↔ ∀ r ∈ f.r3, (s.gr r).val.toNat % 256 < 64 := by
  unfold InsertForm.slot
  cases f.r3 <;> simp

theorem insertForm_completes (h : insertForm i = some f) : f.Completes i := by
  intro s hq level ic value index ok inside free
  obtain ⟨e, made⟩ := Option.ne_none_iff_exists'.mp (mt insertEntry_eq_none_iff.mp (not_not_intro ok))
  have clear : hitsReg (f.regs s) e = false := Bool.eq_false_iff.mpr fun hit => by
    obtain ⟨k, g, held, overlaps⟩ := (hitsReg_iff made _).mp hit
    exact free k g held overlaps
  have body : f.checked s = .ok { s := f.put s e } := by
    unfold InsertForm.checked
    rw [made]
    dsimp only
    rw [if_pos ((f.slot_lt_iff s).mpr inside), clear]
    rfl
  have done := yields_of_run (insert_runs h level ic value index) (insertForm_short h) hq rfl body
  unfold Yields at done
  rw [insertForm_short h] at done
  have left := f.put_leaves made
  exact ⟨_, e, done, insertEntry_describes made, ⟨left.cached, left.pinned⟩, left.rest, left.l1itlb, left.l1dtlb⟩

theorem insertForm_faults (h : insertForm i = some f) : f.Faults i := by
  intro s hq level ic value index
  have runs := insert_runs h level ic value index
  refine ⟨fun ok inside hit => ?_, fun bad => ?_⟩
  · obtain ⟨e, made⟩ := Option.ne_none_iff_exists'.mp (mt insertEntry_eq_none_iff.mp (not_not_intro ok))
    have body : f.checked s = .error (.fault .machineCheckOverlap) := by
      unfold InsertForm.checked
      rw [made]
      dsimp only
      rw [if_pos ((f.slot_lt_iff s).mpr inside), (hitsReg_iff made _).mpr hit]
      rfl
    rw [runs, run_true rfl hq, body]
    rfl
  · have body : f.checked s = .error reservedField := by
      unfold InsertForm.checked
      split
      · rfl
      · next e made =>
        refine if_neg fun inside => ?_
        rcases bad with bad | ⟨r, named, outside⟩
        · cases made.symm.trans (insertEntry_eq_none_iff.mpr bad)
        · exact absurd ((f.slot_lt_iff s).mp inside r named) (Nat.not_lt.mpr outside)
    rw [runs]
    exact takes_of_run hq rfl body

theorem insertForm_needsIc (h : insertForm i = some f) : f.NeedsIc i := by
  intro s hq ic
  have checks (r2 : GrIdx) (source : Except Exc Unit) (slot : Except Exc Nat) :
      s.insertChecks s.psrIc r2 source slot = .error illegalOp := by
    unfold State.insertChecks
    rw [ic]
    rfl
  have cached (instr : Bool) (r2 : GrIdx) : Takes s (itcInstr s f.qp instr r2) .generalException 0 := by
    unfold itcInstr
    rw [checks]
    exact takes_of_run hq rfl rfl
  have pinned (instr : Bool) (r3 r2 : GrIdx) : Takes s (itrInstr s f.qp instr r3 r2) .generalException 0 := by
    unfold itrInstr
    rw [checks]
    exact takes_of_run hq rfl rfl
  unfold insertForm at h
  split at h <;> cases h
  · exact cached false _
  · exact cached true _
  · exact pinned false _ _
  · exact pinned true _ _

end Runs

end Sys2Proof.Forms

section

open Sys2Proof Machine Forms

/-- Settles O43: a purge filters the structures it names, and an insert is its checks, the entry of its operands, and what gives way. -/
theorem purgesAndInserts : Obligations.PurgesAndInserts := by
  unfold Obligations.PurgesAndInserts
  refine ⟨fun qp r3 s hq level base => ?_, fun i qp r3 r2 h => ?_, fun i qp r3 r2 h => ?_⟩
  · refine (run_true rfl hq).trans ?_
    rw [State.sourceGr_ok base.1, State.privileged_ok level, State.consumeNa_ok base]
    rfl
  · have form : ∃ f, purgeForm i = some f := by
      rcases h with rfl | rfl | rfl | rfl | rfl <;> exact ⟨_, rfl⟩
    exact form.imp fun f named => ⟨named, purgeForm_correct named⟩
  · have form : ∃ f, insertForm i = some f := by
      rcases h with rfl | rfl | rfl | rfl <;> exact ⟨_, rfl⟩
    exact form.imp fun f named => ⟨named, insertForm_completes named, insertForm_faults named, insertForm_needsIc named⟩

end

end

section
/-! SUPPORT. `alloc` (R22 to R24, R443 to R445): what the spills that make room leave as it was, which registers a new frame exposes, and the
place of the registers of the frame that stay. -/

namespace Sys2Proof.Machine

open Sys2Proof.Forms

/-! ### Frame markers (R23) -/

section Markers

variable (sof sol sor g f p : Nat)

theorem cfmRrbGr_mkCfm : cfmRrbGr (mkCfm sof sol sor g f p) = g % 2 ^ 7 := by
  unfold cfmRrbGr mkCfm
  rw [BitVec.extractLsb'_append_eq_of_le (by decide), BitVec.extractLsb'_append_eq_of_le (by decide),
    BitVec.extractLsb'_append_eq_of_le (by decide), BitVec.extractLsb'_append_eq_of_add_le (by decide)]
  simp

theorem cfmRrbFr_mkCfm : cfmRrbFr (mkCfm sof sol sor g f p) = f % 2 ^ 7 := by
  unfold cfmRrbFr mkCfm
  rw [BitVec.extractLsb'_append_eq_of_le (by decide), BitVec.extractLsb'_append_eq_of_le (by decide),
    BitVec.extractLsb'_append_eq_of_le (by decide), BitVec.extractLsb'_append_eq_of_le (by decide),
    BitVec.extractLsb'_append_eq_of_add_le (by decide)]
  simp

theorem cfmRrbPr_mkCfm : cfmRrbPr (mkCfm sof sol sor g f p) = p % 2 ^ 6 := by
  unfold cfmRrbPr mkCfm
  rw [BitVec.extractLsb'_append_eq_of_le (by decide), BitVec.extractLsb'_append_eq_of_le (by decide),
    BitVec.extractLsb'_append_eq_of_le (by decide), BitVec.extractLsb'_append_eq_of_le (by decide),
    BitVec.extractLsb'_append_eq_of_le (by decide)]
  simp

end Markers

/-! ### What spills leave (R445) -/

/-- `t` differs from `s` as spills make it: in storage, BSPSTORE, RNAT and the number of clean registers at most. -/
def State.SpilledTo (s t : State) : Prop :=
  t = { s with cur := { s.cur with bspstore := t.cur.bspstore, rnat := t.cur.rnat }, nclean := t.nclean, mem := t.mem, stale := t.stale,
               wcb := t.wcb, alat := t.alat, itr := t.itr, dtr := t.dtr, itcache := t.itcache, dtcache := t.dtcache,
               l1itlb := t.l1itlb, l1dtlb := t.l1dtlb, events := t.events }

section Spills

variable {s t u : State}

theorem State.SpilledTo.refl (s : State) : s.SpilledTo s := rfl

theorem State.SpilledTo.trans (h : s.SpilledTo t) (g : t.SpilledTo u) : s.SpilledTo u := by
  unfold State.SpilledTo at *
  rw [h] at g
  exact g

theorem State.StorageOnly.spilledTo (h : s.StorageOnly t) : s.SpilledTo t := by
  unfold State.SpilledTo
  rw [h]

/-- BSPSTORE, RNAT and the number of clean registers move. -/
theorem State.spilledTo_counted (s : State) (rnat a : Word) (n : Nat) :
    s.SpilledTo (State.moveBspstore { s.withRnat rnat with nclean := n } a) := rfl

theorem gives_rseStore_storageOnly {va v : Word} : Gives (s.rseStore va v) s.StorageOnly :=
  .map fun _ _ => (State.storePhys_storageOnly _ _ _ _).trans (State.noteStore_storageOnly _ _ _)

theorem State.spillRnat_spilledTo (s : State) : Gives s.spillRnat s.SpilledTo :=
  .ite (fun _ => .map fun _ ht => (gives_rseStore_storageOnly _ ht).spilledTo.trans rfl) fun _ => .ok (.refl s)

theorem State.spillOne_spilledTo (s : State) : Gives s.spillOne s.SpilledTo := by
  refine .bind fun t ht => .bind fun u hu => (State.spillRnat_spilledTo _).mono fun v hv => ?_
  have stored : t.SpilledTo u := (gives_rseStore_storageOnly u hu).spilledTo
  exact (s.spillRnat_spilledTo t ht).trans (stored.trans ((u.spilledTo_counted _ _ _).trans hv))

theorem State.spill_spilledTo (s : State) (k : Nat) : Gives (s.spill k) s.SpilledTo := by
  induction k generalizing s with
  | zero => exact .ok (.refl s)
  | succ k ih => exact .bind fun t ht => (ih t).mono fun _ hu => (s.spillOne_spilledTo t ht).trans hu

/-- Spills leave the frame, the bank and what the group has written (R22, R445). -/
theorem State.SpilledTo.kept (h : s.SpilledTo t) : t.cfm = s.cfm ∧ t.bof = s.bof ∧ t.psr = s.psr ∧ t.grpWrites = s.grpWrites ∧
    t.cur.bsp = s.cur.bsp := by
  rw [h]
  exact ⟨rfl, rfl, rfl, rfl, rfl⟩

/-- Spills leave the general registers. -/
theorem State.SpilledTo.gr_eq (h : s.SpilledTo t) (p : Nat) : t.cur.gr p = s.cur.gr p := by
  rw [h]
  rfl

end Spills

/-! ### Newly exposed registers (R444) -/

theorem Regs.OnlyGr.stack_eq {g h : Regs} (only : g.OnlyGr h) : h.bsp = g.bsp ∧ h.bspstore = g.bspstore := by
  unfold Regs.OnlyGr at only
  rw [only]
  exact ⟨rfl, rfl⟩

theorem Regs.OnlyGr.trans {g h k : Regs} (first : g.OnlyGr h) (second : h.OnlyGr k) : g.OnlyGr k := by
  unfold Regs.OnlyGr at *
  rw [first] at second
  exact second

section Expose

variable (s : State) (lo k : Nat)

theorem State.expose_eq : s.expose lo k = { s with cur := (s.expose lo k).cur, old := (s.expose lo k).old } := by
  induction k generalizing s with
  | zero => rfl
  | succ k ih => exact ih (s.setStacked _ _)

theorem State.expose_onlyGr : s.cur.OnlyGr (s.expose lo k).cur := by
  induction k generalizing s with
  | zero => rfl
  | succ k ih => exact Regs.OnlyGr.trans (Regs.setGr_frame _ _ _) (ih (s.setStacked _ _))

/-- Only the registers from `lo` on change. -/
theorem State.expose_gr {p : Nat} (other : ∀ j, j < k → p ≠ 48 + (s.bof + lo + j) % 96) : (s.expose lo k).cur.gr p = s.cur.gr p := by
  induction k generalizing s with
  | zero => rfl
  | succ k ih =>
    refine (ih (s.setStacked _ _) fun j hj => other j (by omega)).trans ?_
    exact Regs.gr_setGr_ne _ _ _ _ (other k (by omega))

end Expose

/-! ### The registers of the frame -/

section Frame

variable {s : State}

theorem State.framePlace_lt_sof (fits : 8 * cfmSor s.cfm ≤ cfmSof s.cfm) {i : Nat} (hi : i < cfmSof s.cfm) :
    s.framePlace i < cfmSof s.cfm := by
  unfold State.framePlace
  split
  · next h => exact (rotated_lt _ h).trans_le fits
  · exact hi

/-- A register of the frame is not one that a larger frame exposes. -/
theorem State.grPhys_ne_exposed (fits : 8 * cfmSor s.cfm ≤ cfmSof s.cfm) {r : GrIdx} (visible : s.grVisible r = true)
    {sof j : Nat} (small : sof ≤ 96) (hj : j < sof - cfmSof s.cfm) : s.grPhys r ≠ 48 + (s.bof + cfmSof s.cfm + j) % 96 := by
  have inside : r.toNat < 32 + cfmSof s.cfm := of_decide_eq_true visible
  by_cases stacked : 32 ≤ r.toNat
  · have place := State.framePlace_lt_sof fits (i := r.toNat - 32) (by omega)
    rw [s.grPhys_stacked stacked]
    omega
  · rw [s.grPhys_static (by omega)]
    split
    · omega
    · split <;> omega

end Frame

/-! ### `alloc` -/

section Alloc

variable {s : State} {r1 : GrIdx} {sof sol : BitVec 7} {sor : BitVec 4}

/-- The body of `alloc` behind its checks. -/
def State.allocated (s t : State) (r1 : GrIdx) (c : BitVec 38) : State :=
  (({ t with cfm := c }).emit (s.rseNote .other)).setGr r1 (GReg.ofWord s.old.pfs) .alu

/-- The marker that `alloc` makes: new sizes, the rotation as it was (R444). -/
def allocMarker (c : BitVec 38) (sof sol : BitVec 7) (sor : BitVec 4) : BitVec 38 :=
  mkCfm sof.toNat sol.toNat sor.toNat (cfmRrbGr c) (cfmRrbFr c) (cfmRrbPr c)

/-- `alloc` checks the sizes, the target and the change of rotation, in this order, and then makes the frame. -/
theorem allocBody_eq (s : State) (qp : PredIdx) (r1 : GrIdx) (sof sol : BitVec 7) (sor : BitVec 4) :
    allocBody s qp r1 sof sol sor = finish s
      ((require (decide (qp = 0 ∧ sof.toNat ≤ 96 ∧ sol.toNat ≤ sof.toNat ∧ 8 * sor.toNat ≤ sof.toNat)) illegalOp).bind fun _ =>
        (require (decide (r1 ≠ 0 ∧ r1.toNat < 32 + sof.toNat)) illegalOp).bind fun _ =>
        (require (!(decide (sor.toNat ≠ cfmSor s.cfm) && decide (cfmRrbGr s.cfm ≠ 0 ∨ cfmRrbFr s.cfm ≠ 0 ∨ cfmRrbPr s.cfm ≠ 0)))
          reservedField).bind fun _ =>
        (s.growFrame (cfmSof s.cfm) sof.toNat).bind fun t => .ok { s := s.allocated t r1 (allocMarker s.cfm sof sol sor) }) := rfl

theorem allocMarker_fields (c : BitVec 38) (sof sol : BitVec 7) (sor : BitVec 4) : let m := allocMarker c sof sol sor
    cfmSof m = sof.toNat ∧ cfmSol m = sol.toNat ∧ cfmSor m = sor.toNat ∧ cfmRrbGr m = cfmRrbGr c ∧ cfmRrbFr m = cfmRrbFr c ∧
      cfmRrbPr m = cfmRrbPr c :=
  ⟨(cfmSof_mkCfm ..).trans (Nat.mod_eq_of_lt sof.isLt), (cfmSol_mkCfm ..).trans (Nat.mod_eq_of_lt sol.isLt),
    (cfmSor_mkCfm ..).trans (Nat.mod_eq_of_lt sor.isLt), (cfmRrbGr_mkCfm ..).trans (Nat.mod_eq_of_lt (BitVec.isLt _)),
    (cfmRrbFr_mkCfm ..).trans (Nat.mod_eq_of_lt (BitVec.isLt _)), (cfmRrbPr_mkCfm ..).trans (Nat.mod_eq_of_lt (BitVec.isLt _))⟩

theorem growFrame_eq {t : State} {n : Nat} (spilled : s.spill (min (s.ndirty + n - 96) 96) = .ok t) (base : Nat) :
    s.growFrame base n = .ok ((t.trimClean n).expose base (n - base)) := by
  unfold State.growFrame
  rw [spilled]
  rfl

/-- What the new frame has of the state after the spills: everything but the exposed registers and the clean ones that went. -/
theorem State.allocated_frame (t : State) (n base : Nat) (r1 : GrIdx) (c : BitVec 38) :
    let u := s.allocated ((t.trimClean n).expose base (n - base)) r1 c
    u.bof = t.bof ∧ u.psr = t.psr ∧ u.cfm = c ∧ u.mem = t.mem ∧ u.wcb = t.wcb ∧ t.cur.OnlyGr u.cur := by
  have exposed := (t.trimClean n).expose_eq base (n - base)
  refine ⟨?_, ?_, rfl, ?_, ?_, Regs.OnlyGr.trans ((t.trimClean n).expose_onlyGr base (n - base)) (Regs.setGr_frame _ _ _)⟩
  · have same := congrArg State.bof exposed
    exact same
  · have same := congrArg State.psr exposed
    exact same
  · have same := congrArg State.mem exposed
    exact same
  · have same := congrArg State.wcb exposed
    exact same

theorem State.wawFree_congr {t u : State} (h : t.grpWrites = u.grpWrites) (r : WrittenReg) (k : WriteKind) :
    t.wawFree r k = u.wawFree r k := by
  unfold State.wawFree
  rw [h]

theorem State.grPhys_congr {t u : State} (hcfm : t.cfm = u.cfm) (hbof : t.bof = u.bof) (hbn : t.psrBn = u.psrBn) (r : GrIdx) :
    t.grPhys r = u.grPhys r := by
  unfold State.grPhys
  rw [hcfm, hbof, hbn]

/-- The new frame names its registers as the state does into which PFS is written. -/
theorem State.allocated_grPhys (s t : State) (r1 r : GrIdx) (c : BitVec 38) :
    (s.allocated t r1 c).grPhys r = (({ t with cfm := c }).emit (s.rseNote .other)).grPhys r :=
  State.grPhys_congr rfl rfl rfl r

/-- PFS goes to the target, as the new frame names it. -/
theorem State.allocated_written (t : State) {c : BitVec 38} (named : r1 ≠ 0) (inside : r1.toNat < 32 + cfmSof c)
    (fresh : t.wawFree (.gr ((s.allocated t r1 c).grPhys r1)) .alu = false) :
    (s.allocated t r1 c).cur.gr ((s.allocated t r1 c).grPhys r1) = GReg.ofWord s.old.pfs := by
  rw [State.allocated_grPhys] at fresh ⊢
  exact State.setGr_same _ r1 _ .alu (Bool.and_eq_true_iff.mpr ⟨bne_iff_ne.mpr named, decide_eq_true inside⟩)
    ((State.wawFree_congr rfl _ _).trans fresh)

theorem State.allocated_other (t : State) {c : BitVec 38} {p : Nat} (other : p ≠ (s.allocated t r1 c).grPhys r1) :
    (s.allocated t r1 c).cur.gr p = t.cur.gr p := by
  rw [State.allocated_grPhys] at other
  exact State.setGr_other _ r1 _ .alu p other

/-- The checks of `alloc` that pass, and the frame that it makes. -/
theorem alloc_yields {t : State} (legal : sof.toNat ≤ 96 ∧ sol.toNat ≤ sof.toNat ∧ 8 * sor.toNat ≤ sof.toNat)
    (target : r1.toNat ≠ 0 ∧ r1.toNat < 32 + sof.toNat)
    (fixed : ¬ (sor.toNat ≠ cfmSor s.cfm ∧ (cfmRrbGr s.cfm ≠ 0 ∨ cfmRrbFr s.cfm ≠ 0 ∨ cfmRrbPr s.cfm ≠ 0)))
    (grown : s.growFrame (cfmSof s.cfm) sof.toNat = .ok t) :
    Yields (.allocR1ArPfsILOR 0 r1 sof sol sor) s (s.allocated t r1 (allocMarker s.cfm sof sol sor)) := by
  have named : r1 ≠ 0 := fun e => target.1 (congrArg BitVec.toNat e)
  refine (allocBody_eq s 0 r1 sof sol sor).trans ?_
  rw [require_ok (decide_eq_true ⟨rfl, legal⟩), grown]
  change finish s ((require _ _).bind _) = _
  rw [require_ok (decide_eq_true ⟨named, target.2⟩)]
  change finish s ((require _ _).bind _) = _
  rw [require_ok (by rw [← Bool.decide_and, decide_eq_false fixed]; rfl)]
  rfl

/-- The target is none of the frame (R444). -/
theorem alloc_target (legal : sof.toNat ≤ 96 ∧ sol.toNat ≤ sof.toNat ∧ 8 * sor.toNat ≤ sof.toNat)
    (outside : r1.toNat = 0 ∨ 32 + sof.toNat ≤ r1.toNat) : Takes s (exec (.allocR1ArPfsILOR 0 r1 sof sol sor) s) .generalException 0 := by
  have refused : ¬ (r1 ≠ 0 ∧ r1.toNat < 32 + sof.toNat) := fun ⟨named, inside⟩ =>
    outside.elim (fun zero => named (BitVec.eq_of_toNat_eq zero)) inside.not_ge
  refine (?_ : exec _ s = _) ▸ takes_illegalOp s
  refine (allocBody_eq s 0 r1 sof sol sor).trans ?_
  rw [require_ok (decide_eq_true ⟨rfl, legal⟩), require_error (decide_eq_false refused)]
  rfl

/-- The sizes are out of order, or the instruction is predicated (R444). -/
theorem alloc_illegal {qp : PredIdx} (bad : ¬ (qp = 0 ∧ sof.toNat ≤ 96 ∧ sol.toNat ≤ sof.toNat ∧ 8 * sor.toNat ≤ sof.toNat)) :
    Takes s (exec (.allocR1ArPfsILOR qp r1 sof sol sor) s) .generalException 0 := by
  refine (?_ : exec _ s = _) ▸ takes_illegalOp s
  refine (allocBody_eq s qp r1 sof sol sor).trans ?_
  rw [require_error (decide_eq_false bad)]
  rfl

/-- The rotating size changes while a rotation base is not 0 (R444). -/
theorem alloc_rotating (legal : sof.toNat ≤ 96 ∧ sol.toNat ≤ sof.toNat ∧ 8 * sor.toNat ≤ sof.toNat)
    (target : r1.toNat ≠ 0 ∧ r1.toNat < 32 + sof.toNat)
    (changes : sor.toNat ≠ cfmSor s.cfm ∧ (cfmRrbGr s.cfm ≠ 0 ∨ cfmRrbFr s.cfm ≠ 0 ∨ cfmRrbPr s.cfm ≠ 0)) :
    Takes s (exec (.allocR1ArPfsILOR 0 r1 sof sol sor) s) .generalException 0x30 := by
  have named : r1 ≠ 0 := fun e => target.1 (congrArg BitVec.toNat e)
  have refused : exec (.allocR1ArPfsILOR 0 r1 sof sol sor) s = finish s (.error reservedField) := by
    refine (allocBody_eq s 0 r1 sof sol sor).trans ?_
    rw [require_ok (decide_eq_true ⟨rfl, legal⟩)]
    change finish s ((require _ _).bind _) = _
    rw [require_ok (decide_eq_true ⟨named, target.2⟩)]
    change finish s ((require _ _).bind _) = _
    rw [require_error (by rw [← Bool.decide_and, decide_eq_true changes]; rfl)]
    rfl
  rw [refused]
  exact ⟨_, rfl, rfl, rfl⟩

end Alloc

end Sys2Proof.Machine

section

open Sys2Proof Machine Forms

/-- Settles O46: behind the checks `alloc` spills what is in the way, exposes the registers above the old frame and writes PFS to its target. -/
theorem allocResizesTheFrame : Obligations.AllocResizesTheFrame := by
  unfold Obligations.AllocResizesTheFrame
  intro r1 sof sol sor s
  dsimp only
  refine ⟨fun qp h => alloc_illegal fun ok => h ok.1, fun bad => alloc_illegal fun ok => bad ok.2, alloc_target,
    fun legal named inside changed fixed => alloc_rotating legal ⟨named, inside⟩ ⟨changed, fixed⟩,
    fun legal fixed named inside ok fits _ t spilled => ?_⟩
  obtain ⟨frame, -, d, stacked, full⟩ := State.stackOk_iff.mp ok
  obtain ⟨-, hbof, hpsr, hgrp, hbsp⟩ := (s.spill_spilledTo _ t spilled).kept
  have grown := growFrame_eq spilled (cfmSof s.cfm)
  obtain ⟨e, m, counts, room⟩ := stacked.growFrame (cfmSof s.cfm) sof.toNat (by omega) legal.1 _ grown
  obtain ⟨hsof, hsol, hsor, hgr, hfr, hpr⟩ := allocMarker_fields s.cfm sof sol sor
  obtain ⟨ubof, upsr, ucfm, umem, uwcb, uonly⟩ := s.allocated_frame t sof.toNat (cfmSof s.cfm) r1 (allocMarker s.cfm sof sol sor)
  refine ⟨_, alloc_yields legal ⟨named, inside⟩ (fun h => fixed.elim h.1 fun free => free h.2) grown,
    hsof, hsol, hsor, hgr, hfr, hpr, ?_, ?_, ubof.trans hbof, umem, uwcb, ?_, ?_, uonly, ?_, ?_⟩
  · intro fresh
    refine State.allocated_written _ (fun e => named (congrArg BitVec.toNat e)) (hsof ▸ inside) (fresh ▸ State.wawFree_congr ?_ _ _)
    exact (congrArg State.grpWrites ((t.trimClean sof.toNat).expose_eq _ _)).trans hgrp
  · intro r visible other
    have exposed := (t.trimClean sof.toNat).expose_gr (cfmSof s.cfm) (sof.toNat - cfmSof s.cfm) (p := s.grPhys r) fun j hj => by
      have kept := State.grPhys_ne_exposed fits visible legal.1 hj
      rwa [← hbof] at kept
    exact (State.allocated_other _ other).trans (exposed.trans ((s.spill_spilledTo _ t spilled).gr_eq _))
  · exact uonly.stack_eq.1.trans hbsp
  · exact uonly.stack_eq.2
  · intro fit
    rw [show min (s.ndirty + sof.toNat - 96) 96 = 0 by omega] at spilled
    exact (Except.ok.inj spilled).symm
  · have u := (counts.withCfm (allocMarker s.cfm sof sol sor)).of_stack (t := s.allocated _ r1 (allocMarker s.cfm sof sol sor))
      (congrArg Prod.fst (State.setGr_parts _ r1 (GReg.ofWord s.old.pfs) .alu))
    rw [u.ndirty_eq, u.nclean]
    exact room

end

end

section
/-! SUPPORT. The register stack engine (R442 to R445, R554, R592): where an access of it goes, what one store and one load of it leave, and from
these one spill, one fill, `flushrs`, `loadrs` and `cover`. -/

namespace Sys2Proof.Machine

open Sys2Proof.Forms

/-! ### The address of an access (R80, R121, R159) -/

section Access

variable {s : State} {acc : Acc}

theorem State.translateVirtual_gives (s : State) (acc : Acc) :
    Gives (s.translateVirtual acc) fun p => ∃ e, s.found acc.x acc.va = [e] ∧ p = (e.phys acc.va, e.ma) := by
  unfold State.translateVirtual
  split
  · exact .error
  · next e found => exact .bind fun _ _ => .ok ⟨e, found, rfl⟩
  · exact .error

theorem translatePhysical_gives (acc : Acc) : Gives (translatePhysical acc) fun p => p.2 ≠ .wc := by
  refine .ite (fun _ => .error) fun _ => .ite (fun _ => .error) fun _ => .ok ?_
  dsimp only
  split <;> decide

/-- A write-coalescing access has gone through a translation. -/
theorem State.access_wc {pa : Nat} (h : s.access acc = .ok (pa, .wc)) :
    ∃ e, s.found acc.x acc.va = [e] ∧ pa = physicalOf e acc.va := by
  have resolved : Gives (s.resolve acc) fun p => p.2 = .wc → ∃ e, s.found acc.x acc.va = [e] ∧ p.1 = physicalOf e acc.va := by
    refine .bind fun p translated => .bind fun _ _ => .ok fun coalescing => ?_
    unfold State.translate at translated
    split at translated
    · obtain ⟨e, found, rfl⟩ := s.translateVirtual_gives acc p translated
      exact ⟨e, found, phys_eq e acc.va⟩
    · exact absurd coalescing (translatePhysical_gives acc p translated)
  unfold State.access at h
  split at h
  · next p hp =>
    cases h
    exact resolved _ hp rfl
  · cases h

/-- With pages of 4 KB and more an aligned address stays aligned. -/
theorem physicalOf_aligned {e : TlbEntry} {va : Word} (page : 12 ≤ e.ps.toNat) (aligned : va.toNat % 8 = 0) :
    physicalOf e va % 8 = 0 := by
  have high : 8 ∣ 2 ^ e.ps.toNat := Nat.pow_dvd_pow 2 (by omega : 3 ≤ e.ps.toNat)
  have low : 8 ∣ 2 ^ min e.ps.toNat 50 := Nat.pow_dvd_pow 2 (by omega : 3 ≤ min e.ps.toNat 50)
  have offset : va.toNat % 2 ^ min e.ps.toNat 50 % 8 = 0 := (Nat.mod_mod_of_dvd _ low).trans aligned
  exact Nat.mod_eq_zero_of_dvd (Nat.dvd_add (high.mul_left _) (Nat.dvd_of_mod_eq_zero offset))

/-- A write-coalescing access of the RSE lies in one line (R121). -/
theorem State.rseAcc_line {va : Word} {w ir : Bool} {pa : Nat} (tlbs : s.TlbOk) (aligned : va.toNat % 8 = 0)
    (h : s.access (s.rseAcc va w ir) = .ok (pa, .wc)) : pa % 128 + 8 ≤ 128 := by
  obtain ⟨e, found, rfl⟩ := State.access_wc h
  have listed : e ∈ s.lookup false va := by
    have : s.found false va = s.lookup false va := rfl
    rw [← this, show s.found false va = [e] from found]
    exact List.mem_singleton_self e
  have page := tlbs.2.1 false e (List.mem_of_mem_filter listed)
  have := physicalOf_aligned (va := va) page aligned
  change physicalOf e va % 128 + 8 ≤ 128
  omega

end Access

/-! ### One store and one load (R445) -/

section StoreLoad

variable {s : State} {va v : Word} {pa : Nat} {ma : MemAttr} {ir : Bool}

/-- The state after a store of the RSE. -/
def State.rseStoredAt (s : State) (va v : Word) (pa : Nat) (ma : MemAttr) : State :=
  (s.storePhys pa ma (storeBytes v.toNat 8 (rscBe s.old.rsc))).noteStore (s.rseAcc va true false) ma

/-- The state after a load of the RSE. -/
def State.rseLoadedAt (s : State) (va : Word) (ir : Bool) (ma : MemAttr) : State := s.noteLoad (s.rseAcc va false ir) ma

theorem State.rseStore_ok (h : s.access (s.rseAcc va true false) = .ok (pa, ma)) : s.rseStore va v = .ok (s.rseStoredAt va v pa ma) := by
  unfold State.rseStore
  rw [h]
  rfl

theorem State.rseLoad_ok (h : s.access (s.rseAcc va false ir) = .ok (pa, ma)) :
    s.rseLoad va ir = .ok (BitVec.ofNat 64 (Memory.load s.mem pa 8 (rscBe s.old.rsc)), s.rseLoadedAt va ir ma) := by
  unfold State.rseLoad
  rw [h]
  rfl

/-- The parts that a store of the RSE may change. -/
def State.RseStoreOnly (s t : State) : Prop :=
  t = { s with mem := t.mem, wcb := t.wcb, stale := t.stale, alat := t.alat, dtcache := t.dtcache, l1dtlb := t.l1dtlb,
               events := t.events }

theorem State.rseStoreOnly_rseStoredAt (s : State) (va v : Word) (pa : Nat) (ma : MemAttr) :
    s.RseStoreOnly (s.rseStoredAt va v pa ma) := by
  have written : State.MemoryOnly _ _ := s.written_memoryOnly pa ma (storeBytes v.toNat 8 (rscBe s.old.rsc))
  unfold State.RseStoreOnly State.rseStoredAt State.storePhys
  rw [written]
  rfl

theorem State.rseStoredAt_direct (direct : ma ≠ .wc) : (s.rseStoredAt va v pa ma).wcb = s.wcb ∧
    (s.rseStoredAt va v pa ma).mem = Memory.writeBytes s.mem pa (storeBytes v.toNat 8 (rscBe s.old.rsc)) := by
  unfold State.rseStoredAt
  rw [State.storePhys_written direct, State.noteStore_wcb, State.noteStore_mem]
  exact ⟨rfl, rfl⟩

theorem State.rseStoredAt_coalesced (s : State) (va v : Word) (pa : Nat) :
    (s.rseStoredAt va v pa .wc).wcb = (s.wcStore pa (storeBytes v.toNat 8 (rscBe s.old.rsc))).wcb ∧
      (s.rseStoredAt va v pa .wc).mem = (s.wcStore pa (storeBytes v.toNat 8 (rscBe s.old.rsc))).mem := by
  unfold State.rseStoredAt
  rw [State.storePhys_coalesced, State.noteStore_wcb, State.noteStore_mem]
  exact ⟨rfl, rfl⟩

/-- What the processor sees is in memory and in the buffer. -/
theorem State.coherentByte_congr {t u : State} (hmem : t.mem = u.mem) (hwcb : t.wcb = u.wcb) (a : Nat) :
    t.coherentByte a = u.coherentByte a := by
  unfold State.coherentByte
  rw [hmem, hwcb]

/-- The 8 bytes are in memory, or in the buffer (R121, R445). -/
theorem State.rseStored_of (memory : s.MemOk) (buffer : s.WcbOk) (line : ma = .wc → pa % 128 + 8 ≤ 128) {t : State}
    (hmem : t.mem = (s.rseStoredAt va v pa ma).mem) (hwcb : t.wcb = (s.rseStoredAt va v pa ma).wcb) : rseStored s t pa ma v := by
  unfold rseStored
  split
  · next coalescing =>
    subst coalescing
    intro a
    have seen := (State.wcStore_seen (bs := storeBytes v.toNat 8 (rscBe s.old.rsc)) memory buffer
      (by rw [storeBytes_length]; exact line rfl)).2 a
    rw [storedOver, storeBytes_length] at seen
    obtain ⟨hw, hm⟩ := s.rseStoredAt_coalesced va v pa
    exact (State.coherentByte_congr (hmem.trans hm) (hwcb.trans hw) a).trans seen
  · next direct =>
    obtain ⟨hw, hm⟩ := s.rseStoredAt_direct (va := va) (v := v) (pa := pa) direct
    obtain ⟨reads, -, -, others⟩ := stored_bytes s.mem pa 8 v.toNat (rscBe s.old.rsc) memory
    refine ⟨?_, fun a outside => ?_, hwcb.trans hw⟩
    · rw [hmem, hm, reads]
      exact Nat.mod_eq_of_lt v.isLt
    · rw [hmem, hm]
      exact others a outside

end StoreLoad

/-! ### Physical stacked registers (R22) -/

section Stacked

theorem Regs.setGr_stacked (g : Regs) (i : Nat) (v : GReg) : g.setGr (48 + i % 96) v = { g with stacked := (g.setGr (48 + i % 96) v).stacked } := by
  unfold Regs.setGr
  rw [if_neg (by omega), if_neg (by omega), if_neg (by omega), if_neg (by omega)]

variable {s : State}

/-- A register put into the stack reads as put, in this group and the next. -/
theorem State.setStacked_gr (s : State) (i : Nat) (v : GReg) : (s.setStacked i v).cur.gr (48 + i % 96) = v ∧
    (s.setStacked i v).old.gr (48 + i % 96) = v ∧ ∀ k, k ≠ 48 + i % 96 → (s.setStacked i v).cur.gr k = s.cur.gr k :=
  ⟨Regs.gr_setGr_same _ _ _ (by omega) (by omega), Regs.gr_setGr_same _ _ _ (by omega) (by omega),
    fun _ other => Regs.gr_setGr_ne _ _ _ _ other⟩

end Stacked

/-! ### Fills (R443, R445) -/

section Fills

variable {s : State} {c : BitVec 38} {b d n : Nat} {hi : Word} {pa : Nat} {ma : MemAttr} {ir : Bool}

/-- The state after the register of slot `a` has been loaded. -/
def State.registerLoaded (s : State) (ir : Bool) (pa : Nat) (ma : MemAttr) : State :=
  ((s.rseLoadedAt (s.cur.bspstore - 8) ir ma).setStacked (s.bof + 95 - s.ndirty % 96)
    { val := BitVec.ofNat 64 (Memory.load s.mem pa 8 (rscBe s.old.rsc)),
      nat := s.cur.rnat.getLsbD (rseSlot (s.cur.bspstore - 8)) }).moveBspstore (s.cur.bspstore - 8)

/-- The state after AR[RNAT] has been reloaded. -/
def State.rnatLoaded (s : State) (ir : Bool) (pa : Nat) (ma : MemAttr) : State :=
  ((s.rseLoadedAt (s.cur.bspstore - 8) ir ma).withRnat (BitVec.ofNat 64 (Memory.load s.mem pa 8 (rscBe s.old.rsc)))).moveBspstore
    (s.cur.bspstore - 8)

/-- The parts that a load of the RSE may change, before its value is put in its place. -/
def State.RseLoadOnly (s t : State) : Prop := t = { s with dtcache := t.dtcache, l1dtlb := t.l1dtlb, events := t.events }

theorem State.rseLoadOnly_rseLoadedAt (s : State) (va : Word) (ir : Bool) (ma : MemAttr) : s.RseLoadOnly (s.rseLoadedAt va ir ma) := rfl

/-- A load of the RSE that has only registers put in after it. -/
theorem rseLoaded_of {u : State} (h : s.RseLoadOnly u) (w a : Word) :
    rseLoaded s ((u.withRnat w).moveBspstore a) := by
  rw [h]
  exact ⟨rfl, rfl⟩

theorem State.rnatLoaded_loads (s : State) (ir : Bool) (pa : Nat) (ma : MemAttr) : loadsRnat s (s.rnatLoaded ir pa ma) pa :=
  ⟨rseLoaded_of (s.rseLoadOnly_rseLoadedAt ..) _ _, rfl, rfl, rfl, rfl⟩

theorem rseLoaded_setStacked {u : State} (h : s.RseLoadOnly u) (i : Nat) (v : GReg) (a : Word) : rseLoaded s ((u.setStacked i v).moveBspstore a) := by
  have placed (g : Regs) (only : g = { s.cur with stacked := g.stacked }) :
      { g with bspstore := a } = { s.cur with stacked := g.stacked, rnat := g.rnat, bspstore := a } := by
    rw [only]
  rw [h]
  exact ⟨rfl, placed _ (s.cur.setGr_stacked i v)⟩

theorem State.setStacked_rnat (u : State) (i : Nat) (v : GReg) (a : Word) : ((u.setStacked i v).moveBspstore a).cur.rnat = u.cur.rnat := by
  have same := congrArg Regs.rnat (u.cur.setGr_stacked i v)
  exact same

/-- The register below the dirty ones is loaded, by a load that leaves the register stack alone. -/
theorem loadsRegister_of {u : State} (frame : s.RseLoadOnly u) (h : s.Stacked c b hi d n) (few : d < 96) (slot : rseSlot (s.cur.bspstore - 8) ≠ 63) {v : GReg}
    (hv : v = { val := BitVec.ofNat 64 (Memory.load s.mem pa 8 (rscBe s.old.rsc)),
                nat := s.cur.rnat.getLsbD (rseSlot (s.cur.bspstore - 8)) }) :
    loadsRegister s ((u.setStacked (s.bof + 95 - s.ndirty % 96) v).moveBspstore (s.cur.bspstore - 8)) pa := by
  have dirty : s.ndirty % 96 = s.ndirty := Nat.mod_eq_of_lt (h.ndirty_eq.trans_lt few)
  have stack : u.stack = s.stack := by rw [frame]; rfl
  have regs : u.cur = s.cur := by rw [frame]
  have down := h.dirty.down (by omega)
  rw [if_neg slot] at down
  have counted := ((h.of_stack stack).setStacked (s.bof + 95 - s.ndirty) v).moveBspstore down
  obtain ⟨new, old, others⟩ := u.setStacked_gr (s.bof + 95 - s.ndirty) v
  rw [dirty]
  refine ⟨rseLoaded_setStacked frame _ v _, rfl, (u.setStacked_rnat _ v _).trans (congrArg Regs.rnat regs), ?_, ?_, ?_, ?_⟩
  · rw [counted.ndirty_eq, h.ndirty_eq]
  · rw [← hv]
    exact new
  · exact old.trans new.symm
  · exact fun k other => (others k other).trans (congrArg (Regs.gr · k) regs)

theorem State.registerLoaded_loads (h : s.Stacked c b hi d n) (few : d < 96) (slot : rseSlot (s.cur.bspstore - 8) ≠ 63) (ir : Bool)
    (pa : Nat) (ma : MemAttr) : loadsRegister s (s.registerLoaded ir pa ma) pa :=
  loadsRegister_of (s.rseLoadOnly_rseLoadedAt ..) h few slot rfl

theorem State.fillOne_register (slot : rseSlot (s.cur.bspstore - 8) ≠ 63) (dirty : s.nclean = 0)
    (h : s.access (s.rseAcc (s.cur.bspstore - 8) false ir) = .ok (pa, ma)) : s.fillOne ir = .ok (s.registerLoaded ir pa ma) := by
  unfold State.fillOne
  dsimp only
  rw [if_neg slot]
  change (if s.nclean > 0 then _ else _) = _
  rw [if_neg (by omega), State.rseLoad_ok h]
  rfl

theorem State.fillOne_clean (slot : rseSlot (s.cur.bspstore - 8) ≠ 63) (clean : 0 < s.nclean) (ir : Bool) :
    s.fillOne ir = .ok { s with nclean := s.nclean - 1, cur := { s.cur with bspstore := s.cur.bspstore - 8 } } := by
  unfold State.fillOne
  dsimp only
  rw [if_neg slot]
  change (if s.nclean > 0 then _ else _) = _
  rw [if_pos clean]
  rfl

/-- A fill at the slot of an RNAT collection reloads AR[RNAT], and goes on below it. -/
theorem State.fillOne_rnat (slot : rseSlot (s.cur.bspstore - 8) = 63)
    (h : s.access (s.rseAcc (s.cur.bspstore - 8) false ir) = .ok (pa, ma)) : s.fillOne ir = (s.rnatLoaded ir pa ma).fillOne ir := by
  have next : rseSlot ((s.rnatLoaded ir pa ma).cur.bspstore - 8) ≠ 63 := by
    change rseSlot (s.cur.bspstore - 8 - 8) ≠ 63
    rw [rseSlot_sub_eight slot]
    decide
  unfold State.fillOne
  dsimp only
  rw [if_pos slot, if_neg next, State.rseLoad_ok h]
  rfl

theorem State.loadSlot_ok (h : s.access (s.rseAcc (s.cur.bspstore - 8) false false) = .ok (pa, ma)) :
    s.loadSlot = .ok (if rseSlot (s.cur.bspstore - 8) = 63 then s.rnatLoaded false pa ma else s.registerLoaded false pa ma) := by
  unfold State.loadSlot
  dsimp only
  rw [State.rseLoad_ok h]
  rfl

theorem fillsOneRegister_of_stackOk (ok : s.StackOk) (few : s.ndirty < 96) : FillsOneRegister s := by
  obtain ⟨-, -, d, h, -⟩ := State.stackOk_iff.mp ok
  rw [h.ndirty_eq] at few
  refine ⟨fun ir pa ma reads => ⟨fun slot dirty => ?_, fun slot => ?_⟩, fun slot clean ir => State.fillOne_clean slot clean ir,
    fun pa ma reads => ?_⟩
  · exact ⟨_, State.fillOne_register slot dirty reads, State.registerLoaded_loads h few slot ir pa ma⟩
  · exact ⟨_, State.fillOne_rnat slot reads, s.rnatLoaded_loads ir pa ma⟩
  · refine ⟨_, State.loadSlot_ok reads, ?_⟩
    split
    · exact s.rnatLoaded_loads false pa ma
    · next slot => exact State.registerLoaded_loads h few slot false pa ma

end Fills

/-! ### Spills (R445) -/

section Spills

variable {s : State} {c : BitVec 38} {b d n : Nat} {hi : Word} {pa : Nat} {ma : MemAttr}

/-- The state after AR[RNAT] has been stored at the slot of its collection. -/
def State.rnatSpilt (s : State) (pa : Nat) (ma : MemAttr) : State :=
  (s.rseStoredAt s.cur.bspstore s.cur.rnat pa ma).moveBspstore (s.cur.bspstore + 8)

/-- The oldest dirty register. -/
def State.oldestDirty (s : State) : GReg := s.stackedAt (s.bof + 96 - s.ndirty % 96)

/-- The state after the oldest dirty register has been stored: it is a clean one, and its NaT bit is in AR[RNAT]. -/
def State.registerSpilt (s : State) (pa : Nat) (ma : MemAttr) : State :=
  let u := s.rseStoredAt s.cur.bspstore s.oldestDirty.val pa ma
  State.moveBspstore { u.withRnat (putBit u.cur.rnat (rseSlot s.cur.bspstore) s.oldestDirty.nat) with nclean := u.nclean + 1 }
    (s.cur.bspstore + 8)

theorem State.spillRnat_elsewhere (slot : rseSlot s.cur.bspstore ≠ 63) : s.spillRnat = .ok s := if_neg slot

theorem State.spillRnat_ok (slot : rseSlot s.cur.bspstore = 63) (h : s.access (s.rseAcc s.cur.bspstore true false) = .ok (pa, ma)) :
    s.spillRnat = .ok (s.rnatSpilt pa ma) := by
  unfold State.spillRnat
  rw [if_pos slot, State.rseStore_ok h]
  rfl

/-- A spill at the slot of an RNAT collection stores it, and goes on above it. -/
theorem State.spillOne_rnat (slot : rseSlot s.cur.bspstore = 63)
    (h : s.access (s.rseAcc s.cur.bspstore true false) = .ok (pa, ma)) : s.spillOne = (s.rnatSpilt pa ma).spillOne := by
  have next : rseSlot (s.rnatSpilt pa ma).cur.bspstore ≠ 63 := by
    change rseSlot (s.cur.bspstore + 8) ≠ 63
    rw [rseSlot_add_eight, slot]
    decide
  unfold State.spillOne
  rw [State.spillRnat_ok slot h, State.spillRnat_elsewhere next]

theorem State.spillOne_register (slot : rseSlot s.cur.bspstore ≠ 63)
    (h : s.access (s.rseAcc s.cur.bspstore true false) = .ok (pa, ma)) : s.spillOne = (s.registerSpilt pa ma).spillRnat := by
  have stored : s.rseStore s.cur.bspstore s.oldestDirty.val = .ok _ := State.rseStore_ok h
  unfold State.oldestDirty at stored
  unfold State.spillOne
  rw [State.spillRnat_elsewhere slot]
  change (s.rseStore _ _).bind _ = _
  rw [stored]
  rfl

theorem State.rnatSpilt_storage (s : State) (pa : Nat) (ma : MemAttr) :
    (s.rnatSpilt pa ma).mem = (s.rseStoredAt s.cur.bspstore s.cur.rnat pa ma).mem ∧
      (s.rnatSpilt pa ma).wcb = (s.rseStoredAt s.cur.bspstore s.cur.rnat pa ma).wcb := ⟨rfl, rfl⟩

theorem State.registerSpilt_storage (s : State) (pa : Nat) (ma : MemAttr) :
    (s.registerSpilt pa ma).mem = (s.rseStoredAt s.cur.bspstore s.oldestDirty.val pa ma).mem ∧
      (s.registerSpilt pa ma).wcb = (s.rseStoredAt s.cur.bspstore s.oldestDirty.val pa ma).wcb := ⟨rfl, rfl⟩

/-- Between two states of a spill: a store, then BSPSTORE, AR[RNAT] and the count of clean registers. -/
theorem rseSpilt_of {u : State} (frame : s.RseStoreOnly u) (rnat : Word) (k : Nat) :
    rseSpilt s (State.moveBspstore { u.withRnat rnat with nclean := k } (s.cur.bspstore + 8)) := by
  rw [frame]
  exact ⟨rfl, rfl⟩

theorem rseSpilt_moved {u : State} (frame : s.RseStoreOnly u) : rseSpilt s (u.moveBspstore (s.cur.bspstore + 8)) := by
  rw [frame]
  exact ⟨rfl, rfl⟩

theorem State.rnatSpilt_rseSpilt (s : State) (pa : Nat) (ma : MemAttr) : rseSpilt s (s.rnatSpilt pa ma) :=
  rseSpilt_moved (u := s.rseStoredAt s.cur.bspstore s.cur.rnat pa ma) (s.rseStoreOnly_rseStoredAt ..)

theorem State.registerSpilt_rseSpilt (s : State) (pa : Nat) (ma : MemAttr) : rseSpilt s (s.registerSpilt pa ma) :=
  rseSpilt_of (u := s.rseStoredAt s.cur.bspstore s.oldestDirty.val pa ma) (s.rseStoreOnly_rseStoredAt ..)
    (putBit (s.rseStoredAt s.cur.bspstore s.oldestDirty.val pa ma).cur.rnat (rseSlot s.cur.bspstore) s.oldestDirty.nat) _

theorem State.rseStoredAt_stack (s : State) (va v : Word) (pa : Nat) (ma : MemAttr) : (s.rseStoredAt va v pa ma).stack = s.stack := by
  rw [s.rseStoreOnly_rseStoredAt va v pa ma]
  rfl

theorem State.rseStoredAt_rnat (s : State) (va v : Word) (pa : Nat) (ma : MemAttr) : (s.rseStoredAt va v pa ma).cur.rnat = s.cur.rnat := by
  rw [s.rseStoreOnly_rseStoredAt va v pa ma]

theorem State.rnatSpilt_rnat (s : State) (pa : Nat) (ma : MemAttr) : (s.rnatSpilt pa ma).cur.rnat = s.cur.rnat :=
  s.rseStoredAt_rnat s.cur.bspstore s.cur.rnat pa ma

theorem State.rnatSpilt_stacked (h : s.Stacked c b hi d n) (few : d ≤ 96) (slot : rseSlot s.cur.bspstore = 63) (pa : Nat) (ma : MemAttr) :
    (s.rnatSpilt pa ma).Stacked c b hi d n := by
  have up := h.dirty.up (by omega) fun other => absurd slot other
  rw [if_pos slot] at up
  exact (h.of_stack (s.rseStoredAt_stack _ _ _ _)).moveBspstore up

theorem State.registerSpilt_stacked (h : s.Stacked c b hi d n) (few : d ≤ 96) (dirty : 0 < d) (slot : rseSlot s.cur.bspstore ≠ 63)
    (pa : Nat) (ma : MemAttr) : (s.registerSpilt pa ma).Stacked c b hi (d - 1) (n + 1) := by
  have up := h.dirty.up (by omega) fun _ => dirty
  rw [if_neg slot] at up
  have stored := h.of_stack (s.rseStoredAt_stack s.cur.bspstore s.oldestDirty.val pa ma)
  exact State.Stacked.moveBspstore ((stored.withRnat _).withNclean (congrArg (· + 1) stored.nclean)) up

/-- The dirty registers are counted from the frame down, around the 96. -/
theorem State.oldestDirty_eq (few : s.ndirty ≤ 96) : s.oldestDirty = s.stackedAt (s.bof + 96 - s.ndirty) := by
  have place : (s.bof + 96 - s.ndirty % 96) % 96 = (s.bof + 96 - s.ndirty) % 96 := by omega
  unfold State.oldestDirty State.stackedAt
  rw [place]

theorem State.registerSpilt_rnat (s : State) (pa : Nat) (ma : MemAttr) {k : Nat} : (s.registerSpilt pa ma).cur.rnat.getLsbD k =
    if k = rseSlot s.cur.bspstore then s.oldestDirty.nat else s.cur.rnat.getLsbD k := by
  have rnat : (s.registerSpilt pa ma).cur.rnat =
      putBit (s.rseStoredAt s.cur.bspstore s.oldestDirty.val pa ma).cur.rnat (rseSlot s.cur.bspstore) s.oldestDirty.nat := rfl
  rw [rnat, s.rseStoredAt_rnat, putBit_bit _ _ _ _ (BitVec.isLt _)]

theorem spillsOneRegister_of_stackOk (ok : s.StackOk) (memory : s.MemOk) (buffer : s.WcbOk) (tlbs : s.TlbOk) : SpillsOneRegister s := by
  obtain ⟨-, -, d, h, full⟩ := State.stackOk_iff.mp ok
  have aligned : s.cur.bspstore.toNat % 8 = 0 := (between_iff.mp h.dirty).2.1
  intro pa ma stores
  have line (coalescing : ma = .wc) : pa % 128 + 8 ≤ 128 := s.rseAcc_line tlbs aligned (coalescing ▸ stores)
  refine ⟨fun slot => ?_, fun slot => ⟨State.spillRnat_elsewhere slot, fun dirty => ?_⟩⟩
  · have counted := State.rnatSpilt_stacked h (by omega) slot pa ma
    obtain ⟨hmem, hwcb⟩ := s.rnatSpilt_storage pa ma
    refine ⟨_, State.spillRnat_ok slot stores, State.spillOne_rnat slot stores, State.rseStored_of memory buffer line hmem hwcb,
      s.rnatSpilt_rseSpilt pa ma, s.rnatSpilt_rnat pa ma, ?_, counted.nclean⟩
    rw [counted.ndirty_eq, h.ndirty_eq]
  · rw [h.ndirty_eq] at dirty
    have counted := State.registerSpilt_stacked h (by omega) dirty slot pa ma
    have oldest := s.oldestDirty_eq (by rw [h.ndirty_eq]; omega)
    refine ⟨_, State.spillOne_register slot stores, ?_, s.registerSpilt_rseSpilt pa ma, ?_, counted.nclean, fun k _ => ?_⟩
    · obtain ⟨hmem, hwcb⟩ := s.registerSpilt_storage pa ma
      exact oldest ▸ State.rseStored_of memory buffer line hmem hwcb
    · rw [counted.ndirty_eq, h.ndirty_eq]
      exact Nat.sub_add_cancel dirty
    · exact oldest ▸ s.registerSpilt_rnat pa ma

end Spills

/-! ### `flushrs`, `loadrs`, `cover` (R442, R443, R554) -/

section Instructions

variable {s t : State} {c : BitVec 38} {b d n : Nat} {hi : Word}

/-- With no dirty register and no collection before it BSPSTORE is BSP. -/
theorem Between.eq_of_zero {lo : Word} (h : Between lo hi 0) (slot : rseSlot lo ≠ 63) : lo = hi := by
  obtain ⟨k, -, rfl, -, none, -⟩ := h.slots (Nat.zero_le _)
  have small : rseSlot lo < 64 := BitVec.isLt _
  obtain rfl : k = 0 := by omega
  simp

/-- `flushrs` ends with BSPSTORE at BSP. -/
theorem State.Stacked.spillAll_meets (h : s.Stacked c b hi d n) (few : d ≤ 96) :
    Gives s.spillAll fun t => t.cur.bspstore = t.cur.bsp := by
  refine .bind fun t spilled => ?_
  rw [h.ndirty_eq, Nat.min_eq_left few] at spilled
  have counted := State.Stacked.spill (d := 0) d (by rwa [Nat.zero_add]) (by omega) t spilled
  refine .ite (fun meets => .ok meets) fun _ => (counted.spillRnat (by omega)).mono fun u last => ?_
  obtain ⟨ended, slot⟩ := last
  rw [ended.bsp]
  exact ended.dirty.eq_of_zero slot

theorem flushrs_correct {qp : PredIdx} (hq : s.pred qp = true) (ok : s.StackOk) (spilled : s.spillAll = .ok t) :
    ∃ u, Yields (.flushrs qp) s u ∧ u = { t with events := u.events } ∧ u.cur.bspstore = u.cur.bsp ∧ u.ndirty = 0 ∧
      u.cur.bsp = s.cur.bsp ∧ u.nclean = s.nclean + s.ndirty := by
  obtain ⟨-, -, d, h, full⟩ := State.stackOk_iff.mp ok
  have counted := h.spillAll (by omega) t spilled
  have body : (s.spillAll.map fun t => ({ s := t.emit (s.rseNote .flush) } : Res)) = .ok { s := t.emit (s.rseNote .flush) } := by
    rw [spilled]
    rfl
  refine ⟨t.emit (s.rseNote .flush), yields_of_run rfl rfl hq rfl body, rfl, h.spillAll_meets (by omega) t spilled, counted.ndirty_eq,
    counted.bsp, ?_⟩
  rw [h.ndirty_eq]
  exact counted.nclean

/-- The conditions under which `loadrs` is legal (R443, R592). -/
abbrev loadrsLegal (s : State) : Prop := cfmSof s.cfm = 0 ∧ rscMode s.old.rsc = 0 ∧
  rseRegs (s.cur.bsp - BitVec.ofNat 64 (rscLoadrs s.old.rsc / 8 * 8)) s.cur.bsp ≤ 96

theorem loadrs_illegal {qp : PredIdx} (hq : s.pred qp = true) (bad : ¬ loadrsLegal s) : Takes s (exec (.loadrs qp) s) .generalException 0 := by
  refine takes_of_run (e := { vec := .generalException, code := 0 }) hq rfl ?_
  rw [require_error (decide_eq_false bad)]
  rfl

theorem loadrs_correct {qp : PredIdx} (hq : s.pred qp = true) (legal : loadrsLegal s)
    (loads : ({ s with nclean := 0 } : State).loadSlots
      (rscLoadrs s.old.rsc / 8 * 8 / 8 - (s.cur.bsp - s.cur.bspstore).toNat / 8) = .ok t) :
    let target := s.cur.bsp - BitVec.ofNat 64 (rscLoadrs s.old.rsc / 8 * 8)
    ∃ u, Yields (.loadrs qp) s u ∧ u.cur.bspstore = target ∧ u.nclean = 0 ∧ u.ndirty = rseRegs target s.cur.bsp ∧
      u = { t with cur := u.cur, events := u.events } ∧ u.cur = { t.cur with bspstore := target } ∧ u.cur.bsp = s.cur.bsp := by
  obtain ⟨-, -, hbsp, hclean⟩ := State.loadSlots_keeps (s := { s with nclean := 0 }) _ rfl rfl rfl rfl t loads
  refine ⟨(t.moveBspstore (s.cur.bsp - BitVec.ofNat 64 (rscLoadrs s.old.rsc / 8 * 8))).emit (s.rseNote .other),
    yields_of_run rfl rfl hq rfl ?_, rfl, hclean, ?_, rfl, rfl, hbsp⟩
  · rw [require_ok (decide_eq_true legal)]
    change ((State.loadSlots _ _).map _) = _
    rw [loads]
    rfl
  · exact congrArg (rseRegs _) hbsp

/-- The marker of CR[IFS] with its valid bit (R554). -/
theorem ifsValid_eq (c : BitVec 38) : putBit (zext c : Word) 63 true = BitVec.ofNat 64 (c.toNat + 2 ^ 63) := by
  have small := c.isLt
  refine BitVec.eq_of_getLsbD_eq fun k hk => ?_
  rw [putBit_bit _ _ _ _ (by decide), BitVec.getLsbD_ofNat, decide_eq_true hk, Bool.true_and, Nat.add_comm]
  by_cases top : k = 63
  · subst top
    rw [if_pos rfl, Nat.testBit_two_pow_add_eq, Nat.testBit_lt_two_pow (by omega)]
    rfl
  · rw [if_neg top, Nat.testBit_two_pow_add_gt (by omega), BitVec.testBit_toNat, zext, BitVec.getLsbD_setWidth, decide_eq_true hk,
      Bool.true_and]

theorem cover_correct (s : State) : ∃ u, Yields .cover s u ∧ u.cfm = 0 ∧ u.bof = (s.bof + cfmSof s.cfm) % 96 ∧
    u.cur = { s.cur with bsp := rseAdd s.cur.bsp (cfmSof s.cfm) } ∧
    (s.psrIc = true → u.cr = s.cr) ∧
    (s.psrIc = false → u.cr = { s.cr with ifs := BitVec.ofNat 64 (s.cfm.toNat + 2 ^ 63) }) ∧
    u = { s with cur := u.cur, cfm := u.cfm, bof := u.bof, cr := u.cr, events := u.events } := by
  rw [← ifsValid_eq]
  cases ic : s.psrIc with
  | true =>
    refine ⟨State.emit { s.pushFrame (cfmSof s.cfm) with cfm := 0 } (s.rseNote .other), ?_, rfl, rfl, rfl, fun _ => rfl, nofun, rfl⟩
    change coverInstr s = _
    unfold coverInstr
    rw [ic]
    rfl
  | false =>
    refine ⟨State.emit { s.pushFrame (cfmSof s.cfm) with cfm := 0, cr := { s.cr with ifs := putBit (zext s.cfm) 63 true } }
      (s.rseNote .other), ?_, rfl, rfl, rfl, nofun, fun _ => rfl, rfl⟩
    change coverInstr s = _
    unfold coverInstr
    rw [ic]
    rfl

end Instructions

end Sys2Proof.Machine

section

open Sys2Proof Machine Forms

/-- Settles O47: the instructions from their bodies, a spill and a fill from the one access that each makes. -/
theorem flushLoadCoverSpillAndFill : Obligations.FlushLoadCoverSpillAndFill := by
  unfold Obligations.FlushLoadCoverSpillAndFill
  refine ⟨⟨fun qp s t hq ok spilled => flushrs_correct hq ok spilled, fun qp s t hq => ⟨fun bad => ?_, fun empty lazy few loads => ?_⟩,
    cover_correct⟩, fun s ok few => fillsOneRegister_of_stackOk ok few,
    fun s ok memory _ buffer tlbs => spillsOneRegister_of_stackOk ok memory buffer tlbs⟩
  · refine loadrs_illegal hq fun ⟨empty, lazy, few⟩ => ?_
    rcases bad with frame | eager | many
    · exact frame empty
    · exact eager lazy
    · exact Nat.not_lt.mpr few many
  · exact loadrs_correct hq ⟨empty, lazy, few⟩ loads

end

end

section
/-! SUPPORT. What the floating-point instructions share: their checks of registers, and writes of a floating-point register beside the flags of
AR[FPSR] (R503, R514). -/

namespace Sys2Proof.Machine

open Sys2Proof.Forms

/-! ### Checks -/

theorem targetFr_ok {f : FrIdx} (h : frTargetOk f = true) : targetFr f = .ok () := if_pos h

theorem State.fpEnabled_ok {s : State} {l : List FrIdx} (h : fpReady s l) : s.fpEnabled l = .ok () := by
  have clear : l.foldl (fun a f => a ||| s.frDisabled f) 0#2 = 0 := by
    induction l with
    | nil => rfl
    | cons f l ih =>
      rw [List.foldl_cons, h f List.mem_cons_self]
      exact ih fun g hg => h g (List.mem_cons_of_mem f hg)
  unfold State.fpEnabled
  rw [clear]
  rfl

theorem anyNatVal_iff (s : State) (l : List FrIdx) : anyNatVal (l.map s.fr) = true ↔ someNatVal s l := by
  simp [anyNatVal, someNatVal]

/-! ### Flags and a register -/

/-- `t` is `s` with AR[FPSR] `w` and other events; what the group has noted of floating-point registers and of the user mask is the same. -/
structure State.FlagsOnly (s t : State) (w : Word) : Prop where
  rest : t = { s with cur := { s.cur with fpsr := w }, grpWrites := t.grpWrites, events := t.events }
  fr   : ∀ p k, t.wawFree (.fr p) k = s.wawFree (.fr p) k
  um   : ∀ b k, t.wawFree (.um b) k = s.wawFree (.um b) k

section

variable {s t : State} {w : Word}

theorem State.FlagsOnly.refl (s : State) : s.FlagsOnly s s.cur.fpsr := ⟨rfl, fun _ _ => rfl, fun _ _ => rfl⟩

theorem State.FlagsOnly.emit (h : s.FlagsOnly t w) (e : PmuEvent) : s.FlagsOnly (t.emit e) w :=
  ⟨congrArg (State.emit · e) h.rest, h.fr, h.um⟩

theorem State.FlagsOnly.setFpsrPart (h : s.FlagsOnly t w) (m n : Nat) (k : WriteKind) (b : Nat) (v : BitVec n) :
    s.FlagsOnly (t.setFpsrPart (.part 40 m) k b v) (t.setFpsrPart (.part 40 m) k b v).cur.fpsr where
  rest := congrArg (fun u : State => { u with
    cur := { u.cur with fpsr := (t.setFpsrPart (.part 40 m) k b v).cur.fpsr }, grpWrites := (.part 40 m, k) :: t.grpWrites }) h.rest
  fr p l := (State.wawFree_cons_other rfl rfl).trans (h.fr p l)
  um p l := (State.wawFree_cons_other rfl rfl).trans (h.um p l)

theorem State.FlagsOnly.frPhys_eq (h : s.FlagsOnly t w) (f : FrIdx) : t.frPhys f = s.frPhys f := by
  unfold State.frPhys
  rw [h.rest]

/-- A floating-point register written after the flags (R27, R503). -/
theorem State.FlagsOnly.wroteFr (h : s.FlagsOnly t w) {f : FrIdx} (ok : frTargetOk f = true) (v : FReg) :
    s.WroteFr (t.setFr f v .alu) f v w := by
  have old (p : Nat) : t.cur.frAt p = s.cur.frAt p := by rw [h.rest]; rfl
  have psr : t.psr = s.psr := by rw [h.rest]
  refine ⟨fun free => ?_, fun p other => ?_, ?_, ?_, ⟨fun g named free => ?_, fun k other => ?_⟩, fun a => ?_⟩
  · rw [← h.frPhys_eq f, ← h.fr] at *
    exact t.setFr_same f v .alu ok free
  · rw [← h.frPhys_eq f] at other
    exact (t.setFr_other f v .alu p other).trans (old p)
  · rw [h.rest]
    rfl
  · rw [h.rest]
    rfl
  · obtain rfl := List.mem_singleton.mp named
    rw [State.setFr_psr_bit, if_pos rfl, h.um, if_neg (ne_true_of_eq_false free)]
  · rw [State.setFr_psr_bit, if_neg (other f List.mem_cons_self), psr]
  · rw [State.setFr_mem, h.rest]

end

end Sys2Proof.Machine

end

section
/-! SUPPORT. Writes of one part of a status field, and the bits of AR[FPSR] they leave (R31, R513). -/

namespace Sys2Proof.Machine

open Sys2Proof.Forms

theorem fsetcReserved_iff (sf : BitVec 2) (c : BitVec 7) :
    fsetcReserved sf c = true ↔ c.extractLsb' 2 2 = 1 ∨ (sf = 0 ∧ c.getLsbD 6 = true) := by
  simp [fsetcReserved]

/-- The bits of a written part take the value, or are free where the group wrote the part before; the others stay (R911 (b)). -/
theorem State.setFpsrPart_bit (s : State) (r : WrittenReg) (k : WriteKind) (b : Nat) {n : Nat} (v : BitVec n) {j : Nat} (hj : j < 64) :
    if b ≤ j ∧ j < b + n then s.wawFree r k = false → (s.setFpsrPart r k b v).cur.fpsr.getLsbD j = v.getLsbD (j - b)
    else (s.setFpsrPart r k b v).cur.fpsr.getLsbD j = s.cur.fpsr.getLsbD j := by
  unfold State.setFpsrPart
  dsimp only
  split
  · next inside =>
    intro free
    rw [free, getLsbD_putField _ _ _ _ hj, if_pos inside]
    rfl
  · next outside => rw [getLsbD_putField _ _ _ _ hj, if_neg outside]

end Sys2Proof.Machine

section

open Sys2Proof Machine Forms

/-- Settles O57: each instruction is one `setFpsrPart`, `fsetc` behind the check of its controls. -/
theorem fpStatusFields : Obligations.FpStatusFields := by
  unfold Obligations.FpStatusFields
  refine ⟨fun qp sf am om s hq => ⟨fun reserved => ?_, fun precision traps => ?_⟩, fun qp sf s hq => ?_⟩
  · exact takes_of_refused rfl hq (congrArg not ((fsetcReserved_iff sf _).mpr reserved))
  · have allowed : fsetcReserved sf (fsetcControls s.old.fpsr am om) = false := by
      rw [← Bool.not_eq_true, fsetcReserved_iff]
      rintro (bad | ⟨zero, td⟩)
      · exact precision bad
      · exact absurd td (ne_true_of_eq_false (traps zero))
    exact ⟨_, yields_of_checked rfl rfl hq (congrArg not allowed), rfl,
      fun k hk => s.setFpsrPart_bit (controlsPart sf) .alu (sfBase sf) _ hk⟩
  · refine ⟨_, yields_of_run (t := .ok ()) (b := .ok { s := s.setFpsrPart (flagsPart sf) .alu (sfBase sf + 7) 0#6 }) rfl rfl hq rfl rfl,
      rfl, fun k hk => ?_⟩
    have bits := s.setFpsrPart_bit (flagsPart sf) .alu (sfBase sf + 7) 0#6 hk
    rwa [BitVec.getLsbD_zero] at bits

end

end

section
/-! SUPPORT. Floating-point moves and `setf` (R504 to R507, R405): the significands they write, bit by bit or as numbers, and the register they
write them to. -/

namespace Sys2Proof.Forms

open Sys2Proof.Machine

/-! ### Significands bit by bit -/

theorem ofSig_eq_sigBits {x : Word} {f : Nat → Bool} (h : ∀ k, k < 64 → x.getLsbD k = f k) : FReg.ofSig x = sigBits f := by
  refine congrArg FReg.ofSig (BitVec.eq_of_getLsbD_eq fun k hk => ?_)
  have listed : k < ((List.range 64).map f).length := by simpa using hk
  refine (h k hk).trans (Eq.trans ?_ BitVec.getLsbD_ofBoolListLE.symm)
  rw [List.getD_eq_getElem _ _ listed, List.getElem_map, List.getElem_range]

/-- Two halves, each bit by bit (R502). -/
theorem packHalves_eq_sigBits {hi lo : BitVec 32} {f : Nat → Bool} (low : ∀ k, k < 32 → lo.getLsbD k = f k)
    (high : ∀ k, k < 32 → hi.getLsbD k = f (k + 32)) : packHalves hi lo = sigBits f := by
  refine ofSig_eq_sigBits fun k hk => ?_
  rw [BitVec.getLsbD_append]
  split
  · next h => exact low k h
  · next h => rw [high (k - 32) (by omega), Nat.sub_add_cancel (by omega)]

section Halves

variable (a b : FReg) {k : Nat} (hk : k < 32)

include hk

theorem hiOf_bit : (hiOf a).getLsbD k = a.sig.getLsbD (k + 32) := by simp [hiOf, hk, Nat.add_comm]

theorem loOf_bit : (loOf a).getLsbD k = a.sig.getLsbD k := by simp [loOf, hk]

theorem signHalf_bit (h : BitVec 32) : (signHalf h).getLsbD k = h.getLsbD 31 := by
  unfold signHalf
  cases h.getLsbD 31
  · exact BitVec.getLsbD_zero
  · rw [if_pos rfl, BitVec.getLsbD_allOnes, decide_eq_true hk]

theorem negHalf_bit (h : BitVec 32) : (negHalf h).getLsbD k = (h.getLsbD k != decide (k = 31)) := by
  have top : ∀ {k}, k < 32 → (0x80000000#32).getLsbD k = decide (k = 31) := by decide
  exact BitVec.getLsbD_xor.trans (congrArg _ (top hk))

theorem mergeSign_bit (neg : Bool) (x y : BitVec 32) :
    (mergeSign neg x y).getLsbD k = if k = 31 then x.getLsbD 31 != neg else y.getLsbD k := by
  unfold mergeSign
  rw [BitVec.getLsbD_append]
  by_cases top : k = 31
  · subst top
    simp
  · simp [top, show k < 31 by omega]

theorem mergeSe_bit (x y : BitVec 32) : (mergeSe x y).getLsbD k = if k < 23 then y.getLsbD k else x.getLsbD k := by
  unfold mergeSe
  rw [BitVec.getLsbD_append]
  by_cases low : k < 23
  · simp [low]
  · simp [low, show k - 23 < 9 by omega, show 23 + (k - 23) = k by omega]

end Halves

theorem fselectValue_bit (x y z : Word) {k : Nat} (hk : k < 64) :
    (fselectValue x y z).getLsbD k = if z.getLsbD k then x.getLsbD k else y.getLsbD k := by
  unfold fselectValue
  rw [BitVec.getLsbD_or, BitVec.getLsbD_and, BitVec.getLsbD_and, BitVec.getLsbD_not, decide_eq_true hk]
  cases z.getLsbD k <;> simp

/-! ### Numbers -/

/-- The product plus addend of `xma`, in 128 bits (R506). -/
theorem xma_sum (a b c : Word) :
    a.signExtend 128 * b.signExtend 128 + c.setWidth 128 = BitVec.ofInt 128 (a.toInt * b.toInt + c.toNat) := by
  rw [BitVec.ofInt_add, BitVec.ofInt_mul, BitVec.ofInt_natCast, BitVec.ofNat_toNat]
  rfl

theorem xma_low (a b c : Word) : FReg.ofSig (xmaValue false false a b c) = sigOf ((a.toInt * b.toInt + c.toNat) % 2 ^ 64) := by
  refine congrArg FReg.ofSig ((congrArg (BitVec.extractLsb' 0 64) (xma_sum a b c)).trans ?_)
  rw [extractLsb'_ofInt _ (by decide), pow_zero, Int.ediv_one]
  refine BitVec.eq_of_toInt_eq ?_
  rw [BitVec.toInt_ofInt, BitVec.toInt_ofInt]
  exact (Int.emod_bmod _ _).symm

theorem xma_high (a b c : Word) : FReg.ofSig (xmaValue true false a b c) = sigOf ((a.toInt * b.toInt + c.toNat) / 2 ^ 64) :=
  congrArg FReg.ofSig ((congrArg (BitVec.extractLsb' 64 64) (xma_sum a b c)).trans (extractLsb'_ofInt _ (by decide)))

theorem xma_highUnsigned (a b c : Word) :
    FReg.ofSig (xmaValue true true a b c) = sigOf ((a.toNat * b.toNat + c.toNat) / 2 ^ 64 : Nat) := by
  have sum : a.setWidth 128 * b.setWidth 128 + c.setWidth 128 = BitVec.ofInt 128 (a.toNat * b.toNat + c.toNat : Nat) := by
    rw [BitVec.ofInt_natCast, BitVec.ofNat_add, BitVec.ofNat_mul, BitVec.ofNat_toNat, BitVec.ofNat_toNat, BitVec.ofNat_toNat]
  refine congrArg FReg.ofSig ((congrArg (BitVec.extractLsb' 64 64) sum).trans ?_)
  rw [extractLsb'_ofInt _ (by decide)]
  rfl

theorem fpack_eq (a b : FReg) :
    packHalves (regToSingle a) (regToSingle b) = sigOf (FpFormat.single.toMem a * 2 ^ 32 + FpFormat.single.toMem b : Nat) := by
  refine congrArg FReg.ofSig (BitVec.eq_of_toNat_eq ?_)
  have hi := (regToSingle a).isLt
  have lo := (regToSingle b).isLt
  rw [BitVec.ofInt_natCast, toNat_append_eq, BitVec.toNat_ofNat, Nat.mod_eq_of_lt]
  · rfl
  · change (regToSingle a).toNat * 2 ^ 32 + (regToSingle b).toNat < 2 ^ 64
    omega

/-! ### The instructions -/

/-- The instruction of a form is the move of the value that the form gives. -/
structure FpMoveForm.Runs (i : Instr) (f : FpMoveForm) : Prop where
  short : isLong i = false
  runs  : ∀ s, exec i s = fpMove s f.qp f.f1 f.srcs (f.val s)

theorem FpMoveForm.Runs.correct {i : Instr} {f : FpMoveForm} (h : f.Runs i) : f.Correct i := by
  intro s hq target ready _
  let v := if anyNatVal (f.srcs.map s.fr) then FReg.natVal else f.val s
  refine ⟨s.setFr f.f1 v .alu, v, ?_, (State.FlagsOnly.refl s).wroteFr target v, fun nat => ?_, fun nat => ?_⟩
  · refine yields_of_run (h.runs s) h.short hq (targetFr_ok target) ?_
    rw [State.fpEnabled_ok ready]
    rfl
  · exact if_pos ((anyNatVal_iff s f.srcs).mpr nat)
  · exact if_neg fun some => nat ((anyNatVal_iff s f.srcs).mp some)

section

variable {i : Instr} {qp : PredIdx} {f1 f2 f3 f4 : FrIdx} {val : State → FReg}

/-- A move of three sources by a function of their significands. -/
theorem FpMoveForm.Runs.triple (g : Word → Word → Word → FReg) (short : isLong i = false)
    (runs : ∀ s, exec i s = fpMove s qp f1 [f3, f4, f2] (g (s.fr f3).sig (s.fr f4).sig (s.fr f2).sig))
    (meaning : ∀ s, g (s.fr f3).sig (s.fr f4).sig (s.fr f2).sig = val s) :
    FpMoveForm.Runs i { qp, f1, srcs := [f3, f4, f2], val } :=
  ⟨short, fun s => (runs s).trans (congrArg (fpMove s qp f1 _) (meaning s))⟩

/-- A move of two sources by a function of their values. -/
theorem FpMoveForm.Runs.pair (g : FReg → FReg → FReg) (short : isLong i = false) (runs : ∀ s, exec i s = fpMove2 s qp f1 f2 f3 g)
    (meaning : ∀ s, g (s.fr f2) (s.fr f3) = val s) : FpMoveForm.Runs i { qp, f1, srcs := [f2, f3], val } :=
  ⟨short, fun s => (runs s).trans (congrArg (fpMove s qp f1 [f2, f3]) (meaning s))⟩

/-- A move that packs two halves, bit by bit. -/
theorem FpMoveForm.Runs.bits (hi lo : FReg → FReg → BitVec 32) {bit : State → Nat → Bool} (short : isLong i = false)
    (runs : ∀ s, exec i s = fpMove2 s qp f1 f2 f3 fun a b => packHalves (hi a b) (lo a b))
    (low : ∀ s k, k < 32 → (lo (s.fr f2) (s.fr f3)).getLsbD k = bit s k)
    (high : ∀ s k, k < 32 → (hi (s.fr f2) (s.fr f3)).getLsbD k = bit s (k + 32)) :
    FpMoveForm.Runs i { qp, f1, srcs := [f2, f3], val := fun s => sigBits (bit s) } :=
  .pair _ short runs fun s => packHalves_eq_sigBits (low s) (high s)

/-- A move that packs two halves, each of which has a rule of its own. -/
theorem FpMoveForm.Runs.halves (hi lo : FReg → FReg → BitVec 32) {l h : State → Nat → Bool} (short : isLong i = false)
    (runs : ∀ s, exec i s = fpMove2 s qp f1 f2 f3 fun a b => packHalves (hi a b) (lo a b))
    (low : ∀ s k, k < 32 → (lo (s.fr f2) (s.fr f3)).getLsbD k = l s k)
    (high : ∀ s k, k < 32 → (hi (s.fr f2) (s.fr f3)).getLsbD k = h s (k + 32)) :
    FpMoveForm.Runs i { qp, f1, srcs := [f2, f3], val := fun s => sigBits fun k => if k < 32 then l s k else h s k } :=
  .bits hi lo short runs (fun s k hk => (low s k hk).trans (if_pos hk).symm)
    fun s k hk => (high s k hk).trans (if_neg (by omega : ¬ k + 32 < 32)).symm

end

/-- Each move runs `fpMove` on the value of its form. -/
theorem fpMoveForm_runs {i : Instr} {f : FpMoveForm} (h : fpMoveForm i = some f) : f.Runs i := by
  cases i with
  | xmaLF1F3F4F2 => cases h; exact .triple (FReg.ofSig <| xmaValue false false · · ·) rfl (fun _ => rfl) fun _ => xma_low _ _ _
  | xmaHF1F3F4F2 => cases h; exact .triple (FReg.ofSig <| xmaValue true false · · ·) rfl (fun _ => rfl) fun _ => xma_high _ _ _
  | xmaHuF1F3F4F2 => cases h; exact .triple (FReg.ofSig <| xmaValue true true · · ·) rfl (fun _ => rfl) fun _ => xma_highUnsigned _ _ _
  | fselectF1F3F4F2 =>
    cases h
    exact .triple (FReg.ofSig <| fselectValue · · ·) rfl (fun _ => rfl) fun _ => ofSig_eq_sigBits fun _ hk => fselectValue_bit _ _ _ hk
  | fmergeSF1F2F3 | fmergeNsF1F2F3 | fmergeSeF1F2F3 => cases h; exact ⟨rfl, fun _ => rfl⟩
  | fcvtXfF1F2 => cases h; exact ⟨rfl, fun _ => rfl⟩
  | fandF1F2F3 => cases h; exact .pair (sigOp fun a b => a &&& b) rfl (fun _ => rfl) fun _ => ofSig_eq_sigBits (isBits_and _ _)
  | fandcmF1F2F3 => cases h; exact .pair (sigOp fun a b => a &&& ~~~ b) rfl (fun _ => rfl) fun _ => ofSig_eq_sigBits (isBits_andcm _ _)
  | forF1F2F3 => cases h; exact .pair (sigOp fun a b => a ||| b) rfl (fun _ => rfl) fun _ => ofSig_eq_sigBits (isBits_or _ _)
  | fxorF1F2F3 => cases h; exact .pair (sigOp fun a b => a ^^^ b) rfl (fun _ => rfl) fun _ => ofSig_eq_sigBits (isBits_xor _ _)
  | fpackF1F2F3 => cases h; exact .pair (fun a b => packHalves (regToSingle a) (regToSingle b)) rfl (fun _ => rfl) fun _ => fpack_eq _ _
  | fmixLF1F2F3 =>
    cases h
    exact .halves (fun a b => hiOf a) (fun a b => hiOf b) rfl (fun _ => rfl) (fun _ _ hk => hiOf_bit _ hk) fun _ _ hk => hiOf_bit _ hk
  | fmixRF1F2F3 =>
    cases h
    exact .halves (fun a b => loOf a) (fun a b => loOf b) rfl (fun _ => rfl) (fun _ _ hk => loOf_bit _ hk) fun _ _ hk => loOf_bit _ hk
  | fmixLrF1F2F3 =>
    cases h
    exact .halves (fun a b => hiOf a) (fun a b => loOf b) rfl (fun _ => rfl) (fun _ _ hk => loOf_bit _ hk) fun _ _ hk => hiOf_bit _ hk
  | fsxtLF1F2F3 =>
    cases h
    exact .halves (fun a b => signHalf (hiOf a)) (fun a b => hiOf b) rfl (fun _ => rfl) (fun _ _ hk => hiOf_bit _ hk) fun _ _ hk => (signHalf_bit hk _).trans (hiOf_bit _ (by decide))
  | fsxtRF1F2F3 =>
    cases h
    exact .halves (fun a b => signHalf (loOf a)) (fun a b => loOf b) rfl (fun _ => rfl) (fun _ _ hk => loOf_bit _ hk) fun _ _ hk => (signHalf_bit hk _).trans (loOf_bit _ (by decide))
  | fswapF1F2F3 =>
    cases h
    exact .halves (fun a b => loOf b) (fun a b => hiOf a) rfl (fun _ => rfl) (fun _ _ hk => hiOf_bit _ hk) fun _ _ hk => loOf_bit _ hk
  | fswapNlF1F2F3 =>
    cases h
    exact .halves (fun a b => negHalf (loOf b)) (fun a b => hiOf a) rfl (fun _ => rfl) (fun _ _ hk => hiOf_bit _ hk) fun _ _ hk => by rw [negHalf_bit hk, loOf_bit _ hk]; simp
  | fswapNrF1F2F3 =>
    cases h
    exact .halves (fun a b => loOf b) (fun a b => negHalf (hiOf a)) rfl (fun _ => rfl) (fun _ _ hk => by rw [negHalf_bit hk, hiOf_bit _ hk]) fun _ _ hk => loOf_bit _ hk
  | fpmergeSF1F2F3 =>
    cases h
    exact .bits (fun a b => mergeSign false (hiOf a) (hiOf b)) (fun a b => mergeSign false (loOf a) (loOf b)) rfl (fun _ => rfl)
      (fun _ k hk => by
        rw [mergeSign_bit hk, loOf_bit _ hk, loOf_bit _ (by decide)]
        by_cases top : k = 31 <;> simp [top, show k ≠ 63 by omega])
      fun _ k hk => by
        rw [mergeSign_bit hk, hiOf_bit _ hk, hiOf_bit _ (by decide)]
        by_cases top : k = 31 <;> simp [top]
  | fpmergeNsF1F2F3 =>
    cases h
    exact .bits (fun a b => mergeSign true (hiOf a) (hiOf b)) (fun a b => mergeSign true (loOf a) (loOf b)) rfl (fun _ => rfl)
      (fun _ k hk => by
        rw [mergeSign_bit hk, loOf_bit _ hk, loOf_bit _ (by decide)]
        by_cases top : k = 31 <;> simp [top, show k ≠ 63 by omega])
      fun _ k hk => by
        rw [mergeSign_bit hk, hiOf_bit _ hk, hiOf_bit _ (by decide)]
        by_cases top : k = 31 <;> simp [top]
  | fpmergeSeF1F2F3 =>
    cases h
    exact .bits (fun a b => mergeSe (hiOf a) (hiOf b)) (fun a b => mergeSe (loOf a) (loOf b)) rfl (fun _ => rfl)
      (fun _ k hk => by rw [mergeSe_bit hk, loOf_bit _ hk, loOf_bit _ hk, Nat.mod_eq_of_lt hk])
      fun _ k hk => by rw [mergeSe_bit hk, hiOf_bit _ hk, hiOf_bit _ hk, Nat.add_mod_right, Nat.mod_eq_of_lt hk]
  | _ => cases h

/-! ### Moves from general registers -/

theorem setfExp_eq (v : Word) : setfExp v = { sign := v.getLsbD 17, exp := v.setWidth 17, sig := 0x8000000000000000 } := by
  unfold setfExp
  rw [BitVec.setWidth_eq_extractLsb' (by decide)]

theorem setfSingle_eq (v : Word) : singleToReg (v.setWidth 32) = FpFormat.single.toReg (v.toNat % 2 ^ 32) := by
  refine congrArg singleToReg (BitVec.eq_of_toNat_eq ?_)
  rw [BitVec.toNat_setWidth, BitVec.toNat_ofNat, Nat.mod_mod]

theorem setfDouble_eq (v : Word) : doubleToReg v = FpFormat.double.toReg v.toNat :=
  congrArg doubleToReg ((BitVec.ofNat_toNat 64 v).trans (BitVec.setWidth_eq v)).symm

theorem setfSig_eq (v : Word) : FReg.ofSig v = sigOf (v.toNat : Nat) :=
  congrArg FReg.ofSig ((BitVec.ofInt_natCast 64 _).trans ((BitVec.ofNat_toNat 64 v).trans (BitVec.setWidth_eq v))).symm

/-- A `setf` by a function of the general register's value (R405). -/
theorem setf_correct {i : Instr} {qp : PredIdx} {f1 : FrIdx} {r2 : GrIdx} (conv : Word → FReg) {val : Word → FReg}
    (short : isLong i = false) (runs : ∀ s, exec i s = setfBody s qp f1 r2 conv) (meaning : ∀ v, conv v = val v) :
    FpMoveForm.Correct i { qp, f1, ready := fun s => s.grVisible r2 = true,
                           val := fun s => if (s.gr r2).nat then FReg.natVal else val (s.gr r2).val } := by
  intro s hq target ready visible
  let v := if (s.gr r2).nat then FReg.natVal else conv (s.gr r2).val
  refine ⟨s.setFr f1 v .alu, v, ?_, (State.FlagsOnly.refl s).wroteFr target v, fun ⟨_, member, _⟩ => absurd member List.not_mem_nil,
    fun _ => congrArg (fun w => if (s.gr r2).nat then FReg.natVal else w) (meaning _)⟩
  refine yields_of_run (runs s) short hq (targetFr_ok target) ?_
  rw [State.sourceGr_ok visible, State.fpEnabled_ok ready, State.readGr_ok visible]
  rfl

theorem setfForm_correct {i : Instr} {f : FpMoveForm} (h : setfForm i = some f) : f.Correct i := by
  cases i with
  | setfSigF1R2 => cases h; exact setf_correct _ rfl (fun _ => rfl) setfSig_eq
  | setfExpF1R2 => cases h; exact setf_correct _ rfl (fun _ => rfl) setfExp_eq
  | setfSF1R2 => cases h; exact setf_correct _ rfl (fun _ => rfl) setfSingle_eq
  | setfDF1R2 => cases h; exact setf_correct _ rfl (fun _ => rfl) setfDouble_eq
  | _ => cases h

end Sys2Proof.Forms

section

open Sys2Proof Machine Forms

/-- Settles O51: each move is `fpMove` of its form's value, each `setf` one write of the converted general register. -/
theorem fpMoves : Obligations.FpMoves := by
  unfold Obligations.FpMoves
  exact ⟨fun _ _ h => (fpMoveForm_runs h).correct, fun _ _ h => setfForm_correct h⟩

end

end

section
/-! SUPPORT. Completing a floating-point instruction: its fault before the write, its flags in AR[FPSR], and its trap (R503, R514, R561). -/

namespace Sys2Proof.Machine

open Sys2Proof.Forms

/-! ### Enabled traps -/

theorem fpsrEnabled_bit (s : State) (sf : BitVec 2) {k : Nat} (hk : k < 6) :
    (fpsrEnabled s.old.fpsr sf).getLsbD k = trapOn s sf k := by
  have td : (fpsrControls s.old.fpsr sf).getLsbD 6 = s.old.fpsr.getLsbD (6 + 13 * sf.toNat + 6) := by
    rw [fpsrControls, BitVec.getLsbD_extractLsb']
    rfl
  unfold fpsrEnabled trapOn
  rw [td]
  cases s.old.fpsr.getLsbD (6 + 13 * sf.toNat + 6)
  · rw [if_neg Bool.false_ne_true, BitVec.getLsbD_not, BitVec.getLsbD_extractLsb', decide_eq_true hk, Nat.zero_add]
    rfl
  · exact BitVec.getLsbD_zero

/-! ### The fault -/

/-- The fault bits V, D, Z and SWA of one half (R561). -/
def fourBits (v d z w : Bool) : BitVec 16 := bitAt v 16 0 ||| bitAt d 16 1 ||| bitAt z 16 2 ||| bitAt w 16 3

theorem faultBits_eq (trap : BitVec 6) (o : FpOut) (swa : Bool) :
    faultBits trap o swa = fourBits (o.v && trap.getLsbD 0) (o.d && trap.getLsbD 1) (o.z && trap.getLsbD 2) swa := rfl

/-- The fault bits of both halves, each at its place. -/
theorem fourBits_join : ∀ v d z w v' d' z' w' : Bool, let c := fourBits v d z w ||| (fourBits v' d' z' w' <<< 4)
    (c = 0 ↔ (v = false ∧ d = false ∧ z = false ∧ w = false) ∧ v' = false ∧ d' = false ∧ z' = false ∧ w' = false) ∧
    c.getLsbD 0 = v ∧ c.getLsbD 1 = d ∧ c.getLsbD 2 = z ∧ c.getLsbD 4 = v' ∧ c.getLsbD 5 = d' ∧ c.getLsbD 6 = z' ∧ c.toNat < 256 := by
  decide

/-- What ISR.code says of a Floating-Point Exception fault: V, D and Z of the low half in bits 2:0 and of the high half in bits 6:4. -/
structure FaultCode (s : State) (sf : BitVec 2) (r : FpResult) (c : BitVec 16) : Prop where
  v    : c.getLsbD 0 = (r.lo.v && trapOn s sf 0)
  d    : c.getLsbD 1 = (r.lo.d && trapOn s sf 1)
  z    : c.getLsbD 2 = (r.lo.z && trapOn s sf 2)
  hiV  : c.getLsbD 4 = (r.hi.v && trapOn s sf 0)
  hiD  : c.getLsbD 5 = (r.hi.d && trapOn s sf 1)
  hiZ  : c.getLsbD 6 = (r.hi.z && trapOn s sf 2)
  low  : c.toNat < 256

theorem quiet_iff (s : State) (sf : BitVec 2) (o : FpOut) (site : Nat) : quiet s sf o site ↔
    (o.v && trapOn s sf 0) = false ∧ (o.d && trapOn s sf 1) = false ∧ (o.z && trapOn s sf 2) = false ∧ s.swa o site = false := by
  have masked (a b : Bool) : (a = true → b = false) ↔ (a && b) = false := by cases a <;> simp
  unfold quiet State.swa
  rw [masked, masked, masked, ← masked (o.d || o.tiny), Bool.or_eq_true]

theorem State.fpFaultCode_eq (s : State) (sf : BitVec 2) (r : FpResult) : s.fpFaultCode (fpsrEnabled s.old.fpsr sf) r =
    fourBits (r.lo.v && trapOn s sf 0) (r.lo.d && trapOn s sf 1) (r.lo.z && trapOn s sf 2) (s.swa r.lo 7000) |||
      (fourBits (r.hi.v && trapOn s sf 0) (r.hi.d && trapOn s sf 1) (r.hi.z && trapOn s sf 2) (s.swa r.hi 7001) <<< 4) := by
  unfold State.fpFaultCode
  rw [faultBits_eq, faultBits_eq, fpsrEnabled_bit s sf (by decide), fpsrEnabled_bit s sf (by decide), fpsrEnabled_bit s sf (by decide)]

theorem State.fpFaultCode_eq_zero_iff (s : State) (sf : BitVec 2) (r : FpResult) :
    s.fpFaultCode (fpsrEnabled s.old.fpsr sf) r = 0 ↔ noFpFault s sf r := by
  obtain ⟨zero, -⟩ := fourBits_join (r.lo.v && trapOn s sf 0) (r.lo.d && trapOn s sf 1) (r.lo.z && trapOn s sf 2) (s.swa r.lo 7000)
    (r.hi.v && trapOn s sf 0) (r.hi.d && trapOn s sf 1) (r.hi.z && trapOn s sf 2) (s.swa r.hi 7001)
  unfold noFpFault
  rw [State.fpFaultCode_eq, zero, quiet_iff, quiet_iff]

theorem State.faultCode (s : State) (sf : BitVec 2) (r : FpResult) : FaultCode s sf r (s.fpFaultCode (fpsrEnabled s.old.fpsr sf) r) := by
  rw [State.fpFaultCode_eq]
  obtain ⟨-, v, d, z, hiV, hiD, hiZ, low⟩ := fourBits_join (r.lo.v && trapOn s sf 0) (r.lo.d && trapOn s sf 1) (r.lo.z && trapOn s sf 2)
    (s.swa r.lo 7000) (r.hi.v && trapOn s sf 0) (r.hi.d && trapOn s sf 1) (r.hi.z && trapOn s sf 2) (s.swa r.hi 7001)
  exact ⟨v, d, z, hiV, hiD, hiZ, low⟩

/-! ### The trap -/

/-- The trap bits O, U, I and FPA of one half (R561). -/
def trapCode (o u i fpa : Bool) : BitVec 16 :=
  let t := bitAt o 16 0 ||| bitAt u 16 1 ||| bitAt i 16 2
  if t = 0 then 0 else t ||| bitAt fpa 16 3

theorem trapBits_eq (trap : BitVec 6) (o : FpOut) :
    trapBits trap o = trapCode (o.o && trap.getLsbD 3) (o.u && trap.getLsbD 4) (o.i && trap.getLsbD 5) o.fpa := rfl

theorem trapCode_join : ∀ o u i a o' u' i' a' : Bool, (trapCode o u i a <<< 11) ||| (trapCode o' u' i' a' <<< 7) ≠ 0 ↔
    (o = true ∨ o' = true) ∨ (u = true ∨ u' = true) ∨ i = true ∨ i' = true := by
  decide

theorem fpTrapCode_isSome_iff (s : State) (sf : BitVec 2) (r : FpResult) :
    (fpTrapCode (fpsrEnabled s.old.fpsr sf) r).isSome = true ↔ fpTraps s sf r := by
  have some_iff (c : BitVec 16) : (if c = 0 then none else some c).isSome = true ↔ c ≠ 0 := by
    split <;> simp_all
  have enabled (a b t : Bool) : ((a && t) = true ∨ (b && t) = true) ↔ t = true ∧ (a = true ∨ b = true) := by cases t <;> simp
  unfold fpTrapCode fpTraps
  dsimp only
  rw [some_iff, trapBits_eq, trapBits_eq, trapCode_join, fpsrEnabled_bit s sf (by decide), fpsrEnabled_bit s sf (by decide),
    fpsrEnabled_bit s sf (by decide), enabled, enabled, enabled]

/-! ### The flags -/

/-- The flags V, D, Z, O, U, I as a field (R31). -/
def sixBits (v d z o u i : Bool) : BitVec 6 :=
  bitAt v 6 0 ||| bitAt d 6 1 ||| bitAt z 6 2 ||| bitAt o 6 3 ||| bitAt u 6 4 ||| bitAt i 6 5

theorem sixBits_bit : ∀ v d z o u i : Bool, let f := sixBits v d z o u i
    f.getLsbD 0 = v ∧ f.getLsbD 1 = d ∧ f.getLsbD 2 = z ∧ f.getLsbD 3 = o ∧ f.getLsbD 4 = u ∧ f.getLsbD 5 = i := by
  decide

/-- The flags an instruction raises, from both halves (R503). -/
def FpResult.flags (r : FpResult) : BitVec 6 := r.lo.flags ||| r.hi.flags

theorem FpResult.flags_bit (r : FpResult) {k : Nat} (hk : k < 6) : r.flags.getLsbD k = raised r k := by
  obtain ⟨v, d, z, o, u, i⟩ := sixBits_bit r.lo.v r.lo.d r.lo.z r.lo.o r.lo.u r.lo.i
  obtain ⟨v', d', z', o', u', i'⟩ := sixBits_bit r.hi.v r.hi.d r.hi.z r.hi.o r.hi.u r.hi.i
  refine BitVec.getLsbD_or.trans ?_
  match k, hk with
  | 0, _ => exact congrArg₂ or v v'
  | 1, _ => exact congrArg₂ or d d'
  | 2, _ => exact congrArg₂ or z z'
  | 3, _ => exact congrArg₂ or o o'
  | 4, _ => exact congrArg₂ or u u'
  | 5, _ => exact congrArg₂ or i i'

/-- The state with an instruction's flags raised and its flushed results noted. -/
def State.flagged (s : State) (sf : BitVec 2) (r : FpResult) : State := (s.raiseFlags sf r.flags).noteFlush r

theorem State.FlagsOnly.noteFlush {s t : State} {w : Word} (h : s.FlagsOnly t w) (r : FpResult) : s.FlagsOnly (t.noteFlush r) w := by
  unfold State.noteFlush
  dsimp only
  repeat' split
  · exact (h.emit _).emit _
  · exact h.emit _
  · exact h.emit _
  · exact h

theorem State.flagged_fpsr (s : State) (sf : BitVec 2) (r : FpResult) : (s.flagged sf r).cur.fpsr = (s.raiseFlags sf r.flags).cur.fpsr := by
  unfold State.flagged State.noteFlush
  dsimp only
  repeat' split
  all_goals rfl

theorem State.flagged_flagsOnly {s t : State} (h : s.FlagsOnly t s.cur.fpsr) (sf : BitVec 2) (r : FpResult) :
    s.FlagsOnly (t.flagged sf r) (t.flagged sf r).cur.fpsr := by
  rw [State.flagged_fpsr]
  refine State.FlagsOnly.noteFlush ?_ r
  unfold State.raiseFlags
  split
  · have kept : t.cur.fpsr = s.cur.fpsr := by rw [h.rest]
    rwa [kept]
  · exact h.setFpsrPart ..

/-- Raising flags adds them to their field, and changes no other bit of AR[FPSR] (R503). -/
theorem State.flagged_withFlags (s : State) (sf : BitVec 2) (r : FpResult) : withFlags s sf r (s.flagged sf r).cur.fpsr := by
  rw [State.flagged_fpsr]
  unfold State.raiseFlags
  split
  · next none =>
    have clear {k : Nat} (hk : k < 6) : raised r k = false := by
      rw [← r.flags_bit hk, none]
      exact BitVec.getLsbD_zero
    exact ⟨fun _ _ _ => rfl, fun _ => rfl, fun _ k hk => by rw [clear hk, Bool.or_false]⟩
  · next some =>
    have bits := fun {k} => s.setFpsrPart_bit (flagsPart sf) .sticky (sfBase sf + 7) (fpsrFlags s.cur.fpsr sf ||| r.flags) (j := k)
    refine ⟨fun k hk outside => ?_, fun clear => absurd (BitVec.eq_of_getLsbD_eq fun k hk => ?_) some, fun free k hk => ?_⟩
    · have bit := bits hk
      unfold outsideFlags at outside
      unfold sfBase at bit
      rwa [if_neg (by omega)] at bit
    · rw [r.flags_bit hk, clear]
      exact BitVec.getLsbD_zero.symm
    · have top := sf.isLt
      have bit := bits (k := 6 + 13 * sf.toNat + 7 + k) (by omega)
      rw [if_pos ⟨by unfold sfBase; omega, by unfold sfBase; omega⟩] at bit
      rw [bit free, show 6 + 13 * sf.toNat + 7 + k - (sfBase sf + 7) = k by unfold sfBase; omega, BitVec.getLsbD_or,
        fpsrFlags_bit _ _ hk, r.flags_bit hk]

/-! ### Completing -/

theorem State.fpComplete_ok {s : State} {sf : BitVec 2} {r : FpResult} (write : State → State) (h : noFpFault s sf r) :
    s.fpComplete sf (fpsrEnabled s.old.fpsr sf) r write =
      .ok { s := write (s.flagged sf r), fpTrap := fpTrapCode (fpsrEnabled s.old.fpsr sf) r } :=
  if_neg fun fault => fault ((s.fpFaultCode_eq_zero_iff sf r).mpr h)

theorem State.fpComplete_fault {s : State} {sf : BitVec 2} {r : FpResult} (write : State → State) (h : ¬ noFpFault s sf r) :
    s.fpComplete sf (fpsrEnabled s.old.fpsr sf) r write =
      .error (.intr { vec := .fpFault, code := s.fpFaultCode (fpsrEnabled s.old.fpsr sf) r }) :=
  if_pos fun zero => h ((s.fpFaultCode_eq_zero_iff sf r).mp zero)

end Sys2Proof.Machine

end

section
/-! SUPPORT. Floating-point arithmetic: each instruction with one target runs `fpArith` on what its form computes (R505, R507, R512). -/

namespace Sys2Proof.Forms

open Sys2Proof.Machine

/-! ### What `fpArith` does -/

/-- The instruction of a form is the arithmetic that the form computes. -/
structure FpForm.Runs (i : Instr) (f : FpForm) : Prop where
  short : isLong i = false
  runs  : ∃ ops, ∀ s, exec i s = fpArith s f.qp f.f1 f.srcs f.sf ops (f.res s)

section

variable {s : State} {qp : PredIdx} {f1 : FrIdx} {srcs : List FrIdx} {sf : BitVec 2} {ops : Nat} {r : FpResult}

/-- With its checks passed an arithmetic instruction delivers NaTVal or completes its computation. -/
theorem fpArith_ready (hq : s.pred qp = true) (target : frTargetOk f1 = true) (ready : fpReady s (f1 :: srcs)) :
    fpArith s qp f1 srcs sf ops r = finish s
      (if anyNatVal (srcs.map s.fr) then .ok { s := (s.emit (.fpOps ops)).setFr f1 FReg.natVal .alu }
       else (s.emit (.fpOps ops)).fpComplete sf (fpsrEnabled s.old.fpsr sf) r fun u => u.setFr f1 r.res .alu) := by
  unfold fpArith
  rw [run_true (targetFr_ok target) hq, State.fpEnabled_ok ready]
  rfl

theorem fpArith_natVal (hq : s.pred qp = true) (target : frTargetOk f1 = true) (ready : fpReady s (f1 :: srcs)) (nat : someNatVal s srcs) :
    fpArith s qp f1 srcs sf ops r = .next (retire s { s := (s.emit (.fpOps ops)).setFr f1 FReg.natVal .alu }) := by
  rw [fpArith_ready hq target ready, if_pos ((anyNatVal_iff s srcs).mpr nat)]
  rfl

theorem fpArith_ok (hq : s.pred qp = true) (target : frTargetOk f1 = true) (ready : fpReady s (f1 :: srcs)) (nat : ¬ someNatVal s srcs)
    (h : noFpFault s sf r) : fpArith s qp f1 srcs sf ops r = .next (retire s
      { s := ((s.emit (.fpOps ops)).flagged sf r).setFr f1 r.res .alu, fpTrap := fpTrapCode (fpsrEnabled s.old.fpsr sf) r }) := by
  have completes := State.fpComplete_ok (s := s.emit (.fpOps ops)) (fun u => u.setFr f1 r.res .alu) h
  rw [fpArith_ready hq target ready, if_neg fun some => nat ((anyNatVal_iff s srcs).mp some)]
  exact congrArg (finish s) completes

theorem fpArith_fault (hq : s.pred qp = true) (target : frTargetOk f1 = true) (ready : fpReady s (f1 :: srcs)) (nat : ¬ someNatVal s srcs)
    (h : ¬ noFpFault s sf r) : Takes s (fpArith s qp f1 srcs sf ops r) .fpFault (s.fpFaultCode (fpsrEnabled s.old.fpsr sf) r) := by
  have faults := State.fpComplete_fault (s := s.emit (.fpOps ops)) (fun u => u.setFr f1 r.res .alu) h
  rw [fpArith_ready hq target ready, if_neg fun some => nat ((anyNatVal_iff s srcs).mp some)]
  exact ⟨_, rfl, rfl, congrArg (finish s) faults⟩

end

theorem FpForm.Runs.correct {i : Instr} {f : FpForm} (h : f.Runs i) : f.Correct i := by
  intro s hq target ready
  obtain ⟨short, ops, runs⟩ := h
  have counted := (State.FlagsOnly.refl s).emit (.fpOps ops)
  refine ⟨fun nat => ⟨_, ?_, counted.wroteFr target FReg.natVal⟩, fun nat quiet => ⟨_, _, _, (runs s).trans (fpArith_ok hq target ready nat quiet),
    fpTrapCode_isSome_iff s f.sf _, State.flagged_withFlags (s.emit (.fpOps ops)) f.sf _,
    (State.flagged_flagsOnly counted f.sf _).wroteFr target _⟩⟩
  unfold Yields
  rw [runs, short]
  exact fpArith_natVal hq target ready nat

theorem FpForm.Runs.faults {i : Instr} {f : FpForm} (h : f.Runs i) : f.Faults i := by
  intro s hq target ready nat fault
  obtain ⟨-, ops, runs⟩ := h
  obtain ⟨v, d, z, hiV, hiD, hiZ, low⟩ := s.faultCode f.sf (f.res s)
  rw [runs]
  exact ⟨_, fpArith_fault hq target ready nat fault, v, d, z, hiV, hiD, hiZ, low⟩

/-! ### The instructions -/

theorem fmaForm_runs {i : Instr} {f : FpForm} (h : fmaForm i = some f) : f.Runs i := by
  cases i with
  | fmaSfF1F3F4F2 | fmaSSfF1F3F4F2 | fmaDSfF1F3F4F2 | fmsSfF1F3F4F2 | fmsSSfF1F3F4F2 | fmsDSfF1F3F4F2 | fnmaSfF1F3F4F2 |
    fnmaSSfF1F3F4F2 | fnmaDSfF1F3F4F2 | fpmaSfF1F3F4F2 | fpmsSfF1F3F4F2 | fpnmaSfF1F3F4F2 =>
    cases h; exact ⟨rfl, _, fun _ => rfl⟩
  | _ => cases h

/-- Two halves, each of one bit repeated (R507). -/
theorem packHalves_masks (hi lo : Bool) :
    packHalves (if hi then BitVec.allOnes 32 else 0#32) (if lo then BitVec.allOnes 32 else 0#32) =
      sigBits fun k => if k < 32 then lo else hi := by
  have spread (v : Bool) {k : Nat} (hk : k < 32) : (if v then BitVec.allOnes 32 else 0#32).getLsbD k = v := by
    cases v
    · exact BitVec.getLsbD_zero
    · rw [if_pos rfl, BitVec.getLsbD_allOnes, decide_eq_true hk]
  exact packHalves_eq_sigBits (fun k hk => (spread lo hk).trans (if_pos hk).symm)
    fun k hk => (spread hi hk).trans (if_neg (by omega : ¬ k + 32 < 32)).symm

theorem minMaxForm_runs {i : Instr} {f : FpForm} (h : minMaxForm i = some f) : f.Runs i := by
  cases i with
  | fminSfF1F2F3 | fmaxSfF1F2F3 | faminSfF1F2F3 | famaxSfF1F2F3 | fpminSfF1F2F3 | fpmaxSfF1F2F3 | fpaminSfF1F2F3 | fpamaxSfF1F2F3 =>
    cases h; exact ⟨rfl, _, fun _ => rfl⟩
  | fpcmpFrelSfF1F2F3 qp f1 f2 f3 rel sf =>
    cases h
    refine ⟨rfl, 2, fun s => ?_⟩
    let o := fun b => fpCompareOut rel ((s.fr f2).half b) ((s.fr f3).half b)
    exact congrArg (fun res => fpArith s qp f1 [f2, f3] sf 2 { lo := o false, hi := o true, res }) (packHalves_masks _ _)
  | _ => cases h

/-- The rounding mode of a status field (R31). -/
theorem fpEnv_rc (s : State) (sf : BitVec 2) :
    (s.fpEnv sf .none).rc = s.old.fpsr.extractLsb' (6 + 13 * sf.toNat + 4) 2 := by
  have field : (fpsrControls s.old.fpsr sf).extractLsb' 4 2 = s.old.fpsr.extractLsb' (6 + 13 * sf.toNat + 4) 2 := by
    refine BitVec.eq_of_getLsbD_eq fun k hk => ?_
    rw [fpsrControls, BitVec.getLsbD_extractLsb', BitVec.getLsbD_extractLsb', BitVec.getLsbD_extractLsb',
      decide_eq_true (show 4 + k < 7 by omega), Nat.add_assoc (6 + 13 * sf.toNat)]
    rfl
  rw [← field]
  unfold State.fpEnv
  dsimp only
  split <;> rfl

theorem packHalves_low (hi lo : Word) : packHalves (hi.setWidth 32) (lo.setWidth 32) =
    sigBits fun k => if k < 32 then lo.getLsbD k else hi.getLsbD (k - 32) := by
  have low (x : Word) {k : Nat} (hk : k < 32) : (x.setWidth 32).getLsbD k = x.getLsbD k := by
    rw [BitVec.getLsbD_setWidth, decide_eq_true hk, Bool.true_and]
  refine packHalves_eq_sigBits (fun k hk => (low lo hk).trans (if_pos hk).symm) fun k hk => ?_
  rw [low hi hk, if_neg (by omega), Nat.add_sub_cancel]

section

variable {i : Instr} {qp : PredIdx} {f1 f2 : FrIdx} {sf : BitVec 2} {unsigned trunc : Bool}

theorem cvtOf_runs {ops : Nat} (short : isLong i = false) (runs : ∀ s, exec i s = fcvtScalar s qp unsigned trunc sf f1 f2 ops) :
    (cvtOf unsigned trunc qp sf f1 f2).Runs i := by
  refine ⟨short, ops, fun s => (runs s).trans ?_⟩
  unfold fcvtScalar
  rw [fpEnv_rc]
  rfl

theorem cvtPairOf_runs (short : isLong i = false) (runs : ∀ s, exec i s = fcvtParallel s qp unsigned trunc sf f1 f2) :
    (cvtPairOf unsigned trunc qp sf f1 f2).Runs i := by
  refine ⟨short, 2, fun s => (runs s).trans ?_⟩
  unfold fcvtParallel
  rw [fpEnv_rc]
  dsimp only
  rw [packHalves_low]
  rfl

end

theorem cvtForm_runs {i : Instr} {f : FpForm} (h : cvtForm i = some f) : f.Runs i := by
  cases i with
  | fcvtFxSfF1F2 | fcvtFxTruncSfF1F2 | fcvtFxuSfF1F2 | fcvtFxuTruncSfF1F2 => cases h; exact cvtOf_runs rfl fun _ => rfl
  | fpcvtFxSfF1F2 | fpcvtFxTruncSfF1F2 | fpcvtFxuSfF1F2 | fpcvtFxuTruncSfF1F2 => cases h; exact cvtPairOf_runs rfl fun _ => rfl
  | _ => cases h

end Sys2Proof.Forms

section

open Sys2Proof Machine Forms

/-- Settles O52: each instruction runs `fpArith` on the result of its form, and `fpArith` writes, faults and traps as the conditions say. -/
theorem fpArithmetic : Obligations.FpArithmetic := by
  unfold Obligations.FpArithmetic
  intro i f h
  have runs : f.Runs i := by
    rcases h with fma | minMax | cvt
    · exact fmaForm_runs fma
    · exact minMaxForm_runs minMax
    · exact cvtForm_runs cvt
  exact ⟨runs.correct, runs.faults⟩

end

end

section
/-! SUPPORT. Floating-point compares and class tests: the predicates they write beside the flags of AR[FPSR] (R507, R241). -/

namespace Sys2Proof.Machine

open Sys2Proof.Forms

/-! ### Predicates beside flags -/

section

variable {s t : State} {w : Word}

theorem State.FlagsOnly.prHazard_eq (h : s.FlagsOnly t w) (c : PrClass) : t.prHazard c = s.prHazard c := by
  rw [h.rest]
  cases c <;> rfl

theorem State.FlagsOnly.prPhys_eq (h : s.FlagsOnly t w) (p : PredIdx) : t.prPhys p = s.prPhys p := by
  unfold State.prPhys
  rw [h.rest]

theorem State.FlagsOnly.pr_eq (h : s.FlagsOnly t w) : t.cur.pr = s.cur.pr := by rw [h.rest]

/-- The two targets of a floating-point compare, written after its flags (R507). -/
theorem State.FlagsOnly.wrotePrFp (h : s.FlagsOnly t w) (hazard : s.prHazard .alu = 0) (p1 p2 : PredIdx) (v1 v2 : Bool) :
    wrotePrFp s (t.setPr2 p1 v1 .alu p2 v2 .alu) (prAfter s p1 p2 (some v1, some v2)) w := by
  have clear : t.prHazard .alu = 0 := (h.prHazard_eq .alu).trans hazard
  refine ⟨fun k hk => (t.setPr2_bit p1 p2 v1 v2 .alu .alu clear clear k hk).trans ?_, ?_, ?_⟩
  · unfold prAfter
    rw [h.prPhys_eq, h.prPhys_eq, h.pr_eq]
  · rw [h.rest]
    rfl
  · rw [h.rest]
    rfl

end

/-- The two targets of a class test. -/
theorem State.wrotePr_alu (s : State) (hazard : s.prHazard .alu = 0) (p1 p2 : PredIdx) (v1 v2 : Bool) :
    s.WrotePr (s.setPr2 p1 v1 .alu p2 v2 .alu) (prAfter s p1 p2 (some v1, some v2)) :=
  (s.wrotePr_setPr2 ..).congr (s.setPr2_bit p1 p2 v1 v2 .alu .alu hazard hazard)

/-- What an ordinary or `unc` compare writes (R325). -/
theorem State.cmpWrite_two (t : State) {ct : CmpType} (two : ct = .norm ∨ ct = .unc) (p1 p2 : PredIdx) (nat rel : Bool) :
    t.cmpWrite .alu ct p1 p2 nat rel = t.setPr2 p1 (!nat && rel) .alu p2 (!nat && !rel) .alu := by
  rcases two with rfl | rfl <;> rfl

/-- A compare whose body fails. -/
theorem compare_error {s : State} {c : PrClass} {qp p1 p2 : PredIdx} {ct : CmpType} {body : Except Exc (State × Bool × Bool)} {e : Exc}
    (hq : s.pred qp = true) (hp : p1 ≠ p2) (hb : body = .error e) : Machine.compare s c qp ct p1 p2 body = finish s (.error e) := by
  have allowed : cmpTargetsOk ct (s.pred qp) p1 p2 = true := by cases ct <;> simp [cmpTargetsOk, hp]
  unfold Machine.compare
  rw [allowed, hq, hb]
  rfl

end Sys2Proof.Machine

namespace Sys2Proof.Forms

open Sys2Proof.Machine

/-! ### `fcmp` -/

/-- The compare of a form: of type `norm` or `unc`. -/
structure FcmpForm.Runs (i : Instr) (f : FcmpForm) : Prop where
  short : isLong i = false
  two   : f.ct = .norm ∨ f.ct = .unc
  runs  : ∀ s, exec i s = fcmpBody s f.qp f.rel f.ct f.sf f.p1 f.p2 f.f2 f.f3

section

variable {s : State} {qp p1 p2 : PredIdx} {rel : FpRel} {ct : CmpType} {sf : BitVec 2} {f2 f3 : FrIdx}

theorem fcmpBody_natVal (hq : s.pred qp = true) (hp : p1 ≠ p2) (ready : fpReady s [f2, f3]) (nat : someNatVal s [f2, f3]) :
    fcmpBody s qp rel ct sf p1 p2 f2 f3 = .next (retire s { s := (s.emit (.fpOps 1)).cmpWrite .alu ct p1 p2 true false }) := by
  unfold fcmpBody
  refine compare_true (b := (s.emit (.fpOps 1), true, false)) hq hp ?_
  rw [State.fpEnabled_ok ready]
  exact if_pos ((anyNatVal_iff s [f2, f3]).mpr nat)

theorem fcmpBody_ok (hq : s.pred qp = true) (hp : p1 ≠ p2) (ready : fpReady s [f2, f3]) (nat : ¬ someNatVal s [f2, f3])
    (h : noFpFault s sf (.scalar (fpCompareOut rel (s.fr f2) (s.fr f3)))) : fcmpBody s qp rel ct sf p1 p2 f2 f3 = .next (retire s
      { s := ((s.emit (.fpOps 1)).flagged sf (.scalar (fpCompareOut rel (s.fr f2) (s.fr f3)))).cmpWrite .alu ct p1 p2 false
          (rel.holds (fpOrder (s.fr f2) (s.fr f3))) }) := by
  unfold fcmpBody
  refine compare_true (b := (_, false, rel.holds (fpOrder (s.fr f2) (s.fr f3)))) hq hp ?_
  rw [State.fpEnabled_ok ready]
  refine (if_neg fun some => nat ((anyNatVal_iff s [f2, f3]).mp some)).trans ?_
  exact congrArg (Except.map _) (State.fpComplete_ok (s := s.emit (.fpOps 1)) id h)

theorem fcmpBody_fault (hq : s.pred qp = true) (hp : p1 ≠ p2) (ready : fpReady s [f2, f3]) (nat : ¬ someNatVal s [f2, f3])
    (h : ¬ noFpFault s sf (.scalar (fpCompareOut rel (s.fr f2) (s.fr f3)))) :
    ∃ c, Takes s (fcmpBody s qp rel ct sf p1 p2 f2 f3) .fpFault c := by
  have faults := State.fpComplete_fault (s := s.emit (.fpOps 1)) id h
  let fault : Intr :=
    { vec := .fpFault, code := s.fpFaultCode (fpsrEnabled s.old.fpsr sf) (.scalar (fpCompareOut rel (s.fr f2) (s.fr f3))) }
  refine ⟨fault.code, fault, rfl, rfl, ?_⟩
  unfold fcmpBody
  refine compare_error (e := .intr fault) hq hp ?_
  rw [State.fpEnabled_ok ready]
  exact (if_neg fun some => nat ((anyNatVal_iff s [f2, f3]).mp some)).trans (congrArg (Except.map _) faults)

end

theorem FcmpForm.Runs.correct {i : Instr} {f : FcmpForm} (h : f.Runs i) : f.Correct i := by
  intro s hq hp ready hazard
  obtain ⟨short, two, runs⟩ := h
  have clear : s.prHazard .alu = 0 := by
    rcases two with norm | unc
    · rwa [norm] at hazard
    · rwa [unc] at hazard
  have counted := (State.FlagsOnly.refl s).emit (.fpOps 1)
  refine ⟨fun nat => ?_, fun nat quiet => ?_, fun nat fault => ?_⟩
  · refine ⟨_, ?_, counted.wrotePrFp clear f.p1 f.p2 false false⟩
    unfold Yields
    rw [runs, short, fcmpBody_natVal hq hp ready nat, State.cmpWrite_two _ two]
    rfl
  · refine ⟨_, _, ?_, State.flagged_withFlags (s.emit (.fpOps 1)) f.sf _,
      (State.flagged_flagsOnly counted f.sf _).wrotePrFp clear f.p1 f.p2 _ _⟩
    unfold Yields
    rw [runs, short, fcmpBody_ok hq hp ready nat quiet, State.cmpWrite_two _ two]
    rfl
  · rw [runs]
    exact fcmpBody_fault hq hp ready nat fault

theorem FcmpForm.Runs.guarded {i : Instr} {f : FcmpForm} (h : f.Runs i) : f.Guarded i := by
  intro s
  obtain ⟨short, -, runs⟩ := h
  refine ⟨fun hq unc hp hazard => ?_, fun hp active => ?_⟩
  · obtain ⟨value, cur, rest⟩ := (State.FlagsOnly.refl s).wrotePrFp hazard f.p1 f.p2 false false
    refine ⟨(s.setPr2 f.p1 false .alu f.p2 false .alu).emit .squashed, ?_, value, cur, congrArg (State.emit · .squashed) rest⟩
    unfold Yields
    rw [runs, short, fcmpBody, compare_squashed hq fun _ => hp, unc]
    rfl
  · rw [runs, fcmpBody, compare_illegal hp active]
    exact takes_illegalOp s

theorem fcmpForm_runs {i : Instr} {f : FcmpForm} (h : fcmpForm i = some f) : f.Runs i := by
  cases i with
  | fcmpEqSfP1P2F2F3 | fcmpLtSfP1P2F2F3 | fcmpLeSfP1P2F2F3 | fcmpUnordSfP1P2F2F3 => cases h; exact ⟨rfl, .inl rfl, fun _ => rfl⟩
  | fcmpEqUncSfP1P2F2F3 | fcmpLtUncSfP1P2F2F3 | fcmpLeUncSfP1P2F2F3 | fcmpUnordUncSfP1P2F2F3 =>
    cases h; exact ⟨rfl, .inr rfl, fun _ => rfl⟩
  | _ => cases h

/-! ### `fclass` -/

section

variable {s : State} {qp p1 p2 : PredIdx} {ct : CmpType} {f2 : FrIdx} {m : BitVec 9}

theorem fclassBody_ok (hq : s.pred qp = true) (hp : p1 ≠ p2) (ready : s.frDisabled f2 = 0) :
    fclassBody s qp ct p1 p2 f2 m = .next (retire s
      { s := s.cmpWrite .alu ct p1 p2 (decide (s.fr f2 = FReg.natVal) && !m.getLsbD 8) (fclassHolds m (s.fr f2)) }) := by
  unfold fclassBody
  refine compare_true (b := (s, decide (s.fr f2 = FReg.natVal) && !m.getLsbD 8, fclassHolds m (s.fr f2))) hq hp ?_
  rw [State.fpEnabled_single ready]
  rfl

/-- A class test writes membership and its complement, or clears both for a NaTVal that the mask does not name (R507). -/
theorem fclass_wrotePr (two : ct = .norm ∨ ct = .unc) (hazard : s.prHazard .alu = 0) :
    s.WrotePr (s.cmpWrite .alu ct p1 p2 (decide (s.fr f2 = FReg.natVal) && !m.getLsbD 8) (fclassHolds m (s.fr f2)))
      (prAfter s p1 p2 (if s.fr f2 = FReg.natVal ∧ m.getLsbD 8 = false then (some false, some false)
        else (some (fclassHolds m (s.fr f2)), some !(fclassHolds m (s.fr f2))))) := by
  rw [State.cmpWrite_two s two]
  have written := s.wrotePr_alu hazard p1 p2
  split
  · next unnamed =>
    obtain ⟨nat, mask⟩ := unnamed
    rw [decide_eq_true nat, mask]
    exact written false false
  · next named =>
    have relation : (decide (s.fr f2 = FReg.natVal) && !m.getLsbD 8) = false := by simpa using named
    rw [relation]
    exact written _ _

end

/-- A class test, ordinary or `unc` (R507). -/
theorem fclass_correct {i : Instr} {qp p1 p2 : PredIdx} {ct : CmpType} {f2 : FrIdx} {m : BitVec 9} (short : isLong i = false)
    (two : ct = .norm ∨ ct = .unc) (runs : ∀ s, exec i s = fclassBody s qp ct p1 p2 f2 m) (s : State) :
    (s.pred qp = true → p1 ≠ p2 → s.frDisabled f2 = 0 → noPrHazard s .norm → ∃ u, Yields i s u ∧
      s.WrotePr u (prAfter s p1 p2 (if s.fr f2 = FReg.natVal ∧ m.getLsbD 8 = false then (some false, some false)
        else (some (fclassHolds m (s.fr f2)), some !(fclassHolds m (s.fr f2)))))) ∧
    (s.pred qp = false → ct = .unc → p1 ≠ p2 → noPrHazard s .norm → ∃ u, Yields i s u ∧
      s.WrotePr u (prAfter s p1 p2 (some false, some false))) ∧
    (p1 = p2 → s.pred qp = true ∨ ct = .unc → Takes s (exec i s) .generalException 0) := by
  unfold Yields
  rw [runs, short]
  refine ⟨fun hq hp ready hazard => ⟨_, fclassBody_ok hq hp ready, fclass_wrotePr two hazard⟩, fun hq unc hp hazard => ?_,
    fun hp active => ?_⟩
  · obtain ⟨value, cur, rest, mem⟩ := s.wrotePr_alu hazard p1 p2 false false
    refine ⟨(s.setPr2 p1 false .alu p2 false .alu).emit .squashed, ?_, value, cur, congrArg (State.emit · .squashed) rest, mem⟩
    rw [fclassBody, compare_squashed hq fun _ => hp, unc]
    rfl
  · rw [fclassBody, compare_illegal hp active.symm]
    exact takes_illegalOp s

end Sys2Proof.Forms

section

open Sys2Proof Machine Forms

/-- Settles O53: `fcmp` and `fclass` run `compare` on the relation and on the class test. -/
theorem fpCompares : Obligations.FpCompares := by
  unfold Obligations.FpCompares
  refine ⟨fun i f h => ⟨(fcmpForm_runs h).correct, (fcmpForm_runs h).guarded⟩, fun i qp p1 p2 f2 m s ct h => ?_⟩
  rcases h with ⟨rfl, rfl⟩ | ⟨rfl, rfl⟩
  · exact fclass_correct rfl (.inl rfl) (fun _ => rfl) s
  · exact fclass_correct rfl (.inr rfl) (fun _ => rfl) s

end

end

section
/-! SUPPORT. The classes of floating-point values as the encoding table has them (R502), and what operands alone decide (R503). -/

namespace Sys2Proof.Forms

open Sys2Proof.Machine

/-! ### Classes -/

/-- The encodings of a class (R502). -/
def isClass (f : FReg) : FpClass → Prop
  | .natVal => f = FReg.natVal
  | .unsupported => isUnsupported f
  | .snan => isNaN f false
  | .qnan => isNaN f true
  | .inf => ∃ neg, isInf f neg
  | .zero => isZero f
  | .unnormal => isUnnormal f
  | .normal => isNormal f

theorem ne_natVal_of_special {f : FReg} (special : f.exp = 0x1FFFF) : f ≠ FReg.natVal := by
  rintro rfl
  exact absurd special (by decide)

theorem isClass_fpClass (f : FReg) : isClass f f.fpClass := by
  unfold FReg.fpClass
  by_cases nat : f = FReg.natVal
  · rw [if_pos nat]
    exact nat
  rw [if_neg nat]
  by_cases special : f.exp = 0x1FFFF
  · rw [if_pos special]
    cases integer : f.sig.getLsbD 63
    · exact ⟨special, integer⟩
    by_cases inf : f.sig = 0x8000000000000000
    · rw [if_neg (by decide), if_pos inf]
      exact ⟨f.sign, special, inf, rfl⟩
    · rw [if_neg (by decide), if_neg inf]
      cases quiet : f.sig.getLsbD 62
      · exact ⟨special, integer, inf, quiet⟩
      · exact ⟨special, integer, inf, quiet⟩
  · rw [if_neg special]
    have finite : isFinite f := ⟨special, nat⟩
    by_cases zero : f.sig = 0
    · rw [if_pos zero]
      exact ⟨finite, zero⟩
    rw [if_neg zero]
    by_cases exp : f.exp = 0
    · rw [if_pos (by simp [exp])]
      exact ⟨finite, zero, .inl exp⟩
    cases integer : f.sig.getLsbD 63
    · rw [if_pos (by simp)]
      exact ⟨finite, zero, .inr integer⟩
    · rw [if_neg (by simpa using exp)]
      exact ⟨finite, exp, integer⟩

theorem fpClass_of_isClass {f : FReg} {c : FpClass} (h : isClass f c) : f.fpClass = c := by
  unfold FReg.fpClass
  cases c with
  | natVal => exact if_pos h
  | unsupported =>
    obtain ⟨special, integer⟩ := h
    rw [if_neg (ne_natVal_of_special special), if_pos special, integer]
    rfl
  | snan =>
    obtain ⟨special, integer, inf, quiet⟩ := h
    rw [if_neg (ne_natVal_of_special special), if_pos special, integer, if_neg (by decide), if_neg inf, quiet]
    rfl
  | qnan =>
    obtain ⟨special, integer, inf, quiet⟩ := h
    rw [if_neg (ne_natVal_of_special special), if_pos special, integer, if_neg (by decide), if_neg inf, quiet]
    rfl
  | inf =>
    obtain ⟨_, special, inf, _⟩ := h
    rw [if_neg (ne_natVal_of_special special), if_pos special, inf]
    rfl
  | zero =>
    obtain ⟨⟨special, nat⟩, zero⟩ := h
    rw [if_neg nat, if_neg special, if_pos zero]
  | unnormal =>
    obtain ⟨⟨special, nat⟩, zero, small⟩ := h
    rw [if_neg nat, if_neg special, if_neg zero, if_pos (by simpa using small)]
  | normal =>
    obtain ⟨⟨special, nat⟩, exp, integer⟩ := h
    have zero : f.sig ≠ 0 := fun zero => by
      rw [zero] at integer
      exact absurd integer (by decide)
    rw [if_neg nat, if_neg special, if_neg zero, if_neg (by simpa [integer] using exp)]

theorem fpClass_eq_iff (f : FReg) (c : FpClass) : f.fpClass = c ↔ isClass f c :=
  ⟨fun h => h ▸ isClass_fpClass f, fpClass_of_isClass⟩

section

variable (f : FReg)

theorem fpClass_unsupported_iff : f.fpClass = .unsupported ↔ isUnsupported f := fpClass_eq_iff f _
theorem fpClass_snan_iff : f.fpClass = .snan ↔ isNaN f false := fpClass_eq_iff f _
theorem fpClass_qnan_iff : f.fpClass = .qnan ↔ isNaN f true := fpClass_eq_iff f _
theorem fpClass_inf_iff : f.fpClass = .inf ↔ ∃ neg, isInf f neg := fpClass_eq_iff f _
theorem fpClass_zero_iff : f.fpClass = .zero ↔ isZero f := fpClass_eq_iff f _
theorem fpClass_unnormal_iff : f.fpClass = .unnormal ↔ isUnnormal f := fpClass_eq_iff f _
theorem fpClass_normal_iff : f.fpClass = .normal ↔ isNormal f := fpClass_eq_iff f _

theorem isNan_iff : f.isNan = true ↔ ∃ quiet, isNaN f quiet := by
  unfold FReg.isNan
  rw [Bool.or_eq_true, decide_eq_true_eq, decide_eq_true_eq, fpClass_qnan_iff, fpClass_snan_iff, Bool.exists_bool, or_comm]

/-- The number classes are the finite values but zeros. -/
theorem fpClass_number_iff : (f.fpClass = .normal ∨ f.fpClass = .unnormal) ↔ isFinite f ∧ f.sig ≠ 0 := by
  rw [fpClass_normal_iff, fpClass_unnormal_iff]
  constructor
  · rintro (⟨finite, -, integer⟩ | ⟨finite, zero, -⟩)
    · refine ⟨finite, fun zero => ?_⟩
      rw [zero] at integer
      exact absurd integer (by decide)
    · exact ⟨finite, zero⟩
  · rintro ⟨finite, zero⟩
    by_cases exp : f.exp = 0
    · exact .inr ⟨finite, zero, .inl exp⟩
    cases integer : f.sig.getLsbD 63
    · exact .inr ⟨finite, zero, .inr integer⟩
    · exact .inl ⟨finite, exp, integer⟩

end

/-- A finite value by its class. -/
theorem fpClass_of_isFinite {f : FReg} (h : isFinite f) : f.fpClass = .zero ∨ f.fpClass = .unnormal ∨ f.fpClass = .normal := by
  by_cases zero : f.sig = 0
  · exact .inl ((fpClass_zero_iff f).mpr ⟨h, zero⟩)
  · exact .inr ((fpClass_number_iff f).mpr ⟨h, zero⟩).symm

/-! ### What operands decide -/

/-- What the operands of an operation alone decide (R502, R503). -/
theorem fpOperands_decide (l : List FReg) (k : FpOut) : OperandsDecide l (fpOperands l k) := by
  have unsupported_iff : l.any (fun f => f.fpClass = .unsupported) = true ↔ ∃ f ∈ l, isUnsupported f := by
    simp [fpClass_unsupported_iff]
  refine ⟨fun bad => ?_, fun good a f b split nan first => ?_, ?_⟩
  · unfold fpOperands
    rw [if_pos (unsupported_iff.mpr bad)]
    exact ⟨rfl, rfl⟩
  · have found : l.find? FReg.isNan = some f := by
      rw [split]
      refine List.find?_eq_some_iff_append.mpr ⟨(isNan_iff f).mpr nan, a, b, rfl, fun g hg => ?_⟩
      rw [Bool.not_eq_true', ← Bool.not_eq_true, isNan_iff]
      exact first g hg
    unfold fpOperands
    rw [if_neg fun bad => ?_, found]
    · exact ⟨rfl, by simp [fpClass_snan_iff]⟩
    · obtain ⟨g, hg, bad⟩ := unsupported_iff.mp bad
      exact good g hg bad
  · unfold fpOperands
    simp [fpClass_unnormal_iff]

/-- Operands that are neither unsupported nor NaNs leave the outcome to the operation, but for D. -/
theorem fpOperands_of_ordered {l : List FReg} (k : FpOut) (supported : ∀ f ∈ l, f.fpClass ≠ .unsupported)
    (numbers : ∀ f ∈ l, f.isNan = false) :
    fpOperands l k = { k with d := l.any (fun f => f.fpClass = .unnormal) } := by
  unfold fpOperands
  rw [if_neg (by simpa using supported), List.find?_eq_none.mpr fun f hf => ne_true_of_eq_false (numbers f hf)]

end Sys2Proof.Forms

end

section
/-! SUPPORT. Reciprocal and reciprocal square root approximations: their target and predicate, and their special cases (R503, R510). -/

namespace Sys2Proof.Machine

open Sys2Proof.Forms

/-! ### A register and a predicate -/

theorem State.setPr_other (s : State) (p : PredIdx) (v : Bool) {k : Nat} (hk : k < 64) (other : k ≠ s.prPhys p) :
    (s.setPr p v .alu).cur.pr.getLsbD k = s.cur.pr.getLsbD k := by
  unfold State.setPr
  rw [State.setPrMask_bit, one_shiftLeft_bit _ _ hk, decide_eq_false other]
  exact if_neg fun ⟨_, same⟩ => Bool.false_ne_true same

theorem State.setPr_same (s : State) {p : PredIdx} (v : Bool) (named : p ≠ 0) (hazard : s.prHazard .alu = 0) :
    (s.setPr p v .alu).cur.pr.getLsbD (s.prPhys p) = v := by
  have hk := s.prPhys_lt p
  unfold State.setPr
  rw [State.setPrMask_bit, one_shiftLeft_bit _ _ hk, if_pos ⟨s.prPhys_ne_zero p named, decide_eq_true rfl⟩, hazard, spread_bit _ _ hk]
  exact if_neg (ne_true_of_eq_false BitVec.getLsbD_zero)

/-- A predicate written beside a floating-point register (R510). -/
theorem State.WroteFr.wroteApprox {s t : State} {f1 : FrIdx} {v : FReg} {w : Word} (h : s.WroteFr t f1 v w) (p2 : PredIdx) (ok : Bool) :
    wroteApprox s (t.setPr p2 ok .alu) f1 v p2 ok w := by
  obtain ⟨same, other, cur, rest, marks, -⟩ := h
  have phys : t.prPhys p2 = s.prPhys p2 := by
    unfold State.prPhys
    rw [rest]
  have file : t.cur.pr = s.cur.pr := by rw [cur]
  have hazards : t.prHazard .alu = s.prHazard .alu := by
    rw [rest]
    rfl
  refine ⟨same, other, fun k hk apart => ?_, fun clear named => ?_, ?_, ?_, marks⟩
  · rw [t.setPr_other p2 ok hk (phys ▸ apart), file]
  · rw [← phys]
    exact t.setPr_same ok named (hazards.trans clear)
  · exact congrArg (fun c : Regs => { c with pr := (t.setPr p2 ok .alu).cur.pr }) cur
  · exact congrArg (fun u : State => { u with
      cur := (t.setPr p2 ok .alu).cur, grpPrAlu := (t.setPr p2 ok .alu).grpPrAlu }) rest

end Sys2Proof.Machine

namespace Sys2Proof.Forms

open Sys2Proof.Machine

/-! ### The instructions -/

/-- The instruction of a form is the approximation that the form gives. -/
structure ApproxForm.Runs (i : Instr) (f : ApproxForm) : Prop where
  short : isLong i = false
  runs  : ∃ ops, ∀ s, exec i s = fpApproxInstr s f.qp f.f1 f.p2 f.srcs f.sf ops (f.res s) (f.ok s)

section

variable {s : State} {qp p2 : PredIdx} {f1 : FrIdx} {srcs : List FrIdx} {sf : BitVec 2} {ops : Nat} {r : FpResult} {ok : Bool}

theorem fpApproxInstr_squashed (hq : s.pred qp = false) (target : frTargetOk f1 = true) :
    fpApproxInstr s qp f1 p2 srcs sf ops r ok = .next (retire s { s := (s.setPr p2 false .alu).emit .squashed }) := by
  unfold fpApproxInstr
  rw [targetFr_ok target, hq]
  rfl

theorem fpApproxInstr_ready (hq : s.pred qp = true) (target : frTargetOk f1 = true) (ready : fpReady s (f1 :: srcs)) :
    fpApproxInstr s qp f1 p2 srcs sf ops r ok = finish s
      (if anyNatVal (srcs.map s.fr) then .ok { s := ((s.emit (.fpOps ops)).setFr f1 FReg.natVal .alu).setPr p2 false .alu }
       else (s.emit (.fpOps ops)).fpComplete sf (fpsrEnabled s.old.fpsr sf) r fun u => (u.setFr f1 r.res .alu).setPr p2 ok .alu) := by
  unfold fpApproxInstr
  rw [targetFr_ok target, hq, State.fpEnabled_ok ready]
  rfl

theorem fpApproxInstr_natVal (hq : s.pred qp = true) (target : frTargetOk f1 = true) (ready : fpReady s (f1 :: srcs))
    (nat : someNatVal s srcs) : fpApproxInstr s qp f1 p2 srcs sf ops r ok =
      .next (retire s { s := ((s.emit (.fpOps ops)).setFr f1 FReg.natVal .alu).setPr p2 false .alu }) := by
  rw [fpApproxInstr_ready hq target ready, if_pos ((anyNatVal_iff s srcs).mpr nat)]
  rfl

theorem fpApproxInstr_ok (hq : s.pred qp = true) (target : frTargetOk f1 = true) (ready : fpReady s (f1 :: srcs))
    (nat : ¬ someNatVal s srcs) (h : noFpFault s sf r) : fpApproxInstr s qp f1 p2 srcs sf ops r ok = .next (retire s
      { s := (((s.emit (.fpOps ops)).flagged sf r).setFr f1 r.res .alu).setPr p2 ok .alu,
        fpTrap := fpTrapCode (fpsrEnabled s.old.fpsr sf) r }) := by
  have completes := State.fpComplete_ok (s := s.emit (.fpOps ops)) (fun u => (u.setFr f1 r.res .alu).setPr p2 ok .alu) h
  rw [fpApproxInstr_ready hq target ready, if_neg fun some => nat ((anyNatVal_iff s srcs).mp some)]
  exact congrArg (finish s) completes

theorem fpApproxInstr_fault (hq : s.pred qp = true) (target : frTargetOk f1 = true) (ready : fpReady s (f1 :: srcs))
    (nat : ¬ someNatVal s srcs) (h : ¬ noFpFault s sf r) : ∃ c, Takes s (fpApproxInstr s qp f1 p2 srcs sf ops r ok) .fpFault c := by
  have faults := State.fpComplete_fault (s := s.emit (.fpOps ops)) (fun u => (u.setFr f1 r.res .alu).setPr p2 ok .alu) h
  rw [fpApproxInstr_ready hq target ready, if_neg fun some => nat ((anyNatVal_iff s srcs).mp some)]
  exact ⟨_, _, rfl, rfl, congrArg (finish s) faults⟩

end

theorem ApproxForm.Runs.correct {i : Instr} {f : ApproxForm} (h : f.Runs i) : f.Correct i := by
  intro s target
  obtain ⟨short, ops, runs⟩ := h
  have counted := (State.FlagsOnly.refl s).emit (.fpOps ops)
  unfold Yields
  rw [runs, short]
  refine ⟨fun hq => ⟨(s.setPr f.p2 false .alu).emit .squashed, fpApproxInstr_squashed hq target, fun k hk other => s.setPr_other f.p2 false hk other,
    fun hazard named => s.setPr_same false named hazard, rfl, rfl⟩, fun hq ready => ⟨fun nat => ?_, fun nat quiet => ?_, fun nat fault => ?_⟩⟩
  · exact ⟨_, fpApproxInstr_natVal hq target ready nat, (counted.wroteFr target _).wroteApprox f.p2 false⟩
  · exact ⟨_, _, _, fpApproxInstr_ok hq target ready nat quiet, State.flagged_withFlags (s.emit (.fpOps ops)) f.sf _,
      ((State.flagged_flagsOnly counted f.sf _).wroteFr target _).wroteApprox f.p2 _⟩
  · exact fpApproxInstr_fault hq target ready nat fault

theorem approxForm_runs {i : Instr} {f : ApproxForm} (h : approxForm i = some f) : f.Runs i := by
  cases i with
  | frcpaSfF1P2F2F3 | frsqrtaSfF1P2F3 | fprcpaSfF1P2F2F3 | fprsqrtaSfF1P2F3 => cases h; exact ⟨rfl, _, fun _ => rfl⟩
  | _ => cases h

/-! ### Special quotients -/

/-- What a quotient of operands that are no NaNs and supported gives, where no approximation is delivered (R510). -/
def quotientOf (env : FpEnv) (a b : FReg) : FpOut :=
  let neg := a.sign != b.sign
  if (a.fpClass = .inf && b.fpClass = .inf) || (a.fpClass = .zero && b.fpClass = .zero) then fpInvalid
  else if a.fpClass = .inf then { res := FReg.infinity neg }
  else if b.fpClass = .inf || a.fpClass = .zero then { res := FReg.zeroOf neg }
  else if b.fpClass = .zero then { res := FReg.infinity neg, z := true }
  else { (env.untrapped.round (a.exact.div b.exact)).divFlags with tiny := true }

theorem quotient_eq_none_iff (env : FpEnv) (a b : FReg) (far : Bool) : env.quotient a b far = none ↔
    (isFinite a ∧ a.sig ≠ 0) ∧ (isFinite b ∧ b.sig ≠ 0) ∧ far = false := by
  rw [← fpClass_number_iff, ← fpClass_number_iff]
  unfold FpEnv.quotient
  simp [and_assoc]

theorem quotient_eq_some {env : FpEnv} {a b : FReg} {far : Bool} {o : FpOut} (h : env.quotient a b far = some o) :
    o = fpOperands [a, b] (quotientOf env a b) := by
  unfold FpEnv.quotient at h
  dsimp only at h
  split at h
  · cases h
  · exact (Option.some.inj h).symm

section

variable {env : FpEnv} {a b : FReg}

theorem quotientOf_invalid (h : a.fpClass = .inf ∧ b.fpClass = .inf ∨ a.fpClass = .zero ∧ b.fpClass = .zero) :
    quotientOf env a b = fpInvalid := if_pos (by simpa using h)

theorem quotientOf_infinite (ha : a.fpClass = .inf) (hb : b.fpClass ≠ .inf) :
    quotientOf env a b = { res := FReg.infinity (a.sign != b.sign) } := by simp [quotientOf, ha, hb]

theorem quotientOf_zero (ha : a.fpClass ≠ .inf) (h : b.fpClass = .inf ∨ a.fpClass = .zero ∧ b.fpClass ≠ .zero) :
    quotientOf env a b = { res := FReg.zeroOf (a.sign != b.sign) } := by
  rcases h with hb | ⟨hz, hb⟩
  · simp [quotientOf, ha, hb]
  · simp [quotientOf, hz, hb]

theorem quotientOf_divideByZero (ha : a.fpClass ≠ .inf ∧ a.fpClass ≠ .zero) (hb : b.fpClass = .zero) :
    quotientOf env a b = { res := FReg.infinity (a.sign != b.sign), z := true } := by simp [quotientOf, ha, hb]

end

/-- A number or an infinity. -/
theorem isOrdered_iff (f : FReg) :
    isOrdered f ↔ f.fpClass = .inf ∨ f.fpClass = .zero ∨ f.fpClass = .unnormal ∨ f.fpClass = .normal := by
  unfold isOrdered
  rw [fpClass_inf_iff, or_comm]
  refine or_congr_right ⟨fpClass_of_isFinite, ?_⟩
  rw [fpClass_zero_iff, fpClass_unnormal_iff, fpClass_normal_iff]
  rintro (⟨finite, -⟩ | ⟨finite, -⟩ | ⟨finite, -⟩) <;> exact finite

theorem fpOperands_of_isOrdered {l : List FReg} (k : FpOut) (ordered : ∀ f ∈ l, isOrdered f) :
    fpOperands l k = { k with d := l.any (fun f => f.fpClass = .unnormal) } := by
  refine fpOperands_of_ordered k (fun f hf => ?_) fun f hf => ?_ <;>
    rcases (isOrdered_iff f).mp (ordered f hf) with h | h | h | h <;> simp [FReg.isNan, h]

theorem quotient_isRight (env : FpEnv) (a b : FReg) (far : Bool) : QuotientIsRight env a b far := by
  unfold QuotientIsRight
  dsimp only
  refine ⟨quotient_eq_none_iff env a b far, fun o special => ?_⟩
  obtain rfl := quotient_eq_some special
  have ordered (ha : isOrdered a) (hb : isOrdered b) :=
    fpOperands_of_isOrdered (l := [a, b]) (quotientOf env a b) (by simp [ha, hb])
  have infinite {f : FReg} (h : ∃ n, isInf f n) : f.fpClass = .inf := (fpClass_inf_iff f).mpr h
  have zero {f : FReg} (h : isZero f) : f.fpClass = .zero := (fpClass_zero_iff f).mpr h
  have finite {f : FReg} (h : isFinite f) : f.fpClass ≠ .inf := by
    rcases fpClass_of_isFinite h with h | h | h <;> simp [h]
  have nonzero {f : FReg} (h : isFinite f ∧ f.sig ≠ 0) : f.fpClass ≠ .zero := fun zero => h.2 ((fpClass_zero_iff f).mp zero).2
  refine ⟨fpOperands_decide [a, b] _, fun h => ?_, fun ha hb => ?_, fun h => ?_, fun ha hb => ?_⟩
  · have sides : isOrdered a ∧ isOrdered b := by
      rcases h with ⟨ha, hb⟩ | ⟨⟨ha, -⟩, ⟨hb, -⟩⟩
      · exact ⟨.inr ha, .inr hb⟩
      · exact ⟨.inl ha, .inl hb⟩
    rw [ordered sides.1 sides.2, quotientOf_invalid (h.imp (fun h => ⟨infinite h.1, infinite h.2⟩) fun h => ⟨zero h.1, zero h.2⟩)]
    exact ⟨rfl, rfl⟩
  · rw [ordered (.inr ha) (.inl hb), quotientOf_infinite (infinite ha) (finite hb)]
    exact ⟨rfl, rfl, rfl⟩
  · have sides : isFinite a ∧ isOrdered b ∧ (b.fpClass = .inf ∨ a.fpClass = .zero ∧ b.fpClass ≠ .zero) := by
      rcases h with ⟨ha, hb⟩ | ⟨ha, hb⟩
      · exact ⟨ha, .inr hb, .inl (infinite hb)⟩
      · exact ⟨ha.1, .inl hb.1, .inr ⟨zero ha, nonzero hb⟩⟩
    obtain ⟨ha, hb, h⟩ := sides
    rw [ordered (.inl ha) hb, quotientOf_zero (finite ha) h]
    exact ⟨rfl, rfl, rfl⟩
  · rw [ordered (.inl ha.1) (.inl hb.1), quotientOf_divideByZero ⟨finite ha.1, nonzero ha⟩ (zero hb)]
    exact ⟨rfl, rfl, rfl⟩

/-! ### Special roots -/

/-- What a root of an operand that is no NaN and supported gives, where no approximation is delivered (R510). -/
def rootOf (env : FpEnv) (b : FReg) : FpOut :=
  if b.fpClass = .zero then { res := FReg.zeroOf b.sign }
  else if b.sign then fpInvalid
  else if b.fpClass = .inf then { res := FReg.infinity false }
  else { (env.untrapped.round b.exact.sqrt).divFlags with tiny := true }

theorem root_eq_none_iff (env : FpEnv) (b : FReg) (far : Bool) : env.root b far = none ↔
    isFinite b ∧ b.sig ≠ 0 ∧ b.sign = false ∧ far = false := by
  rw [← and_assoc, ← fpClass_number_iff]
  unfold FpEnv.root
  simp [and_assoc]

theorem root_eq_some {env : FpEnv} {b : FReg} {far : Bool} {o : FpOut} (h : env.root b far = some o) :
    o = fpOperands [b] (rootOf env b) := by
  unfold FpEnv.root at h
  dsimp only at h
  split at h
  · cases h
  · exact (Option.some.inj h).symm

theorem root_isRight (env : FpEnv) (b : FReg) (far : Bool) : RootIsRight env b far := by
  refine ⟨root_eq_none_iff env b far, fun o special => ?_⟩
  obtain rfl := root_eq_some special
  have ordered (hb : isOrdered b) := fpOperands_of_isOrdered (l := [b]) (rootOf env b) (by simp [hb])
  refine ⟨fpOperands_decide [b] _, fun zero => ?_, fun h negative => ?_, fun infinite => ?_⟩
  · rw [ordered (.inl zero.1), rootOf, if_pos ((fpClass_zero_iff b).mpr zero)]
    exact ⟨rfl, rfl, rfl⟩
  · have sides : isOrdered b ∧ b.fpClass ≠ .zero := by
      rcases h with ⟨finite, nonzero⟩ | infinite
      · exact ⟨.inl finite, fun zero => nonzero ((fpClass_zero_iff b).mp zero).2⟩
      · exact ⟨.inr ⟨_, infinite⟩, by simp [(fpClass_inf_iff b).mpr ⟨_, infinite⟩]⟩
    rw [ordered sides.1, rootOf, if_neg sides.2, if_pos negative]
    exact ⟨rfl, rfl⟩
  · have class_inf := (fpClass_inf_iff b).mpr ⟨_, infinite⟩
    obtain ⟨-, -, positive⟩ := infinite
    rw [ordered (.inr ((fpClass_inf_iff b).mp class_inf)), rootOf, class_inf, positive]
    exact ⟨rfl, rfl, rfl⟩

end Sys2Proof.Forms

section

open Sys2Proof Machine Forms

/-- Settles O55: each approximation runs `fpApproxInstr` on the result of its form; the special cases by the classes of the operands. -/
theorem fpApproximations : Obligations.FpApproximations := by
  unfold Obligations.FpApproximations
  exact ⟨fun _ _ h => (approxForm_runs h).correct, fun env a b far _ _ => quotient_isRight env a b far,
    fun env b far _ => root_isRight env b far⟩

end

end

section
/-! SUPPORT. Exact values as rational numbers: scaling, order, product and sum (R502, R503). -/

namespace Sys2Proof.Machine

open Sys2Proof.Forms

/-- The number that an exact value stands for. -/
def Exact.val (x : Exact) : ℚ := (if x.neg then -1 else 1) * x.m * 2 ^ x.k

theorem numberOf_eq_val (f : FReg) : numberOf f = f.exact.val := rfl

section

variable (a b : Exact)

/-- In units of a place that is not above the last one, the significand is whole. -/
theorem Exact.scaled_eq {k : ℤ} (h : k ≤ a.k) : (a.scaled k : ℚ) = a.val / 2 ^ k := by
  have shift : ((a.m <<< (a.k - k).toNat : ℕ) : ℚ) = a.m * 2 ^ a.k / 2 ^ k := by
    rw [Nat.shiftLeft_eq, mul_div_assoc, ← zpow_sub₀ (by norm_num), ← Int.toNat_of_nonneg (sub_nonneg.mpr h), zpow_natCast]
    push_cast
    rfl
  unfold Exact.scaled Exact.val
  cases a.neg
  · rw [if_neg Bool.false_ne_true, if_neg Bool.false_ne_true, Int.cast_natCast, shift]
    ring
  · rw [if_pos rfl, if_pos rfl, Int.cast_neg, Int.cast_natCast, shift]
    ring

theorem Exact.lt_iff : a.lt b = true ↔ a.val < b.val := by
  unfold Exact.lt
  rw [decide_eq_true_eq, ← Int.cast_lt (R := ℚ), a.scaled_eq (min_le_left _ _), b.scaled_eq (min_le_right _ _)]
  exact div_lt_div_iff_of_pos_right (by positivity)

theorem Exact.eqv_iff : a.eqv b = true ↔ a.val = b.val := by
  unfold Exact.eqv
  rw [decide_eq_true_eq, ← Int.cast_inj (α := ℚ), a.scaled_eq (min_le_left _ _), b.scaled_eq (min_le_right _ _)]
  exact div_left_inj' (by positivity)

theorem Exact.mul_val : (a.mul b).val = a.val * b.val := by
  unfold Exact.mul Exact.val
  rw [zpow_add₀ (by norm_num)]
  cases a.neg <;> cases b.neg <;> push_cast <;> simp <;> ring

theorem Exact.abs_val : |a.val| = a.m * 2 ^ a.k := by
  unfold Exact.val
  rw [abs_mul, abs_mul, abs_of_nonneg (by positivity : (0 : ℚ) ≤ a.m), abs_of_nonneg (by positivity : (0 : ℚ) ≤ 2 ^ a.k)]
  cases a.neg <;> simp

theorem Exact.val_eq_abs : a.val = if a.neg then -|a.val| else |a.val| := by
  rw [Exact.abs_val]
  unfold Exact.val
  cases a.neg <;> simp

end

end Sys2Proof.Machine

end

section
/-! SUPPORT. Multiply-adds: what their operands decide, and the exact value that they round (R503, R505). -/

namespace Sys2Proof.Machine

/-! ### The exact product and the exact sum -/

/-- In units of its own last place an exact value is its signed significand. -/
theorem Exact.scaled_k (x : Exact) : x.scaled x.k = if x.neg then -(x.m : ℤ) else x.m := by
  unfold Exact.scaled
  rw [sub_self, Int.toNat_zero, Nat.shiftLeft_zero]

theorem Exact.scaled_eq_mul (x : Exact) (k : ℤ) :
    x.scaled k = if x.neg then -((x.m * 2 ^ (x.k - k).toNat : ℕ) : ℤ) else ((x.m * 2 ^ (x.k - k).toNat : ℕ) : ℤ) := by
  unfold Exact.scaled
  rw [Nat.shiftLeft_eq]

/-- A sign and a magnitude give the number back. -/
theorem signed_natAbs (n : ℤ) (z : Bool) :
    (if (if n = 0 then z else decide (n < 0)) = true then -(n.natAbs : ℤ) else n.natAbs) = n := by
  by_cases zero : n = 0
  · subst zero
    simp
  · by_cases neg : n < 0
    · simp only [zero, neg, if_false, decide_true, if_true]
      omega
    · simp only [zero, neg, if_false, decide_false, Bool.false_eq_true]
      omega

section

variable (a b : Exact) (z : Bool)

theorem Exact.add_k : (a.add b z).k = min a.k b.k := rfl

theorem Exact.add_scaled : (a.add b z).scaled (min a.k b.k) = a.scaled (min a.k b.k) + b.scaled (min a.k b.k) := by
  rw [← Exact.add_k a b z, Exact.scaled_k]
  exact signed_natAbs _ z

theorem Exact.add_neg_of_zero (h : (a.add b z).m = 0) : (a.add b z).neg = z :=
  if_pos (Int.natAbs_eq_zero.mp h)

end

end Sys2Proof.Machine

namespace Sys2Proof.Forms

open Sys2Proof.Machine

/-! ### Operands that are numbers or infinities -/

/-- Neither unsupported nor a NaN. -/
def isPlain (f : FReg) : Prop := f.fpClass ≠ .unsupported ∧ f.isNan = false

theorem isPlain_of_class {f : FReg} {c : FpClass} (h : f.fpClass = c) (supported : c ≠ .unsupported) (quiet : c ≠ .qnan)
    (signaling : c ≠ .snan) : isPlain f := by
  refine ⟨h ▸ supported, ?_⟩
  unfold FReg.isNan
  rw [h, decide_eq_false quiet, decide_eq_false signaling]
  rfl

theorem isPlain_of_number {f : FReg} (h : f.fpClass = .zero ∨ f.fpClass = .unnormal ∨ f.fpClass = .normal) : isPlain f := by
  rcases h with h | h | h <;> exact isPlain_of_class h (by decide) (by decide) (by decide)

theorem ne_inf_of_number {f : FReg} (h : f.fpClass = .zero ∨ f.fpClass = .unnormal ∨ f.fpClass = .normal) : f.fpClass ≠ .inf := by
  rcases h with h | h | h <;> simp [h]

/-! ### The cases of a multiply-add -/

section

variable (env : FpEnv) (kind : FmaKind) (f3 f4 f2 : FReg) (o : Bool)

/-- The sign of the product of a multiply-add. -/
def fmaProductNeg : Bool := (f3.sign != f4.sign) != (kind == .fnma)

/-- The sign of the addend of a multiply-add. -/
def fmaAddendNeg : Bool := f2.sign != (kind == .fms)

/-- The exact value that a multiply-add of finite operands rounds. -/
def fmaExact : Exact :=
  let prod : Exact := { neg := fmaProductNeg kind f3 f4, m := f3.exact.m * f4.exact.m, k := f3.exact.k + f4.exact.k }
  if o then prod
  else prod.add { f2.exact with neg := fmaAddendNeg kind f2 } (zeroSign env.rc (fmaProductNeg kind f3 f4) (fmaAddendNeg kind f2))

theorem fma_decides : OperandsDecide [f4, f2, f3] (env.fma kind f3 f4 f2 o) := fpOperands_decide _ _

theorem fma_unsupported (bad : isUnsupported f3 ∨ isUnsupported f4 ∨ isUnsupported f2) :
    isInvalid (env.fma kind f3 f4 f2 o) := by
  refine (fma_decides env kind f3 f4 f2 o).1 ?_
  rcases bad with bad | bad | bad <;> exact ⟨_, by simp, bad⟩

/-- The NaN of the highest priority is made quiet; a signaling one raises V. -/
theorem fma_nan (good : ¬ isUnsupported f3 ∧ ¬ isUnsupported f4 ∧ ¬ isUnsupported f2) {nans : FReg → Prop}
    (hn : ∀ f, nans f ↔ ∃ q, isNaN f q) :
    let r := env.fma kind f3 f4 f2 o
    let v := r.v = true ↔ ∃ g ∈ [f4, f2, f3], isNaN g false
    (nans f4 → r.res = f4.quiet ∧ v) ∧ (¬ nans f4 → nans f2 → r.res = f2.quiet ∧ v) ∧
      (¬ nans f4 → ¬ nans f2 → nans f3 → r.res = f3.quiet ∧ v) := by
  have supported : ∀ f ∈ [f4, f2, f3], ¬ isUnsupported f := by simp [good]
  have first := (fma_decides env kind f3 f4 f2 o).2.1 supported
  simp only [hn]
  refine ⟨fun nan => first [] f4 [f2, f3] rfl nan (by simp), fun num nan => first [f4] f2 [f3] rfl nan ?_,
    fun num num2 nan => first [f4, f2] f3 [] rfl nan ?_⟩
  · simpa only [List.forall_mem_singleton] using num
  · simpa only [List.forall_mem_cons, List.forall_mem_singleton, List.not_mem_nil] using ⟨num, num2, nofun⟩

variable {f3 f4 f2}

theorem plain_operands (h3 : isPlain f3) (h4 : isPlain f4) (h2 : isPlain f2) :
    (∀ f ∈ [f4, f2, f3], f.fpClass ≠ .unsupported) ∧ ∀ f ∈ [f4, f2, f3], f.isNan = false := by
  simp [h3.1, h4.1, h2.1, h3.2, h4.2, h2.2]

variable (h3 : f3.fpClass = .zero ∨ f3.fpClass = .unnormal ∨ f3.fpClass = .normal)
  (h4 : f4.fpClass = .zero ∨ f4.fpClass = .unnormal ∨ f4.fpClass = .normal)
  (h2 : f2.fpClass = .zero ∨ f2.fpClass = .unnormal ∨ f2.fpClass = .normal)

include h3 h4 h2 in
theorem fma_of_numbers : env.fma kind f3 f4 f2 o = { env.roundZ (fmaExact env kind f3 f4 f2 o) with
    d := decide (f3.fpClass = .unnormal ∨ f4.fpClass = .unnormal ∨ f2.fpClass = .unnormal) } := by
  obtain ⟨supported, ordered⟩ := plain_operands (isPlain_of_number h3) (isPlain_of_number h4) (isPlain_of_number h2)
  have unnormal : [f4, f2, f3].any (fun f => f.fpClass = .unnormal) =
      decide (f3.fpClass = .unnormal ∨ f4.fpClass = .unnormal ∨ f2.fpClass = .unnormal) := by
    rw [Bool.eq_iff_iff]
    simp only [List.any_cons, List.any_nil, Bool.or_false, Bool.or_eq_true, decide_eq_true_eq]
    tauto
  unfold FpEnv.fma
  rw [fpOperands_of_ordered _ supported ordered, unnormal]
  simp only [ne_inf_of_number h3, ne_inf_of_number h4, ne_inf_of_number h2, decide_false, Bool.false_and, Bool.and_false, Bool.or_false,
    Bool.false_eq_true, if_false]
  cases o <;> rfl

theorem fma_inf_zero (inf : f3.fpClass = .inf) (zero : f4.fpClass = .zero) (add : isPlain f2) :
    (env.fma kind f3 f4 f2 o).res = FReg.qnanIndefinite ∧ (env.fma kind f3 f4 f2 o).v = true := by
  obtain ⟨supported, ordered⟩ := plain_operands (isPlain_of_class inf (by decide) (by decide) (by decide))
    (isPlain_of_class zero (by decide) (by decide) (by decide)) add
  unfold FpEnv.fma
  rw [fpOperands_of_ordered _ supported ordered, inf, zero]
  exact ⟨rfl, rfl⟩

include h4 h2 in
theorem fma_inf_number (inf : f3.fpClass = .inf) (nonzero : f4.fpClass ≠ .zero) :
    (env.fma kind f3 f4 f2 o).res = FReg.infinity (fmaProductNeg kind f3 f4) ∧ (env.fma kind f3 f4 f2 o).v = false := by
  obtain ⟨supported, ordered⟩ := plain_operands (isPlain_of_class inf (by decide) (by decide) (by decide))
    (isPlain_of_number h4) (isPlain_of_number h2)
  unfold FpEnv.fma
  rw [fpOperands_of_ordered _ supported ordered, inf]
  simp [nonzero, ne_inf_of_number h4, ne_inf_of_number h2, fmaProductNeg]

/-- In units below both last places, and below its own, the exact value of a multiply-add is the signed product plus the signed addend. -/
theorem fmaExact_scaled :
    let x := fmaExact env kind f3 f4 f2 o
    let k := min (min (f3.exact.k + f4.exact.k) f2.exact.k) x.k
    let prod : Int := (f3.sig.toNat * f4.sig.toNat * 2 ^ (f3.exact.k + f4.exact.k - k).toNat : Nat)
    let add : Int := (f2.sig.toNat * 2 ^ (f2.exact.k - k).toNat : Nat)
    x.scaled k = (if fmaProductNeg kind f3 f4 then -prod else prod) +
      (if o then 0 else if fmaAddendNeg kind f2 then -add else add) := by
  cases o
  · dsimp only
    have place : (fmaExact env kind f3 f4 f2 false).k = min (f3.exact.k + f4.exact.k) f2.exact.k := rfl
    rw [place, min_self]
    refine (Exact.add_scaled _ _ _).trans ?_
    rw [Exact.scaled_eq_mul, Exact.scaled_eq_mul]
    rfl
  · dsimp only
    rw [Exact.scaled_eq_mul]
    exact (add_zero _).symm

theorem fmaExact_neg_of_zero (h : (fmaExact env kind f3 f4 f2 o).m = 0) : (fmaExact env kind f3 f4 f2 o).neg =
    if o then fmaProductNeg kind f3 f4
    else if fmaProductNeg kind f3 f4 = fmaAddendNeg kind f2 then fmaProductNeg kind f3 f4 else decide (env.rc = 1) := by
  cases o
  · exact Exact.add_neg_of_zero _ _ _ h
  · rfl

end

end Sys2Proof.Forms

end

section

open Sys2Proof Machine Forms

/-- Settles O59: each case of the multiply-add by the classes of its operands. -/
theorem fmaRoundsTheExactResult : Obligations.FmaRoundsTheExactResult := by
  intro env kind f3 f4 f2 o
  refine ⟨fun h3 h4 h2 => ⟨_, fma_of_numbers env kind o h3 h4 h2, fmaExact_scaled env kind o, fmaExact_neg_of_zero env kind o⟩,
    fun bad => ?_, fun good3 good4 good2 => ?_, fun inf zero add => fma_inf_zero env kind o inf zero (isPlain_of_number add),
    fun inf number nonzero add => fma_inf_number env kind o number add inf nonzero⟩
  · simp only [fpClass_unsupported_iff] at bad
    exact (fma_unsupported env kind f3 f4 f2 o bad).symm
  · simp only [fpClass_unsupported_iff] at good3 good4 good2
    obtain ⟨byF4, byF2, byF3⟩ := fma_nan env kind f3 f4 f2 o ⟨good3, good4, good2⟩ isNan_iff
    simp only [← Bool.not_eq_true]
    refine ⟨fun nan => (byF4 nan).1, fun num nan => (byF2 num nan).1, fun num num2 nan => (byF3 num num2 nan).1, fun some => ?_⟩
    have signaling : (env.fma kind f3 f4 f2 o).v = true ↔ ∃ g ∈ [f4, f2, f3], isNaN g false := by
      by_cases nan4 : f4.isNan = true
      · exact (byF4 nan4).2
      by_cases nan2 : f2.isNan = true
      · exact (byF2 nan4 nan2).2
      · exact (byF3 nan4 nan2 (by tauto)).2
    simp only [signaling, fpClass_snan_iff, List.mem_cons, List.not_mem_nil, or_false, exists_eq_or_imp, exists_eq_left]
    exact or_rotate.symm

end

section
/-! SUPPORT. Rounding of exact values: the integer that a mode names, and the value that a rounded significand stands for (R503). -/

namespace Sys2Proof.Machine

open Sys2Proof.Forms

/-! ### A magnitude rounded to an integer -/

/-- `n` is the magnitude `x` of a value of sign `neg` rounded to an integer as the mode says (R503). -/
structure RoundsMag (rc : BitVec 2) (neg : Bool) (x : ℚ) (n : ℕ) : Prop where
  near    : |(n : ℚ) - x| < 1
  nearest : rc = 0 → 2 * |(n : ℚ) - x| ≤ 1 ∧ (2 * |(n : ℚ) - x| = 1 → n % 2 = 0)
  below   : rc = 1 ∧ neg = false ∨ rc = 2 ∧ neg = true ∨ rc = 3 → (n : ℚ) ≤ x
  above   : rc = 1 ∧ neg = true ∨ rc = 2 ∧ neg = false → x ≤ n

theorem roundingMode_cases (rc : BitVec 2) : rc = 0 ∨ rc = 1 ∨ rc = 2 ∨ rc = 3 := by
  revert rc
  decide

section

variable (rc : BitVec 2) (neg : Bool)

/-- A whole magnitude rounds to itself. -/
theorem RoundsMag.whole (n : ℕ) : RoundsMag rc neg n n := by
  constructor <;> simp

/-- Rounding a magnitude between two neighbours. -/
theorem RoundsMag.between {q r d : ℕ} (hr : r < d) (pos : r ≠ 0) (up : Bool)
    (nearest : rc = 0 → (up = true ↔ d < 2 * r ∨ 2 * r = d ∧ q % 2 = 1)) (down : rc = 1 → up = neg) (top : rc = 2 → up = !neg)
    (zero : rc = 3 → up = false) : RoundsMag rc neg (q + r / d) (if up then q + 1 else q) := by
  have hd : (0 : ℚ) < d := by exact_mod_cast Nat.zero_lt_of_lt hr
  have lower : (0 : ℚ) < r / d := by positivity
  have upper : (r / d : ℚ) < 1 := (div_lt_one hd).mpr (by exact_mod_cast hr)
  have half_lt : (d < 2 * r) ↔ (1 : ℚ) < 2 * (r / d) := by
    rw [← mul_div_assoc, one_lt_div hd]
    exact_mod_cast Iff.rfl
  have half_eq : (2 * r = d) ↔ 2 * (r / d : ℚ) = 1 := by
    rw [← mul_div_assoc, div_eq_one_iff_eq hd.ne']
    exact_mod_cast Iff.rfl
  rw [half_lt, half_eq] at nearest
  generalize (r / d : ℚ) = t at *
  cases up
  · have dist : ((q : ℕ) : ℚ) - (q + t) = -t := by ring
    simp only [Bool.false_eq_true, if_false, false_iff, not_or, not_lt, not_and] at nearest ⊢
    refine ⟨?_, fun h => ?_, fun _ => ?_, fun h => ?_⟩
    · rwa [dist, abs_neg, abs_of_pos lower]
    · rw [dist, abs_neg, abs_of_pos lower]
      exact ⟨(nearest h).1, fun tie => by have := (nearest h).2 tie; omega⟩
    · linarith
    · rcases h with ⟨h, hn⟩ | ⟨h, hn⟩
      · exact absurd ((down h).trans hn) (by decide)
      · exact absurd ((top h).trans (congrArg _ hn)) (by decide)
  · have dist : ((q + 1 : ℕ) : ℚ) - (q + t) = 1 - t := by push_cast; ring
    have size : |1 - t| = 1 - t := abs_of_pos (by linarith)
    simp only [if_true, true_iff] at nearest ⊢
    refine ⟨?_, fun h => ?_, fun h => ?_, fun _ => ?_⟩
    · rw [dist, size]
      linarith
    · rw [dist, size]
      rcases nearest h with more | ⟨tie, odd⟩
      · exact ⟨by linarith, fun half => by linarith⟩
      · exact ⟨by linarith, fun _ => by omega⟩
    · rcases h with ⟨h, hn⟩ | ⟨h, hn⟩ | h
      · exact absurd ((down h).trans hn) (by decide)
      · exact absurd ((top h).trans (congrArg _ hn)) (by decide)
      · exact absurd (zero h) (by decide)
    · push_cast
      linarith

theorem roundShift_spec (m d : ℕ) : RoundsMag rc neg (m / 2 ^ d : ℚ) (roundShift rc neg m d).1 ∧
    ((roundShift rc neg m d).2.1 = true ↔ ((roundShift rc neg m d).1 : ℚ) ≠ m / 2 ^ d) := by
  have split : (m / 2 ^ d : ℚ) = (m >>> d : ℕ) + ((m % 2 ^ d : ℕ) : ℚ) / (2 ^ d : ℕ) := by
    have whole : (m : ℚ) = 2 ^ d * (m / 2 ^ d : ℕ) + (m % 2 ^ d : ℕ) := by exact_mod_cast (Nat.div_add_mod m (2 ^ d)).symm
    rw [Nat.shiftRight_eq_div_pow]
    push_cast
    field_simp
    linarith
  have hr : m % 2 ^ d < 2 ^ d := Nat.mod_lt _ (by positivity)
  rw [split]
  unfold roundShift
  dsimp only
  generalize m % 2 ^ d = r at *
  generalize m >>> d = q
  by_cases exact : r = 0
  · subst exact
    have up : roundUp rc neg (decide (q % 2 = 1)) 0 d = false := by
      unfold roundUp
      rcases roundingMode_cases rc with rfl | rfl | rfl | rfl <;> simp [(Nat.two_pow_pos d).ne]
    rw [up, Nat.cast_zero, zero_div, add_zero]
    exact ⟨RoundsMag.whole rc neg q, by simp⟩
  · have rounds : RoundsMag rc neg (q + r / (2 ^ d : ℕ)) (if roundUp rc neg (decide (q % 2 = 1)) r d = true then q + 1 else q) := by
      refine RoundsMag.between rc neg hr exact _ ?_ ?_ ?_ ?_
      all_goals
        rintro rfl
        simp [roundUp, exact]
    refine ⟨rounds, iff_of_true (decide_eq_true exact) fun same => ?_⟩
    have lower : (0 : ℚ) < r / (2 ^ d : ℕ) := by positivity
    have upper : (r / (2 ^ d : ℕ) : ℚ) < 1 := (div_lt_one (by positivity)).mpr (by exact_mod_cast hr)
    split_ifs at same <;> push_cast at same lower upper <;> linarith

/-- A magnitude in units of `2^g`, rounded to a whole number of them. -/
theorem roundUnits_spec (m : ℕ) (k g : ℤ) : RoundsMag rc neg (m * 2 ^ k / 2 ^ g : ℚ) (roundUnits rc neg m k g).1 ∧
    ((roundUnits rc neg m k g).2.1 = true ↔ ((roundUnits rc neg m k g).1 : ℚ) ≠ m * 2 ^ k / 2 ^ g) := by
  unfold roundUnits
  by_cases fine : g ≤ k
  · have whole : (m * 2 ^ k / 2 ^ g : ℚ) = (m <<< (k - g).toNat : ℕ) := by
      rw [Nat.shiftLeft_eq, mul_div_assoc, ← zpow_sub₀ (by norm_num), ← Int.toNat_of_nonneg (sub_nonneg.mpr fine), zpow_natCast]
      push_cast
      rfl
    rw [if_pos fine, whole]
    exact ⟨RoundsMag.whole rc neg _, by simp⟩
  · have coarse : (m * 2 ^ k / 2 ^ g : ℚ) = m / 2 ^ (g - k).toNat := by
      rw [← zpow_natCast, Int.toNat_of_nonneg (by omega), zpow_sub₀ (by norm_num)]
      field_simp
    rw [if_neg fine, coarse]
    exact roundShift_spec rc neg m _

end

end Sys2Proof.Machine

end

section
/-! SUPPORT. Rounding to a precision: the place of the last kept bit, the register value of the kept bits, and the error of a result that
neither overflows nor is tiny (R503). -/

namespace Sys2Proof.Machine

open Sys2Proof.Forms

/-! ### Register values from kept bits -/

section

variable {neg : Bool} {n p : ℕ} {e : ℤ}

theorem ofParts_exp (low : -65535 ≤ e) (high : e ≤ 65536) : (FReg.ofParts neg n p e).exp.toNat = (e + 65535).toNat := by
  unfold FReg.ofParts
  dsimp only
  rw [BitVec.toNat_ofInt]
  omega

theorem ofParts_sig (fits : n < 2 ^ p) (hp : p ≤ 64) : (FReg.ofParts neg n p e).sig.toNat = n * 2 ^ (64 - p) := by
  unfold FReg.ofParts
  dsimp only
  rw [BitVec.toNat_ofNat, Nat.shiftLeft_eq, Nat.mod_eq_of_lt]
  calc n * 2 ^ (64 - p) < 2 ^ p * 2 ^ (64 - p) := Nat.mul_lt_mul_of_pos_right fits (by positivity)
    _ = 2 ^ 64 := by rw [← pow_add]; congr 1; omega

/-- Kept bits with their leading bit set, with an exponent of the format. -/
structure KeptBits (n p : ℕ) (e : ℤ) : Prop where
  prec  : 1 ≤ p ∧ p ≤ 64
  lead  : 2 ^ (p - 1) ≤ n
  fits  : n < 2 ^ p
  range : -65534 ≤ e ∧ e ≤ 65535

variable (h : KeptBits n p e)

include h

theorem KeptBits.sig : (FReg.ofParts neg n p e).sig.toNat = n * 2 ^ (64 - p) := ofParts_sig h.fits h.prec.2

theorem KeptBits.exp : ((FReg.ofParts neg n p e).exp.toNat : ℤ) = e + 65535 := by
  rw [ofParts_exp (by have := h.range; omega) (by have := h.range; omega), Int.toNat_of_nonneg (by have := h.range; omega)]

theorem KeptBits.exp_ne : (FReg.ofParts neg n p e).exp ≠ 0 ∧ (FReg.ofParts neg n p e).exp ≠ 0x1FFFF := by
  have value := h.exp (neg := neg)
  have range := h.range
  constructor
  all_goals
    intro same
    rw [same] at value
    simp at value
    omega

theorem KeptBits.lead_bit : (FReg.ofParts neg n p e).sig.getLsbD 63 = true := by
  obtain ⟨low, high⟩ := h.prec
  rw [bit63_iff, h.sig]
  calc 2 ^ 63 = 2 ^ (p - 1) * 2 ^ (64 - p) := by rw [← pow_add]; congr 1; omega
    _ ≤ n * 2 ^ (64 - p) := Nat.mul_le_mul_right _ h.lead

theorem KeptBits.isNormal : isNormal (FReg.ofParts neg n p e) := by
  obtain ⟨low, high⟩ := h.exp_ne (neg := neg)
  refine ⟨⟨high, fun nat => ?_⟩, low, h.lead_bit⟩
  have integer := h.lead_bit (neg := neg)
  rw [nat] at integer
  exact absurd integer (by decide)

theorem KeptBits.exact_k : (FReg.ofParts neg n p e).exact.k = e - 63 := by
  unfold FReg.exact
  rw [if_neg h.exp_ne.1, h.exp]
  ring

theorem KeptBits.val : (FReg.ofParts neg n p e).exact.val = (if neg then -1 else 1) * (n * 2 ^ (e - (p - 1 : ℕ))) := by
  obtain ⟨low, high⟩ := h.prec
  have places : (2 : ℚ) ^ (e - (p - 1 : ℕ)) = 2 ^ (64 - p) * 2 ^ (e - 63) := by
    rw [← zpow_natCast, ← zpow_add₀ (by norm_num)]
    congr 1
    omega
  unfold Exact.val
  rw [h.exact_k, places, show (FReg.ofParts neg n p e).exact.m = n * 2 ^ (64 - p) from h.sig (neg := neg), mul_assoc]
  push_cast
  rw [mul_assoc]
  rfl

end

/-! ### The place and the kept bits -/

section

variable (env : FpEnv) (x : Exact)

/-- The place of the last bit that a rounding keeps. -/
def FpEnv.place : ℤ := x.k + (Nat.log2 x.m : ℤ) - (env.prec - 1 : ℕ)

/-- The rounded significand, in units of the place. -/
def FpEnv.roundedSig : ℕ := (roundUnits env.rc x.neg x.m x.k (env.place x)).1

/-- The kept bits, after a carry out of the leading one. -/
def FpEnv.keptSig : ℕ := if env.roundedSig x = 2 ^ env.prec then 2 ^ (env.prec - 1) else env.roundedSig x

/-- The weight of the leading kept bit. -/
def FpEnv.leadExp : ℤ := env.place x + (env.prec - 1 : ℕ) + (if env.roundedSig x = 2 ^ env.prec then 1 else 0)

/-- A result in the exponent range. -/
theorem FpEnv.round_of_range (low : env.emin ≤ env.leadExp x) (high : env.leadExp x ≤ env.emax) : ∃ away, env.round x =
    { res := FReg.ofParts x.neg (env.keptSig x) env.prec (env.leadExp x),
      i := (roundUnits env.rc x.neg x.m x.k (env.place x)).2.1, fpa := away } := by
  refine ⟨(roundUnits env.rc x.neg x.m x.k (env.place x)).2.2, ?_⟩
  unfold FpEnv.leadExp at *
  unfold FpEnv.round FpEnv.keptSig FpEnv.roundedSig FpEnv.place at *
  dsimp only
  simp only [decide_eq_true_eq]
  rw [if_neg (not_lt.mpr high), if_neg (not_lt.mpr low)]

/-- A result above the exponent range overflows. -/
theorem FpEnv.round_of_above (h : env.emax < env.leadExp x) : (env.round x).o = true := by
  unfold FpEnv.leadExp FpEnv.roundedSig FpEnv.place at h
  unfold FpEnv.round
  dsimp only
  simp only [decide_eq_true_eq]
  rw [if_pos h]
  split <;> rfl

/-- A result below the exponent range is tiny. -/
theorem FpEnv.round_of_below (low : env.leadExp x < env.emin) (high : env.leadExp x ≤ env.emax) : (env.round x).tiny = true := by
  unfold FpEnv.leadExp FpEnv.roundedSig FpEnv.place at low high
  unfold FpEnv.round
  dsimp only
  simp only [decide_eq_true_eq]
  rw [if_neg (not_lt.mpr high), if_pos low]
  split
  · rfl
  · split <;> rfl

variable {x} (nonzero : x.m ≠ 0)

/-- The magnitude in units of the place. -/
theorem FpEnv.roundedSig_spec : RoundsMag env.rc x.neg (|x.val| / 2 ^ env.place x) (env.roundedSig x) ∧
    ((roundUnits env.rc x.neg x.m x.k (env.place x)).2.1 = true ↔ (env.roundedSig x : ℚ) ≠ |x.val| / 2 ^ env.place x) := by
  rw [Exact.abs_val]
  exact roundUnits_spec env.rc x.neg x.m x.k (env.place x)

include nonzero in
theorem FpEnv.magnitude_bounds : (2 : ℚ) ^ (env.prec - 1) ≤ |x.val| / 2 ^ env.place x ∧
    |x.val| / 2 ^ env.place x < 2 * 2 ^ (env.prec - 1) := by
  have units : |x.val| / 2 ^ env.place x = x.m / 2 ^ Nat.log2 x.m * 2 ^ (env.prec - 1) := by
    unfold FpEnv.place
    rw [Exact.abs_val, zpow_sub₀ (by norm_num), zpow_add₀ (by norm_num), zpow_natCast, zpow_natCast]
    field_simp
  have lower : (2 : ℚ) ^ Nat.log2 x.m ≤ x.m := by exact_mod_cast Nat.log2_self_le nonzero
  have upper : (x.m : ℚ) < 2 * 2 ^ Nat.log2 x.m := by exact_mod_cast (Nat.pow_succ' ▸ Nat.lt_log2_self : x.m < 2 * 2 ^ Nat.log2 x.m)
  rw [units]
  constructor
  · rw [← div_le_iff₀ (by positivity), div_self (by positivity)]
    exact (one_le_div (by positivity)).mpr lower
  · exact mul_lt_mul_of_pos_right ((div_lt_iff₀ (by positivity)).mpr upper) (by positivity)

include nonzero in
theorem FpEnv.roundedSig_bounds (hp : 1 ≤ env.prec) : 2 ^ (env.prec - 1) ≤ env.roundedSig x ∧ env.roundedSig x ≤ 2 ^ env.prec := by
  obtain ⟨lower, upper⟩ := env.magnitude_bounds nonzero
  obtain ⟨near1, near2⟩ := abs_lt.mp (env.roundedSig_spec (x := x)).1.near
  have double : 2 ^ env.prec = 2 * 2 ^ (env.prec - 1) := by rw [← pow_succ']; congr 1; omega
  rw [double]
  have above : 2 ^ (env.prec - 1) < env.roundedSig x + 1 := by
    rw [← Nat.cast_lt (α := ℚ)]
    push_cast
    linarith
  have below : env.roundedSig x < 2 * 2 ^ (env.prec - 1) + 1 := by
    rw [← Nat.cast_lt (α := ℚ)]
    push_cast
    linarith
  omega

include nonzero in
theorem FpEnv.keptBits (hp : 1 ≤ env.prec ∧ env.prec ≤ 64) (low : -65534 ≤ env.leadExp x) (high : env.leadExp x ≤ 65535) :
    KeptBits (env.keptSig x) env.prec (env.leadExp x) := by
  obtain ⟨lower, upper⟩ := env.roundedSig_bounds nonzero hp.1
  have half : 2 ^ (env.prec - 1) < 2 ^ env.prec := Nat.pow_lt_pow_right (by norm_num) (by omega)
  refine ⟨hp, ?_, ?_, low, high⟩
  all_goals
    unfold FpEnv.keptSig
    split <;> omega

/-- The kept bits at their place are the rounded significand at its place. -/
theorem FpEnv.keptSig_val (hp : 1 ≤ env.prec) :
    (env.keptSig x * 2 ^ (env.leadExp x - (env.prec - 1 : ℕ)) : ℚ) = env.roundedSig x * 2 ^ env.place x := by
  unfold FpEnv.keptSig FpEnv.leadExp
  by_cases carry : env.roundedSig x = 2 ^ env.prec
  · have double : (2 : ℚ) ^ env.prec = 2 ^ (env.prec - 1) * 2 := by rw [← pow_succ]; congr 1; omega
    rw [if_pos carry, if_pos carry, carry, add_right_comm, add_sub_cancel_right, zpow_add₀ (by norm_num)]
    push_cast
    rw [double]
    ring
  · rw [if_neg carry, if_neg carry, add_zero, add_sub_cancel_right]

end

/-! ### The error of a result in the range -/

section

variable (a x : Exact)

theorem roundError_eq : (roundError a x : ℚ) = (a.val - x.val) / 2 ^ min a.k x.k := by
  unfold roundError
  dsimp only
  rw [Int.cast_sub, Exact.scaled_eq _ (min_le_left _ _), Exact.scaled_eq _ (min_le_right _ _), sub_div]

theorem ulpOf_eq (p : ℕ) : (ulpOf p a x : ℚ) = 2 ^ (a.k + (64 - p : ℕ)) / 2 ^ min a.k x.k := by
  unfold ulpOf
  rw [← zpow_sub₀ (by norm_num)]
  push_cast
  rw [← zpow_natCast, Int.toNat_of_nonneg (by have := min_le_left a.k x.k; omega)]

end

/-- The error of a rounded magnitude `n` of `x`, with `u` units to the last place: what a mode says of it (R503). -/
structure ErrorIsRight (rc : BitVec 2) (neg : Bool) (err ulp : ℤ) (even : Prop) : Prop where
  low     : -ulp < err
  high    : err < ulp
  nearest : rc = 0 → -ulp ≤ 2 * err ∧ 2 * err ≤ ulp ∧ (2 * err = ulp ∨ 2 * err = -ulp → even)
  down    : rc = 1 → err ≤ 0
  up      : rc = 2 → 0 ≤ err
  zero    : rc = 3 → if neg then 0 ≤ err else err ≤ 0

/-- Integers that are multiples of one positive unit compare as their multipliers. -/
theorem cast_compare {a b : ℤ} {A B c : ℚ} (hc : 0 < c) (ha : (a : ℚ) = A * c) (hb : (b : ℚ) = B * c) :
    (a < b ↔ A < B) ∧ (a ≤ b ↔ A ≤ B) ∧ (a = b ↔ A = B) := by
  rw [← Int.cast_lt (R := ℚ), ← Int.cast_le (R := ℚ), ← Int.cast_inj (α := ℚ), ha, hb]
  exact ⟨mul_lt_mul_iff_left₀ hc, mul_le_mul_iff_left₀ hc, mul_left_inj' hc.ne'⟩

/-- A magnitude rounded as its mode says has an error that its mode allows; the last place is one or, after a carry, two units of the
rounding. -/
theorem RoundsMag.errorIsRight {rc : BitVec 2} {neg : Bool} {x : ℚ} {n : ℕ} (h : RoundsMag rc neg x n) {err ulp : ℤ} {c u : ℚ} {even : Prop}
    (hc : 0 < c) (herr : (err : ℚ) = (if neg then -1 else 1) * (n - x) * c) (hulp : (ulp : ℚ) = u * c)
    (units : u = 1 ∧ (n % 2 = 0 → even) ∨ u = 2) : ErrorIsRight rc neg err ulp even := by
  have hzero : ((0 : ℤ) : ℚ) = 0 * c := by simp
  have hneg : ((-ulp : ℤ) : ℚ) = -u * c := by rw [Int.cast_neg, hulp, neg_mul]
  have htwo : ((2 * err : ℤ) : ℚ) = 2 * ((if neg then -1 else 1) * (n - x)) * c := by
    rw [Int.cast_mul, herr, Int.cast_ofNat, mul_assoc 2]
  have one_le : 1 ≤ u := by rcases units with ⟨rfl, -⟩ | rfl <;> norm_num
  have size : |(if neg then -1 else 1) * ((n : ℚ) - x)| = |n - x| := by cases neg <;> simp [abs_sub_comm]
  obtain ⟨near1, near2⟩ := abs_lt.mp (size ▸ h.near)
  refine ⟨(cast_compare hc hneg herr).1.mpr (by linarith), (cast_compare hc herr hulp).1.mpr (by linarith), fun mode => ?_, fun mode => ?_,
    fun mode => ?_, fun mode => ?_⟩
  · obtain ⟨half, tie⟩ := h.nearest mode
    rw [(cast_compare hc hneg htwo).2.1, (cast_compare hc htwo hulp).2.1, (cast_compare hc htwo hulp).2.2, (cast_compare hc htwo hneg).2.2]
    rw [← size] at half tie
    generalize (if neg then -1 else 1) * ((n : ℚ) - x) = E at *
    obtain ⟨half1, half2⟩ := abs_le.mp (show |2 * E| ≤ 1 by rwa [abs_mul, abs_of_pos two_pos])
    refine ⟨by linarith, by linarith, fun same => ?_⟩
    rcases units with ⟨rfl, even_of⟩ | rfl
    · refine even_of (tie ?_)
      rw [← abs_of_pos (two_pos (α := ℚ)), ← abs_mul]
      rcases same with same | same <;> simp [same]
    · rcases same with same | same <;> linarith
  · rw [(cast_compare hc herr hzero).2.1]
    cases neg
    · simpa using h.below (.inl ⟨mode, rfl⟩)
    · simpa using h.above (.inl ⟨mode, rfl⟩)
  · rw [(cast_compare hc hzero herr).2.1]
    cases neg
    · simpa using h.above (.inr ⟨mode, rfl⟩)
    · simpa using h.below (.inr (.inl ⟨mode, rfl⟩))
  · have small := h.below (.inr (.inr mode))
    rw [(cast_compare hc herr hzero).2.1, (cast_compare hc hzero herr).2.1]
    cases neg
    · simpa using small
    · simpa using small

/-! ### A result in the range -/

/-- The register value of a result in the range. -/
def FpEnv.kept (env : FpEnv) (x : Exact) : FReg := FReg.ofParts x.neg (env.keptSig x) env.prec (env.leadExp x)

section

variable {env : FpEnv} {x : Exact} (kept : KeptBits (env.keptSig x) env.prec (env.leadExp x))

include kept in
theorem FpEnv.kept_val : (env.kept x).exact.val = (if x.neg then -1 else 1) * (env.roundedSig x * 2 ^ env.place x) := by
  rw [← env.keptSig_val kept.prec.1]
  exact kept.val

include kept in
theorem FpEnv.kept_error : (roundError (env.kept x).exact x : ℚ) = (if x.neg then -1 else 1) *
    (env.roundedSig x - |x.val| / 2 ^ env.place x) * (2 ^ env.place x / 2 ^ min (env.kept x).exact.k x.k) := by
  have unit : (2 : ℚ) ^ env.place x ≠ 0 := by positivity
  rw [roundError_eq, FpEnv.kept_val kept, x.val_eq_abs, ← mul_div_assoc, mul_assoc, sub_mul, div_mul_cancel₀ _ unit]
  cases x.neg
  · simp
  · simp
    ring

include kept in
theorem FpEnv.kept_ulp : (ulpOf env.prec (env.kept x).exact x : ℚ) = (if env.roundedSig x = 2 ^ env.prec then 2 else 1) *
    (2 ^ env.place x / 2 ^ min (env.kept x).exact.k x.k) := by
  have unit : (env.kept x).exact.k + (64 - env.prec : ℕ) = env.place x + (if env.roundedSig x = 2 ^ env.prec then 1 else 0) := by
    have lead : (env.kept x).exact.k = env.leadExp x - 63 := kept.exact_k
    have := kept.prec
    unfold FpEnv.leadExp at lead
    omega
  rw [ulpOf_eq, unit, zpow_add₀ (by norm_num)]
  split
  · rw [zpow_one]
    ring
  · rw [zpow_zero]
    ring

include kept in
theorem FpEnv.kept_errorIsRight : ErrorIsRight env.rc x.neg (roundError (env.kept x).exact x) (ulpOf env.prec (env.kept x).exact x)
    ((env.kept x).sig.toNat / 2 ^ (64 - env.prec) % 2 = 0) := by
  refine (env.roundedSig_spec (x := x)).1.errorIsRight (c := 2 ^ env.place x / 2 ^ min (env.kept x).exact.k x.k) (by positivity)
    (FpEnv.kept_error kept) (FpEnv.kept_ulp kept) ?_
  by_cases carry : env.roundedSig x = 2 ^ env.prec
  · exact .inr (if_pos carry)
  · refine .inl ⟨if_neg carry, fun even => ?_⟩
    have sig : (env.kept x).sig.toNat = env.keptSig x * 2 ^ (64 - env.prec) := kept.sig
    rw [sig, Nat.mul_div_cancel _ (by positivity)]
    unfold FpEnv.keptSig
    rwa [if_neg carry]

include kept in
theorem FpEnv.kept_inexact_iff : (roundUnits env.rc x.neg x.m x.k (env.place x)).2.1 = true ↔ roundError (env.kept x).exact x ≠ 0 := by
  have unit : (2 : ℚ) ^ env.place x / 2 ^ min (env.kept x).exact.k x.k ≠ 0 := by positivity
  have sign : (if x.neg then -1 else 1 : ℚ) ≠ 0 := by cases x.neg <;> simp
  rw [(env.roundedSig_spec (x := x)).2, ← Int.cast_ne_zero (α := ℚ), FpEnv.kept_error kept, mul_ne_zero_iff_right unit,
    mul_ne_zero_iff_left sign, sub_ne_zero]

end

end Sys2Proof.Machine

end

section

open Sys2Proof Machine Forms

/-- Settles O58: a result without O and not tiny is the rounded significand at its place. -/
theorem roundingIsCorrect : Obligations.RoundingIsCorrect := by
  intro env x prec low high nonzero o noOverflow notTiny
  have hp : 1 ≤ env.prec ∧ env.prec ≤ 64 := by omega
  have top : env.leadExp x ≤ env.emax := not_lt.mp fun above => Bool.false_ne_true (noOverflow.symm.trans (env.round_of_above x above))
  have bottom : env.emin ≤ env.leadExp x := not_lt.mp fun below =>
    Bool.false_ne_true (notTiny.symm.trans (env.round_of_below x below top))
  have kept := env.keptBits nonzero hp (low.trans bottom) (top.trans high)
  obtain ⟨away, result⟩ := env.round_of_range x bottom top
  have right := FpEnv.kept_errorIsRight kept
  have sig : (env.kept x).sig.toNat = env.keptSig x * 2 ^ (64 - env.prec) := kept.sig
  show (env.round x).res.sign = _ ∧ (env.round x).res.fpClass = _ ∧ (env.round x).res.sig.toNat % _ = 0 ∧ _
  dsimp only [o]
  rw [result]
  exact ⟨rfl, (fpClass_normal_iff _).mpr kept.isNormal, sig ▸ Nat.mul_mod_left _ _, FpEnv.kept_inexact_iff kept, right.low, right.high,
    right.nearest, right.down, right.up, right.zero⟩

end

section
/-! SUPPORT. The order of register values and their conversion to integers as what they say of numbers (R503, R507, R512). -/

namespace Sys2Proof.Forms

open Sys2Proof.Machine

/-! ### Order (R507) -/

/-- A NaN or an unsupported value: unordered. -/
def unordered (f : FReg) : Bool := f.isNan || f.fpClass = .unsupported

/-- The infinities below and above, the rest between. -/
def fpRank (f : FReg) : ℤ := if f.fpClass = .inf then (if f.sign then -1 else 1) else 0

/-- Rank first, then the number where the value is no infinity: where a value stands in the order. -/
def fpKey (f : FReg) : ℤ ×ₗ ℚ := toLex (fpRank f, if fpRank f = 0 then f.exact.val else 0)

section

variable (a b : FReg)

theorem fpOrder_unordered (h : unordered a = true ∨ unordered b = true) : fpOrder a b = .unordered :=
  if_pos (by simpa [unordered] using h)

theorem fpOrder_ordered (ha : unordered a = false) (hb : unordered b = false) :
    fpOrder a b = if fpRank a < fpRank b then .less else if fpRank b < fpRank a then .greater else if fpRank a ≠ 0 then .equal
      else if a.exact.lt b.exact then .less else if a.exact.eqv b.exact then .equal else .greater := by
  have neither : ¬ ((unordered a || unordered b) = true) := by simp [ha, hb]
  exact if_neg neither

variable {a b}

theorem fpKey_lt_of_rank (h : fpRank a < fpRank b) : fpKey a < fpKey b := Prod.Lex.lt_iff.mpr (.inl h)

theorem fpKey_of_number (h : fpRank a = 0) : fpKey a = toLex (0, a.exact.val) := by
  unfold fpKey
  rw [h, if_pos rfl]

theorem fpKey_of_rank (h : fpRank a ≠ 0) : fpKey a = toLex (fpRank a, 0) := by
  unfold fpKey
  rw [if_neg h]

/-- The order of two ordered values is that of their keys. -/
theorem fpOrder_cases (ha : unordered a = false) (hb : unordered b = false) :
    fpOrder a b = .less ∧ fpKey a < fpKey b ∨ fpOrder a b = .greater ∧ fpKey b < fpKey a ∨
      fpOrder a b = .equal ∧ fpKey a = fpKey b := by
  rw [fpOrder_ordered a b ha hb]
  by_cases below : fpRank a < fpRank b
  · exact .inl ⟨if_pos below, fpKey_lt_of_rank below⟩
  rw [if_neg below]
  by_cases above : fpRank b < fpRank a
  · exact .inr (.inl ⟨if_pos above, fpKey_lt_of_rank above⟩)
  rw [if_neg above]
  have same : fpRank b = fpRank a := by omega
  by_cases infinite : fpRank a ≠ 0
  · refine .inr (.inr ⟨if_pos infinite, ?_⟩)
    unfold fpKey
    rw [same, if_neg infinite, if_neg infinite]
  rw [if_neg infinite]
  have zero : fpRank a = 0 := not_not.mp infinite
  rw [fpKey_of_number zero, fpKey_of_number (same.trans zero)]
  have compare (x y : ℚ) : (toLex ((0 : ℤ), x) < toLex (0, y)) ↔ x < y := by simp [Prod.Lex.toLex_lt_toLex]
  rw [compare, compare]
  rcases lt_trichotomy a.exact.val b.exact.val with less | equal | greater
  · exact .inl ⟨if_pos ((Exact.lt_iff _ _).mpr less), less⟩
  · rw [if_neg fun less => equal.not_lt ((Exact.lt_iff _ _).mp less), if_pos ((Exact.eqv_iff _ _).mpr equal), equal]
    exact .inr (.inr ⟨rfl, rfl⟩)
  · rw [if_neg fun less => greater.not_gt ((Exact.lt_iff _ _).mp less), if_neg fun equal => greater.ne' ((Exact.eqv_iff _ _).mp equal)]
    exact .inr (.inl ⟨rfl, greater⟩)

variable (ha : unordered a = false) (hb : unordered b = false)

include ha hb

theorem fpOrder_less_iff : fpOrder a b = .less ↔ fpKey a < fpKey b := by
  rcases fpOrder_cases ha hb with ⟨order, key⟩ | ⟨order, key⟩ | ⟨order, key⟩
  · exact iff_of_true order key
  · exact iff_of_false (by simp [order]) key.not_gt
  · exact iff_of_false (by simp [order]) key.not_lt

theorem fpOrder_greater_iff : fpOrder a b = .greater ↔ fpKey b < fpKey a := by
  rcases fpOrder_cases ha hb with ⟨order, key⟩ | ⟨order, key⟩ | ⟨order, key⟩
  · exact iff_of_false (by simp [order]) key.not_gt
  · exact iff_of_true order key
  · exact iff_of_false (by simp [order]) key.not_gt

theorem fpOrder_equal_iff : fpOrder a b = .equal ↔ fpKey a = fpKey b := by
  rcases fpOrder_cases ha hb with ⟨order, key⟩ | ⟨order, key⟩ | ⟨order, key⟩
  · exact iff_of_false (by simp [order]) key.ne
  · exact iff_of_false (by simp [order]) key.ne'
  · exact iff_of_true order key

theorem fpOrder_ne_unordered : fpOrder a b ≠ .unordered := by
  rcases fpOrder_cases ha hb with ⟨order, -⟩ | ⟨order, -⟩ | ⟨order, -⟩ <;> simp [order]

end

/-! ### The keys of infinities and numbers -/

section

variable {a b : FReg}

/-- An infinity by its sign, or a number: what the encoding says, and the key. -/
inductive OrderedView (f : FReg) : Prop where
  | infinite (neg : Bool) (inf : ∀ m, isInf f m ↔ m = neg) (notFinite : ¬ isFinite f) (key : fpKey f = toLex (if neg then -1 else 1, 0))
      (absKey : fpKey f.abs = toLex (1, 0))
  | number (notInf : ∀ m, ¬ isInf f m) (finite : isFinite f) (key : fpKey f = toLex (0, numberOf f))
      (absKey : fpKey f.abs = toLex (0, |numberOf f|))

theorem isInf_abs (f : FReg) : (∃ m, isInf f.abs m) ↔ ∃ m, isInf f m := by
  simp [isInf, FReg.abs]

theorem isInf_not_finite {f : FReg} {m : Bool} (h : isInf f m) : ¬ isFinite f := fun finite => finite.1 h.1

theorem abs_exact_val (f : FReg) : f.abs.exact.val = |numberOf f| := by
  rw [numberOf_eq_val, Exact.abs_val]
  unfold Exact.val
  exact congrArg (· * _) (one_mul _)

theorem fpRank_of_inf {f : FReg} {neg : Bool} (h : isInf f neg) : fpRank f = if neg then -1 else 1 := by
  unfold fpRank
  rw [if_pos ((fpClass_inf_iff f).mpr ⟨neg, h⟩), h.2.2]

theorem fpRank_of_not_inf {f : FReg} (h : ¬ ∃ m, isInf f m) : fpRank f = 0 :=
  if_neg fun inf => h ((fpClass_inf_iff f).mp inf)

theorem orderedView {f : FReg} (h : isOrdered f) : OrderedView f := by
  rcases h with finite | ⟨neg, inf⟩
  · have notInf : ¬ ∃ m, isInf f m := fun ⟨_, inf⟩ => isInf_not_finite inf finite
    refine .number (fun m inf => notInf ⟨m, inf⟩) finite (fpKey_of_number (fpRank_of_not_inf notInf)) ?_
    rw [fpKey_of_number (fpRank_of_not_inf ((isInf_abs f).not.mpr notInf)), abs_exact_val]
  · have rank := fpRank_of_inf inf
    have absRank : fpRank f.abs = 1 := fpRank_of_inf (neg := false) ⟨inf.1, inf.2.1, rfl⟩
    refine .infinite neg (fun m => ⟨fun same => same.2.2.symm.trans inf.2.2, fun same => same ▸ inf⟩) (isInf_not_finite inf) ?_ ?_
    · rw [fpKey_of_rank (by rw [rank]; cases neg <;> decide), rank]
    · rw [fpKey_of_rank (by rw [absRank]; decide), absRank]

variable (ha : isOrdered a) (hb : isOrdered b)

include ha hb

theorem numLess_iff : numLess a b ↔ fpKey a < fpKey b := by
  unfold numLess
  rcases orderedView ha with ⟨n, infA, finA, keyA, -⟩ | ⟨infA, finA, keyA, -⟩ <;>
  rcases orderedView hb with ⟨m, infB, finB, keyB, -⟩ | ⟨infB, finB, keyB, -⟩ <;>
  simp only [infA, infB, finA, finB, keyA, keyB, Prod.Lex.toLex_lt_toLex]
  · cases n <;> cases m <;> simp
  · cases n <;> simp
  · cases m <;> simp
  · simp

theorem numEqual_iff : numEqual a b ↔ fpKey a = fpKey b := by
  unfold numEqual
  rcases orderedView ha with ⟨n, infA, finA, keyA, -⟩ | ⟨infA, finA, keyA, -⟩ <;>
  rcases orderedView hb with ⟨m, infB, finB, keyB, -⟩ | ⟨infB, finB, keyB, -⟩ <;>
  simp only [infA, infB, finA, finB, keyA, keyB, toLex_inj, Prod.mk.injEq]
  · cases n <;> cases m <;> simp
  · cases n <;> simp
  · cases m <;> simp
  · simp

theorem absLess_iff : absLess a b ↔ fpKey a.abs < fpKey b.abs := by
  unfold absLess
  rcases orderedView ha with ⟨n, infA, finA, -, keyA⟩ | ⟨infA, finA, -, keyA⟩ <;>
  rcases orderedView hb with ⟨m, infB, finB, -, keyB⟩ | ⟨infB, finB, -, keyB⟩ <;>
  simp [infA, infB, finA, finB, keyA, keyB, Prod.Lex.toLex_lt_toLex]

end

/-- Neither NaN nor unsupported. -/
theorem unordered_eq_false_iff (f : FReg) : unordered f = false ↔ (∀ q, ¬ isNaN f q) ∧ ¬ isUnsupported f := by
  unfold unordered
  rw [Bool.or_eq_false_iff, decide_eq_false_iff_not, fpClass_unsupported_iff, ← Bool.not_eq_true, isNan_iff, not_exists]

theorem isOrdered_iff_unordered {f : FReg} (number : f ≠ FReg.natVal) : isOrdered f ↔ unordered f = false := by
  have natVal : f.fpClass ≠ .natVal := fun nat => number ((fpClass_eq_iff f .natVal).mp nat)
  rw [isOrdered_iff]
  unfold unordered FReg.isNan
  generalize f.fpClass = c at natVal
  cases c <;> simp at natVal ⊢

theorem unordered_abs {f : FReg} (h : unordered f = false) : unordered f.abs = false :=
  (unordered_eq_false_iff _).mpr ((unordered_eq_false_iff f).mp h)

theorem isOrdered.unordered_eq {f : FReg} (h : isOrdered f) : unordered f = false := by
  refine (isOrdered_iff_unordered ?_).mp h
  rintro rfl
  exact absurd ((isOrdered_iff _).mp h) (by decide)

/-! ### Minimum, maximum, compare and class test (R507) -/

/-- A minimum or maximum takes its first operand. -/
def takesFirst (m : MinMax) (a b : FReg) : Bool :=
  match m with
  | .min => fpOrder a b = .less
  | .max => fpOrder a b = .greater
  | .amin => fpOrder a.abs b.abs = .less
  | .amax => fpOrder a.abs b.abs = .greater

theorem takesFirst_iff {a b : FReg} (m : MinMax) (ha : isOrdered a) (hb : isOrdered b) :
    takesFirst m a b = true ↔ prefersFirst m a b := by
  have ua := ha.unordered_eq
  have ub := hb.unordered_eq
  unfold takesFirst
  cases m with
  | min => exact decide_eq_true_iff.trans ((fpOrder_less_iff ua ub).trans (numLess_iff ha hb).symm)
  | max => exact decide_eq_true_iff.trans ((fpOrder_greater_iff ua ub).trans (numLess_iff hb ha).symm)
  | amin => exact decide_eq_true_iff.trans ((fpOrder_less_iff (unordered_abs ua) (unordered_abs ub)).trans (absLess_iff ha hb).symm)
  | amax => exact decide_eq_true_iff.trans ((fpOrder_greater_iff (unordered_abs ua) (unordered_abs ub)).trans (absLess_iff hb ha).symm)

theorem fpMinMax_eq (m : MinMax) (a b : FReg) : fpMinMax m a b =
    if a.fpClass = .unsupported ∨ b.fpClass = .unsupported then { fpInvalid with d := a.fpClass = .unnormal || b.fpClass = .unnormal }
    else if a.isNan = true ∨ b.isNan = true then { res := b, v := true, d := a.fpClass = .unnormal || b.fpClass = .unnormal }
    else { res := if takesFirst m a b then a else b, d := a.fpClass = .unnormal || b.fpClass = .unnormal } := by
  unfold fpMinMax takesFirst
  simp only [Bool.or_eq_true, decide_eq_true_eq] <;> rfl

theorem minMax_isRight (m : MinMax) (a b : FReg) : MinMaxIsRight m a b := by
  unfold MinMaxIsRight
  rw [fpMinMax_eq]
  dsimp only
  simp only [← fpClass_unsupported_iff, ← fpClass_unnormal_iff, List.mem_cons, List.not_mem_nil, or_false, exists_eq_or_imp, exists_eq_left,
    ← isNan_iff]
  refine ⟨fun ha hb => ?_, fun sa sb nan => ?_, fun bad => ?_, ?_⟩
  · obtain ⟨nanA, supA⟩ := Bool.or_eq_false_iff.mp ha.unordered_eq
    obtain ⟨nanB, supB⟩ := Bool.or_eq_false_iff.mp hb.unordered_eq
    rw [if_neg (not_or.mpr ⟨of_decide_eq_false supA, of_decide_eq_false supB⟩), if_neg (by simp [nanA, nanB])]
    rw [← takesFirst_iff m ha hb]
    exact ⟨rfl, fun first => if_pos first, fun second => if_neg second⟩
  · rw [if_neg (by simp [sa, sb]), if_pos nan]
    exact ⟨rfl, rfl⟩
  · rw [if_pos bad]
    exact ⟨rfl, rfl⟩
  · split
    · simp
    · split <;> simp

theorem relSignals_iff (r : FpRel) : r.signals = true ↔ relSignals r := by
  unfold relSignals
  cases r <;> simp [FpRel.signals]

theorem compare_isRight (r : FpRel) {a b : FReg} (na : a ≠ FReg.natVal) (nb : b ≠ FReg.natVal) : CompareIsRight r a b := by
  refine ⟨?_, ?_, ?_⟩
  · by_cases ordered : isOrdered a ∧ isOrdered b
    · obtain ⟨ha, hb⟩ := ordered
      have ua := ha.unordered_eq
      have ub := hb.unordered_eq
      have never := fpOrder_ne_unordered ua ub
      cases r <;> simp [FpRel.holds, relOf, ha, hb, never, fpOrder_less_iff ua ub, fpOrder_equal_iff ua ub, numLess_iff, numEqual_iff]
    · have order : fpOrder a b = .unordered := by
        refine fpOrder_unordered a b ?_
        rw [isOrdered_iff_unordered na, isOrdered_iff_unordered nb] at ordered
        simpa [or_iff_not_imp_left] using ordered
      cases r <;> simp [FpRel.holds, relOf, ordered, order]
  · simp only [fpCompareOut, Bool.or_eq_true, Bool.and_eq_true, decide_eq_true_eq, fpClass_snan_iff, fpClass_unsupported_iff,
      fpClass_qnan_iff, relSignals_iff, List.mem_cons, List.not_mem_nil, or_false, exists_eq_or_imp, exists_eq_left]
    tauto
  · simp [fpCompareOut, fpClass_unnormal_iff]

theorem fclass_isRight (m : BitVec 9) (f : FReg) : fclassHolds m f = true ↔ classSelected m f := by
  have natVal : f = FReg.natVal ↔ f.fpClass = .natVal := (fpClass_eq_iff f .natVal).symm
  unfold classSelected
  rw [← and_assoc (a := isFinite f)]
  rw [show (isFinite f ∧ f.sig = 0) = isZero f from rfl, natVal, ← fpClass_zero_iff, ← fpClass_qnan_iff, ← fpClass_snan_iff,
    ← fpClass_unnormal_iff, ← fpClass_normal_iff, ← fpClass_inf_iff]
  unfold fclassHolds
  generalize f.fpClass = c
  cases c <;> simp

/-! ### Conversion from integer (R512) -/

/-- The significand of the integer `m` with its leading bit set. -/
theorem keptBits_of_nat {m : ℕ} (pos : m ≠ 0) (fits : m ≤ 2 ^ 63) : KeptBits (m <<< (63 - Nat.log2 m)) 64 (Nat.log2 m) := by
  have low := Nat.log2_self_le pos
  have high : m < 2 ^ (Nat.log2 m + 1) := Nat.lt_log2_self
  have small : Nat.log2 m ≤ 63 := (Nat.pow_le_pow_iff_right (by norm_num)).mp (low.trans fits)
  rw [Nat.shiftLeft_eq]
  refine ⟨by omega, ?_, ?_, by omega⟩
  · calc 2 ^ (64 - 1) = 2 ^ Nat.log2 m * 2 ^ (63 - Nat.log2 m) := by rw [← pow_add]; congr 1; omega
      _ ≤ m * 2 ^ (63 - Nat.log2 m) := Nat.mul_le_mul_right _ low
  · calc m * 2 ^ (63 - Nat.log2 m) < 2 ^ (Nat.log2 m + 1) * 2 ^ (63 - Nat.log2 m) := Nat.mul_lt_mul_of_pos_right high (by positivity)
      _ = 2 ^ 64 := by rw [← pow_add]; congr 1; omega

/-- The magnitude of the signed significand. -/
def intMag (f : FReg) : ℕ := f.sig.toInt.natAbs

theorem intMag_le (f : FReg) : intMag f ≤ 2 ^ 63 := by
  have low := BitVec.le_toInt f.sig
  have high := BitVec.toInt_lt (x := f.sig)
  unfold intMag
  omega

theorem intMag_ne_zero {f : FReg} (h : f.sig ≠ 0) : intMag f ≠ 0 :=
  fun zero => h (BitVec.eq_of_toInt_eq (by simpa [intMag] using zero))

/-- The exponent field of a leading bit of weight `2^l`. -/
theorem exponent_of_lead (l : ℕ) : BitVec.ofInt 17 (l + 65535) = BitVec.ofNat 17 (0xFFFF + l) := by
  rw [add_comm, ← BitVec.ofInt_natCast]
  push_cast
  rfl

theorem fcvtXf_eq {f : FReg} (h : f.sig ≠ 0) : fcvtXf f =
    FReg.ofParts (f.sig.getLsbD 63) (intMag f <<< (63 - Nat.log2 (intMag f))) 64 (Nat.log2 (intMag f)) := by
  unfold fcvtXf FReg.ofParts
  rw [if_neg h, exponent_of_lead, Nat.sub_self, Nat.shiftLeft_zero]
  rfl

theorem toInt_eq_sign_mul (f : FReg) : f.sig.toInt = (if f.sig.getLsbD 63 then -1 else 1) * (intMag f : ℤ) := by
  have sign := bit63_iff f.sig
  have small := f.sig.isLt
  unfold intMag
  rw [BitVec.toInt_eq_toNat_cond]
  cases bit : f.sig.getLsbD 63
  · rw [bit] at sign
    simp only [Bool.false_eq_true, false_iff, not_le] at sign
    rw [if_pos (by omega), if_neg (by decide)]
    omega
  · rw [bit] at sign
    simp only [true_iff] at sign
    rw [if_neg (by omega), if_pos rfl]
    omega

theorem fcvtXf_val {f : FReg} (h : f.sig ≠ 0) : numberOf (fcvtXf f) = f.sig.toInt := by
  have kept := keptBits_of_nat (intMag_ne_zero h) (intMag_le f)
  have low := Nat.log2_self_le (intMag_ne_zero h)
  have small : Nat.log2 (intMag f) ≤ 63 := (Nat.pow_le_pow_iff_right (by norm_num)).mp (low.trans (intMag_le f))
  have unit : (2 : ℚ) ^ (63 - Nat.log2 (intMag f)) * 2 ^ ((Nat.log2 (intMag f) : ℤ) - (64 - 1 : ℕ)) = 1 := by
    rw [← zpow_natCast, ← zpow_add₀ (by norm_num), ← zpow_zero (2 : ℚ)]
    congr 1
    omega
  rw [fcvtXf_eq h, numberOf_eq_val, kept.val, Nat.shiftLeft_eq, toInt_eq_sign_mul, Nat.cast_mul, Nat.cast_pow, Nat.cast_ofNat, mul_assoc,
    unit, mul_one]
  push_cast
  rfl

end Sys2Proof.Forms

end

section
/-! SUPPORT. Conversion of numbers to integers (R503, R512). -/

namespace Sys2Proof.Machine

open Sys2Proof.Forms

/-! ### Rounding to an integer -/

/-- The integer that a rounded magnitude and a sign give. -/
def signedInt (neg : Bool) (n : ℕ) : ℤ := if neg then -(n : ℤ) else n

/-- A value of sign `neg` and magnitude `x`. -/
def signedRat (neg : Bool) (x : ℚ) : ℚ := if neg then -x else x

theorem signedInt_mod_two (neg : Bool) (n : ℕ) : signedInt neg n % 2 = 0 ↔ n % 2 = 0 := by
  unfold signedInt
  split <;> omega

theorem signed_dist (neg : Bool) (x : ℚ) (n : ℕ) : |signedRat neg x - signedInt neg n| = |(n : ℚ) - x| := by
  unfold signedRat signedInt
  cases neg
  · simp [abs_sub_comm]
  · simp only [if_true]
    push_cast
    congr 1
    ring

theorem RoundsMag.floor {x : ℚ} {n : ℕ} (near : |(n : ℚ) - x| < 1) (le : (n : ℚ) ≤ x) : (n : ℤ) = ⌊x⌋ := by
  obtain ⟨low, high⟩ := abs_lt.mp near
  exact (Int.floor_eq_iff.mpr ⟨by exact_mod_cast le, by push_cast; linarith⟩).symm

theorem RoundsMag.ceil {x : ℚ} {n : ℕ} (near : |(n : ℚ) - x| < 1) (le : x ≤ n) : (n : ℤ) = ⌈x⌉ := by
  obtain ⟨low, high⟩ := abs_lt.mp near
  exact (Int.ceil_eq_iff.mpr ⟨by push_cast; linarith, by exact_mod_cast le⟩).symm

/-- A magnitude rounded as its mode says, with its sign, is the value rounded to an integer. -/
theorem RoundsMag.roundsTo {rc : BitVec 2} {neg : Bool} {x : ℚ} {n : ℕ} (h : RoundsMag rc neg x n) (pos : 0 ≤ x) :
    roundsTo rc (signedRat neg x) (signedInt neg n) := by
  unfold Forms.roundsTo
  rw [signed_dist, signedInt_mod_two]
  rcases roundingMode_cases rc with rfl | rfl | rfl | rfl
  · exact h.nearest rfl
  · rw [if_neg (by decide), if_pos rfl]
    cases neg
    · exact RoundsMag.floor h.near (h.below (.inl ⟨rfl, rfl⟩))
    · exact (congrArg (-·) (RoundsMag.ceil h.near (h.above (.inl ⟨rfl, rfl⟩)))).trans Int.floor_neg.symm
  · rw [if_neg (by decide), if_neg (by decide), if_pos rfl]
    cases neg
    · exact RoundsMag.ceil h.near (h.above (.inr ⟨rfl, rfl⟩))
    · exact (congrArg (-·) (RoundsMag.floor h.near (h.below (.inr (.inl ⟨rfl, rfl⟩))))).trans Int.ceil_neg.symm
  · have floor := RoundsMag.floor h.near (h.below (.inr (.inr rfl)))
    rw [if_neg (by decide), if_neg (by decide), if_neg (by decide)]
    cases neg
    · exact floor.trans (if_pos (show 0 ≤ signedRat false x from pos)).symm
    · have trunc : signedInt true n = ⌈signedRat true x⌉ := (congrArg (-·) floor).trans Int.ceil_neg.symm
      by_cases zero : 0 ≤ signedRat true x
      · have none : x = 0 := le_antisymm (neg_nonneg.mp zero) pos
        rw [if_pos zero, trunc, none]
        simp [signedRat]
      · rwa [if_neg zero]

/-- At most one integer is a value rounded. -/
theorem roundsTo_unique {rc : BitVec 2} {x : ℚ} {n m : ℤ} (hn : roundsTo rc x n) (hm : roundsTo rc x m) : n = m := by
  unfold roundsTo at hn hm
  by_cases nearest : rc = 0
  · rw [if_pos nearest] at hn hm
    obtain ⟨nearN, tieN⟩ := hn
    obtain ⟨nearM, tieM⟩ := hm
    by_contra apart
    have triangle : |(n : ℚ) - m| ≤ |x - n| + |x - m| := by
      rw [show (n : ℚ) - m = -(x - n) + (x - m) by ring]
      exact (abs_add_le _ _).trans_eq (by rw [abs_neg])
    have close : |(n : ℚ) - m| ≤ 1 := by linarith
    have closeInt : |n - m| ≤ 1 := by exact_mod_cast close
    have step : n = m + 1 ∨ m = n + 1 := by
      have := abs_le.mp closeInt
      omega
    have ties : 2 * |x - n| = 1 ∧ 2 * |x - m| = 1 := by
      have dist : |(n : ℚ) - m| = 1 := by rcases step with rfl | rfl <;> simp
      constructor <;> linarith
    have := tieN ties.1
    have := tieM ties.2
    omega
  · rw [if_neg nearest] at hn hm
    split_ifs at hn hm <;> exact hn.trans hm.symm

end Sys2Proof.Machine

namespace Sys2Proof.Forms

open Sys2Proof.Machine

/-! ### Conversions (R512) -/

section

variable {rc : BitVec 2} {f : FReg} {lo hi v : ℤ} {indefinite : Word} {o : FpOut}

/-- The outcome where the value rounds to `v`: that integer in the range, the indefinite outside. -/
structure ConvertsTo (f : FReg) (lo hi v : ℤ) (indefinite : Word) (o : FpOut) : Prop where
  inside  : lo ≤ v → v ≤ hi → o.res = FReg.ofSig (BitVec.ofInt 64 v) ∧ o.v = false ∧ (o.i = true ↔ (v : ℚ) ≠ numberOf f)
  outside : v < lo ∨ hi < v → o.res = FReg.ofSig indefinite ∧ o.v = true

theorem convertIsRight_of_finite (finite : isFinite f) (rounds : roundsTo rc (numberOf f) v) (h : ConvertsTo f lo hi v indefinite o) :
    ConvertIsRight rc f lo hi indefinite o := by
  refine ⟨fun n _ hn low high => ?_, fun out => ?_⟩
  · obtain rfl := roundsTo_unique hn rounds
    exact h.inside low high
  · rcases out with never | ⟨n, hn, out⟩
    · exact absurd finite never
    · obtain rfl := roundsTo_unique hn rounds
      exact h.outside out

theorem convertIsRight_of_not_finite (never : ¬ isFinite f) (bad : o.res = FReg.ofSig indefinite ∧ o.v = true) :
    ConvertIsRight rc f lo hi indefinite o :=
  ⟨fun _ finite => absurd finite never, fun _ => bad⟩

/-- A number is its sign and its magnitude in units of 1. -/
theorem numberOf_eq_signed (f : FReg) : numberOf f = signedRat f.sign (f.exact.m * 2 ^ f.exact.k / 2 ^ (0 : ℤ)) := by
  rw [zpow_zero, div_one, ← Exact.abs_val]
  exact Exact.val_eq_abs f.exact

theorem numberOf_of_sig_zero (zero : f.sig = 0) : numberOf f = 0 := by
  unfold numberOf
  rw [zero]
  simp

theorem signed_eq_iff (neg : Bool) (x : ℚ) (n : ℕ) : ((signedInt neg n : ℤ) : ℚ) = signedRat neg x ↔ (n : ℚ) = x := by
  unfold signedInt signedRat
  cases neg <;> simp

theorem fcvtTo_number (number : f.fpClass = .normal ∨ f.fpClass = .unnormal) :
    ConvertsTo f lo hi (signedInt f.sign (roundUnits rc f.sign f.exact.m f.exact.k 0).1) indefinite (fcvtTo rc f lo hi indefinite) := by
  have exact := (roundUnits_spec rc f.sign f.exact.m f.exact.k 0).2
  have branch : fcvtTo rc f lo hi indefinite = { (if lo ≤ signedInt f.sign (roundUnits rc f.sign f.exact.m f.exact.k 0).1 ∧
        signedInt f.sign (roundUnits rc f.sign f.exact.m f.exact.k 0).1 ≤ hi then
      { res := FReg.ofSig (BitVec.ofInt 64 (signedInt f.sign (roundUnits rc f.sign f.exact.m f.exact.k 0).1)),
        i := (roundUnits rc f.sign f.exact.m f.exact.k 0).2.1, fpa := (roundUnits rc f.sign f.exact.m f.exact.k 0).2.2 }
      else { res := FReg.ofSig indefinite, v := true } : FpOut) with d := f.fpClass = .unnormal } := by
    unfold fcvtTo
    rcases number with h | h <;> rw [h] <;> rfl
  rw [branch]
  refine ⟨fun low high => ?_, fun out => ?_⟩
  · rw [if_pos ⟨low, high⟩]
    refine ⟨rfl, rfl, exact.trans ?_⟩
    rw [numberOf_eq_signed, ne_eq, ne_eq, signed_eq_iff]
  · rw [if_neg (by omega)]
    exact ⟨rfl, rfl⟩

theorem fcvtTo_zero (zero : f.fpClass = .zero) (low : lo ≤ 0) (high : 0 ≤ hi) :
    ConvertsTo f lo hi 0 indefinite (fcvtTo rc f lo hi indefinite) := by
  unfold fcvtTo
  rw [zero]
  refine ⟨fun _ _ => ⟨rfl, rfl, ?_⟩, fun out => by omega⟩
  rw [numberOf_of_sig_zero ((fpClass_zero_iff f).mp zero).2]
  simp

theorem fcvtTo_not_finite (never : ¬ isFinite f) :
    (fcvtTo rc f lo hi indefinite).res = FReg.ofSig indefinite ∧ (fcvtTo rc f lo hi indefinite).v = true := by
  have zero : f.fpClass ≠ .zero := fun h => never ((fpClass_zero_iff f).mp h).1
  have normal : f.fpClass ≠ .normal := fun h => never ((fpClass_number_iff f).mp (.inl h)).1
  have unnormal : f.fpClass ≠ .unnormal := fun h => never ((fpClass_number_iff f).mp (.inr h)).1
  unfold fcvtTo
  generalize f.fpClass = c at *
  cases c with
  | zero => exact absurd rfl zero
  | normal => exact absurd rfl normal
  | unnormal => exact absurd rfl unnormal
  | _ => exact ⟨rfl, rfl⟩

theorem fcvtTo_isRight (low : lo ≤ 0) (high : 0 ≤ hi) : ConvertIsRight rc f lo hi indefinite (fcvtTo rc f lo hi indefinite) := by
  by_cases finite : isFinite f
  · have rounds : roundsTo rc (numberOf f) (signedInt f.sign (roundUnits rc f.sign f.exact.m f.exact.k 0).1) := by
      rw [numberOf_eq_signed]
      exact (roundUnits_spec rc f.sign f.exact.m f.exact.k 0).1.roundsTo (by positivity)
    rcases fpClass_of_isFinite finite with zero | number
    · refine convertIsRight_of_finite finite ?_ (fcvtTo_zero zero low high)
      have whole := (RoundsMag.whole rc false 0).roundsTo Nat.cast_zero.ge
      rwa [numberOf_of_sig_zero ((fpClass_zero_iff f).mp zero).2, ← Nat.cast_zero]
    · exact convertIsRight_of_finite finite rounds (fcvtTo_number number.symm)
  · exact convertIsRight_of_not_finite finite (fcvtTo_not_finite finite)

end

end Sys2Proof.Forms

end

section

open Sys2Proof Machine Forms

/-- Settles O54: order by the keys of the operands, class by class, and conversions by the rounded magnitude. -/
theorem fpOrderClassAndConversionValues : Obligations.FpOrderClassAndConversionValues := by
  refine ⟨fun m a b _ _ => minMax_isRight m a b, fun r a b na nb => compare_isRight r na nb, fclass_isRight, fun f => ?_, fun rc f => ?_⟩
  · by_cases zero : f.sig = 0
    · have result : fcvtXf f = FReg.zero := if_pos zero
      rw [result, numberOf_of_sig_zero rfl, zero]
      exact ⟨⟨by decide, by decide⟩, by simp, fun nonzero => absurd rfl nonzero, fun _ => rfl⟩
    · have normal : isNormal (fcvtXf f) := fcvtXf_eq zero ▸ (keptBits_of_nat (intMag_ne_zero zero) (intMag_le f)).isNormal
      exact ⟨normal.1, fcvtXf_val zero, fun _ => normal, fun none => absurd none zero⟩
  · exact ⟨fcvtTo_isRight (by decide) (by decide), fcvtTo_isRight (by decide) (by decide), fcvtTo_isRight (by decide) (by decide),
      fcvtTo_isRight (by decide) (by decide)⟩

end

section
/-! SUPPORT. The reciprocal and the square root of an exact value, with their sticky bit, as numbers (R510). -/

namespace Sys2Proof.Machine

open Sys2Proof.Forms

/-! ### The reciprocal -/

section

variable (z : Exact)

/-- The significand of a reciprocal, times that of its operand, misses `2^201` by at most the operand's. -/
theorem div_significand {n m : ℕ} (pos : 0 < m) :
    |((2 * (n / m) + (if n % m = 0 then 0 else 1) : ℕ) : ℤ) * m - 2 * n| ≤ m := by
  have split := Nat.div_add_mod n m
  have rest := Nat.mod_lt n pos
  have whole : (m : ℤ) * (n / m : ℕ) + (n % m : ℕ) = n := by exact_mod_cast split
  have small : ((n % m : ℕ) : ℤ) < m := by exact_mod_cast rest
  generalize (n / m) = q at *
  generalize (n % m) = r at *
  split
  · next zero =>
    subst zero
    push_cast at *
    rw [show (2 * (q : ℤ) + 0) * m - 2 * n = 0 by linarith, abs_zero]
    exact Int.natCast_nonneg m
  · push_cast
    rw [abs_le]
    constructor <;> linarith

theorem Exact.one_div_val : (Exact.one.div z).val * z.val = (Exact.one.div z).m * z.m / 2 ^ 201 := by
  have places : (2 : ℚ) ^ (0 - z.k - 201) * 2 ^ z.k = 1 / 2 ^ 201 := by
    rw [← zpow_add₀ (by norm_num), one_div, ← zpow_natCast, ← zpow_neg]
    congr 1
    push_cast
    ring
  unfold Exact.val
  have sign : (Exact.one.div z).neg = z.neg := Bool.false_bne z.neg
  have place : (Exact.one.div z).k = 0 - z.k - 201 := rfl
  rw [sign, place]
  calc _ = (if z.neg then -1 else 1) * (if z.neg then -1 else 1) * ((Exact.one.div z).m * z.m) * ((2 : ℚ) ^ (0 - z.k - 201) * 2 ^ z.k) := by
        ring
    _ = _ := by
        rw [places]
        cases z.neg <;> simp <;> ring

theorem Exact.one_div_close (pos : 0 < z.m) (small : z.m ≤ 2 ^ 134) : |(Exact.one.div z).val * z.val - 1| ≤ 1 / 2 ^ 67 := by
  have near := div_significand (n := 1 <<< 200) pos
  have near' : |((Exact.one.div z).m * z.m - 2 * (1 <<< 200 : ℕ) : ℚ)| ≤ z.m := by exact_mod_cast near
  have top : (2 * (1 <<< 200 : ℕ) : ℚ) = 2 ^ 201 := by
    rw [Nat.shiftLeft_eq]
    norm_num
  have size : (z.m : ℚ) ≤ 2 ^ 134 := by exact_mod_cast small
  rw [top] at near'
  rw [Exact.one_div_val, show ((Exact.one.div z).m * z.m / 2 ^ 201 - 1 : ℚ) = ((Exact.one.div z).m * z.m - 2 ^ 201) / 2 ^ 201 by ring,
    abs_div, abs_of_pos (by positivity : (0 : ℚ) < 2 ^ 201), div_le_iff₀ (by positivity)]
  exact (near'.trans size).trans (by norm_num)

end

/-! ### The square root -/

/-- The bits of a root below the bits still to be found. -/
theorem natSqrtBits_spec (n : ℕ) : ∀ (b r : ℕ), r * r ≤ n → n < (r + 2 ^ b) * (r + 2 ^ b) →
    natSqrtBits n b r * natSqrtBits n b r ≤ n ∧ n < (natSqrtBits n b r + 1) * (natSqrtBits n b r + 1)
  | 0, r, low, high => ⟨low, high⟩
  | b + 1, r, low, high => by
    unfold natSqrtBits
    split
    · next fits =>
      refine natSqrtBits_spec n b _ fits ?_
      rwa [add_assoc, ← two_mul, ← pow_succ']
    · next large => exact natSqrtBits_spec n b r low (not_le.mp large)

/-- The integer below the square root of a number of at most 280 bits. -/
theorem natSqrtBits_eq_floor {n : ℕ} (small : n < 2 ^ 140 * 2 ^ 140) : (natSqrtBits n 140 0 : ℝ) ≤ √n ∧ √n < natSqrtBits n 140 0 + 1 := by
  obtain ⟨low, high⟩ := natSqrtBits_spec n 140 0 (Nat.zero_le n) (by rwa [zero_add])
  constructor
  · refine Real.le_sqrt_of_sq_le ?_
    rw [pow_two]
    exact_mod_cast low
  · rw [Real.sqrt_lt' (by positivity), pow_two]
    exact_mod_cast high

section

variable (a : Exact)

/-- How far a root shifts the significand: enough bits, and the place left even. -/
def rootShift : ℕ := if a.k % 2 = 0 then 200 else 201

/-- The shifted significand of a root. -/
def rootArg : ℕ := a.m <<< rootShift a

/-- Half of the shifted place. -/
def rootPlace : ℤ := (a.k - rootShift a) / 2

theorem Exact.sqrt_eq : a.sqrt =
    { neg := false,
      m := 2 * natSqrtBits (rootArg a) 140 0 + (if natSqrtBits (rootArg a) 140 0 * natSqrtBits (rootArg a) 140 0 = rootArg a then 0 else 1),
      k := rootPlace a - 1 } := rfl

theorem rootPlace_even : 2 * rootPlace a = a.k - rootShift a := by
  unfold rootPlace rootShift
  split <;> omega

theorem rootArg_bounds (pos : 0 < a.m) (small : a.m < 2 ^ 64) : 2 ^ 200 ≤ rootArg a ∧ rootArg a < 2 ^ 132 * 2 ^ 133 := by
  have shift : rootShift a = 200 ∨ rootShift a = 201 := by
    unfold rootShift
    split <;> simp
  unfold rootArg
  rw [Nat.shiftLeft_eq]
  rcases shift with h | h <;> rw [h] <;> omega

variable {a} (pos : 0 < a.m) (small : a.m < 2 ^ 64)

include pos small in
theorem Exact.sqrt_m : 0 < a.sqrt.m ∧ a.sqrt.m ≤ 2 ^ 134 := by
  obtain ⟨low, high⟩ := rootArg_bounds a pos small
  obtain ⟨below, above⟩ := natSqrtBits_spec (rootArg a) 140 0 (Nat.zero_le _) (by rw [zero_add]; omega)
  rw [Exact.sqrt_eq]
  dsimp only
  generalize natSqrtBits (rootArg a) 140 0 = r at *
  have positive : 0 < r := Nat.pos_of_ne_zero fun zero => by
    rw [zero] at above
    omega
  have bounded : r < 2 ^ 133 := by
    by_contra big
    have := Nat.mul_le_mul (not_lt.mp big) (not_lt.mp big)
    omega
  split <;> omega

theorem sqrt_val_eq (positive : a.neg = false) : √((a.val : ℚ) : ℝ) = √(rootArg a) * 2 ^ rootPlace a := by
  have shifted : ((a.val : ℚ) : ℝ) = rootArg a * (2 ^ rootPlace a) ^ 2 := by
    unfold Exact.val rootArg
    rw [positive, if_neg Bool.false_ne_true, Nat.shiftLeft_eq, ← zpow_natCast, ← zpow_mul, mul_comm (rootPlace a)]
    push_cast
    rw [rootPlace_even, zpow_sub₀ (by norm_num), zpow_natCast]
    field_simp
  rw [shifted, Real.sqrt_mul (by positivity), Real.sqrt_sq (by positivity)]

include pos small in
/-- A root is within a relative error of `2^-100`. -/
theorem Exact.sqrt_close (positive : a.neg = false) :
    |((a.sqrt.val : ℚ) : ℝ) - √((a.val : ℚ) : ℝ)| ≤ √((a.val : ℚ) : ℝ) * (1 / 2 ^ 100) := by
  obtain ⟨low, high⟩ := rootArg_bounds a pos small
  obtain ⟨below, above⟩ := natSqrtBits_eq_floor (n := rootArg a) (by omega)
  have large : (2 ^ 100 : ℝ) ≤ √(rootArg a) := by
    refine Real.le_sqrt_of_sq_le ?_
    rw [← pow_mul]
    exact_mod_cast low
  have root : ((a.sqrt.val : ℚ) : ℝ) = (a.sqrt.m / 2 : ℝ) * 2 ^ rootPlace a := by
    unfold Exact.val
    rw [show a.sqrt.neg = false from rfl, show a.sqrt.k = rootPlace a - 1 from rfl, if_neg Bool.false_ne_true, zpow_sub₀ (by norm_num)]
    push_cast
    ring
  have near : |(a.sqrt.m / 2 : ℝ) - √(rootArg a)| ≤ 1 := by
    rw [Exact.sqrt_eq]
    dsimp only
    split
    · next exact =>
      push_cast
      rw [abs_le]
      constructor <;> linarith
    · push_cast
      rw [abs_le]
      constructor <;> linarith
  rw [root, sqrt_val_eq positive, ← sub_mul, abs_mul, abs_of_pos (by positivity : (0 : ℝ) < 2 ^ rootPlace a), mul_right_comm]
  refine mul_le_mul_of_nonneg_right (near.trans ?_) (by positivity)
  rw [mul_one_div, le_div_iff₀ (by positivity), one_mul]
  exact large

end

end Sys2Proof.Machine

end

section
/-! SUPPORT. How near a rounded value is to the exact one, denormal results included, and the rounded reciprocal (R503, R508, R510). -/

namespace Sys2Proof.Machine

open Sys2Proof.Forms

/-! ### Denormal results -/

/-- A format that delivers its denormal results: the U trap is off, nothing is flushed, and the exponent field of a denormal result is that of
the smallest exponent. -/
structure DeliversDenormals (env : FpEnv) : Prop where
  noTrap  : env.trap.getLsbD 4 = false
  noFlush : env.ftz = false
  prec    : 24 ≤ env.prec ∧ env.prec ≤ 64
  low     : -65534 ≤ env.emin
  middle  : env.emin ≤ 0
  high    : env.emax ≤ 65535
  field   : (env.denE.toNat : ℤ) = env.emin + 65535

theorem FpEnv.register_delivers : DeliversDenormals FpEnv.register := by constructor <;> decide

theorem FpEnv.singles_delivers : DeliversDenormals FpEnv.singles := by constructor <;> decide

section

variable {env : FpEnv} {x : Exact}

/-- The significand of a result in units of the last place of the smallest numbers. -/
def FpEnv.denormalSig (env : FpEnv) (x : Exact) : ℕ := (roundUnits env.rc x.neg x.m x.k (env.emin - (env.prec - 1 : ℕ))).1

theorem FpEnv.denormalSig_spec : RoundsMag env.rc x.neg (|x.val| / 2 ^ (env.emin - (env.prec - 1 : ℕ))) (env.denormalSig x) := by
  rw [Exact.abs_val]
  exact (roundUnits_spec env.rc x.neg x.m x.k _).1

variable (h : DeliversDenormals env)

include h in
theorem FpEnv.round_of_tiny (low : env.leadExp x < env.emin) (high : env.leadExp x ≤ env.emax) :
    (env.round x).res = env.denormal x.neg (env.denormalSig x) := by
  unfold FpEnv.leadExp FpEnv.roundedSig FpEnv.place at low high
  unfold FpEnv.round FpEnv.denormalSig
  dsimp only
  simp only [decide_eq_true_eq]
  rw [if_neg (not_lt.mpr high), if_pos low, h.noTrap, h.noFlush]
  rfl

include h in
/-- A denormal result is the number of its units. -/
theorem FpEnv.denormal_val {neg : Bool} {n : ℕ} (fits : n ≤ 2 ^ (env.prec - 1)) : isFinite (env.denormal neg n) ∧
    numberOf (env.denormal neg n) = (if neg then -1 else 1) * (n * 2 ^ (env.emin - (env.prec - 1 : ℕ))) := by
  obtain ⟨p1, p2⟩ := h.prec
  have low := h.low
  have middle := h.middle
  have field := h.field
  have half : 2 ^ (env.prec - 1) < 2 ^ env.prec := Nat.pow_lt_pow_right (by norm_num) (by omega)
  unfold FpEnv.denormal
  by_cases zero : n = 0
  · rw [if_pos zero, numberOf_of_sig_zero rfl, zero]
    exact ⟨isFinite_of_exp (show (0 : BitVec 17).toNat < 0x1FFFE by decide), by simp⟩
  rw [if_neg zero]
  by_cases least : n = 2 ^ (env.prec - 1)
  · have kept : KeptBits n env.prec env.emin := ⟨by omega, by omega, by omega, by omega⟩
    rw [if_pos least]
    exact ⟨kept.isNormal.1, kept.val⟩
  · have exponent : env.denE ≠ 0 := fun none => by
      rw [none] at field
      simp at field
      omega
    have whole : n <<< (64 - env.prec) < 2 ^ 64 := by
      rw [Nat.shiftLeft_eq]
      calc n * 2 ^ (64 - env.prec) < 2 ^ env.prec * 2 ^ (64 - env.prec) := Nat.mul_lt_mul_of_pos_right (by omega) (by positivity)
        _ = 2 ^ 64 := by rw [← pow_add]; congr 1; omega
    have places : (2 : ℚ) ^ (64 - env.prec) * 2 ^ ((env.denE.toNat : ℤ) - 65535 - 63) = 2 ^ (env.emin - (env.prec - 1 : ℕ)) := by
      rw [← zpow_natCast, ← zpow_add₀ (by norm_num)]
      congr 1
      omega
    rw [if_neg least]
    refine ⟨isFinite_of_exp (by dsimp only; omega), ?_⟩
    unfold numberOf
    dsimp only
    rw [if_neg exponent, BitVec.toNat_ofNat, Nat.mod_eq_of_lt whole, Nat.shiftLeft_eq, ← places]
    push_cast
    ring

/-! ### How near a rounded value is -/

/-- A magnitude in whole units, near the exact one, with units small beside it. -/
theorem RoundsMag.close {rc : BitVec 2} {n : ℕ} {u : ℤ} (rounds : RoundsMag rc x.neg (|x.val| / 2 ^ u) n)
    (fine : (2 : ℚ) ^ u ≤ |x.val| / 2 ^ 18) : |(if x.neg then -1 else 1) * (n * 2 ^ u) - x.val| ≤ |x.val| / 2 ^ 18 := by
  have unit : (2 : ℚ) ^ u ≠ 0 := by positivity
  have error : (if x.neg then -1 else 1) * (n * 2 ^ u) - x.val = (if x.neg then -1 else 1) * ((n - |x.val| / 2 ^ u) * 2 ^ u) := by
    rw [sub_mul, div_mul_cancel₀ _ unit, mul_sub]
    congr 1
    rw [x.val_eq_abs]
    cases x.neg <;> simp
  have sign : |(if x.neg then -1 else 1 : ℚ)| = 1 := by cases x.neg <;> simp
  rw [error, abs_mul, sign, one_mul, abs_mul, abs_of_pos (by positivity : (0 : ℚ) < 2 ^ u)]
  calc _ ≤ 1 * (2 : ℚ) ^ u := mul_le_mul_of_nonneg_right rounds.near.le (by positivity)
    _ ≤ _ := by rwa [one_mul]

variable (nonzero : x.m ≠ 0)

include nonzero in
theorem FpEnv.place_fine (hp : 24 ≤ env.prec) : (2 : ℚ) ^ env.place x ≤ |x.val| / 2 ^ 18 := by
  have lower := (le_div_iff₀ (by positivity)).mp (env.magnitude_bounds nonzero).1
  have many : (2 : ℚ) ^ 18 ≤ 2 ^ (env.prec - 1) := pow_le_pow_right₀ (by norm_num) (by omega)
  rw [le_div_iff₀ (by positivity), mul_comm]
  exact (mul_le_mul_of_nonneg_right many (by positivity)).trans lower

include nonzero in
theorem FpEnv.denormalSig_le (low : env.leadExp x < env.emin) : env.denormalSig x ≤ 2 ^ (env.prec - 1) := by
  have near := (abs_lt.mp (FpEnv.denormalSig_spec (env := env) (x := x)).near).2
  have upper := (div_lt_iff₀ (by positivity)).mp (env.magnitude_bounds nonzero).2
  have below : env.place x + (env.prec - 1 : ℕ) + 1 ≤ env.emin := by
    unfold FpEnv.leadExp at low
    split at low <;> omega
  have bound : |x.val| / 2 ^ (env.emin - (env.prec - 1 : ℕ)) ≤ 2 ^ (env.prec - 1) := by
    rw [div_le_iff₀ (by positivity)]
    calc |x.val| ≤ 2 * 2 ^ (env.prec - 1) * 2 ^ env.place x := upper.le
      _ = 2 ^ (env.place x + (env.prec - 1 : ℕ) + 1) := by
        rw [zpow_add₀ (by norm_num), zpow_add₀ (by norm_num), zpow_natCast, zpow_one]
        ring
      _ ≤ 2 ^ env.emin := zpow_le_zpow_right₀ (by norm_num) below
      _ = _ := by
        rw [← zpow_natCast, ← zpow_add₀ (by norm_num)]
        congr 1
        ring
  rw [← Nat.lt_succ_iff, ← Nat.cast_lt (α := ℚ)]
  push_cast
  linarith

include h nonzero in
/-- A result that does not overflow is finite, and near the exact value unless that is far below the smallest number. -/
theorem FpEnv.round_close (high : env.leadExp x ≤ env.emax) (large : (2 : ℚ) ^ (env.emin - 3) ≤ |x.val|) :
    isFinite (env.round x).res ∧ |numberOf (env.round x).res - x.val| ≤ |x.val| / 2 ^ 18 := by
  obtain ⟨p1, p2⟩ := h.prec
  by_cases low : env.emin ≤ env.leadExp x
  · have kept := env.keptBits nonzero ⟨by omega, p2⟩ (h.low.trans low) (high.trans h.high)
    obtain ⟨away, result⟩ := env.round_of_range x low high
    rw [result, numberOf_eq_val]
    refine ⟨kept.isNormal.1, ?_⟩
    rw [show (FReg.ofParts x.neg (env.keptSig x) env.prec (env.leadExp x)).exact.val = _ from FpEnv.kept_val kept]
    exact (env.roundedSig_spec (x := x)).1.close (env.place_fine nonzero p1)
  · have tiny := not_le.mp low
    obtain ⟨finite, value⟩ := FpEnv.denormal_val h (neg := x.neg) (FpEnv.denormalSig_le nonzero tiny)
    rw [FpEnv.round_of_tiny h tiny high, value]
    refine ⟨finite, FpEnv.denormalSig_spec.close (le_trans ?_ (div_le_div_of_nonneg_right large (by positivity)))⟩
    rw [← zpow_natCast, ← zpow_sub₀ (by norm_num)]
    exact zpow_le_zpow_right₀ (by norm_num) (by push_cast; omega)

include nonzero in
/-- A magnitude below the largest power of two does not overflow. -/
theorem FpEnv.leadExp_le (small : |x.val| < 2 ^ env.emax) : env.leadExp x ≤ env.emax := by
  have lower := (le_div_iff₀ (by positivity)).mp (env.magnitude_bounds nonzero).1
  have below : env.place x + (env.prec - 1 : ℕ) < env.emax := by
    refine (zpow_lt_zpow_iff_right₀ (a := (2 : ℚ)) (by norm_num)).mp (lt_of_le_of_lt ?_ small)
    rwa [add_comm, zpow_add₀ (by norm_num), zpow_natCast]
  unfold FpEnv.leadExp
  split <;> omega

/-! ### The rounded reciprocal -/

variable {z : Exact} (pos : 0 < z.m) (few : z.m ≤ 2 ^ 134)

include pos few in
theorem Exact.one_div_bounds : 1 / 2 ≤ |(Exact.one.div z).val| * |z.val| ∧ |(Exact.one.div z).val| * |z.val| ≤ 2 := by
  obtain ⟨low, high⟩ := abs_le.mp (Exact.one_div_close z pos few)
  rw [← abs_mul]
  constructor
  · exact le_trans (by norm_num at low ⊢; linarith) (le_abs_self _)
  · exact abs_le.mpr ⟨by norm_num at low ⊢; linarith, by norm_num at high ⊢; linarith⟩

theorem Exact.abs_val_pos (pos : 0 < z.m) : 0 < |z.val| := by
  have : (0 : ℚ) < z.m := by exact_mod_cast pos
  rw [Exact.abs_val]
  positivity

include pos few in
theorem Exact.one_div_m : (Exact.one.div z).m ≠ 0 := by
  intro none
  have low := (Exact.one_div_bounds pos few).1
  rw [(Exact.one.div z).abs_val, none, Nat.cast_zero, zero_mul, zero_mul] at low
  norm_num at low

include h pos few in
/-- The reciprocal of a value that is not too large for the format, rounded, is within a relative error of `2^-17`. -/
theorem FpEnv.recip_close (high : env.leadExp (Exact.one.div z) ≤ env.emax) (notLarge : |z.val| ≤ 2 ^ (2 - env.emin)) :
    isFinite (env.round (Exact.one.div z)).res ∧ |numberOf (env.round (Exact.one.div z)).res * z.val - 1| ≤ 1 / 2 ^ 16 := by
  have zpos := Exact.abs_val_pos pos
  obtain ⟨lower, upper⟩ := Exact.one_div_bounds pos few
  have large : (2 : ℚ) ^ (env.emin - 3) ≤ |(Exact.one.div z).val| := by
    refine le_of_mul_le_mul_right ?_ zpos
    calc (2 : ℚ) ^ (env.emin - 3) * |z.val| ≤ 2 ^ (env.emin - 3) * 2 ^ (2 - env.emin) := mul_le_mul_of_nonneg_left notLarge (by positivity)
      _ = 1 / 2 := by
        rw [← zpow_add₀ (by norm_num), show env.emin - 3 + (2 - env.emin) = -1 by ring]
        norm_num
      _ ≤ _ := lower
  obtain ⟨finite, near⟩ := env.round_close h (Exact.one_div_m pos few) high large
  refine ⟨finite, ?_⟩
  have exact := Exact.one_div_close z pos few
  generalize numberOf (env.round (Exact.one.div z)).res = r at *
  generalize (Exact.one.div z).val = y at *
  have product : |(r - y) * z.val| ≤ 2 / 2 ^ 18 := by
    rw [abs_mul]
    calc |r - y| * |z.val| ≤ |y| / 2 ^ 18 * |z.val| := mul_le_mul_of_nonneg_right near zpos.le
      _ = |y| * |z.val| / 2 ^ 18 := by ring
      _ ≤ 2 / 2 ^ 18 := div_le_div_of_nonneg_right upper (by positivity)
  calc |r * z.val - 1| = |(r - y) * z.val + (y * z.val - 1)| := by congr 1; ring
    _ ≤ |(r - y) * z.val| + |y * z.val - 1| := abs_add_le _ _
    _ ≤ 2 / 2 ^ 18 + 1 / 2 ^ 67 := add_le_add product exact
    _ ≤ 1 / 2 ^ 16 := by norm_num

include pos few in
theorem FpEnv.recip_leadExp_le (notSmall : (2 : ℚ) ^ (2 - env.emax) ≤ |z.val|) : env.leadExp (Exact.one.div z) ≤ env.emax := by
  refine env.leadExp_le (Exact.one_div_m pos few) (lt_of_mul_lt_mul_right ?_ (Exact.abs_val_pos pos).le)
  calc |(Exact.one.div z).val| * |z.val| ≤ 2 := (Exact.one_div_bounds pos few).2
    _ < 2 ^ env.emax * 2 ^ (2 - env.emax) := by
      rw [← zpow_add₀ (by norm_num), show env.emax + (2 - env.emax) = 2 by ring]
      norm_num
    _ ≤ 2 ^ env.emax * |z.val| := mul_le_mul_of_nonneg_left notSmall (by positivity)

end

end Sys2Proof.Machine

end

section
/-! SUPPORT. The bounds of the delivered approximations as real numbers: the table's values, and the rounded ones (R510). -/

namespace Sys2Proof.Machine

open Sys2Proof.Forms

/-! ### The error bounds -/

theorem div_lt_two_rpow {a w q n : ℕ} (pos : 0 < q) (h : a ^ q * 2 ^ n < 2 ^ (w * q)) : (a : ℝ) / 2 ^ w < (2 : ℝ) ^ (-(n : ℝ) / q) := by
  refine lt_of_pow_lt_pow_left₀ q (by positivity) ?_
  have power : ((2 : ℝ) ^ (-(n : ℝ) / q)) ^ q = 1 / 2 ^ n := by
    rw [← Real.rpow_natCast, ← Real.rpow_mul (by norm_num), div_mul_cancel₀ _ (by positivity), Real.rpow_neg (by norm_num), Real.rpow_natCast,
      one_div]
  rw [power, div_pow, ← pow_mul, div_lt_div_iff₀ (by positivity) (by positivity), one_mul]
  exact_mod_cast h

theorem recipError_bound : ((recipError - 1 : ℕ) : ℝ) / 2 ^ 128 < (2 : ℝ) ^ (-(8886 : ℝ) / 1000) := by
  have bound := div_lt_two_rpow (a := recipError - 1) (w := 128) (q := 1000) (n := 8886) (by norm_num) (by decide +kernel)
  rwa [Nat.cast_ofNat, Nat.cast_ofNat] at bound

theorem rsqrtError_bound : ((rsqrtError - 1 : ℕ) : ℝ) / 2 ^ 256 < (2 : ℝ) ^ (-(8831 : ℝ) / 1000) := by
  have bound := div_lt_two_rpow (a := rsqrtError - 1) (w := 256) (q := 1000) (n := 8831) (by norm_num) (by decide +kernel)
  rwa [Nat.cast_ofNat, Nat.cast_ofNat] at bound

theorem rounding_bound {c : ℝ} (h : -9 ≤ c) : (1 / 2 ^ 15 : ℝ) < (2 : ℝ) ^ c :=
  calc (1 / 2 ^ 15 : ℝ) < 1 / 2 ^ 9 := by norm_num
    _ = (2 : ℝ) ^ (-9 : ℝ) := by
      rw [Real.rpow_neg (by norm_num), one_div]
      norm_num
    _ ≤ (2 : ℝ) ^ c := Real.rpow_le_rpow_of_exponent_le (by norm_num) h

/-! ### Table values -/

section

variable {x : Exact} {n j : ℕ}

/-- A value above 1/2 with few significant bits is whole in units of the last of them. -/
theorem Exact.k_ge_of_half (few : x.m < 2 ^ n) (half : 1 / 2 < x.val) : -(n : ℤ) ≤ x.k := by
  have size : x.val ≤ x.m * 2 ^ x.k := Exact.abs_val x ▸ le_abs_self x.val
  have bits : (x.m : ℚ) < 2 ^ n := by exact_mod_cast few
  have product : (2 : ℚ) ^ (-1 : ℤ) < 2 ^ ((n : ℤ) + x.k) := by
    rw [zpow_add₀ (by norm_num), zpow_natCast]
    calc (2 : ℚ) ^ (-1 : ℤ) = 1 / 2 := by norm_num
      _ < x.m * 2 ^ x.k := half.trans_le size
      _ < 2 ^ n * 2 ^ x.k := mul_lt_mul_of_pos_right bits (by positivity)
  have := (zpow_lt_zpow_iff_right₀ (by norm_num)).mp product
  omega

theorem Exact.scaled_places (whole : -(n : ℤ) ≤ x.k) : x.val = x.scaled (-(n : ℤ)) / 2 ^ n := by
  rw [Exact.scaled_eq _ whole, zpow_neg, zpow_natCast]
  field_simp

/-- The value of a whole number of small units. -/
theorem Exact.unit_val (a : ℕ) (k : ℕ) : (Exact.mk false a (-(k : ℤ))).val = a / 2 ^ k := by
  unfold Exact.val
  rw [if_neg Bool.false_ne_true, one_mul, zpow_neg, zpow_natCast]
  rfl

theorem Exact.units_lt_iff (whole : -(n : ℤ) ≤ x.k) (a : ℕ) :
    (Exact.mk false a (-((n + j : ℕ) : ℤ))).lt x = true ↔ (a : ℤ) < x.scaled (-(n : ℤ)) * 2 ^ j := by
  rw [Exact.lt_iff, Exact.unit_val, Exact.scaled_places whole, pow_add, div_lt_div_iff₀ (by positivity) (by positivity), ← mul_assoc,
    mul_right_comm, mul_lt_mul_iff_left₀ (by positivity)]
  exact_mod_cast Iff.rfl

theorem Exact.lt_units_iff (whole : -(n : ℤ) ≤ x.k) (a : ℕ) :
    x.lt (Exact.mk false a (-((n + j : ℕ) : ℤ))) = true ↔ x.scaled (-(n : ℤ)) * 2 ^ j < (a : ℤ) := by
  rw [Exact.lt_iff, Exact.unit_val, Exact.scaled_places whole, pow_add, div_lt_div_iff₀ (by positivity) (by positivity), ← mul_assoc,
    mul_right_comm, mul_lt_mul_iff_left₀ (by positivity)]
  exact_mod_cast Iff.rfl

theorem half_of_units {a k : ℕ} (half : 2 ^ k ≤ 2 * a) (low : (Exact.mk false a (-(k : ℤ))).lt x = true) : 1 / 2 < x.val := by
  rw [Exact.lt_iff, Exact.unit_val] at low
  refine lt_of_le_of_lt ?_ low
  rw [div_le_div_iff₀ (by positivity) (by positivity), one_mul, mul_comm]
  exact_mod_cast half

/-- Between the bounds of a reciprocal, a product of two significands is one unit nearer to 1. -/
theorem nearOne_bound {e : ℕ} (pos : 0 < e) (small : e < 2 ^ 127) (few : x.m < 2 ^ 128) (near : x.nearOne e = true) :
    |x.val - 1| ≤ ((e - 1 : ℕ) : ℚ) / 2 ^ 128 := by
  obtain ⟨low, high⟩ := (Bool.and_eq_true _ _).mp near
  have whole := Exact.k_ge_of_half few (half_of_units (k := 128) (by omega) low)
  have above := (Exact.units_lt_iff (j := 0) whole _).mp low
  have below := (Exact.lt_units_iff (j := 0) whole _).mp high
  rw [Exact.scaled_places whole, div_sub_one (by positivity), abs_div, abs_of_pos (by positivity : (0 : ℚ) < 2 ^ 128)]
  refine div_le_div_of_nonneg_right ?_ (by positivity)
  have dist : |x.scaled (-((128 : ℕ) : ℤ)) - 2 ^ 128| ≤ ((e - 1 : ℕ) : ℤ) := by
    rw [abs_le]
    omega
  exact_mod_cast dist

/-- The bounds of a square root, one unit nearer to 1, lie outside the products of three significands within the bounds. -/
theorem rsqrt_bounds : (2 ^ 256 - rsqrtError + 1) ^ 2 ≤ ((2 ^ 256 - rsqrtError) ^ 2 / 2 ^ 320 + 1) * 2 ^ 320 ∧
    ((2 ^ 256 + rsqrtError) ^ 2 - 1) / 2 ^ 320 * 2 ^ 320 ≤ (2 ^ 256 + rsqrtError - 1) ^ 2 := by
  decide +kernel

theorem le_of_next_multiple {a b c v : ℕ} (next : b ≤ (a / c + 1) * c) (h : a < v * c) : b ≤ v * c :=
  next.trans (Nat.mul_le_mul_right c (Nat.div_lt_of_lt_mul (mul_comm v c ▸ h)))

theorem le_of_last_multiple {a b c v : ℕ} (pos : 0 < c) (last : (a - 1) / c * c ≤ b) (h : v * c < a) : v * c ≤ b :=
  (Nat.mul_le_mul_right c ((Nat.le_div_iff_mul_le pos).mpr (by omega))).trans last

/-- The root of a whole number of units between two squares. -/
theorem sqrt_between {v l u s : ℕ} (places : n + j = 2 * s) (lower : l ^ 2 ≤ v * 2 ^ j) (upper : v * 2 ^ j ≤ u ^ 2) :
    (l : ℝ) / 2 ^ s ≤ √((v : ℝ) / 2 ^ n) ∧ √((v : ℝ) / 2 ^ n) ≤ u / 2 ^ s := by
  have square : (v : ℝ) / 2 ^ n = ((v * 2 ^ j : ℕ) : ℝ) / (2 ^ s) ^ 2 := by
    rw [← pow_mul, mul_comm s, ← places, pow_add]
    push_cast
    field_simp
  have lower' : (l : ℝ) ^ 2 ≤ ((v * 2 ^ j : ℕ) : ℝ) := by exact_mod_cast lower
  have upper' : ((v * 2 ^ j : ℕ) : ℝ) ≤ (u : ℝ) ^ 2 := by exact_mod_cast upper
  rw [square]
  constructor
  · refine Real.le_sqrt_of_sq_le ?_
    rw [div_pow]
    exact div_le_div_of_nonneg_right lower' (by positivity)
  · rw [Real.sqrt_le_iff, div_pow]
    exact ⟨by positivity, div_le_div_of_nonneg_right upper' (by positivity)⟩

/-- Between bounds that are one unit nearer to 1 than `e` units. -/
theorem near_one_of_between {r : ℝ} {e s : ℕ} (pos : 0 < e) (small : e ≤ 2 ^ s) (least : ((2 ^ s - e + 1 : ℕ) : ℝ) / 2 ^ s ≤ r)
    (most : r ≤ ((2 ^ s + e - 1 : ℕ) : ℝ) / 2 ^ s) : |r - 1| ≤ ((e - 1 : ℕ) : ℝ) / 2 ^ s := by
  have lower : ((2 ^ s - e + 1 : ℕ) : ℝ) / 2 ^ s = 1 - ((e - 1 : ℕ) : ℝ) / 2 ^ s := by
    rw [Nat.cast_add, Nat.cast_sub small, Nat.cast_pred pos]
    push_cast
    field_simp
    ring
  have upper : ((2 ^ s + e - 1 : ℕ) : ℝ) / 2 ^ s = 1 + ((e - 1 : ℕ) : ℝ) / 2 ^ s := by
    rw [Nat.add_sub_assoc pos, Nat.cast_add]
    push_cast
    field_simp
  rw [abs_le]
  constructor <;> linarith

/-- Between the bounds of a reciprocal square root, the root of a product of three significands is one unit nearer to 1. -/
theorem nearOneSq_bound (few : x.m < 2 ^ 192) (near : x.nearOneSq rsqrtError = true) :
    |√((x.val : ℚ) : ℝ) - 1| ≤ ((rsqrtError - 1 : ℕ) : ℝ) / 2 ^ 256 := by
  obtain ⟨low, high⟩ := (Bool.and_eq_true _ _).mp near
  have whole := Exact.k_ge_of_half few (half_of_units (k := 512) (by decide +kernel) low)
  have above := (Exact.units_lt_iff (j := 320) whole _).mp low
  have below := (Exact.lt_units_iff (j := 320) whole _).mp high
  obtain ⟨v, hv⟩ : ∃ v : ℕ, x.scaled (-((192 : ℕ) : ℤ)) = v := by
    refine Int.eq_ofNat_of_zero_le ?_
    by_contra neg
    have : x.scaled (-((192 : ℕ) : ℤ)) * 2 ^ 320 ≤ 0 := mul_nonpos_of_nonpos_of_nonneg (by omega) (by positivity)
    have := above.trans_le this
    omega
  rw [hv] at above below
  have lower := le_of_next_multiple rsqrt_bounds.1 (by exact_mod_cast above)
  have upper := le_of_last_multiple (by positivity) rsqrt_bounds.2 (by exact_mod_cast below)
  obtain ⟨least, most⟩ := sqrt_between (n := 192) (j := 320) (s := 256) rfl lower upper
  have value : ((x.val : ℚ) : ℝ) = (v : ℝ) / 2 ^ 192 := by
    rw [Exact.scaled_places whole, hv]
    push_cast
    rfl
  rw [value]
  exact near_one_of_between (by decide) (by decide) least most

end

end Sys2Proof.Machine

namespace Sys2Proof.Forms

open Sys2Proof.Machine

/-! ### The delivered approximations -/

section

variable {raw b : FReg}

theorem exact_m_lt (f : FReg) : f.exact.m < 2 ^ 64 := f.sig.isLt

theorem recip_table (normal : raw.fpClass = .normal) (near : (raw.exact.mul b.exact).nearOne recipError = true) :
    approximatesReciprocal raw b := by
  refine ⟨((fpClass_normal_iff raw).mp normal).1, lt_of_le_of_lt ?_ recipError_bound⟩
  have few : (raw.exact.mul b.exact).m < 2 ^ 128 :=
    (Nat.mul_lt_mul'' (exact_m_lt raw) (exact_m_lt b)).trans_eq (by norm_num)
  have bound := nearOne_bound (by decide) (by decide) few near
  rw [Exact.mul_val, ← Rat.cast_le (K := ℝ)] at bound
  simpa only [numberOf_eq_val, Rat.cast_abs, Rat.cast_sub, Rat.cast_one, Rat.cast_div, Rat.cast_natCast, Rat.cast_pow, Rat.cast_ofNat] using bound

theorem rsqrt_table (normal : raw.fpClass = .normal) (positive : raw.sign = false)
    (near : ((raw.exact.mul raw.exact).mul b.exact).nearOneSq rsqrtError = true) : approximatesRsqrt raw b := by
  refine ⟨((fpClass_normal_iff raw).mp normal).1, lt_of_le_of_lt ?_ rsqrtError_bound⟩
  have few : ((raw.exact.mul raw.exact).mul b.exact).m < 2 ^ 192 :=
    (Nat.mul_lt_mul'' (Nat.mul_lt_mul'' (exact_m_lt raw) (exact_m_lt raw)) (exact_m_lt b)).trans_eq (by norm_num)
  have bound := nearOneSq_bound few near
  have nonneg : (0 : ℚ) ≤ numberOf raw := by
    rw [numberOf_eq_val, Exact.val_eq_abs, show raw.exact.neg = false from positive]
    exact abs_nonneg _
  rw [Exact.mul_val, Exact.mul_val, ← pow_two, Rat.cast_mul, Rat.cast_pow, Real.sqrt_mul (by positivity),
    Real.sqrt_sq (by exact_mod_cast nonneg)] at bound
  exact bound

end

end Sys2Proof.Forms

end

section
/-! SUPPORT. The operands of an approximation, and the rounded reciprocal and reciprocal square root of one (R510). -/

namespace Sys2Proof.Forms

open Sys2Proof.Machine

/-! ### The sizes of operands -/

/-- A number of a format whose magnitude is from `2^low` to below `2^high`. -/
structure Sized (b : FReg) (low high : ℤ) : Prop where
  finite : isFinite b
  least  : (2 : ℚ) ^ low ≤ |numberOf b|
  most   : |numberOf b| ≤ 2 ^ high

section

variable {b : FReg}

theorem sized_of_exponent {l h : ℤ} {s : ℕ} (finite : isFinite b) (sig : 2 ^ s ≤ b.sig.toNat) (low : l ≤ b.exact.k) (high : b.exact.k ≤ h) :
    Sized b (s + l) (64 + h) := by
  have small : (b.sig.toNat : ℚ) ≤ 2 ^ 64 := by exact_mod_cast b.sig.isLt.le
  have large : (2 : ℚ) ^ s ≤ b.sig.toNat := by exact_mod_cast sig
  have size : |numberOf b| = b.sig.toNat * 2 ^ b.exact.k := Exact.abs_val b.exact
  refine ⟨finite, ?_, ?_⟩
  · rw [size, zpow_add₀ (by norm_num), zpow_natCast]
    exact mul_le_mul large (zpow_le_zpow_right₀ (by norm_num) low) (by positivity) (by positivity)
  · rw [size, zpow_add₀ (by norm_num)]
    exact mul_le_mul small (zpow_le_zpow_right₀ (by norm_num) high) (by positivity) (by positivity)

/-- The numbers of the register format. -/
theorem register_sized (finite : isFinite b) (nonzero : b.sig ≠ 0) : Sized b (-65597) 65536 := by
  have pos : 2 ^ 0 ≤ b.sig.toNat := Nat.pos_of_ne_zero fun zero => nonzero (BitVec.eq_of_toNat_eq zero)
  have exp : b.exp.toNat ≠ 0x1FFFF := fun ones => finite.1 (BitVec.eq_of_toNat_eq ones)
  have bits := b.exp.isLt
  have places : -65597 ≤ b.exact.k ∧ b.exact.k ≤ 65472 := by
    unfold FReg.exact
    dsimp only
    split
    · omega
    · next some =>
      have : b.exp.toNat ≠ 0 := fun zero => some (BitVec.eq_of_toNat_eq zero)
      omega
  exact sized_of_exponent finite pos places.1 places.2

/-- The numbers of a half of single precision. -/
theorem single_sized {w : BitVec 32} (finite : isFinite (singleToReg w)) (nonzero : (singleToReg w).sig ≠ 0) :
    Sized (singleToReg w) (-149) 128 := by
  have fields : Unpacks (singleToReg w) 8 23 w.toNat := by
    have unpacks := single_unpacks w.isLt
    rwa [show FpFormat.single.toReg w.toNat = singleToReg w from congrArg singleToReg (show BitVec.ofNat 32 w.toNat = w by simp)] at unpacks
  have hexp := fields.exp
  have hsig := fields.sig
  have ones : (singleToReg w).exp.toNat ≠ 0x1FFFF := fun same => finite.1 (BitVec.eq_of_toNat_eq same)
  have some : (singleToReg w).sig.toNat ≠ 0 := fun zero => nonzero (BitVec.eq_of_toNat_eq zero)
  have sig : 2 ^ 40 ≤ (singleToReg w).sig.toNat := by
    split at hsig <;> omega
  have exp : 65409 ≤ (singleToReg w).exp.toNat ∧ (singleToReg w).exp.toNat ≤ 65662 := by
    split at hexp
    · exact absurd hexp ones
    · split at hexp
      · next denormal =>
        rw [if_pos denormal] at hsig
        split at hexp <;> omega
      · omega
  have places : (singleToReg w).exact.k = ((singleToReg w).exp.toNat : ℤ) - 65598 := by
    have set : (singleToReg w).exp ≠ 0 := fun zero => by
      rw [zero] at exp
      exact absurd exp.1 (by decide)
    unfold FReg.exact
    rw [if_neg set]
    ring
  exact sized_of_exponent (l := -189) (h := 64) finite sig (by omega) (by omega)

variable {low high : ℤ} (sized : Sized b low high)

include sized in
theorem Sized.exact_m_pos : 0 < b.exact.m := by
  refine Nat.pos_of_ne_zero fun zero => ?_
  have least := sized.least
  rw [numberOf_eq_val, Exact.abs_val, zero, Nat.cast_zero, zero_mul] at least
  exact absurd least (not_le.mpr (by positivity))

/-! ### Rounded approximations -/

variable {env : FpEnv} (h : DeliversDenormals env)

include h sized in
theorem recip_rounded (range : high ≤ 2 - env.emin) (fits : recipOverflows env b = false) :
    approximatesReciprocal (env.round (Exact.one.div b.exact)).res b := by
  have top : env.leadExp (Exact.one.div b.exact) ≤ env.emax :=
    not_lt.mp fun above => Bool.false_ne_true (fits.symm.trans (env.round_of_above _ above))
  have notLarge : |b.exact.val| ≤ 2 ^ (2 - env.emin) := sized.most.trans (zpow_le_zpow_right₀ (by norm_num) range)
  obtain ⟨finite, near⟩ := env.recip_close h sized.exact_m_pos ((exact_m_lt b).le.trans (by norm_num)) top notLarge
  refine ⟨finite, lt_of_le_of_lt ?_ (rounding_bound (by norm_num))⟩
  rw [← Rat.cast_le (K := ℝ)] at near
  push_cast at near ⊢
  exact near.trans (by norm_num)

/-- The rounded reciprocal of a value near a root is a reciprocal of the root, nearly as good. -/
theorem recip_of_near {r z s : ℝ} (pos : 0 < s) (root : |z - s| ≤ s * (1 / 2 ^ 100)) (near : |r * z - 1| ≤ 1 / 2 ^ 16) :
    |r * s - 1| ≤ 1 / 2 ^ 15 := by
  have larger : s ≤ 2 * z := by
    have := (abs_le.mp root).1
    norm_num at this
    linarith
  have product : |r| * s ≤ 4 := by
    calc |r| * s ≤ |r| * (2 * z) := mul_le_mul_of_nonneg_left larger (abs_nonneg r)
      _ = 2 * |r * z| := by
        rw [abs_mul, abs_of_pos (by linarith : 0 < z)]
        ring
      _ ≤ 4 := by
        have : |r * z| ≤ 2 := by
          rw [abs_le] at near ⊢
          norm_num at near ⊢
          constructor <;> linarith
        linarith
  have shift : |r * (z - s)| ≤ 4 * (1 / 2 ^ 100) := by
    rw [abs_mul]
    calc |r| * |z - s| ≤ |r| * (s * (1 / 2 ^ 100)) := mul_le_mul_of_nonneg_left root (abs_nonneg r)
      _ = |r| * s * (1 / 2 ^ 100) := by ring
      _ ≤ 4 * (1 / 2 ^ 100) := mul_le_mul_of_nonneg_right product (by positivity)
  calc |r * s - 1| = |(r * z - 1) - r * (z - s)| := by congr 1; ring
    _ ≤ |r * z - 1| + |r * (z - s)| := abs_sub _ _
    _ ≤ 1 / 2 ^ 16 + 4 * (1 / 2 ^ 100) := add_le_add near shift
    _ ≤ 1 / 2 ^ 15 := by norm_num

include sized in
theorem Sized.sqrt_bounds {l u : ℤ} (positive : b.sign = false) (hl : 2 * l ≤ low) (hu : high ≤ 2 * u) :
    (2 : ℝ) ^ l ≤ √((numberOf b : ℚ) : ℝ) ∧ √((numberOf b : ℚ) : ℝ) ≤ 2 ^ u := by
  have value : |numberOf b| = numberOf b := by
    rw [numberOf_eq_val, b.exact.val_eq_abs, show b.exact.neg = false from positive, if_neg Bool.false_ne_true, abs_abs]
  have least := (zpow_le_zpow_right₀ (by norm_num) hl).trans sized.least
  have most := sized.most.trans (zpow_le_zpow_right₀ (by norm_num) hu)
  rw [value, ← Rat.cast_le (K := ℝ), mul_comm, zpow_mul] at least most
  push_cast at least most
  exact ⟨Real.le_sqrt_of_sq_le (by exact_mod_cast least), Real.sqrt_le_iff.mpr ⟨by positivity, by exact_mod_cast most⟩⟩

include h sized in
theorem rsqrt_rounded (positive : b.sign = false) (notSmall : 2 * (3 - env.emax) ≤ low) (notLarge : high ≤ 2 * (1 - env.emin)) :
    approximatesRsqrt (env.round (Exact.one.div b.exact.sqrt)).res b := by
  have close : |((b.exact.sqrt.val : ℚ) : ℝ) - √((numberOf b : ℚ) : ℝ)| ≤ √((numberOf b : ℚ) : ℝ) * (1 / 2 ^ 100) :=
    Exact.sqrt_close sized.exact_m_pos (exact_m_lt b) positive
  obtain ⟨lower, upper⟩ := sized.sqrt_bounds positive notSmall notLarge
  obtain ⟨zpos, few⟩ := Exact.sqrt_m sized.exact_m_pos (exact_m_lt b)
  have rootPos : 0 < √((numberOf b : ℚ) : ℝ) := lt_of_lt_of_le (by positivity) lower
  have size : |b.exact.sqrt.val| = b.exact.sqrt.val := by
    rw [b.exact.sqrt.val_eq_abs, show b.exact.sqrt.neg = false from rfl, if_neg Bool.false_ne_true, abs_abs]
  obtain ⟨below, above⟩ := abs_le.mp close
  have most : |b.exact.sqrt.val| ≤ 2 ^ (2 - env.emin) := by
    rw [size, ← Rat.cast_le (K := ℝ), show 2 - env.emin = 1 + (1 - env.emin) by ring, zpow_add₀ (by norm_num)]
    push_cast
    norm_num at above
    linarith
  have least : 2 ^ (2 - env.emax) ≤ |b.exact.sqrt.val| := by
    rw [size, ← Rat.cast_le (K := ℝ), show 2 - env.emax = -1 + (3 - env.emax) by ring, zpow_add₀ (by norm_num)]
    push_cast
    rw [zpow_neg_one]
    norm_num at below
    linarith
  obtain ⟨finite, near⟩ := env.recip_close h zpos few (FpEnv.recip_leadExp_le zpos few least) most
  refine ⟨finite, lt_of_le_of_lt (recip_of_near rootPos close ?_) (rounding_bound (by norm_num))⟩
  rw [← Rat.cast_le (K := ℝ)] at near
  push_cast at near
  exact near

/-! ### Delivered approximations -/

variable {raw : FReg}

include h sized in
theorem recipBounded_approximates (range : high ≤ 2 - env.emin) (fits : recipOverflows env b = false) :
    approximatesReciprocal (recipBounded env raw b) b := by
  unfold recipBounded
  split
  · next table =>
    rw [Bool.and_eq_true, decide_eq_true_eq] at table
    obtain ⟨normal, near⟩ := table
    exact recip_table normal near
  · exact recip_rounded sized h range fits

include h sized in
theorem rsqrtBounded_approximates (positive : b.sign = false) (notSmall : 2 * (3 - env.emax) ≤ low) (notLarge : high ≤ 2 * (1 - env.emin)) :
    approximatesRsqrt (rsqrtBounded env raw b) b := by
  unfold rsqrtBounded
  split
  · next table =>
    rw [Bool.and_eq_true, Bool.and_eq_true, decide_eq_true_eq, Bool.not_eq_true'] at table
    obtain ⟨⟨normal, sign⟩, near⟩ := table
    exact rsqrt_table normal sign near
  · exact rsqrt_rounded sized h positive notSmall notLarge

end

end Sys2Proof.Forms

end

section

open Sys2Proof Machine Forms

/-- Settles O56: a table value within the bound as its product shows, else the rounded exact approximation, in both formats. -/
theorem approximationErrorsAreBounded : Obligations.ApproximationErrorsAreBounded := by
  refine ⟨fun env a b raw far none => ?_, fun env a raw w far => ?_, fun env b raw far none => ?_, fun env raw w far => ?_⟩
  · obtain ⟨-, ⟨finite, nonzero⟩, inRange⟩ := (quotient_eq_none_iff env a b _).mp none
    exact recipBounded_approximates (register_sized finite nonzero) FpEnv.register_delivers (by decide) (Bool.or_eq_false_iff.mp inRange).2
  · intro b none
    obtain ⟨-, ⟨finite, nonzero⟩, inRange⟩ := (quotient_eq_none_iff env a b _).mp none
    exact recipBounded_approximates (single_sized finite nonzero) FpEnv.singles_delivers (by decide) (Bool.or_eq_false_iff.mp inRange).2
  · obtain ⟨finite, nonzero, positive, -⟩ := (root_eq_none_iff env b _).mp none
    exact rsqrtBounded_approximates (register_sized finite nonzero) FpEnv.register_delivers positive (by decide) (by decide)
  · intro b none
    obtain ⟨finite, nonzero, positive, -⟩ := (root_eq_none_iff env b _).mp none
    exact rsqrtBounded_approximates (single_sized finite nonzero) FpEnv.singles_delivers positive (by decide) (by decide)

end
